-- ==== Sys2Proof/Word.lean ====
section
/-! DEFINITION. The words of the machine and the plain data of the happenings: host accesses (03 R46-R53), link frames
(02 R29-R30), packets (02 R33), Current records (05 R81) and recovery streams (05 R87). -/

namespace Sys2Proof

/-- One byte. -/
abbrev Byte := BitVec 8
/-- A 64-bit word: scalar registers, program counters, control registers. -/
abbrev W64 := BitVec 64
/-- A 32-bit word: one vector register of one lane, one instruction. -/
abbrev W32 := BitVec 32
/-- A register field of an instruction (14 R245). -/
abbrev Fld := BitVec 7

/-- What a host access reaches: the device windows, the boot store that the host die keeps (03 R54 bit 5, R59), host memory by
its address, or the host-memory page of frame n at 65536 n (11 R208) (DESIGN CHOICE, log 91). -/
inductive HostTarget where
  | window
  | bootStore
  | memory
  | page
  deriving DecidableEq, Repr

/-- A host access (03 R46-R48): the module it enters by, the offset from the window base (for the boot store and host memory
their own offsets), the bytes written (for a read, as many bytes as are read), the byte enables, on where none is given, and
what it reaches. -/
structure HostAccess where
  hostModule : BitVec 1
  offset : Nat
  data : List Byte
  mask : List Bool := []
  target : HostTarget := .window
  deriving DecidableEq, Repr

/-- Whether byte i of an access is enabled. -/
def HostAccess.enabled (h : HostAccess) (i : Nat) : Bool := (h.mask[i]?).getD true

/-- Whether every byte of an access is enabled. -/
def HostAccess.enables (h : HostAccess) : Bool := (List.range h.data.length).all h.enabled

/-- What a boot finds: the cores that fail the self-test, each with its die, and the host modules that train (01 R12, R23). -/
structure BootTest where
  cores : List (Nat × Nat)
  trains : BitVec 2
  deriving DecidableEq, Repr

/-- An object, with the chip at whose Weir its page fault was recorded (10 R178). -/
structure ObjectAt where
  home : BitVec 12
  object : BitVec 28
  deriving DecidableEq, Repr

/-- The kind of a page fault, with the core recorded for the requester of another chip (10 R178). -/
structure FaultFor where
  kind : Nat
  core : Nat
  deriving DecidableEq, Repr

/-- An append that another chip's Levee sends to a denial log (04 R70): the log's capability and the 32 bytes of the entry
(DESIGN CHOICE, log 5). -/
structure LogAppend where
  home : BitVec 12
  object : BitVec 28
  base : BitVec 40
  length : BitVec 40
  entry : List Byte
  deriving DecidableEq, Repr

/-- A link frame's control word and the outcome of its CRC-32 are in its 72 bytes (02 R29, R30): 64 bytes of flit, then
the control word, then the CRC. -/
structure Frame where
  flit : List Byte
  control : BitVec 32
  crc : BitVec 32
  deriving DecidableEq, Repr

/-- A packet, by the fields of its header flit (02 R33), its byte-enable flit and its payload. -/
structure Packet where
  opcode : BitVec 6
  cls : BitVec 2
  dst : BitVec 12
  src : BitVec 12
  seq : BitVec 16
  plane : BitVec 2
  flits : BitVec 3
  mask : BitVec 8
  epoch : BitVec 3
  offset : BitVec 40
  ptag : BitVec 20
  release : Bool
  scope : BitVec 2
  enabled : Bool
  object : BitVec 28
  context : BitVec 20
  tag : BitVec 16
  grantHome : BitVec 12
  grantObject : BitVec 28
  keyGen : BitVec 8
  core : BitVec 8
  status : BitVec 8
  capTags : BitVec 16
  poison : BitVec 8
  group : BitVec 12
  version : BitVec 16
  oper : BitVec 8
  etype : BitVec 8
  redId : BitVec 24
  contributors : BitVec 12
  inline0 : W64
  inline1 : W64
  byteEnables : BitVec 256
  payload : List Byte
  deriving DecidableEq, Repr

/-- A packet with every field zero. -/
def Packet.zero : Packet :=
  { opcode := 0, cls := 0, dst := 0, src := 0, seq := 0, plane := 0, flits := 0, mask := 0, epoch := 0, offset := 0,
    ptag := 0, release := false, scope := 0, enabled := false, object := 0, context := 0, tag := 0, grantHome := 0,
    grantObject := 0, keyGen := 0, core := 0, status := 0, capTags := 0, poison := 0, group := 0, version := 0,
    oper := 0, etype := 0, redId := 0, contributors := 0, inline0 := 0, inline1 := 0, byteEnables := 0, payload := [] }

/-- A sequence window: the other chip, the plane and the traffic class (02 R37). -/
structure PairKey where
  chip : BitVec 12
  plane : BitVec 2
  cls : BitVec 2
  deriving DecidableEq, Repr

/-- A Current record (05 R81): 64 bytes, little-endian; bit `8 * k` of `payload` is bit 0 of byte 0x10 + k. -/
structure CurRec where
  seq : W64
  typ : BitVec 8
  version : BitVec 8
  src : BitVec 16
  ctx : BitVec 32
  payload : BitVec 384
  deriving DecidableEq, Repr

/-- One row of a Confluence table in a snapshot (05 R87): table, row index, row bytes. -/
structure RowRec where
  table : Nat
  index : Nat
  bytes : List Byte
  deriving DecidableEq, Repr

/-- A snapshot stream as it arrived (05 R87): header fields, rows, and the trailing SHA-384. -/
structure SnapStream where
  magic : BitVec 32
  version : BitVec 32
  opening : W64
  params : BitVec 128
  digest : BitVec 128
  count : W64
  rows : List RowRec
  hash : BitVec 384
  deriving DecidableEq, Repr

/-- A switch attestation report (02 R44). -/
structure SwitchReport where
  switchId : BitVec 32
  plane : BitVec 32
  nonce : List Byte
  measurement : List Byte
  kemKey : List Byte
  dsaKey : List Byte
  signature : List Byte
  deriving DecidableEq, Repr

/-- What failed a check of 13 R236: the unit kind and check codes of R238, the unit number, the frame with its tier, the sector, and
whether the single repeat passed (`some true`), failed (`some false`) or has no source left (`none`), and what holds the
sector: a block for the stash, a group for the RCC and the instruction cache (whose sector is a context line). -/
structure CheckFail where
  die : BitVec 2
  unitKind : BitVec 8
  check : BitVec 8
  unitNum : BitVec 16
  frame : Option (BitVec 31)
  tier : BitVec 2 := 1
  sector : BitVec 16
  corrected : Bool
  retry : Option Bool
  target : Nat
  deriving DecidableEq, Repr

/-- The stages of a context fault (09 R154). -/
inductive FaultStage where
  | raised
  | provided
  | refused
  deriving DecidableEq, Repr

/-- How a scale-out transport ended a message that the chip sent (19 R350). -/
inductive SendEnd where
  | acked
  | nak
  | failed
  deriving DecidableEq, Repr

/-- The little-endian value of a list of bytes. -/
def leNat : List Byte → Nat
  | [] => 0
  | b :: bs => b.toNat + 256 * leNat bs

/-- The `n` little-endian bytes of a number. -/
def leBytes : Nat → Nat → List Byte
  | 0, _ => []
  | n + 1, v => BitVec.ofNat 8 v :: leBytes n (v / 256)

/-- Bits [hi:lo] of a word as a number. -/
def bits {n : Nat} (w : BitVec n) (hi lo : Nat) : Nat :=
  (w.toNat >>> lo) % 2 ^ (hi + 1 - lo)

end Sys2Proof
end

