-- ==== Sys2Proof/Machine/Sha384.lean ====
section
/-! DEFINITION. SHA-384 (FIPS 180-4), which measurements, digests and snapshot hashes use (03 R61, 05 R87, R88, 06 R111),
and the CRC-32 of link frames (02 R29). -/

namespace Sys2Proof.Machine

/-- Round constants 0 to 15. -/
def shaK0 : List W64 :=
  [0x428A2F98D728AE22, 0x7137449123EF65CD, 0xB5C0FBCFEC4D3B2F, 0xE9B5DBA58189DBBC,
   0x3956C25BF348B538, 0x59F111F1B605D019, 0x923F82A4AF194F9B, 0xAB1C5ED5DA6D8118,
   0xD807AA98A3030242, 0x12835B0145706FBE, 0x243185BE4EE4B28C, 0x550C7DC3D5FFB4E2,
   0x72BE5D74F27B896F, 0x80DEB1FE3B1696B1, 0x9BDC06A725C71235, 0xC19BF174CF692694]

/-- Round constants 16 to 31. -/
def shaK1 : List W64 :=
  [0xE49B69C19EF14AD2, 0xEFBE4786384F25E3, 0x0FC19DC68B8CD5B5, 0x240CA1CC77AC9C65,
   0x2DE92C6F592B0275, 0x4A7484AA6EA6E483, 0x5CB0A9DCBD41FBD4, 0x76F988DA831153B5,
   0x983E5152EE66DFAB, 0xA831C66D2DB43210, 0xB00327C898FB213F, 0xBF597FC7BEEF0EE4,
   0xC6E00BF33DA88FC2, 0xD5A79147930AA725, 0x06CA6351E003826F, 0x142929670A0E6E70]

/-- Round constants 32 to 47. -/
def shaK2 : List W64 :=
  [0x27B70A8546D22FFC, 0x2E1B21385C26C926, 0x4D2C6DFC5AC42AED, 0x53380D139D95B3DF,
   0x650A73548BAF63DE, 0x766A0ABB3C77B2A8, 0x81C2C92E47EDAEE6, 0x92722C851482353B,
   0xA2BFE8A14CF10364, 0xA81A664BBC423001, 0xC24B8B70D0F89791, 0xC76C51A30654BE30,
   0xD192E819D6EF5218, 0xD69906245565A910, 0xF40E35855771202A, 0x106AA07032BBD1B8]

/-- Round constants 48 to 63. -/
def shaK3 : List W64 :=
  [0x19A4C116B8D2D0C8, 0x1E376C085141AB53, 0x2748774CDF8EEB99, 0x34B0BCB5E19B48A8,
   0x391C0CB3C5C95A63, 0x4ED8AA4AE3418ACB, 0x5B9CCA4F7763E373, 0x682E6FF3D6B2B8A3,
   0x748F82EE5DEFB2FC, 0x78A5636F43172F60, 0x84C87814A1F0AB72, 0x8CC702081A6439EC,
   0x90BEFFFA23631E28, 0xA4506CEBDE82BDE9, 0xBEF9A3F7B2C67915, 0xC67178F2E372532B]

/-- Round constants 64 to 79. -/
def shaK4 : List W64 :=
  [0xCA273ECEEA26619C, 0xD186B8C721C0C207, 0xEADA7DD6CDE0EB1E, 0xF57D4F7FEE6ED178,
   0x06F067AA72176FBA, 0x0A637DC5A2C898A6, 0x113F9804BEF90DAE, 0x1B710B35131C471B,
   0x28DB77F523047D84, 0x32CAAB7B40C72493, 0x3C9EBE0A15C9BEBC, 0x431D67C49C100D4C,
   0x4CC5D4BECB3E42B6, 0x597F299CFC657E2A, 0x5FCB6FAB3AD6FAEC, 0x6C44198C4A475817]

/-- The eighty round constants. -/
def shaK : List W64 := shaK0 ++ shaK1 ++ shaK2 ++ shaK3 ++ shaK4

/-- The initial hash value of SHA-384. -/
def shaInit : List W64 :=
  [0xCBBB9D5DC1059ED8, 0x629A292A367CD507, 0x9159015A3070DD17, 0x152FECD8F70E5939,
   0x67332667FFC00B31, 0x8EB44A8768581511, 0xDB0C2E0D64F98FA7, 0x47B5481DBEFA4FA4]

/-- Rotate right. -/
def ror64 (x : W64) (n : Nat) : W64 := x.rotateRight n

/-- The big-endian word of eight bytes. -/
def beWord (bs : List Byte) : W64 := bs.foldl (fun w b => (w <<< 8) ||| b.setWidth 64) 0

/-- The big-endian bytes of a word. -/
def beBytes (w : W64) : List Byte := (List.range 8).map fun i => (w >>> (8 * (7 - i))).setWidth 8

/-- The sixteen words of a 128-byte block. -/
def blockWords (bs : List Byte) : List W64 := (List.range 16).map fun i => beWord ((bs.drop (8 * i)).take 8)

/-- The message schedule: the last sixteen words, newest first, and the words so far in reverse. -/
def schedule : Nat → List W64 → List W64
  | 0, ws => ws
  | n + 1, ws =>
    let g (i : Nat) : W64 := ws.getD i 0
    let s0 := ror64 (g 14) 1 ^^^ ror64 (g 14) 8 ^^^ (g 14 >>> 7)
    let s1 := ror64 (g 1) 19 ^^^ ror64 (g 1) 61 ^^^ (g 1 >>> 6)
    schedule n ((g 15 + s0 + g 6 + s1) :: ws)

/-- One round on the working variables. -/
def shaRound (h : List W64) (kw : W64) : List W64 :=
  match h with
  | [a, b, c, d, e, f, g, x] =>
    let s1 := ror64 e 14 ^^^ ror64 e 18 ^^^ ror64 e 41
    let t1 := x + s1 + ((e &&& f) ^^^ (~~~e &&& g)) + kw
    let s0 := ror64 a 28 ^^^ ror64 a 34 ^^^ ror64 a 39
    let t2 := s0 + ((a &&& b) ^^^ (a &&& c) ^^^ (b &&& c))
    [t1 + t2, a, b, c, d + t1, e, f, g]
  | _ => h

/-- The compression of one block. -/
def shaBlock (h : List W64) (bs : List Byte) : List W64 :=
  let ws := (schedule 64 (blockWords bs).reverse).reverse
  let r := (List.zipWith (fun k w => k + w) shaK ws).foldl shaRound h
  List.zipWith (fun a b => a + b) h r

/-- The padded message. -/
def shaPad (m : List Byte) : List Byte :=
  let zeros := (128 - (m.length + 17) % 128) % 128
  m ++ [0x80#8] ++ List.replicate (zeros + 8) 0 ++ beBytes (BitVec.ofNat 64 (8 * m.length))

/-- Compress n blocks. -/
def shaBlocks : Nat → List W64 → List Byte → List W64
  | 0, h, _ => h
  | n + 1, h, bs => shaBlocks n (shaBlock h (bs.take 128)) (bs.drop 128)

/-- SHA-384: 48 bytes. -/
def sha384 (m : List Byte) : List Byte :=
  let p := shaPad m
  ((shaBlocks (p.length / 128) shaInit p).take 6).flatMap beBytes

/-- The digest as a number, its first byte least significant. -/
def shaNat (m : List Byte) : BitVec 384 := BitVec.ofNat 384 (leNat (sha384 m))

/-- One bit step of the reflected CRC-32 with a polynomial. -/
def crcStep (poly : BitVec 32) (c : BitVec 32) : BitVec 32 := if c.getLsbD 0 then (c >>> 1) ^^^ poly else c >>> 1

/-- The CRC-32 of IEEE 802.3 of a list of bytes. -/
def crc32 (bs : List Byte) : BitVec 32 :=
  ~~~(bs.foldl (fun c b => (List.range 8).foldl (fun c _ => crcStep 0xEDB88320 c) (c ^^^ b.setWidth 32)) 0xFFFFFFFF#32)

end Sys2Proof.Machine
end

