-- ==== Sys2Proof/Machine/Crypto.lean ====
section
/-! DEFINITION. The other algorithms that the manual names: AES-256 with its CMAC, XTS, GCM and key-wrap modes (04 R71,
R72, R74, R79), HMAC, HKDF and HMAC_DRBG over SHA-384 (03 R66; 04 R71, R72), and ML-KEM-1024 (FIPS 203; 04 R72). The
standards fix their bytes. -/

namespace Sys2Proof.Machine

/-- The bytes of an ASCII text. -/
def ascii (t : String) : List Byte := t.toList.map fun c => BitVec.ofNat 8 c.toNat

/-- Exclusive or of two lists of bytes. -/
def xorBytes (a b : List Byte) : List Byte := List.zipWith (· ^^^ ·) a b

/-- The big-endian value of bytes. -/
def beNat (bs : List Byte) : Nat := bs.foldl (fun n b => 256 * n + b.toNat) 0

/-- The `n` big-endian bytes of a number. -/
def beN (n v : Nat) : List Byte := (leBytes n v).reverse

/-! ### AES-256 (FIPS 197) -/

/-- Multiplication by x in the field of AES. -/
def xtime (b : Byte) : Byte := if b.getLsbD 7 then (b <<< 1) ^^^ 0x1B else b <<< 1

/-- Multiplication in the field of AES, by the low n bits of the second factor. -/
def gmulN : Nat → Byte → Byte → Byte
  | 0, _, _ => 0
  | n + 1, a, b => (if b.getLsbD 0 then a else 0) ^^^ gmulN n (xtime a) (b >>> 1)

/-- Multiplication in the field of AES. -/
def gmul (a b : Byte) : Byte := gmulN 8 a b

/-- The inverse in the field of AES, zero for zero: the power 254. -/
def ginv (a : Byte) : Byte :=
  let a2 := gmul a a
  let a4 := gmul a2 a2
  let a8 := gmul a4 a4
  let a16 := gmul a8 a8
  let a32 := gmul a16 a16
  let a64 := gmul a32 a32
  let a128 := gmul a64 a64
  gmul a128 (gmul a64 (gmul a32 (gmul a16 (gmul a8 (gmul a4 a2)))))

/-- One entry of the S-box. -/
def sboxOf (a : Byte) : Byte :=
  let b := ginv a
  b ^^^ b.rotateLeft 1 ^^^ b.rotateLeft 2 ^^^ b.rotateLeft 3 ^^^ b.rotateLeft 4 ^^^ 0x63

/-- One entry of the inverse S-box. -/
def invSboxOf (a : Byte) : Byte := ginv (a.rotateLeft 1 ^^^ a.rotateLeft 3 ^^^ a.rotateLeft 6 ^^^ 0x05)

/-- The key schedule: words (four bytes each), newest first; w is the number of the next word. -/
def expandKey : Nat → Nat → List (List Byte) → List (List Byte)
  | 0, _, ws => ws
  | n + 1, w, ws =>
    let last := ws.headD []
    let t :=
      if w % 8 = 0 then
        let r := (last.drop 1 ++ last.take 1).map sboxOf
        xorBytes r [(List.replicate (w / 8 - 1) ()).foldl (fun b _ => xtime b) 1, 0, 0, 0]
      else if w % 8 = 4 then last.map sboxOf
      else last
    expandKey n (w + 1) (xorBytes t (ws.getD 7 []) :: ws)

/-- Cut bytes into pieces of k, n of them. -/
def pieces : Nat → Nat → List Byte → List (List Byte)
  | 0, _, _ => []
  | n + 1, k, bs => bs.take k :: pieces n k (bs.drop k)

/-- The fifteen round keys of AES-256. -/
def roundKeys (key : List Byte) : List (List Byte) :=
  pieces 15 16 ((expandKey 52 8 (pieces 8 4 key).reverse).reverse).flatten

/-- Take a state's bytes by an index map. -/
def pick16 (f : Nat → Nat) (s : List Byte) : List Byte := (List.range 16).map fun i => s.getD (f i) 0

/-- Multiply each column by the circulant matrix of a first row. -/
def mixWith (r : List Byte) (s : List Byte) : List Byte :=
  (List.range 16).map fun i =>
    (List.range 4).foldl (fun a j => a ^^^ gmul (r.getD ((j + 4 - i % 4) % 4) 0) (s.getD (4 * (i / 4) + j) 0)) 0

/-- One middle round of encryption. -/
def aesRound (s k : List Byte) : List Byte :=
  xorBytes (mixWith [2, 3, 1, 1] (pick16 (fun i => (i + 4 * (i % 4)) % 16) (s.map sboxOf))) k

/-- AES-256 encryption of one block under expanded keys. -/
def aesEncWith (ks : List (List Byte)) (b : List Byte) : List Byte :=
  let s := xorBytes b (ks.headD [])
  let s := ((ks.drop 1).take 13).foldl aesRound s
  xorBytes (pick16 (fun i => (i + 4 * (i % 4)) % 16) (s.map sboxOf)) (ks.getD 14 [])

/-- One middle round of decryption. -/
def aesUnround (s k : List Byte) : List Byte :=
  mixWith [14, 11, 13, 9] (xorBytes ((pick16 (fun i => (i + 12 * (i % 4)) % 16) s).map invSboxOf) k)

/-- AES-256 decryption of one block under expanded keys. -/
def aesDecWith (ks : List (List Byte)) (b : List Byte) : List Byte :=
  let s := xorBytes b (ks.getD 14 [])
  let s := ((ks.drop 1).take 13).reverse.foldl aesUnround s
  xorBytes ((pick16 (fun i => (i + 12 * (i % 4)) % 16) s).map invSboxOf) (ks.headD [])

/-- AES-256 encryption of one block. -/
def aesEnc (key b : List Byte) : List Byte := aesEncWith (roundKeys key) b

/-- AES-256 decryption of one block. -/
def aesDec (key b : List Byte) : List Byte := aesDecWith (roundKeys key) b

/-! ### CMAC (SP 800-38B), XTS (IEEE 1619), GCM (SP 800-38D) and key wrap (RFC 3394) -/

/-- Doubling of a block, first byte most significant. -/
def doubleBe (b : List Byte) : List Byte :=
  let n := 2 * beNat b
  beN 16 (if 2 ^ 128 ≤ n then (n - 2 ^ 128) ^^^ 0x87 else n)

/-- AES-256-CMAC. -/
def cmac (key msg : List Byte) : List Byte :=
  let ks := roundKeys key
  let k1 := doubleBe (aesEncWith ks (List.replicate 16 0))
  let n := if msg = [] then 1 else (msg.length + 15) / 16
  let whole := msg.length = 16 * n
  let last := msg.drop (16 * (n - 1))
  let last := if whole then xorBytes last k1
    else xorBytes ((last ++ [0x80#8] ++ List.replicate 16 0).take 16) (doubleBe k1)
  ((pieces (n - 1) 16 msg) ++ [last]).foldl (fun c b => aesEncWith ks (xorBytes c b)) (List.replicate 16 0)

/-- Doubling of an XTS tweak, first byte least significant. -/
def doubleLe (b : List Byte) : List Byte :=
  let n := 2 * leNat b
  leBytes 16 (if 2 ^ 128 ≤ n then (n - 2 ^ 128) ^^^ 0x87 else n)

/-- One XTS block. -/
def xtsBlock (f : List Byte → List Byte) (t b : List Byte) : List Byte := xorBytes (f (xorBytes b t)) t

/-- XTS of one data unit of two blocks: the block function under key 1, key 2 and the tweak (04 R74). -/
def xts2 (f : List Byte → List Byte) (key2 : List Byte) (tweak : Nat) (unit : List Byte) : List Byte :=
  let t := aesEnc key2 (leBytes 16 tweak)
  xtsBlock f t (unit.take 16) ++ xtsBlock f (doubleLe t) (unit.drop 16)

/-- AES-256-XTS encryption of a 32-byte data unit. -/
def xtsEnc (key1 key2 : List Byte) (tweak : Nat) (unit : List Byte) : List Byte := xts2 (aesEnc key1) key2 tweak unit

/-- AES-256-XTS decryption of a 32-byte data unit. -/
def xtsDec (key1 key2 : List Byte) (tweak : Nat) (unit : List Byte) : List Byte := xts2 (aesDec key1) key2 tweak unit

/-- Multiplication in the field of GCM: n bits of the first factor, most significant first, on the running product. -/
def ghashMulN : Nat → Nat → Nat → Nat → Nat
  | 0, _, _, z => z
  | n + 1, x, v, z =>
    let z := if x / 2 ^ n % 2 = 1 then z ^^^ v else z
    ghashMulN n x (if v % 2 = 1 then (v / 2) ^^^ (0xE1 * 2 ^ 120) else v / 2) z

/-- GHASH of whole blocks. -/
def ghash (h : Nat) (blocks : List (List Byte)) : Nat :=
  blocks.foldl (fun y b => ghashMulN 128 (y ^^^ beNat b) h 0) 0

/-- Bytes filled with zeros to whole blocks, cut into them. -/
def padBlocks (m : List Byte) : List (List Byte) :=
  pieces ((m.length + 15) / 16) 16 (m ++ List.replicate ((16 - m.length % 16) % 16) 0)

/-- The counter-mode text of GCM from a 96-bit IV: block i takes counter i + 2. -/
def gcmText (ks : List (List Byte)) (iv m : List Byte) : List Byte :=
  ((pieces ((m.length + 15) / 16) 16 m).zipIdx.map fun e => xorBytes e.1 (aesEncWith ks (iv ++ beN 4 (e.2 + 2)))).flatten

/-- The tag of GCM over additional data and ciphertext. -/
def gcmTag (ks : List (List Byte)) (iv aad c : List Byte) : List Byte :=
  let h := beNat (aesEncWith ks (List.replicate 16 0))
  let y := ghash h (padBlocks aad ++ padBlocks c ++ [beN 8 (8 * aad.length) ++ beN 8 (8 * c.length)])
  xorBytes (beN 16 y) (aesEncWith ks (iv ++ beN 4 1))

/-- AES-256-GCM: the ciphertext and the 128-bit tag. -/
def gcmSeal (key iv aad m : List Byte) : List Byte × List Byte :=
  let ks := roundKeys key
  let c := gcmText ks iv m
  (c, gcmTag ks iv aad c)

/-- AES-256-GCM: the plaintext when the tag verifies. -/
def gcmOpen (key iv aad c tag : List Byte) : Option (List Byte) :=
  let ks := roundKeys key
  if gcmTag ks iv aad c = tag then some (gcmText ks iv c) else none

/-- One step of the key unwrap of RFC 3394: t counts down. -/
def unwrapStep (ks : List (List Byte)) : Nat → List Byte → List (List Byte) → List Byte × List (List Byte)
  | 0, a, r => (a, r)
  | t + 1, a, r =>
    let n := r.length
    let i := t % n
    let b := aesDecWith ks (xorBytes a (beN 8 (t + 1)) ++ r.getD i [])
    unwrapStep ks t (b.take 8) (r.set i (b.drop 8))

/-- AES-256 key unwrap (RFC 3394): none when the integrity check fails. -/
def keyUnwrap (kek wrapped : List Byte) : Option (List Byte) :=
  let n := wrapped.length / 8 - 1
  let r := unwrapStep (roundKeys kek) (6 * n) (wrapped.take 8) (pieces n 8 (wrapped.drop 8))
  if r.1 = List.replicate 8 0xA6#8 then some r.2.flatten else none

/-- One step of the key wrap of RFC 3394: n steps from count t. -/
def wrapStep (ks : List (List Byte)) : Nat → Nat → List Byte → List (List Byte) → List Byte × List (List Byte)
  | 0, _, a, r => (a, r)
  | n + 1, t, a, r =>
    let i := t % r.length
    let b := aesEncWith ks (a ++ r.getD i [])
    wrapStep ks n (t + 1) (xorBytes (b.take 8) (beN 8 (t + 1))) (r.set i (b.drop 8))

/-- AES-256 key wrap (RFC 3394). -/
def keyWrap (kek plain : List Byte) : List Byte :=
  let n := plain.length / 8
  let r := wrapStep (roundKeys kek) (6 * n) 0 (List.replicate 8 0xA6#8) (pieces n 8 plain)
  r.1 ++ r.2.flatten

/-! ### HMAC, HKDF (RFC 5869) and HMAC_DRBG (SP 800-90A) over SHA-384 -/

/-- HMAC-SHA-384. -/
def hmac (key msg : List Byte) : List Byte :=
  let k := if 128 < key.length then sha384 key else key
  let k := (k ++ List.replicate 128 0).take 128
  sha384 (k.map (· ^^^ 0x5C) ++ sha384 (k.map (· ^^^ 0x36) ++ msg))

/-- The blocks of an HKDF expansion: n of them, from number i, after the block t. -/
def hkdfBlocks (prk info : List Byte) : Nat → Nat → List Byte → List Byte
  | 0, _, _ => []
  | n + 1, i, t =>
    let t := hmac prk (t ++ info ++ [BitVec.ofNat 8 i])
    t ++ hkdfBlocks prk info n (i + 1) t

/-- HKDF-SHA-384 without salt: n bytes. -/
def hkdf (ikm info : List Byte) (n : Nat) : List Byte :=
  (hkdfBlocks (hmac (List.replicate 48 0) ikm) info ((n + 47) / 48) 1 []).take n

/-- The key and value of an HMAC_DRBG after instantiation on an entropy input, no nonce and no personalization string. -/
def drbg (entropy : List Byte) : List Byte × List Byte :=
  let k0 := List.replicate 48 (0 : Byte)
  let v0 := List.replicate 48 (1 : Byte)
  let k1 := hmac k0 (v0 ++ [0] ++ entropy)
  let v1 := hmac k1 v0
  let k2 := hmac k1 (v1 ++ [1] ++ entropy)
  (k2, hmac k2 v1)

/-! ### Keccak (FIPS 202) -/

/-- The rotations of lane x + 5 y. -/
def keccakRot : List Nat := [0, 1, 62, 28, 27, 36, 44, 6, 55, 20, 3, 10, 43, 25, 39, 41, 45, 15, 21, 8, 18, 2, 61, 56, 14]

/-- One step of the round-constant register. -/
def lfsrStep (r : Byte) : Byte := if r.getLsbD 7 then (r <<< 1) ^^^ 0x71 else r <<< 1

/-- The round constant from the register: bit 2^j - 1 is the register's low bit at step j. -/
def keccakConst (r : Byte) : W64 × Byte :=
  (List.range 7).foldl (fun a j => (if a.2.getLsbD 0 then a.1 ||| (1#64 <<< (2 ^ j - 1)) else a.1, lfsrStep a.2)) (0, r)

/-- One round on 25 lanes. -/
def keccakRound (a : List W64) (rc : W64) : List W64 :=
  let l (m : List W64) (x y : Nat) : W64 := m.getD (x % 5 + 5 * (y % 5)) 0
  let c := (List.range 5).map fun x => l a x 0 ^^^ l a x 1 ^^^ l a x 2 ^^^ l a x 3 ^^^ l a x 4
  let d := (List.range 5).map fun x => c.getD ((x + 4) % 5) 0 ^^^ (c.getD ((x + 1) % 5) 0).rotateLeft 1
  let a := (List.range 25).map fun i => a.getD i 0 ^^^ d.getD (i % 5) 0
  let b := (List.range 25).map fun i =>
    let k := (i % 5 + 3 * (i / 5)) % 5 + 5 * (i % 5)
    (a.getD k 0).rotateLeft (keccakRot.getD k 0)
  let a := (List.range 25).map fun i => l b i (i / 5) ^^^ (~~~(l b (i + 1) (i / 5)) &&& l b (i + 2) (i / 5))
  a.zipIdx.map fun e => if e.2 = 0 then e.1 ^^^ rc else e.1

/-- n rounds from a register. -/
def keccakRounds : Nat → Byte → List W64 → List W64
  | 0, _, a => a
  | n + 1, r, a => let c := keccakConst r; keccakRounds n c.2 (keccakRound a c.1)

/-- The permutation Keccak-f[1600]. -/
def keccakF (a : List W64) : List W64 := keccakRounds 24 1 a

/-- Absorb n blocks of a rate. -/
def absorb (rate : Nat) : Nat → List W64 → List Byte → List W64
  | 0, a, _ => a
  | n + 1, a, m =>
    let ws := (pieces (rate / 8) 8 (m.take rate)).map fun b => BitVec.ofNat 64 (leNat b)
    absorb rate n (keccakF (a.zipIdx.map fun e => e.1 ^^^ ws.getD e.2 0)) (m.drop rate)

/-- Squeeze n blocks of a rate. -/
def squeeze (rate : Nat) : Nat → List W64 → List Byte
  | 0, _ => []
  | n + 1, a => (a.flatMap fun w => leBytes 8 w.toNat).take rate ++ squeeze rate n (keccakF a)

/-- The sponge with a rate and a domain suffix: n bytes. -/
def keccak (rate : Nat) (suffix : Byte) (m : List Byte) (n : Nat) : List Byte :=
  let k := m.length / rate + 1
  let z := k * rate - m.length
  let pad := if z = 1 then [suffix ||| 0x80] else suffix :: List.replicate (z - 2) 0 ++ [0x80]
  (squeeze rate ((n + rate - 1) / rate) (absorb rate k (List.replicate 25 0) (m ++ pad))).take n

/-- SHA3-512. -/
def sha3_512 (m : List Byte) : List Byte := keccak 72 0x06 m 64
/-- SHA3-256. -/
def sha3_256 (m : List Byte) : List Byte := keccak 136 0x06 m 32
/-- SHAKE128. -/
def shake128 (m : List Byte) (n : Nat) : List Byte := keccak 168 0x1F m n
/-- SHAKE256. -/
def shake256 (m : List Byte) (n : Nat) : List Byte := keccak 136 0x1F m n

/-! ### ML-KEM-1024 (FIPS 203): k = 4, eta 2, du 11, dv 5 -/

/-- Polynomials: 256 coefficients modulo 3,329. -/
abbrev Poly := List Nat

/-- A power modulo 3,329. -/
def powQ (b : Nat) : Nat → Nat
  | 0 => 1
  | n + 1 => b * powQ b n % 3329

/-- Reverse the low n bits of a number. -/
def revBits : Nat → Nat → Nat
  | 0, _ => 0
  | n + 1, v => v % 2 * 2 ^ n + revBits n (v / 2)

/-- One layer of the transform over blocks of 2 len, with the number of the first root. -/
def nttLayer : Nat → Nat → Nat → Poly → Poly
  | 0, _, _, _ => []
  | n + 1, i, len, f =>
    let z := powQ 17 (revBits 7 i)
    let a := f.take len
    let b := ((f.drop len).take len).map fun x => z * x % 3329
    List.zipWith (fun x y => (x + y) % 3329) a b ++ List.zipWith (fun x y => (x + 3329 - y) % 3329) a b
      ++ nttLayer n (i + 1) len (f.drop (2 * len))

/-- The number-theoretic transform. -/
def ntt (f : Poly) : Poly := (List.range 7).foldl (fun f l => nttLayer (2 ^ l) (2 ^ l) (2 ^ (7 - l)) f) f

/-- One layer of the inverse transform. -/
def invLayer : Nat → Nat → Nat → Poly → Poly
  | 0, _, _, _ => []
  | n + 1, i, len, f =>
    let z := powQ 17 (revBits 7 i)
    let a := f.take len
    let b := (f.drop len).take len
    List.zipWith (fun x y => (x + y) % 3329) a b ++ List.zipWith (fun x y => z * (y + 3329 - x) % 3329) a b
      ++ invLayer n (i - 1) len (f.drop (2 * len))

/-- The inverse transform. -/
def invNtt (f : Poly) : Poly :=
  ((List.range 7).foldl (fun f l => invLayer (2 ^ (6 - l)) (2 ^ (7 - l) - 1) (2 ^ (l + 1)) f) f).map fun x => 3303 * x % 3329

/-- Products of pairs of transformed polynomials from pair number i. -/
def mulPairs : Nat → Nat → Poly → Poly → Poly
  | 0, _, _, _ => []
  | n + 1, i, f, g =>
    let z := powQ 17 (2 * revBits 7 i + 1)
    let a0 := f.getD 0 0
    let a1 := f.getD 1 0
    let b0 := g.getD 0 0
    let b1 := g.getD 1 0
    (a0 * b0 + a1 * b1 % 3329 * z) % 3329 :: (a0 * b1 + a1 * b0) % 3329 :: mulPairs n (i + 1) (f.drop 2) (g.drop 2)

/-- The product of two transformed polynomials. -/
def mulNtt (f g : Poly) : Poly := mulPairs 128 0 f g

/-- The sum of two polynomials. -/
def addPoly (f g : Poly) : Poly := List.zipWith (fun x y => (x + y) % 3329) f g

/-- The difference of two polynomials. -/
def subPoly (f g : Poly) : Poly := List.zipWith (fun x y => (x + 3329 - y) % 3329) f g

/-- The inner product of vectors of transformed polynomials. -/
def dotNtt (a b : List Poly) : Poly := (List.zipWith mulNtt a b).foldl addPoly (List.replicate 256 0)

/-- Candidates of a uniform polynomial from a byte stream, three bytes to two, those below 3,329. -/
def sampleBytes : Nat → List Byte → List Nat
  | 0, _ => []
  | n + 1, bs =>
    let b0 := (bs.getD 0 0).toNat
    let b1 := (bs.getD 1 0).toNat
    let b2 := (bs.getD 2 0).toNat
    ([b0 + 256 * (b1 % 16), b1 / 16 + 16 * b2].filter fun d => decide (d < 3329)) ++ sampleBytes n (bs.drop 3)

/-- A uniform transformed polynomial from a seed: the first 256 accepted candidates of the stream, of which 5,376 bytes are
drawn (the chance that they do not suffice is below 2 to the minus 1,000). -/
def sampleNtt (seed : List Byte) : Poly := (sampleBytes 1792 (shake128 seed 5376)).take 256

/-- The bits of bytes, least significant first. -/
def bitsOf (bs : List Byte) : List Nat := bs.flatMap fun b => (List.range 8).map fun i => b.toNat / 2 ^ i % 2

/-- A polynomial of the centered binomial distribution of eta 2. -/
def cbd2 : Nat → List Nat → Poly
  | 0, _ => []
  | n + 1, b =>
    (b.getD 0 0 + b.getD 1 0 + 3329 - b.getD 2 0 - b.getD 3 0) % 3329 :: cbd2 n (b.drop 4)

/-- The pseudorandom polynomial of a seed and a number. -/
def noise (seed : List Byte) (n : Nat) : Poly := cbd2 256 (bitsOf (shake256 (seed ++ [BitVec.ofNat 8 n]) 128))

/-- Little-endian value of bits. -/
def bitNat : List Nat → Nat
  | [] => 0
  | b :: bs => b + 2 * bitNat bs

/-- Bytes from bits, n of them. -/
def bytesOfBits : Nat → List Nat → List Byte
  | 0, _ => []
  | n + 1, b => BitVec.ofNat 8 (bitNat (b.take 8)) :: bytesOfBits n (b.drop 8)

/-- Encode a polynomial of d-bit coefficients in 32 d bytes. -/
def byteEncode (d : Nat) (f : Poly) : List Byte :=
  bytesOfBits (32 * d) (f.flatMap fun x => (List.range d).map fun i => x / 2 ^ i % 2)

/-- The n coefficients of d bits. -/
def decodeBits (d : Nat) : Nat → List Nat → Poly
  | 0, _ => []
  | n + 1, b => bitNat (b.take d) :: decodeBits d n (b.drop d)

/-- Decode a polynomial of d-bit coefficients. -/
def byteDecode (d : Nat) (bs : List Byte) : Poly :=
  (decodeBits d 256 (bitsOf bs)).map fun x => if d = 12 then x % 3329 else x

/-- Compress to d bits. -/
def compress (d : Nat) (f : Poly) : Poly := f.map fun x => ((2 * 2 ^ d * x + 3329) / 6658) % 2 ^ d

/-- Decompress from d bits. -/
def decompress (d : Nat) (f : Poly) : Poly := f.map fun y => (2 * 3329 * y + 2 ^ d) / (2 * 2 ^ d)

/-- The matrix of a seed, row i, column j. -/
def matrixOf (rho : List Byte) (i : Nat) : List Poly :=
  (List.range 4).map fun j => sampleNtt (rho ++ [BitVec.ofNat 8 j, BitVec.ofNat 8 i])

/-- The K-PKE keys of d: the encryption key and the transformed secret. -/
def pkeKeyGen (d : List Byte) : List Byte × List Poly :=
  let g := sha3_512 (d ++ [4])
  let rho := g.take 32
  let sigma := g.drop 32
  let s := (List.range 4).map fun i => ntt (noise sigma i)
  let e := (List.range 4).map fun i => ntt (noise sigma (4 + i))
  let t := (List.range 4).map fun i => addPoly (dotNtt (matrixOf rho i) s) (e.getD i [])
  (t.flatMap (byteEncode 12) ++ rho, s)

/-- K-PKE encryption of a 32-byte message under an encryption key with randomness r: 1,568 bytes. -/
def pkeEncrypt (ek m r : List Byte) : List Byte :=
  let t := (pieces 4 384 ek).map (byteDecode 12)
  let rho := ek.drop 1536
  let a := (List.range 4).map (matrixOf rho)
  let y := (List.range 4).map fun i => ntt (noise r i)
  let u := (List.range 4).map fun i =>
    addPoly (invNtt (dotNtt (a.map fun row => row.getD i []) y)) (noise r (4 + i))
  let mu := decompress 1 (byteDecode 1 m)
  let v := addPoly (addPoly (invNtt (dotNtt t y)) (noise r 8)) mu
  (u.flatMap fun f => byteEncode 11 (compress 11 f)) ++ byteEncode 5 (compress 5 v)

/-- K-PKE decryption. -/
def pkeDecrypt (s : List Poly) (c : List Byte) : List Byte :=
  let u := (pieces 4 352 c).map fun b => decompress 11 (byteDecode 11 b)
  let v := decompress 5 (byteDecode 5 (c.drop 1408))
  byteEncode 1 (compress 1 (subPoly v (invNtt (dotNtt s (u.map ntt)))))

/-- The encapsulation key of d, 1,568 bytes. -/
def kemEncapsKey (d : List Byte) : List Byte := (pkeKeyGen d).1

/-- ML-KEM encapsulation with the message m: the shared secret and the ciphertext. -/
def kemEncaps (ek m : List Byte) : List Byte × List Byte :=
  let g := sha3_512 (m ++ sha3_256 ek)
  (g.take 32, pkeEncrypt ek m (g.drop 32))

/-- ML-KEM decapsulation under the key of d and z: the shared secret, an implicit rejection included. -/
def kemDecaps (d z c : List Byte) : List Byte :=
  let kp := pkeKeyGen d
  let m := pkeDecrypt kp.2 c
  let g := sha3_512 (m ++ sha3_256 kp.1)
  if pkeEncrypt kp.1 m (g.drop 32) = c then g.take 32 else shake256 (z ++ c) 32

end Sys2Proof.Machine
end

