-- ==== Sys2Proof/Syntax.lean ====
section
/-! DEFINITION. The steps of the part: one constructor per row of the opcode table. The first 115 rows are operations and
events without an encoding; their operands say what arrived or whose turn it is. The other 305 are the Efgus
instructions (14 R246-R259); `y` is the switch bit (bit 31), `f` the .F64 bit, and the other fields are the fields of
the word. Each constructor cites the rule that the table gives it. -/

namespace Sys2Proof

/-- An Efgus instruction, or an operation or event of the device (DESIGN CHOICE, log 5). -/
inductive Instr where
  /-- POWER_ON (R16) -/
  | powerOn (railsOk : Bool)
  /-- COLD_RESET (R16) -/
  | coldReset (heldTicks : Nat)
  /-- WARM_RESET (R17) -/
  | warmReset (h : HostAccess)
  /-- BOOT_ROM_START (R61) -/
  | bootRomStart (failed : BootTest)
  /-- POWER_WINDOW (R19) -/
  | powerWindow (watts : Nat)
  /-- THERMAL_STEP (R20) -/
  | thermalStep (celsius : Nat)
  /-- THERMAL_HOLD (R20) -/
  | thermalHold (sensor : Nat) (celsius : Nat)
  /-- THERMTRIP (R20) -/
  | thermtrip (celsius : Nat)
  /-- HOST_MODULE_TRAINING (R12) -/
  | hostModuleTraining (m : BitVec 1)
  /-- SUBMIT_WRITE (R48) -/
  | submitWrite (h : HostAccess)
  /-- SUBMIT_BUFFER_DRAIN (R48) -/
  | submitBufferDrain
  /-- SUBDROP_READ (R47) -/
  | subdropRead (h : HostAccess)
  /-- ERRLOST_READ (R47) -/
  | errlostRead (h : HostAccess)
  /-- ERRTAIL_WRITE (R51) -/
  | errtailWrite (h : HostAccess)
  /-- SVCTAIL_WRITE (R52) -/
  | svctailWrite (h : HostAccess)
  /-- PMODE_WRITE (R56) -/
  | pmodeWrite (h : HostAccess)
  /-- HOST_REGISTER_WRITE (R47) -/
  | hostRegisterWrite (h : HostAccess)
  /-- SERVICE_REPLY (R53) -/
  | serviceReply (h : HostAccess)
  /-- SERVICE_REQUEST (R52) -/
  | serviceRequest
  /-- SVCLATE (R53) -/
  | svclate (id : W64)
  /-- ATTEST (R65) -/
  | attest (h : HostAccess)
  /-- LOADRUN (R65) -/
  | loadrun (h : HostAccess)
  /-- UPDATE (R65) -/
  | update (h : HostAccess)
  /-- RAISEMIN (R65) -/
  | raisemin (h : HostAccess)
  /-- BAD_COMMAND (R65) -/
  | badCommand (h : HostAccess)
  /-- KEMKEY (R73) -/
  | kemkey (h : HostAccess)
  /-- CTXOPEN (R73) -/
  | ctxopen (h : HostAccess)
  /-- KEYLOAD (R73) -/
  | keyload (h : HostAccess)
  /-- CTXCLOSE (R73) -/
  | ctxclose (h : HostAccess)
  /-- ERASE (R76) -/
  | erase (h : HostAccess)
  /-- SWEEP (R77) -/
  | sweep (h : HostAccess)
  /-- RECEIPT (R78) -/
  | receipt (h : HostAccess)
  /-- REKEY (R75) -/
  | rekey (h : HostAccess)
  /-- MAILBOX_COMPLETE (R65) -/
  | mailboxComplete
  /-- FWDOG (R58) -/
  | fwdog (die : BitVec 2)
  /-- DIE_DROP (R24) -/
  | dieDrop (die : BitVec 2)
  /-- ERROR_RETRY (R236) -/
  | errorRetry (e : CheckFail)
  /-- DATA_FRAME (R31) -/
  | dataFrame (port : BitVec 6) (f : Frame)
  /-- IDLE_FRAME (R30) -/
  | idleFrame (port : BitVec 6) (f : Frame)
  /-- RETRY_REQUEST (R31) -/
  | retryRequest (port : BitVec 6) (f : Frame)
  /-- PORT_RETRAIN (R31) -/
  | portRetrain (port : BitVec 6)
  /-- PORT_DOWN (R31) -/
  | portDown (port : BitVec 6)
  /-- PORT_TRAINED (R44) -/
  | portTrained (port : BitVec 6)
  /-- READ (R34) -/
  | read (p : Packet)
  /-- WRITE (R34) -/
  | write (p : Packet)
  /-- ATOMIC (R34) -/
  | atomic (p : Packet)
  /-- CPYPUT (R34) -/
  | cpyput (p : Packet)
  /-- TASK (R123) -/
  | task (p : Packet)
  /-- READRESP (R34) -/
  | readresp (p : Packet)
  /-- WRITEACK (R34) -/
  | writeack (p : Packet)
  /-- ATOMRESP (R34) -/
  | atomresp (p : Packet)
  /-- SEQACK (R37) -/
  | seqack (p : Packet)
  /-- SEQACK_TIMER (R37) -/
  | seqackTimer (k : PairKey)
  /-- PAIR_BREAK (R37) -/
  | pairBreak (k : PairKey)
  /-- MCWRITE (R41) -/
  | mcwrite (p : Packet)
  /-- MCREPLY (R41) -/
  | mcreply (p : Packet)
  /-- REDRESULT (R42) -/
  | redresult (p : Packet)
  /-- SWATTEST (R44) -/
  | swattest (r : SwitchReport)
  /-- EVENT (R85) -/
  | event (r : CurRec)
  /-- TAIL_FETCH (R85) -/
  | tailFetch
  /-- TAIL_REQUEST (R87) -/
  | tailRequest (chip : BitVec 12) (id : BitVec 24) (first : W64) (last : W64)
  /-- TAIL_DATA (R85) -/
  | tailData (chip : BitVec 12) (id : BitVec 24) (recs : List CurRec)
  /-- SNAPSHOT_REQUEST (R87) -/
  | snapshotRequest (chip : BitVec 12) (id : BitVec 24) (opening : W64)
  /-- SNAPSHOT_DATA (R87) -/
  | snapshotData (chip : BitVec 12) (id : BitVec 24) (stream : SnapStream)
  /-- NOT_HELD (R85) -/
  | notHeld (chip : BitVec 12) (id : BitVec 24)
  /-- TRANSFER_TIMEOUT (R87) -/
  | transferTimeout
  /-- SUBMIT (R103) -/
  | submit
  /-- FIRE (R102) -/
  | fire
  /-- FINISH_BLOCKS_ENDED (R107) -/
  | finishBlocksEnded
  /-- SIGNAL_OR_DONE (R108) -/
  | signalOrDone (grid : BitVec 16)
  /-- FINISH_SIGNAL_WRITTEN (R107) -/
  | finishSignalWritten
  /-- BLOCK (R107) -/
  | block
  /-- RESUME (R107) -/
  | resume
  /-- RELEASE (R107) -/
  | release
  /-- FAULT (R107) -/
  | fault
  /-- SHARE (R101) -/
  | share
  /-- LOSS (R89) -/
  | loss
  /-- ADMIT (R95) -/
  | admitChip
  /-- EXPEL (R80) -/
  | expel
  /-- CAPACITY (R109) -/
  | capacity
  /-- SOUND_DIGEST (R91) -/
  | soundDigest
  /-- SOUND_CLOSE (R91) -/
  | soundClose
  /-- SOUND_VERDICT (R93) -/
  | soundVerdict
  /-- SOUNDWAIT_EXPIRY (R89) -/
  | soundwaitExpiry
  /-- EXPELWAIT_EXPIRY (R91) -/
  | expelwaitExpiry (chip : BitVec 12)
  /-- REJOIN (R94) -/
  | rejoin
  /-- NOSNAPSHOT (R94) -/
  | nosnapshot
  /-- BLOCK_START (R117) -/
  | blockStart (part : BitVec 16)
  /-- DORMANCY (R118) -/
  | dormancy (blk : Nat)
  /-- BLOCK_END (R119) -/
  | blockEnd (blk : Nat)
  /-- TASK_GROUP_TIMEOUT (R124) -/
  | taskGroupTimeout (core : Nat)
  /-- ACTIVATION (R155) -/
  | activation (core : Nat)
  /-- REGISTER_FILL (R153) -/
  | registerFill (grp : Nat)
  /-- CONTEXT_FAULT (R154) -/
  | contextFault (grp : Nat) (stage : FaultStage)
  /-- RESULT_WRITE (R137) -/
  | resultWrite (grp : Nat)
  /-- TRAP_DELIVERY (R234) -/
  | trapDelivery (grp : Nat)
  /-- QUIESCENCE_RELEASE (R135) -/
  | quiescenceRelease (grp : Nat) (j : Nat)
  /-- WAIT_REREAD (R271) -/
  | waitReread (grp : Nat) (slice : Nat)
  /-- WAIT_DEADLINE (R271) -/
  | waitDeadline (grp : Nat) (slice : Nat)
  /-- SLEEP_DEADLINE (R272) -/
  | sleepDeadline (grp : Nat) (slice : Nat)
  /-- WEIR_REQUEST (R176) -/
  | weirRequest
  /-- WALK_COMPLETE (R177) -/
  | walkComplete (object : BitVec 28) (page : Nat)
  /-- PAGE_FAULT_WAKE (R180) -/
  | pageFaultWake (object : ObjectAt) (page : Nat) (kind : FaultFor)
  /-- PAGE_FAULT_REFUSAL (R178) -/
  | pageFaultRefusal (object : ObjectAt) (page : Nat) (kind : FaultFor)
  /-- NO_WAKE_REPLAY (R178) -/
  | noWakeReplay (grp : Nat)
  /-- LOCALTIMEOUT (R160) -/
  | localtimeout (tag : BitVec 16)
  /-- PUBLISH_COMPLETE (R189) -/
  | publishComplete (object : BitVec 28)
  /-- ENGINE_COMPLETE (R345) -/
  | engineComplete (cmd : Nat) (ended : SendEnd)
  /-- MESSAGE_ARRIVAL (R352) -/
  | messageArrival (tag : BitVec 32) (payload : List Byte)
  /-- SAVE_DONE (R164) -/
  | saveDone (op : BitVec 16)
  /-- RESTORE_DONE (R166) -/
  | restoreDone (op : BitVec 16)
  /-- SAVE_RETRY (R165) -/
  | saveRetry (grp : Nat)
  /-- THERMAL_HOLD_END (R20) -/
  | thermalHoldEnd (celsius : Nat)
  /-- CANDIDATE_SILENCE (R85) -/
  | candidateSilence
  /-- FIRMWARE_READINESS (R58) -/
  | firmwareReadiness (die : BitVec 2)
  /-- SADD (R263) -/
  | sadd (y : Bool) (d : Fld) (a : Fld) (b : Fld)
  /-- SSUB (R263) -/
  | ssub (y : Bool) (d : Fld) (a : Fld) (b : Fld)
  /-- SMUL (R263) -/
  | smul (y : Bool) (d : Fld) (a : Fld) (b : Fld)
  /-- SMULH_I (R263) -/
  | smulhI (y : Bool) (d : Fld) (a : Fld) (b : Fld)
  /-- SMULH_N (R263) -/
  | smulhN (y : Bool) (d : Fld) (a : Fld) (b : Fld)
  /-- SDIV_I (R263) -/
  | sdivI (y : Bool) (d : Fld) (a : Fld) (b : Fld)
  /-- SDIV_N (R263) -/
  | sdivN (y : Bool) (d : Fld) (a : Fld) (b : Fld)
  /-- SREM_I (R263) -/
  | sremI (y : Bool) (d : Fld) (a : Fld) (b : Fld)
  /-- SREM_N (R263) -/
  | sremN (y : Bool) (d : Fld) (a : Fld) (b : Fld)
  /-- SAND (R263) -/
  | sand (y : Bool) (d : Fld) (a : Fld) (b : Fld)
  /-- SOR (R263) -/
  | sor (y : Bool) (d : Fld) (a : Fld) (b : Fld)
  /-- SXOR (R263) -/
  | sxor (y : Bool) (d : Fld) (a : Fld) (b : Fld)
  /-- SANDN (R263) -/
  | sandn (y : Bool) (d : Fld) (a : Fld) (b : Fld)
  /-- SSHL (R263) -/
  | sshl (y : Bool) (d : Fld) (a : Fld) (b : Fld)
  /-- SSHR_N (R263) -/
  | sshrN (y : Bool) (d : Fld) (a : Fld) (b : Fld)
  /-- SSHR_I (R263) -/
  | sshrI (y : Bool) (d : Fld) (a : Fld) (b : Fld)
  /-- SROR (R263) -/
  | sror (y : Bool) (d : Fld) (a : Fld) (b : Fld)
  /-- SMIN_I (R263) -/
  | sminI (y : Bool) (d : Fld) (a : Fld) (b : Fld)
  /-- SMIN_N (R263) -/
  | sminN (y : Bool) (d : Fld) (a : Fld) (b : Fld)
  /-- SMAX_I (R263) -/
  | smaxI (y : Bool) (d : Fld) (a : Fld) (b : Fld)
  /-- SMAX_N (R263) -/
  | smaxN (y : Bool) (d : Fld) (a : Fld) (b : Fld)
  /-- SSEQ (R263) -/
  | sseq (y : Bool) (d : Fld) (a : Fld) (b : Fld)
  /-- SSNE (R263) -/
  | ssne (y : Bool) (d : Fld) (a : Fld) (b : Fld)
  /-- SSLT_I (R263) -/
  | ssltI (y : Bool) (d : Fld) (a : Fld) (b : Fld)
  /-- SSLT_N (R263) -/
  | ssltN (y : Bool) (d : Fld) (a : Fld) (b : Fld)
  /-- SSLE_I (R263) -/
  | ssleI (y : Bool) (d : Fld) (a : Fld) (b : Fld)
  /-- SSLE_N (R263) -/
  | ssleN (y : Bool) (d : Fld) (a : Fld) (b : Fld)
  /-- SPOPC (R263) -/
  | spopc (y : Bool) (d : Fld) (a : Fld)
  /-- SCLZ (R263) -/
  | sclz (y : Bool) (d : Fld) (a : Fld)
  /-- SCTZ (R263) -/
  | sctz (y : Bool) (d : Fld) (a : Fld)
  /-- SLEA4 (R263) -/
  | slea4 (y : Bool) (d : Fld) (a : Fld) (b : Fld)
  /-- SLEA8 (R263) -/
  | slea8 (y : Bool) (d : Fld) (a : Fld) (b : Fld)
  /-- SADDI (R264) -/
  | saddi (y : Bool) (d : Fld) (a : Fld) (i : BitVec 10)
  /-- SANDI (R264) -/
  | sandi (y : Bool) (d : Fld) (a : Fld) (i : BitVec 10)
  /-- SORI (R264) -/
  | sori (y : Bool) (d : Fld) (a : Fld) (i : BitVec 10)
  /-- SXORI (R264) -/
  | sxori (y : Bool) (d : Fld) (a : Fld) (i : BitVec 10)
  /-- SSHLI (R264) -/
  | sshli (y : Bool) (d : Fld) (a : Fld) (i : BitVec 6)
  /-- SSHRI_N (R264) -/
  | sshriN (y : Bool) (d : Fld) (a : Fld) (i : BitVec 6)
  /-- SSHRI_I (R264) -/
  | sshriI (y : Bool) (d : Fld) (a : Fld) (i : BitVec 6)
  /-- SSLTI_I (R264) -/
  | ssltiI (y : Bool) (d : Fld) (a : Fld) (i : BitVec 10)
  /-- VADD (R286) -/
  | vadd (y : Bool) (d : Fld) (a : Fld) (b : Fld)
  /-- VSUB (R286) -/
  | vsub (y : Bool) (d : Fld) (a : Fld) (b : Fld)
  /-- VMUL (R286) -/
  | vmul (y : Bool) (d : Fld) (a : Fld) (b : Fld)
  /-- VMULH_I (R286) -/
  | vmulhI (y : Bool) (d : Fld) (a : Fld) (b : Fld)
  /-- VMULH_N (R286) -/
  | vmulhN (y : Bool) (d : Fld) (a : Fld) (b : Fld)
  /-- VADDS_I (R286) -/
  | vaddsI (y : Bool) (d : Fld) (a : Fld) (b : Fld)
  /-- VADDS_N (R286) -/
  | vaddsN (y : Bool) (d : Fld) (a : Fld) (b : Fld)
  /-- VSUBS_I (R286) -/
  | vsubsI (y : Bool) (d : Fld) (a : Fld) (b : Fld)
  /-- VSUBS_N (R286) -/
  | vsubsN (y : Bool) (d : Fld) (a : Fld) (b : Fld)
  /-- VAND (R286) -/
  | vand (y : Bool) (d : Fld) (a : Fld) (b : Fld)
  /-- VOR (R286) -/
  | vor (y : Bool) (d : Fld) (a : Fld) (b : Fld)
  /-- VXOR (R286) -/
  | vxor (y : Bool) (d : Fld) (a : Fld) (b : Fld)
  /-- VANDN (R286) -/
  | vandn (y : Bool) (d : Fld) (a : Fld) (b : Fld)
  /-- VSHL (R286) -/
  | vshl (y : Bool) (d : Fld) (a : Fld) (b : Fld)
  /-- VSHR_N (R286) -/
  | vshrN (y : Bool) (d : Fld) (a : Fld) (b : Fld)
  /-- VSHR_I (R286) -/
  | vshrI (y : Bool) (d : Fld) (a : Fld) (b : Fld)
  /-- VMIN_I (R286) -/
  | vminI (y : Bool) (d : Fld) (a : Fld) (b : Fld)
  /-- VMIN_N (R286) -/
  | vminN (y : Bool) (d : Fld) (a : Fld) (b : Fld)
  /-- VMAX_I (R286) -/
  | vmaxI (y : Bool) (d : Fld) (a : Fld) (b : Fld)
  /-- VMAX_N (R286) -/
  | vmaxN (y : Bool) (d : Fld) (a : Fld) (b : Fld)
  /-- VDOT4_I8 (R286) -/
  | vdot4I8 (y : Bool) (d : Fld) (a : Fld) (b : Fld)
  /-- VDOT4_N8 (R286) -/
  | vdot4N8 (y : Bool) (d : Fld) (a : Fld) (b : Fld)
  /-- VPOPC (R286) -/
  | vpopc (y : Bool) (d : Fld) (a : Fld)
  /-- VCLZ (R286) -/
  | vclz (y : Bool) (d : Fld) (a : Fld)
  /-- VCEQ (R287) -/
  | vceq (y : Bool) (d : Fld) (a : Fld) (b : Fld)
  /-- VCNE (R287) -/
  | vcne (y : Bool) (d : Fld) (a : Fld) (b : Fld)
  /-- VCLT_I (R287) -/
  | vcltI (y : Bool) (d : Fld) (a : Fld) (b : Fld)
  /-- VCLT_N (R287) -/
  | vcltN (y : Bool) (d : Fld) (a : Fld) (b : Fld)
  /-- VCLE_I (R287) -/
  | vcleI (y : Bool) (d : Fld) (a : Fld) (b : Fld)
  /-- VCLE_N (R287) -/
  | vcleN (y : Bool) (d : Fld) (a : Fld) (b : Fld)
  /-- VMOV (R286) -/
  | vmov (y : Bool) (d : Fld) (a : Fld)
  /-- VDUP (R286) -/
  | vdup (y : Bool) (d : Fld) (a : Fld)
  /-- VADD_I64 (R288) -/
  | vaddI64 (y : Bool) (d : Fld) (a : Fld) (b : Fld)
  /-- VSUB_I64 (R288) -/
  | vsubI64 (y : Bool) (d : Fld) (a : Fld) (b : Fld)
  /-- VSHL_I64 (R288) -/
  | vshlI64 (y : Bool) (d : Fld) (a : Fld) (b : Fld)
  /-- VSHR_N64 (R288) -/
  | vshrN64 (y : Bool) (d : Fld) (a : Fld) (b : Fld)
  /-- VSHR_I64 (R288) -/
  | vshrI64 (y : Bool) (d : Fld) (a : Fld) (b : Fld)
  /-- VADDI (R289) -/
  | vaddi (y : Bool) (d : Fld) (a : Fld) (i : BitVec 10)
  /-- VANDI (R289) -/
  | vandi (y : Bool) (d : Fld) (a : Fld) (i : BitVec 10)
  /-- VORI (R289) -/
  | vori (y : Bool) (d : Fld) (a : Fld) (i : BitVec 10)
  /-- VXORI (R289) -/
  | vxori (y : Bool) (d : Fld) (a : Fld) (i : BitVec 10)
  /-- VSHLI (R289) -/
  | vshli (y : Bool) (d : Fld) (a : Fld) (i : BitVec 5)
  /-- VSHRI_N (R289) -/
  | vshriN (y : Bool) (d : Fld) (a : Fld) (i : BitVec 5)
  /-- VSHRI_I (R289) -/
  | vshriI (y : Bool) (d : Fld) (a : Fld) (i : BitVec 5)
  /-- VMOVI (R289) -/
  | vmovi (y : Bool) (d : Fld) (i : BitVec 10)
  /-- FADD (R290) -/
  | fadd (y : Bool) (f : Bool) (d : Fld) (a : Fld) (b : Fld)
  /-- FSUB (R290) -/
  | fsub (y : Bool) (f : Bool) (d : Fld) (a : Fld) (b : Fld)
  /-- FMUL (R290) -/
  | fmul (y : Bool) (f : Bool) (d : Fld) (a : Fld) (b : Fld)
  /-- FFMA (R290) -/
  | ffma (y : Bool) (f : Bool) (d : Fld) (a : Fld) (b : Fld)
  /-- FFMS (R290) -/
  | ffms (y : Bool) (f : Bool) (d : Fld) (a : Fld) (b : Fld)
  /-- FMIN (R290) -/
  | fmin (y : Bool) (f : Bool) (d : Fld) (a : Fld) (b : Fld)
  /-- FMAX (R290) -/
  | fmax (y : Bool) (f : Bool) (d : Fld) (a : Fld) (b : Fld)
  /-- FABS (R290) -/
  | fabs (y : Bool) (f : Bool) (d : Fld) (a : Fld)
  /-- FNEG (R290) -/
  | fneg (y : Bool) (f : Bool) (d : Fld) (a : Fld)
  /-- FCEQ (R292) -/
  | fceq (y : Bool) (f : Bool) (d : Fld) (a : Fld) (b : Fld)
  /-- FCLT (R292) -/
  | fclt (y : Bool) (f : Bool) (d : Fld) (a : Fld) (b : Fld)
  /-- FCLE (R292) -/
  | fcle (y : Bool) (f : Bool) (d : Fld) (a : Fld) (b : Fld)
  /-- FCUN (R292) -/
  | fcun (y : Bool) (f : Bool) (d : Fld) (a : Fld) (b : Fld)
  /-- FDIV (R291) -/
  | fdiv (y : Bool) (f : Bool) (d : Fld) (a : Fld) (b : Fld)
  /-- FSQRT (R291) -/
  | fsqrt (y : Bool) (f : Bool) (d : Fld) (a : Fld)
  /-- FRND (R290) -/
  | frnd (y : Bool) (f : Bool) (d : Fld) (a : Fld)
  /-- FADD_RN (R290) -/
  | faddRn (y : Bool) (f : Bool) (d : Fld) (a : Fld) (b : Fld)
  /-- FSUB_RN (R290) -/
  | fsubRn (y : Bool) (f : Bool) (d : Fld) (a : Fld) (b : Fld)
  /-- FMUL_RN (R290) -/
  | fmulRn (y : Bool) (f : Bool) (d : Fld) (a : Fld) (b : Fld)
  /-- FFMA_RN (R290) -/
  | ffmaRn (y : Bool) (f : Bool) (d : Fld) (a : Fld) (b : Fld)
  /-- FRCP (R293) -/
  | frcp (y : Bool) (d : Fld) (a : Fld)
  /-- FRSQ (R293) -/
  | frsq (y : Bool) (d : Fld) (a : Fld)
  /-- FEXP2 (R293) -/
  | fexp2 (y : Bool) (d : Fld) (a : Fld)
  /-- FLOG2 (R293) -/
  | flog2 (y : Bool) (d : Fld) (a : Fld)
  /-- FSIN (R293) -/
  | fsin (y : Bool) (d : Fld) (a : Fld)
  /-- FCOS (R293) -/
  | fcos (y : Bool) (d : Fld) (a : Fld)
  /-- FTANH (R293) -/
  | ftanh (y : Bool) (d : Fld) (a : Fld)
  /-- HADD2_F16 (R294) -/
  | hadd2F16 (y : Bool) (d : Fld) (a : Fld) (b : Fld)
  /-- HMUL2_F16 (R294) -/
  | hmul2F16 (y : Bool) (d : Fld) (a : Fld) (b : Fld)
  /-- HFMA2_F16 (R294) -/
  | hfma2F16 (y : Bool) (d : Fld) (a : Fld) (b : Fld)
  /-- HADD2_BF16 (R294) -/
  | hadd2Bf16 (y : Bool) (d : Fld) (a : Fld) (b : Fld)
  /-- HMUL2_BF16 (R294) -/
  | hmul2Bf16 (y : Bool) (d : Fld) (a : Fld) (b : Fld)
  /-- HFMA2_BF16 (R294) -/
  | hfma2Bf16 (y : Bool) (d : Fld) (a : Fld) (b : Fld)
  /-- FCVT (R295) -/
  | fcvt (y : Bool) (t : BitVec 5) (d : Fld) (a : Fld) (n : Bool) (s : Bool) (c : BitVec 5)
  /-- XSHP (R323) -/
  | xshp (y : Bool) (d : Fld) (r : Fld) (c : Fld)
  /-- XZERO (R323) -/
  | xzero (y : Bool) (d : Fld)
  /-- XIDN (R323) -/
  | xidn (y : Bool) (d : Fld)
  /-- XLD (R324) -/
  | xld (y : Bool) (f : Bool) (d : Fld) (a : Fld) (b : Fld)
  /-- XST (R324) -/
  | xst (y : Bool) (f : Bool) (d : Fld) (a : Fld) (b : Fld)
  /-- XGET (R323) -/
  | xget (y : Bool) (f : Bool) (d : Fld) (a : Fld) (i : BitVec 3) (j : BitVec 3)
  /-- XPUT (R323) -/
  | xput (y : Bool) (f : Bool) (d : Fld) (a : Fld) (i : BitVec 3) (j : BitVec 3)
  /-- XMOV (R323) -/
  | xmov (y : Bool) (f : Bool) (d : Fld) (a : Fld)
  /-- XTRN (R323) -/
  | xtrn (y : Bool) (f : Bool) (d : Fld) (a : Fld)
  /-- XADD (R325) -/
  | xadd (y : Bool) (f : Bool) (d : Fld) (a : Fld) (b : Fld)
  /-- XSUB (R325) -/
  | xsub (y : Bool) (f : Bool) (d : Fld) (a : Fld) (b : Fld)
  /-- XSCL (R325) -/
  | xscl (y : Bool) (f : Bool) (d : Fld) (a : Fld) (b : Fld)
  /-- XMUL (R325) -/
  | xmul (y : Bool) (f : Bool) (d : Fld) (a : Fld) (b : Fld)
  /-- XMAD (R325) -/
  | xmad (y : Bool) (f : Bool) (d : Fld) (a : Fld) (b : Fld)
  /-- XMULT (R325) -/
  | xmult (y : Bool) (f : Bool) (d : Fld) (a : Fld) (b : Fld)
  /-- XMV (R325) -/
  | xmv (y : Bool) (f : Bool) (d : Fld) (a : Fld) (b : Fld)
  /-- XCHOL (R326) -/
  | xchol (y : Bool) (f : Bool) (d : Fld) (a : Fld)
  /-- XLUP (R327) -/
  | xlup (y : Bool) (f : Bool) (d : Fld) (a : Fld)
  /-- XSOLV (R328) -/
  | xsolv (y : Bool) (f : Bool) (d : Fld) (a : Fld) (b : Fld)
  /-- XINV (R329) -/
  | xinv (y : Bool) (f : Bool) (d : Fld) (a : Fld)
  /-- XDET (R329) -/
  | xdet (y : Bool) (f : Bool) (d : Fld) (a : Fld)
  /-- XFLAG (R330) -/
  | xflag (y : Bool) (d : Fld)
  /-- MAND (R266) -/
  | mand (y : Bool) (d : Fld) (a : Fld) (b : Fld)
  /-- MOR (R266) -/
  | mor (y : Bool) (d : Fld) (a : Fld) (b : Fld)
  /-- MXOR (R266) -/
  | mxor (y : Bool) (d : Fld) (a : Fld) (b : Fld)
  /-- MANDN (R266) -/
  | mandn (y : Bool) (d : Fld) (a : Fld) (b : Fld)
  /-- MNOT (R266) -/
  | mnot (y : Bool) (d : Fld) (a : Fld)
  /-- MMOV (R266) -/
  | mmov (y : Bool) (d : Fld) (a : Fld)
  /-- MPOPC (R266) -/
  | mpopc (y : Bool) (d : Fld) (a : Fld)
  /-- MFIRST (R266) -/
  | mfirst (y : Bool) (d : Fld) (a : Fld)
  /-- MSWAP (R266) -/
  | mswap (y : Bool) (d : Fld) (a : Fld)
  /-- MFROMV (R266) -/
  | mfromv (y : Bool) (d : Fld) (a : Fld)
  /-- MTOV (R266) -/
  | mtov (y : Bool) (d : Fld) (a : Fld)
  /-- SHFL_IDX_W4 (R300) -/
  | shflIdxW4 (y : Bool) (d : Fld) (a : Fld) (b : Fld)
  /-- SHFL_IDX_W8 (R300) -/
  | shflIdxW8 (y : Bool) (d : Fld) (a : Fld) (b : Fld)
  /-- SHFL_IDX_W16 (R300) -/
  | shflIdxW16 (y : Bool) (d : Fld) (a : Fld) (b : Fld)
  /-- SHFL_IDX_W32 (R300) -/
  | shflIdxW32 (y : Bool) (d : Fld) (a : Fld) (b : Fld)
  /-- SHFL_IDX_W64 (R300) -/
  | shflIdxW64 (y : Bool) (d : Fld) (a : Fld) (b : Fld)
  /-- SHFL_IDX_W96 (R300) -/
  | shflIdxW96 (y : Bool) (d : Fld) (a : Fld) (b : Fld)
  /-- SHFL_XOR_W4 (R300) -/
  | shflXorW4 (y : Bool) (d : Fld) (a : Fld) (b : Fld)
  /-- SHFL_XOR_W8 (R300) -/
  | shflXorW8 (y : Bool) (d : Fld) (a : Fld) (b : Fld)
  /-- SHFL_XOR_W16 (R300) -/
  | shflXorW16 (y : Bool) (d : Fld) (a : Fld) (b : Fld)
  /-- SHFL_XOR_W32 (R300) -/
  | shflXorW32 (y : Bool) (d : Fld) (a : Fld) (b : Fld)
  /-- SHFL_XOR_W64 (R300) -/
  | shflXorW64 (y : Bool) (d : Fld) (a : Fld) (b : Fld)
  /-- SHFL_XOR_W96 (R300) -/
  | shflXorW96 (y : Bool) (d : Fld) (a : Fld) (b : Fld)
  /-- SHFL_UP_W4 (R300) -/
  | shflUpW4 (y : Bool) (d : Fld) (a : Fld) (b : Fld)
  /-- SHFL_UP_W8 (R300) -/
  | shflUpW8 (y : Bool) (d : Fld) (a : Fld) (b : Fld)
  /-- SHFL_UP_W16 (R300) -/
  | shflUpW16 (y : Bool) (d : Fld) (a : Fld) (b : Fld)
  /-- SHFL_UP_W32 (R300) -/
  | shflUpW32 (y : Bool) (d : Fld) (a : Fld) (b : Fld)
  /-- SHFL_UP_W64 (R300) -/
  | shflUpW64 (y : Bool) (d : Fld) (a : Fld) (b : Fld)
  /-- SHFL_UP_W96 (R300) -/
  | shflUpW96 (y : Bool) (d : Fld) (a : Fld) (b : Fld)
  /-- SHFL_DN_W4 (R300) -/
  | shflDnW4 (y : Bool) (d : Fld) (a : Fld) (b : Fld)
  /-- SHFL_DN_W8 (R300) -/
  | shflDnW8 (y : Bool) (d : Fld) (a : Fld) (b : Fld)
  /-- SHFL_DN_W16 (R300) -/
  | shflDnW16 (y : Bool) (d : Fld) (a : Fld) (b : Fld)
  /-- SHFL_DN_W32 (R300) -/
  | shflDnW32 (y : Bool) (d : Fld) (a : Fld) (b : Fld)
  /-- SHFL_DN_W64 (R300) -/
  | shflDnW64 (y : Bool) (d : Fld) (a : Fld) (b : Fld)
  /-- SHFL_DN_W96 (R300) -/
  | shflDnW96 (y : Bool) (d : Fld) (a : Fld) (b : Fld)
  /-- VBCAST_W4 (R300) -/
  | vbcastW4 (y : Bool) (d : Fld) (a : Fld) (b : Fld)
  /-- VBCAST_W8 (R300) -/
  | vbcastW8 (y : Bool) (d : Fld) (a : Fld) (b : Fld)
  /-- VBCAST_W16 (R300) -/
  | vbcastW16 (y : Bool) (d : Fld) (a : Fld) (b : Fld)
  /-- VBCAST_W32 (R300) -/
  | vbcastW32 (y : Bool) (d : Fld) (a : Fld) (b : Fld)
  /-- VBCAST_W64 (R300) -/
  | vbcastW64 (y : Bool) (d : Fld) (a : Fld) (b : Fld)
  /-- VBCAST_W96 (R300) -/
  | vbcastW96 (y : Bool) (d : Fld) (a : Fld) (b : Fld)
  /-- VOTE_ANY (R301) -/
  | voteAny (y : Bool) (d : Fld) (a : Fld)
  /-- VOTE_ALL (R301) -/
  | voteAll (y : Bool) (d : Fld) (a : Fld)
  /-- VOTE_BAL (R301) -/
  | voteBal (y : Bool) (d : Fld) (a : Fld)
  /-- VRED_W4 (R302) -/
  | vredW4 (y : Bool) (d : Fld) (a : Fld) (o : BitVec 3) (t : BitVec 2)
  /-- VRED_W8 (R302) -/
  | vredW8 (y : Bool) (d : Fld) (a : Fld) (o : BitVec 3) (t : BitVec 2)
  /-- VRED_W16 (R302) -/
  | vredW16 (y : Bool) (d : Fld) (a : Fld) (o : BitVec 3) (t : BitVec 2)
  /-- VRED_W32 (R302) -/
  | vredW32 (y : Bool) (d : Fld) (a : Fld) (o : BitVec 3) (t : BitVec 2)
  /-- VRED_W64 (R302) -/
  | vredW64 (y : Bool) (d : Fld) (a : Fld) (o : BitVec 3) (t : BitVec 2)
  /-- VRED_W96 (R302) -/
  | vredW96 (y : Bool) (d : Fld) (a : Fld) (o : BitVec 3) (t : BitVec 2)
  /-- VSCAN_W4 (R302) -/
  | vscanW4 (y : Bool) (d : Fld) (a : Fld) (o : BitVec 3) (t : BitVec 2)
  /-- VSCAN_W8 (R302) -/
  | vscanW8 (y : Bool) (d : Fld) (a : Fld) (o : BitVec 3) (t : BitVec 2)
  /-- VSCAN_W16 (R302) -/
  | vscanW16 (y : Bool) (d : Fld) (a : Fld) (o : BitVec 3) (t : BitVec 2)
  /-- VSCAN_W32 (R302) -/
  | vscanW32 (y : Bool) (d : Fld) (a : Fld) (o : BitVec 3) (t : BitVec 2)
  /-- VSCAN_W64 (R302) -/
  | vscanW64 (y : Bool) (d : Fld) (a : Fld) (o : BitVec 3) (t : BitVec 2)
  /-- VSCAN_W96 (R302) -/
  | vscanW96 (y : Bool) (d : Fld) (a : Fld) (o : BitVec 3) (t : BitVec 2)
  /-- LD_I (R306) -/
  | ldI (y : Bool) (w : BitVec 2) (d : Fld) (a : Fld) (b : Fld)
  /-- LD_N (R306) -/
  | ldN (y : Bool) (w : BitVec 2) (d : Fld) (a : Fld) (b : Fld)
  /-- SLD_I (R306) -/
  | sldI (y : Bool) (w : BitVec 2) (d : Fld) (a : Fld) (b : Fld)
  /-- SLD_N (R306) -/
  | sldN (y : Bool) (w : BitVec 2) (d : Fld) (a : Fld) (b : Fld)
  /-- LDX (R309) -/
  | ldx (y : Bool) (w : BitVec 2) (d : Fld) (a : Fld) (b : Fld)
  /-- CLD (R313) -/
  | cld (y : Bool) (d : Fld) (a : Fld) (b : Fld)
  /-- LD_L_I (R306) -/
  | ldLI (y : Bool) (w : BitVec 2) (d : Fld) (a : Fld) (b : Fld)
  /-- LD_L_N (R306) -/
  | ldLN (y : Bool) (w : BitVec 2) (d : Fld) (a : Fld) (b : Fld)
  /-- LD_ACQ (R307) -/
  | ldAcq (y : Bool) (w : BitVec 2) (s : BitVec 2) (d : Fld) (a : Fld) (b : Fld)
  /-- SLD_ACQ (R307) -/
  | sldAcq (y : Bool) (w : BitVec 2) (s : BitVec 2) (d : Fld) (a : Fld) (b : Fld)
  /-- ST_N (R308) -/
  | stN (y : Bool) (w : BitVec 2) (d : Fld) (a : Fld) (b : Fld)
  /-- SST_N (R308) -/
  | sstN (y : Bool) (w : BitVec 2) (d : Fld) (a : Fld) (b : Fld)
  /-- CST (R313) -/
  | cst (y : Bool) (d : Fld) (a : Fld) (b : Fld)
  /-- ST_L_N (R308) -/
  | stLN (y : Bool) (w : BitVec 2) (d : Fld) (a : Fld) (b : Fld)
  /-- ST_REL (R308) -/
  | stRel (y : Bool) (w : BitVec 2) (s : BitVec 2) (d : Fld) (a : Fld) (b : Fld)
  /-- ATOM_ADD (R310) -/
  | atomAdd (y : Bool) (t : BitVec 2) (d : Fld) (f : BitVec 2) (s : BitVec 2) (c : BitVec 3) (b : Fld)
  /-- ATOM_AND (R310) -/
  | atomAnd (y : Bool) (t : BitVec 2) (d : Fld) (f : BitVec 2) (s : BitVec 2) (c : BitVec 3) (b : Fld)
  /-- ATOM_OR (R310) -/
  | atomOr (y : Bool) (t : BitVec 2) (d : Fld) (f : BitVec 2) (s : BitVec 2) (c : BitVec 3) (b : Fld)
  /-- ATOM_XOR (R310) -/
  | atomXor (y : Bool) (t : BitVec 2) (d : Fld) (f : BitVec 2) (s : BitVec 2) (c : BitVec 3) (b : Fld)
  /-- ATOM_SWAP (R310) -/
  | atomSwap (y : Bool) (t : BitVec 2) (d : Fld) (f : BitVec 2) (s : BitVec 2) (c : BitVec 3) (b : Fld)
  /-- ATOM_CAS (R310) -/
  | atomCas (y : Bool) (t : BitVec 2) (d : Fld) (f : BitVec 2) (s : BitVec 2) (c : BitVec 3) (b : Fld)
  /-- ATOM_MIN (R310) -/
  | atomMin (y : Bool) (t : BitVec 2) (d : Fld) (f : BitVec 2) (s : BitVec 2) (c : BitVec 3) (b : Fld)
  /-- ATOM_MAX (R310) -/
  | atomMax (y : Bool) (t : BitVec 2) (d : Fld) (f : BitVec 2) (s : BitVec 2) (c : BitVec 3) (b : Fld)
  /-- CSUB (R314) -/
  | csub (y : Bool) (d : Fld) (a : Fld) (b : Fld)
  /-- CRGT (R314) -/
  | crgt (y : Bool) (d : Fld) (a : Fld) (b : Fld)
  /-- CGET (R314) -/
  | cget (y : Bool) (d : Fld) (a : Fld) (k : Fld)
  /-- CMOV (R314) -/
  | cmov (y : Bool) (d : Fld) (a : Fld)
  /-- CCLR (R314) -/
  | cclr (y : Bool) (d : Fld)
  /-- CSTASH (R315) -/
  | cstash (y : Bool) (d : Fld) (a : Fld) (b : Fld)
  /-- PREF (R312) -/
  | pref (y : Bool) (a : Fld) (b : Fld)
  /-- SMAP (R316) -/
  | smap (y : Bool) (d : Fld) (a : Fld) (b : Fld)
  /-- SUNMAP (R317) -/
  | sunmap (y : Bool) (a : Fld)
  /-- SFLUSH (R317) -/
  | sflush (y : Bool) (a : Fld)
  /-- FENCE_ACQ_GROUP (R311) -/
  | fenceAcqGroup (y : Bool)
  /-- FENCE_ACQ_BLOCK (R311) -/
  | fenceAcqBlock (y : Bool)
  /-- FENCE_ACQ_CHIP (R311) -/
  | fenceAcqChip (y : Bool)
  /-- FENCE_ACQ_POD (R311) -/
  | fenceAcqPod (y : Bool)
  /-- FENCE_ACQ_SYS (R311) -/
  | fenceAcqSys (y : Bool)
  /-- FENCE_REL_GROUP (R311) -/
  | fenceRelGroup (y : Bool)
  /-- FENCE_REL_BLOCK (R311) -/
  | fenceRelBlock (y : Bool)
  /-- FENCE_REL_CHIP (R311) -/
  | fenceRelChip (y : Bool)
  /-- FENCE_REL_POD (R311) -/
  | fenceRelPod (y : Bool)
  /-- FENCE_REL_SYS (R311) -/
  | fenceRelSys (y : Bool)
  /-- FENCE_FULL_GROUP (R311) -/
  | fenceFullGroup (y : Bool)
  /-- FENCE_FULL_BLOCK (R311) -/
  | fenceFullBlock (y : Bool)
  /-- FENCE_FULL_CHIP (R311) -/
  | fenceFullChip (y : Bool)
  /-- FENCE_FULL_POD (R311) -/
  | fenceFullPod (y : Bool)
  /-- FENCE_FULL_SYS (R311) -/
  | fenceFullSys (y : Bool)
  /-- BAR_INIT (R318) -/
  | barInit (y : Bool) (a : Fld) (b : Fld)
  /-- BAR_ARRIVE (R318) -/
  | barArrive (y : Bool) (a : Fld) (b : Fld)
  /-- BAR_EXPECT (R318) -/
  | barExpect (y : Bool) (a : Fld) (b : Fld)
  /-- BAR_WAIT (R318) -/
  | barWait (y : Bool) (a : Fld) (b : Fld)
  /-- BAR_ARRIVE_W (R318) -/
  | barArriveW (y : Bool) (a : Fld) (b : Fld)
  /-- MX_R (R335) -/
  | mxR (y : Bool) (d : Fld) (a : Fld) (b : Fld)
  /-- MX_S (R335) -/
  | mxS (y : Bool) (d : Fld) (a : Fld) (b : Fld)
  /-- MXJOB (R338) -/
  | mxjob (y : Bool) (d : Fld) (a : Fld) (b : Fld)
  /-- MXZA (R336) -/
  | mxza (y : Bool) (d : Fld)
  /-- MXLDA (R336) -/
  | mxlda (y : Bool) (d : Fld) (a : Fld) (b : Fld)
  /-- MXST (R336) -/
  | mxst (y : Bool) (d : Fld) (a : Fld) (b : Fld)
  /-- CPY (R344) -/
  | cpy (y : Bool) (d : Fld) (a : Fld) (b : Fld)
  /-- CPY_R (R345) -/
  | cpyR (y : Bool) (d : Fld) (a : Fld) (b : Fld)
  /-- COLL (R347) -/
  | coll (y : Bool) (d : Fld) (a : Fld) (b : Fld)
  /-- NSEND (R350) -/
  | nsend (y : Bool) (a : Fld) (b : Fld)
  /-- PUB (R348) -/
  | pub (y : Bool) (a : Fld)
  /-- POST (R353) -/
  | post (y : Bool) (d : Fld) (a : Fld) (b : Fld)
  /-- LAUNCH (R354) -/
  | launch (y : Bool) (d : Fld) (b : Fld)
  /-- GATE (R355) -/
  | gate (y : Bool)
  /-- RLSE (R355) -/
  | rlse (y : Bool)
  /-- BCLOSE (R340) -/
  | bclose (y : Bool) (d : Fld)
  /-- WAITB (R342) -/
  | waitb (y : Bool) (a : Fld)
  /-- ARM (R351) -/
  | arm (y : Bool) (d : Fld) (a : Fld) (b : Fld)
  /-- BR (R267) -/
  | br (y : Bool) (o : BitVec 17)
  /-- BSR (R268) -/
  | bsr (y : Bool) (o : BitVec 17)
  /-- BRC_Z (R267) -/
  | brcZ (y : Bool) (c : Fld) (o : BitVec 17)
  /-- BRC_NZ (R267) -/
  | brcNz (y : Bool) (c : Fld) (o : BitVec 17)
  /-- BRM_Z (R132) -/
  | brmZ (y : Bool) (c : Fld) (o : BitVec 17)
  /-- BRM_NZ (R132) -/
  | brmNz (y : Bool) (c : Fld) (o : BitVec 17)
  /-- BRC_LT (R267) -/
  | brcLt (y : Bool) (c : Fld) (o : BitVec 17)
  /-- BRC_GE (R267) -/
  | brcGe (y : Bool) (c : Fld) (o : BitVec 17)
  /-- JOIN (R134) -/
  | join (y : Bool) (j : Fld)
  /-- WAIT (R271) -/
  | wait (y : Bool) (a : Fld) (b : Fld)
  /-- WINB (R274) -/
  | winb (y : Bool) (n : Fld)
  /-- CALL (R268) -/
  | call (y : Bool) (a : Fld)
  /-- RET (R268) -/
  | ret (y : Bool)
  /-- EXIT (R277) -/
  | exit (y : Bool)
  /-- RGN (R276) -/
  | rgn (y : Bool)
  /-- RGNX (R276) -/
  | rgnx (y : Bool)
  /-- YIELDC (R273) -/
  | yieldc (y : Bool)
  /-- SLEEP (R272) -/
  | sleep (y : Bool) (a : Fld)
  /-- VDEAD (R275) -/
  | vdead (y : Bool) (a : Fld) (b : Fld)
  /-- JMP (R268) -/
  | jmp (y : Bool) (a : Fld)
  /-- SLI (R258) -/
  | sli (y : Bool) (d : Fld) (i : BitVec 18)
  /-- SLIS (R258) -/
  | slis (y : Bool) (d : Fld) (i : BitVec 18)
  /-- VLI (R258) -/
  | vli (y : Bool) (d : Fld) (i : BitVec 18)
  /-- VLIH (R258) -/
  | vlih (y : Bool) (d : Fld) (i : BitVec 18)
  /-- TRET (R279) -/
  | tret (y : Bool)
  /-- PWLEAF (R282) -/
  | pwleaf (y : Bool) (d : Fld) (a : Fld) (b : Fld)
  /-- POBJ (R282) -/
  | pobj (y : Bool) (d : Fld) (a : Fld) (b : Fld)
  /-- PKEY (R282) -/
  | pkey (y : Bool) (d : Fld) (a : Fld) (b : Fld)
  /-- PWDOG (R282) -/
  | pwdog (y : Bool) (d : Fld) (a : Fld) (b : Fld)
  /-- PMCSET (R282) -/
  | pmcset (y : Bool) (d : Fld) (a : Fld) (b : Fld)
  /-- PEVENT (R282) -/
  | pevent (y : Bool) (d : Fld) (a : Fld) (b : Fld)
  /-- PSAVE (R282) -/
  | psave (y : Bool) (d : Fld) (a : Fld) (b : Fld)
  /-- PREST (R282) -/
  | prest (y : Bool) (d : Fld) (a : Fld) (b : Fld)
  /-- PFQ (R282) -/
  | pfq (y : Bool) (d : Fld) (a : Fld) (b : Fld)
  /-- TRAP (R278) -/
  | trap (y : Bool) (i : BitVec 8)
  /-- SYSR (R280) -/
  | sysr (y : Bool) (d : Fld) (n : BitVec 10)
  /-- SYSW (R280) -/
  | sysw (y : Bool) (a : Fld) (n : BitVec 10)
  deriving DecidableEq, Repr

end Sys2Proof
end

