-- ==== Sys2Proof/WellFormed.lean ====
section
/-! DEFINITION. Which instructions are well formed: every check that needs the word alone (14 R245, R260). What needs
the group (its window, its x and a counts, its visible width, H) is checked when the instruction runs. -/

namespace Sys2Proof

/-- A 64-bit vector operand or an offset pair: an even field (R245, kind p). -/
def isPair (n : Fld) : Bool := n.toNat % 2 == 0
/-- A mask triple as a source: 0 to 125 (R245, kind m). -/
def isTriple (n : Fld) : Bool := decide (n.toNat ≤ 125)
/-- A mask triple as a destination: it may not include any of s116-s123 (R131, R245). -/
def isTripleDest (n : Fld) : Bool := decide (n.toNat ≤ 125) && (decide (n.toNat + 2 < 116) || decide (123 < n.toNat))
/-- A capability register: 0 to 31. -/
def isCap (n : Fld) : Bool := decide (n.toNat < 32)
/-- A small-matrix register: 0 to 15, even in an .F64 form. -/
def isX (n : Fld) (f : Bool) : Bool := decide (n.toNat < 16) && (!f || isPair n)
/-- A vector value, a pair when it is 64 bits wide. -/
def isVal (wide : Bool) (n : Fld) : Bool := !wide || isPair n
/-- An accumulator handle: 0 to 7. -/
def isHandle (n : Fld) : Bool := decide (n.toNat < 8)
/-- A rejoin register: 116 to 123 (R133). -/
def isRejoin (n : Fld) : Bool := decide (116 ≤ n.toNat) && decide (n.toNat ≤ 123)
/-- A scalar run of `k` registers (R245). -/
def isRun (k : Nat) (n : Fld) : Bool := decide (n.toNat + k ≤ 128)
/-- The vector run of ten of POST: even, at most 118. -/
def isPostRun (n : Fld) : Bool := isPair n && decide (n.toNat ≤ 118)
/-- The data of ATOM.CAS: a pair for 32 bits, a quad for 64 (R255 item 5). -/
def isCasData (t : BitVec 2) (n : Fld) : Bool := if t.getLsbD 1 then n.toNat % 4 == 0 else isPair n
/-- A row or column count of XSHP: 1 to 6. -/
def isDim (n : Fld) : Bool := decide (1 ≤ n.toNat) && decide (n.toNat ≤ 6)
/-- An element index of XGET and XPUT: 0 to 5. -/
def isIndex (n : BitVec 3) : Bool := decide (n.toNat ≤ 5)
/-- MSWAP's triples are disjoint or equal (R266). -/
def swapOk (d a : Fld) : Bool := d == a || decide (d.toNat + 3 ≤ a.toNat) || decide (a.toNat + 3 ≤ d.toNat)
/-- A reduction's operation and type (R253). -/
def redOk (o : BitVec 3) (t : BitVec 2) : Bool :=
  decide (o.toNat ≤ 5) && decide (t.toNat ≤ 2) && !(decide (3 ≤ o.toNat) && t == 2)
/-- An ATOM without a flavour carries scope 0 (R255 item 3). -/
def flavourOk (f s : BitVec 2) : Bool := f != 0 || s == 0

/-- The type codes of R209 that are floating-point formats with FCVT forms. -/
def isFloatCode (t : BitVec 5) : Bool := decide (1 ≤ t.toNat) && decide (t.toNat ≤ 6)
/-- The type codes of the I and N types. -/
def isIntCode (t : BitVec 5) : Bool := decide (16 ≤ t.toNat) && decide (t.toNat ≤ 23)
/-- The block formats NB2, NB4 and NB7. -/
def isBlockCode (t : BitVec 5) : Bool := t == 8 || t == 9 || t == 10
/-- The affine formats A8 and A4. -/
def isAffineCode (t : BitVec 5) : Bool := t == 12 || t == 13
/-- A type of 64 bits: F64, I64, N64. -/
def isWideCode (t : BitVec 5) : Bool := t == 1 || t == 0x13 || t == 0x17

/-- The FCVT pairs that exist, and where .SAT and .RN may stand (R251). -/
def fcvtOk (t c : BitVec 5) (rn sat : Bool) : Bool :=
  ((isFloatCode t && ((isFloatCode c && c != t) || isIntCode c))
    || (isIntCode t && (c == 1 || c == 2 || c == 3 || c == 4))
    || (t == 2 && (isBlockCode c || isAffineCode c))
    || (isBlockCode t && (c == 2 || c == 3 || c == 4))
    || (isAffineCode t && c == 2))
  && (!sat || t == 5 || t == 6) && (!rn || !(isBlockCode t || isAffineCode t))

/-- FCVT's operand kinds: a 64-bit type makes its operand a pair, an affine type makes the a operand one (R295). -/
def fcvtRegs (t c : BitVec 5) (d a : Fld) : Bool :=
  isVal (isWideCode t) d && isVal (isWideCode c || isAffineCode t || isAffineCode c) a

/-- The kind of a system register's operand. -/
inductive SysKind where
  | scalar
  | capability
  | vector
  deriving DecidableEq, Repr

/-- The system registers of R261: kind, and whether SYSW may write it. -/
def sysReg (n : Nat) : Option (SysKind × Bool) :=
  if n ≤ 0x00A then some (.scalar, false)
  else if n = 0x010 || n = 0x011 || n = 0x013 then some (.scalar, true)
  else if n = 0x012 then some (.vector, true)
  else if 0x018 ≤ n && n ≤ 0x01C then some (.scalar, true)
  else if n = 0x020 then some (.capability, true)
  else if 0x021 ≤ n && n ≤ 0x023 then some (.capability, false)
  else if n = 0x100 then some (.scalar, true)
  else if n = 0x101 || n = 0x102 then some (.scalar, false)
  else none

/-- A SYSR names a listed register, with a destination field of its kind (R261). -/
def sysrOk (n : BitVec 10) (d : Fld) : Bool :=
  match sysReg n.toNat with
  | some (.capability, _) => isCap d
  | some _ => true
  | none => false

/-- A SYSW names a register that is not read-only, with a source field of its kind (R261). -/
def syswOk (n : BitVec 10) (a : Fld) : Bool :=
  match sysReg n.toNat with
  | some (.capability, rw) => rw && isCap a
  | some (_, rw) => rw
  | none => false

/-- The checks of the word alone. Operations and events are always well formed. -/
def Instr.wf : Instr → Bool
  | .vceq _ d _ _ => isTripleDest d
  | .vcne _ d _ _ => isTripleDest d
  | .vcltI _ d _ _ => isTripleDest d
  | .vcltN _ d _ _ => isTripleDest d
  | .vcleI _ d _ _ => isTripleDest d
  | .vcleN _ d _ _ => isTripleDest d
  | .vaddI64 _ d a b => isPair d && isPair a && isPair b
  | .vsubI64 _ d a b => isPair d && isPair a && isPair b
  | .vshlI64 _ d a _ => isPair d && isPair a
  | .vshrN64 _ d a _ => isPair d && isPair a
  | .vshrI64 _ d a _ => isPair d && isPair a
  | .fadd _ f d a b => isVal f d && isVal f a && isVal f b
  | .fsub _ f d a b => isVal f d && isVal f a && isVal f b
  | .fmul _ f d a b => isVal f d && isVal f a && isVal f b
  | .ffma _ f d a b => isVal f d && isVal f a && isVal f b
  | .ffms _ f d a b => isVal f d && isVal f a && isVal f b
  | .fmin _ f d a b => isVal f d && isVal f a && isVal f b
  | .fmax _ f d a b => isVal f d && isVal f a && isVal f b
  | .fabs _ f d a => isVal f d && isVal f a
  | .fneg _ f d a => isVal f d && isVal f a
  | .fceq _ f d a b => isTripleDest d && isVal f a && isVal f b
  | .fclt _ f d a b => isTripleDest d && isVal f a && isVal f b
  | .fcle _ f d a b => isTripleDest d && isVal f a && isVal f b
  | .fcun _ f d a b => isTripleDest d && isVal f a && isVal f b
  | .fdiv _ f d a b => isVal f d && isVal f a && isVal f b
  | .fsqrt _ f d a => isVal f d && isVal f a
  | .frnd _ f d a => isVal f d && isVal f a
  | .faddRn _ f d a b => isVal f d && isVal f a && isVal f b
  | .fsubRn _ f d a b => isVal f d && isVal f a && isVal f b
  | .fmulRn _ f d a b => isVal f d && isVal f a && isVal f b
  | .ffmaRn _ f d a b => isVal f d && isVal f a && isVal f b
  | .fcvt _ t d a n s c => fcvtOk t c n s && fcvtRegs t c d a
  | .xshp _ d r c => isX d false && isDim r && isDim c
  | .xzero _ d => isX d false
  | .xidn _ d => isX d false
  | .xld _ f d a _ => isX d f && isCap a
  | .xst _ f d a _ => isX d f && isCap a
  | .xget _ f d a i j => isVal f d && isX a f && isIndex i && isIndex j
  | .xput _ f d a i j => isX d f && isVal f a && isIndex i && isIndex j
  | .xmov _ f d a => isX d f && isX a f
  | .xtrn _ f d a => isX d f && isX a f
  | .xadd _ f d a b => isX d f && isX a f && isX b f
  | .xsub _ f d a b => isX d f && isX a f && isX b f
  | .xscl _ f d a b => isX d f && isX a f && isVal f b
  | .xmul _ f d a b => isX d f && isX a f && isX b f
  | .xmad _ f d a b => isX d f && isX a f && isX b f
  | .xmult _ f d a b => isX d f && isX a f && isX b f
  | .xmv _ f d a b => isX d f && isX a f && isX b f
  | .xchol _ f d a => isX d f && isX a f
  | .xlup _ f d a => isX d f && isX a f
  | .xsolv _ f d a b => isX d f && isX a f && isX b f
  | .xinv _ f d a => isX d f && isX a f
  | .xdet _ f d a => isVal f d && isX a f
  | .mand _ d a b => isTripleDest d && isTriple a && isTriple b
  | .mor _ d a b => isTripleDest d && isTriple a && isTriple b
  | .mxor _ d a b => isTripleDest d && isTriple a && isTriple b
  | .mandn _ d a b => isTripleDest d && isTriple a && isTriple b
  | .mnot _ d a => isTripleDest d && isTriple a
  | .mmov _ d a => isTripleDest d && isTriple a
  | .mpopc _ _ a => isTriple a
  | .mfirst _ _ a => isTriple a
  | .mswap _ d a => isTripleDest d && isTripleDest a && swapOk d a
  | .mfromv _ d _ => isTripleDest d
  | .mtov _ _ a => isTriple a
  | .voteAny _ _ a => isTriple a
  | .voteAll _ _ a => isTriple a
  | .voteBal _ d a => isTripleDest d && isTriple a
  | .vredW4 _ _ _ o t => redOk o t
  | .vredW8 _ _ _ o t => redOk o t
  | .vredW16 _ _ _ o t => redOk o t
  | .vredW32 _ _ _ o t => redOk o t
  | .vredW64 _ _ _ o t => redOk o t
  | .vredW96 _ _ _ o t => redOk o t
  | .vscanW4 _ _ _ o t => redOk o t
  | .vscanW8 _ _ _ o t => redOk o t
  | .vscanW16 _ _ _ o t => redOk o t
  | .vscanW32 _ _ _ o t => redOk o t
  | .vscanW64 _ _ _ o t => redOk o t
  | .vscanW96 _ _ _ o t => redOk o t
  | .ldI _ w d a _ => isVal (w == 3) d && isCap a
  | .ldN _ w d a _ => isVal (w == 3) d && isCap a
  | .sldI _ _ _ a _ => isCap a
  | .sldN _ _ _ a _ => isCap a
  | .ldx _ w d a b => isVal (w == 3) d && isCap a && isPair b
  | .cld _ d a _ => isCap d && isCap a
  | .ldLI _ w d a b => isVal (w == 3) d && isCap a && isPair b
  | .ldLN _ w d a b => isVal (w == 3) d && isCap a && isPair b
  | .ldAcq _ w _ d a _ => isVal (w == 3) d && isCap a
  | .sldAcq _ _ _ _ a _ => isCap a
  | .stN _ w d a _ => isVal (w == 3) d && isCap a
  | .sstN _ _ _ a _ => isCap a
  | .cst _ d a _ => isCap d && isCap a
  | .stLN _ w d a b => isVal (w == 3) d && isCap a && isPair b
  | .stRel _ w _ d a _ => isVal (w == 3) d && isCap a
  | .atomAdd _ t d f s _ _ => isVal (t.getLsbD 1) d && flavourOk f s
  | .atomAnd _ t d f s _ _ => isVal (t.getLsbD 1) d && flavourOk f s
  | .atomOr _ t d f s _ _ => isVal (t.getLsbD 1) d && flavourOk f s
  | .atomXor _ t d f s _ _ => isVal (t.getLsbD 1) d && flavourOk f s
  | .atomSwap _ t d f s _ _ => isVal (t.getLsbD 1) d && flavourOk f s
  | .atomCas _ t d f s _ _ => isCasData t d && flavourOk f s
  | .atomMin _ t d f s _ _ => isVal (t.getLsbD 1) d && flavourOk f s
  | .atomMax _ t d f s _ _ => isVal (t.getLsbD 1) d && flavourOk f s
  | .csub _ d a b => isCap d && isCap a && isRun 2 b
  | .crgt _ d a _ => isCap d && isCap a
  | .cget _ _ a k => isCap a && decide (k.toNat ≤ 5)
  | .cmov _ d a => isCap d && isCap a
  | .cclr _ d => isCap d
  | .cstash _ d _ _ => isCap d
  | .pref _ a _ => isCap a
  | .smap _ _ a _ => isCap a
  | .mxR _ d _ b => isHandle d && isRun 4 b
  | .mxS _ d _ b => isHandle d && isRun 4 b
  | .mxjob _ d _ b => isHandle d && isCap b
  | .mxza _ d => isHandle d
  | .mxlda _ d _ b => isHandle d && isRun 2 b
  | .mxst _ d _ b => isHandle d && isRun 4 b
  | .cpy _ d a b => isCap d && isCap a && isRun 4 b
  | .cpyR _ d a b => isCap d && isCap a && isRun 4 b
  | .coll _ d a b => isCap d && isCap a && isRun 4 b
  | .nsend _ a b => isCap a && isRun 4 b
  | .pub _ a => isCap a
  | .post _ _ a b => isCap a && isPostRun b
  | .launch _ _ b => isRun 8 b
  | .arm _ _ a b => isCap a && isRun 2 b
  | .brmZ _ c _ => isTriple c
  | .brmNz _ c _ => isTriple c
  | .join _ j => isRejoin j
  | .wait _ a _ => isRun 2 a
  | .vdead _ a b => decide (a.toNat ≤ b.toNat)
  | .sysr _ d n => sysrOk n d
  | .sysw _ a n => syswOk n a
  | .sadd _ _ _ _
  | .ssub _ _ _ _
  | .smul _ _ _ _
  | .smulhI _ _ _ _
  | .smulhN _ _ _ _
  | .sdivI _ _ _ _
  | .sdivN _ _ _ _
  | .sremI _ _ _ _
  | .sremN _ _ _ _
  | .sand _ _ _ _
  | .sor _ _ _ _
  | .sxor _ _ _ _
  | .sandn _ _ _ _
  | .sshl _ _ _ _
  | .sshrN _ _ _ _
  | .sshrI _ _ _ _
  | .sror _ _ _ _
  | .sminI _ _ _ _
  | .sminN _ _ _ _
  | .smaxI _ _ _ _
  | .smaxN _ _ _ _
  | .sseq _ _ _ _
  | .ssne _ _ _ _
  | .ssltI _ _ _ _
  | .ssltN _ _ _ _
  | .ssleI _ _ _ _
  | .ssleN _ _ _ _
  | .spopc _ _ _
  | .sclz _ _ _
  | .sctz _ _ _
  | .slea4 _ _ _ _
  | .slea8 _ _ _ _
  | .saddi _ _ _ _
  | .sandi _ _ _ _
  | .sori _ _ _ _
  | .sxori _ _ _ _
  | .sshli _ _ _ _
  | .sshriN _ _ _ _
  | .sshriI _ _ _ _
  | .ssltiI _ _ _ _
  | .vadd _ _ _ _
  | .vsub _ _ _ _
  | .vmul _ _ _ _
  | .vmulhI _ _ _ _
  | .vmulhN _ _ _ _
  | .vaddsI _ _ _ _
  | .vaddsN _ _ _ _
  | .vsubsI _ _ _ _
  | .vsubsN _ _ _ _
  | .vand _ _ _ _
  | .vor _ _ _ _
  | .vxor _ _ _ _
  | .vandn _ _ _ _
  | .vshl _ _ _ _
  | .vshrN _ _ _ _
  | .vshrI _ _ _ _
  | .vminI _ _ _ _
  | .vminN _ _ _ _
  | .vmaxI _ _ _ _
  | .vmaxN _ _ _ _
  | .vdot4I8 _ _ _ _
  | .vdot4N8 _ _ _ _
  | .vpopc _ _ _
  | .vclz _ _ _
  | .vmov _ _ _
  | .vdup _ _ _
  | .vaddi _ _ _ _
  | .vandi _ _ _ _
  | .vori _ _ _ _
  | .vxori _ _ _ _
  | .vshli _ _ _ _
  | .vshriN _ _ _ _
  | .vshriI _ _ _ _
  | .vmovi _ _ _
  | .frcp _ _ _
  | .frsq _ _ _
  | .fexp2 _ _ _
  | .flog2 _ _ _
  | .fsin _ _ _
  | .fcos _ _ _
  | .ftanh _ _ _
  | .hadd2F16 _ _ _ _
  | .hmul2F16 _ _ _ _
  | .hfma2F16 _ _ _ _
  | .hadd2Bf16 _ _ _ _
  | .hmul2Bf16 _ _ _ _
  | .hfma2Bf16 _ _ _ _
  | .xflag _ _
  | .shflIdxW4 _ _ _ _
  | .shflIdxW8 _ _ _ _
  | .shflIdxW16 _ _ _ _
  | .shflIdxW32 _ _ _ _
  | .shflIdxW64 _ _ _ _
  | .shflIdxW96 _ _ _ _
  | .shflXorW4 _ _ _ _
  | .shflXorW8 _ _ _ _
  | .shflXorW16 _ _ _ _
  | .shflXorW32 _ _ _ _
  | .shflXorW64 _ _ _ _
  | .shflXorW96 _ _ _ _
  | .shflUpW4 _ _ _ _
  | .shflUpW8 _ _ _ _
  | .shflUpW16 _ _ _ _
  | .shflUpW32 _ _ _ _
  | .shflUpW64 _ _ _ _
  | .shflUpW96 _ _ _ _
  | .shflDnW4 _ _ _ _
  | .shflDnW8 _ _ _ _
  | .shflDnW16 _ _ _ _
  | .shflDnW32 _ _ _ _
  | .shflDnW64 _ _ _ _
  | .shflDnW96 _ _ _ _
  | .vbcastW4 _ _ _ _
  | .vbcastW8 _ _ _ _
  | .vbcastW16 _ _ _ _
  | .vbcastW32 _ _ _ _
  | .vbcastW64 _ _ _ _
  | .vbcastW96 _ _ _ _
  | .sunmap _ _
  | .sflush _ _
  | .fenceAcqGroup _
  | .fenceAcqBlock _
  | .fenceAcqChip _
  | .fenceAcqPod _
  | .fenceAcqSys _
  | .fenceRelGroup _
  | .fenceRelBlock _
  | .fenceRelChip _
  | .fenceRelPod _
  | .fenceRelSys _
  | .fenceFullGroup _
  | .fenceFullBlock _
  | .fenceFullChip _
  | .fenceFullPod _
  | .fenceFullSys _
  | .barInit _ _ _
  | .barArrive _ _ _
  | .barExpect _ _ _
  | .barWait _ _ _
  | .barArriveW _ _ _
  | .gate _
  | .rlse _
  | .bclose _ _
  | .waitb _ _
  | .br _ _
  | .bsr _ _
  | .brcZ _ _ _
  | .brcNz _ _ _
  | .brcLt _ _ _
  | .brcGe _ _ _
  | .winb _ _
  | .call _ _
  | .ret _
  | .exit _
  | .rgn _
  | .rgnx _
  | .yieldc _
  | .sleep _ _
  | .jmp _ _
  | .sli _ _ _
  | .slis _ _ _
  | .vli _ _ _
  | .vlih _ _ _
  | .tret _
  | .pwleaf _ _ _ _
  | .pobj _ _ _ _
  | .pkey _ _ _ _
  | .pwdog _ _ _ _
  | .pmcset _ _ _ _
  | .pevent _ _ _ _
  | .psave _ _ _ _
  | .prest _ _ _ _
  | .pfq _ _ _ _
  | .trap _ _ => true
  | .powerOn _
  | .coldReset _
  | .warmReset _
  | .bootRomStart _
  | .powerWindow _
  | .thermalStep _
  | .thermalHold _ _
  | .thermtrip _
  | .hostModuleTraining _
  | .submitWrite _
  | .submitBufferDrain
  | .subdropRead _
  | .errlostRead _
  | .errtailWrite _
  | .svctailWrite _
  | .pmodeWrite _
  | .hostRegisterWrite _
  | .serviceReply _
  | .serviceRequest
  | .svclate _
  | .attest _
  | .loadrun _
  | .update _
  | .raisemin _
  | .badCommand _
  | .kemkey _
  | .ctxopen _
  | .keyload _
  | .ctxclose _
  | .erase _
  | .sweep _
  | .receipt _
  | .rekey _
  | .mailboxComplete
  | .fwdog _
  | .dieDrop _
  | .errorRetry _
  | .dataFrame _ _
  | .idleFrame _ _
  | .retryRequest _ _
  | .portRetrain _
  | .portDown _
  | .portTrained _
  | .read _
  | .write _
  | .atomic _
  | .cpyput _
  | .task _
  | .readresp _
  | .writeack _
  | .atomresp _
  | .seqack _
  | .seqackTimer _
  | .pairBreak _
  | .mcwrite _
  | .mcreply _
  | .redresult _
  | .swattest _
  | .event _
  | .tailFetch
  | .tailRequest _ _ _ _
  | .tailData _ _ _
  | .snapshotRequest _ _ _
  | .snapshotData _ _ _
  | .notHeld _ _
  | .transferTimeout
  | .submit
  | .fire
  | .finishBlocksEnded
  | .signalOrDone _
  | .finishSignalWritten
  | .block
  | .resume
  | .release
  | .fault
  | .share
  | .loss
  | .admitChip
  | .expel
  | .capacity
  | .soundDigest
  | .soundClose
  | .soundVerdict
  | .soundwaitExpiry
  | .expelwaitExpiry _
  | .rejoin
  | .nosnapshot
  | .blockStart _
  | .dormancy _
  | .blockEnd _
  | .taskGroupTimeout _
  | .activation _
  | .registerFill _
  | .contextFault _ _
  | .resultWrite _
  | .trapDelivery _
  | .quiescenceRelease _ _
  | .waitReread _ _
  | .waitDeadline _ _
  | .sleepDeadline _ _
  | .weirRequest
  | .walkComplete _ _
  | .pageFaultWake _ _ _
  | .pageFaultRefusal _ _ _
  | .noWakeReplay _
  | .localtimeout _
  | .publishComplete _
  | .engineComplete _ _
  | .messageArrival _ _
  | .saveDone _
  | .restoreDone _
  | .saveRetry _
  | .thermalHoldEnd _
  | .candidateSilence
  | .firmwareReadiness _ => true

end Sys2Proof
end

