-- ==== Sys2Proof/Decode.lean ====
section
/-! DEFINITION. The decoder and the encoder of Efgus words, from the formats and maps of 14 R246-R260. A word that
`decode` refuses raises UND (R260). The compiled code of Lean cannot allocate the constructors past number 244 of one
type, so these definitions are `noncomputable`: the kernel evaluates them. -/

namespace Sys2Proof

noncomputable section

/-- A format R word: class, minor, and three 7-bit fields (R246). -/
def packR (y : Bool) (cls : BitVec 4) (minor : BitVec 6) (d a b : Fld) : W32 :=
  BitVec.ofBool y ++ (cls ++ (minor ++ (d ++ (a ++ b))))
/-- A format M word: class, width, op, and three 7-bit fields. -/
def packM (y : Bool) (cls : BitVec 4) (width : BitVec 2) (op : BitVec 4) (d a b : Fld) : W32 :=
  packR y cls (width ++ op) d a b
/-- A format I word: class, minor, two 7-bit fields and imm10. -/
def packI (y : Bool) (cls : BitVec 4) (minor : BitVec 3) (d a : Fld) (imm : BitVec 10) : W32 :=
  BitVec.ofBool y ++ (cls ++ (minor ++ (d ++ (a ++ imm))))
/-- A format U word: class, minor, one 7-bit field and imm18. -/
def packU (y : Bool) (cls : BitVec 4) (minor : BitVec 2) (d : Fld) (imm : BitVec 18) : W32 :=
  BitVec.ofBool y ++ (cls ++ (minor ++ (d ++ imm)))
/-- A format B word: class, minor, condition register and offset. -/
def packB (y : Bool) (cls : BitVec 4) (minor : BitVec 3) (c : Fld) (o : BitVec 17) : W32 :=
  BitVec.ofBool y ++ (cls ++ (minor ++ (c ++ o)))

/-- The switch bit. -/
def wordY (w : W32) : Bool := w.getLsbD 31
/-- The class. -/
def wordClass (w : W32) : BitVec 4 := w.extractLsb' 27 4
/-- The minor of formats R and M (in M: width, then op). -/
def wordMinor (w : W32) : BitVec 6 := w.extractLsb' 21 6
/-- The d field of format R. -/
def wordD (w : W32) : Fld := w.extractLsb' 14 7
/-- The a field of format R. -/
def wordA (w : W32) : Fld := w.extractLsb' 7 7
/-- The b field of format R. -/
def wordB (w : W32) : Fld := w.extractLsb' 0 7
/-- The minor of formats I and B. -/
def wordMinor3 (w : W32) : BitVec 3 := w.extractLsb' 24 3
/-- The d field of format I and the condition field of format B. -/
def wordDI (w : W32) : Fld := w.extractLsb' 17 7
/-- The a field of format I. -/
def wordAI (w : W32) : Fld := w.extractLsb' 10 7
/-- imm10. -/
def wordImm10 (w : W32) : BitVec 10 := w.extractLsb' 0 10
/-- The offset of format B. -/
def wordOff (w : W32) : BitVec 17 := w.extractLsb' 0 17
/-- The minor of format U. -/
def wordMinor2 (w : W32) : BitVec 2 := w.extractLsb' 25 2
/-- The d field of format U. -/
def wordDU (w : W32) : Fld := w.extractLsb' 18 7
/-- imm18. -/
def wordImm18 (w : W32) : BitVec 18 := w.extractLsb' 0 18

/-- Class 0, scalar ALU (R248). -/
def decodeScalarR (y : Bool) (minor : BitVec 6) (d a b : Fld) : Option Instr :=
  match minor.toNat with
  | 0 => some (.sadd y d a b)
  | 1 => some (.ssub y d a b)
  | 2 => some (.smul y d a b)
  | 3 => some (.smulhI y d a b)
  | 4 => some (.smulhN y d a b)
  | 5 => some (.sdivI y d a b)
  | 6 => some (.sdivN y d a b)
  | 7 => some (.sremI y d a b)
  | 8 => some (.sremN y d a b)
  | 9 => some (.sand y d a b)
  | 10 => some (.sor y d a b)
  | 11 => some (.sxor y d a b)
  | 12 => some (.sandn y d a b)
  | 13 => some (.sshl y d a b)
  | 14 => some (.sshrN y d a b)
  | 15 => some (.sshrI y d a b)
  | 16 => some (.sror y d a b)
  | 17 => some (.sminI y d a b)
  | 18 => some (.sminN y d a b)
  | 19 => some (.smaxI y d a b)
  | 20 => some (.smaxN y d a b)
  | 21 => some (.sseq y d a b)
  | 22 => some (.ssne y d a b)
  | 23 => some (.ssltI y d a b)
  | 24 => some (.ssltN y d a b)
  | 25 => some (.ssleI y d a b)
  | 26 => some (.ssleN y d a b)
  | 27 => if b == 0 then some (.spopc y d a) else none
  | 28 => if b == 0 then some (.sclz y d a) else none
  | 29 => if b == 0 then some (.sctz y d a) else none
  | 30 => some (.slea4 y d a b)
  | 31 => some (.slea8 y d a b)
  | _ => none

/-- Class 1, scalar immediates (R248). -/
def decodeScalarI (y : Bool) (minor : BitVec 3) (d a : Fld) (imm : BitVec 10) : Option Instr :=
  match minor.toNat with
  | 0 => some (.saddi y d a imm)
  | 1 => some (.sandi y d a imm)
  | 2 => some (.sori y d a imm)
  | 3 => some (.sxori y d a imm)
  | 4 => if imm.extractLsb' 6 4 == 0 then some (.sshli y d a (imm.extractLsb' 0 6)) else none
  | 5 => if imm.extractLsb' 6 4 == 0 then some (.sshriN y d a (imm.extractLsb' 0 6)) else none
  | 6 => if imm.extractLsb' 6 4 == 0 then some (.sshriI y d a (imm.extractLsb' 0 6)) else none
  | _ => some (.ssltiI y d a imm)

/-- Class 2, vector integer (R249). -/
def decodeVectorR (y : Bool) (minor : BitVec 6) (d a b : Fld) : Option Instr :=
  match minor.toNat with
  | 0 => some (.vadd y d a b)
  | 1 => some (.vsub y d a b)
  | 2 => some (.vmul y d a b)
  | 3 => some (.vmulhI y d a b)
  | 4 => some (.vmulhN y d a b)
  | 5 => some (.vaddsI y d a b)
  | 6 => some (.vaddsN y d a b)
  | 7 => some (.vsubsI y d a b)
  | 8 => some (.vsubsN y d a b)
  | 9 => some (.vand y d a b)
  | 10 => some (.vor y d a b)
  | 11 => some (.vxor y d a b)
  | 12 => some (.vandn y d a b)
  | 13 => some (.vshl y d a b)
  | 14 => some (.vshrN y d a b)
  | 15 => some (.vshrI y d a b)
  | 16 => some (.vminI y d a b)
  | 17 => some (.vminN y d a b)
  | 18 => some (.vmaxI y d a b)
  | 19 => some (.vmaxN y d a b)
  | 20 => some (.vdot4I8 y d a b)
  | 21 => some (.vdot4N8 y d a b)
  | 22 => if b == 0 then some (.vpopc y d a) else none
  | 23 => if b == 0 then some (.vclz y d a) else none
  | 24 => some (.vceq y d a b)
  | 25 => some (.vcne y d a b)
  | 26 => some (.vcltI y d a b)
  | 27 => some (.vcltN y d a b)
  | 28 => some (.vcleI y d a b)
  | 29 => some (.vcleN y d a b)
  | 30 => if b == 0 then some (.vmov y d a) else none
  | 31 => if b == 0 then some (.vdup y d a) else none
  | 32 => some (.vaddI64 y d a b)
  | 33 => some (.vsubI64 y d a b)
  | 34 => some (.vshlI64 y d a b)
  | 35 => some (.vshrN64 y d a b)
  | 36 => some (.vshrI64 y d a b)
  | _ => none

/-- Class 3, vector immediates (R249). -/
def decodeVectorI (y : Bool) (minor : BitVec 3) (d a : Fld) (imm : BitVec 10) : Option Instr :=
  match minor.toNat with
  | 0 => some (.vaddi y d a imm)
  | 1 => some (.vandi y d a imm)
  | 2 => some (.vori y d a imm)
  | 3 => some (.vxori y d a imm)
  | 4 => if imm.extractLsb' 5 5 == 0 then some (.vshli y d a (imm.extractLsb' 0 5)) else none
  | 5 => if imm.extractLsb' 5 5 == 0 then some (.vshriN y d a (imm.extractLsb' 0 5)) else none
  | 6 => if imm.extractLsb' 5 5 == 0 then some (.vshriI y d a (imm.extractLsb' 0 5)) else none
  | _ => if a == 0 then some (.vmovi y d imm) else none

/-- Class 4, floating-point arithmetic (R250). -/
def decodeFloat (y : Bool) (minor : BitVec 6) (d a b : Fld) : Option Instr :=
  match minor.toNat with
  | 0 => some (.fadd y false d a b)
  | 16 => some (.fadd y true d a b)
  | 1 => some (.fsub y false d a b)
  | 17 => some (.fsub y true d a b)
  | 2 => some (.fmul y false d a b)
  | 18 => some (.fmul y true d a b)
  | 3 => some (.ffma y false d a b)
  | 19 => some (.ffma y true d a b)
  | 4 => some (.ffms y false d a b)
  | 20 => some (.ffms y true d a b)
  | 5 => some (.fmin y false d a b)
  | 21 => some (.fmin y true d a b)
  | 6 => some (.fmax y false d a b)
  | 22 => some (.fmax y true d a b)
  | 7 => if b == 0 then some (.fabs y false d a) else none
  | 23 => if b == 0 then some (.fabs y true d a) else none
  | 8 => if b == 0 then some (.fneg y false d a) else none
  | 24 => if b == 0 then some (.fneg y true d a) else none
  | 9 => some (.fceq y false d a b)
  | 25 => some (.fceq y true d a b)
  | 10 => some (.fclt y false d a b)
  | 26 => some (.fclt y true d a b)
  | 11 => some (.fcle y false d a b)
  | 27 => some (.fcle y true d a b)
  | 12 => some (.fcun y false d a b)
  | 28 => some (.fcun y true d a b)
  | 13 => some (.fdiv y false d a b)
  | 29 => some (.fdiv y true d a b)
  | 14 => if b == 0 then some (.fsqrt y false d a) else none
  | 30 => if b == 0 then some (.fsqrt y true d a) else none
  | 15 => if b == 0 then some (.frnd y false d a) else none
  | 31 => if b == 0 then some (.frnd y true d a) else none
  | 32 => some (.faddRn y false d a b)
  | 36 => some (.faddRn y true d a b)
  | 33 => some (.fsubRn y false d a b)
  | 37 => some (.fsubRn y true d a b)
  | 34 => some (.fmulRn y false d a b)
  | 38 => some (.fmulRn y true d a b)
  | 35 => some (.ffmaRn y false d a b)
  | 39 => some (.ffmaRn y true d a b)
  | _ => none

/-- Class 5, SFU, packed half and conversions (R251). -/
def decodeConvert (y : Bool) (minor : BitVec 6) (d a b : Fld) : Option Instr :=
  match minor.toNat with
  | 0 => if b == 0 then some (.frcp y d a) else none
  | 1 => if b == 0 then some (.frsq y d a) else none
  | 2 => if b == 0 then some (.fexp2 y d a) else none
  | 3 => if b == 0 then some (.flog2 y d a) else none
  | 4 => if b == 0 then some (.fsin y d a) else none
  | 5 => if b == 0 then some (.fcos y d a) else none
  | 6 => if b == 0 then some (.ftanh y d a) else none
  | 8 => some (.hadd2F16 y d a b)
  | 9 => some (.hmul2F16 y d a b)
  | 10 => some (.hfma2F16 y d a b)
  | 11 => some (.hadd2Bf16 y d a b)
  | 12 => some (.hmul2Bf16 y d a b)
  | 13 => some (.hfma2Bf16 y d a b)
  | m => if 32 ≤ m then some (.fcvt y (minor.extractLsb' 0 5) d a (b.getLsbD 6) (b.getLsbD 5) (b.extractLsb' 0 5)) else none

/-- Class 6, small-matrix (R252). -/
def decodeSmallMatrix (y : Bool) (minor : BitVec 6) (d a b : Fld) : Option Instr :=
  match minor.toNat with
  | 0 => some (.xshp y d a b)
  | 1 => if a == 0 && b == 0 then some (.xzero y d) else none
  | 2 => if a == 0 && b == 0 then some (.xidn y d) else none
  | 3 => some (.xld y false d a b)
  | 35 => some (.xld y true d a b)
  | 4 => some (.xst y false d a b)
  | 36 => some (.xst y true d a b)
  | 5 => if b.getLsbD 6 == false then some (.xget y false d a (b.extractLsb' 3 3) (b.extractLsb' 0 3)) else none
  | 37 => if b.getLsbD 6 == false then some (.xget y true d a (b.extractLsb' 3 3) (b.extractLsb' 0 3)) else none
  | 6 => if b.getLsbD 6 == false then some (.xput y false d a (b.extractLsb' 3 3) (b.extractLsb' 0 3)) else none
  | 38 => if b.getLsbD 6 == false then some (.xput y true d a (b.extractLsb' 3 3) (b.extractLsb' 0 3)) else none
  | 7 => if b == 0 then some (.xmov y false d a) else none
  | 39 => if b == 0 then some (.xmov y true d a) else none
  | 8 => if b == 0 then some (.xtrn y false d a) else none
  | 40 => if b == 0 then some (.xtrn y true d a) else none
  | 9 => some (.xadd y false d a b)
  | 41 => some (.xadd y true d a b)
  | 10 => some (.xsub y false d a b)
  | 42 => some (.xsub y true d a b)
  | 11 => some (.xscl y false d a b)
  | 43 => some (.xscl y true d a b)
  | 12 => some (.xmul y false d a b)
  | 44 => some (.xmul y true d a b)
  | 13 => some (.xmad y false d a b)
  | 45 => some (.xmad y true d a b)
  | 14 => some (.xmult y false d a b)
  | 46 => some (.xmult y true d a b)
  | 15 => some (.xmv y false d a b)
  | 47 => some (.xmv y true d a b)
  | 16 => if b == 0 then some (.xchol y false d a) else none
  | 48 => if b == 0 then some (.xchol y true d a) else none
  | 17 => if b == 0 then some (.xlup y false d a) else none
  | 49 => if b == 0 then some (.xlup y true d a) else none
  | 18 => some (.xsolv y false d a b)
  | 50 => some (.xsolv y true d a b)
  | 19 => if b == 0 then some (.xinv y false d a) else none
  | 51 => if b == 0 then some (.xinv y true d a) else none
  | 20 => if b == 0 then some (.xdet y false d a) else none
  | 52 => if b == 0 then some (.xdet y true d a) else none
  | 21 => if a == 0 && b == 0 then some (.xflag y d) else none
  | _ => none

/-- Class 7, mask triples and lane operations (R253). -/
def decodeLane (y : Bool) (minor : BitVec 6) (d a b : Fld) : Option Instr :=
  match minor.toNat with
  | 0 => some (.mand y d a b)
  | 1 => some (.mor y d a b)
  | 2 => some (.mxor y d a b)
  | 3 => some (.mandn y d a b)
  | 4 => if b == 0 then some (.mnot y d a) else none
  | 5 => if b == 0 then some (.mmov y d a) else none
  | 6 => if b == 0 then some (.mpopc y d a) else none
  | 7 => if b == 0 then some (.mfirst y d a) else none
  | 8 => if b == 0 then some (.mswap y d a) else none
  | 9 => if b == 0 then some (.mfromv y d a) else none
  | 10 => if b == 0 then some (.mtov y d a) else none
  | 16 => some (.shflIdxW4 y d a b)
  | 17 => some (.shflIdxW8 y d a b)
  | 18 => some (.shflIdxW16 y d a b)
  | 19 => some (.shflIdxW32 y d a b)
  | 20 => some (.shflIdxW64 y d a b)
  | 21 => some (.shflIdxW96 y d a b)
  | 22 => some (.shflXorW4 y d a b)
  | 23 => some (.shflXorW8 y d a b)
  | 24 => some (.shflXorW16 y d a b)
  | 25 => some (.shflXorW32 y d a b)
  | 26 => some (.shflXorW64 y d a b)
  | 27 => some (.shflXorW96 y d a b)
  | 28 => some (.shflUpW4 y d a b)
  | 29 => some (.shflUpW8 y d a b)
  | 30 => some (.shflUpW16 y d a b)
  | 31 => some (.shflUpW32 y d a b)
  | 32 => some (.shflUpW64 y d a b)
  | 33 => some (.shflUpW96 y d a b)
  | 34 => some (.shflDnW4 y d a b)
  | 35 => some (.shflDnW8 y d a b)
  | 36 => some (.shflDnW16 y d a b)
  | 37 => some (.shflDnW32 y d a b)
  | 38 => some (.shflDnW64 y d a b)
  | 39 => some (.shflDnW96 y d a b)
  | 40 => some (.vbcastW4 y d a b)
  | 41 => some (.vbcastW8 y d a b)
  | 42 => some (.vbcastW16 y d a b)
  | 43 => some (.vbcastW32 y d a b)
  | 44 => some (.vbcastW64 y d a b)
  | 45 => some (.vbcastW96 y d a b)
  | 46 => if b == 0 then some (.voteAny y d a) else none
  | 47 => if b == 0 then some (.voteAll y d a) else none
  | 48 => if b == 0 then some (.voteBal y d a) else none
  | 49 => if b.extractLsb' 0 2 == 0 then some (.vredW4 y d a (b.extractLsb' 4 3) (b.extractLsb' 2 2)) else none
  | 50 => if b.extractLsb' 0 2 == 0 then some (.vredW8 y d a (b.extractLsb' 4 3) (b.extractLsb' 2 2)) else none
  | 51 => if b.extractLsb' 0 2 == 0 then some (.vredW16 y d a (b.extractLsb' 4 3) (b.extractLsb' 2 2)) else none
  | 52 => if b.extractLsb' 0 2 == 0 then some (.vredW32 y d a (b.extractLsb' 4 3) (b.extractLsb' 2 2)) else none
  | 53 => if b.extractLsb' 0 2 == 0 then some (.vredW64 y d a (b.extractLsb' 4 3) (b.extractLsb' 2 2)) else none
  | 54 => if b.extractLsb' 0 2 == 0 then some (.vredW96 y d a (b.extractLsb' 4 3) (b.extractLsb' 2 2)) else none
  | 55 => if b.extractLsb' 0 2 == 0 then some (.vscanW4 y d a (b.extractLsb' 4 3) (b.extractLsb' 2 2)) else none
  | 56 => if b.extractLsb' 0 2 == 0 then some (.vscanW8 y d a (b.extractLsb' 4 3) (b.extractLsb' 2 2)) else none
  | 57 => if b.extractLsb' 0 2 == 0 then some (.vscanW16 y d a (b.extractLsb' 4 3) (b.extractLsb' 2 2)) else none
  | 58 => if b.extractLsb' 0 2 == 0 then some (.vscanW32 y d a (b.extractLsb' 4 3) (b.extractLsb' 2 2)) else none
  | 59 => if b.extractLsb' 0 2 == 0 then some (.vscanW64 y d a (b.extractLsb' 4 3) (b.extractLsb' 2 2)) else none
  | 60 => if b.extractLsb' 0 2 == 0 then some (.vscanW96 y d a (b.extractLsb' 4 3) (b.extractLsb' 2 2)) else none
  | _ => none

/-- Class 8, loads (R254). -/
def decodeLoad (y : Bool) (w : BitVec 2) (op : BitVec 4) (d a b : Fld) : Option Instr :=
  match op.toNat with
  | 0 => some (.ldI y w d a b)
  | 1 => some (.ldN y w d a b)
  | 2 => some (.sldI y w d a b)
  | 3 => some (.sldN y w d a b)
  | 4 => some (.ldx y w d a b)
  | 5 => if w == 0 then some (.cld y d a b) else none
  | 6 => some (.ldLI y w d a b)
  | 7 => some (.ldLN y w d a b)
  | 8 => some (.ldAcq y w 0 d a b)
  | 9 => some (.ldAcq y w 1 d a b)
  | 10 => some (.ldAcq y w 2 d a b)
  | 11 => some (.ldAcq y w 3 d a b)
  | 12 => some (.sldAcq y w 0 d a b)
  | 13 => some (.sldAcq y w 1 d a b)
  | 14 => some (.sldAcq y w 2 d a b)
  | 15 => some (.sldAcq y w 3 d a b)
  | _ => none

/-- Class 9, stores and atomics (R255). -/
def decodeStore (y : Bool) (w : BitVec 2) (op : BitVec 4) (d a b : Fld) : Option Instr :=
  match op.toNat with
  | 0 => some (.stN y w d a b)
  | 1 => some (.sstN y w d a b)
  | 2 => if w == 0 then some (.cst y d a b) else none
  | 3 => some (.stLN y w d a b)
  | 4 => some (.stRel y w 0 d a b)
  | 5 => some (.stRel y w 1 d a b)
  | 6 => some (.stRel y w 2 d a b)
  | 7 => some (.stRel y w 3 d a b)
  | 8 => some (.atomAdd y w d (a.extractLsb' 5 2) (a.extractLsb' 3 2) (a.extractLsb' 0 3) b)
  | 9 => some (.atomAnd y w d (a.extractLsb' 5 2) (a.extractLsb' 3 2) (a.extractLsb' 0 3) b)
  | 10 => some (.atomOr y w d (a.extractLsb' 5 2) (a.extractLsb' 3 2) (a.extractLsb' 0 3) b)
  | 11 => some (.atomXor y w d (a.extractLsb' 5 2) (a.extractLsb' 3 2) (a.extractLsb' 0 3) b)
  | 12 => some (.atomSwap y w d (a.extractLsb' 5 2) (a.extractLsb' 3 2) (a.extractLsb' 0 3) b)
  | 13 => some (.atomCas y w d (a.extractLsb' 5 2) (a.extractLsb' 3 2) (a.extractLsb' 0 3) b)
  | 14 => some (.atomMin y w d (a.extractLsb' 5 2) (a.extractLsb' 3 2) (a.extractLsb' 0 3) b)
  | 15 => some (.atomMax y w d (a.extractLsb' 5 2) (a.extractLsb' 3 2) (a.extractLsb' 0 3) b)
  | _ => none

/-- Class 10, capabilities, stash, fences and barriers (R256). -/
def decodeCap (y : Bool) (minor : BitVec 6) (d a b : Fld) : Option Instr :=
  match minor.toNat with
  | 0 => some (.csub y d a b)
  | 1 => some (.crgt y d a b)
  | 2 => some (.cget y d a b)
  | 3 => if b == 0 then some (.cmov y d a) else none
  | 4 => if a == 0 && b == 0 then some (.cclr y d) else none
  | 5 => some (.cstash y d a b)
  | 6 => if d == 0 then some (.pref y a b) else none
  | 8 => some (.smap y d a b)
  | 9 => if d == 0 && b == 0 then some (.sunmap y a) else none
  | 10 => if d == 0 && b == 0 then some (.sflush y a) else none
  | 16 => if d == 0 && a == 0 && b == 0 then some (.fenceAcqGroup y) else none
  | 17 => if d == 0 && a == 0 && b == 0 then some (.fenceAcqBlock y) else none
  | 18 => if d == 0 && a == 0 && b == 0 then some (.fenceAcqChip y) else none
  | 19 => if d == 0 && a == 0 && b == 0 then some (.fenceAcqPod y) else none
  | 20 => if d == 0 && a == 0 && b == 0 then some (.fenceAcqSys y) else none
  | 21 => if d == 0 && a == 0 && b == 0 then some (.fenceRelGroup y) else none
  | 22 => if d == 0 && a == 0 && b == 0 then some (.fenceRelBlock y) else none
  | 23 => if d == 0 && a == 0 && b == 0 then some (.fenceRelChip y) else none
  | 24 => if d == 0 && a == 0 && b == 0 then some (.fenceRelPod y) else none
  | 25 => if d == 0 && a == 0 && b == 0 then some (.fenceRelSys y) else none
  | 26 => if d == 0 && a == 0 && b == 0 then some (.fenceFullGroup y) else none
  | 27 => if d == 0 && a == 0 && b == 0 then some (.fenceFullBlock y) else none
  | 28 => if d == 0 && a == 0 && b == 0 then some (.fenceFullChip y) else none
  | 29 => if d == 0 && a == 0 && b == 0 then some (.fenceFullPod y) else none
  | 30 => if d == 0 && a == 0 && b == 0 then some (.fenceFullSys y) else none
  | 32 => if d == 0 then some (.barInit y a b) else none
  | 33 => if d == 0 then some (.barArrive y a b) else none
  | 34 => if d == 0 then some (.barExpect y a b) else none
  | 35 => if d == 0 then some (.barWait y a b) else none
  | 36 => if d == 0 then some (.barArriveW y a b) else none
  | _ => none

/-- Class 11, engines (R257). -/
def decodeEngine (y : Bool) (minor : BitVec 6) (d a b : Fld) : Option Instr :=
  match minor.toNat with
  | 0 => some (.mxR y d a b)
  | 1 => some (.mxS y d a b)
  | 2 => some (.mxjob y d a b)
  | 3 => if a == 0 && b == 0 then some (.mxza y d) else none
  | 4 => some (.mxlda y d a b)
  | 5 => some (.mxst y d a b)
  | 8 => some (.cpy y d a b)
  | 9 => some (.cpyR y d a b)
  | 10 => some (.coll y d a b)
  | 11 => if d == 0 then some (.nsend y a b) else none
  | 12 => if d == 0 && b == 0 then some (.pub y a) else none
  | 13 => some (.post y d a b)
  | 14 => if a == 0 then some (.launch y d b) else none
  | 15 => if d == 0 && a == 0 && b == 0 then some (.gate y) else none
  | 16 => if d == 0 && a == 0 && b == 0 then some (.rlse y) else none
  | 17 => if a == 0 && b == 0 then some (.bclose y d) else none
  | 18 => if d == 0 && b == 0 then some (.waitb y a) else none
  | 19 => some (.arm y d a b)
  | _ => none

/-- Class 12, branches (R258). -/
def decodeBranch (y : Bool) (minor : BitVec 3) (c : Fld) (o : BitVec 17) : Option Instr :=
  match minor.toNat with
  | 0 => if c == 0 then some (.br y o) else none
  | 1 => if c == 0 then some (.bsr y o) else none
  | 2 => some (.brcZ y c o)
  | 3 => some (.brcNz y c o)
  | 4 => some (.brmZ y c o)
  | 5 => some (.brmNz y c o)
  | 6 => some (.brcLt y c o)
  | _ => some (.brcGe y c o)

/-- Class 13, control (R258). -/
def decodeControl (y : Bool) (minor : BitVec 6) (d a b : Fld) : Option Instr :=
  match minor.toNat with
  | 0 => if d == 0 && b == 0 then some (.join y a) else none
  | 1 => if d == 0 then some (.wait y a b) else none
  | 2 => if d == 0 && a == 0 then some (.winb y b) else none
  | 3 => if d == 0 && b == 0 then some (.call y a) else none
  | 4 => if d == 0 && a == 0 && b == 0 then some (.ret y) else none
  | 5 => if d == 0 && a == 0 && b == 0 then some (.exit y) else none
  | 6 => if d == 0 && a == 0 && b == 0 then some (.rgn y) else none
  | 7 => if d == 0 && a == 0 && b == 0 then some (.rgnx y) else none
  | 8 => if d == 0 && a == 0 && b == 0 then some (.yieldc y) else none
  | 9 => if d == 0 && b == 0 then some (.sleep y a) else none
  | 10 => if d == 0 then some (.vdead y a b) else none
  | 11 => if d == 0 && b == 0 then some (.jmp y a) else none
  | _ => none

/-- Class 14, long immediates (R258). -/
def decodeLong (y : Bool) (minor : BitVec 2) (d : Fld) (i : BitVec 18) : Option Instr :=
  match minor.toNat with
  | 0 => some (.sli y d i)
  | 1 => some (.slis y d i)
  | 2 => some (.vli y d i)
  | _ => some (.vlih y d i)

/-- Class 15, system (R259), format R. -/
def decodeSystemR (y : Bool) (minor : BitVec 6) (d a b : Fld) : Option Instr :=
  match minor.toNat with
  | 0 => if d == 0 && a == 0 && b == 0 then some (.tret y) else none
  | 16 => some (.pwleaf y d a b)
  | 17 => some (.pobj y d a b)
  | 18 => some (.pkey y d a b)
  | 19 => some (.pwdog y d a b)
  | 20 => some (.pmcset y d a b)
  | 21 => some (.pevent y d a b)
  | 22 => some (.psave y d a b)
  | 23 => some (.prest y d a b)
  | 24 => some (.pfq y d a b)
  | _ => none

/-- Class 15, system (R259), format I. -/
def decodeSystemI (y : Bool) (minor : BitVec 3) (d a : Fld) (imm : BitVec 10) : Option Instr :=
  match minor.toNat with
  | 4 => if d == 0 && a == 0 && imm.extractLsb' 8 2 == 0 then some (.trap y (imm.extractLsb' 0 8)) else none
  | 5 => if a == 0 then some (.sysr y d imm) else none
  | 6 => if d == 0 then some (.sysw y a imm) else none
  | _ => none

/-- The instruction of a word, before the checks of `Instr.wf`. -/
def decodeRaw (w : W32) : Option Instr :=
  let y := wordY w
  let m := wordMinor w
  let d := wordD w
  let a := wordA w
  let b := wordB w
  match (wordClass w).toNat with
  | 0 => decodeScalarR y m d a b
  | 1 => decodeScalarI y (wordMinor3 w) (wordDI w) (wordAI w) (wordImm10 w)
  | 2 => decodeVectorR y m d a b
  | 3 => decodeVectorI y (wordMinor3 w) (wordDI w) (wordAI w) (wordImm10 w)
  | 4 => decodeFloat y m d a b
  | 5 => decodeConvert y m d a b
  | 6 => decodeSmallMatrix y m d a b
  | 7 => decodeLane y m d a b
  | 8 => decodeLoad y (m.extractLsb' 4 2) (m.extractLsb' 0 4) d a b
  | 9 => decodeStore y (m.extractLsb' 4 2) (m.extractLsb' 0 4) d a b
  | 10 => decodeCap y m d a b
  | 11 => decodeEngine y m d a b
  | 12 => decodeBranch y (wordMinor3 w) (wordDI w) (wordOff w)
  | 13 => decodeControl y m d a b
  | 14 => decodeLong y (wordMinor2 w) (wordDU w) (wordImm18 w)
  | _ => if w.getLsbD 26 then decodeSystemI y (wordMinor3 w) (wordDI w) (wordAI w) (wordImm10 w)
         else decodeSystemR y m d a b

/-- The well-formed instruction of a word, or none where the word raises UND (R260). -/
def decode (w : W32) : Option Instr :=
  match decodeRaw w with
  | some i => if i.wf then some i else none
  | none => none

/-- The decoder over bytes as they stand in memory: one little-endian 32-bit word (R246), and the bytes behind it. -/
def decodeBytes : List Byte → Option (Instr × List Byte)
  | b0 :: b1 :: b2 :: b3 :: rest => (decode (b3 ++ (b2 ++ (b1 ++ b0)))).map fun i => (i, rest)
  | _ => none

/-- The decoder on a row of the opcode table: `nbits` of `w` count, an instruction is one 32-bit word, stored
little-endian. -/
def decodeTableWord (nbits w : Nat) : Option Instr :=
  if nbits = 0 then none else (decodeBytes (leBytes 4 (w % 2 ^ nbits))).map Prod.fst

/-- The word of an instruction (R246-R259); an operation or event has none. -/
def encode : Instr → Option W32
  | .sadd y d a b => some (packR y 0 0 d a b)
  | .ssub y d a b => some (packR y 0 1 d a b)
  | .smul y d a b => some (packR y 0 2 d a b)
  | .smulhI y d a b => some (packR y 0 3 d a b)
  | .smulhN y d a b => some (packR y 0 4 d a b)
  | .sdivI y d a b => some (packR y 0 5 d a b)
  | .sdivN y d a b => some (packR y 0 6 d a b)
  | .sremI y d a b => some (packR y 0 7 d a b)
  | .sremN y d a b => some (packR y 0 8 d a b)
  | .sand y d a b => some (packR y 0 9 d a b)
  | .sor y d a b => some (packR y 0 10 d a b)
  | .sxor y d a b => some (packR y 0 11 d a b)
  | .sandn y d a b => some (packR y 0 12 d a b)
  | .sshl y d a b => some (packR y 0 13 d a b)
  | .sshrN y d a b => some (packR y 0 14 d a b)
  | .sshrI y d a b => some (packR y 0 15 d a b)
  | .sror y d a b => some (packR y 0 16 d a b)
  | .sminI y d a b => some (packR y 0 17 d a b)
  | .sminN y d a b => some (packR y 0 18 d a b)
  | .smaxI y d a b => some (packR y 0 19 d a b)
  | .smaxN y d a b => some (packR y 0 20 d a b)
  | .sseq y d a b => some (packR y 0 21 d a b)
  | .ssne y d a b => some (packR y 0 22 d a b)
  | .ssltI y d a b => some (packR y 0 23 d a b)
  | .ssltN y d a b => some (packR y 0 24 d a b)
  | .ssleI y d a b => some (packR y 0 25 d a b)
  | .ssleN y d a b => some (packR y 0 26 d a b)
  | .spopc y d a => some (packR y 0 27 d a 0)
  | .sclz y d a => some (packR y 0 28 d a 0)
  | .sctz y d a => some (packR y 0 29 d a 0)
  | .slea4 y d a b => some (packR y 0 30 d a b)
  | .slea8 y d a b => some (packR y 0 31 d a b)
  | .saddi y d a i => some (packI y 1 0 d a i)
  | .sandi y d a i => some (packI y 1 1 d a i)
  | .sori y d a i => some (packI y 1 2 d a i)
  | .sxori y d a i => some (packI y 1 3 d a i)
  | .sshli y d a i => some (packI y 1 4 d a ((0 : BitVec 4) ++ i))
  | .sshriN y d a i => some (packI y 1 5 d a ((0 : BitVec 4) ++ i))
  | .sshriI y d a i => some (packI y 1 6 d a ((0 : BitVec 4) ++ i))
  | .ssltiI y d a i => some (packI y 1 7 d a i)
  | .vadd y d a b => some (packR y 2 0 d a b)
  | .vsub y d a b => some (packR y 2 1 d a b)
  | .vmul y d a b => some (packR y 2 2 d a b)
  | .vmulhI y d a b => some (packR y 2 3 d a b)
  | .vmulhN y d a b => some (packR y 2 4 d a b)
  | .vaddsI y d a b => some (packR y 2 5 d a b)
  | .vaddsN y d a b => some (packR y 2 6 d a b)
  | .vsubsI y d a b => some (packR y 2 7 d a b)
  | .vsubsN y d a b => some (packR y 2 8 d a b)
  | .vand y d a b => some (packR y 2 9 d a b)
  | .vor y d a b => some (packR y 2 10 d a b)
  | .vxor y d a b => some (packR y 2 11 d a b)
  | .vandn y d a b => some (packR y 2 12 d a b)
  | .vshl y d a b => some (packR y 2 13 d a b)
  | .vshrN y d a b => some (packR y 2 14 d a b)
  | .vshrI y d a b => some (packR y 2 15 d a b)
  | .vminI y d a b => some (packR y 2 16 d a b)
  | .vminN y d a b => some (packR y 2 17 d a b)
  | .vmaxI y d a b => some (packR y 2 18 d a b)
  | .vmaxN y d a b => some (packR y 2 19 d a b)
  | .vdot4I8 y d a b => some (packR y 2 20 d a b)
  | .vdot4N8 y d a b => some (packR y 2 21 d a b)
  | .vpopc y d a => some (packR y 2 22 d a 0)
  | .vclz y d a => some (packR y 2 23 d a 0)
  | .vceq y d a b => some (packR y 2 24 d a b)
  | .vcne y d a b => some (packR y 2 25 d a b)
  | .vcltI y d a b => some (packR y 2 26 d a b)
  | .vcltN y d a b => some (packR y 2 27 d a b)
  | .vcleI y d a b => some (packR y 2 28 d a b)
  | .vcleN y d a b => some (packR y 2 29 d a b)
  | .vmov y d a => some (packR y 2 30 d a 0)
  | .vdup y d a => some (packR y 2 31 d a 0)
  | .vaddI64 y d a b => some (packR y 2 32 d a b)
  | .vsubI64 y d a b => some (packR y 2 33 d a b)
  | .vshlI64 y d a b => some (packR y 2 34 d a b)
  | .vshrN64 y d a b => some (packR y 2 35 d a b)
  | .vshrI64 y d a b => some (packR y 2 36 d a b)
  | .vaddi y d a i => some (packI y 3 0 d a i)
  | .vandi y d a i => some (packI y 3 1 d a i)
  | .vori y d a i => some (packI y 3 2 d a i)
  | .vxori y d a i => some (packI y 3 3 d a i)
  | .vshli y d a i => some (packI y 3 4 d a ((0 : BitVec 5) ++ i))
  | .vshriN y d a i => some (packI y 3 5 d a ((0 : BitVec 5) ++ i))
  | .vshriI y d a i => some (packI y 3 6 d a ((0 : BitVec 5) ++ i))
  | .vmovi y d i => some (packI y 3 7 d 0 i)
  | .fadd y f d a b => some (packR y 4 (bif f then 16 else 0) d a b)
  | .fsub y f d a b => some (packR y 4 (bif f then 17 else 1) d a b)
  | .fmul y f d a b => some (packR y 4 (bif f then 18 else 2) d a b)
  | .ffma y f d a b => some (packR y 4 (bif f then 19 else 3) d a b)
  | .ffms y f d a b => some (packR y 4 (bif f then 20 else 4) d a b)
  | .fmin y f d a b => some (packR y 4 (bif f then 21 else 5) d a b)
  | .fmax y f d a b => some (packR y 4 (bif f then 22 else 6) d a b)
  | .fabs y f d a => some (packR y 4 (bif f then 23 else 7) d a 0)
  | .fneg y f d a => some (packR y 4 (bif f then 24 else 8) d a 0)
  | .fceq y f d a b => some (packR y 4 (bif f then 25 else 9) d a b)
  | .fclt y f d a b => some (packR y 4 (bif f then 26 else 10) d a b)
  | .fcle y f d a b => some (packR y 4 (bif f then 27 else 11) d a b)
  | .fcun y f d a b => some (packR y 4 (bif f then 28 else 12) d a b)
  | .fdiv y f d a b => some (packR y 4 (bif f then 29 else 13) d a b)
  | .fsqrt y f d a => some (packR y 4 (bif f then 30 else 14) d a 0)
  | .frnd y f d a => some (packR y 4 (bif f then 31 else 15) d a 0)
  | .faddRn y f d a b => some (packR y 4 (bif f then 36 else 32) d a b)
  | .fsubRn y f d a b => some (packR y 4 (bif f then 37 else 33) d a b)
  | .fmulRn y f d a b => some (packR y 4 (bif f then 38 else 34) d a b)
  | .ffmaRn y f d a b => some (packR y 4 (bif f then 39 else 35) d a b)
  | .frcp y d a => some (packR y 5 0 d a 0)
  | .frsq y d a => some (packR y 5 1 d a 0)
  | .fexp2 y d a => some (packR y 5 2 d a 0)
  | .flog2 y d a => some (packR y 5 3 d a 0)
  | .fsin y d a => some (packR y 5 4 d a 0)
  | .fcos y d a => some (packR y 5 5 d a 0)
  | .ftanh y d a => some (packR y 5 6 d a 0)
  | .hadd2F16 y d a b => some (packR y 5 8 d a b)
  | .hmul2F16 y d a b => some (packR y 5 9 d a b)
  | .hfma2F16 y d a b => some (packR y 5 10 d a b)
  | .hadd2Bf16 y d a b => some (packR y 5 11 d a b)
  | .hmul2Bf16 y d a b => some (packR y 5 12 d a b)
  | .hfma2Bf16 y d a b => some (packR y 5 13 d a b)
  | .fcvt y t d a n s c => some (packR y 5 ((1 : BitVec 1) ++ t) d a (BitVec.ofBool n ++ (BitVec.ofBool s ++ c)))
  | .xshp y d r c => some (packR y 6 0 d r c)
  | .xzero y d => some (packR y 6 1 d 0 0)
  | .xidn y d => some (packR y 6 2 d 0 0)
  | .xld y f d a b => some (packR y 6 (bif f then 35 else 3) d a b)
  | .xst y f d a b => some (packR y 6 (bif f then 36 else 4) d a b)
  | .xget y f d a i j => some (packR y 6 (bif f then 37 else 5) d a ((0 : BitVec 1) ++ (i ++ j)))
  | .xput y f d a i j => some (packR y 6 (bif f then 38 else 6) d a ((0 : BitVec 1) ++ (i ++ j)))
  | .xmov y f d a => some (packR y 6 (bif f then 39 else 7) d a 0)
  | .xtrn y f d a => some (packR y 6 (bif f then 40 else 8) d a 0)
  | .xadd y f d a b => some (packR y 6 (bif f then 41 else 9) d a b)
  | .xsub y f d a b => some (packR y 6 (bif f then 42 else 10) d a b)
  | .xscl y f d a b => some (packR y 6 (bif f then 43 else 11) d a b)
  | .xmul y f d a b => some (packR y 6 (bif f then 44 else 12) d a b)
  | .xmad y f d a b => some (packR y 6 (bif f then 45 else 13) d a b)
  | .xmult y f d a b => some (packR y 6 (bif f then 46 else 14) d a b)
  | .xmv y f d a b => some (packR y 6 (bif f then 47 else 15) d a b)
  | .xchol y f d a => some (packR y 6 (bif f then 48 else 16) d a 0)
  | .xlup y f d a => some (packR y 6 (bif f then 49 else 17) d a 0)
  | .xsolv y f d a b => some (packR y 6 (bif f then 50 else 18) d a b)
  | .xinv y f d a => some (packR y 6 (bif f then 51 else 19) d a 0)
  | .xdet y f d a => some (packR y 6 (bif f then 52 else 20) d a 0)
  | .xflag y d => some (packR y 6 21 d 0 0)
  | .mand y d a b => some (packR y 7 0 d a b)
  | .mor y d a b => some (packR y 7 1 d a b)
  | .mxor y d a b => some (packR y 7 2 d a b)
  | .mandn y d a b => some (packR y 7 3 d a b)
  | .mnot y d a => some (packR y 7 4 d a 0)
  | .mmov y d a => some (packR y 7 5 d a 0)
  | .mpopc y d a => some (packR y 7 6 d a 0)
  | .mfirst y d a => some (packR y 7 7 d a 0)
  | .mswap y d a => some (packR y 7 8 d a 0)
  | .mfromv y d a => some (packR y 7 9 d a 0)
  | .mtov y d a => some (packR y 7 10 d a 0)
  | .shflIdxW4 y d a b => some (packR y 7 16 d a b)
  | .shflIdxW8 y d a b => some (packR y 7 17 d a b)
  | .shflIdxW16 y d a b => some (packR y 7 18 d a b)
  | .shflIdxW32 y d a b => some (packR y 7 19 d a b)
  | .shflIdxW64 y d a b => some (packR y 7 20 d a b)
  | .shflIdxW96 y d a b => some (packR y 7 21 d a b)
  | .shflXorW4 y d a b => some (packR y 7 22 d a b)
  | .shflXorW8 y d a b => some (packR y 7 23 d a b)
  | .shflXorW16 y d a b => some (packR y 7 24 d a b)
  | .shflXorW32 y d a b => some (packR y 7 25 d a b)
  | .shflXorW64 y d a b => some (packR y 7 26 d a b)
  | .shflXorW96 y d a b => some (packR y 7 27 d a b)
  | .shflUpW4 y d a b => some (packR y 7 28 d a b)
  | .shflUpW8 y d a b => some (packR y 7 29 d a b)
  | .shflUpW16 y d a b => some (packR y 7 30 d a b)
  | .shflUpW32 y d a b => some (packR y 7 31 d a b)
  | .shflUpW64 y d a b => some (packR y 7 32 d a b)
  | .shflUpW96 y d a b => some (packR y 7 33 d a b)
  | .shflDnW4 y d a b => some (packR y 7 34 d a b)
  | .shflDnW8 y d a b => some (packR y 7 35 d a b)
  | .shflDnW16 y d a b => some (packR y 7 36 d a b)
  | .shflDnW32 y d a b => some (packR y 7 37 d a b)
  | .shflDnW64 y d a b => some (packR y 7 38 d a b)
  | .shflDnW96 y d a b => some (packR y 7 39 d a b)
  | .vbcastW4 y d a b => some (packR y 7 40 d a b)
  | .vbcastW8 y d a b => some (packR y 7 41 d a b)
  | .vbcastW16 y d a b => some (packR y 7 42 d a b)
  | .vbcastW32 y d a b => some (packR y 7 43 d a b)
  | .vbcastW64 y d a b => some (packR y 7 44 d a b)
  | .vbcastW96 y d a b => some (packR y 7 45 d a b)
  | .voteAny y d a => some (packR y 7 46 d a 0)
  | .voteAll y d a => some (packR y 7 47 d a 0)
  | .voteBal y d a => some (packR y 7 48 d a 0)
  | .vredW4 y d a o t => some (packR y 7 49 d a (o ++ (t ++ (0 : BitVec 2))))
  | .vredW8 y d a o t => some (packR y 7 50 d a (o ++ (t ++ (0 : BitVec 2))))
  | .vredW16 y d a o t => some (packR y 7 51 d a (o ++ (t ++ (0 : BitVec 2))))
  | .vredW32 y d a o t => some (packR y 7 52 d a (o ++ (t ++ (0 : BitVec 2))))
  | .vredW64 y d a o t => some (packR y 7 53 d a (o ++ (t ++ (0 : BitVec 2))))
  | .vredW96 y d a o t => some (packR y 7 54 d a (o ++ (t ++ (0 : BitVec 2))))
  | .vscanW4 y d a o t => some (packR y 7 55 d a (o ++ (t ++ (0 : BitVec 2))))
  | .vscanW8 y d a o t => some (packR y 7 56 d a (o ++ (t ++ (0 : BitVec 2))))
  | .vscanW16 y d a o t => some (packR y 7 57 d a (o ++ (t ++ (0 : BitVec 2))))
  | .vscanW32 y d a o t => some (packR y 7 58 d a (o ++ (t ++ (0 : BitVec 2))))
  | .vscanW64 y d a o t => some (packR y 7 59 d a (o ++ (t ++ (0 : BitVec 2))))
  | .vscanW96 y d a o t => some (packR y 7 60 d a (o ++ (t ++ (0 : BitVec 2))))
  | .ldI y w d a b => some (packM y 8 w 0 d a b)
  | .ldN y w d a b => some (packM y 8 w 1 d a b)
  | .sldI y w d a b => some (packM y 8 w 2 d a b)
  | .sldN y w d a b => some (packM y 8 w 3 d a b)
  | .ldx y w d a b => some (packM y 8 w 4 d a b)
  | .cld y d a b => some (packM y 8 0 5 d a b)
  | .ldLI y w d a b => some (packM y 8 w 6 d a b)
  | .ldLN y w d a b => some (packM y 8 w 7 d a b)
  | .ldAcq y w s d a b => some (packM y 8 w (8 + s.setWidth 4) d a b)
  | .sldAcq y w s d a b => some (packM y 8 w (12 + s.setWidth 4) d a b)
  | .stN y w d a b => some (packM y 9 w 0 d a b)
  | .sstN y w d a b => some (packM y 9 w 1 d a b)
  | .cst y d a b => some (packM y 9 0 2 d a b)
  | .stLN y w d a b => some (packM y 9 w 3 d a b)
  | .stRel y w s d a b => some (packM y 9 w (4 + s.setWidth 4) d a b)
  | .atomAdd y t d f s c b => some (packM y 9 t 8 d (f ++ (s ++ c)) b)
  | .atomAnd y t d f s c b => some (packM y 9 t 9 d (f ++ (s ++ c)) b)
  | .atomOr y t d f s c b => some (packM y 9 t 10 d (f ++ (s ++ c)) b)
  | .atomXor y t d f s c b => some (packM y 9 t 11 d (f ++ (s ++ c)) b)
  | .atomSwap y t d f s c b => some (packM y 9 t 12 d (f ++ (s ++ c)) b)
  | .atomCas y t d f s c b => some (packM y 9 t 13 d (f ++ (s ++ c)) b)
  | .atomMin y t d f s c b => some (packM y 9 t 14 d (f ++ (s ++ c)) b)
  | .atomMax y t d f s c b => some (packM y 9 t 15 d (f ++ (s ++ c)) b)
  | .csub y d a b => some (packR y 10 0 d a b)
  | .crgt y d a b => some (packR y 10 1 d a b)
  | .cget y d a k => some (packR y 10 2 d a k)
  | .cmov y d a => some (packR y 10 3 d a 0)
  | .cclr y d => some (packR y 10 4 d 0 0)
  | .cstash y d a b => some (packR y 10 5 d a b)
  | .pref y a b => some (packR y 10 6 0 a b)
  | .smap y d a b => some (packR y 10 8 d a b)
  | .sunmap y a => some (packR y 10 9 0 a 0)
  | .sflush y a => some (packR y 10 10 0 a 0)
  | .fenceAcqGroup y => some (packR y 10 16 0 0 0)
  | .fenceAcqBlock y => some (packR y 10 17 0 0 0)
  | .fenceAcqChip y => some (packR y 10 18 0 0 0)
  | .fenceAcqPod y => some (packR y 10 19 0 0 0)
  | .fenceAcqSys y => some (packR y 10 20 0 0 0)
  | .fenceRelGroup y => some (packR y 10 21 0 0 0)
  | .fenceRelBlock y => some (packR y 10 22 0 0 0)
  | .fenceRelChip y => some (packR y 10 23 0 0 0)
  | .fenceRelPod y => some (packR y 10 24 0 0 0)
  | .fenceRelSys y => some (packR y 10 25 0 0 0)
  | .fenceFullGroup y => some (packR y 10 26 0 0 0)
  | .fenceFullBlock y => some (packR y 10 27 0 0 0)
  | .fenceFullChip y => some (packR y 10 28 0 0 0)
  | .fenceFullPod y => some (packR y 10 29 0 0 0)
  | .fenceFullSys y => some (packR y 10 30 0 0 0)
  | .barInit y a b => some (packR y 10 32 0 a b)
  | .barArrive y a b => some (packR y 10 33 0 a b)
  | .barExpect y a b => some (packR y 10 34 0 a b)
  | .barWait y a b => some (packR y 10 35 0 a b)
  | .barArriveW y a b => some (packR y 10 36 0 a b)
  | .mxR y d a b => some (packR y 11 0 d a b)
  | .mxS y d a b => some (packR y 11 1 d a b)
  | .mxjob y d a b => some (packR y 11 2 d a b)
  | .mxza y d => some (packR y 11 3 d 0 0)
  | .mxlda y d a b => some (packR y 11 4 d a b)
  | .mxst y d a b => some (packR y 11 5 d a b)
  | .cpy y d a b => some (packR y 11 8 d a b)
  | .cpyR y d a b => some (packR y 11 9 d a b)
  | .coll y d a b => some (packR y 11 10 d a b)
  | .nsend y a b => some (packR y 11 11 0 a b)
  | .pub y a => some (packR y 11 12 0 a 0)
  | .post y d a b => some (packR y 11 13 d a b)
  | .launch y d b => some (packR y 11 14 d 0 b)
  | .gate y => some (packR y 11 15 0 0 0)
  | .rlse y => some (packR y 11 16 0 0 0)
  | .bclose y d => some (packR y 11 17 d 0 0)
  | .waitb y a => some (packR y 11 18 0 a 0)
  | .arm y d a b => some (packR y 11 19 d a b)
  | .br y o => some (packB y 12 0 0 o)
  | .bsr y o => some (packB y 12 1 0 o)
  | .brcZ y c o => some (packB y 12 2 c o)
  | .brcNz y c o => some (packB y 12 3 c o)
  | .brmZ y c o => some (packB y 12 4 c o)
  | .brmNz y c o => some (packB y 12 5 c o)
  | .brcLt y c o => some (packB y 12 6 c o)
  | .brcGe y c o => some (packB y 12 7 c o)
  | .join y j => some (packR y 13 0 0 j 0)
  | .wait y a b => some (packR y 13 1 0 a b)
  | .winb y n => some (packR y 13 2 0 0 n)
  | .call y a => some (packR y 13 3 0 a 0)
  | .ret y => some (packR y 13 4 0 0 0)
  | .exit y => some (packR y 13 5 0 0 0)
  | .rgn y => some (packR y 13 6 0 0 0)
  | .rgnx y => some (packR y 13 7 0 0 0)
  | .yieldc y => some (packR y 13 8 0 0 0)
  | .sleep y a => some (packR y 13 9 0 a 0)
  | .vdead y a b => some (packR y 13 10 0 a b)
  | .jmp y a => some (packR y 13 11 0 a 0)
  | .sli y d i => some (packU y 14 0 d i)
  | .slis y d i => some (packU y 14 1 d i)
  | .vli y d i => some (packU y 14 2 d i)
  | .vlih y d i => some (packU y 14 3 d i)
  | .tret y => some (packR y 15 0 0 0 0)
  | .pwleaf y d a b => some (packR y 15 16 d a b)
  | .pobj y d a b => some (packR y 15 17 d a b)
  | .pkey y d a b => some (packR y 15 18 d a b)
  | .pwdog y d a b => some (packR y 15 19 d a b)
  | .pmcset y d a b => some (packR y 15 20 d a b)
  | .pevent y d a b => some (packR y 15 21 d a b)
  | .psave y d a b => some (packR y 15 22 d a b)
  | .prest y d a b => some (packR y 15 23 d a b)
  | .pfq y d a b => some (packR y 15 24 d a b)
  | .trap y i => some (packI y 15 4 0 0 ((0 : BitVec 2) ++ i))
  | .sysr y d n => some (packI y 15 5 d 0 n)
  | .sysw y a n => some (packI y 15 6 0 a n)
  | .powerOn _
  | .coldReset _
  | .warmReset _
  | .bootRomStart _
  | .powerWindow _
  | .thermalStep _
  | .thermalHold _ _
  | .thermtrip _
  | .hostModuleTraining _
  | .submitWrite _
  | .submitBufferDrain
  | .subdropRead _
  | .errlostRead _
  | .errtailWrite _
  | .svctailWrite _
  | .pmodeWrite _
  | .hostRegisterWrite _
  | .serviceReply _
  | .serviceRequest
  | .svclate _
  | .attest _
  | .loadrun _
  | .update _
  | .raisemin _
  | .badCommand _
  | .kemkey _
  | .ctxopen _
  | .keyload _
  | .ctxclose _
  | .erase _
  | .sweep _
  | .receipt _
  | .rekey _
  | .mailboxComplete
  | .fwdog _
  | .dieDrop _
  | .errorRetry _
  | .dataFrame _ _
  | .idleFrame _ _
  | .retryRequest _ _
  | .portRetrain _
  | .portDown _
  | .portTrained _
  | .read _
  | .write _
  | .atomic _
  | .cpyput _
  | .task _
  | .readresp _
  | .writeack _
  | .atomresp _
  | .seqack _
  | .seqackTimer _
  | .pairBreak _
  | .mcwrite _
  | .mcreply _
  | .redresult _
  | .swattest _
  | .event _
  | .tailFetch
  | .tailRequest _ _ _ _
  | .tailData _ _ _
  | .snapshotRequest _ _ _
  | .snapshotData _ _ _
  | .notHeld _ _
  | .transferTimeout
  | .submit
  | .fire
  | .finishBlocksEnded
  | .signalOrDone _
  | .finishSignalWritten
  | .block
  | .resume
  | .release
  | .fault
  | .share
  | .loss
  | .admitChip
  | .expel
  | .capacity
  | .soundDigest
  | .soundClose
  | .soundVerdict
  | .soundwaitExpiry
  | .expelwaitExpiry _
  | .rejoin
  | .nosnapshot
  | .blockStart _
  | .dormancy _
  | .blockEnd _
  | .taskGroupTimeout _
  | .activation _
  | .registerFill _
  | .contextFault _ _
  | .resultWrite _
  | .trapDelivery _
  | .quiescenceRelease _ _
  | .waitReread _ _
  | .waitDeadline _ _
  | .sleepDeadline _ _
  | .weirRequest
  | .walkComplete _ _
  | .pageFaultWake _ _ _
  | .pageFaultRefusal _ _ _
  | .noWakeReplay _
  | .localtimeout _
  | .publishComplete _
  | .engineComplete _ _
  | .messageArrival _ _
  | .saveDone _
  | .restoreDone _
  | .saveRetry _
  | .thermalHoldEnd _
  | .candidateSilence
  | .firmwareReadiness _ => none

end

end Sys2Proof
end

