-- ==== Sys2Proof/Config.lean ====
section
/-! DEFINITION. What the manual leaves to the device or does not state: opaque constants. Nothing in Lean can evaluate
them, so a statement that holds, holds for every value. -/

namespace Sys2Proof.Config

/-- Free 64-bit values, by the free counter of the state (DESIGN CHOICE, log 3). -/
opaque free64 : Nat → W64
/-- Free truth values, by the free counter of the state (DESIGN CHOICE, log 3). -/
opaque freeBool : Nat → Bool
/-- The SFU results that the manual bounds but does not fix (16 R293): function number 0-6 and the F32 operand
(DESIGN CHOICE, log 15). -/
opaque sfu : Nat → W32 → W32
/-- Whether the bit of a grant map that another chip holds is set, for the check of a core's own context lines (10 R181, R182): chip,
object, PTAG, free counter (DESIGN CHOICE, log 17). -/
opaque remoteGrant : BitVec 12 → BitVec 28 → Nat → Nat → Bool
/-- The order in which the atomic lanes of one instruction on one location are performed (11 R196): the lane of the lower
rank first, by the free counter and the lane (DEDUCED, log 18). -/
opaque laneRank : Nat → Nat → Nat
/-- The frames by which a port's receive buffering for a class exceeds the least that R32 needs (02 R32)
(DESIGN CHOICE, log 89). -/
opaque portSlack : Nat → Nat
/-- How a contribution of a protected context is sealed (02 R43): fabric key, reduction id, 256 bytes as a number
(DESIGN CHOICE, log 90). -/
opaque fabricSeal : BitVec 256 → BitVec 24 → BitVec 2048 → BitVec 2048
/-- The 64 KiB frames of the host-memory area that firmware registers for a slice (10 R184) (DESIGN CHOICE, log 91). -/
opaque hostFrames : Nat → Nat
/-- Whether a sector fails the read-back of a sweep after its retry (04 R77): free counter, frame, sector
(DESIGN CHOICE, log 67). -/
opaque sectorFails : Nat → Nat → Nat → Bool
/-- RSA-3072 signature verification with SHA-384 (03 R61): public key, message, signature (DESIGN CHOICE, log 19). -/
opaque rsaOk : List Byte → List Byte → List Byte → Bool
/-- SLH-DSA-SHA2-256s signature verification (03 R61): public key, message, signature (DESIGN CHOICE, log 19). -/
opaque slhOk : List Byte → List Byte → List Byte → Bool
/-- ML-DSA-87 signature verification (02 R44): public key, message, signature (DESIGN CHOICE, log 19). -/
opaque mldsaOk : List Byte → List Byte → List Byte → Bool
/-- The Letchadra RSA-3072 firmware key of the boot ROM mask (03 R61) (DESIGN CHOICE, log 19). -/
opaque romRsaKey : List Byte
/-- The Letchadra SLH-DSA firmware key of the boot ROM mask (03 R61) (DESIGN CHOICE, log 19). -/
opaque romSlhKey : List Byte
/-- The device seed that the dies' physically unclonable functions give, the same on every die (03 R66)
(DESIGN CHOICE, log 20). -/
opaque deviceSeed : BitVec 256
/-- Whether a number that is not prime passes the probable-prime test of the RSA key generation (03 R66; FIPS 186-5)
(DESIGN CHOICE, log 20). -/
opaque passesPrimeTest : Nat → Bool
/-- The RSA-3072 signature, 384 bytes, over a message under the key generated from a state (K, V) of the HMAC_DRBG
(03 R66, R67) (DESIGN CHOICE, log 20). -/
opaque rsaSign : BitVec 384 → BitVec 384 → List Byte → BitVec 3072
/-- The SLH-DSA-SHA2-256s signature, 29,792 bytes, over a message under SK.seed, SK.prf and PK.seed (03 R66, R67)
(DESIGN CHOICE, log 20). -/
opaque slhSign : BitVec 768 → List Byte → BitVec 238336
/-- A byte of the identity certificates window (03 R66), by the two public keys and the offset (DESIGN CHOICE, log 20). -/
opaque certificate : List Byte → Nat → Byte
/-- Whether the sections of a kernel image that another chip homes pass the end of their object (14 R244): `true` when
they fit (DESIGN CHOICE, log 23). -/
opaque remoteFits : W64 → Bool
/-- Whether v1 of a lane of a task group holds the lane number (07 R124, last paragraph) and not the high word of the
data offset (07 R124 item 4) (DESIGN CHOICE, log 24). -/
opaque taskLaneNumber : Bool
/-- The peer chip that the record of a link that went down names (13 R238), by the record's unit kind and unit number: a free value,
for the far side of a Brodug port is a switch (DESIGN CHOICE, log 65). -/
opaque linkPeer : Nat → Nat → BitVec 12
/-- The base of a line stored by base and delta (10 R185): the spec does not say which (DESIGN CHOICE, log 22). -/
opaque deltaBase : List Byte → BitVec 32
/-- The run-length code of the 64 exponents of a line (10 R185) (DESIGN CHOICE, log 22). -/
opaque runLengths : List Byte → List Byte
/-- The exponents that a run-length code gives (10 R185) (DESIGN CHOICE, log 22). -/
opaque runExponents : List Byte → List Byte
/-- The bytes behind a stored form that ends inside a sector (10 R185) (DESIGN CHOICE, log 22). -/
opaque storedPad : Nat → Byte

end Sys2Proof.Config
end

