-- ==== Sys2Proof/Machine/Sparse.lean ====
section
/-! DEFINITION. Finite maps from numbers in one canonical form: keys strictly rising, no entry equal to the default.
Memory, register files and tables are all held so, and equal contents are equal lists. -/

namespace Sys2Proof.Machine

/-- A sparse array: (index, value) pairs. -/
abbrev Sparse (α : Type) := List (Nat × α)

/-- The value at an index; an unlisted index holds the default. -/
def Sparse.get {α : Type} (d : α) : Sparse α → Nat → α
  | [], _ => d
  | (k, v) :: m, x => if x = k then v else Sparse.get d m x

/-- Remove the entry of an index. -/
def Sparse.erase {α : Type} (m : Sparse α) (x : Nat) : Sparse α := m.filter fun e => e.1 != x

/-- Place an entry before the first one of a higher index. -/
def Sparse.place {α : Type} (x : Nat) (v : α) : Sparse α → Sparse α
  | [] => [(x, v)]
  | (k, w) :: m => if x < k then (x, v) :: (k, w) :: m else (k, w) :: Sparse.place x v m

/-- Set one index; writing the default removes the entry. -/
def Sparse.set {α : Type} [DecidableEq α] (d : α) (m : Sparse α) (x : Nat) (v : α) : Sparse α :=
  if v = d then m.erase x else Sparse.place x v (m.erase x)

/-- Every key is above `lo`, keys rise strictly, and no value is the default. -/
def Sparse.wfFrom {α : Type} [DecidableEq α] (d : α) : Nat → Sparse α → Bool
  | _, [] => true
  | lo, (k, v) :: m => decide (lo ≤ k) && decide (v ≠ d) && Sparse.wfFrom d (k + 1) m

/-- The canonical form. -/
def Sparse.wf {α : Type} [DecidableEq α] (d : α) (m : Sparse α) : Bool := Sparse.wfFrom d 0 m

/-- Set a list of indexes, in list order. -/
def Sparse.setAll {α : Type} [DecidableEq α] (d : α) (m : Sparse α) : List (Nat × α) → Sparse α
  | [] => m
  | (k, v) :: r => Sparse.setAll d (Sparse.set d m k v) r

/-- Remove every entry whose key lies in [lo, hi). -/
def Sparse.clearRange {α : Type} (m : Sparse α) (lo hi : Nat) : Sparse α :=
  m.filter fun e => decide (e.1 < lo) || decide (hi ≤ e.1)

/-- The memory of a chip: (address, byte) pairs; an unlisted byte reads zero. -/
abbrev Memory := Sparse Byte

/-- The canonical form of memory. -/
def Memory.wf (m : Memory) : Bool := Sparse.wf (0 : Byte) m

end Sys2Proof.Machine
end

