-- ==== Sys2Proof/Machine/State.lean ====
section
/-! DEFINITION. The state of the machine: one chip (device), as plain data, holding what the manual gives it, with the
reset state. Other chips, the switches, the sequencer and the host are outside; what they do arrives as happenings. -/

namespace Sys2Proof.Machine

/-! ### Capabilities and threads -/

/-- A capability with its tag (10 R167). -/
structure Cap where
  home : BitVec 12 := 0
  object : BitVec 28 := 0
  base : BitVec 40 := 0
  length : BitVec 40 := 0
  rights : BitVec 8 := 0
  tag : Bool := false
  deriving DecidableEq, Repr

/-- A slice's state (08 R139). -/
inductive SliceState where
  | ready
  | parked
  | exited
  deriving DecidableEq, Repr

/-- The parks, by the codes of 09 R147. -/
inductive Park where
  | none
  | switchPoint
  | registerMiss
  | post
  | join
  | wait
  | sleep
  | barrier
  | gate
  | waitb
  | pendingTrap
  | pageFault
  | contextFault
  deriving DecidableEq, Repr

/-- A slice record (09 R147), with the barrier phase a parked slice waits past (17 R318), for a pending trap the
lanes of the slice that trapped (13 R231, R234), and the PC of the instruction its unfinished lanes belong to (R232)
(DEDUCED, log 97). -/
structure Slice where
  pc : W64 := 0
  link : W64 := 0
  state : SliceState := .ready
  park : Park := .none
  gang : Nat := 0
  unfinished : BitVec 4 := 0
  arg : BitVec 32 := 0
  deadline : W64 := 0
  phase : BitVec 16 := 0
  trapped : BitVec 4 := 0
  replay : W64 := 0
  deriving DecidableEq, Repr

/-- A group's state (08 R140), by the codes of 09 R148. -/
inductive GroupState where
  | created
  | resident
  | idle
  | out
  | released
  | saved
  | done
  | halted
  deriving DecidableEq, Repr

/-- A pending variable-latency result (08 R136, R137): the slices that issued it, the vector registers it writes (key
`register * 128 + physical lane`), the scalar register it writes with the bits that no younger write has taken, the capability
register it writes, the XFLAGS bytes, the FPSR flags it
raises when it is written (12 R216), and the lanes with the flag bits of a recorded SMX (13 R233) (DEDUCED, log 87). -/
structure Pending where
  slices : List Nat
  vecs : List (Nat × W32) := []
  scalar : Option (Nat × W64) := none
  bits : W64 := BitVec.allOnes 64
  capr : Option (Nat × Cap) := none
  xfl : List (Nat × Byte) := []
  flags : BitVec 6 := 0
  smx : List (Nat × Nat) := []
  serial : Nat := 0
  deriving DecidableEq, Repr

/-- What the lanes of a memory instruction do with their bytes. -/
inductive AccKind where
  | load (sext : Bool)
  | loadScalar (sext : Bool)
  | store
  | atomic (op : Nat) (signed : Bool)
  | capLoad
  | capStore
  | gatherEntry
  | gatherData
  | matrixLoad (wide : Bool)
  | waitRead
  | jobCard
  | fetch
  deriving DecidableEq, Repr

/-- A piece of one lane's access, inside one 128-byte line (17 R305): its lane, the byte of the lane's value it starts
at, home chip and object, absolute offset, length, value (for a capability its tag is bit 128; for an atomic the first
operand, and the second above it), and status; 0xFF stands for an answer still to come, under a packet tag. -/
structure Piece where
  lane : Nat
  start : Nat
  chip : BitVec 12
  object : BitVec 28
  offset : Nat
  length : Nat
  value : Nat
  status : BitVec 8
  tag : BitVec 16 := 0
  stash : Option Nat := none
  deriving DecidableEq, Repr

/-- A memory instruction whose lanes have not all answered (10 R179): the gang, its PC and Y bit, what it does, its
access size, destination register, further operands and its pieces, its place in the order of issue, and the bits of its
scalar destination that a younger write has taken (08 R131, R137). -/
structure MemOp where
  slices : List Nat
  pc : W64
  y : Bool
  kind : AccKind
  size : Nat
  dst : Nat
  args : List Nat
  pieces : List Piece
  serial : Nat := 0
  lost : W64 := 0
  deriving DecidableEq, Repr

/-- The condition a WAIT waits for (15 R270, R271) (DEDUCED, log 49, 83). -/
structure WaitRec where
  slices : List Nat
  cap : Cap
  offset : Nat
  size : Nat
  compare : Nat
  operand : W64
  dest : Nat
  grant : Cap
  scope : BitVec 2
  logged : Bool
  due : Bool := false
  deriving DecidableEq, Repr

/-- The batches of a group (19 R339): the open number, commands counted in it, the commands of each closed batch not yet
complete with the worst status and MX bits so far, and the status words of completed batches, newest first. -/
structure Batches where
  openNum : BitVec 32 := 1
  counts : List (BitVec 32 × Nat × Nat × Bool × Bool) := []
  done : List (BitVec 32 × W64) := []
  deriving DecidableEq, Repr

/-- A line of the register context cache (09 R152). -/
inductive LineState where
  | invalid
  | filling
  | clean
  | dirty
  deriving DecidableEq, Repr

/-- A group: its context object (09 R146-R150) and what the core keeps of it (DESIGN CHOICE, log 50, 51, 85; DEDUCED, log 97): its lines of
the cache and of the spill area, oldest first with the serial of their going there, since when its fill waits, its accesses,
waits and page faults with the tick of a no-wake replay, the gang whose fill met a context fault, the state that its object's
header shows, and whether it is saved in place (R161). -/
structure Group where
  ctx : BitVec 20 := 0
  privileged : Bool := false
  block : Nat := 0
  grid : BitVec 16 := 0
  bid : BitVec 32 := 0
  gid : BitVec 32 := 0
  nominal : BitVec 12 := 0
  width : Nat := 16
  prot : Bool := false
  task : Bool := false
  quota : Nat := 1
  state : GroupState := .created
  savedFrom : GroupState := .created
  extent : Nat := 8
  xCount : Nat := 0
  aCount : Nat := 0
  core : Nat := 0
  port : Nat := 0
  slot : Nat := 0
  gangPtr : Nat := 0
  lastIssue : Nat := 0
  issued : Bool := false
  slices : Sparse Slice := []
  s : Sparse W64 := []
  v : Sparse W32 := []
  c : Sparse Cap := []
  x : Sparse W32 := []
  shape : Sparse (Nat × Nat) := []
  handle : Sparse (Option Nat) := []
  xflags : Sparse Byte := []
  smuFlags : Sparse Byte := []
  fpcr : BitVec 32 := 0
  fpsr : BitVec 32 := 0
  xpiv : BitVec 32 := 0
  winb : Nat := 0
  joinTo : BitVec 32 := 0x186A0
  repc : W64 := 0
  tvec : W64 := 0
  tpc : W64 := 0
  tstat : W64 := 0
  grant : Cap := {}
  root : Cap := {}
  launchGrant : Cap := {}
  code : Cap := {}
  data : Cap := {}
  const : Cap := {}
  dirtyMap : BitVec 256 := 0
  present : Sparse LineState := []
  spilled : List (Nat × Nat) := []
  askedAt : Nat := 0
  pending : List Pending := []
  memOps : List MemOp := []
  entries : List (Nat × Cap) := []
  waits : List WaitRec := []
  faultedOn : List (BitVec 28 × Nat) := []
  faultKinds : List Nat := []
  faultSlices : List Nat := []
  refusedOn : List (BitVec 28 × Nat) := []
  refusedFor : List Nat := []
  flushing : List (Nat × Nat) := []
  fetched : List (W64 × W32) := []
  noWake : Bool := false
  noWakeAt : W64 := 0
  ctxFault : Bool := false
  ctxSlices : List Nat := []
  stored : GroupState := .created
  lazy : Bool := false
  firstPoison : List W64 := []
  firstMismatch : List W64 := []
  repeating : List (W64 × Bool) := []
  joinSince : Sparse W64 := []
  batch : Batches := {}
  savedTiles : Sparse W32 := []
  aborted : Bool := false
  deriving DecidableEq, Repr

/-! ### Blocks, cores and commands -/

/-- A mapped stash region (10 R186): base and length in the allocation, and the global range. -/
structure Region where
  number : Nat
  base : Nat
  length : Nat
  cap : Cap
  deriving DecidableEq, Repr

/-- A present line of a mapped region (10 R183, R186): dirty, the PTAG of its fill, and the group that filled it. -/
structure StashLine where
  dirty : Bool
  ptag : BitVec 20
  filler : Nat
  deriving DecidableEq, Repr

/-- A block on the chip (07 R117-R119). The stash allocation is held with the block: bytes, granule tags and sector
poison, by offset in the allocation, and the 4 KiB regions written since the block started (09 R161). `unapplied` counts the
BLOCKs posted and not yet applied here, `resumes` the RESUMEs that wait for one, and `slept` names the groups that dormancy
saved (DESIGN CHOICE, log 11). -/
structure Block where
  grid : BitVec 16 := 0
  nominal : BitVec 12 := 0
  number : Nat := 0
  core : Nat := 0
  part : BitVec 16 := 0
  pages : Nat := 0
  alloc : Nat := 0
  barriers : Nat := 0
  stash : Memory := []
  tags : Sparse Bool := []
  poison : Sparse Bool := []
  written : Sparse Bool := []
  regions : List Region := []
  lines : Sparse (Option StashLine) := []
  groups : List Nat := []
  started : Bool := false
  released : Bool := false
  ended : Bool := false
  dormant : Bool := false
  wakeDue : Bool := false
  unapplied : Nat := 0
  resumes : Nat := 0
  slept : List Nat := []
  parkedSince : Option W64 := none
  deriving DecidableEq, Repr

/-- A task record (07 R122) as a core queues it: kernel, context, capability, offset, arguments, arrival tick and place in the
order of arrival at the chip (DEDUCED, log 25). -/
structure TaskRec where
  kernel : W64
  ctx : BitVec 20
  cap : Cap
  offset : W64
  args : List W32
  tick : W64
  serial : Nat := 0
  deriving DecidableEq, Repr

/-- A core: its ports' pointers and slots (08 R127, R128), activation queue (09 R155), MXE tiles (18 R331), free
block-pool pages (07 R114), task queue (07 R123), whether it is parked (03 R58, R64), and the lines of the register context
cache that each port drew from its reserve (09 R152) (DESIGN CHOICE, log 11, 51). -/
structure Core where
  groupPtr : Sparse Nat := []
  slots : Sparse (Option Nat) := []
  released : List Nat := []
  tasks : List Nat := []
  created : List Nat := []
  tileOwner : Sparse (Option Nat) := []
  tiles : Sparse W32 := []
  freePages : Nat := 640
  taskQueue : List TaskRec := []
  taskCount : BitVec 32 := 0
  parked : Bool := false
  drawn : Sparse Nat := []
  deriving DecidableEq, Repr

/-- Who made a request (10 R181, 11 R192): context, grant map, principal, core, GID and the log kind. -/
structure Requester where
  chip : BitVec 12
  ctx : BitVec 20
  grant : Cap
  principal : BitVec 32
  core : Nat
  gid : BitVec 16
  group : Nat
  kind : Nat
  checked : Bool
  ownLine : Bool
  again : Bool := false
  deriving DecidableEq, Repr

/-- A range of an engine transfer: a capability, the absolute offset in its object or stash allocation, the bytes left,
the position in the command's buffer, whether the shadow is written, and the block that a stash capability means. -/
structure Span where
  cap : Cap
  blk : Nat
  off : Nat
  len : Nat
  pos : Nat
  shadow : Bool
  stash : Option Nat := none
  deriving DecidableEq, Repr

/-- A packet that a command awaits: its tag, the buffer position and length of its piece, and its absolute offset with the
capability and shadow bit of the range it belongs to. -/
structure Await where
  tag : BitVec 16
  pos : Nat
  len : Nat
  off : Nat
  cap : Cap := {}
  shadow : Bool := false
  stash : Option (Nat × Nat) := none
  deriving DecidableEq, Repr

/-- A matrix engine operand: rows copied from registers, or rows in the stash by base, row pitch and rotation (10 R187). -/
inductive MxOperand where
  | rows (bytes : List (List Byte))
  | stash (base : Nat) (pitch : Nat) (rot : Nat)
  deriving DecidableEq, Repr

/-- A step of a matrix engine command on a tile (18 R335, R336, R338). -/
inductive MxStep where
  | zero (tile m n : Nat)
  | mul (tile : Nat) (fmt : W32) (m n k : Nat) (zf : Bool) (a b : MxOperand)
  | load (tile : Nat) (fmt : W32) (m n : Nat) (cap : Cap) (offset pitch : Nat)
  | store (tile : Nat) (fmt : W32) (rm : Nat) (m n : Nat) (cap : Cap) (offset pitch : Nat) (shadow : Bool)
  deriving DecidableEq, Repr

/-- What an engine command does (18 R332, 19 R343-R354); `arrive` is the device's own work for an arrived message (R352). -/
inductive CmdWork where
  | copy (tags : Bool)
  | reduce (dst : Cap) (off : Nat) (redId : BitVec 24) (length : Nat) (oper etype : BitVec 8) (contributors : BitVec 12)
      (timeout : BitVec 32)
  | mcast (group : BitVec 12) (object : BitVec 28)
  | send (peer : Nat) (tag : BitVec 32) (length : Nat)
  | publish (object : BitVec 28)
  | launch
  | arrive (tag : BitVec 32) (payload : List Byte)
  | mx
  deriving DecidableEq, Repr

/-- An engine command issued and not completed (19 R339): its group, block and batch, the requester it carries (10 R181),
its work, the ranges still to read and to write, what it has read (bytes, granule tags and poisoned bytes by buffer
position, and ranges that it may not write), the packets it awaits with their buffer ranges, its status, the bytes
written, the pages it waits on (with the tick of a no-wake replay) or was refused, the barrier updates and signal due at completion, the tiles it uses and
those it frees, its matrix steps, and whether a refused page keeps it from starting a write (R345). -/
structure Command where
  group : Nat
  block : Nat
  batch : BitVec 32
  req : Requester
  work : CmdWork
  reads : List Span := []
  writes : List Span := []
  buf : Sparse Byte := []
  bufTags : Sparse Bool := []
  bufPoison : Sparse Bool := []
  holes : List (Nat × Nat) := []
  awaiting : List Await := []
  begun : Bool := false
  status : Nat := 0
  bytes : Nat := 0
  faulted : List (BitVec 28 × Nat) := []
  faultKind : Nat := 0
  refused : List (BitVec 28 × Nat) := []
  noWake : Bool := false
  replayAt : W64 := 0
  count : Option Nat := none
  remoteCount : Option (Nat × Nat) := none
  signal : Option Cap := none
  ended : Option Nat := none
  steps : List MxStep := []
  tiles : List Nat := []
  frees : List Nat := []
  mxNan : Bool := false
  mxOvf : Bool := false
  stop : Bool := false
  deriving DecidableEq, Repr

/-! ### Package, host interface, firmware and trust -/

/-- A partition entry of the configuration record (01 R22). -/
structure Partition where
  first : Nat
  count : Nat
  mode : BitVec 16
  id : BitVec 16
  deriving DecidableEq, Repr

/-- The configuration record's fields (01 R21). -/
structure ConfigRecord where
  counter : W64 := 0
  dieMap : BitVec 4 := 0xF
  modules : BitVec 2 := 3
  powerCap : Nat := 3000
  fwc : List Nat := [40, 40, 40, 40]
  brodug : W64 := BitVec.allOnes 64
  ethernet : BitVec 16 := BitVec.allOnes 16
  parts : List Partition := []
  digest : BitVec 384 := 0
  deriving DecidableEq, Repr

/-- The package: reset, clock, thermal and power state, pins, dies, cores, the record in use, the hottest sensor as last read,
whether the clock still recovers from the 0.8 GHz hold, and the device seed (01; 03 R66)
(DESIGN CHOICE, log 9, 48; DEDUCED, log 63). -/
structure Package where
  inReset : Bool := false
  tick : Sparse W64 := []
  running : BitVec 4 := 0
  dropped : BitVec 4 := 0
  failed : Sparse Bool := []
  fwc : Sparse Nat := []
  trained : BitVec 2 := 0
  clockMHz : Nat := 1700
  hot95 : Bool := false
  hold105 : Bool := false
  tripped : Bool := false
  alertLow : Bool := false
  tripLow : Bool := false
  config : ConfigRecord := {}
  cfgDefault : Bool := false
  minVersion : BitVec 32 := 0
  minCounter : W64 := 0
  rsaDigest : BitVec 384 := 0
  slhDigest : BitVec 384 := 0
  warm : Bool := false
  hottest : Nat := 0
  cooling : Bool := false
  seed : BitVec 256 := 0
  deriving DecidableEq, Repr

/-- A service request (03 R52) with the tick at which it was written. -/
structure Service where
  id : W64
  function : BitVec 8
  die : BitVec 8
  part : BitVec 16
  body : List Byte
  tick : W64
  deriving DecidableEq, Repr

/-- The host interface (03 R46-R53): submit buffer, error ring, service ring, mode vectors, staging, and the host memory
outside the areas of host-memory pages, where saves go (09 R165) (DESIGN CHOICE, log 6, 8). -/
structure HostIf where
  subBuf : List (BitVec 20 × BitVec 512) := []
  subDrop : W64 := 0
  errRing : Sparse (List Byte) := []
  errHead : W64 := 0
  errTail : W64 := 0
  errLost : W64 := 0
  svcRing : Sparse (List Byte) := []
  svcHead : W64 := 0
  svcTail : W64 := 0
  svcNext : W64 := 0
  svcWaiting : List Service := []
  svcOpen : List Service := []
  mode : Sparse (BitVec 16) := []
  staging : Memory := []
  memory : Memory := []
  deriving DecidableEq, Repr

/-- A long-running mailbox command (03 R65, 04 R73): command code, context, the status it will complete with,
whether it started host-assisted, and its nonce. -/
structure MailCmd where
  code : Nat
  ctx : BitVec 20
  status : BitVec 8
  hosted : Bool
  nonce : List Byte
  deriving DecidableEq, Repr

/-- An entry of a die's firmware queue (15 R283). -/
structure FwEntry where
  kind : BitVec 8
  status : BitVec 8
  weir : BitVec 16
  ctx : BitVec 32
  object : W64
  offset : W64
  faultKind : BitVec 8
  op : BitVec 16
  deriving DecidableEq, Repr

/-- A save or restore in progress (15 R282, 09 R159-R166): operation id, die, group, compressed, with the stash, restore, in
place, destination or source, the service request outstanding, and when the host is asked (DESIGN CHOICE, log 59). -/
structure SaveOp where
  op : BitVec 16
  die : Nat
  group : Nat
  compressed : Bool
  stash : Bool
  restore : Bool
  stay : Bool
  place : W64
  asked : Option W64
  retryAt : Option W64
  deriving DecidableEq, Repr

/-- A die-drop proposal (13 R237): the die, the reason, and whether it was accepted. -/
structure Proposal where
  die : BitVec 2
  reason : BitVec 8
  accepted : Bool
  deriving DecidableEq, Repr

/-- A PMCSET whose MCSET packets the first switches have still to acknowledge (15 R282): the die and lowest slice of its gang. -/
structure McsetDue where
  die : Nat
  slice : Nat
  packets : List Packet
  deriving DecidableEq, Repr

/-- Boot, mailbox and firmware state (03 R57-R65, 15 R281-R283), with the mirror copies of the task queues by core (07 R123), the
retired frames with pages still to move (13 R237), and by core the groups of which a lasting error poisoned a line of the
register context cache or of a stash, and the PMCSETs that await acknowledgement (15 R282) (DESIGN CHOICE, log 6, 8, 58, 65;
DEDUCED, log 60). -/
structure Firmware where
  state : BitVec 8 := 0
  image : BitVec 8 := 0
  slotA : BitVec 8 := 5
  slotB : BitVec 8 := 5
  store : Memory := []
  busy : Bool := false
  status : BitVec 8 := 0
  cmd : Option MailCmd := none
  version : BitVec 32 := 0
  imageHash : BitVec 384 := 0
  region : Sparse Byte := []
  watchdog : Sparse Nat := []
  lastExpiry : Sparse (Option W64) := []
  diesParked : BitVec 4 := 0
  fwctx : Sparse (BitVec 20) := []
  queue : Sparse (List FwEntry) := []
  saves : List SaveOp := []
  nextOp : BitVec 16 := 1
  proposals : List Proposal := []
  retired : Sparse (List (BitVec 33)) := []
  corrected : Sparse (List W64) := []
  recorded : Sparse (Option W64) := []
  lasting : Sparse Nat := []
  unitErrors : Sparse Nat := []
  transient : Nat := 0
  mirrors : Sparse (List TaskRec) := []
  retiring : List Nat := []
  rccBad : Sparse (List Nat) := []
  stashBad : Sparse (List Nat) := []
  mcsets : List McsetDue := []
  deriving DecidableEq, Repr

/-- A context's state (04 R69). -/
inductive CtxState where
  | free
  | open
  | closed
  | erased
  deriving DecidableEq, Repr

/-- A context descriptor (04 R68, R69). -/
structure Descriptor where
  state : CtxState := .free
  prot : Bool := false
  hostSubmit : Bool := false
  slot : BitVec 12 := 0
  gen : BitVec 8 := 0
  fabricGen : BitVec 8 := 0
  counter : W64 := 0
  root : Cap := {}
  grant : Cap := {}
  log : Cap := {}
  principal : BitVec 32 := 0
  firstQueue : BitVec 16 := 0
  queueCount : BitVec 16 := 0
  measurement : BitVec 384 := 0
  part : BitVec 16 := 0
  eraseTick : W64 := 0
  deriving DecidableEq, Repr

/-- A key slot (04 R71, R75, 15 R282): its context, the current and the previous generation with their keys, the fabric key and
its generation, whether it was destroyed, and whether a warm reset or recovery destroyed it (03 R64, 04 R72). `made` is the model's own: the key under which the frames
of the current generation were last written, kept when the key itself is gone (DESIGN CHOICE, log 22). -/
structure KeySlot where
  ctx : BitVec 20 := 0
  gen : BitVec 8 := 0
  key : BitVec 256 := 0
  fabric : BitVec 256 := 0
  fabricGen : BitVec 8 := 0
  prev : Option (BitVec 8 × BitVec 256) := none
  destroyed : Bool := false
  warmLost : Bool := false
  made : BitVec 256 := 0
  deriving DecidableEq, Repr

/-- A frame's metadata (04 R74, 13 R237). -/
structure FrameMeta where
  bound : Bool := false
  mode : BitVec 2 := 0
  slot : BitVec 12 := 0
  gen : BitVec 8 := 0
  swept : Bool := false
  deriving DecidableEq, Repr

/-- An entry of the seal table (04 R79). -/
structure Seal where
  ctx : BitVec 20
  object : BitVec 28
  counter : W64
  gen : BitVec 8
  deriving DecidableEq, Repr

/-- What the sweeps of an erased context have done (04 R77, R78): frames zeroed and verified, the list entries (kind,
sector, frame, tick), the tick of the last sweep, and whether the erasure started host-assisted (03 R56)
(DESIGN CHOICE, log 67). -/
structure SweepLog where
  zeroed : Nat := 0
  entries : List (Nat × Nat × Nat × W64) := []
  endTick : W64 := 0
  hosted : Bool := false
  deriving DecidableEq, Repr

/-- Contexts, keys, frame metadata and seals (04) (DEDUCED, log 78). -/
structure Trust where
  ctxs : Sparse Descriptor := []
  slots : Sparse KeySlot := []
  frames : Sparse FrameMeta := []
  seals : List Seal := []
  sweeps : Sparse SweepLog := []
  switches : List (BitVec 32 × Nat × BitVec 20 × BitVec 8) := []
  nonces : List (List Byte) := []
  deriving DecidableEq, Repr

/-! ### Fabric -/

/-- A Brodug port's condition (02 R28, R31). -/
inductive PortState where
  | idle
  | training
  | trained
  | down
  deriving DecidableEq, Repr

/-- A Brodug port (02 R29-R32): the next link sequence to send and the next to receive, the replay buffer, the successive
retries of one frame, the stop bits that this side sets (`stopIn`) and that the far side set (`stopOut`), the tick at which
training began, the flits of a packet received in part, the packets received that the gateway has not taken, the classes
whose free buffering is low, and the acknowledgement and stop bits of the last frame sent (DESIGN CHOICE, log 10, 72). -/
structure Port where
  state : PortState := .idle
  txSeq : BitVec 12 := 0
  rxSeq : BitVec 12 := 0
  replay : List (BitVec 12 × List Byte) := []
  retries : Nat := 0
  lastRetry : BitVec 12 := 0
  stopIn : BitVec 4 := 0
  stopOut : BitVec 4 := 0
  since : W64 := 0
  flits : List (List Byte) := []
  buffer : List Packet := []
  low : BitVec 4 := 0
  ackSent : BitVec 12 := 0xFFF
  stopSent : BitVec 4 := 0
  retrying : Bool := false
  deriving DecidableEq, Repr

/-- The sending side of a sequence window (02 R37): with the old windows, by pair, next sequence and epoch at a change of
plane, that it waits for (DESIGN CHOICE, log 10). -/
structure TxWindow where
  next : BitVec 16 := 0
  oldest : BitVec 16 := 0
  epoch : BitVec 3 := 0
  queue : List Packet := []
  unacked : List Packet := []
  moved : W64 := 0
  after : List (PairKey × BitVec 16 × BitVec 3) := []
  deriving DecidableEq, Repr

/-- The receiving side of a sequence window (02 R37, R38) (DESIGN CHOICE, log 10). -/
structure RxWindow where
  expected : BitVec 16 := 0
  epoch : BitVec 3 := 0
  unacked : Nat := 0
  since : W64 := 0
  pool : List Packet := []
  discards : Nat := 0
  deriving DecidableEq, Repr

/-- A request that the chip sent to another chip and that awaits its answer: who asked. -/
inductive Asker where
  | lane (group : Nat)
  | command (cmd : Nat)
  | signal (grid : BitVec 16)
  | image (kernel : W64) (ctx : BitVec 20)
  | grant
  deriving DecidableEq, Repr

/-- The gateways (02): ports, round-robin pointers by plane and target, windows, the plane that each die's traffic to a chip
took last, error counters by gateway, outstanding requests, packets of classes 2 and 3 that no port could take, SYNC
streams and switch reports received in part (by sender, transfer id and the bytes so far) and multicast state
(DESIGN CHOICE, log 6, 10, 73, 77). -/
structure Fabric where
  self : BitVec 12 := 0
  ports : Sparse Port := []
  spray : Sparse Nat := []
  tx : List (PairKey × TxWindow) := []
  rx : List (PairKey × RxWindow) := []
  via : Sparse (Option (BitVec 2)) := []
  errors : Sparse Nat := []
  nextTag : BitVec 16 := 0
  asked : List (BitVec 16 × Asker × PairKey) := []
  noPlane : List (BitVec 12) := []
  suspected : List (BitVec 12) := []
  mcMaps : Sparse (BitVec 28) := []
  loose : List Packet := []
  streams : List (BitVec 12 × BitVec 24 × List Byte) := []
  deriving DecidableEq, Repr

/-! ### The Current and Confluence -/

/-- The pod parameters (05 R84). -/
structure PodParams where
  every : Nat
  wait : Nat
  gap : Nat
  expel : Nat
  deriving DecidableEq, Repr

/-- A sounding round (05 R89): its opening sequence, the chips LIVE and JOINING at it, the tick it was opened, and the
reports applied for it. -/
structure Round where
  opening : W64
  live : List (BitVec 12)
  joining : List (BitVec 12)
  since : W64
  reports : List (BitVec 12 × BitVec 128) := []
  closePosted : Bool
  deriving DecidableEq, Repr

/-- Chip states in the tables (05 R95). -/
inductive ChipState where
  | absent
  | joining
  | live
  | expelled
  | lost
  deriving DecidableEq, Repr

/-- A chip row (06 R98). -/
structure ChipRow where
  state : ChipState := .absent
  dieMap : BitVec 8 := 0
  capacity : BitVec 32 := 0
  free : BitVec 32 := 0
  deriving DecidableEq, Repr

/-- A queue row (06 R98). -/
structure QueueRow where
  pass : W64 := 0
  stride : BitVec 32 := 0
  tickets : BitVec 16 := 0
  skips : BitVec 8 := 0
  reservation : Bool := false
  head : BitVec 16 := 0
  tail : BitVec 16 := 0
  ctx : BitVec 20 := 0
  length : BitVec 32 := 0
  deriving DecidableEq, Repr

/-- Grid states (06 R99). -/
inductive GridState where
  | free
  | queued
  | placed
  | done
  deriving DecidableEq, Repr

/-- A grid row (06 R99). -/
structure GridRow where
  state : GridState := .free
  restartable : Bool := false
  gated : Bool := false
  graphFlag : Bool := false
  faulted : Bool := false
  queue : BitVec 10 := 0
  ctx : BitVec 20 := 0
  kernel : W64 := 0
  argument : W64 := 0
  signal : W64 := 0
  blocks : BitVec 32 := 0
  width : BitVec 8 := 0
  height : BitVec 8 := 0
  originX : BitVec 8 := 0
  originY : BitVec 8 := 0
  quota : BitVec 16 := 0
  owed : BitVec 12 := 0
  groups : BitVec 32 := 0
  hostTag : BitVec 32 := 0
  predecessor : BitVec 16 := 0
  next : BitVec 16 := 0
  outstanding : BitVec 16 := 0
  unreleased : BitVec 16 := 0
  node : BitVec 32 := 0
  deriving DecidableEq, Repr

/-- A placement row (06 R100). -/
structure PlaceRow where
  first : BitVec 32 := 0
  count : BitVec 32 := 0
  parked : BitVec 32 := 0
  enacting : BitVec 12 := 0
  placed : Bool := false
  finished : Bool := false
  released : Bool := false
  unplaced : Bool := false
  replaced : Bool := false
  deriving DecidableEq, Repr

/-- A graph instance row (06 R111). -/
structure InstRow where
  ctx : BitVec 20 := 0
  nodes : BitVec 16 := 0
  unfinished : BitVec 16 := 0
  object : W64 := 0
  first : BitVec 32 := 0
  inUse : Bool := false
  faulted : Bool := false
  deriving DecidableEq, Repr

/-- A graph counter row (06 R111); state 0 waiting, 1 reserved, 2 owed, 3 launched, 4 done. -/
structure CtrRow where
  counter : BitVec 16 := 0
  state : BitVec 8 := 0
  owed : BitVec 12 := 0
  grid : BitVec 16 := 0
  deriving DecidableEq, Repr

/-- A sounding row (06 R98). -/
structure SoundRow where
  opening : W64 := 0
  kind : BitVec 8 := 0
  digest : BitVec 128 := 0
  deriving DecidableEq, Repr

/-- Confluence's tables (06 R96). -/
structure Tables where
  chips : Sparse ChipRow := []
  queues : Sparse QueueRow := []
  grids : Sparse GridRow := []
  places : Sparse PlaceRow := []
  insts : Sparse InstRow := []
  ctrs : Sparse CtrRow := []
  vtime : W64 := 0
  split : Bool := false
  formed : Bool := false
  sounds : Sparse SoundRow := []
  deriving DecidableEq, Repr

/-- A kept snapshot (05 R94). -/
structure Snapshot where
  opening : W64
  digest : BitVec 128
  params : PodParams
  tables : Tables
  deriving DecidableEq, Repr

/-- The stages of a rejoin (05 R94). -/
inductive RejoinStage where
  | none
  | snapshot
  | tail
  | replay
  | admitted
  deriving DecidableEq, Repr

/-- An outstanding SYNC transfer (05 R85-R87): a tail or a snapshot, its id, the candidates left and the one asked. -/
structure Transfer where
  snapshot : Bool
  id : BitVec 24
  asked : BitVec 12
  left : List (BitVec 12)
  first : W64
  last : W64
  since : W64
  deriving DecidableEq, Repr

/-- The chip's part in the Current (05): the next sequence to queue, the records held ahead of it with the ticks at which they
arrived, the arrival queue, the
log, the parameters, the open and the split round with the snapshots taken at them, the snapshots kept, whether the chip has
stopped applying, the rejoin (its stage, the tail that it replays, its hold, when it is tried again, the neighbour that gave the snapshot and its opening), the SYNC
transfer outstanding, and the EXPELs still awaited (chip, opening, tick of the close). -/
structure Current where
  next : W64 := 1
  hold : List CurRec := []
  heldAt : List (W64 × W64) := []
  gapSince : Option W64 := none
  queue : List CurRec := []
  log : List CurRec := []
  params : Option PodParams := none
  round : Option Round := none
  deferred : Bool := false
  splitRound : Option Round := none
  snaps : List Snapshot := []
  pendingSnap : Option Snapshot := none
  splitSnap : Option Snapshot := none
  stopped : Bool := false
  stage : RejoinStage := .none
  rejoinTail : List CurRec := []
  rejoinHold : List CurRec := []
  retryAt : Option W64 := none
  transfer : Option Transfer := none
  nextTransfer : BitVec 24 := 0
  source : BitVec 12 := 0
  opening : W64 := 0
  expels : List (BitVec 12 × W64 × W64) := []
  deriving DecidableEq, Repr

/-! ### Dispatch and memory -/

/-- An item of a local queue (07 R115): its class, the grid, the nominal chip and the block number; for a dormant block
its handle. -/
structure QueueItem where
  cls : Nat
  grid : BitVec 16
  nominal : BitVec 12
  number : Nat
  dormant : Option Nat
  deriving DecidableEq, Repr

/-- A signal OR owed by this chip (06 R108): the grid, its fault bit, whether it was sent or waits on a fault, and whether
FINISH of kind 1 was posted for it. -/
structure SignalDue where
  grid : BitVec 16
  fault : Bool
  answer : Option (BitVec 8)
  sent : Bool
  posted : Bool := false
  kind : Nat := 0
  deriving DecidableEq, Repr

/-- A kernel image header that the dispatcher reads (14 R244): the reference and context, the packet it awaits, the page
it waits for, whether that page was refused, the answer of another chip, the header once it was read, how many regions of the
sections were read, and the offset of the request that is out. -/
structure ImageRead where
  kernel : W64
  ctx : BitVec 20
  tag : Option (BitVec 16) := none
  page : Option (BitVec 28 × Nat) := none
  kind : Nat := 0
  refused : Bool := false
  answer : Option (Nat × List Byte) := none
  header : List Byte := []
  next : Nat := 0
  at_ : Nat := 0
  deriving DecidableEq, Repr

/-- A RESUME that a block which is gone still owes after its own BLOCK (07 R118): the block, and how many. -/
structure ResumeDue where
  grid : BitVec 16
  nominal : BitVec 12
  number : Nat
  resumes : Nat
  deriving DecidableEq, Repr

/-- The dispatcher (07): local queues, rotation pointers, blocks, the predecessors' faulted flags latched for grids whose
gate opened (19 R355), what was posted for each row, the RESUMEs that blocks which are gone still owe (07 R118), and the count of
task records that arrived (07 R121) (DESIGN CHOICE, log 6, 85; DEDUCED, log 34). -/
structure Dispatcher where
  items : List QueueItem := []
  rotation : Sparse Nat := []
  blocks : Sparse (Option Block) := []
  nextBlock : Nat := 1
  nextObject : Nat := 0x200_0001
  gateFault : Sparse Bool := []
  postedRelease : List (BitVec 16 × BitVec 12) := []
  postedFinish : List (BitVec 16 × BitVec 12) := []
  postedFault : List (BitVec 16) := []
  ended : Sparse Nat := []
  relCount : Sparse Nat := []
  signals : List SignalDue := []
  launches : List (Nat × CurRec) := []
  images : List ImageRead := []
  resumeDue : List ResumeDue := []
  arrivals : Nat := 0
  deriving DecidableEq, Repr

/-- An object table entry (10 R173): its four 8-byte words. -/
structure ObjEntry where
  root : W64 := 0
  shadow : W64 := 0
  sizeKey : W64 := 0
  flags : W64 := 0
  deriving DecidableEq, Repr

/-- An entry of a Weir's fault queue (10 R178). -/
structure FaultEntry where
  object : BitVec 28
  page : Nat
  kind : Nat
  ctx : BitVec 20
  requesters : List (BitVec 12 × Nat)
  reported : Bool
  deriving DecidableEq, Repr

/-- An arm table entry (19 R351). -/
structure ArmEntry where
  tag : BitVec 32
  ctx : BitVec 20
  fire : Bool
  slots : Nat
  buffer : Cap
  grant : Cap
  deriving DecidableEq, Repr

/-- A request at a Weir's door (10 R176): a remote packet that the ingress gateway handed over. -/
structure WeirReq where
  packet : Packet
  deriving DecidableEq, Repr

/-- An accepted write that a WAIT may be waiting for (15 R271): at a frame or in the stash of a block, and the bytes. It is kept
until the next step has seen which waits it touches. -/
structure Touch where
  stash : Bool
  place : Nat
  bytes : List Nat
  deriving DecidableEq, Repr

/-- A line of a grant map that another chip homes, as a Levee reads it (10 R181, R182): the map's home and object, the 128-byte
line of the object, the tag of the READ under way, and the bytes that came, none for one that cannot be read. `used` tells that
an access was checked against it in the present step. -/
structure GrantRead where
  home : BitVec 12
  object : BitVec 28
  line : Nat
  tag : Option (BitVec 16)
  answer : Option (List (Option Byte)) := none
  used : Bool := false
  deriving DecidableEq, Repr

/-- The memory of the chip (10): object tables, page-map tables, frames, granule tags, sector poison, fault queues,
migration tables, free-frame lists, publishing objects, waiting requests, appends that other
chips' Levees have sent to logs homed here (04 R70; an input that no step adds to), requests of groups that a publish holds (tag, group, tick), the frames that firmware has taken and
returned for context objects by slice, the arm and peer tables, the lines of host-memory pages that the device holds cached
with their contexts, host writes to them not yet taken up (11 R208), and the minor, major and tree counters of
integrity-mode frames with the roots of the Weirs (04 R74), and the compression scheme of each frame's leaf with the form that
each line was stored in (10 R185), the sectors whose metadata word does not match (`stale`), what the writes of the step under
way touch, and the lines of other chips' grant maps that are read or known (DESIGN CHOICE, log 5, 7, 17, 54, 55, 76). -/
structure MemState where
  touched : List Touch := []
  stale : Sparse Bool := []
  grants : List GrantRead := []
  objects : Sparse ObjEntry := []
  tables : Sparse W64 := []
  bytes : Memory := []
  tags : Sparse Bool := []
  poison : Sparse Bool := []
  faults : List FaultEntry := []
  migrating : List (BitVec 28 × Nat) := []
  freeFrames : Sparse (List (BitVec 33)) := []
  publishing : List (BitVec 28 × Nat) := []
  requests : List WeirReq := []
  appends : List LogAppend := []
  waiting : List WeirReq := []
  held : List (BitVec 16 × Nat × W64) := []
  fwFrames : Sparse (Nat × List Nat) := []
  arms : Sparse (Option ArmEntry) := []
  peers : Sparse (Option (BitVec 20)) := []
  hostCached : Sparse (Option (BitVec 20)) := []
  hostNew : Sparse (Option Byte) := []
  minors : Sparse (BitVec 8) := []
  majors : Sparse (BitVec 56) := []
  tree : Sparse (BitVec 56) := []
  roots : Sparse (BitVec 56) := []
  schemes : Sparse (BitVec 3) := []
  forms : Sparse (BitVec 3) := []
  deriving DecidableEq, Repr

/-! ### What leaves the chip -/

/-- What the chip sends (DESIGN CHOICE, log 4, 69; DEDUCED, log 39, 60). -/
inductive Outgoing where
  | frame (port : Nat) (f : Frame)
  | hostData (bytes : List Byte)
  | hostWrite (address : W64) (bytes : List Byte)
  | hostPage (frame : Nat) (bytes : List (Nat × Byte))
  | bootStore (slot : Nat)
  | denial (log : Cap) (entry : List Byte)
  | wake (chip : BitVec 12) (core : Nat) (object : BitVec 28) (page : Nat) (kind : Nat) (refused : Bool)
  | message (peer : Nat) (tag : BitVec 32) (payload : List Byte)
  | transportAck (tag : BitVec 32)
  | transportNak (tag : BitVec 32)
  | receiverNotReady (tag : BitVec 32)
  deriving DecidableEq, Repr

/-- The gang that issues: core, group handle, its slices and the PC (08 R128). -/
structure Cursor where
  core : Nat := 0
  group : Nat := 0
  slices : List Nat := []
  pc : W64 := 0
  deriving DecidableEq, Repr

/-! ### The state -/

/-- The machine (DESIGN CHOICE, log 1, 2, 3, 4, 85). -/
structure State where
  agenda : List Instr
  cursor : Cursor
  turn : Nat
  serial : Nat
  free : Nat
  outbox : List Outgoing
  pkg : Package
  host : HostIf
  fw : Firmware
  trust : Trust
  fab : Fabric
  cur : Current
  conf : Tables
  disp : Dispatcher
  mem : MemState
  cores : Sparse Core
  groups : Sparse (Option Group)
  cmds : Sparse (Option Command)
  nextCmd : Nat
  deriving DecidableEq, Repr

/-- Why a step stops with a fault. The manual gives no condition that stops the chip as a whole: an error ends in a
trap, a halt of a group, an error record, a drop of a die or recovery, and all of these are next states (DEDUCED, log 63). -/
inductive Fault where
  /-- THERMTRIP_N is low and every clock is gated (01 R20): no instruction issues until a cold reset. Raised by the step
  alone. Safe: the hardware does nothing either. -/
  | clocksGated
  deriving DecidableEq, Repr

/-- Why a step is refused. -/
inductive Refusal where
  /-- The instruction has no meaning yet. Raised by an arm of the dispatch only. Safe. -/
  | notModelled (mnemonic : String)
  /-- An Efgus instruction was given to `exec` in a state whose issuing group does not exist: instructions are issued by
  gangs (08 R128). Raised by the meanings of instructions; a step raises it only when the agenda, which is for happenings
  from outside, holds an instruction of a gang. Safe. -/
  | noIssuer
  deriving DecidableEq, Repr

/-- The machine right after the power-on reset (01 R16): everything is cleared and the boot ROM has not run. Defaults
above are the values the manual states, or those the assumption log names (DESIGN CHOICE, log 1, 6). -/
def State.reset : State :=
  { agenda := [], cursor := {}, turn := 0, serial := 0, free := 0, outbox := [], pkg := {}, host := {}, fw := {},
    trust := {}, fab := {}, cur := {}, conf := {}, disp := {}, mem := {}, cores := [], groups := [], cmds := [],
    nextCmd := 0 }

end Sys2Proof.Machine
end

