-- ==== Sys2Proof/Machine/Flit.lean ====
section
/-! DEFINITION. The link layer (02 R29-R33): a packet as flits of 64 bytes, a flit as a frame of 72 bytes with its control
word and CRC-32, the ports with their replay buffers and stop bits, the planes (R27, R28), and the packets of classes 2
and 3, among them the EVENT packet by which the chip posts (05 R80). -/

namespace Sys2Proof

/-! ### CRC-32 (02 R29) -/

/-- One bit of the reflected polynomial 0x04C11DB7. -/
def crcBit (c : BitVec 32) : BitVec 32 := if c.getLsbD 0 then (c >>> 1) ^^^ 0xEDB88320#32 else c >>> 1

/-- One byte. -/
def crcByte (c : BitVec 32) (b : Byte) : BitVec 32 :=
  let c := c ^^^ b.setWidth 32
  crcBit (crcBit (crcBit (crcBit (crcBit (crcBit (crcBit (crcBit c)))))))

/-- CRC-32 over bytes: initial value all ones, final complement. -/
def crc32 (bs : List Byte) : BitVec 32 := ~~~(bs.foldl crcByte 0xFFFFFFFF#32)

/-- The bytes of a frame that its CRC covers. -/
def Frame.covered (f : Frame) : List Byte := (f.flit ++ List.replicate 64 0).take 64 ++ leBytes 4 f.control.toNat

/-- Whether a frame passes its CRC; a reserved kind counts as a failure (R30). -/
def Frame.good (f : Frame) : Bool := f.flit.length == 64 && f.crc == crc32 f.covered && decide (bits f.control 31 28 ≤ 2)

/-- The kind of a frame: 0 data, 1 idle, 2 retry request. -/
def Frame.kind (f : Frame) : Nat := bits f.control 31 28
/-- The link sequence of a frame. -/
def Frame.seq (f : Frame) : BitVec 12 := f.control.extractLsb' 16 12
/-- The acknowledged sequence of a frame. -/
def Frame.ack (f : Frame) : BitVec 12 := f.control.extractLsb' 4 12
/-- The stop bits of a frame. -/
def Frame.stop (f : Frame) : BitVec 4 := f.control.extractLsb' 0 4

/-- A frame of a kind. -/
def makeFrame (kind : Nat) (seq ack : BitVec 12) (stop : BitVec 4) (flit : List Byte) : Frame :=
  let f : Frame := { flit := (flit ++ List.replicate 64 0).take 64,
                     control := BitVec.ofNat 32 (2 ^ 28 * kind + 2 ^ 16 * seq.toNat + 2 ^ 4 * ack.toNat + stop.toNat), crc := 0 }
  { f with crc := crc32 f.covered }

/-! ### Packets as flits (02 R33) -/

/-- The eight words of a header flit (DESIGN CHOICE, log 71). -/
def Packet.words (p : Packet) : List Nat :=
  [ 2 ^ 58 * p.opcode.toNat + 2 ^ 56 * p.cls.toNat + 2 ^ 44 * p.dst.toNat + 2 ^ 32 * p.src.toNat + 2 ^ 16 * p.seq.toNat
      + 2 ^ 14 * p.plane.toNat + 2 ^ 11 * p.flits.toNat + 2 ^ 3 * p.mask.toNat + p.epoch.toNat,
    2 ^ 24 * p.offset.toNat + 2 ^ 4 * p.ptag.toNat + 2 ^ 3 * p.release.toNat + 2 * p.scope.toNat + p.enabled.toNat,
    2 ^ 36 * p.object.toNat + 2 ^ 16 * p.context.toNat + p.tag.toNat,
    2 ^ 52 * p.grantHome.toNat + 2 ^ 24 * p.grantObject.toNat + 2 ^ 16 * p.keyGen.toNat + 2 ^ 8 * p.core.toNat
      + p.status.toNat,
    2 ^ 48 * p.capTags.toNat + 2 ^ 40 * p.poison.toNat + 2 ^ 28 * p.group.toNat + 2 ^ 12 * p.version.toNat,
    2 ^ 56 * p.oper.toNat + 2 ^ 48 * p.etype.toNat + 2 ^ 24 * p.redId.toNat + 2 ^ 12 * p.contributors.toNat,
    p.inline0.toNat, p.inline1.toNat ]

/-- The header flit. -/
def Packet.header (p : Packet) : List Byte := p.words.flatMap (leBytes 8)

/-- Cut bytes into flits of 64, the last filled with zeros. -/
def chunks : Nat → List Byte → List (List Byte)
  | 0, _ => []
  | n + 1, bs => ((bs.take 64) ++ List.replicate 64 0).take 64 :: chunks n (bs.drop 64)

/-- The flits of a packet: header, byte enables when present, payload (DESIGN CHOICE, log 71). -/
def Packet.asFlits (p : Packet) : List (List Byte) :=
  p.header :: (if p.enabled then [leBytes 64 p.byteEnables.toNat] else [])
    ++ chunks ((p.payload.length + 63) / 64) p.payload

/-- A packet from a header flit and the flits after it: the payload is what they hold, and for a packet of 32-byte sectors
as many bytes as its mask names (DESIGN CHOICE, log 71). -/
def packetOfFlits (h : List Byte) (rest : List (List Byte)) : Packet :=
  let w (k : Nat) : W64 := BitVec.ofNat 64 (leNat ((h.drop (8 * k)).take 8))
  let en := (w 1).getLsbD 0
  let body := (if en then rest.drop 1 else rest).flatten
  let mask : BitVec 8 := (w 0).extractLsb' 3 8
  let n := 32 * ((List.range 8).filter fun i => mask.getLsbD i).length
  { opcode := (w 0).extractLsb' 58 6, cls := (w 0).extractLsb' 56 2, dst := (w 0).extractLsb' 44 12,
    src := (w 0).extractLsb' 32 12, seq := (w 0).extractLsb' 16 16, plane := (w 0).extractLsb' 14 2,
    flits := (w 0).extractLsb' 11 3, mask := mask, epoch := (w 0).extractLsb' 0 3,
    offset := (w 1).extractLsb' 24 40, ptag := (w 1).extractLsb' 4 20, release := (w 1).getLsbD 3,
    scope := (w 1).extractLsb' 1 2, enabled := en, object := (w 2).extractLsb' 36 28, context := (w 2).extractLsb' 16 20,
    tag := (w 2).extractLsb' 0 16, grantHome := (w 3).extractLsb' 52 12, grantObject := (w 3).extractLsb' 24 28,
    keyGen := (w 3).extractLsb' 16 8, core := (w 3).extractLsb' 8 8, status := (w 3).extractLsb' 0 8,
    capTags := (w 4).extractLsb' 48 16, poison := (w 4).extractLsb' 40 8, group := (w 4).extractLsb' 28 12,
    version := (w 4).extractLsb' 12 16, oper := (w 5).extractLsb' 56 8, etype := (w 5).extractLsb' 48 8,
    redId := (w 5).extractLsb' 24 24, contributors := (w 5).extractLsb' 12 12, inline0 := w 6, inline1 := w 7,
    byteEnables := if en then BitVec.ofNat 256 (leNat ((rest.headD []).take 32)) else 0,
    payload := if mask = 0 then body else body.take n }

end Sys2Proof

namespace Sys2Proof.Machine

/-! ### Ports and their frames (02 R28-R32) -/

/-- Whether a die runs. -/
def State.dieRuns (s : State) (d : Nat) : Bool := s.pkg.running.getLsbD d && !s.pkg.dropped.getLsbD d

/-- TICK of a die (14 R261) (DESIGN CHOICE, log 48). -/
def State.tickOf (s : State) (die : Nat) : W64 := Sparse.get 0 s.pkg.tick die

/-- The clock of a die: its TICK, or that of the lowest running die once it was dropped (DEDUCED, log 66). -/
def State.dieClock (s : State) (d : Nat) : W64 :=
  if s.dieRuns d then s.tickOf d else s.tickOf (((List.range 4).find? s.dieRuns).getD 0)

/-- A port: 16 to a die (R27). -/
def State.port (s : State) (i : Nat) : Port := Sparse.get {} s.fab.ports i

/-- Store a port. -/
def State.putPort (s : State) (i : Nat) (p : Port) : State :=
  { s with fab := { s.fab with ports := Sparse.set {} s.fab.ports i p } }

/-- Frames of one kind leave on a port: each carries the last good sequence received and the stop bits that this side sets
(R30), and the port remembers what it told (DESIGN CHOICE, log 72). -/
def State.emitFrames (s : State) (i kind : Nat) (es : List (BitVec 12 × List Byte)) : State :=
  let p := s.port i
  let s := { s with outbox := s.outbox ++ es.map fun e => .frame i (makeFrame kind e.1 (p.rxSeq - 1) p.stopIn e.2) }
  if es = [] then s else s.putPort i { p with ackSent := p.rxSeq - 1, stopSent := p.stopIn }

/-- An idle frame leaves on a trained port that has told the far side neither its last good sequence nor its stop bits:
without a flit to send, a frame is an idle frame (R29) (DESIGN CHOICE, log 72). -/
def State.idlePort (s : State) (i : Nat) : State :=
  let p := s.port i
  if p.state = .trained ∧ (p.ackSent ≠ p.rxSeq - 1 ∨ p.stopSent ≠ p.stopIn) then s.emitFrames i 1 [(p.txSeq, [])] else s

/-- Idle frames on every port that owes one. -/
def State.idleAll (s : State) : State := (s.fab.ports.map Prod.fst).foldl State.idlePort s

/-- The frames that a port can hold for a class: more than the 160 above which R32 clears a stop bit
(DESIGN CHOICE, log 89). -/
def portFrames (cls : Nat) : Nat := 161 + Config.portSlack cls

/-- The frames of a class that a port holds: packets that its gateway has not taken, and the packet received in part. -/
def Port.holds (p : Port) (cls : Nat) : Nat :=
  ((p.buffer.filter fun x => x.cls.toNat == cls).foldl (fun n x => n + x.asFlits.length) 0)
    + (if p.flits ≠ [] ∧ leNat ((p.flits.headD []).take 8) / 2 ^ 56 % 4 = cls then p.flits.length else 0)

/-- The classes whose free buffering is low: below 96 frames, until it is above 160 (R32). -/
def Port.lowNow (p : Port) : BitVec 4 :=
  (List.range 4).foldl (fun w k =>
    let free := portFrames k - p.holds k
    if free < 96 ∨ (p.low.getLsbD k ∧ free ≤ 160) then w ||| (1#4 <<< k) else w) 0

/-- Packets in the reorder pool of the gateway of a plane (R38). -/
def State.poolSize (s : State) (plane : Nat) : Nat :=
  (s.fab.rx.filter fun e => e.1.plane.toNat == plane).foldl (fun n e => n + e.2.pool.length) 0

/-- The stop bits of every port: its low classes (R32), classes 0 and 1 while more than 15,360 entries of its gateway's pool
are in use (R38), and class 2 while the arrival queue of the Current holds more than 61,440 records (06 R97). Changed
bits leave in idle frames (DESIGN CHOICE, log 73). -/
def State.setStops (s : State) : State :=
  let set (e : Nat × Port) : Nat × Port :=
    let low := e.2.lowNow
    let pool : BitVec 4 := if 15360 < s.poolSize (e.1 / 16) then 3 else 0
    let cur : BitVec 4 := if 61440 < s.cur.queue.length then 4 else 0
    (e.1, { e.2 with low := low, stopIn := low ||| pool ||| cur })
  ({ s with fab := { s.fab with ports := Sparse.setAll {} s.fab.ports (s.fab.ports.map set) } } : State).idleAll

/-- Whether a port may start a packet of a class that takes n frames: trained, not stopped, and its replay buffer of 512
holds them. -/
def Port.takes (p : Port) (cls : BitVec 2) (n : Nat) : Bool :=
  p.state == .trained && !p.stopOut.getLsbD cls.toNat && decide (p.replay.length + n ≤ 512)

/-- The round-robin pointer of a source-target pair on a plane (R28). -/
def sprayKey (plane : BitVec 2) (chip : BitVec 12) : Nat := 4096 * plane.toNat + chip.toNat

/-- The port for the next packet of a pair, in round-robin order from its pointer (R28). -/
def State.choosePort (s : State) (plane : BitVec 2) (chip : BitVec 12) (cls : BitVec 2) (n : Nat) : Option Nat :=
  let at_ := Sparse.get 0 s.fab.spray (sprayKey plane chip)
  ((List.range 16).map fun i => 16 * plane.toNat + (at_ + i) % 16).find? fun i => (s.port i).takes cls n

/-- The data frames of some flits, from a link sequence on, as the replay buffer keeps them. -/
def numbered (seq : BitVec 12) : List (List Byte) → List (BitVec 12 × List Byte)
  | [] => []
  | f :: fs => (seq, f) :: numbered (seq + 1) fs

/-- A packet leaves on a port: its flits are numbered, leave as data frames and are kept until they are acknowledged. -/
def State.emitOn (s : State) (i : Nat) (p : Packet) : State :=
  let q := s.port i
  let es := numbered q.txSeq p.asFlits
  let s := s.putPort i { q with replay := q.replay ++ es, txSeq := q.txSeq + BitVec.ofNat 12 es.length }
  let s := s.emitFrames i 0 es
  { s with fab := { s.fab with spray := Sparse.set 0 s.fab.spray (sprayKey p.plane p.dst) ((i % 16 + 1) % 16) } }

/-- A packet leaves on its plane, if a port takes it. -/
def State.emit (s : State) (p : Packet) : Option State :=
  (s.choosePort p.plane p.dst p.cls p.asFlits.length).map fun i => s.emitOn i p

/-! ### Planes (02 R27, R28) -/

/-- The planes enabled on another chip, from its die map in the tables (R27; 05 R95). -/
def State.planesOf (s : State) (chip : BitVec 12) : BitVec 4 := ((Sparse.get {} s.conf.chips chip.toNat).dieMap).setWidth 4

/-- Whether a die of this chip counts as enabled: it runs, and not all of its 16 ports are down (R28). A port that the record
does not enable is none that is up. -/
def State.planeUp (s : State) (d : Nat) : Bool :=
  s.dieRuns d && (List.range 16).any fun i => (s.port (16 * d + i)).state == .trained || (s.port (16 * d + i)).state == .training

/-- Whether a packet has not reached the far side of its link: it waits for a port, or a port that is up keeps a frame of it that
is not acknowledged (R31). -/
def State.unheard (s : State) (p : Packet) : Bool :=
  s.fab.loose.contains p || s.fab.ports.any fun e =>
    e.1 / 16 == p.plane.toNat && s.dieRuns (e.1 / 16) && (e.2.state == .trained || e.2.state == .training)
      && e.2.replay.any fun f => p.asFlits.contains f.2

/-- Whether a plane has an enabled port (01 R21). -/
def State.planeEnabled (s : State) (d : Nat) : Bool :=
  s.dieRuns d && (List.range 16).any fun i => s.pkg.config.brodug.getLsbD (16 * d + i)

/-- The plane of a packet from a die of this chip to another chip (R27). -/
def State.planeTo (s : State) (die : Nat) (chip : BitVec 12) : Option (BitVec 2) :=
  let up (p : Nat) : Bool := s.planeUp p && (s.planesOf chip).getLsbD p
  if up die then some (BitVec.ofNat 2 die) else ((List.range 4).find? up).map (BitVec.ofNat 2)

/-- The plane of posts and of what goes to the switch tier: that of the lowest-numbered enabled die (05 R80)
(DESIGN CHOICE, log 69). -/
def State.eventPlane (s : State) : BitVec 2 :=
  BitVec.ofNat 2 (((List.range 4).find? s.planeUp).getD (((List.range 4).find? s.dieRuns).getD 0))

/-! ### Packets of no window: classes 2 and 3, and window acknowledgements -/

/-- A packet that waits for a port goes by a plane that is up, when it is one of class 2 and its own no longer is. -/
def State.rerouted (s : State) (p : Packet) : Packet :=
  if p.cls = 2 ∧ s.planeUp p.plane.toNat = false then { p with plane := (s.planeTo p.plane.toNat p.dst).getD s.eventPlane } else p

/-- A packet of no window: it leaves, or waits for a port behind those that wait. -/
def State.emitLoose (s : State) (p : Packet) : State :=
  if s.fab.loose.any fun q => q.plane == p.plane && q.cls == p.cls then
    { s with fab := { s.fab with loose := s.fab.loose ++ [p] } }
  else
    match s.emit p with
    | some t => t
    | none => { s with fab := { s.fab with loose := s.fab.loose ++ [p] } }

/-- Packets that waited for a port leave, each class of a plane in order. -/
def State.drainLoose (s : State) : State :=
  (s.fab.loose.map s.rerouted).foldl State.emitLoose { s with fab := { s.fab with loose := [] } }

/-- The 64 bytes of a Current record (05 R81). -/
def recBytes (r : CurRec) : List Byte :=
  leBytes 8 r.seq.toNat ++ leBytes 1 r.typ.toNat ++ leBytes 1 r.version.toNat ++ leBytes 2 r.src.toNat ++ leBytes 4 r.ctx.toNat
    ++ leBytes 48 r.payload.toNat

/-- A Current record from its 64 bytes (05 R81). -/
def recordOf (b : List Byte) : CurRec :=
  let num (off n : Nat) : Nat := leNat ((b.drop off).take n)
  { seq := BitVec.ofNat 64 (num 0 8), typ := BitVec.ofNat 8 (num 8 1), version := BitVec.ofNat 8 (num 9 1),
    src := BitVec.ofNat 16 (num 10 2), ctx := BitVec.ofNat 32 (num 12 4), payload := BitVec.ofNat 384 (num 16 48) }

/-- A mask of the lowest sectors that n bytes take. -/
def lowMask (n : Nat) : BitVec 8 := BitVec.ofNat 8 (2 ^ ((n + 31) / 32) - 1)

/-- A packet that carries bytes from sector 0 on, padded to whole sectors, from this chip on a plane. -/
def State.plainPacket (s : State) (opcode : BitVec 6) (cls : BitVec 2) (plane : BitVec 2) (dst : BitVec 12) (b : List Byte) :
    Packet :=
  { Packet.zero with
    opcode := opcode, cls := cls, dst := dst, src := s.fab.self, plane := plane, mask := lowMask b.length,
    flits := BitVec.ofNat 3 ((b.length + 63) / 64), payload := b ++ List.replicate ((32 - b.length % 32) % 32) 0 }

/-- The EVENT packet of a post (05 R80; R34): class 2, the record with sequence 0 in its payload flit, toward the switch
tier (DESIGN CHOICE, log 69). -/
def State.eventPacket (s : State) (r : CurRec) : Packet :=
  { s.plainPacket 0x10 2 s.eventPlane s.fab.self (recBytes r) with context := r.ctx.setWidth 20 }

/-- Send the EVENT packet of a record. -/
def State.sendEvent (s : State) (r : CurRec) : State := s.emitLoose (s.eventPacket r)

/-- The pieces of a stream of n packets of 256 bytes from an offset on: offset, bytes and whether it is the last. -/
def streamCuts : Nat → Nat → List Byte → List (Nat × List Byte × Bool)
  | 0, _, _ => []
  | n + 1, off, b => (off, b.take 256, n == 0) :: streamCuts n (off + 256) (b.drop 256)

/-- The packets of a transfer (05 R87): operation and id in word 5, the byte offset in word 1, and bit 23 of word 5 on the
last. -/
def State.streamPackets (s : State) (opcode : BitVec 6) (cls : BitVec 2) (plane : BitVec 2) (dst : BitVec 12) (oper : BitVec 8)
    (id : BitVec 24) (b : List Byte) : List Packet :=
  (streamCuts (max 1 ((b.length + 255) / 256)) 0 b).map fun e =>
    { s.plainPacket opcode cls plane dst e.2.1 with
      oper := oper, redId := id, offset := BitVec.ofNat 40 e.1, contributors := if e.2.2 then 0x800 else 0 }

/-- Send the packets of a SYNC exchange to a chip (05 R86, R87) (DESIGN CHOICE, log 69). -/
def State.sendSync (s : State) (chip : BitVec 12) (oper : BitVec 8) (id : BitVec 24) (b : List Byte) : State :=
  let plane := (s.planeTo s.eventPlane.toNat chip).getD s.eventPlane
  (s.streamPackets 0x11 2 plane chip oper id b).foldl State.emitLoose s

end Sys2Proof.Machine
end

