-- ==== Sys2Proof/Machine/Ops.lean ====
section
/-! DEFINITION. The named operations that the meanings share: lanes and gangs (08), registers (08 R130, R131, R133; 09
R149), parks and pending results (08 R134-R138), error records (03 R51), posts (05 R80), and taking a trap, returning
from one and halting (13 R230-R235). -/

namespace Sys2Proof.Machine

/-- What a meaning answers. -/
abbrev Res := Host.Outcome State Fault Refusal

/-! ### Lanes and slices (08 R125, R143) -/

/-- The physical lanes of a group: W, and never more than 96 (DESIGN CHOICE, log 81). -/
def Group.lanes (g : Group) : Nat := min g.width 96

/-- The slices of a group: W / 4. -/
def Group.sliceCount (g : Group) : Nat := g.lanes / 4

/-- The visible width: W, or W / 2 under protected launch (08 R143) (DESIGN CHOICE, log 81). -/
def Group.visible (g : Group) : Nat := if g.prot then g.lanes / 2 else g.lanes

/-- The visible lane of a physical lane. -/
def Group.visLane (g : Group) (l : Nat) : Nat := if g.prot then l / 2 else l

/-- The first (even) physical lane of a visible lane. -/
def Group.physLane (g : Group) (l : Nat) : Nat := if g.prot then 2 * l else l

/-- A slice record. -/
def Group.slice (g : Group) (i : Nat) : Slice := Sparse.get {} g.slices i

/-- Write a slice record. -/
def Group.setSlice (g : Group) (i : Nat) (r : Slice) : Group := { g with slices := Sparse.set {} g.slices i r }

/-- Change the records of a list of slices. -/
def Group.mapSlices (g : Group) (f : Nat → Slice → Slice) : List Nat → Group
  | [] => g
  | i :: is => Group.mapSlices (g.setSlice i (f i (g.slice i))) f is

/-- The slices that have not exited, ascending. -/
def Group.live (g : Group) : List Nat :=
  (List.range g.sliceCount).filter fun i => decide ((g.slice i).state ≠ .exited)

/-- The slices of the gang with an identifier (08 R128), ascending. -/
def Group.gang (g : Group) (id : Nat) : List Nat := g.live.filter fun i => (g.slice i).gang == id

/-- Whether every slice that has not exited is parked. -/
def Group.allParked (g : Group) : Bool := g.live.all fun i => decide ((g.slice i).state = .parked)

/-- Gang identifiers without repeats, those of the lowest lane first; equal lanes go by identifier. -/
def byLane (lane : Nat → Nat) (ids : List Nat) : List Nat :=
  let ins (i : Nat) (l : List Nat) : List Nat :=
    let before (j : Nat) : Bool := decide (lane j < lane i) || (lane j == lane i && decide (j < i))
    if l.contains i then l else l.filter before ++ i :: l.filter fun j => !before j
  ids.foldr ins []

/-- Bit s of a 24-bit slice set, in a 64-bit word. -/
def sliceBits (slices : List Nat) : W64 := slices.foldl (fun w i => w ||| (1#64 <<< i)) 0

/-- The visible lane bits that the slices own (08 R131, R143). -/
def Group.ownBits (g : Group) (slices : List Nat) : BitVec 96 :=
  slices.foldl (fun w i => w ||| (if g.prot then 3#96 <<< (2 * i) else 15#96 <<< (4 * i))) 0

/-! ### Scalar registers -/

/-- A scalar register; s0 reads zero. -/
def Group.rs (g : Group) (r : Nat) : W64 := if r = 0 then 0 else Sparse.get 0 g.s r

/-- The low 32 bits of three registers from s_k: a mask triple. -/
def Group.triple (g : Group) (k : Nat) : BitVec 96 :=
  ((g.rs (k + 2)).setWidth 32 ++ (g.rs (k + 1)).setWidth 32 ++ (g.rs k).setWidth 32 : BitVec (32 + 32 + 32))

/-- The bits of a scalar register that a write by the slices may change (08 R130, R131, R133; 15 R262). -/
def Group.writable (g : Group) (slices : List Nat) (r : Nat) : W64 :=
  if r = 0 then 0
  else if 116 ≤ r ∧ r ≤ 123 then 0xFFFF000000000000#64 ||| sliceBits slices ||| (sliceBits slices <<< 24)
  else if 125 ≤ r then ((g.ownBits slices).extractLsb' (32 * (r - 125)) 32).setWidth 64
  else BitVec.allOnes 64

/-- Write the bits of a scalar register that the slices may change. Nothing else happens. -/
def Group.putS (g : Group) (slices : List Nat) (r : Nat) (v : W64) : Group :=
  { g with s := Sparse.set 0 g.s r ((g.rs r &&& ~~~(g.writable slices r)) ||| (v &&& g.writable slices r)) }

/-- Whether a scalar register is gang-owned in part: a write by other slices leaves bits of it (08 R131). -/
def gangOwned (r : Nat) : Bool := decide (116 ≤ r ∧ r ≤ 123) || decide (125 ≤ r)

/-- The bits of a scalar register that a write by the slices takes from older pending results: the register, or where it is
gang-owned the bits written (08 R131, R137 item 2). -/
def Group.takes (g : Group) (slices : List Nat) (r : Nat) : W64 :=
  if gangOwned r then g.writable slices r else BitVec.allOnes 64

/-- A pending result without its write to some bits of s_r, which a younger write has written (08 R137 item 2). -/
def Pending.dropS (r : Nat) (m : W64) (p : Pending) : Pending :=
  if (p.scalar.map Prod.fst) ≠ some r then p
  else if p.bits &&& ~~~m = 0 then { p with scalar := none }
  else { p with bits := p.bits &&& ~~~m }

/-- A pending result without its write to c_r. -/
def Pending.dropC (r : Nat) (p : Pending) : Pending :=
  { p with capr := p.capr.filter fun e => e.1 != r }

/-- A pending result without its writes to some vector register lanes. -/
def Pending.dropV (keys : List Nat) (p : Pending) : Pending :=
  { p with vecs := p.vecs.filter fun e => !keys.contains e.1 }

/-- A pending result without its XFLAGS bytes of some lanes. -/
def Pending.dropX (lanes : List Nat) (p : Pending) : Pending :=
  { p with xfl := p.xfl.filter fun e => !lanes.contains e.1 }

/-- An unanswered scalar load without its write to some bits of s_r, which a younger instruction has written. -/
def MemOp.dropS (r : Nat) (m : W64) (o : MemOp) : MemOp :=
  match o.kind with
  | .loadScalar _ => if o.dst = r then { o with lost := o.lost ||| m } else o
  | _ => o

/-- An unanswered capability load without its write to c_r. -/
def MemOp.dropC (r : Nat) (o : MemOp) : MemOp :=
  if o.kind = .capLoad ∧ o.dst = r then { o with lost := BitVec.allOnes 64 } else o

/-- E of a rejoin register. -/
def rejoinE (w : W64) : BitVec 24 := w.setWidth 24
/-- A of a rejoin register. -/
def rejoinA (w : W64) : BitVec 24 := w.extractLsb' 24 24

/-- A slice whose park has ended. -/
def Slice.ready (r : Slice) : Slice := { r with state := .ready, park := .none, arg := 0, deadline := 0 }

/-- A slice that parks. -/
def Slice.parkAt (r : Slice) (p : Park) (arg : BitVec 32) (deadline : W64) : Slice :=
  { r with state := .parked, park := p, arg := arg, deadline := deadline }

/-- The slices that A of rejoin register r holds, ascending: those that have not exited. -/
def Group.arrived (g : Group) (r : Nat) : List Nat := g.live.filter fun i => (rejoinA (g.rs r)).getLsbD i

/-- The slices of A of rejoin register r that are parked at a JOIN of it, ascending. -/
def Group.arrivals (g : Group) (r : Nat) : List Nat :=
  g.live.filter fun i => (rejoinA (g.rs r)).getLsbD i && (g.slice i).park == .join
    && (g.slice i).arg == BitVec.ofNat 32 r

/-- The gang of a slice once some slices have left their gangs: it is named by the lowest slice that is left. -/
def Group.gangLess (g : Group) (gone : List Nat) (i : Nat) : Nat :=
  (g.live.filter fun j => !gone.contains j && (g.slice j).gang == (g.slice i).gang).headD i

/-- Complete() of 08 R134: the slices of A form one gang at a PC; A becomes empty and the count advances. -/
def Group.completeJoin (g : Group) (r : Nat) (arrived : List Nat) (pc : W64) : Group :=
  let w := g.rs r
  let n : BitVec 15 := w.extractLsb' 48 15 + 1
  let w' : W64 := (w &&& 0x8000000000FFFFFF#64) ||| (n.setWidth 64 <<< 48)
  let g := { g with s := Sparse.set 0 g.s r w', joinSince := Sparse.set 0 g.joinSince r 0 }
  g.mapSlices (fun i sl => if arrived.contains i then { sl.ready with pc := pc, gang := arrived.headD 0 }
    else { sl with gang := g.gangLess arrived i }) g.live

/-- The test that a write to E or A of a rejoin register re-evaluates (08 R134): with arrivals parked, a completed
join sends them to the PC after the JOIN of the lowest-numbered of them. The writing gang is no part of the merged gang. -/
def Group.recheckJoin (g : Group) (writer : List Nat) (r : Nat) : Group :=
  let parked := g.arrivals r
  if 116 ≤ r ∧ r ≤ 123 ∧ parked ≠ [] ∧ rejoinE (g.rs r) &&& ~~~(rejoinA (g.rs r)) = 0 then
    g.completeJoin r ((g.arrived r).filter fun i => !writer.contains i) ((g.slice (parked.headD 0)).pc + 4)
  else g

/-- A scalar write by an instruction of the slices (15 R262): the register, then the rejoin test, and an older pending
result of the register, or one that an older load still waits for, is dropped. -/
def Group.writeS (g : Group) (slices : List Nat) (r : Nat) (v : W64) : Group :=
  let g := g.putS slices r v
  ({ g with pending := g.pending.map (Pending.dropS r (g.takes slices r)),
            memOps := g.memOps.map (MemOp.dropS r (g.takes slices r)) } : Group).recheckJoin slices r

/-- One register of a destination triple: the bits of the lanes of the slices take the new value (15 R265). -/
def Group.writeWord (g : Group) (slices : List Nat) (r j : Nat) (v : BitVec 96) : Group :=
  let own : W64 := ((g.ownBits slices).extractLsb' (32 * j) 32).setWidth 64
  let new : W64 := (v.extractLsb' (32 * j) 32).setWidth 64
  g.writeS slices r ((g.rs r &&& ~~~own) ||| (new &&& own))

/-- Write the bits of the slices' lanes in the triple from s_k (08 R131 item 2, 15 R265 item 2). -/
def Group.writeTriple (g : Group) (slices : List Nat) (k : Nat) (v : BitVec 96) : Group :=
  ((g.writeWord slices k 0 v).writeWord slices (k + 1) 1 v).writeWord slices (k + 2) 2 v

/-! ### Capability and vector registers -/

/-- A capability register. -/
def Group.rc (g : Group) (r : Nat) : Cap := Sparse.get {} g.c r

/-- Write a capability register. -/
def Group.writeC (g : Group) (r : Nat) (v : Cap) : Group :=
  { g with c := Sparse.set {} g.c r v, pending := g.pending.map (Pending.dropC r), memOps := g.memOps.map (MemOp.dropC r) }

/-- The key of window position n in physical lane l (09 R149). -/
def Group.vkey (g : Group) (n l : Nat) : Nat := (g.winb + n) * 128 + l

/-- Window position n of physical lane l. -/
def Group.rv (g : Group) (n l : Nat) : W32 := Sparse.get 0 g.v (g.vkey n l)

/-- The pair at window position n of physical lane l: low word first (12 R213). -/
def Group.rp (g : Group) (n l : Nat) : W64 := (g.rv (n + 1) l ++ g.rv n l : BitVec (32 + 32))

/-- Write vector register lanes by key. -/
def Group.writeV (g : Group) (vals : List (Nat × W32)) : Group :=
  { g with v := Sparse.setAll 0 g.v vals, pending := g.pending.map (Pending.dropV (vals.map Prod.fst)) }

/-- Whether a window position names a register of the group (09 R149). -/
def Group.inWindow (g : Group) (n : Nat) : Bool := decide (g.winb + n < g.extent)

/-- Whether a pair at a window position lies in the window. -/
def Group.pairIn (g : Group) (n : Nat) : Bool := g.inWindow (n + 1)

/-- A vector operand, or a pair when the form is 64 bits wide. -/
def Group.valIn (g : Group) (wide : Bool) (n : Nat) : Bool := if wide then g.pairIn n else g.inWindow n

/-- The (key, value) writes of a 64-bit value to a pair. -/
def Group.pairWrites (g : Group) (n l : Nat) (v : W64) : List (Nat × W32) :=
  [(g.vkey n l, v.setWidth 32), (g.vkey (n + 1) l, v.extractLsb' 32 32)]

/-! ### Activity (00 R8, 08 R130) -/

/-- The visible lane bits of Active() for a gang. -/
def Group.activeBits (g : Group) (slices : List Nat) : BitVec 96 := g.triple 125 &&& g.ownBits slices

/-- Active() in visible lanes, ascending. -/
def Group.activeVis (g : Group) (slices : List Nat) : List Nat :=
  (List.range g.visible).filter fun l => (g.activeBits slices).getLsbD l

/-- The physical lanes of Active(), ascending. -/
def Group.active (g : Group) (slices : List Nat) : List Nat :=
  (List.range g.lanes).filter fun l =>
    decide (g.visLane l < g.visible) && (g.activeBits slices).getLsbD (g.visLane l)

/-- The lowest physical lane of Active(), or 0 (13 R231). -/
def Group.lowest (g : Group) (slices : List Nat) : Nat := (g.active slices).headD 0

/-! ### Pending results (08 R136, R137; 12 R216) -/

/-- OR flags into FPSR (12 R215) (DEDUCED, log 87). -/
def Group.orFlags (g : Group) (f : BitVec 6) : Group := { g with fpsr := g.fpsr ||| f.setWidth 32 }

/-- The loads of a group that were issued before a pending result and are not answered, changed by a drop. -/
def Group.dropOlder (g : Group) (serial : Nat) (f : MemOp → MemOp) : Group :=
  { g with memOps := g.memOps.map fun o => if o.serial < serial then f o else o }

/-- Write one pending result to its registers and OR its flags; an older load that is not answered yet loses its write to what
the result has written (DESIGN CHOICE, log 42; DEDUCED, log 87). -/
def Group.applyPending (g : Group) (p : Pending) : Group :=
  let g := { g with v := Sparse.setAll 0 g.v p.vecs, xflags := Sparse.setAll 0 g.xflags p.xfl }
  let g := match p.scalar with
    | none => g
    | some (r, v) => ((g.putS p.slices r ((g.rs r &&& ~~~p.bits) ||| (v &&& p.bits))).dropOlder p.serial
        (MemOp.dropS r (g.takes p.slices r &&& p.bits))).recheckJoin p.slices r
  let g := match p.capr with
    | none => g
    | some (r, v) => ({ g with c := Sparse.set {} g.c r v } : Group).dropOlder p.serial (MemOp.dropC r)
  g.orFlags p.flags

/-- Whether a pending result belongs to a gang: it was issued by, or inherited from, a gang holding one of its slices
(08 R137 item 4). -/
def Pending.of (p : Pending) (slices : List Nat) : Bool := p.slices.any fun i => slices.contains i

/-- Whether the gang has pending results. -/
def Group.hasPending (g : Group) (slices : List Nat) : Bool := g.pending.any fun p => p.of slices

/-- An older pending result without what a younger result, now written, has written (08 R137 items 2 and 3). -/
def Group.outdated (g : Group) (young old : Pending) : Pending :=
  let old := (old.dropV (young.vecs.map Prod.fst)).dropX (young.xfl.map Prod.fst)
  let old := match young.scalar with
    | none => old
    | some (r, _) => old.dropS r (g.takes young.slices r &&& young.bits)
  match young.capr with
  | none => old
  | some (r, _) => old.dropC r

/-- Write the pending results of a gang out of a list in issue order; older results of other gangs stay, without what the
younger ones have written. -/
def Group.flushFrom (g : Group) (slices : List Nat) (older : List Pending) : List Pending → Group
  | [] => { g with pending := older }
  | p :: ps =>
    if p.of slices then Group.flushFrom (g.applyPending p) slices (older.map (g.outdated p)) ps
    else Group.flushFrom g slices (older ++ [p]) ps

/-- Write every pending result of a gang, in issue order (DESIGN CHOICE, log 42). -/
def Group.flush (g : Group) (slices : List Nat) : Group := g.flushFrom slices [] g.pending

/-- Write a result now: it is younger than every pending one (10 R180). -/
def Group.writeNow (g : Group) (p : Pending) : Group :=
  ({ g with pending := g.pending.map (g.outdated p) } : Group).applyPending p

/-- The SMX records of a gang's pending results: (lane, flag bit). -/
def Group.smxOf (g : Group) (slices : List Nat) : List (Nat × Nat) :=
  (g.pending.filter fun p => p.of slices).flatMap Pending.smx

/-- Add a pending result. -/
def Group.addPending (g : Group) (p : Pending) : Group := { g with pending := g.pending ++ [p] }

/-- Add the result of a load in its place in issue order: before those of the loads issued after it (08 R137 item 3). -/
def Group.addInOrder (g : Group) (p : Pending) : Group :=
  { g with pending := (g.pending.takeWhile fun q => decide (q.serial ≤ p.serial)) ++ p ::
      g.pending.dropWhile fun q => decide (q.serial ≤ p.serial) }

/-! ### Groups in the state -/

/-- The group with a handle. -/
def State.group (s : State) (h : Nat) : Option Group := Sparse.get none s.groups h

/-- Whether a park of group scope holds the group (08 R138). -/
def Group.groupParked (g : Group) : Bool :=
  g.ctxFault || g.live.any fun i => (g.slice i).park == .pageFault

/-- The slices under a park of group scope (08 R138): one that is READY takes it. -/
def Group.held (g : Group) : Group :=
  if g.groupParked then
    g.mapSlices (fun _ sl =>
      if sl.state = .ready then sl.parkAt (if g.ctxFault then .contextFault else .pageFault) 0 0 else sl) g.live
  else g

/-- The group with the parks of group scope and the state that the slices imply (08 R138-R140). -/
def Group.settle (g0 : Group) : Group :=
  let g := g0.held
  match g.state with
  | .resident =>
    if g.live = [] then { g with state := .done } else if g.allParked then { g with state := .idle } else g
  | .idle => if g.live = [] then { g with state := .done } else if g.allParked then g else { g with state := .resident }
  | .out => if g.allParked then g else { g with state := .released }
  | _ => g

/-- Queue a group that became RELEASED in class 1 of its core's activation queue (09 R155). -/
def State.queueReleased (s : State) (old : Option Group) (h : Nat) (g : Group) : State :=
  if g.state = .released ∧ (old.map Group.state) ≠ some .released then
    let c := Sparse.get {} s.cores g.core
    { s with cores := Sparse.set {} s.cores g.core { c with released := c.released ++ [h] } }
  else s

/-- Store a group, with the state its slices imply. -/
def State.putGroup (s : State) (h : Nat) (g : Group) : State :=
  let g' := g.settle
  { s.queueReleased (s.group h) h g' with groups := Sparse.set none s.groups h (some g') }

/-- The die of a core: user cores 0-159 by device number, then one FWC per die (01 R10; assumption 20). -/
def dieOf (core : Nat) : Nat := if core < 160 then core / 40 else core - 160

/-- Run a meaning with the group that the cursor names. -/
def State.issue (s : State) (k : Group → Res) : Res :=
  match s.group s.cursor.group with
  | none => .refused .noIssuer
  | some g => k g

/-! ### Error records and posts -/

/-- The record of 03 R51 with its detail of 48 bytes (DESIGN CHOICE, log 64). -/
def errorBytes (tick : W64) (die unit : Nat) (code : BitVec 16) (severity : Nat) (detail : List Byte) : List Byte :=
  leBytes 8 tick.toNat ++ leBytes 1 die ++ leBytes 1 unit ++ leBytes 2 code.toNat ++ leBytes 1 severity
    ++ leBytes 3 0 ++ (detail ++ List.replicate 48 0).take 48

/-- Write an error record (03 R51): dropped and counted in ERRLOST while 256 are unconsumed. Full means that head less tail
is 256: when the host writes the tail backward, so that more than 256 lie between them, records go on being written
(DESIGN CHOICE, log 64). -/
def State.errorRecord (s : State) (die unit : Nat) (code : BitVec 16) (severity : Nat) (detail : List Byte) : State :=
  let h := s.host
  if h.errHead - h.errTail = 256 then { s with host := { h with errLost := h.errLost + 1 } }
  else
    { s with host := { h with
        errRing := Sparse.set [] h.errRing (h.errHead.toNat % 256)
          (errorBytes (s.tickOf die) die unit code severity detail)
        errHead := h.errHead + 1 } }

/-- The detail layout of the containment errors (13 R238). -/
def containDetail (unitKind check unitNum : Nat) (frame : Option (BitVec 31)) (sector grid ctx gid count : Nat)
    (pc tstat peer : W64) : List Byte :=
  leBytes 1 unitKind ++ leBytes 1 check ++ leBytes 2 unitNum
    ++ leBytes 4 (match frame with | none => 0 | some f => 2 ^ 31 + f.toNat) ++ leBytes 2 sector ++ leBytes 2 grid
    ++ leBytes 4 ctx ++ leBytes 4 gid ++ leBytes 4 count ++ leBytes 8 pc.toNat ++ leBytes 8 tstat.toNat
    ++ leBytes 8 peer.toNat

/-- Write a containment record (13 R238): the errors of the unit since reset are counted, saturating. -/
def State.contain (s : State) (die : Nat) (code : BitVec 16) (severity unitKind check unitNum : Nat)
    (frame : Option (BitVec 31)) (sector grid ctx gid : Nat) (pc tstat peer : W64) : State :=
  let k := unitKind * 65536 + unitNum
  let n := min (Sparse.get 0 s.fw.unitErrors k + 1) (2 ^ 32 - 1)
  let s := { s with fw := { s.fw with unitErrors := Sparse.set 0 s.fw.unitErrors k n } }
  s.errorRecord die unitKind code severity (containDetail unitKind check unitNum frame sector grid ctx gid n pc tstat peer)

/-- A Current record to post: sequence 0, version 1, this chip as its source (05 R80, R81). -/
def State.record (s : State) (typ : BitVec 8) (ctx : BitVec 20) (payload : Nat) : CurRec :=
  { seq := 0, typ := typ, version := 1, src := s.fab.self.setWidth 16, ctx := ctx.setWidth 32,
    payload := BitVec.ofNat 384 payload }

/-- Whether the chip may post a record: in recovery it posts nothing (03 R64), and while it has stopped, replays for a rejoin,
or its own tables hold it EXPELLED or LOST, it posts only ADMIT (05 R91, R94) (DESIGN CHOICE, log 27). -/
def State.mayPostType (s : State) (typ : BitVec 8) : Bool :=
  let st := (Sparse.get {} s.conf.chips s.fab.self.toNat : ChipRow).state
  s.fw.state != 2 && (typ == 0x11 || (st != .expelled && st != .lost && !s.cur.stopped
    && (s.cur.stage == .none || s.cur.stage == .admitted)))

/-- Post an event: its EVENT packet leaves the chip toward the sequencer (05 R80) (DESIGN CHOICE, log 27). -/
def State.post (s : State) (r : CurRec) : State := if s.mayPostType r.typ then s.sendEvent r else s

/-- The payload of FINISH, BLOCK, RESUME, RELEASE and FAULT (06 R107): grid, nominal chip, and a third field
(DESIGN CHOICE, log 27). -/
def rowPayload (grid : BitVec 16) (nominal : BitVec 12) (third : Nat) : Nat :=
  grid.toNat + 2 ^ 16 * nominal.toNat + 2 ^ 32 * third

/-- Post FAULT for a grid with a fault code (13 R235, 07 R120). -/
def State.postFault (s : State) (grid : BitVec 16) (nominal : BitVec 12) (code : BitVec 16) : State :=
  let s := s.post (s.record 0x06 0 (rowPayload grid nominal code.toNat))
  { s with disp := { s.disp with postedFault := s.disp.postedFault ++ [grid] } }

/-! ### Traps (13 R230-R235) -/

/-- The trap causes of 13 R230. -/
inductive Cause where
  | ifetch | und | priv | fmtdiv | fmtbad | align | captag | capright | capbound | operand | trap
  | ctxbusy | unreach | crypto | pageref | mempoison | smx
  deriving DecidableEq, Repr

/-- The cause code in TSTAT. -/
def Cause.code : Cause → BitVec 8
  | .ifetch => 0x01 | .und => 0x02 | .priv => 0x03 | .fmtdiv => 0x04 | .fmtbad => 0x05 | .align => 0x06
  | .captag => 0x07 | .capright => 0x08 | .capbound => 0x09 | .operand => 0x0A | .trap => 0x0B
  | .ctxbusy => 0x10 | .unreach => 0x11 | .crypto => 0x12 | .pageref => 0x13 | .mempoison => 0x14 | .smx => 0x18

/-- A trap to deliver: cause code, detail, lane, the physical lanes that trapped, and the resume PC. -/
structure TrapInfo where
  cause : BitVec 8
  detail : BitVec 8 := 0
  lane : Nat
  lanes : List Nat
  resume : W64
  deriving DecidableEq, Repr

/-- The TSTAT value of a trap (13 R231). -/
def tstatOf (h : Bool) (cause detail : BitVec 8) (lane : Nat) (slices : List Nat) : W64 :=
  ((if h then 1#64 else 0#64) <<< 63) ||| (cause.setWidth 64 <<< 48) ||| (detail.setWidth 64 <<< 40)
    ||| ((BitVec.ofNat 8 lane).setWidth 64 <<< 32) ||| (sliceBits slices &&& 0xFFFFFF#64)

/-- H of TSTAT. -/
def Group.handling (g : Group) : Bool := g.tstat.getLsbD 63

/-- The lanes of a slice that hold an unfinished access (09 R147), as physical lanes. -/
def Group.unfinishedOf (g : Group) (slices : List Nat) : List Nat :=
  slices.flatMap fun i => (List.range 4).filterMap fun q =>
    if (g.slice i).unfinished.getLsbD q then some (4 * i + q) else none

/-- The 4-bit set of the lanes of slice i that a list of physical lanes holds. -/
def laneSet (i : Nat) (lanes : List Nat) : BitVec 4 :=
  (List.range 4).foldl (fun w q => if lanes.contains (4 * i + q) then w ||| (1#4 <<< q) else w) 0

/-- The visible lane bits of a list of physical lanes. -/
def Group.visBits (g : Group) (lanes : List Nat) : BitVec 96 :=
  lanes.foldl (fun w l => w ||| (1#96 <<< g.visLane l)) 0

/-- HaltGroup (13 R235): the group is HALTED, its requests are discarded, record 0x0D07 is written, and FAULT is posted
unless it is a task group. -/
def State.halt (s : State) (h : Nat) (g : Group) (code : BitVec 16) (pc tstat : W64) : State :=
  let g := { g with state := .halted, pending := [], memOps := [], entries := [], waits := [] }
  let g := g.mapSlices (fun _ sl => { sl with state := .exited, park := .none, arg := 0, deadline := 0 }) g.live
  let s := s.putGroup h g
  let s := s.contain (dieOf g.core) 0x0D07 2 8 5 g.core none 0xFFFF (if g.task then 0xFFFF else g.grid.toNat) g.ctx.toNat
    g.gid.toNat pc tstat 0
  if g.task || g.privileged then s else s.postFault g.grid g.nominal code

/-- The handler gang of a trap starts: TPC, TSTAT, the trap lane triple and the PCs (13 R234). -/
def Group.enterHandler (g : Group) (slices : List Nat) (t : TrapInfo) : Group :=
  let lanes := t.lanes ++ g.unfinishedOf slices
  let g := { g with tpc := t.resume, tstat := tstatOf true t.cause t.detail t.lane slices }
  let g := g.writeTriple slices 113 (g.visBits lanes)
  g.mapSlices (fun _ sl => { sl.ready with pc := (g.tvec >>> 2) <<< 2, trapped := 0 }) slices

/-- A gang parks with a pending trap (13 R234, 09 R147). -/
def Group.parkTrap (g : Group) (slices : List Nat) (t : TrapInfo) : Group :=
  let arg : BitVec 32 := t.cause.setWidth 32 ||| (t.detail.setWidth 32 <<< 8) ||| (BitVec.ofNat 32 t.lane <<< 16)
  g.mapSlices (fun i sl => { sl.parkAt .pendingTrap arg 0 with pc := t.resume, trapped := laneSet i t.lanes }) slices

/-- Deliver (13 R234), for a gang whose pending results are written. -/
def State.deliver (s : State) (h : Nat) (g : Group) (slices : List Nat) (t : TrapInfo) : State :=
  if g.handling then
    if sliceBits slices &&& g.tstat &&& 0xFFFFFF#64 ≠ 0 then
      s.halt h g 0x0001 t.resume (tstatOf true t.cause t.detail t.lane slices)
    else s.putGroup h (g.parkTrap slices t)
  else if g.tvec.getLsbD 0 = false then
    s.halt h g 0x0007 t.resume (tstatOf false t.cause t.detail t.lane slices)
  else s.putGroup h (g.enterHandler slices t)

/-- The SMX trap of a list of (lane, flag bit) records (13 R233, 18 R322). -/
def smxTrap (recs : List (Nat × Nat)) (resume : W64) : TrapInfo :=
  let lane := recs.foldl (fun m e => min m e.1) 255
  let bit := (recs.filter fun e => e.1 == lane).foldl (fun m e => min m e.2) 7
  { cause := Cause.smx.code, detail := BitVec.ofNat 8 bit, lane := lane, lanes := recs.map Prod.fst, resume := resume }

/-- A gang raises a trap. Trap delivery is a switch point: the gang's pending results are written first, and an SMX
that one of them recorded is delivered in place of the trap, at the instruction's own PC (13 R233 item 3, R234). -/
def State.raise (s : State) (h : Nat) (g : Group) (slices : List Nat) (pc : W64) (t : TrapInfo) : State :=
  let smx := g.smxOf slices
  let g := g.flush slices
  if smx = [] then s.deliver h g slices t else s.deliver h g slices (smxTrap smx pc)

/-- The lane and lanes of a trap that no lane-wise test raised: Active(), lowest lane first (13 R231). -/
def Group.gangTrap (g : Group) (slices : List Nat) (cause detail : BitVec 8) (resume : W64) : TrapInfo :=
  { cause := cause, detail := detail, lane := g.lowest slices, lanes := g.active slices, resume := resume }

/-- The issuing gang takes a precise trap at its own PC. -/
def State.trapHere (s : State) (g : Group) (c : Cause) : Res :=
  .next (s.raise s.cursor.group g s.cursor.slices s.cursor.pc (g.gangTrap s.cursor.slices c.code 0 s.cursor.pc))

/-- The issuing gang takes a precise trap of a lane-wise test: the lanes that fail it. -/
def State.trapLanes (s : State) (g : Group) (c : Cause) (lanes : List Nat) : Res :=
  .next (s.raise s.cursor.group g s.cursor.slices s.cursor.pc
    { cause := c.code, lane := lanes.headD 0, lanes := lanes, resume := s.cursor.pc })

/-- The gang whose pending trap has the lowest lane, with its slices (13 R234). -/
def Group.nextTrap (g : Group) : Option (List Nat) :=
  let ids := g.live.filter fun i => (g.slice i).park == .pendingTrap && (g.slice i).gang == i
  let best := ids.foldl (fun (b : Option Nat) i =>
    match b with
    | none => some i
    | some j => if ((g.slice i).arg.extractLsb' 16 8).toNat < ((g.slice j).arg.extractLsb' 16 8).toNat then some i
      else some j) none
  best.map g.gang

/-- The trap that a gang parked with (09 R147). -/
def Group.parkedTrap (g : Group) (slices : List Nat) : TrapInfo :=
  let sl := g.slice (slices.headD 0)
  { cause := sl.arg.setWidth 8, detail := sl.arg.extractLsb' 8 8, lane := (sl.arg.extractLsb' 16 8).toNat,
    lanes := (slices.flatMap fun i => (List.range 4).filterMap fun q =>
      if (g.slice i).trapped.getLsbD q then some (4 * i + q) else none),
    resume := sl.pc }

/-- Deliver the pending trap with the lowest lane, if H is clear and one is parked (13 R234). -/
def State.deliverPending (s : State) (h : Nat) (g : Group) : State :=
  if g.handling then s
  else
    match g.nextTrap with
    | none => s
    | some slices => s.deliver h g slices (g.parkedTrap slices)

/-- TRET by a gang (13 R234, R232): H is cleared and the gang's slices go to TPC. The unfinished lanes stay recorded
only for slices whose unfinished memory instruction stands at TPC. -/
def Group.leaveHandler (g : Group) (slices : List Nat) : Group :=
  let g := { g with tstat := g.tstat &&& 0x7FFFFFFFFFFFFFFF#64 }
  g.mapSlices (fun _ sl => { sl with pc := g.tpc, unfinished := (if sl.replay = g.tpc then sl.unfinished else 0) })
    slices

/-- The instruction at a PC is to be repeated after a rollback: for a mismatch, or for poison that it consumed (13 R236). -/
def Group.repeatAt (g : Group) (pc : W64) (mismatch : Bool) : Group :=
  { g with
    firstPoison := if mismatch then g.firstPoison else pc :: g.firstPoison
    firstMismatch := if mismatch then pc :: g.firstMismatch else g.firstMismatch
    repeating := (pc, mismatch) :: g.repeating }

/-- The group once the repeat at some PCs has passed. -/
def Group.repeatPassed (g : Group) (pcs : List W64) (kinds : List Bool) : Group :=
  { g with repeating := g.repeating.filter fun e => !(kinds.contains e.2 && pcs.contains e.1) }

/-- The records of the repeats that passed at some PCs (13 R236, R238): TRANSIENT, of severity 1 (DESIGN CHOICE, log 65). -/
def State.repeatPassed (s : State) (g : Group) (pcs : List W64) (kinds : List Bool) : State :=
  (g.repeating.filter fun e => kinds.contains e.2 && pcs.contains e.1).foldl (fun (s : State) e =>
    s.contain (dieOf g.core) 0x0D02 1 8 5 g.core none 0xFFFF (if g.task then 0xFFFF else g.grid.toNat) g.ctx.toNat g.gid.toNat e.1 0 0) s

/-- A rollback to the region entry (08 R144 item 1, 09 R147): the flags of discarded results go too (18 R330). -/
def Group.rollback (g : Group) : Group :=
  let live := g.live
  let g := { g with pending := [], memOps := [], entries := [], waits := [], smuFlags := g.xflags }
  g.mapSlices (fun _ sl =>
    { sl.ready with pc := (g.repc >>> 1) <<< 1, gang := live.headD 0, unfinished := 0, trapped := 0 }) live

/-! ### Finishing an instruction (08 R137, R139) -/

/-- The gang parks at a switch point when it has pending results (08 R137). -/
def Group.switchPark (g : Group) (slices : List Nat) : Group :=
  if g.hasPending slices then g.mapSlices (fun _ sl => sl.parkAt .switchPoint 0 0) slices else g

/-- The gang's slices stand at a PC. -/
def Group.setPc (g : Group) (slices : List Nat) (pc : W64) : Group :=
  g.mapSlices (fun _ sl => { sl with pc := pc }) slices

/-- The gang goes to a PC, and parks when the instruction carries the switch bit and results are pending. -/
def Group.goTo (g : Group) (slices : List Nat) (pc : W64) (y : Bool) : Group :=
  let g := g.setPc slices pc
  if y then g.switchPark slices else g

/-- The issuing gang goes on at the next instruction. -/
def State.retire (s : State) (y : Bool) (g : Group) : Res :=
  .next (s.putGroup s.cursor.group (g.goTo s.cursor.slices (s.cursor.pc + 4) y))

/-- Row 2 of 13 R230: a register out of the window, or a form the group does not have, raises UND. -/
def State.need (s : State) (g : Group) (ok : Bool) (k : Res) : Res := if ok then k else s.trapHere g .und

/-- An implicit switch point (08 R137 item 5): with results pending, the gang parks at its own PC and the instruction is
issued again once they are written; its own effect comes after. -/
def State.switchFirst (s : State) (g : Group) (k : Res) : Res :=
  if g.hasPending s.cursor.slices then
    .next (s.putGroup s.cursor.group (g.mapSlices (fun _ sl => sl.parkAt .switchPoint 0 0) s.cursor.slices))
  else k

/-- The gang parts by PC (08 R132): slices of one PC form one gang, named by its lowest slice. -/
def Group.partByPc (g : Group) (slices : List Nat) : Group :=
  g.mapSlices (fun i sl => { sl with gang :=
    (slices.filter fun j => (g.slice j).pc == (g.slice i).pc).headD i }) slices

/-- An instruction that executes once for the gang and changes only the group. -/
def State.plain (s : State) (y : Bool) (ok : Group → Bool) (f : Group → List Nat → Group) : Res :=
  s.issue fun g => s.need g (ok g) (s.retire y (f g s.cursor.slices))

end Sys2Proof.Machine
end

