-- ==== Sys2Proof/Machine/Flags.lean ====
section
/-! DEFINITION. The sticky flags of FPSR (12 R215) and the integer saturation that raises SAT (00 R8, 16 R286). -/

namespace Sys2Proof.Machine

/-- invalid, bit 0. -/
def flInvalid : BitVec 6 := 1
/-- divide, bit 1. -/
def flDivide : BitVec 6 := 2
/-- overflow, bit 2. -/
def flOverflow : BitVec 6 := 4
/-- underflow, bit 3. -/
def flUnderflow : BitVec 6 := 8
/-- inexact, bit 4. -/
def flInexact : BitVec 6 := 16
/-- SAT, bit 5. -/
def flSat : BitVec 6 := 32

/-- The flag if a condition holds. -/
def flIf (b : Bool) (f : BitVec 6) : BitVec 6 := if b then f else 0

/-- OR a list of flag sets. -/
def flAll (l : List (BitVec 6)) : BitVec 6 := l.foldl (fun a b => a ||| b) 0

/-- Sat(t, lo, hi). -/
def sat (t lo hi : Int) : Int := if t < lo then lo else if hi < t then hi else t

/-- A 32-bit result of Sat with the SAT flag when it moved. -/
def satResult (t lo hi : Int) : W32 × BitVec 6 := (BitVec.ofInt 32 (sat t lo hi), flIf (sat t lo hi != t) flSat)

/-- Signed 32-bit saturation. -/
def satI32 (t : Int) : W32 × BitVec 6 := satResult t (-2147483648) 2147483647
/-- Unsigned 32-bit saturation. -/
def satN32 (t : Int) : W32 × BitVec 6 := satResult t 0 4294967295

/-- Set bits of a word. -/
def popCount {n : Nat} (w : BitVec n) : Nat := (List.range n).foldl (fun c i => if w.getLsbD i then c + 1 else c) 0

/-- Leading zeros of a word; its width for zero. -/
def leadZeros {n : Nat} (w : BitVec n) : Nat := if w = 0 then n else n - 1 - Nat.log2 w.toNat

/-- Trailing zeros of a word; its width for zero. -/
def trailZeros {n : Nat} (w : BitVec n) : Nat := ((List.range n).find? fun i => w.getLsbD i).getD n

end Sys2Proof.Machine
end

