-- ==== Sys2Proof/Machine/Num.lean ====
section
/-! DEFINITION. Floating-point values and their arithmetic (12 R210-R218): every result is formed exactly, as a sign, a
magnitude and a power of two, and rounded once. -/

namespace Sys2Proof.Machine

/-- Rounding modes (12 R214). -/
inductive RMode where
  | rne | rtz | rdn | rup
  deriving DecidableEq, Repr

/-- The mode of FPCR.RM. -/
def rmOf (fpcr : BitVec 32) : RMode :=
  match fpcr.toNat % 4 with
  | 0 => .rne | 1 => .rtz | 2 => .rdn | _ => .rup

/-- A floating-point format: exponent and fraction bits, bias, whether it has infinities, its default NaN, and the
exponent and significand of its largest finite value. -/
structure Fmt where
  ebits : Nat
  fbits : Nat
  bias : Nat
  hasInf : Bool
  nan : Nat
  maxE : Int
  maxQ : Nat
  deriving DecidableEq, Repr

def fF64 : Fmt := ⟨11, 52, 1023, true, 0x7FF8000000000000, 1023, 2 ^ 53 - 1⟩
def fF32 : Fmt := ⟨8, 23, 127, true, 0x7FC00000, 127, 2 ^ 24 - 1⟩
def fF16 : Fmt := ⟨5, 10, 15, true, 0x7E00, 15, 2 ^ 11 - 1⟩
def fBF16 : Fmt := ⟨8, 7, 127, true, 0x7FC0, 127, 2 ^ 8 - 1⟩
def fE4M3 : Fmt := ⟨4, 3, 7, false, 0x7F, 8, 14⟩
def fE5M2 : Fmt := ⟨5, 2, 15, true, 0x7E, 15, 7⟩

/-- The bits of a format. -/
def Fmt.width (f : Fmt) : Nat := 1 + f.ebits + f.fbits
/-- The sign bit's weight. -/
def Fmt.signBit (f : Fmt) : Nat := 2 ^ (f.ebits + f.fbits)
/-- The exponent of the smallest normal value. -/
def Fmt.minE (f : Fmt) : Int := 1 - (f.bias : Int)
/-- Whether the format distinguishes signalling NaNs (12 R211, R212). -/
def Fmt.signals (f : Fmt) : Bool := decide (8 < f.width)

/-- A floating-point datum: a NaN (signalling or not), an infinity, or sign, magnitude and power of two. -/
inductive Num where
  | nan (signalling : Bool)
  | inf (neg : Bool)
  | fin (neg : Bool) (m : Nat) (e : Int)
  deriving DecidableEq, Repr

/-- Read the bits of a format (12 R210, R212). -/
def Fmt.unpack (f : Fmt) (w : Nat) : Num :=
  let neg := decide (f.signBit ≤ w % (2 * f.signBit))
  let ex := w / 2 ^ f.fbits % 2 ^ f.ebits
  let fr := w % 2 ^ f.fbits
  if ex = 2 ^ f.ebits - 1 ∧ f.hasInf then
    if fr = 0 then .inf neg else .nan (f.signals && decide (fr < 2 ^ (f.fbits - 1)))
  else if ex = 2 ^ f.ebits - 1 ∧ fr = 2 ^ f.fbits - 1 then .nan false
  else if ex = 0 then .fin neg fr (f.minE - f.fbits)
  else .fin neg (2 ^ f.fbits + fr) ((ex : Int) - f.bias - f.fbits)

/-- Round m * 2^(-sh), with a nonzero remainder below it when `sticky`, to an integer; and whether it was inexact. -/
def roundShift (rm : RMode) (neg : Bool) (m sh : Nat) (sticky : Bool) : Nat × Bool :=
  let q := m / 2 ^ sh
  let r := m % 2 ^ sh
  let inexact := decide (r ≠ 0) || sticky
  let up :=
    match rm with
    | .rne => decide (2 ^ sh < 2 * r) || (decide (2 * r = 2 ^ sh ∧ 0 < sh) && (sticky || q % 2 == 1))
    | .rtz => false
    | .rdn => neg && inexact
    | .rup => !neg && inexact
  (if up then q + 1 else q, inexact)

/-- Round m * 2^e to a multiple of 2^u. -/
def roundAt (rm : RMode) (neg : Bool) (m : Nat) (e u : Int) (sticky : Bool) : Nat × Bool :=
  if u ≤ e then (m * 2 ^ (e - u).toNat, sticky) else roundShift rm neg m (u - e).toNat sticky

/-- The result of an overflow (12 R217 item 2, R218): an infinity, the largest value, or the format's own rule where
the mode asks for an infinity. -/
def Fmt.overflow (f : Fmt) (rm : RMode) (neg saturate : Bool) : Nat :=
  let s := if neg then f.signBit else 0
  let big := s + ((f.maxE + f.bias).toNat * 2 ^ f.fbits + (f.maxQ - 2 ^ f.fbits))
  let toInf :=
    match rm with
    | .rne => true
    | .rtz => false
    | .rdn => neg
    | .rup => !neg
  if saturate || !toInf then big
  else if f.hasInf then s + (2 ^ f.ebits - 1) * 2 ^ f.fbits else f.nan

/-- RoundTo (12 R217) of (-1)^neg * m * 2^e, m not zero: bits and flags. -/
def Fmt.roundPos (f : Fmt) (rm : RMode) (neg : Bool) (m : Nat) (e : Int) (sticky saturate : Bool) : Nat × BitVec 6 :=
  let s := if neg then f.signBit else 0
  let ex : Int := e + Nat.log2 m
  let r := roundAt rm neg m e (ex - f.fbits) sticky
  let carry := decide (r.1 = 2 ^ (f.fbits + 1))
  let q := if carry then 2 ^ f.fbits else r.1
  let ex' := if carry then ex + 1 else ex
  if f.maxE < ex' ∨ (ex' = f.maxE ∧ f.maxQ < q) then
    (f.overflow rm neg saturate, flOverflow ||| flInexact)
  else if ex' < f.minE then
    let t := roundAt rm neg m e (f.minE - f.fbits) sticky
    (s + t.1, flIf t.2 (flUnderflow ||| flInexact))
  else (s + ((ex' + f.bias).toNat * 2 ^ f.fbits + (q - 2 ^ f.fbits)), flIf r.2 flInexact)

/-- RoundTo of an exact value: zero keeps its sign. -/
def Fmt.roundTo (f : Fmt) (rm : RMode) (neg : Bool) (m : Nat) (e : Int) (sticky saturate : Bool) : Nat × BitVec 6 :=
  if m = 0 then (if neg then f.signBit else 0, 0) else f.roundPos rm neg m e sticky saturate

/-- An infinity of a format (its default NaN where it has none). -/
def Fmt.infBits (f : Fmt) (neg : Bool) : Nat :=
  if f.hasInf then (if neg then f.signBit else 0) + (2 ^ f.ebits - 1) * 2 ^ f.fbits else f.nan

/-- Write a datum in a format. -/
def Fmt.pack (f : Fmt) (rm : RMode) : Num → Nat × BitVec 6
  | .nan sg => (f.nan, flIf sg flInvalid)
  | .inf neg => (f.infBits neg, 0)
  | .fin neg m e => f.roundTo rm neg m e false false

/-- The signed integer of a magnitude. -/
def signed (neg : Bool) (m : Nat) : Int := if neg then -(m : Int) else m

/-- The exact sum of two finite values, with the sign of an exact zero (12 R217 item 4). -/
def addExact (rm : RMode) (n1 : Bool) (m1 : Nat) (e1 : Int) (n2 : Bool) (m2 : Nat) (e2 : Int) : Bool × Nat × Int :=
  let e := min e1 e2
  let t := signed n1 (m1 * 2 ^ (e1 - e).toNat) + signed n2 (m2 * 2 ^ (e2 - e).toNat)
  if t = 0 then (if n1 = n2 then n1 else decide (rm = .rdn), 0, e) else (decide (t < 0), t.natAbs, e)

/-- Whether a datum is a signalling NaN. -/
def Num.isSnan : Num → Bool
  | .nan sg => sg
  | _ => false
/-- Whether a datum is a NaN. -/
def Num.isNan : Num → Bool
  | .nan _ => true
  | _ => false
/-- A datum with its sign inverted. -/
def Num.negate : Num → Num
  | .nan sg => .nan sg
  | .inf n => .inf !n
  | .fin n m e => .fin (!n) m e

/-- The default NaN with the flags of NaN inputs. -/
def Fmt.nanOf (f : Fmt) (xs : List Num) : Nat × BitVec 6 := (f.nan, flIf (xs.any Num.isSnan) flInvalid)

/-- RoundTo(a + b) (16 R290). -/
def Fmt.add (f : Fmt) (rm : RMode) (a b : Num) : Nat × BitVec 6 :=
  match a, b with
  | .nan _, _ => f.nanOf [a, b]
  | _, .nan _ => f.nanOf [a, b]
  | .inf x, .inf y => if x = y then (f.infBits x, 0) else (f.nan, flInvalid)
  | .inf x, .fin _ _ _ => (f.infBits x, 0)
  | .fin _ _ _, .inf y => (f.infBits y, 0)
  | .fin n1 m1 e1, .fin n2 m2 e2 =>
    let t := addExact rm n1 m1 e1 n2 m2 e2
    f.roundTo rm t.1 t.2.1 t.2.2 false false

/-- RoundTo(a * b). -/
def Fmt.mul (f : Fmt) (rm : RMode) (a b : Num) : Nat × BitVec 6 :=
  match a, b with
  | .nan _, _ => f.nanOf [a, b]
  | _, .nan _ => f.nanOf [a, b]
  | .inf x, .inf y => (f.infBits (x != y), 0)
  | .inf x, .fin y m _ => if m = 0 then (f.nan, flInvalid) else (f.infBits (x != y), 0)
  | .fin x m _, .inf y => if m = 0 then (f.nan, flInvalid) else (f.infBits (x != y), 0)
  | .fin n1 m1 e1, .fin n2 m2 e2 => f.roundTo rm (n1 != n2) (m1 * m2) (e1 + e2) false false

/-- RoundTo(a * b + c), one rounding; a product of zero and infinity is invalid even when c is a quiet NaN. -/
def Fmt.fma (f : Fmt) (rm : RMode) (a b c : Num) : Nat × BitVec 6 :=
  let bad := match a, b with
    | .inf _, .fin _ 0 _ => true
    | .fin _ 0 _, .inf _ => true
    | _, _ => false
  if a.isNan || b.isNan || c.isNan then
    (f.nan, flIf (a.isSnan || b.isSnan || c.isSnan || bad) flInvalid)
  else if bad then (f.nan, flInvalid)
  else
    let p := match a, b with
      | .fin n1 m1 e1, .fin n2 m2 e2 => Num.fin (n1 != n2) (m1 * m2) (e1 + e2)
      | .inf x, .inf y => .inf (x != y)
      | .inf x, .fin y _ _ => .inf (x != y)
      | .fin x _ _, .inf y => .inf (x != y)
      | _, _ => .nan false
    f.add rm p c

/-- RoundTo(a / b) (16 R291). -/
def Fmt.div (f : Fmt) (rm : RMode) (a b : Num) : Nat × BitVec 6 :=
  match a, b with
  | .nan _, _ => f.nanOf [a, b]
  | _, .nan _ => f.nanOf [a, b]
  | .inf _, .inf _ => (f.nan, flInvalid)
  | .inf x, .fin y _ _ => (f.infBits (x != y), 0)
  | .fin x _ _, .inf y => (if x != y then f.signBit else 0, 0)
  | .fin n1 m1 e1, .fin n2 m2 e2 =>
    if m2 = 0 then (if m1 = 0 then (f.nan, flInvalid) else (f.infBits (n1 != n2), flDivide))
    else
      let k := f.fbits + 4 + Nat.log2 m2
      f.roundTo rm (n1 != n2) (m1 * 2 ^ k / m2) (e1 - e2 - k) (decide (m1 * 2 ^ k % m2 ≠ 0)) false

/-- The integer square root, bit by bit from 2^n down. -/
def isqrtAux (x : Nat) : Nat → Nat → Nat
  | 0, r => if (r + 1) * (r + 1) ≤ x then r + 1 else r
  | n + 1, r => isqrtAux x n (if (r + 2 ^ (n + 1)) * (r + 2 ^ (n + 1)) ≤ x then r + 2 ^ (n + 1) else r)

/-- The integer square root. -/
def isqrt (x : Nat) : Nat := isqrtAux x (Nat.log2 x / 2 + 1) 0

/-- RoundTo of the square root (16 R291). -/
def Fmt.sqrt (f : Fmt) (rm : RMode) (a : Num) : Nat × BitVec 6 :=
  match a with
  | .nan sg => (f.nan, flIf sg flInvalid)
  | .inf true => (f.nan, flInvalid)
  | .inf false => (f.infBits false, 0)
  | .fin n m e =>
    if m = 0 then (if n then f.signBit else 0, 0)
    else if n then (f.nan, flInvalid)
    else
      let odd := e % 2 ≠ 0
      let m1 := if odd then 2 * m else m
      let e1 := if odd then e - 1 else e
      let k := f.fbits + 4
      let x := m1 * 2 ^ (2 * k)
      let r := isqrt x
      f.roundTo rm false r (e1 / 2 - k) (decide (r * r ≠ x)) false

/-- The order of two data that are not NaNs. -/
def Num.le (a b : Num) : Bool :=
  match a, b with
  | .nan _, _ => false
  | _, .nan _ => false
  | .inf x, .inf y => x || !y
  | .inf x, .fin _ _ _ => x
  | .fin _ _ _, .inf y => !y
  | .fin n1 m1 e1, .fin n2 m2 e2 =>
    let e := min e1 e2
    decide (signed n1 (m1 * 2 ^ (e1 - e).toNat) ≤ signed n2 (m2 * 2 ^ (e2 - e).toNat))

/-- a = b; +0 and -0 are equal, a NaN equals nothing. -/
def Num.eqv (a b : Num) : Bool := a.le b && b.le a
/-- a < b. -/
def Num.lt (a b : Num) : Bool := a.le b && !b.le a

/-- The sign of a datum. -/
def Num.neg : Num → Bool
  | .nan _ => false
  | .inf n => n
  | .fin n _ _ => n

/-- Minimum or maximum of IEEE 754-2019 on bits: a NaN gives the default NaN, and -0 < +0. -/
def Fmt.minMax (f : Fmt) (isMin : Bool) (x y : Nat) : Nat × BitVec 6 :=
  let a := f.unpack x
  let b := f.unpack y
  if a.isNan || b.isNan then f.nanOf [a, b]
  else
    let first := if a.eqv b then (if isMin then a.neg else !a.neg) else (if isMin then a.lt b else b.lt a)
    (if first then x else y, 0)

/-- a rounded to an integral value in the same format (16 R290, FRND). -/
def Fmt.rint (f : Fmt) (rm : RMode) (w : Nat) : Nat × BitVec 6 :=
  match f.unpack w with
  | .nan sg => (f.nan, flIf sg flInvalid)
  | .inf _ => (w, 0)
  | .fin n m e => ((f.roundTo rm n (roundAt rm n m e 0 false).1 0 false false).1, 0)

/-- Conversion to an integer type of `w` bits (12 R218): saturated with invalid, else inexact when rounded. -/
def toIntType (rm : RMode) (isSigned : Bool) (w : Nat) (a : Num) : Int × BitVec 6 :=
  let lo : Int := if isSigned then -(2 ^ (w - 1) : Nat) else 0
  let hi : Int := if isSigned then (2 ^ (w - 1) : Nat) - 1 else (2 ^ w : Nat) - 1
  match a with
  | .nan _ => (0, flInvalid)
  | .inf n => (if n then lo else hi, flInvalid)
  | .fin n m e =>
    let r := roundAt rm n m e 0 false
    let t := signed n r.1
    if t < lo then (lo, flInvalid) else if hi < t then (hi, flInvalid) else (t, flIf r.2 flInexact)

/-- Conversion between floating-point formats (12 R218). -/
def Fmt.convert (f : Fmt) (rm : RMode) (saturate : Bool) (a : Num) : Nat × BitVec 6 :=
  match a with
  | .nan sg => (f.nan, flIf sg flInvalid)
  | .inf n =>
    if saturate then (f.overflow rm n true, flOverflow ||| flInexact)
    else if f.hasInf then (f.infBits n, 0) else (f.nan, flInvalid)
  | .fin n m e => f.roundTo rm n m e false saturate

/-- The format of a floating-point type code (12 R209). -/
def fmtOf (code : Nat) : Fmt :=
  match code with
  | 1 => fF64 | 2 => fF32 | 3 => fF16 | 4 => fBF16 | 5 => fE4M3 | _ => fE5M2

/-! ### F32 chains (12 R229) -/

/-- a * b + c in a format, on bits. -/
def Fmt.fmaBits (f : Fmt) (rm : RMode) (a b c : Nat) : Nat × BitVec 6 := f.fma rm (f.unpack a) (f.unpack b) (f.unpack c)
/-- c - a * b in a format, on bits. -/
def Fmt.fmsBits (f : Fmt) (rm : RMode) (a b c : Nat) : Nat × BitVec 6 :=
  f.fma rm (f.unpack a).negate (f.unpack b) (f.unpack c)
/-- a * b in a format, on bits. -/
def Fmt.mulBits (f : Fmt) (rm : RMode) (a b : Nat) : Nat × BitVec 6 := f.mul rm (f.unpack a) (f.unpack b)
/-- a / b in a format, on bits. -/
def Fmt.divBits (f : Fmt) (rm : RMode) (a b : Nat) : Nat × BitVec 6 := f.div rm (f.unpack a) (f.unpack b)

end Sys2Proof.Machine
end

