-- ==== Sys2Proof/Machine/Operands.lean ====
section
/-! DEFINITION. The operand forms (14 R245-R247, 16 R284, R285): scalar forms that execute once for the gang, lane-wise
forms on Active(), compares into a triple, and the forms whose result is pending (08 R136). -/

namespace Sys2Proof.Machine

/-- imm10 sign-extended to 64 bits. -/
def imm64 (i : BitVec 10) : W64 := i.signExtend 64
/-- imm10 sign-extended to 32 bits. -/
def imm32 (i : BitVec 10) : W32 := i.signExtend 32

/-! ### Scalar forms -/

/-- s_d := f(s_a, s_b). -/
def State.scalar3 (s : State) (y : Bool) (d a b : Fld) (f : W64 → W64 → W64) : Res :=
  s.plain y (fun _ => true) fun g sl => g.writeS sl d.toNat (f (g.rs a.toNat) (g.rs b.toNat))

/-- s_d := f(s_a). -/
def State.scalar2 (s : State) (y : Bool) (d a : Fld) (f : W64 → W64) : Res :=
  s.plain y (fun _ => true) fun g sl => g.writeS sl d.toNat (f (g.rs a.toNat))

/-! ### Lane-wise forms -/

/-- The writes of a value to window position n in every lane of Active(). -/
def Group.laneWrites (g : Group) (slices : List Nat) (n : Nat) (f : Nat → W32) : List (Nat × W32) :=
  (g.active slices).map fun l => (g.vkey n l, f l)

/-- The writes of a 64-bit value to the pair at window position n in every lane of Active(). -/
def Group.pairLaneWrites (g : Group) (slices : List Nat) (n : Nat) (f : Nat → W64) : List (Nat × W32) :=
  (g.active slices).flatMap fun l => g.pairWrites n l (f l)

/-- The flags that the lanes of Active() raise. -/
def Group.laneFlags (g : Group) (slices : List Nat) (f : Nat → BitVec 6) : BitVec 6 :=
  flAll ((g.active slices).map f)

/-- v_d := f(lane) in every lane of Active(); interlocked, no flag. -/
def State.lanes1 (s : State) (y : Bool) (d : Fld) (ok : Group → Bool) (f : Group → Nat → W32) : Res :=
  s.plain y (fun g => g.inWindow d.toNat && ok g) fun g sl => g.writeV (g.laneWrites sl d.toNat (f g))

/-- v_d := f(v_a). -/
def State.vec2 (s : State) (y : Bool) (d a : Fld) (f : W32 → W32) : Res :=
  s.lanes1 y d (fun g => g.inWindow a.toNat) fun g l => f (g.rv a.toNat l)

/-- v_d := f(v_a, v_b). -/
def State.vec3 (s : State) (y : Bool) (d a b : Fld) (f : W32 → W32 → W32) : Res :=
  s.lanes1 y d (fun g => g.inWindow a.toNat && g.inWindow b.toNat) fun g l => f (g.rv a.toNat l) (g.rv b.toNat l)

/-- v_d := f(v_d, v_a, v_b). -/
def State.vecAcc (s : State) (y : Bool) (d a b : Fld) (f : W32 → W32 → W32 → W32) : Res :=
  s.lanes1 y d (fun g => g.inWindow a.toNat && g.inWindow b.toNat) fun g l =>
    f (g.rv d.toNat l) (g.rv a.toNat l) (g.rv b.toNat l)

/-- v_d := f(lane) with flags; interlocked: the flags are ORed at issue (12 R216). -/
def State.vecFlags (s : State) (y : Bool) (d : Fld) (ok : Group → Bool) (f : Group → Nat → W32 × BitVec 6) : Res :=
  s.plain y (fun g => g.inWindow d.toNat && ok g) fun g sl =>
    (g.writeV (g.laneWrites sl d.toNat fun l => (f g l).1)).orFlags (g.laneFlags sl fun l => (f g l).2)

/-- v_d := f(v_a, v_b) with flags. -/
def State.vec3Flags (s : State) (y : Bool) (d a b : Fld) (f : W32 → W32 → W32 × BitVec 6) : Res :=
  s.vecFlags y d (fun g => g.inWindow a.toNat && g.inWindow b.toNat) fun g l => f (g.rv a.toNat l) (g.rv b.toNat l)

/-- The pair at d := f(lane); interlocked, no flag. -/
def State.pairs1 (s : State) (y : Bool) (d : Fld) (ok : Group → Bool) (f : Group → Nat → W64) : Res :=
  s.plain y (fun g => g.pairIn d.toNat && ok g) fun g sl => g.writeV (g.pairLaneWrites sl d.toNat (f g))

/-- A value operand: 32 bits, or a pair in a 64-bit form, as a number. -/
def Group.val (g : Group) (wide : Bool) (n l : Nat) : Nat :=
  if wide then (g.rp n l).toNat else (g.rv n l).toNat

/-- The writes of a value, 32 or 64 bits, to a window position of one lane. -/
def Group.valWrites (g : Group) (wide : Bool) (n l v : Nat) : List (Nat × W32) :=
  if wide then g.pairWrites n l (BitVec.ofNat 64 v) else [(g.vkey n l, BitVec.ofNat 32 v)]

/-- The format of a class 4 form: F64 when .F64, else F32. -/
def fmtW (wide : Bool) : Fmt := if wide then fF64 else fF32

/-- A floating-point lane-wise form of 32 or 64 bits, interlocked. -/
def State.fpLanes (s : State) (y wide : Bool) (d : Fld) (srcs : List Fld) (f : Group → Nat → Nat × BitVec 6) : Res :=
  s.plain y (fun g => (d :: srcs).all fun r => g.valIn wide r.toNat) fun g sl =>
    (g.writeV ((g.active sl).flatMap fun l => g.valWrites wide d.toNat l (f g l).1)).orFlags
      (g.laneFlags sl fun l => (f g l).2)

/-- A floating-point form of two operands. -/
def State.fp3 (s : State) (y wide : Bool) (d a b : Fld) (rm : Group → RMode)
    (op : Fmt → RMode → Num → Num → Nat × BitVec 6) : Res :=
  s.fpLanes y wide d [a, b] fun g l =>
    op (fmtW wide) (rm g) ((fmtW wide).unpack (g.val wide a.toNat l)) ((fmtW wide).unpack (g.val wide b.toNat l))

/-- A fused form: RoundTo(a * b + d), or RoundTo(d - a * b) when `sub`. -/
def State.fpFma (s : State) (y wide sub : Bool) (d a b : Fld) (rm : Group → RMode) : Res :=
  s.fpLanes y wide d [a, b] fun g l =>
    let f := fmtW wide
    let p := f.unpack (g.val wide a.toNat l)
    f.fma (rm g) (if sub then p.negate else p) (f.unpack (g.val wide b.toNat l)) (f.unpack (g.val wide d.toNat l))

/-- FPCR.RM of the group. -/
def Group.rm (g : Group) : RMode := rmOf g.fpcr
/-- RNE, for the .RN forms. -/
def Group.rn (_ : Group) : RMode := .rne

/-! ### Compares into a triple -/

/-- The bits of the lanes of Active() in which a condition holds. -/
def Group.laneBits (g : Group) (slices : List Nat) (p : Nat → Bool) : BitVec 96 :=
  (g.activeVis slices).foldl (fun w l => if p (g.physLane l) then w ||| (1#96 <<< l) else w) 0

/-- Bit l of triple d := l in Active() and the condition (16 R287, R292). -/
def State.compare (s : State) (y : Bool) (d : Fld) (ok : Group → Bool) (p : Group → Nat → Bool) : Res :=
  s.plain y ok fun g sl => g.writeTriple sl d.toNat (g.laneBits sl (p g))

/-- A compare of two 32-bit vectors. -/
def State.vecCompare (s : State) (y : Bool) (d a b : Fld) (p : W32 → W32 → Bool) : Res :=
  s.compare y d (fun g => g.inWindow a.toNat && g.inWindow b.toNat) fun g l => p (g.rv a.toNat l) (g.rv b.toNat l)

/-- A floating-point compare. -/
def State.fpCompare (s : State) (y wide : Bool) (d a b : Fld) (p : Num → Num → Bool) : Res :=
  s.compare y d (fun g => g.valIn wide a.toNat && g.valIn wide b.toNat) fun g l =>
    p ((fmtW wide).unpack (g.val wide a.toNat l)) ((fmtW wide).unpack (g.val wide b.toNat l))

/-! ### Variable-latency forms -/

/-- A lane-wise form whose result and flags are pending (08 R137, 12 R216). -/
def State.pendLanes (s : State) (y : Bool) (ok : Group → Bool)
    (f : Group → List Nat → List (Nat × W32) × BitVec 6) : Res :=
  s.plain y ok fun g sl =>
    let r := f g sl
    g.addPending { slices := sl, vecs := r.1, flags := r.2 }

/-- A 32- or 64-bit floating-point form with a pending result. -/
def State.fpPend (s : State) (y wide : Bool) (d : Fld) (srcs : List Fld) (f : Group → Nat → Nat × BitVec 6) : Res :=
  s.pendLanes y (fun g => (d :: srcs).all fun r => g.valIn wide r.toNat) fun g sl =>
    ((g.active sl).flatMap fun l => g.valWrites wide d.toNat l (f g l).1, g.laneFlags sl fun l => (f g l).2)

end Sys2Proof.Machine
end

