-- ==== Sys2Proof/Machine/Control.lean ====
section
/-! DEFINITION. Control: branches, calls, JOIN, windows, regions, SLEEP and EXIT (15 R267-R277). -/

namespace Sys2Proof.Machine

/-- The branch target: PC + 4 * offset (14 R247). -/
def State.target (s : State) (o : BitVec 17) : W64 := s.cursor.pc + (o.signExtend 64 <<< 2)

/-- The whole gang goes to a PC. -/
def State.move (s : State) (y : Bool) (g : Group) (pc : W64) : Res :=
  .next (s.putGroup s.cursor.group (g.goTo s.cursor.slices pc y))

/-- A branch of the whole gang on a scalar (15 R267). -/
def State.branchOn (s : State) (y : Bool) (c : Fld) (o : BitVec 17) (p : W64 → Bool) : Res :=
  s.issue fun g => s.move y g (if p (g.rs c.toNat) then s.target o else s.cursor.pc + 4)

/-- Some of the gang's slices form a gang of their own. -/
def Group.regang (g : Group) (slices : List Nat) : Group :=
  g.mapSlices (fun _ sl => { sl with gang := slices.headD 0 }) slices

/-- A branch per slice (08 R132 item 1): the slices whose test holds go to the target as one gang, the rest to the next
instruction as another. -/
def State.branchSlices (s : State) (y : Bool) (c : Fld) (o : BitVec 17) (onAny : Bool) : Res :=
  s.issue fun g =>
    let sl := s.cursor.slices
    let any (i : Nat) : Bool := g.triple c.toNat &&& g.triple 125 &&& g.ownBits [i] != 0
    let taken := sl.filter fun i => any i == onAny
    let rest := sl.filter fun i => any i != onAny
    let g := (g.regang taken).regang rest
    .next (s.putGroup s.cursor.group ((g.goTo taken (s.target o) y).goTo rest (s.cursor.pc + 4) y))

/-- BR (R267). -/
def execBr (y : Bool) (o : BitVec 17) (s : State) : Res :=
  s.issue fun g => s.move y g (s.target o)

/-- BRCZ (R267): taken when s_k = 0. -/
def execBrcZ (y : Bool) (c : Fld) (o : BitVec 17) (s : State) : Res :=
  s.branchOn y c o fun x => x == 0

/-- BRCNZ (R267): taken when s_k <> 0. -/
def execBrcNz (y : Bool) (c : Fld) (o : BitVec 17) (s : State) : Res :=
  s.branchOn y c o fun x => x != 0

/-- BRCLT (R267): taken when s_k < 0. -/
def execBrcLt (y : Bool) (c : Fld) (o : BitVec 17) (s : State) : Res :=
  s.branchOn y c o fun x => x.slt 0

/-- BRCGE (R267): taken when s_k >= 0. -/
def execBrcGe (y : Bool) (c : Fld) (o : BitVec 17) (s : State) : Res :=
  s.branchOn y c o fun x => !x.slt 0

/-- BRM.Z (R132): a slice branches when its test is all zero. -/
def execBrmZ (y : Bool) (c : Fld) (o : BitVec 17) (s : State) : Res :=
  s.branchSlices y c o false

/-- BRM.NZ (R132): a slice branches when any bit of its test is set. -/
def execBrmNz (y : Bool) (c : Fld) (o : BitVec 17) (s : State) : Res :=
  s.branchSlices y c o true

/-- The call of 15 R268: every physical lane of the gang's slices saves its slice's link word in window positions 126 and
127, the link words take the return PC, and the gang goes to the target. -/
def State.callTo (s : State) (y : Bool) (target : Group → W64) : Res :=
  s.issue fun g => s.need g (g.inWindow 127) (
    let sl := s.cursor.slices
    let t := target g
    let saved := sl.flatMap fun i => (List.range 4).flatMap fun q => g.pairWrites 126 (4 * i + q) (g.slice i).link
    let g := g.writeV saved
    let g := g.mapSlices (fun _ r => { r with link := s.cursor.pc + 4 }) sl
    s.move y g t)

/-- BSR (R268). -/
def execBsr (y : Bool) (o : BitVec 17) (s : State) : Res :=
  s.callTo y fun _ => s.target o

/-- CALL (R268). -/
def execCall (y : Bool) (a : Fld) (s : State) : Res :=
  s.callTo y fun g => g.rs a.toNat

/-- JMP (R268). -/
def execJmp (y : Bool) (a : Fld) (s : State) : Res :=
  s.issue fun g => s.move y g (g.rs a.toNat)

/-- RET (R268): each slice goes to its link word and takes the saved one; the gang parts by PC. -/
def execRet (y : Bool) (s : State) : Res :=
  s.issue fun g => s.need g (g.inWindow 127) (
    let sl := s.cursor.slices
    let g1 := g.mapSlices (fun i r => { r with pc := r.link, link := g.rp 126 (4 * i) }) sl
    let g2 := g1.partByPc sl
    .next (s.putGroup s.cursor.group (if y then g2.switchPark sl else g2)))

/-- JOIN (R134, R269). An implicit switch point (DEDUCED, log 46). -/
def execJoin (y : Bool) (j : Fld) (s : State) : Res :=
  s.issue fun g => s.switchFirst g (
    let sl := s.cursor.slices
    let r := j.toNat
    let w := g.rs r
    if rejoinE w &&& (sliceBits sl).setWidth 24 = 0 then s.retire y g
    else
      let since := if rejoinA w = 0 then s.tickOf (dieOf g.core) else Sparse.get 0 g.joinSince r
      let g := { g with s := Sparse.set 0 g.s r (w ||| (sliceBits sl <<< 24)), joinSince := Sparse.set 0 g.joinSince r since }
      let g := g.mapSlices (fun _ t => t.parkAt .join (BitVec.ofNat 32 r) 0) sl
      .next (s.putGroup s.cursor.group
        (if rejoinE (g.rs r) &&& ~~~(rejoinA (g.rs r)) = 0 then g.completeJoin r (g.arrived r) (s.cursor.pc + 4) else g)))

/-- WINB (R274): the window base becomes 8n; UND when 8n >= E. -/
def execWinb (y : Bool) (n : Fld) (s : State) : Res :=
  s.plain y (fun g => decide (8 * n.toNat < g.extent)) fun g _ => { g with winb := 8 * n.toNat }

/-- A group that ends leaves its port slot and its tiles (08 R140, 18 R331). -/
def State.freeSlot (s : State) (h : Nat) (g : Group) : State :=
  let c := Sparse.get {} s.cores g.core
  let own : Sparse (Option Nat) := c.tileOwner.filter fun e =>
    e.2 != some h || s.cmds.any fun k => match k.2 with
      | none => false
      | some m => m.group == h && m.tiles.contains e.1
  let slots : Sparse (Option Nat) := c.slots.filter fun e => e.2 != some h
  { s with cores := Sparse.set {} s.cores g.core { c with tileOwner := own, slots := slots } }

/-- EXIT (R277): every slice of the gang becomes EXITED. An implicit switch point (DESIGN CHOICE, log 14). -/
def execExit (_y : Bool) (s : State) : Res :=
  s.issue fun g => s.switchFirst g (
    let g := g.mapSlices (fun _ r => { r with state := .exited, park := .none }) s.cursor.slices
    let s := s.putGroup s.cursor.group g
    .next (if g.live = [] then s.freeSlot s.cursor.group g else s))

/-- RGN (R276): enter the region whose entry is the next instruction. -/
def execRgn (y : Bool) (s : State) : Res :=
  s.plain y (fun _ => true) fun g _ =>
    { g with repc := (s.cursor.pc + 4) ||| 1, firstPoison := [], firstMismatch := [] }

/-- RGNX (R276): leave the region. -/
def execRgnx (y : Bool) (s : State) : Res :=
  s.plain y (fun _ => true) fun g _ => { g with repc := 0 }

/-- SLEEP (R272). An implicit switch point; then the gang parks until TICK + s_a, and at least to the next tick
(DEDUCED, log 46, 47). -/
def execSleep (_y : Bool) (a : Fld) (s : State) : Res :=
  s.issue fun g => s.switchFirst g (
    let n := g.rs a.toNat
    let due := s.tickOf (dieOf g.core) + (if n = 0 then 1 else n)
    let g := g.setPc s.cursor.slices (s.cursor.pc + 4)
    .next (s.putGroup s.cursor.group (g.mapSlices (fun _ r => r.parkAt .sleep 0 due) s.cursor.slices)))

/-- The context line of vector register 4k in a slice (09 R149). -/
def Group.vecLine (g : Group) (k i : Nat) : Nat := 41 + k * g.sliceCount + i

/-- The keys of the sixteen lane registers of a vector line (DESIGN CHOICE, log 26). -/
def lineKeys (k i : Nat) : List Nat :=
  (List.range 4).flatMap fun r => (List.range 4).map fun q => (4 * k + r) * 128 + (4 * i + q)

/-- Drop one vector line of one slice (09 R151), unless a pending result is addressed to it. Its registers then read
zero or keep what the lanes wrote, as a free truth value says (DESIGN CHOICE, log 26). -/
def Group.dropLine (g : Group) (free k i : Nat) : Group :=
  if g.pending.any fun p => p.vecs.any fun e => (lineKeys k i).contains e.1 then g
  else
    let g := { g with present := Sparse.set .invalid g.present (g.vecLine k i) .invalid,
                      spilled := g.spilled.filter fun e => e.1 != g.vecLine k i }
    if Config.freeBool (free + 32 * k + i) then
      { g with v := Sparse.setAll 0 g.v ((lineKeys k i).map fun n => (n, 0)) }
    else g

/-- VDEAD (R275, R151): window positions a to b are dead for the gang (DESIGN CHOICE, log 26). -/
def execVdead (y : Bool) (a b : Fld) (s : State) : Res :=
  s.issue fun g => s.need g (g.inWindow b.toNat && decide (a.toNat ≤ b.toNat)) (
    let lo := (g.winb + a.toNat + 3) / 4
    let hi := (g.winb + b.toNat + 1) / 4
    let pairs := (List.range (hi - lo)).flatMap fun k => s.cursor.slices.map fun i => (lo + k, i)
    let g := pairs.foldl (fun g e => g.dropLine s.free e.1 e.2) g
    ({ s with free := s.free + 8192 } : State).retire y g)

end Sys2Proof.Machine
end

