-- ==== Sys2Proof/Machine/Confluence.lean ====
section
/-! DEFINITION. Confluence's tables and the effects of Current events on them (06 R96-R112): queues, submits, dispatch,
completion, loss and re-placement, graphs. Integers only; the same for every chip. -/

namespace Sys2Proof.Machine

/-! ### Rows -/

def Tables.chip (t : Tables) (c : Nat) : ChipRow := Sparse.get {} t.chips c
def Tables.queue (t : Tables) (q : Nat) : QueueRow := Sparse.get {} t.queues q
def Tables.grid (t : Tables) (g : Nat) : GridRow := Sparse.get {} t.grids g
/-- The placement row of a grid and a nominal chip. -/
def Tables.place (t : Tables) (g c : Nat) : PlaceRow := Sparse.get {} t.places (g * 4096 + c)
def Tables.putChip (t : Tables) (c : Nat) (r : ChipRow) : Tables := { t with chips := Sparse.set {} t.chips c r }
def Tables.putQueue (t : Tables) (q : Nat) (r : QueueRow) : Tables := { t with queues := Sparse.set {} t.queues q r }
def Tables.putGrid (t : Tables) (g : Nat) (r : GridRow) : Tables := { t with grids := Sparse.set {} t.grids g r }
def Tables.putPlace (t : Tables) (g c : Nat) (r : PlaceRow) : Tables :=
  { t with places := Sparse.set {} t.places (g * 4096 + c) r }

/-- Entries of the placement store. -/
def storeEntries : Nat := 2 ^ 22

/-- The free entries of the placement store (R97). -/
def Tables.storeFree (t : Tables) : Nat := storeEntries - t.places.length

/-- The chips LIVE in the tables, ascending. -/
def Tables.liveChips (t : Tables) : List Nat := (t.chips.filter fun e => e.2.state == .live).map Prod.fst

/-- Change a chip's free count by a signed number. -/
def Tables.addFree (t : Tables) (c : Nat) (n : Int) : Tables :=
  let r := t.chip c
  t.putChip c { r with free := r.free + BitVec.ofInt 32 n }

/-! ### Payload fields (05 R83, 06 R107) -/

/-- The 8-byte word at record offset 0x10 + 8k. -/
def recWord (r : CurRec) (k : Nat) : W64 := r.payload.extractLsb' (64 * k) 64

def subGroups (r : CurRec) : Nat := bits (recWord r 4) 47 32 + 1
def subQuota (r : CurRec) : Nat := bits (recWord r 4) 63 48
def subPred (r : CurRec) : BitVec 32 := (recWord r 4).setWidth 32
def subBlocks (r : CurRec) : Nat := bits (recWord r 3) 63 40 + 1
def subWidth (r : CurRec) : Nat := bits (recWord r 3) 39 34 + 1
def subHeight (r : CurRec) : Nat := bits (recWord r 3) 33 28 + 1
/-- Flags [2:0] of R50: restartable, gated, graph. -/
def subFlags (r : CurRec) : BitVec 3 := (recWord r 3).extractLsb' 25 3
def subQueue (r : CurRec) : Nat := bits (recWord r 3) 24 15
def subOrigin (r : CurRec) : Nat := bits (recWord r 3) 14 12
def subTag (r : CurRec) : BitVec 32 := r.payload.extractLsb' 320 32
def subDigest (r : CurRec) : BitVec 32 := r.payload.extractLsb' 352 32

/-- The context of a record header (DESIGN CHOICE, log 27). -/
def recCtx (r : CurRec) : BitVec 20 := r.ctx.setWidth 20

/-! ### Fit and Place (R105) -/

/-- Cnt(g, k). -/
def GridRow.cnt (g : GridRow) (k : Nat) : Nat :=
  let n := g.width.toNat * g.height.toNat
  if k < g.blocks.toNat then (g.blocks.toNat - 1 - k) / n + 1 else 0

/-- Position k of a rectangle at an origin: its chip. -/
def GridRow.chipAt (g : GridRow) (x0 y0 k : Nat) : Nat :=
  64 * (y0 + k / g.width.toNat) + (x0 + k % g.width.toNat)

/-- Whether the rectangle of a grid fits at an origin. -/
def Tables.fitsAt (t : Tables) (g : GridRow) (x0 y0 : Nat) : Bool :=
  (List.range (g.width.toNat * g.height.toNat)).all fun k =>
    let c := t.chip (g.chipAt x0 y0 k)
    c.state == .live && decide ((g.cnt k : Int) ≤ c.free.toInt)

/-- Fit(g): the first origin, in row-major order. -/
def Tables.fit (t : Tables) (g : GridRow) : Option (Nat × Nat) :=
  let w := g.width.toNat
  let h := g.height.toNat
  if t.storeFree < w * h then none
  else
    ((List.range (65 - h)).flatMap fun y0 => (List.range (65 - w)).map fun x0 => (x0, y0)).find? fun o =>
      t.fitsAt g o.1 o.2

/-- Place(g, origin). -/
def Tables.placeGrid (t : Tables) (i : Nat) (o : Nat × Nat) : Tables :=
  let g := t.grid i
  let n := g.width.toNat * g.height.toNat
  let t := (List.range n).foldl (fun (t : Tables) k =>
    let c := g.chipAt o.1 o.2 k
    let cnt := g.cnt k
    (t.putPlace i c { first := BitVec.ofNat 32 k, count := BitVec.ofNat 32 cnt, enacting := BitVec.ofNat 12 c,
                      placed := true, finished := cnt == 0, released := cnt == 0 }).addFree c (-(cnt : Int))) t
  let m := BitVec.ofNat 16 (min g.blocks.toNat n)
  t.putGrid i { g with outstanding := m, unreleased := m, originX := BitVec.ofNat 8 o.1, originY := BitVec.ofNat 8 o.2,
                       state := .placed }

/-! ### Queues (R101, R103) -/

/-- SHARE (R101). -/
def Tables.share (t : Tables) (r : CurRec) : Tables :=
  let i := bits (recWord r 0) 9 0
  let tickets : BitVec 16 := (recWord r 0).extractLsb' 16 16
  let q := t.queue i
  if q.tickets ≠ 0 ∧ q.ctx ≠ recCtx r then t
  else if tickets = 0 ∧ q.length ≠ 0 then t
  else
    let q := { q with tickets := tickets, stride := (if tickets = 0 then 0 else BitVec.ofNat 32 (2 ^ 24 / tickets.toNat)),
                      ctx := if tickets = 0 then 0 else recCtx r }
    t.putQueue i (if tickets = 0 then { q with pass := 0, skips := 0, reservation := false } else q)

/-- The lowest grid row in state FREE. -/
def Tables.freeGridRow (t : Tables) : Option Nat := (List.range 65536).find? fun g => (t.grid g).state == .free

/-- The grid that gates a submit (R103). -/
def Tables.gateOf (t : Tables) (g : Nat) (r : CurRec) : Option Nat :=
  (t.grids.find? fun e => e.1 != g && e.2.ctx == recCtx r && (e.2.state == .queued || e.2.state == .placed)
    && e.2.hostTag == subPred r).map Prod.fst

/-- Append a grid to its queue. -/
def Tables.enqueue (t : Tables) (i g : Nat) : Tables :=
  let q := t.queue i
  let t := if q.length = 0 then t
    else t.putGrid q.tail.toNat { t.grid q.tail.toNat with next := BitVec.ofNat 16 g }
  let q := if q.length = 0 then { q with pass := (if q.pass.ult t.vtime then t.vtime else q.pass), head := BitVec.ofNat 16 g }
    else q
  t.putQueue i { q with tail := BitVec.ofNat 16 g, length := q.length + 1 }

/-- The creation of a grid by an accepted record in row g (R103). -/
def Tables.create (t : Tables) (g : Nat) (r : CurRec) : Tables :=
  let fl := subFlags r
  let row : GridRow :=
    { state := .queued, restartable := fl.getLsbD 0, graphFlag := fl.getLsbD 2, queue := BitVec.ofNat 10 (subQueue r),
      ctx := recCtx r, kernel := recWord r 0, argument := recWord r 1, signal := recWord r 2,
      blocks := BitVec.ofNat 32 (subBlocks r), width := BitVec.ofNat 8 (subWidth r), height := BitVec.ofNat 8 (subHeight r),
      quota := BitVec.ofNat 16 (subQuota r), groups := BitVec.ofNat 32 (subGroups r), hostTag := subTag r,
      node := if fl.getLsbD 2 then subPred r else 0xFFFFFFFF }
  let t := t.putGrid g row
  let t := if fl.getLsbD 2 then
      let k := ((Sparse.get {} t.insts (bits (subPred r) 31 24)).first.toNat + bits (subPred r) 11 0)
      { t with ctrs := Sparse.set {} t.ctrs k { Sparse.get {} t.ctrs k with state := 3, grid := BitVec.ofNat 16 g } }
    else t
  let t := if fl.getLsbD 1 then
      match t.gateOf g r with
      | none => t
      | some p =>
        if (t.grid p).unreleased ≠ 0 ∨ (t.grid p).state = .queued then
          t.putGrid g { t.grid g with gated := true, predecessor := BitVec.ofNat 16 p }
        else t
    else t
  t.enqueue (subQueue r) g

/-! ### Graphs (R111, R112) -/

/-- A graph object as parsed: each node's initial count and successors. -/
structure Graph where
  nodes : List (Nat × List Nat)
  deriving DecidableEq, Repr

/-- The lowest free instance row. -/
def Tables.freeInst (t : Tables) : Option Nat := (List.range 256).find? fun i => !(Sparse.get {} t.insts i).inUse

/-- The lowest run of n counter rows that are all zero. -/
def Tables.freeRun (t : Tables) (n : Nat) : Option Nat :=
  (List.range (65537 - n)).find? fun k => (List.range n).all fun j => Sparse.get {} t.ctrs (k + j) == {}

/-- A graph start: an instance and its counters; nodes without predecessors are owed by the record's source. -/
def Tables.startGraph (t : Tables) (i k : Nat) (r : CurRec) (gr : Graph) : Tables :=
  let n := gr.nodes.length
  let row : InstRow :=
    { ctx := recCtx r, nodes := BitVec.ofNat 16 n, unfinished := BitVec.ofNat 16 n, object := recWord r 0,
      first := BitVec.ofNat 32 k, inUse := true, faulted := false }
  { t with insts := Sparse.set {} t.insts i row,
           ctrs := Sparse.setAll {} t.ctrs ((List.range n).map fun j =>
      let c := ((gr.nodes[j]?).map Prod.fst).getD 0
      (k + j, { counter := BitVec.ofNat 16 c, state := (if c = 0 then 2 else 0),
                owed := (if c = 0 then r.src.setWidth 12 else 0), grid := 0 })) }

/-- Zero an instance and its counter rows. -/
def Tables.endInst (t : Tables) (i : Nat) : Tables :=
  let s := Sparse.get {} t.insts i
  { t with insts := Sparse.set {} t.insts i {},
           ctrs := Sparse.clearRange t.ctrs s.first.toNat (s.first.toNat + s.nodes.toNat) }

/-- GraphDone(g, f, c): the successors of a node come from the instance's object. -/
def Tables.graphDone (t : Tables) (succ : W64 → Nat → List Nat) (g : GridRow) (f : Bool) (c : BitVec 12) : Tables :=
  let i := bits g.node 31 24
  let j := bits g.node 11 0
  let s := Sparse.get {} t.insts i
  let first := s.first.toNat
  let row (t : Tables) (k : Nat) : CtrRow := Sparse.get {} t.ctrs (first + k)
  let put (t : Tables) (k : Nat) (r : CtrRow) : Tables := { t with ctrs := Sparse.set {} t.ctrs (first + k) r }
  let t := put t j { row t j with state := 4 }
  let left := s.unfinished - 1
  if f then
    let due := (List.range s.nodes.toNat).filter fun k => (row t k).state == 0 || (row t k).state == 2
    let t := due.foldl (fun t k => put t k { row t k with state := 4 }) t
    let left := left - BitVec.ofNat 16 due.length
    let t := { t with insts := Sparse.set {} t.insts i { s with unfinished := left, faulted := true } }
    if left = 0 then t.endInst i else t
  else
    let t := (succ s.object j).foldl (fun t k =>
      let r := row t k
      let n := r.counter - 1
      put t k (if n = 0 ∧ r.state = 0 then { r with counter := n, state := 2, owed := c } else { r with counter := n })) t
    let t := { t with insts := Sparse.set {} t.insts i { s with unfinished := left } }
    if left = 0 then t.endInst i else t

/-! ### Completion and gates (R107) -/

/-- FreeGrid(g). -/
def Tables.freeGrid (t : Tables) (g : Nat) : Tables :=
  { t with grids := Sparse.set {} t.grids g {}, places := Sparse.clearRange t.places (g * 4096) (g * 4096 + 4096) }

/-- OpenGates(g). -/
def Tables.openGates (t : Tables) (g : Nat) : Tables :=
  (t.grids.filter fun e => e.2.gated && e.2.predecessor.toNat == g).foldl (fun (t : Tables) e =>
    t.putGrid e.1 { t.grid e.1 with gated := false }) t

/-- Complete(g, f, c). -/
def Tables.complete (t : Tables) (succ : W64 → Nat → List Nat) (g : Nat) (f : Bool) (c : BitVec 12) : Tables :=
  let t := t.putGrid g { t.grid g with state := .done, faulted := f }
  let t := t.openGates g
  let row := t.grid g
  let t := if row.node ≠ 0xFFFFFFFF then t.graphDone succ row f c else t
  if row.signal = 0 then t.freeGrid g else t.putGrid g { t.grid g with owed := c }

/-- Released(g, r). -/
def Tables.releaseRow (t : Tables) (g c : Nat) : Tables :=
  let t := t.putPlace g c { t.place g c with released := true }
  let n := (t.grid g).unreleased - 1
  let t := t.putGrid g { t.grid g with unreleased := n }
  if n = 0 then t.openGates g else t

/-- The row that a completion event names, when none of the no-op rules of R107 applies. -/
def Tables.rowOf (t : Tables) (r : CurRec) : Option (Nat × Nat) :=
  let g := bits (recWord r 0) 15 0
  let c := bits (recWord r 0) 27 16
  if (t.grid g).state = .placed ∧ (t.place g c).placed ∧ (t.place g c).enacting.setWidth 16 = r.src then some (g, c) else none

/-- BLOCK. -/
def Tables.block (t : Tables) (r : CurRec) : Tables :=
  match t.rowOf r with
  | none => t
  | some (g, c) =>
    let p := t.place g c
    if p.parked.ult p.count && !p.finished then
      (t.putPlace g c { p with parked := p.parked + 1 }).addFree p.enacting.toNat 1
    else t

/-- RESUME. -/
def Tables.resume (t : Tables) (r : CurRec) : Tables :=
  match t.rowOf r with
  | none => t
  | some (g, c) =>
    let p := t.place g c
    if p.parked ≠ 0 then (t.putPlace g c { p with parked := p.parked - 1 }).addFree p.enacting.toNat (-1) else t

/-- RELEASE. -/
def Tables.release (t : Tables) (r : CurRec) : Tables :=
  match t.rowOf r with
  | none => t
  | some (g, c) => if (t.place g c).released then t else t.releaseRow g c

/-- FINISH kind 0. -/
def Tables.finishBlocks (t : Tables) (succ : W64 → Nat → List Nat) (r : CurRec) : Tables :=
  match t.rowOf r with
  | none => t
  | some (g, c) =>
    let p := t.place g c
    if p.finished then t
    else
      let t := t.putPlace g c { p with finished := true, parked := 0 }
      let t := t.addFree p.enacting.toNat ((p.count.toNat : Int) - p.parked.toNat)
      let t := if p.released then t else t.releaseRow g c
      let n := (t.grid g).outstanding - 1
      let t := t.putGrid g { t.grid g with outstanding := n }
      if n = 0 then t.complete succ g false (r.src.setWidth 12) else t

/-- FINISH kind 1. -/
def Tables.finishSignal (t : Tables) (r : CurRec) : Tables :=
  let g := bits (recWord r 0) 15 0
  if (t.grid g).state = .done ∧ r.src = (t.grid g).owed.setWidth 16 then t.freeGrid g else t

/-- The placement rows of a grid: (nominal chip, row), ascending. -/
def Tables.rowsOf (t : Tables) (g : Nat) : List (Nat × PlaceRow) :=
  (t.places.filter fun e => e.1 / 4096 == g).map fun e => (e.1 % 4096, e.2)

/-- FAULT on a grid, with a source. -/
def Tables.faultGrid (t : Tables) (succ : W64 → Nat → List Nat) (g : Nat) (src : BitVec 12) : Tables :=
  let t := ((t.rowsOf g).filter fun e => !e.2.finished).foldl (fun (t : Tables) e =>
    let t := if e.2.unplaced then t else t.addFree e.2.enacting.toNat ((e.2.count.toNat : Int) - e.2.parked.toNat)
    t.putPlace g e.1 { e.2 with finished := true, parked := 0 }) t
  t.complete succ g true src

/-- The FAULT event. -/
def Tables.fault (t : Tables) (succ : W64 → Nat → List Nat) (r : CurRec) : Tables :=
  match t.rowOf r with
  | none => t
  | some (g, _) => t.faultGrid succ g (r.src.setWidth 12)

/-! ### Loss and re-placement (R109, R110) -/

/-- The unfinished, placed rows of a grid that a chip enacts. -/
def Tables.rowsAt (t : Tables) (g c : Nat) : List (Nat × PlaceRow) :=
  (t.rowsOf g).filter fun e => e.2.enacting.toNat == c && !e.2.finished && !e.2.unplaced

/-- Leave(c), for a chip that left LIVE. -/
def Tables.leave (t : Tables) (succ : W64 → Nat → List Nat) (c : Nat) : Tables :=
  let t := t.putChip c { t.chip c with free := 0, capacity := 0 }
  let m := BitVec.ofNat 12 (t.liveChips.headD 0)
  let t := (t.grids.map Prod.fst).foldl (fun (t : Tables) g =>
    let row := t.grid g
    let t := if row.state = .done ∧ row.owed.toNat = c then t.putGrid g { row with owed := m } else t
    if (t.grid g).state ≠ .placed then t
    else if row.restartable then
      (t.rowsAt g c).foldl (fun (t : Tables) e =>
        t.putPlace g e.1 { e.2 with parked := 0, unplaced := true, replaced := true }) t
    else if t.rowsAt g c = [] then t
    else t.faultGrid succ g m) t
  { t with ctrs := Sparse.setAll {} t.ctrs ((t.ctrs.filter fun e => e.2.state == 2 && e.2.owed.toNat == c).map fun e =>
      (e.1, { e.2 with owed := m })) }

/-- The chip that takes an unplaced row: the scan of R110. -/
def Tables.retryTarget (t : Tables) (g : GridRow) (count : Nat) : Option Nat :=
  let o := 64 * g.originY.toNat + g.originX.toNat
  let inside (c : Nat) : Bool :=
    decide (g.originX.toNat ≤ c % 64) && decide (c % 64 < g.originX.toNat + g.width.toNat)
      && decide (g.originY.toNat ≤ c / 64) && decide (c / 64 < g.originY.toNat + g.height.toNat)
  ((List.range 4096).map fun i => (o + i) % 4096).find? fun c =>
    !inside c && (t.chip c).state == .live && decide ((count : Int) ≤ (t.chip c).free.toInt)

/-- RetryUnplaced. -/
def Tables.retryUnplaced (t : Tables) : Tables :=
  (t.places.filter fun e => e.2.unplaced).foldl (fun (t : Tables) e =>
    let g := e.1 / 4096
    match t.retryTarget (t.grid g) e.2.count.toNat with
    | none => t
    | some c =>
      (t.putPlace g (e.1 % 4096) { e.2 with enacting := BitVec.ofNat 12 c, unplaced := false }).addFree c
        (-(e.2.count.toNat : Int))) t

/-! ### Dispatch (R104) -/

/-- Cost(g). -/
def GridRow.cost (g : GridRow) : Nat := (g.blocks.toNat + 63) / 64

/-- The queues with length > 0, ascending. -/
def Tables.backlogged (t : Tables) : List (Nat × QueueRow) := t.queues.filter fun e => e.2.length != 0

/-- The least member by (pass, index) of an ascending list. -/
def leastPass : List (Nat × QueueRow) → Option (Nat × QueueRow)
  | [] => none
  | e :: es =>
    match leastPass es with
    | none => some e
    | some m => if m.2.pass.ult e.2.pass then some m else some e

/-- Place the head of a queue and advance the queue. -/
def Tables.dispatchHead (t : Tables) (i : Nat) (o : Nat × Nat) : Tables :=
  let q := t.queue i
  let g := q.head.toNat
  let row := t.grid g
  let t := t.placeGrid g o
  let t := { t with vtime := q.pass }
  let t := t.putQueue i { q with pass := q.pass + BitVec.ofNat 64 (q.stride.toNat * row.cost), skips := 0,
                                 reservation := false, head := row.next, length := q.length - 1 }
  if 2 ^ 62 ≤ t.vtime.toNat then
    let t := { t with vtime := t.vtime - BitVec.ofNat 64 (2 ^ 61) }
    { t with queues := Sparse.setAll {} t.queues (t.queues.map fun e =>
        (e.1, { e.2 with pass := if e.2.pass.toNat < 2 ^ 61 then 0 else e.2.pass - BitVec.ofNat 64 (2 ^ 61) })) }
  else t

/-- The dispatch loop, at most n grids. -/
def Tables.dispatchLoop : Nat → Tables → Tables
  | 0, t => t
  | n + 1, t =>
    let bk := t.backlogged
    let rs := bk.filter fun e => e.2.reservation
    let fitOf (e : Nat × QueueRow) : Option (Nat × Nat) := t.fit (t.grid e.2.head.toNat)
    if rs ≠ [] then
      match leastPass rs with
      | none => t
      | some q =>
        match fitOf q with
        | none => t
        | some o => Tables.dispatchLoop n (t.dispatchHead q.1 o)
    else
      let ft := bk.filter fun e => (fitOf e).isSome
      match leastPass ft with
      | none => t
      | some q =>
        match fitOf q with
        | none => t
        | some o =>
          let passed := bk.filter fun e => (fitOf e).isNone && (e.2.pass.ult q.2.pass || (e.2.pass == q.2.pass && decide (e.1 < q.1)))
          let t := passed.foldl (fun (t : Tables) e =>
            let k := e.2.skips + 1
            t.putQueue e.1 { e.2 with skips := k, reservation := e.2.reservation || k == 16 }) t
          Tables.dispatchLoop n (t.dispatchHead q.1 o)

/-- Dispatch, run after every event; the loop places at most every grid row. -/
def Tables.dispatch (t : Tables) : Tables :=
  if t.split then t else Tables.dispatchLoop 65536 t.retryUnplaced

/-! ### SUBMIT and FIRE (R102, R112) -/

/-- The outcome of a submit: new tables, a refusal reason, or a difference of graph digests. -/
inductive Submitted where
  | accepted (t : Tables)
  | refused (reason : Nat)
  | graphDiffers
  deriving DecidableEq, Repr

/-- Apply a SUBMIT or FIRE. `graph` gives the digest and the parsed object that a reference names on this chip. -/
def Tables.submit (t : Tables) (r : CurRec) (graph : W64 → BitVec 32 × Option Graph) : Submitted :=
  let fl := subFlags r
  let pred := subPred r
  let start := decide (subOrigin r ≤ 1) && pred == 0xFFFFFFFF
  let inst := Sparse.get {} t.insts (bits pred 31 24)
  let ctr := Sparse.get {} t.ctrs (inst.first.toNat + bits pred 11 0)
  let obj : W64 := if start then recWord r 0 else inst.object
  let own := graph obj
  if fl.getLsbD 2 ∧ (start ∨ inst.inUse) ∧ own.1 ≠ subDigest r then .graphDiffers
  else if t.split then .refused 1
  else if 3 ≤ subOrigin r ∨ subQuota r = 0 then .refused 2
  else if (t.queue (subQueue r)).tickets = 0 ∨ (t.queue (subQueue r)).ctx ≠ recCtx r then .refused 3
  else if fl.getLsbD 2 then
    match start, own.2 with
    | true, some gr =>
      match t.freeInst, t.freeRun gr.nodes.length with
      | some i, some k => .accepted (t.startGraph i k r gr)
      | _, _ => .refused 5
    | _, _ =>
      if subOrigin r = 2 ∧ inst.inUse ∧ bits pred 11 0 < inst.nodes.toNat ∧ ctr.state = 2 then
        match t.freeGridRow with
        | none => .refused 5
        | some g => .accepted (t.create g r)
      else .refused 4
  else
    match t.freeGridRow with
    | none => .refused 5
    | some g => .accepted (t.create g r)

/-! ### Rows as bytes (R98-R100, R111), for digests and snapshots -/

/-- A chip state's code. -/
def ChipState.code : ChipState → Nat
  | .absent => 0 | .joining => 1 | .live => 2 | .expelled => 3 | .lost => 4

/-- A grid state's code. -/
def GridState.code : GridState → Nat
  | .free => 0 | .queued => 1 | .placed => 2 | .done => 3

/-- A chip row's 16 bytes. -/
def ChipRow.bytes (r : ChipRow) : List Byte :=
  leBytes 1 r.state.code ++ leBytes 1 r.dieMap.toNat ++ leBytes 2 0 ++ leBytes 4 r.capacity.toNat ++ leBytes 4 r.free.toNat
    ++ leBytes 4 0

/-- A queue row's 32 bytes. -/
def QueueRow.bytes (r : QueueRow) : List Byte :=
  leBytes 8 r.pass.toNat ++ leBytes 4 r.stride.toNat ++ leBytes 2 r.tickets.toNat ++ leBytes 1 r.skips.toNat
    ++ leBytes 1 r.reservation.toNat ++ leBytes 2 r.head.toNat ++ leBytes 2 r.tail.toNat ++ leBytes 4 r.ctx.toNat
    ++ leBytes 4 r.length.toNat ++ leBytes 4 0

/-- A grid row's 64 bytes. -/
def GridRow.bytes (r : GridRow) : List Byte :=
  leBytes 1 r.state.code
    ++ leBytes 1 (r.restartable.toNat + 2 * r.gated.toNat + 4 * r.graphFlag.toNat + 8 * r.faulted.toNat)
    ++ leBytes 2 r.queue.toNat ++ leBytes 4 r.ctx.toNat ++ leBytes 8 r.kernel.toNat ++ leBytes 8 r.argument.toNat
    ++ leBytes 8 r.signal.toNat ++ leBytes 4 r.blocks.toNat ++ leBytes 1 r.width.toNat ++ leBytes 1 r.height.toNat
    ++ leBytes 1 r.originX.toNat ++ leBytes 1 r.originY.toNat ++ leBytes 2 r.quota.toNat ++ leBytes 2 r.owed.toNat
    ++ leBytes 4 r.groups.toNat ++ leBytes 4 r.hostTag.toNat ++ leBytes 2 r.predecessor.toNat ++ leBytes 2 r.next.toNat
    ++ leBytes 2 r.outstanding.toNat ++ leBytes 2 r.unreleased.toNat ++ leBytes 4 r.node.toNat

/-- A placement row's 16 bytes. -/
def PlaceRow.bytes (r : PlaceRow) : List Byte :=
  leBytes 4 r.first.toNat ++ leBytes 4 r.count.toNat ++ leBytes 4 r.parked.toNat ++ leBytes 2 r.enacting.toNat
    ++ leBytes 1 (r.placed.toNat + 2 * r.finished.toNat + 4 * r.released.toNat + 8 * r.unplaced.toNat + 16 * r.replaced.toNat)
    ++ leBytes 1 0

/-- An instance row's 32 bytes. -/
def InstRow.bytes (r : InstRow) : List Byte :=
  leBytes 4 r.ctx.toNat ++ leBytes 2 r.nodes.toNat ++ leBytes 2 r.unfinished.toNat ++ leBytes 8 r.object.toNat
    ++ leBytes 4 r.first.toNat ++ leBytes 1 (r.inUse.toNat + 2 * r.faulted.toNat) ++ leBytes 11 0

/-- A counter row's 8 bytes. -/
def CtrRow.bytes (r : CtrRow) : List Byte :=
  leBytes 2 r.counter.toNat ++ leBytes 1 r.state.toNat ++ leBytes 1 0 ++ leBytes 2 r.owed.toNat ++ leBytes 2 r.grid.toNat

/-- The pod row's 16 bytes. -/
def Tables.podBytes (t : Tables) : List Byte :=
  leBytes 8 t.vtime.toNat ++ leBytes 1 t.split.toNat ++ leBytes 1 t.formed.toNat ++ leBytes 6 0

/-- A sounding row's 32 bytes. -/
def SoundRow.bytes (r : SoundRow) : List Byte :=
  leBytes 8 r.opening.toNat ++ leBytes 1 r.kind.toNat ++ leBytes 7 0 ++ leBytes 16 r.digest.toNat

/-- The rows of tables 0-6 that are not all zero: (table, index, bytes), ascending. -/
def Tables.rows (t : Tables) : List RowRec :=
  (t.chips.map fun e => ⟨0, e.1, e.2.bytes⟩) ++ (t.queues.map fun e => ⟨1, e.1, e.2.bytes⟩)
    ++ (t.grids.map fun e => ⟨2, e.1, e.2.bytes⟩) ++ (t.places.map fun e => ⟨3, e.1, e.2.bytes⟩)
    ++ (t.insts.map fun e => ⟨4, e.1, e.2.bytes⟩) ++ (t.ctrs.map fun e => ⟨5, e.1, e.2.bytes⟩)
    ++ (if t.podBytes = List.replicate 16 0 then [] else [⟨6, 0, t.podBytes⟩])

end Sys2Proof.Machine
end

