-- ==== Sys2Proof/Machine/Compress.lean ====
section
/-! DEFINITION. The stored form of a 128-byte line in DRAM (10 R185): which of its four sectors are transferred, and what they
hold, under each compression scheme. Clients see plain lines only. -/

namespace Sys2Proof.Machine

/-- The sectors of a list of bytes. -/
def sectorsOf (n : Nat) (bytes : List Byte) : List (List Byte) := (List.range n).map fun k => (bytes.drop (32 * k)).take 32

/-- Bytes filled up to whole sectors: what stands behind a shorter form is not said (DESIGN CHOICE, log 22). -/
def padded (n : Nat) (bytes : List Byte) : List Byte :=
  bytes ++ (List.range (32 * n - bytes.length)).map Config.storedPad

/-- The deltas of the words of a line from its base. -/
def lineDeltas (line : List Byte) : List Int :=
  let base := (Config.deltaBase line).toInt
  (List.range 32).map fun i => (BitVec.ofNat 32 (leNat ((line.drop (4 * i)).take 4))).toInt - base

/-- Base and delta (code 2): the base and 32 signed 1-byte deltas in two sectors, when every word fits. -/
def baseDelta (line : List Byte) : Option (List Byte) :=
  let ds := lineDeltas line
  if ds.all fun d => decide (-128 ≤ d) && decide (d ≤ 127) then
    some (padded 2 (leBytes 4 (Config.deltaBase line).toNat ++ ds.map (BitVec.ofInt 8)))
  else none

/-- Exponent plane (code 3): of 64 16-bit floats with 8-bit exponents, the sign-and-mantissa bytes, then the exponents coded by
runs; it fits in three sectors. How runs are coded is not said (DESIGN CHOICE, log 22). -/
def exponentPlane (line : List Byte) : Option (List Byte) :=
  let w (i : Nat) : Nat := leNat ((line.drop (2 * i)).take 2)
  let rest := (List.range 64).map fun i => BitVec.ofNat 8 (w i / 2 ^ 15 * 128 + w i % 128)
  let runs := Config.runLengths ((List.range 64).map fun i => BitVec.ofNat 8 (w i / 128 % 256))
  if 64 + runs.length ≤ 96 then some (padded 3 (rest ++ runs)) else none

/-- Whether a line fits a scheme; one that does not is stored plain. -/
def lineFits (scheme : Nat) (line : List Byte) : Bool :=
  match scheme with
  | 1 => true
  | 2 => (baseDelta line).isSome
  | 3 => (exponentPlane line).isSome
  | _ => false

/-- The four sectors of a line's stored form: none for a sector that is not transferred. -/
def storedLine (form : Nat) (line : List Byte) : List (Option (List Byte)) :=
  let plain := sectorsOf 4 line
  match form with
  | 1 => plain.map fun s => if s.all fun b => b == 0 then none else some s
  | 2 => match baseDelta line with
    | some b => (sectorsOf 2 b).map some ++ [none, none]
    | none => plain.map some
  | 3 => match exponentPlane line with
    | some b => (sectorsOf 3 b).map some ++ [none]
    | none => plain.map some
  | _ => plain.map some

/-- A line from its stored form. -/
def plainLine (form : Nat) (stored : List (Option (List Byte))) : List Byte :=
  let bytes := stored.flatMap fun s => s.getD (List.replicate 32 0)
  match form with
  | 2 =>
    let base := (BitVec.ofNat 32 (leNat (bytes.take 4))).toInt
    (List.range 32).flatMap fun i => leBytes 4 (BitVec.ofInt 32 (base + (bytes.getD (4 + i) 0).toInt)).toNat
  | 3 =>
    let exps := Config.runExponents (bytes.drop 64)
    (List.range 64).flatMap fun i =>
      let b := (bytes.getD i 0).toNat
      leBytes 2 (b / 128 * 2 ^ 15 + (exps.getD i 0).toNat * 128 + b % 128)
  | _ => bytes

end Sys2Proof.Machine
end

