-- ==== Sys2Proof/Machine/Keygen.lean ====
section
/-! DEFINITION. The generation of the two identity keys (03 R66): RSA-3072 by the probable-prime method of FIPS 186-5 from an
HMAC_DRBG, and SLH-DSA-SHA2-256s by FIPS 205, with SHA-256 and SHA-512 (FIPS 180-4). The standards fix their bytes. -/

namespace Sys2Proof.Machine

/-! ### SHA-512 and SHA-256 -/

/-- The initial hash value of SHA-512. -/
def sha512Init : List W64 :=
  [0x6A09E667F3BCC908, 0xBB67AE8584CAA73B, 0x3C6EF372FE94F82B, 0xA54FF53A5F1D36F1,
   0x510E527FADE682D1, 0x9B05688C2B3E6C1F, 0x1F83D9ABFB41BD6B, 0x5BE0CD19137E2179]

/-- SHA-512: 64 bytes. -/
def sha512 (m : List Byte) : List Byte :=
  let p := shaPad m
  (shaBlocks (p.length / 128) sha512Init p).flatMap beBytes

/-- The upper halves of 64-bit constants: those of SHA-256 are the upper halves of those of SHA-512. -/
def upperHalves (ws : List W64) : List W32 := ws.map fun w => w.extractLsb' 32 32

/-- The big-endian bytes of a 32-bit word. -/
def beBytes4 (w : W32) : List Byte := (List.range 4).map fun i => (w >>> (8 * (3 - i))).setWidth 8

/-- The message schedule of SHA-256, newest first. -/
def schedule256 : Nat → List W32 → List W32
  | 0, ws => ws
  | n + 1, ws =>
    let g (i : Nat) : W32 := ws.getD i 0
    let s0 := (g 14).rotateRight 7 ^^^ (g 14).rotateRight 18 ^^^ (g 14 >>> 3)
    let s1 := (g 1).rotateRight 17 ^^^ (g 1).rotateRight 19 ^^^ (g 1 >>> 10)
    schedule256 n ((g 15 + s0 + g 6 + s1) :: ws)

/-- One round of SHA-256 on the working variables. -/
def sha256Round (h : List W32) (kw : W32) : List W32 :=
  match h with
  | [a, b, c, d, e, f, g, x] =>
    let s1 := e.rotateRight 6 ^^^ e.rotateRight 11 ^^^ e.rotateRight 25
    let t1 := x + s1 + ((e &&& f) ^^^ (~~~e &&& g)) + kw
    let s0 := a.rotateRight 2 ^^^ a.rotateRight 13 ^^^ a.rotateRight 22
    [t1 + (s0 + ((a &&& b) ^^^ (a &&& c) ^^^ (b &&& c))), a, b, c, d + t1, e, f, g]
  | _ => h

/-- The compression of one block of 64 bytes. -/
def sha256Block (h : List W32) (bs : List Byte) : List W32 :=
  let words := (List.range 16).map fun i => BitVec.ofNat 32 (((bs.drop (4 * i)).take 4).foldl (fun w b => 256 * w + b.toNat) 0)
  let ws := (schedule256 48 words.reverse).reverse
  let r := (List.zipWith (fun k w => k + w) ((upperHalves shaK).take 64) ws).foldl sha256Round h
  List.zipWith (fun a b => a + b) h r

/-- Compress n blocks. -/
def sha256Blocks : Nat → List W32 → List Byte → List W32
  | 0, h, _ => h
  | n + 1, h, bs => sha256Blocks n (sha256Block h (bs.take 64)) (bs.drop 64)

/-- SHA-256: 32 bytes. -/
def sha256 (m : List Byte) : List Byte :=
  let zeros := (64 - (m.length + 9) % 64) % 64
  let p := m ++ [0x80#8] ++ List.replicate zeros 0 ++ beBytes (BitVec.ofNat 64 (8 * m.length))
  (sha256Blocks (p.length / 64) (upperHalves sha512Init) p).flatMap beBytes4

/-! ### RSA-3072 (FIPS 186-5, A.1.3) -/

/-- Blocks of an HMAC_DRBG's output: the value after them, and the bytes. -/
def drbgBlocks (k : List Byte) : Nat → List Byte → List Byte × List Byte
  | 0, v => (v, [])
  | n + 1, v =>
    let v := hmac k v
    let r := drbgBlocks k n v
    (r.1, v ++ r.2)

/-- 192 bytes of an HMAC_DRBG and its next state (SP 800-90A). -/
def drbgDraw (st : List Byte × List Byte) : List Byte × (List Byte × List Byte) :=
  let r := drbgBlocks st.1 4 st.2
  let k := hmac st.1 (r.1 ++ [0])
  (r.2, (k, hmac k r.1))

/-- The public exponent. -/
def rsaExponent : Nat := 65537

/-- Whether the probable-prime test passes: a prime always does; whether another number does is left open, for the spec names
neither the rounds of the test nor their bases (DESIGN CHOICE, log 20). -/
def testsPrime (n : Nat) : Bool :=
  decide (2 ≤ n ∧ ∀ d < n, 2 ≤ d → n % d ≠ 0) || Config.passesPrimeTest n

/-- The first candidate of an HMAC_DRBG that a factor may be: 1,536 bits made odd, not below sqrt 2 times 2^1535, not near the
other factor, with p - 1 prime to the exponent, and passing the test. -/
def rsaFactor (far : Nat → Bool) : Nat → List Byte × List Byte → Option (Nat × (List Byte × List Byte))
  | 0, _ => none
  | n + 1, st =>
    let r := drbgDraw st
    let x : Nat := r.1.foldl (fun w b => 256 * w + b.toNat) 0
    let p := if x % 2 = 0 then x + 1 else x
    if 3071 ≤ Nat.log2 (p * p) ∧ far p ∧ Nat.gcd (p - 1) rsaExponent = 1 ∧ testsPrime p then some (p, r.2)
    else rsaFactor far n r.2

/-- The two factors that a DRBG generates. The standard gives up after a number of candidates that no seed reaches
(DESIGN CHOICE, log 20). -/
def rsaFactors (st : List Byte × List Byte) : Option (Nat × Nat) :=
  match rsaFactor (fun _ => true) 15360 st with
  | none => none
  | some (p, st) => (rsaFactor (fun q => decide (1436 ≤ Nat.log2 (max p q - min p q - 1))) 30720 st).map fun r => (p, r.1)

/-! ### SLH-DSA-SHA2-256s (FIPS 205) -/

/-- A compressed address (FIPS 205, 11.2): layer, tree, type and three words. -/
structure SlhAdrs where
  layer : Nat := 0
  tree : Nat := 0
  kind : Nat := 0
  pair : Nat := 0
  chain : Nat := 0
  hash : Nat := 0
  deriving DecidableEq, Repr

/-- The n big-endian bytes of a number. -/
def beNum (n v : Nat) : List Byte := (leBytes n v).reverse

/-- The 22 bytes of a compressed address. -/
def SlhAdrs.bytes (a : SlhAdrs) : List Byte :=
  beNum 1 a.layer ++ beNum 8 a.tree ++ beNum 1 a.kind ++ beNum 4 a.pair ++ beNum 4 a.chain ++ beNum 4 a.hash

/-- F and PRF: SHA-256 over the padded PK.seed, the address and a value of 32 bytes. -/
def slhF (pk : List Byte) (a : SlhAdrs) (m : List Byte) : List Byte :=
  (sha256 (pk ++ List.replicate 32 0 ++ a.bytes ++ m)).take 32

/-- H and T_l: SHA-512 over the padded PK.seed, the address and the values. -/
def slhH (pk : List Byte) (a : SlhAdrs) (m : List Byte) : List Byte :=
  (sha512 (pk ++ List.replicate 96 0 ++ a.bytes ++ m)).take 32

/-- A WOTS+ chain of n steps from step i. -/
def slhChain (pk : List Byte) (a : SlhAdrs) : Nat → Nat → List Byte → List Byte
  | 0, _, x => x
  | n + 1, i, x => slhChain pk a n (i + 1) (slhF pk { a with hash := i } x)

/-- The WOTS+ public key of key pair k in the tree of an address: 67 chains of 15 steps. -/
def slhLeaf (sk pk : List Byte) (a : SlhAdrs) (k : Nat) : List Byte :=
  let ends := (List.range 67).flatMap fun i =>
    slhChain pk { a with kind := 0, pair := k, chain := i, hash := 0 } 15 0
      (slhF pk { a with kind := 5, pair := k, chain := i, hash := 0 } sk)
  slhH pk { a with kind := 1, pair := k, chain := 0, hash := 0 } ends

/-- Node i at height z of the XMSS tree of an address. -/
def slhNode (sk pk : List Byte) (a : SlhAdrs) : Nat → Nat → List Byte
  | 0, i => slhLeaf sk pk a i
  | z + 1, i =>
    slhH pk { a with kind := 2, pair := 0, chain := z + 1, hash := i } (slhNode sk pk a z (2 * i) ++ slhNode sk pk a z (2 * i + 1))

/-- PK.root: the root of the one tree of the top layer, 7, of height 8. -/
def slhRoot (sk pk : List Byte) : List Byte := slhNode sk pk { layer := 7 } 8 0

end Sys2Proof.Machine
end

