-- ==== Sys2Proof/Machine/Identity.lean ====
section
/-! DEFINITION. The device's identity (03 R66, 04 R72) and the keys that derive from a context key (04 R71, R72), from a device
seed and by the algorithms that the spec names. -/

namespace Sys2Proof.Machine

/-- The 32 bytes of a key. -/
def keyBytes (k : BitVec 256) : List Byte := leBytes 32 k.toNat

/-- A key of 32 bytes. -/
def keyOf (bs : List Byte) : BitVec 256 := BitVec.ofNat 256 (leNat bs)

/-! ### The identity keys (03 R66) -/

/-- The HMAC_DRBG that generates the RSA key of a seed (R66 item 1). -/
def identityDrbg (seed : BitVec 256) : List Byte × List Byte := drbg (hkdf (keyBytes seed) (ascii "Nymtos496 id rsa") 48)

/-- SK.seed, SK.prf and PK.seed of a seed (R66 item 2). -/
def slhSeeds (seed : BitVec 256) : List Byte := hkdf (keyBytes seed) (ascii "Nymtos496 id slh") 96

/-- The modulus of the RSA-3072 identity key. -/
def identityModulus (seed : BitVec 256) : Nat :=
  match rsaFactors (identityDrbg seed) with
  | some (p, q) => p * q
  | none => 0

/-- The RSA-3072 identity public key: modulus and exponent, laid out as the owner's key is (DESIGN CHOICE, log 20). -/
def identityKey (seed : BitVec 256) : List Byte := leBytes 384 (identityModulus seed) ++ leBytes 4 rsaExponent

/-- The SLH-DSA-SHA2-256s identity public key, 64 bytes: PK.seed and PK.root. -/
def slhPublic (seed : BitVec 256) : List Byte :=
  let s := slhSeeds seed
  s.drop 64 ++ slhRoot (s.take 32) (s.drop 64)

/-- The device digest (01 R21): SHA-384 of the RSA identity public key. -/
def deviceDigest (seed : BitVec 256) : BitVec 384 := BitVec.ofNat 384 (leNat (sha384 (identityKey seed)))

/-- The RSA-3072 signature with SHA-384 under the identity key: 384 bytes. -/
def rsaSignature (seed : BitVec 256) (m : List Byte) : List Byte :=
  let r := identityDrbg seed
  leBytes 384 (Config.rsaSign (BitVec.ofNat 384 (leNat r.1)) (BitVec.ofNat 384 (leNat r.2)) m).toNat

/-- Bytes of a SLH-DSA-SHA2-256s signature. -/
def slhBytes : Nat := 29792

/-- The SLH-DSA-SHA2-256s signature under the identity key: 29,792 bytes. -/
def slhSignature (seed : BitVec 256) (m : List Byte) : List Byte :=
  leBytes slhBytes (Config.slhSign (BitVec.ofNat 768 (leNat (slhSeeds seed))) m).toNat

/-- Bytes with the two identity signatures over them (R67; 04 R73, R78). -/
def withSignatures (seed : BitVec 256) (b : List Byte) : List Byte := b ++ rsaSignature seed b ++ slhSignature seed b

/-! ### ML-KEM-1024 and key records (04 R72) -/

/-- The seeds d and z of the chip's ML-KEM-1024 key pair (R72). -/
def kemSeeds (seed : BitVec 256) : List Byte × List Byte :=
  let s := hkdf (keyBytes seed) (ascii "Nymtos496 id kem") 64
  (s.take 32, s.drop 32)

/-- The encapsulation key, 1,568 bytes. -/
def encapsKey (seed : BitVec 256) : List Byte := kemEncapsKey (kemSeeds seed).1

/-- The keys that a key record delivers: the context key and the fabric key, which is zero when flag [0] is clear; none when
an unwrap fails (R72). -/
def unwrapRecord (seed : BitVec 256) (r : List Byte) : Option (BitVec 256 × BitVec 256) :=
  let part (off n : Nat) : List Byte := (r.drop off).take n
  let d := kemSeeds seed
  let secret := kemDecaps d.1 d.2 (part 0x10 1568)
  let kek := hkdf secret (ascii "Nymtos496 kw" ++ part 4 8) 32
  match keyUnwrap kek (part 0x630 40) with
  | none => none
  | some k =>
    if leNat (part 0xA 2) % 2 = 0 then some (keyOf k, 0)
    else (keyUnwrap kek (part 0x658 40)).map fun f => (keyOf k, keyOf f)

/-! ### Subkeys (04 R71) -/

/-- The four subkeys that a Weir derives from a context key. -/
structure Subkeys where
  xtsData : List Byte
  xtsTweak : List Byte
  sectorMac : List Byte
  saveSeal : List Byte
  deriving DecidableEq, Repr

/-- The subkeys of a context key, for its context and generation (R71). -/
def subkeys (key : BitVec 256) (ctx : BitVec 20) (gen : BitVec 8) : Subkeys :=
  let tail := leBytes 4 ctx.toNat ++ [gen]
  let one (info : String) : List Byte := hkdf (keyBytes key) (ascii info ++ tail) 32
  { xtsData := one "xts data", xtsTweak := one "xts tweak", sectorMac := one "sector mac", saveSeal := one "save seal" }

end Sys2Proof.Machine
end

