-- ==== Sys2Proof/Machine/Frames.lean ====
section
/-! DEFINITION. Frames (10 R170, R175, R184, R191; 04 R71, R74): the fields of a leaf, the tiers, bytes with granule tags and
poison, the counters and the stored form of encrypted frames, and host-memory pages (11 R208). -/

namespace Sys2Proof.Machine

/-! ### Fields of a leaf (10 R175) -/

/-- The crypto mode of a leaf. -/
def leafMode (w : W64) : Nat := bits w 59 58
/-- The PTAG of a leaf. -/
def leafPtag (w : W64) : BitVec 20 := w.extractLsb' 33 20
/-- The frame that a leaf names, with its tier: frames of different tiers are different (10 R184). -/
def leafFrame (w : W64) : Nat := bits w 32 0
/-- The tier of a leaf. -/
def leafTier (w : W64) : Nat := bits w 32 31
/-- The metadata placement of a leaf. -/
def leafPlace (w : W64) : Nat := bits w 54 53
/-- The compression scheme of a leaf (10 R185). -/
def leafComp (w : W64) : Nat := bits w 57 55
/-- The write-protect bit of a leaf. -/
def leafProtected (w : W64) : Bool := w.getLsbD 62

/-- Malformed(leaf) at a Weir (10 R175). -/
def leafMalformed (w : W64) (slice : Nat) : Bool :=
  decide (4 ≤ leafComp w) || leafPlace w == 3 || leafTier w == 3 || leafFrame w % 128 != slice
    || (leafMode w == 2 && leafPlace w != 1) || (leafTier w == 2 && leafPlace w != 2)
    || (leafTier w == 2 && (leafMode w == 2 || leafComp w != 0))

/-! ### Tiers (10 R184) -/

/-- The frame of main memory with a number: its tier is DRAM-backed. -/
def dramFrame (n : Nat) : Nat := 2 ^ 31 + n

/-- The number of a frame, without its tier. -/
def frameNumber (f : Nat) : Nat := f % 2 ^ 31

/-- The tier of a frame. -/
def frameTier (f : Nat) : Nat := f / 2 ^ 31

/-- The frames of a slice's main memory that contexts may use: a die's 360 GiB less its firmware region of 512 MiB, over 32
slices (01 R11, 03 R57) (DESIGN CHOICE, log 91). -/
def contextFrames : Nat := 184064

/-- The frames of a tier in a slice (10 R184) (DESIGN CHOICE, log 91). -/
def tierFrames (tier slice : Nat) : Nat :=
  if tier = 0 then 512 else if tier = 1 then contextFrames else Config.hostFrames slice

/-! ### Bytes, tags and poison (10 R170, R191) -/

/-- A frame's metadata. -/
def State.frameMeta (s : State) (f : Nat) : FrameMeta := Sparse.get {} s.trust.frames f

/-- Whether a frame holds data: a frame that is not bound reads zero in any crypto mode (04 R74). What the host wrote to a
host-memory page is there without a write of the device (11 R208) (DESIGN CHOICE, log 91). -/
def State.frameHeld (s : State) (f : Nat) : Bool := (s.frameMeta f).bound || frameTier f == 2

/-- A byte of a frame (DESIGN CHOICE, log 7). A host write to a line that the device holds cached is seen only after a
discard; until then a read may give the older value or the newer one (11 R208 item 4) (DESIGN CHOICE, log 91). -/
def State.frameByte (s : State) (f off : Nat) : Byte :=
  if !s.frameHeld f then 0
  else
    let old := Sparse.get 0 s.mem.bytes (f * 65536 + off)
    match Sparse.get none s.mem.hostNew (f * 65536 + off) with
    | none => old
    | some b => if Config.freeBool s.free then b else old

/-- The little-endian number of n bytes of a frame (DESIGN CHOICE, log 54). -/
def State.frameNat (s : State) (f off : Nat) : Nat → Nat
  | 0 => 0
  | n + 1 => (s.frameByte f off).toNat + 256 * State.frameNat s f (off + 1) n

/-- Whether some sector of n bytes of a frame is poisoned. -/
def State.framePoisoned (s : State) (f off n : Nat) : Bool :=
  s.frameHeld f
    && (List.range ((off + n + 31) / 32 - off / 32)).any fun k => Sparse.get false s.mem.poison (f * 2048 + off / 32 + k)

/-- The granule tag at an aligned offset. -/
def State.frameTag (s : State) (f off : Nat) : Bool :=
  s.frameHeld f && Sparse.get false s.mem.tags (f * 4096 + off / 16)

/-- The (offset, byte) pairs of a little-endian value of n bytes at an offset. -/
def byteList (off n v : Nat) : List (Nat × Byte) :=
  (List.range n).map fun i => (off + i, BitVec.ofNat 8 (v / 256 ^ i))

/-- The sectors that bytes cover whole. -/
def wholeSectors (offs : List Nat) : List Nat :=
  ((offs.map fun o => o / 32).eraseDups).filter fun k => (List.range 32).all fun i => offs.contains (32 * k + i)

/-- Forget a frame's contents. -/
def MemState.clearFrame (m : MemState) (f : Nat) : MemState :=
  { m with
    bytes := Sparse.clearRange m.bytes (f * 65536) (f * 65536 + 65536)
    tags := Sparse.clearRange m.tags (f * 4096) (f * 4096 + 4096)
    poison := Sparse.clearRange m.poison (f * 2048) (f * 2048 + 2048)
    stale := Sparse.clearRange m.stale (f * 2048) (f * 2048 + 2048)
    minors := Sparse.clearRange m.minors (f * 2048) (f * 2048 + 2048)
    majors := Sparse.clearRange m.majors (f * 16) (f * 16 + 16)
    schemes := Sparse.set 0 m.schemes f 0
    forms := Sparse.clearRange m.forms (f * 512) (f * 512 + 512) }

/-! ### Keys and the stored form (04 R71, R74) -/

/-- A key slot. -/
def State.keySlot (s : State) (n : Nat) : KeySlot := Sparse.get {} s.trust.slots n

/-- The key of a generation of a slot: the current one or the previous one. -/
def KeySlot.keyOfGen (k : KeySlot) (gen : BitVec 8) : BitVec 256 :=
  match k.prev with
  | some (g, key) => if gen = k.gen then k.key else if gen = g then key else 0
  | none => if gen = k.gen then k.key else 0

/-- The subkeys of a slot's current key (04 R71). -/
def KeySlot.subkeys (k : KeySlot) : Subkeys := Sys2Proof.Machine.subkeys k.key k.ctx k.gen

/-- The subkeys under which a frame is read and written: those of its generation (04 R71, R75). -/
def State.frameSubkeys (s : State) (f : Nat) : Subkeys :=
  let m := s.frameMeta f
  let k := s.keySlot m.slot.toNat
  subkeys (k.keyOfGen m.gen) k.ctx m.gen

/-- The XTS tweak of sector k of a frame (04 R74). -/
def sectorTweak (chip : BitVec 12) (f k : Nat) : Nat := k + 2 ^ 11 * frameNumber f + 2 ^ 42 * chip.toNat

/-- The plaintext of a line. -/
def State.linePlain (s : State) (f n : Nat) : List Byte := (List.range 128).map fun i => s.frameByte f (128 * n + i)

/-- The sectors of a line as the compression path leaves them, in the form that its last write chose (10 R185). -/
def State.lineStored (s : State) (f n : Nat) : List (Option (List Byte)) :=
  storedLine (Sparse.get 0 s.mem.forms (f * 512 + n)).toNat (s.linePlain f n)

/-- What the tier holds of a sector: nothing for one that is not transferred, and in the encrypted modes one AES-256-XTS data
unit over the compressed sector (04 R74, 10 R185) (DESIGN CHOICE, log 22). -/
def State.sectorStored (s : State) (f k : Nat) : List Byte :=
  match ((s.lineStored f (k / 4))[k % 4]?).join with
  | none => []
  | some p =>
    if (s.frameMeta f).mode = 0 then p
    else
      let keys := s.frameSubkeys f
      xtsEnc keys.xtsData keys.xtsTweak (sectorTweak s.fab.self f k) p

/-- The metadata word of a sector in mode encrypted with integrity and replay (04 R74 item 1): the first 56 bits of the
CMAC over ciphertext, tweak and counters, and the minor counter (DEDUCED, log 78). It covers the stored form (10 R185). -/
def State.sectorWord (s : State) (f k : Nat) : W64 :=
  let minor := Sparse.get 0 s.mem.minors (f * 2048 + k)
  let major := Sparse.get 0 s.mem.majors (f * 16 + k / 128)
  let text := s.sectorStored f k ++ leBytes 16 (sectorTweak s.fab.self f k) ++ leBytes 7 major.toNat ++ [minor]
  BitVec.ofNat 64 (leNat ((cmac (s.frameSubkeys f).sectorMac text).take 7) * 256 + minor.toNat)

/-- Counter blocks are numbered within a Weir: two to a frame, eight major counters each. -/
def blockNumber (f region : Nat) : Nat := frameNumber f / 128 * 2 + region / 8

/-- The parent counter of counter block b of a slice, at level 0 of the tree (DESIGN CHOICE, log 22). -/
def parentKey (slice level b : Nat) : Nat := (slice * 8 + level) * 2 ^ 24 + b / 8 ^ level

/-- A counter block (04 R74): eight major counters, and a 64-bit CMAC over them and the block's parent counter
(DEDUCED, log 78). -/
def State.counterBlock (s : State) (f half : Nat) : List Byte :=
  let majors := (List.range 8).flatMap fun i => leBytes 7 (Sparse.get 0 s.mem.majors (f * 16 + 8 * half + i)).toNat
  let parent := Sparse.get 0 s.mem.tree (parentKey (f % 128) 0 (blockNumber f (8 * half)))
  majors ++ (cmac (s.frameSubkeys f).sectorMac (majors ++ leBytes 7 parent.toNat)).take 8

/-- A counter block changed: the parent counters above it advance, up to the root block in the Weir
(DESIGN CHOICE, log 22). -/
def MemState.treeStep (m : MemState) (f region : Nat) : MemState :=
  let sl := f % 128
  let b := blockNumber f region
  let up (t : Sparse (BitVec 56)) (k : Nat) : Sparse (BitVec 56) := Sparse.set 0 t k (Sparse.get 0 t k + 1)
  { m with tree := (List.range 6).foldl (fun t l => up t (parentKey sl l b)) m.tree, roots := up m.roots (sl * 8 + b / 8 ^ 6 % 8) }

/-- A write of a sector in mode encrypted with integrity and replay: its minor counter advances; when it would pass 255 the
region's major counter does, and every sector of the region is encrypted anew under minor counters that start again
(04 R74) (DEDUCED, log 78). -/
def MemState.countWrite (m : MemState) (f k : Nat) : MemState :=
  let i := f * 2048 + k
  let n := Sparse.get 0 m.minors i
  if n.toNat < 255 then { m with minors := Sparse.set 0 m.minors i (n + 1) }
  else
    let r := f * 16 + k / 128
    ({ m with
      minors := Sparse.clearRange m.minors (128 * r) (128 * r + 128)
      majors := Sparse.set 0 m.majors r (Sparse.get 0 m.majors r + 1) } : MemState).treeStep f (k / 128)

/-- The roots that a Weir rebuilds from the counter blocks in memory, when a slot that a warm reset destroyed is loaded again
(04 R74) (DESIGN CHOICE, log 22). -/
def MemState.rebuildRoots (m : MemState) : MemState :=
  { m with roots := (m.tree.filter fun e => e.1 / 2 ^ 24 % 8 == 5).foldl (fun (r : Sparse (BitVec 56)) e =>
      let k := e.1 / 2 ^ 27 * 8 + e.1 % 2 ^ 24 / 8 % 8
      Sparse.set 0 r k (Sparse.get 0 r k + e.2)) [] }

/-! ### Writing -/

/-- A write to a host-memory page is passed to the host, in its stored form (11 R208 item 1). -/
def State.tellHost (s : State) (f : Nat) (offs : List Nat) : State :=
  if frameTier f ≠ 2 then s
  else
    let bytes := if (s.frameMeta f).mode = 0 then offs.map fun o => (o, s.frameByte f o)
      else ((offs.map fun o => o / 32).eraseDups).flatMap fun k =>
        (List.range 32).map fun i => (32 * k + i, (s.sectorStored f k).getD i 0)
    { s with outbox := s.outbox ++ [.hostPage f bytes] }

/-- Sectors of a frame are read, and those whose metadata word no longer matches fail: a repeat from DRAM fails too, so they are
poisoned, with a record for each (04 R74, 13 R236). -/
def State.checkStale (s : State) (f : Nat) (hit : Nat → Bool) : State :=
  let bad := (s.mem.stale.filter fun e => e.2 && e.1 / 2048 == f && hit (e.1 % 2048)).map Prod.fst
  let s := bad.foldl (fun (s : State) k =>
    s.contain (f % 128 / 32) 0x0401 2 1 2 (f % 128) (some (BitVec.ofNat 31 f)) (k % 2048) 0xFFFF 0 0 0 0 0) s
  { s with mem := { s.mem with
      stale := Sparse.setAll false s.mem.stale (bad.map fun k => (k, false))
      poison := Sparse.setAll false s.mem.poison (bad.map fun k => (k, true)) } }

/-- Whether a gang of this chip waits for a word (15 R271). -/
def State.awaited (s : State) : Bool :=
  s.groups.any fun e => match e.2 with
    | some g => g.waits != []
    | none => false

/-- The writes that are kept for the waits of this chip, with one more (15 R271). -/
def State.touching (s : State) (t : Touch) : List Touch := if s.awaited then s.mem.touched ++ [t] else s.mem.touched

/-- The lines that a write touched are stored in the form of the frame's scheme where they fit it, else plain (10 R185). -/
def State.storeForms (s : State) (f : Nat) (offs : List Nat) : State :=
  let scheme := (Sparse.get 0 s.mem.schemes f)
  let form (n : Nat) : BitVec 3 := if scheme ≠ 0 ∧ lineFits scheme.toNat (s.linePlain f n) then scheme else 0
  { s with mem := { s.mem with
      forms := Sparse.setAll 0 s.mem.forms (((offs.map fun o => o / 128).eraseDups).map fun n => (f * 512 + n, form n)) } }

/-- Write bytes of a frame: (offset, byte) pairs. Every granule touched loses its tag, every sector that the writes cover whole
loses its poison (10 R170 item 2, R191 item 1), and the counters of integrity mode advance (04 R74). -/
def State.writeFrame (s : State) (f : Nat) (w : List (Nat × Byte)) : State :=
  let offs := w.map Prod.fst
  let s := s.checkStale f fun k => offs.any (fun o => o / 32 == k) && !(wholeSectors offs).contains k
  let granules := (offs.map fun o => f * 4096 + o / 16).eraseDups
  let m := { s.mem with
    touched := s.touching { stash := false, place := f, bytes := offs }
    bytes := Sparse.setAll 0 s.mem.bytes (w.map fun e => (f * 65536 + e.1, e.2))
    tags := Sparse.setAll false s.mem.tags (granules.map fun k => (k, false))
    poison := Sparse.setAll false s.mem.poison ((wholeSectors offs).map fun k => (f * 2048 + k, false))
    stale := Sparse.setAll false s.mem.stale ((wholeSectors offs).map fun k => (f * 2048 + k, false))
    hostNew := Sparse.setAll none s.mem.hostNew (offs.map fun o => (f * 65536 + o, none)) }
  let m := if (s.frameMeta f).mode = 2 then ((offs.map fun o => o / 32).eraseDups).foldl (fun (m : MemState) k => m.countWrite f k) m
    else m
  (({ s with mem := m } : State).storeForms f offs).tellHost f offs

/-! ### Host-memory pages (11 R208) -/

/-- The host module that reaches a die's host-memory areas: those of dies 1 and 3 are reached through dies 0 and 2
(10 R184). -/
def moduleOf (die : Nat) : Nat := if die < 2 then 0 else 1

/-- Whether a frame can be reached: one of host memory over a host module that carries traffic (DESIGN CHOICE, log 91). -/
def State.tierReached (s : State) (f : Nat) : Bool := frameTier f != 2 || s.pkg.trained.getLsbD (moduleOf (f % 128 / 32))

/-- The device caches lines of a host-memory page that it reads or writes, for the context of their object. -/
def State.cacheHost (s : State) (ctx : BitVec 20) (f off n : Nat) : State :=
  if frameTier f ≠ 2 then s
  else
    let lines := (List.range ((off % 65536 + n + 127) / 128 - off % 65536 / 128)).map fun i => (f * 512 + off % 65536 / 128 + i, some ctx)
    { s with mem := { s.mem with hostCached := Sparse.setAll none s.mem.hostCached lines } }

/-- The slice discards its clean lines of the host-memory pages of a context: what the host wrote meanwhile is seen
(11 R208 item 3). Every such line is clean, since a write is passed to the host before it is accepted (item 1). -/
def MemState.discardHost (m : MemState) (ctx : BitVec 20) : MemState :=
  let mine (k : Nat) : Bool := Sparse.get none m.hostCached (k / 128) == some ctx
  let new := m.hostNew.filterMap fun e => if mine e.1 then e.2.map fun b => (e.1, b) else none
  { m with
    bytes := Sparse.setAll 0 m.bytes new, hostNew := m.hostNew.filter fun e => !mine e.1
    hostCached := m.hostCached.filter fun e => e.2 != some ctx }

/-- The plaintext bytes that host writes to a frame leave: in mode encrypted what the host wrote is taken as ciphertext. -/
def State.hostPlain (s : State) (f : Nat) (w : List (Nat × Byte)) : List (Nat × Byte) :=
  if !(s.frameMeta f).bound || (s.frameMeta f).mode == 0 then w
  else
    let keys := s.frameSubkeys f
    (((w.map Prod.fst).map fun o => o / 32).eraseDups).flatMap fun k =>
      let old := s.sectorStored f k
      let unit := (List.range 32).map fun i => ((w.find? fun e => e.1 == 32 * k + i).map Prod.snd).getD (old.getD i 0)
      let plain := xtsDec keys.xtsData keys.xtsTweak (sectorTweak s.fab.self f k) unit
      (List.range 32).map fun i => (32 * k + i, plain.getD i 0)

/-- What host memory holds of the host-memory pages, when the device forgets its keys and metadata: encrypted pages in their
stored form, and what the host wrote and no discard has shown yet. -/
def State.hostImage (s : State) : Memory :=
  let far (k : Nat) : Bool := frameTier (k / 65536) == 2
  let sealed := (s.trust.frames.filter fun e => frameTier e.1 == 2 && e.2.bound && e.2.mode != 0).flatMap fun e =>
    (List.range 65536).map fun i => (e.1 * 65536 + i, (s.sectorStored e.1 (i / 32)).getD (i % 32) 0)
  let late := s.mem.hostNew.filterMap fun e => e.2.map fun b => (e.1, b)
  Sparse.setAll 0 (Sparse.setAll 0 (s.mem.bytes.filter fun e => far e.1) late) sealed

/-- A host write to a frame of host memory (11 R208 item 4): bytes of lines that the device does not hold are there at once,
and the others wait for a discard (DESIGN CHOICE, log 91). -/
def State.hostStore (s : State) (f : Nat) (w : List (Nat × Byte)) : State :=
  let w := (s.hostPlain f w).map fun e => (f * 65536 + e.1, e.2)
  let cached (k : Nat) : Bool := (Sparse.get none s.mem.hostCached (k / 128)).isSome
  { s with mem := { s.mem with
      bytes := Sparse.setAll 0 s.mem.bytes (w.filter fun e => !cached e.1)
      hostNew := Sparse.setAll none s.mem.hostNew ((w.filter fun e => cached e.1).map fun e => (e.1, some e.2))
      tags := Sparse.setAll false s.mem.tags (((w.map fun e => e.1 / 16).eraseDups).map fun k => (k, false)) } }

end Sys2Proof.Machine
end

