-- ==== Sys2Proof/Machine/Gateway.lean ====
section
/-! DEFINITION. The source gateway: the sending side of the sequence windows (02 R37) on the planes of R27 and R28. -/

namespace Sys2Proof.Machine

/-- The clock by which the windows of a plane are timed: that of its die. -/
def State.planeTick (s : State) (p : Nat) : W64 := s.dieClock p

/-- The place by which a page fault is known here: the object and page, and for an object of another chip that chip above the
page, which is below 2^24 (DESIGN CHOICE, log 69). -/
def State.pagePlace (s : State) (home : BitVec 12) (o : BitVec 28) (page : Nat) : BitVec 28 × Nat :=
  (o, if home = s.fab.self then page else page + 2 ^ 24 * (home.toNat + 1))

/-- The sending window of a pair. -/
def State.txOf (s : State) (k : PairKey) : TxWindow := ((s.fab.tx.find? fun e => e.1 == k).map Prod.snd).getD {}

/-- Store a sending window. -/
def State.putTx (s : State) (k : PairKey) (w : TxWindow) : State :=
  { s with fab := { s.fab with tx := (k, w) :: s.fab.tx.filter fun e => e.1 != k } }

/-- Whether a plane joins this chip and another (02 R27, R28). -/
def State.joint (s : State) (chip : BitVec 12) (p : BitVec 2) : Bool := s.planeUp p.toNat && (s.planesOf chip).getLsbD p.toNat

/-- Whether the packets that an old window had sent at a change of plane are acknowledged, or its pair broke
(02 R37 item 5). -/
def State.passed (s : State) (e : PairKey × BitVec 16 × BitVec 3) : Bool :=
  let w := s.txOf e.1
  w.epoch != e.2.2 || decide ((w.oldest - e.2.1).toNat < 32768)

/-- Whether the window of 512 has room for a packet and nothing waits for the pair (02 R37 item 1). -/
def TxWindow.free (w : TxWindow) : Bool := decide (w.queue = [] ∧ w.next - w.oldest < 512)

/-- Send one packet of a pair: a sequence number and the epoch are given and it leaves on a port; none while the window is
full, an old window is not acknowledged, no plane joins the chips, or no port takes it. -/
def State.sendNow (s : State) (k : PairKey) (w : TxWindow) (p : Packet) : Option (State × TxWindow) :=
  if w.next - w.oldest < 512 ∧ s.joint k.chip k.plane ∧ w.after.all s.passed then
    let p := { p with seq := w.next, epoch := w.epoch, plane := k.plane, src := s.fab.self }
    let moved := if w.unacked = [] then s.planeTick k.plane.toNat else w.moved
    (s.emit p).map fun t => (t, { w with next := w.next + 1, unacked := w.unacked ++ [p], moved := moved, after := [] })
  else none

/-- Send a packet of a die, or let it wait for the pair: while it waits its plane field holds the die it comes from, which its
plane replaces when it leaves. -/
def State.pump (s : State) (die : Nat) (k : PairKey) (w : TxWindow) (p : Packet) : State :=
  match if w.queue = [] then s.sendNow k w p else none with
  | some (t, w) => t.putTx k w
  | none => s.putTx k { w with queue := w.queue ++ [{ p with plane := BitVec.ofNat 2 die }] }

/-- Send what waits for a pair, as far as it can leave (DESIGN CHOICE, log 74). -/
def State.drainPair (s : State) (k : PairKey) (w : TxWindow) : List Packet → State
  | [] => s.putTx k { w with queue := [] }
  | p :: ps =>
    match s.sendNow k w p with
    | some (t, w) => State.drainPair t k w ps
    | none => s.putTx k { w with queue := p :: ps }

/-- A pair restarts at sequence 0 with the next epoch (02 R37 item 5): its windows of both classes. What waits in them
stays. -/
def State.restartPair (s : State) (chip : BitVec 12) (plane : BitVec 2) : State :=
  let k (c : BitVec 2) : PairKey := { chip := chip, plane := plane, cls := c }
  let e := (s.txOf (k 0)).epoch + 1
  let again (s : State) (c : BitVec 2) : State := s.putTx (k c) { next := 0, oldest := 0, epoch := e, queue := (s.txOf (k c)).queue }
  again (again s 0) 1

/-- The plane that a die's traffic to a chip took last. -/
def State.viaOf (s : State) (die : Nat) (chip : BitVec 12) : Option (BitVec 2) := Sparse.get none s.fab.via (4 * chip.toNat + die)

/-- Move one class of a die's traffic from its old plane to a new one: nothing more of that die is issued on the old plane, so
what it still had waiting there waits for the new one, and the new window waits for what the old one had sent
(02 R37 item 5) (DESIGN CHOICE, log 73). -/
def State.moveClass (s : State) (die : Nat) (chip : BitVec 12) (old new : BitVec 2) (cls : BitVec 2) : State :=
  let ko : PairKey := { chip := chip, plane := old, cls := cls }
  let kn : PairKey := { chip := chip, plane := new, cls := cls }
  let wo := s.txOf ko
  let wn := s.txOf kn
  let due := if wo.unacked = [] then [] else [(ko, wo.next, wo.epoch)]
  let mine := wo.queue.filter fun p => p.plane.toNat == die
  let tags := mine.map Packet.tag
  let s := s.putTx kn { wn with after := wn.after ++ due, queue := wn.queue ++ mine }
  let s := s.putTx ko { wo with queue := wo.queue.filter fun p => p.plane.toNat != die }
  if cls = 0 then
    { s with fab := { s.fab with asked := s.fab.asked.map fun e => if tags.contains e.1 then (e.1, e.2.1, kn) else e } }
  else s

/-- A die's traffic to a chip takes a plane: both classes of the pair move when it took another one before. -/
def State.takePlane (s : State) (die : Nat) (chip : BitVec 12) (new : BitVec 2) : State :=
  match s.viaOf die chip with
  | some old =>
    if old = new then s
    else
      let s := (s.moveClass die chip old new 0).moveClass die chip old new 1
      { s with fab := { s.fab with via := Sparse.set none s.fab.via (4 * chip.toNat + die) (some new) } }
  | none => { s with fab := { s.fab with via := Sparse.set none s.fab.via (4 * chip.toNat + die) (some new) } }

/-- The window that a packet from a die takes. -/
def State.pairFor (s : State) (die : Nat) (chip : BitVec 12) (cls : BitVec 2) : Option PairKey :=
  (s.planeTo die chip).map fun pl => { chip := chip, plane := pl, cls := cls }

/-- Move a pair on after an acknowledgement, a port or a plane has changed: what waits leaves; on a plane that no longer
joins the chips a pair whose packets are all acknowledged restarts (DESIGN CHOICE, log 73). -/
def State.movePair (s : State) (k : PairKey) : State :=
  let w := s.txOf k
  if s.joint k.chip k.plane then (if w.queue = [] then s else s.drainPair k w w.queue)
  else
    let other := s.txOf { k with cls := 1 - k.cls }
    if w.unacked = [] ∧ other.unacked = [] ∧ (w.next ≠ 0 ∨ other.next ≠ 0) then s.restartPair k.chip k.plane else s

/-- The dies whose traffic to a chip took a plane that another one now replaces: they move (02 R37 item 5). -/
def State.replane (s : State) : State :=
  (s.fab.via.map Prod.fst).foldl (fun (s : State) i =>
    match s.planeTo (i % 4) (BitVec.ofNat 12 (i / 4)) with
    | some pl => s.takePlane (i % 4) (BitVec.ofNat 12 (i / 4)) pl
    | none => s) s

/-- Move every pair on, and what waits without a window. -/
def State.movePairs (s : State) : State :=
  let s := s.replane
  (s.fab.tx.map Prod.fst).foldl (fun (s : State) k => s.movePair k) s.drainLoose

/-- The error record of a pair that no plane joins (02 R27 item 3): once for each change of a die map
(DESIGN CHOICE, log 64). -/
def State.noPlaneRecord (s : State) (die : Nat) (chip : BitVec 12) : State :=
  if s.fab.noPlane.contains chip then s
  else
    ({ s with fab := { s.fab with noPlane := chip :: s.fab.noPlane } } : State).contain die 0x0D0C 2 5 7 die none 0xFFFF
      0xFFFF 0 0 0 0 (chip.setWidth 64)

/-- Send a request or a response of class 0 or 1 from a die of this chip; false when no plane joins the chips. -/
def State.send (s : State) (die : Nat) (p : Packet) : State × Bool :=
  match s.pairFor die p.dst p.cls with
  | none => (s.noPlaneRecord die p.dst, false)
  | some k =>
    let s := s.takePlane die p.dst k.plane
    (s.pump die k (s.txOf k) p, true)

/-- A new packet tag, with who asked (02 R33 word 2). -/
def State.newTag (s : State) (a : Asker) (k : PairKey) : State × BitVec 16 :=
  ({ s with fab := { s.fab with nextTag := s.fab.nextTag + 1, asked := s.fab.asked ++ [(s.fab.nextTag, a, k)] } },
    s.fab.nextTag)

/-- Send a request with a tag of its own; none when no plane joins the chips, so that it completes UNREACH at once. -/
def State.ask (s : State) (die : Nat) (a : Asker) (p : Packet) : State × Option (BitVec 16) :=
  match s.pairFor die p.dst p.cls with
  | none => (s.noPlaneRecord die p.dst, none)
  | some k =>
    let r := (s.takePlane die p.dst k.plane).newTag a k
    (r.1.pump die k (r.1.txOf k) { p with tag := r.2 }, some r.2)

end Sys2Proof.Machine
end

