-- ==== Sys2Proof/Machine/Weir.lean ====
section
/-! DEFINITION. The Weir (10): homes, the object table and page map, translation, the Levee and its denial log, fault
queues, page copies, and the stash copies that it recalls. -/

namespace Sys2Proof.Machine

/-! ### Service requests (03 R52) -/

/-- Write a service request to the ring; while the ring is full it waits inside the device. -/
def State.serviceRequest (s : State) (fn : Nat) (die : Nat) (part : BitVec 16) (body : List Byte) : State :=
  let h := s.host
  let r : Service := { id := h.svcNext, function := BitVec.ofNat 8 fn, die := BitVec.ofNat 8 die, part := part,
                       body := body, tick := s.tickOf die }
  let bytes := leBytes 8 r.id.toNat ++ leBytes 1 fn ++ leBytes 1 die ++ leBytes 2 part.toNat ++ leBytes 4 0
    ++ (body ++ List.replicate 48 0).take 48
  if h.svcHead - h.svcTail = 256 ∨ h.svcWaiting ≠ [] then
    { s with host := { h with svcNext := h.svcNext + 1, svcWaiting := h.svcWaiting ++ [r] } }
  else
    { s with host := { h with svcNext := h.svcNext + 1, svcOpen := h.svcOpen ++ [r], svcHead := h.svcHead + 1,
                              svcRing := Sparse.set [] h.svcRing (h.svcHead.toNat % 256) bytes } }

/-- A context's descriptor. -/
def State.ctxOf (s : State) (n : BitVec 20) : Descriptor := Sparse.get {} s.trust.ctxs n.toNat

/-- Whether a partition runs a function host-assisted (03 R54). -/
def State.hostAssisted (s : State) (part : BitVec 16) (bit : Nat) : Bool :=
  (Sparse.get 0 s.host.mode part.toNat).getLsbD bit

/-- Whether any partition sets a bit: the rule of the device functions (03 R54). -/
def State.anyAssisted (s : State) (bit : Nat) : Bool := s.host.mode.any fun e => e.2.getLsbD bit

/-! ### Homes (10 R171, R172) -/

/-- The home die of an object. -/
def homeDie (o : BitVec 28) : Nat := o.toNat / 2 ^ 26

/-- The home slice of a page of an object. -/
def homeSlice (o : BitVec 28) (page : Nat) : Nat :=
  let i := o.toNat % 2 ^ 26
  let k := i ^^^ (i >>> 5) ^^^ (i >>> 10) ^^^ (i >>> 15) ^^^ (i >>> 20) ^^^ (i >>> 25)
  let k := k ^^^ page ^^^ (page >>> 5) ^^^ (page >>> 10) ^^^ (page >>> 15) ^^^ (page >>> 20)
  32 * homeDie o + k % 32

/-- A stash capability: object index 0 (10 R171). -/
def Cap.isStash (c : Cap) : Bool := c.object == 0

/-- Bits of the rights byte (10 R168). -/
def rR : BitVec 8 := 1
def rW : BitVec 8 := 2
def rX : BitVec 8 := 4
def rLC : BitVec 8 := 8
def rSC : BitVec 8 := 16
def rD : BitVec 8 := 32
def rE : BitVec 8 := 64
def rP : BitVec 8 := 128

/-- Whether a capability holds every right of a set. -/
def Cap.has (c : Cap) (r : BitVec 8) : Bool := c.rights &&& r == r

/-- The object that a request names at this chip: a multicast store names the one that the member's mapping gives
(02 R41), 0 for none. -/
def State.packetObject (s : State) (p : Packet) : BitVec 28 :=
  if p.opcode = 0x18 then Sparse.get 0 s.fab.mcMaps (p.group.toNat * 2 ^ 28 + p.object.toNat) else p.object

/-! ### The object table and the page map (10 R173-R175) -/

/-- An object table entry. -/
def State.objEntry (s : State) (o : BitVec 28) : ObjEntry := Sparse.get {} s.mem.objects o.toNat

def ObjEntry.valid (t : ObjEntry) : Bool := t.flags.getLsbD 32
def ObjEntry.isContext (t : ObjEntry) : Bool := t.flags.getLsbD 33
def ObjEntry.publishing (t : ObjEntry) : Bool := t.flags.getLsbD 34
/-- size - 1 in bytes. -/
def ObjEntry.last (t : ObjEntry) : Nat := bits t.sizeKey 63 24
def ObjEntry.slot (t : ObjEntry) : Nat := bits t.sizeKey 23 12
def ObjEntry.ctx (t : ObjEntry) : BitVec 20 := t.flags.setWidth 20

/-- The key of entry i of a table that an upper entry points to. -/
def tableKey (ptr : W64) (i : Nat) : Nat := (bits ptr 30 0 * 32 + bits ptr 35 31) * 256 + i

/-- Whether the sector that holds a table entry is poisoned: an entry is 8 bytes, 65,536 bytes to a frame. -/
def State.entryPoisoned (s : State) (key : Nat) : Bool :=
  Sparse.get false s.mem.poison (dramFrame (key / 8192) * 2048 + key % 8192 / 4)

/-- What a walk finds (10 R174): the leaf with its key, nothing, or poison (10 R183). -/
inductive Walk where
  | leaf (key : Nat) (w : W64)
  | missing
  | poison
  deriving DecidableEq, Repr

/-- Walk the three levels from a root (DESIGN CHOICE, log 76). -/
def State.walk (s : State) (root : W64) (off : Nat) : Walk :=
  if !root.getLsbD 63 then .missing
  else
    let k0 := tableKey root (off / 2 ^ 32 % 256)
    let e0 := Sparse.get 0 s.mem.tables k0
    if s.entryPoisoned k0 then .poison
    else if !e0.getLsbD 63 then .missing
    else
      let k1 := tableKey e0 (off / 2 ^ 24 % 256)
      let e1 := Sparse.get 0 s.mem.tables k1
      if s.entryPoisoned k1 then .poison
      else if !e1.getLsbD 63 then .missing
      else
        let k2 := tableKey e1 (off / 2 ^ 16 % 256)
        let e2 := Sparse.get 0 s.mem.tables k2
        if s.entryPoisoned k2 then .poison
        else if !e2.getLsbD 63 then .missing
        else .leaf k2 e2

/-! ### Crypto binding (04 R74, R75) -/

/-- The refusals of a translation. -/
inductive CryptoFault where
  | aliased
  | keyGone
  deriving DecidableEq, Repr

/-- Whether ERASE of a context is still busy (04 R76): a Weir may not yet have marked its slot destroyed
(DESIGN CHOICE, log 88). -/
def State.erasing (s : State) (ctx : BitVec 20) : Bool :=
  s.fw.busy && match s.fw.cmd with
    | some c => c.code == 0x14 && c.ctx == ctx
    | none => false

/-- CryptoBinding(leaf, t): none when it holds. The rows of 04 R74 are tested in the order of its table
(DESIGN CHOICE, log 88). -/
def State.cryptoFault (s : State) (w : W64) (t : ObjEntry) : Option CryptoFault :=
  let k := s.keySlot t.slot
  let m := s.frameMeta (leafFrame w)
  let enc := leafMode w == 1 || leafMode w == 2
  if leafMode w == 3 then some .aliased
  else if m.bound && (m.mode.toNat != leafMode w || m.slot.toNat != t.slot
      || (m.gen != k.gen && (k.prev.map Prod.fst) != some m.gen)) then some .aliased
  else if enc && (t.slot == 0 || k.ctx != t.ctx || k.ctx == 0) then some .keyGone
  else if enc && k.destroyed then
    (if s.erasing t.ctx && Config.freeBool s.free then none else some .keyGone)
  else none

/-- Bind a frame at its first accepted write; a write stores under the scheme of the leaf (10 R185). In mode encrypted with integrity and replay its counters start at zero
(04 R74). -/
def State.bindFrame (s : State) (w : W64) (t : ObjEntry) : State :=
  let f := leafFrame w
  let s := { s with mem := { s.mem with schemes := Sparse.set 0 s.mem.schemes f (BitVec.ofNat 3 (leafComp w)) } }
  if (s.frameMeta f).bound then s
  else
    let m : FrameMeta := { s.frameMeta f with bound := true, mode := BitVec.ofNat 2 (leafMode w),
                                              slot := BitVec.ofNat 12 t.slot, gen := (s.keySlot t.slot).gen }
    { s with
      trust := { s.trust with frames := Sparse.set {} s.trust.frames f m }
      mem := { s.mem with
        minors := Sparse.clearRange s.mem.minors (f * 2048) (f * 2048 + 2048)
        majors := Sparse.clearRange s.mem.majors (f * 16) (f * 16 + 16) } }

/-! ### Stash copies of mapped lines (10 R186) -/

/-- The 128 bytes of a stash line of a block. -/
def Block.lineBytes (b : Block) (line : Nat) : List (Nat × Byte) :=
  (List.range 128).map fun i => (128 * line + i, Sparse.get 0 b.stash (128 * line + i))

/-- The region of a block that holds a stash offset. -/
def Block.regionAt (b : Block) (off : Nat) : Option Region :=
  b.regions.find? fun r => decide (r.base ≤ off) && decide (off < r.base + r.length)

/-- Write back one dirty line to a frame, with its tags and poison. -/
def State.writeLineBack (s : State) (b : Block) (line f off : Nat) : State :=
  let s := s.writeFrame f ((b.lineBytes line).map fun e => (off + (e.1 - 128 * line), e.2))
  { s with mem := { s.mem with
      tags := Sparse.setAll false s.mem.tags ((List.range 8).map fun i =>
        (f * 4096 + off / 16 + i, Sparse.get false b.tags (8 * line + i)))
      poison := Sparse.setAll false s.mem.poison ((List.range 4).map fun i =>
        (f * 2048 + off / 32 + i, Sparse.get false b.poison (4 * line + i))) } }

/-- The present stash lines, over all blocks, that hold bytes of [off, off + n) of an object: (block, line, object
offset of the line). -/
def State.copiesOf (s : State) (o : BitVec 28) (off n : Nat) : List (Nat × Nat × Nat) :=
  s.disp.blocks.flatMap fun e =>
    match e.2 with
    | none => []
    | some b =>
      b.regions.flatMap fun r =>
        if r.cap.object == o && r.cap.home == s.fab.self then
          b.lines.filterMap fun l =>
            let at_ := r.cap.base.toNat + (128 * l.1 - r.base)
            if decide (r.base ≤ 128 * l.1) && decide (128 * l.1 < r.base + r.length) && l.2.isSome
              && decide (at_ < off + n) && decide (off < at_ + 128) then some (e.1, l.1, at_) else none
        else []

/-- Store a block. -/
def State.putBlock (s : State) (k : Nat) (b : Block) : State :=
  { s with disp := { s.disp with blocks := Sparse.set none s.disp.blocks k (some b) } }

/-- A block. -/
def State.block (s : State) (k : Nat) : Option Block := Sparse.get none s.disp.blocks k

/-- Recall one stash copy into its frame: dirty data are written back; a write drops the line, a read leaves it clean. -/
def State.recallLine (s : State) (f : Nat) (drop : Bool) (c : Nat × Nat × Nat) : State :=
  match s.block c.1 with
  | none => s
  | some b =>
    match Sparse.get none b.lines c.2.1 with
    | none => s
    | some l =>
      let s := if l.dirty then s.writeLineBack b c.2.1 f (c.2.2 % 65536) else s
      s.putBlock c.1 { b with lines := Sparse.set none b.lines c.2.1 (if drop then none else some { l with dirty := false }) }

/-- Recall every stash copy that a request touches, other than the asking line itself, given by block and line. -/
def State.recall (s : State) (o : BitVec 28) (off n f : Nat) (drop : Bool) (own : Option (Nat × Nat)) : State :=
  ((s.copiesOf o off n).filter fun c => some (c.1, c.2.1) != own).foldl (fun s c => s.recallLine f drop c) s

/-- The dirty stash copy that holds a byte of an object: its block, and the byte's offset in the allocation. -/
def State.dirtyCopy (s : State) (o : BitVec 28) (off : Nat) : Option (Block × Nat) :=
  (s.copiesOf o off 1).findSome? fun c =>
    match s.block c.1 with
    | none => none
    | some b => if ((Sparse.get none b.lines c.2.1).map StashLine.dirty).getD false then
        some (b, 128 * c.2.1 + (off - c.2.2)) else none

/-- A byte of an object as it now stands: that of a dirty stash copy, else that of the frame (10 R186, 11 R195). -/
def State.freshByte (s : State) (o : BitVec 28) (off f : Nat) : Byte :=
  match s.dirtyCopy o off with
  | some (b, a) => Sparse.get 0 b.stash a
  | none => s.frameByte f (off % 65536)

/-- Whether that byte lies in a poisoned sector. -/
def State.freshPoison (s : State) (o : BitVec 28) (off f : Nat) : Bool :=
  match s.dirtyCopy o off with
  | some (b, a) => Sparse.get false b.poison (a / 32)
  | none => s.framePoisoned f (off % 65536) 1

/-! ### The Levee (10 R181-R183) -/

/-- Whether a grant map capability can grant anything but PTAG 0. -/
def grantUsable (c : Cap) : Bool := c.tag && c.has rR && decide (131072 ≤ c.length.toNat)

/-- A grant-map bit that this chip holds; a bit that cannot be read reads as clear (10 R181) (DESIGN CHOICE, log 17). -/
def State.grantBit (s : State) (o : BitVec 28) (off bit : Nat) : Bool :=
  let t := s.objEntry o
  if !t.valid || decide (t.last < off) || !s.dieRuns (homeDie o) then false
  else
    match s.walk t.root off with
    | .missing => false
    | .poison => false
    | .leaf _ w =>
      if leafMalformed w (homeSlice o (off / 65536)) || (s.cryptoFault w t).isSome
        || !s.tierReached (leafFrame w) || s.freshPoison o off (leafFrame w) then false
      else (s.freshByte o off (leafFrame w)).getLsbD bit

/-- Whether the check of a request reads a grant map that another chip homes. A core's own context lines do not wait for one:
whether it grants them is left open (DESIGN CHOICE, log 17). -/
def State.grantAway (s : State) (q : Requester) (ptag : BitVec 20) : Bool :=
  q.checked && ptag != 0 && grantUsable q.grant && q.grant.home != s.fab.self && !q.ownLine

/-- The byte of the grant map that holds the bit of a PTAG (10 R181). -/
def Requester.grantOff (q : Requester) (ptag : BitVec 20) : Nat := q.grant.base.toNat + ptag.toNat / 8

/-- Whether a line that was read holds the bit of a PTAG. -/
def GrantRead.covers (r : GrantRead) (q : Requester) (ptag : BitVec 20) : Bool :=
  r.home == q.grant.home && r.object == q.grant.object && r.line == q.grantOff ptag / 128

/-- What is known of the line of another chip's grant map that holds the bit of a PTAG. -/
def State.grantRead (s : State) (q : Requester) (ptag : BitVec 20) : Option GrantRead :=
  s.mem.grants.find? fun r => r.covers q ptag

/-- Whether the check of a request still waits for another chip's grant map. -/
def State.grantUnknown (s : State) (q : Requester) (ptag : BitVec 20) : Bool :=
  s.grantAway q ptag && ((s.grantRead q ptag).bind GrantRead.answer).isNone

/-- A Levee reads a line of a grant map of another chip by a READ of its own, marked as such by its log kind
(10 R181, R182) (DESIGN CHOICE, log 17, 37). -/
def State.askGrant (s : State) (q : Requester) (ptag : BitVec 20) : State :=
  if (s.grantRead q ptag).isSome then s
  else
    let line := q.grantOff ptag / 128
    let k := s.ctxOf q.ctx
    let pk : Packet := { Packet.zero with
      opcode := 0x01, cls := 0, dst := q.grant.home, src := s.fab.self, object := q.grant.object, context := q.ctx
      grantHome := q.grant.home, grantObject := q.grant.object, keyGen := if k.prot then k.fabricGen else 0
      offset := BitVec.ofNat 40 (line / 2 * 256), mask := 0x0F#8 <<< (line % 2 * 4), inline0 := 8 }
    let die := if q.chip = s.fab.self then dieOf q.core else ((List.range 4).find? s.dieRuns).getD 0
    let new (s : State) (tag : Option (BitVec 16)) (answer : Option (List (Option Byte))) : State :=
      { s with mem := { s.mem with
          grants := s.mem.grants ++ [{ home := q.grant.home, object := q.grant.object, line := line, tag := tag, answer := answer }] } }
    match s.ask die .grant pk with
    | (s, none) => new s none (some [])
    | (s, some tag) => new s (some tag) none

/-- An access was checked against the line: it serves no access after this step (10 R182, 20 R363). -/
def State.useGrant (s : State) (q : Requester) (ptag : BitVec 20) : State :=
  if !s.grantAway q ptag then s
  else { s with mem := { s.mem with grants := s.mem.grants.map fun r => if r.covers q ptag then { r with used := true } else r } }

/-- A new request is checked against a line that is read after it was issued (10 R194, 20 R363): what is known of its grant map, or
under way, does not serve it. -/
def State.freshGrants (s : State) (home : BitVec 12) (object : BitVec 28) : State :=
  if home == s.fab.self then s
  else { s with mem := { s.mem with grants := s.mem.grants.filter fun r => !(r.home == home && r.object == object) } }

/-- The lines that accesses were checked against are forgotten. -/
def State.dropGrants (s : State) : State :=
  { s with mem := { s.mem with grants := s.mem.grants.filter fun r => !r.used } }

/-- Levee(q, ptag): PTAG 0 is granted to everyone; a bit that cannot be read is clear. -/
def State.levee (s : State) (q : Requester) (ptag : BitVec 20) : Bool :=
  if !q.checked || ptag == 0 then true
  else if !grantUsable q.grant then false
  else if q.grant.home == s.fab.self then s.grantBit q.grant.object (q.grantOff ptag) (ptag.toNat % 8)
  else if q.ownLine then Config.remoteGrant q.grant.home q.grant.object ptag.toNat s.free
  else
    match (s.grantRead q ptag).bind GrantRead.answer with
    | none => false
    | some bytes => ((bytes[q.grantOff ptag % 128]?).join.map fun b => b.getLsbD (ptag.toNat % 8)).getD false

/-- The 32 bytes of a denial-log entry (10 R183): a stash hit is denied on the die of the asking core. -/
def State.denialEntry (s : State) (q : Requester) (o : BitVec 28) (off : Nat) (ptag : BitVec 20) (kind : Nat) :
    List Byte :=
  leBytes 8 (s.tickOf (if kind = 6 then dieOf q.core else homeDie o)).toNat ++ leBytes 4 (q.ctx.toNat + 2 ^ 20 * q.chip.toNat)
    ++ leBytes 4 q.principal.toNat
    ++ leBytes 8 (2 ^ 52 * s.fab.self.toNat + 2 ^ 24 * o.toNat + 2 ^ 16 * (q.core % 256) + q.gid.toNat)
    ++ leBytes 8 (2 ^ 24 * off + 16 * ptag.toNat + kind)

/-- Whether a descriptor's field names a log (04 R70). -/
def namesLog (c : Cap) : Bool :=
  c.object != 0 && c.has (rR ||| rW) && c.base.toNat % 32 == 0 && decide (288 ≤ c.length.toNat)

/-- The frame and offset of a byte of an object of this chip, if its page is mapped and readable without the Levee. -/
def State.plainPage (s : State) (o : BitVec 28) (off : Nat) : Option (W64 × ObjEntry) :=
  let t := s.objEntry o
  if !t.valid || decide (t.last < off) || !s.dieRuns (homeDie o) then none
  else
    match s.walk t.root off with
    | .leaf _ w =>
      if leafMalformed w (homeSlice o (off / 65536)) || (s.cryptoFault w t).isSome || !s.tierReached (leafFrame w) then none
      else some (w, t)
    | _ => none

/-- The error record of a refused translation (04 R74) (DESIGN CHOICE, log 64). -/
def State.cryptoRecord (s : State) (q : Requester) (o : BitVec 28) (off frame : Nat) (c : CryptoFault) : State :=
  s.errorRecord (homeDie o) (homeSlice o (off / 65536)) (match c with | .aliased => 0x0402 | .keyGone => 0x0403) 2
    (leBytes 8 (2 ^ 52 * s.fab.self.toNat + 2 ^ 24 * o.toNat) ++ leBytes 8 off ++ leBytes 4 q.ctx.toNat
      ++ leBytes 4 frame)

/-- What the home of a prefetched line does before it brings the line in: a translation that R74 refuses writes its error record,
and nothing else comes of it (04 R74, 17 R312). -/
def State.refusePrefetch (s : State) (q : Requester) (o : BitVec 28) (off : Nat) : State :=
  let t := s.objEntry o
  if !t.valid || decide (t.last < off) || t.publishing || !s.dieRuns (homeDie o) then s
  else
    match s.walk t.root off with
    | .leaf _ w =>
      if leafMalformed w (homeSlice o (off / 65536)) then s
      else
        match s.cryptoFault w t with
        | some c => s.cryptoRecord q o off (frameNumber (leafFrame w)) c
        | none => s
    | _ => s

/-- The leaf of a page that is written is accessed and dirty (10 R175, R176). -/
def State.pageWritten (s : State) (t : ObjEntry) (off : Nat) : State :=
  match s.walk t.root off with
  | .leaf k w => { s with mem := { s.mem with tables := Sparse.set 0 s.mem.tables k (w ||| (3#64 <<< 60)) } }
  | _ => s

/-- Append an entry to a denial log that this chip homes (04 R70): dropped when the log cannot be written, counted as
lost while it is full. "Its page is poisoned" is read as poison in the sectors of the header's 24 bytes or of the slot; an append
to a page that is write-protected, or whose object is publishing, is made at once (DESIGN CHOICE, log 80). -/
def State.appendHere (s : State) (log : Cap) (entry : List Byte) : State :=
  let b := log.base.toNat
  match s.plainPage log.object b with
  | none => s
  | some (w, t) =>
    let f := leafFrame w
    let h := b % 65536
    let s := s.recall log.object b 24 f true none
    if s.framePoisoned f h 24 then s
    else
      let written := s.frameNat f h 8
      let consumed := s.frameNat f (h + 8) 8
      let n := (log.length.toNat - 32) / 32
      if written - consumed < n then
        let slot := b + 32 + 32 * (written % n)
        match s.plainPage log.object slot with
        | none => s
        | some (w2, t2) =>
          let s := s.recall log.object slot 32 (leafFrame w2) true none
          if s.framePoisoned (leafFrame w2) (slot % 65536) 32 then s
          else
            let s := ((s.pageWritten t b).bindFrame w t).writeFrame f (byteList h 8 (written + 1))
            ((s.pageWritten t2 slot).bindFrame w2 t2).writeFrame (leafFrame w2)
              ((List.range 32).map fun i => (slot % 65536 + i, entry.getD i 0))
      else ((s.pageWritten t b).bindFrame w t).writeFrame f (byteList (h + 16) 8 (s.frameNat f (h + 16) 8 + 1))

/-- Append an entry to the denial log of a context: here, or sent to the log's home. The kinds 7-15 are reserved; the
model gives 7 to an access whose denial is not logged again (15 R271, 17 R312) (DEDUCED, log 38, 83). -/
def State.logDenial (s : State) (q : Requester) (o : BitVec 28) (off : Nat) (ptag : BitVec 20) (kind : Nat) : State :=
  let log := (s.ctxOf q.ctx).log
  if !namesLog log || decide (7 ≤ kind) then s
  else
    let e := s.denialEntry q o off ptag kind
    if log.home == s.fab.self then s.appendHere log e
    else { s with outbox := s.outbox ++ [.denial log e] }

/-! ### Faults (10 R178) -/

/-- The 32-byte entry of a page fault report (15 R283), as firmware's queue holds it. -/
def faultReport (s : State) (e : FaultEntry) : FwEntry :=
  { kind := 1, status := 0, weir := BitVec.ofNat 16 (homeSlice e.object e.page), ctx := e.ctx.setWidth 32,
    object := (s.fab.self.setWidth 64 <<< 52) ||| (e.object.setWidth 64 <<< 24), offset := BitVec.ofNat 64 (e.page * 65536),
    faultKind := BitVec.ofNat 8 e.kind, op := 0 }

/-- Report one entry (10 R178 item 3): to firmware's queue of the home die, or as a service request. Kind 3 is never
reported. While firmware's queue is full the report waits (DESIGN CHOICE, log 75). -/
def State.reportFault (s : State) (e : FaultEntry) : State × FaultEntry :=
  if e.reported || e.kind == 3 then (s, e)
  else
    let die := homeDie e.object
    let part := (s.ctxOf e.ctx).part
    if s.hostAssisted part 0 then
      (s.serviceRequest 0 die part
        (leBytes 8 (2 ^ 52 * s.fab.self.toNat + 2 ^ 24 * e.object.toNat) ++ leBytes 8 (e.page * 65536)
          ++ leBytes 1 e.kind ++ leBytes 3 0 ++ leBytes 4 e.ctx.toNat), { e with reported := true })
    else
      let q := Sparse.get [] s.fw.queue die
      if q.length < 1024 then
        ({ s with fw := { s.fw with queue := Sparse.set [] s.fw.queue die (q ++ [faultReport s e]) } },
          { e with reported := true })
      else (s, e)

/-- Report every entry that can be reported, in creation order. -/
def State.reportFaults (s : State) : State :=
  let r := s.mem.faults.foldl (fun (a : State × List FaultEntry) e =>
    let t := a.1.reportFault e
    (t.1, a.2 ++ [t.2])) (s, [])
  { r.1 with mem := { r.1.mem with faults := r.2 } }

/-- Record a requester in the entry of (object, page, kind); the flag is `no wake` (10 R178 items 1 and 2). None while the
fault queue has no room for a new entry: the request stays in the miss queue. -/
def State.recordFault (s : State) (q : Requester) (o : BitVec 28) (page kind : Nat) : Option (State × Bool) :=
  let who : BitVec 12 × Nat := (q.chip, q.core)
  match s.mem.faults.find? fun e => e.object == o && e.page == page && e.kind == kind with
  | some e =>
    if e.requesters.contains who then some (s, false)
    else if e.requesters.length < 64 then
      let fs := s.mem.faults.map fun x =>
        if x.object == o && x.page == page && x.kind == kind then { x with requesters := x.requesters ++ [who] } else x
      some ({ s with mem := { s.mem with faults := fs } }, false)
    else some (s, true)
  | none =>
    if (s.mem.faults.filter fun e => homeSlice e.object e.page == homeSlice o page).length < 256 then
      let e : FaultEntry := { object := o, page := page, kind := kind, ctx := q.ctx, requesters := [who], reported := false }
      some (({ s with mem := { s.mem with faults := s.mem.faults ++ [e] } } : State).reportFaults, false)
    else none

/-! ### Translation (10 R176, R376) -/

/-- What a translation answers; `hold` while the request waits in the miss queue (10 R177, R178, R189). -/
inductive Verdict where
  | ok (leaf : W64) (entry : ObjEntry)
  | denied (ptag : BitVec 20)
  | fault (noWake : Bool)
  | refused (status : BitVec 8)
  | hold
  deriving DecidableEq, Repr

/-- ContextBusy (09 R158, 10 R376): loads are refused while the group is RESIDENT, IDLE or being saved, stores in every state
except SAVED and DONE. -/
def State.contextBusy (s : State) (o : BitVec 28) (q : Requester) (writes : Bool) : Bool :=
  !q.ownLine &&
    match s.group o.toNat with
    | none => false
    | some g =>
      if writes then decide (g.state ≠ .saved ∧ g.state ≠ .done)
      else decide (g.state = .resident ∨ g.state = .idle) || s.fw.saves.any fun x => !x.restore && x.group == o.toNat

/-- A frame takes the bytes, tags, poison and metadata of another: the copy of 10 R188 and R190, through the crypto path. A
frame that is bound is copied into one bound to the current generation, with new counters (04 R75). -/
def State.copyPage (s : State) (src dst : Nat) : State :=
  let s := s.checkStale src fun _ => true
  let part (m : Nat) (l : Memory) : Memory := (l.filter fun e => e.1 / m == src).map fun e => (dst * m + e.1 % m, e.2)
  let flags (m : Nat) (l : Sparse Bool) : Sparse Bool :=
    (l.filter fun e => e.1 / m == src).map fun e => (dst * m + e.1 % m, e.2)
  let late := (s.mem.hostNew.filter fun e => e.1 / 65536 == src).map fun e =>
    (dst * 65536 + e.1 % 65536, s.frameByte src (e.1 % 65536))
  let m := s.mem.clearFrame dst
  let k := s.frameMeta src
  let k' := if k.bound then { k with gen := (s.keySlot k.slot.toNat).gen } else k
  let scheme := Sparse.get 0 s.mem.schemes src
  let s := { s with
    mem := { m with
      schemes := Sparse.set 0 m.schemes dst scheme
      bytes := Sparse.setAll 0 m.bytes (part 65536 s.mem.bytes ++ late)
      tags := Sparse.setAll false m.tags (flags 4096 s.mem.tags)
      poison := Sparse.setAll false m.poison (flags 2048 s.mem.poison) }
    trust := { s.trust with frames := Sparse.set {} s.trust.frames dst k' } }
  let s := if scheme = 0 then s else s.storeForms dst ((List.range 512).map fun n => 128 * n)
  if k.bound then s.tellHost dst (List.range 65536) else s

/-- The key of the shadow's leaf entry for a page. -/
def State.shadowKey (s : State) (t : ObjEntry) (off : Nat) : Option Nat :=
  let e0 := Sparse.get 0 s.mem.tables (tableKey t.shadow (off / 2 ^ 32 % 256))
  let e1 := Sparse.get 0 s.mem.tables (tableKey e0 (off / 2 ^ 24 % 256))
  if e0.getLsbD 63 && e1.getLsbD 63 then some (tableKey e1 (off / 2 ^ 16 % 256)) else none

/-- The outcome of a copy-on-write: the shadow leaf with its key, a fault of a kind, or poison met in the walk. -/
inductive Copied where
  | leaf (key : Nat) (w : W64)
  | fault (kind : Nat)
  | poison
  deriving DecidableEq, Repr

/-- A frame of a slice's free-frame list for a copy of a page: the first of the page's tier, else the first of main memory
(DESIGN CHOICE, log 68). -/
def State.freeFrame (s : State) (sl tier : Nat) : Option (BitVec 33) :=
  let list := Sparse.get [] s.mem.freeFrames sl
  (list.find? fun f => frameTier f.toNat == tier).or (list.find? fun f => frameTier f.toNat == 1)

/-- CopyOnWrite (10 R188), the first shadow write to a page: kind 4 while the shadow or the free list lacks what it needs,
kind 1 when the published map has no page. -/
def State.copyOnWrite (s : State) (t : ObjEntry) (o : BitVec 28) (off : Nat) : State × Copied :=
  match s.walk t.root off with
  | .missing => (s, .fault 1)
  | .poison => (s, .poison)
  | .leaf _ w =>
    let sl := homeSlice o (off / 65536)
    match s.shadowKey t off, s.freeFrame sl (leafTier w) with
    | some k, some f =>
      let left := (Sparse.get [] s.mem.freeFrames sl).erase f
      let s := { s with mem := { s.mem with freeFrames := Sparse.set [] s.mem.freeFrames sl left } }
      let leaf : W64 := (w &&& ~~~(0x1FFFFFFFF#64)) ||| f.setWidth 64 ||| (1#64 <<< 61)
      let s := (s.recall o (off / 65536 * 65536) 65536 (leafFrame w) false none).copyPage (leafFrame w) (leafFrame leaf)
      ({ s with mem := { s.mem with tables := Sparse.set 0 s.mem.tables k leaf } }, .leaf k leaf)
    | _, _ => (s, .fault 4)

/-- The leaf that a request uses: the published page, or for a shadow write the shadow's. -/
def State.findLeaf (s : State) (t : ObjEntry) (o : BitVec 28) (off : Nat) (shadow : Bool) :
    State × Walk × Nat :=
  if shadow then
    if !t.shadow.getLsbD 63 then (s, .missing, 4)
    else
      match s.walk t.shadow off with
      | .leaf k w => (s, .leaf k w, 0)
      | .poison => (s, .poison, 0)
      | .missing =>
        match s.copyOnWrite t o off with
        | (s, .leaf k w) => (s, .leaf k w, 0)
        | (s, .fault kind) => (s, .missing, kind)
        | (s, .poison) => (s, .poison, 0)
  else
    match s.walk t.root off with
    | .missing => (s, .missing, 1)
    | x => (s, x, 0)

/-- A fault of a kind. -/
def State.faultOf (s : State) (q : Requester) (o : BitVec 28) (off kind : Nat) : State × Verdict :=
  match s.recordFault q o (off / 65536) kind with
  | some (t, noWake) => (t, .fault noWake)
  | none => (s, .hold)

/-- Translate(q) of 10 R176. A page of host memory whose module carries no traffic answers UNREACH
(DESIGN CHOICE, log 54, 91). -/
def State.translate (s : State) (q : Requester) (o : BitVec 28) (off : Nat) (writes shadow : Bool) : State × Verdict :=
  if !s.dieRuns (homeDie o) then (s, .refused 0x04)
  else
    let t := s.objEntry o
    if !t.valid || decide (t.last < off) then s.faultOf q o off 1
    else if t.publishing then (s, .hold)
    else
      match s.findLeaf t o off shadow with
      | (s, .missing, kind) => s.faultOf q o off kind
      | (s, .poison, _) =>
        (s.errorRecord (homeDie o) (homeSlice o (off / 65536)) 0x0A03 2
          (leBytes 8 (2 ^ 52 * s.fab.self.toNat + 2 ^ 24 * o.toNat) ++ leBytes 8 off ++ leBytes 4 q.ctx.toNat), .refused 0x03)
      | (s, .leaf key w, _) =>
        if leafMalformed w (homeSlice o (off / 65536)) then s.faultOf q o off 5
        else
          match s.cryptoFault w t with
          | some c =>
            let s := s.cryptoRecord q o off (frameNumber (leafFrame w)) c
            (s, .refused (match c with
              | .aliased => 0x09
              | .keyGone => if writes then 0x0B else 0x03))
          | none =>
            if s.grantUnknown q (leafPtag w) then (s.askGrant q (leafPtag w), .hold) else
            let s := s.useGrant q (leafPtag w)
            if !s.levee q (leafPtag w) then (s, .denied (leafPtag w))
            else if t.isContext && s.contextBusy o q writes then (s, .refused 0x08)
            else if writes && leafProtected w then
              s.faultOf q o off (if s.mem.migrating.contains (o, off / 65536) then 3 else 2)
            else if !s.tierReached (leafFrame w) then (s, .refused 0x04)
            else
              let w' := w ||| (1#64 <<< 60) ||| (if writes then 1#64 <<< 61 else 0)
              let s := { s with mem := { s.mem with tables := Sparse.set 0 s.mem.tables key w' } }
              ((if writes then s.bindFrame w t else s), .ok w' t)

/-- The kind of the page fault that a request meets at a page now (10 R176, R178), 0 for none and for a page of another chip,
whose answer names no kind (DESIGN CHOICE, log 69). -/
def State.pageKind (s : State) (place : BitVec 28 × Nat) (writes shadow : Bool) : Nat :=
  let o := place.1
  let t := s.objEntry o
  let off := place.2 * 65536
  let leafKind (w : W64) : Nat :=
    if leafMalformed w (homeSlice o place.2) then 5
    else if writes && leafProtected w then (if s.mem.migrating.contains (o, place.2) then 3 else 2)
    else 0
  if 2 ^ 24 ≤ place.2 then 0
  else if !t.valid || decide (t.last < off) then 1
  else
    match s.walk (if shadow then t.shadow else t.root) off with
    | .leaf _ w => leafKind w
    | .poison => 0
    | .missing =>
      if !shadow || (t.shadow.getLsbD 63 && s.walk t.root off == .missing) then 1 else 4

/-- The lines that a request reaches of a host-memory page are cached, and every stash copy but the asking line is recalled
(10 R186, 11 R208). -/
def State.reach (s : State) (o : BitVec 28) (off n : Nat) (leaf : W64) (t : ObjEntry) (drop : Bool)
    (own : Option (Nat × Nat)) : State :=
  let s := (s.cacheHost t.ctx (leafFrame leaf) off n).recall o off n (leafFrame leaf) drop own
  if drop then s else s.checkStale (leafFrame leaf) fun k => decide (off % 65536 / 32 ≤ k) && decide (32 * k < off % 65536 + n)

end Sys2Proof.Machine
end

