-- ==== Sys2Proof/Machine/Stash.lean ====
section
/-! DEFINITION. The stash of a block (07 R114, 10 R186): scratch bytes, mapped lines, and the barrier words with their
phase test (08 R142). -/

namespace Sys2Proof.Machine

/-- The little-endian number of n bytes of a stash allocation. -/
def Block.nat (b : Block) (off : Nat) : Nat → Nat
  | 0 => 0
  | n + 1 => (Sparse.get (0 : Byte) b.stash off).toNat + 256 * Block.nat b (off + 1) n

/-- Write bytes of a stash allocation: granules touched lose their tags, sectors covered whole lose their poison. -/
def Block.write (b : Block) (w : List (Nat × Byte)) : Block :=
  let offs := w.map Prod.fst
  { b with stash := Sparse.setAll 0 b.stash w
           tags := Sparse.setAll false b.tags ((offs.map fun o => o / 16).eraseDups.map fun k => (k, false))
           poison := Sparse.setAll false b.poison ((wholeSectors offs).map fun k => (k, false))
           written := Sparse.setAll false b.written ((offs.map fun o => o / 4096).eraseDups.map fun k => (k, true)) }

/-- Whether some sector of n bytes is poisoned. -/
def Block.poisoned (b : Block) (off n : Nat) : Bool :=
  (List.range ((off + n + 31) / 32 - off / 32)).any fun k => Sparse.get false b.poison (off / 32 + k)

/-! ### Barrier words -/

/-- The fields of a barrier word (08 R142). -/
structure Barrier where
  phase : BitVec 16
  arrivals : BitVec 24
  expected : BitVec 24
  bytes : BitVec 32
  bytesExpected : BitVec 32
  deriving DecidableEq, Repr

/-- Barrier k of a block, at allocation offset 16k. -/
def Block.barrier (b : Block) (k : Nat) : Barrier :=
  let w := BitVec.ofNat 128 (b.nat (16 * k) 16)
  { phase := w.extractLsb' 0 16, arrivals := w.extractLsb' 16 24, expected := w.extractLsb' 40 24,
    bytes := w.extractLsb' 64 32, bytesExpected := w.extractLsb' 96 32 }

/-- Write barrier k. -/
def Block.putBarrier (b : Block) (k : Nat) (w : Barrier) : Block :=
  b.write (byteList (16 * k) 16 (w.phase.toNat + 2 ^ 16 * w.arrivals.toNat + 2 ^ 40 * w.expected.toNat
    + 2 ^ 64 * w.bytes.toNat + 2 ^ 96 * w.bytesExpected.toNat))

/-- The phase test (08 R142). -/
def Barrier.test (w : Barrier) : Barrier :=
  if w.expected.toNat ≤ w.arrivals.toNat ∧ w.bytesExpected.toNat ≤ w.bytes.toNat ∧ 0 < w.expected.toNat then
    { w with phase := w.phase + 1, arrivals := 0, bytes := 0, bytesExpected := 0 }
  else w

/-- Whether a slice waits on barrier k past a phase other than p. -/
def Slice.wakes (sl : Slice) (k : Nat) (p : BitVec 16) : Bool :=
  sl.park == .barrier && sl.arg == BitVec.ofNat 32 k && sl.phase != p

/-- Wake the waiting gangs of one group. -/
def State.wakeGroup (s : State) (k : Nat) (p : BitVec 16) (h : Nat) : State :=
  match s.group h with
  | none => s
  | some g =>
    let due := g.live.filter fun i => (g.slice i).wakes k p
    if due = [] then s else s.putGroup h (g.mapSlices (fun _ sl => sl.ready) due)

/-- Keep a write to a block's stash for the waits of this chip. -/
def State.stashTouched (s : State) (blk off n : Nat) : State :=
  { s with mem := { s.mem with touched := s.touching { stash := true, place := blk, bytes := (List.range n).map fun i => off + i } } }

/-- After an update of barrier k: the test, then every gang that waits past another phase is unparked (DEDUCED, log 45). -/
def State.barrierUpdate (s : State) (blk k : Nat) : State :=
  match s.block blk with
  | none => s
  | some b =>
    let w := (b.barrier k).test
    let s := (if w = b.barrier k then s else s.putBlock blk (b.putBarrier k w)).stashTouched blk (16 * k) 16
    b.groups.foldl (fun s h => s.wakeGroup k w.phase h) s

/-- Run the phase test of every barrier word that some bytes touch (DEDUCED, log 45). -/
def State.barriersTouched (s : State) (blk off n : Nat) : State :=
  match s.block blk with
  | none => s
  | some b =>
    ((List.range b.barriers).filter fun k => decide (16 * k < off + n) && decide (off < 16 * k + 16)).foldl
      (fun s k => s.barrierUpdate blk k) (s.stashTouched blk off n)

/-- Count bytes into a barrier at an engine completion (08 R142, 19 R345). -/
def State.countBytes (s : State) (blk k n : Nat) : State :=
  match s.block blk with
  | none => s
  | some b =>
    let w := b.barrier k
    (s.putBlock blk (b.putBarrier k { w with bytes := w.bytes + BitVec.ofNat 32 n })).barrierUpdate blk k

/-! ### Mapped lines (10 R186) -/

/-- The offset in its object of a byte of a region. -/
def Region.objectOff (r : Region) (off : Nat) : Nat := r.cap.base.toNat + (off - r.base)

/-- The object and page of a piece, by which its page faults are known: a stash piece in a mapped region has those of the region's
object. -/
def State.placeOf (s : State) (blk : Nat) (p : Piece) : BitVec 28 × Nat :=
  if p.object != 0 then s.pagePlace p.chip p.object (p.offset / 65536)
  else
    match (s.block blk).bind fun b => b.regionAt p.offset with
    | none => (0, p.offset / 65536)
    | some r => (r.cap.object, r.objectOff p.offset / 65536)

/-- Whether a line of a group stands in the spill area. -/
def Group.inSpill (g : Group) (n : Nat) : Bool := g.spilled.any fun e => e.1 == n

/-- The lines a group waits for. -/
def Group.filling (g : Group) : List Nat := (g.present.filter fun e => e.2 == .filling).map Prod.fst

/-- The object and page of a held request (DESIGN CHOICE, log 75). -/
def State.heldPage (s : State) (tag : BitVec 16) (h : Nat) : Option (BitVec 28 × Nat) :=
  (s.group h).bind fun g =>
    ((g.memOps.flatMap MemOp.pieces).find? fun p => p.tag == tag && p.status == 0xFF).map (s.placeOf g.block)

/-- The page of this chip at which the next piece of a command waits for a publish. -/
def State.heldSpan (s : State) (c : Command) : Option (BitVec 28 × Nat) :=
  match (c.reads ++ c.writes).head? with
  | none => none
  | some p =>
    let place := if p.cap.isStash then
        ((s.block p.blk).bind fun b => b.regionAt p.off).map fun r => (r.cap.home, r.cap.object, r.objectOff p.off)
      else some (p.cap.home, p.cap.object, p.off)
    match place with
    | some (chip, o, off) => if chip == s.fab.self && (s.objEntry o).publishing && c.faulted == [] then some (o, off / 65536) else none
    | none => none

/-- Whether the miss queue of a slice is full: its Weir then accepts no new request (10 R177). What waits in it are requests of
groups and of other chips, pieces of engine commands, and context lines (DESIGN CHOICE, log 75). -/
def State.missFull (s : State) (slice : Nat) : Bool :=
  let near := s.mem.held.filter fun e => ((s.heldPage e.1 e.2.1).map fun p => homeSlice p.1 p.2) == some slice
  let far := s.mem.waiting.filter fun r =>
    homeSlice (s.packetObject r.packet) (r.packet.offset.toNat / 65536) == slice
  let engines := s.cmds.filter fun e => ((e.2.bind s.heldSpan).map fun p => homeSlice p.1 p.2) == some slice
  let lines := s.groups.flatMap fun e => match e.2 with
    | none => []
    | some g =>
      if g.filling = [] || !(s.objEntry (BitVec.ofNat 28 e.1)).publishing then []
      else g.filling.filter fun n => !g.inSpill n && homeSlice (BitVec.ofNat 28 e.1) (n / 1024) == slice
  decide (1024 ≤ near.length + far.length + engines.length + lines.length)

/-- The PTAG for which a hit on a present line is denied to a group that did not fill it (10 R183). -/
def State.hitDenied (s : State) (blk line : Nat) (q : Requester) : Option (BitVec 20) :=
  ((s.block blk).bind fun b => Sparse.get none b.lines line).bind fun l =>
    if l.filler != q.group && !s.grantUnknown q l.ptag && !s.levee q l.ptag then some l.ptag else none

/-- The PTAG for which the check of such a hit waits for another chip's grant map. -/
def State.hitUnknown (s : State) (blk line : Nat) (q : Requester) : Option (BitVec 20) :=
  ((s.block blk).bind fun b => Sparse.get none b.lines line).bind fun l =>
    if l.filler != q.group && s.grantUnknown q l.ptag then some l.ptag else none

/-- A hit on a line that another group filled was checked against another chip's grant map. -/
def State.useHit (s : State) (blk line : Nat) (q : Requester) : State :=
  match (s.block blk).bind fun b => Sparse.get none b.lines line with
  | some l => if l.filler != q.group then s.useGrant q l.ptag else s
  | none => s

/-- What a line of the stash takes from a frame: bytes, tags and poison. -/
def State.loadLine (s : State) (b : Block) (line f off : Nat) (l : StashLine) : Block :=
  let b := b.write ((List.range 128).map fun i => (128 * line + i, s.frameByte f (off + i)))
  { b with
    tags := Sparse.setAll false b.tags ((List.range 8).map fun i => (8 * line + i, s.frameTag f (off + 16 * i)))
    poison := Sparse.setAll false b.poison ((List.range 4).map fun i => (4 * line + i, s.framePoisoned f (off + 32 * i) 32))
    lines := Sparse.set none b.lines line (some l) }

/-- Bring a line of a mapped region into the stash, or obtain its ownership for a write, for a request whose lowest byte in the
line is at allocation offset `low`: status 0 when the line may be used, 1 when the Levee denies it, 2 with `no wake` for a page
fault, 0xFF while the request waits, else the refusal. The page of a region is one of this chip (DEDUCED, log 92). -/
def State.fillLine (s : State) (blk line : Nat) (r : Region) (q : Requester) (writes : Bool) (low : Nat) :
    State × BitVec 8 × Bool :=
  let o := r.cap.object
  let off := r.objectOff (128 * line)
  match s.block blk with
  | none => (s, 0x04, false)
  | some b =>
    let l := Sparse.get none b.lines line
    match s.hitUnknown blk line q with
    | some ptag => (s.askGrant q ptag, 0xFF, false)
    | none =>
    let s := s.useHit blk line q
    match s.hitDenied blk line q with
    | some ptag => (s.logDenial q o (r.objectOff low) ptag 6, 1, false)
    | none =>
      if l.isSome && (!writes || (l.map StashLine.dirty).getD false) then (s, 0, false)
      else if !q.again && s.missFull (homeSlice o (off / 65536)) then (s, 0xFF, false)
      else
        match s.translate q o off writes false with
        | (s, .ok leaf t) =>
          let s := s.reach o off 128 leaf t writes (some (blk, line))
          let b := (s.block blk).getD b
          (s.putBlock blk (match l with
            | some l => { b with lines := Sparse.set none b.lines line (some { l with dirty := true }) }
            | none => s.loadLine b line (leafFrame leaf) (off % 65536)
                { dirty := writes, ptag := leafPtag leaf, filler := q.group }), 0, false)
        | (s, .denied p) => (s.logDenial q o (r.objectOff low) p q.kind, 1, false)
        | (s, .fault nw) => (s, 2, nw)
        | (s, .refused st) => (s, st, false)
        | (s, .hold) => (s, 0xFF, false)

/-- How a write-back ends: done, a page fault (with `no wake`), or waiting in the miss queue. -/
inductive Flushed where
  | done
  | fault (noWake : Bool)
  | held
  deriving DecidableEq, Repr

/-- Write back a dirty line of a region, as an access of a group (17 R317); while its page faults the line stays unfinished.
Denied write-backs are discarded and logged with kind 2. -/
def State.flushLine (s : State) (blk line : Nat) (r : Region) (q : Requester) : State × Flushed :=
  match (s.block blk).bind fun b => (Sparse.get none b.lines line).map fun l => (b, l) with
  | none => (s, .done)
  | some (b, l) =>
    if !l.dirty then (s, .done)
    else if s.missFull (homeSlice r.cap.object (r.objectOff (128 * line) / 65536)) then (s, .held)
    else
      let o := r.cap.object
      let off := r.objectOff (128 * line)
      let clean := { b with lines := Sparse.set none b.lines line (some { l with dirty := false }) }
      match s.translate q o off true false with
      | (s, .ok leaf t) =>
        (((s.cacheHost t.ctx (leafFrame leaf) off 128).writeLineBack b line (leafFrame leaf) (off % 65536)).putBlock blk clean, .done)
      | (s, .denied p) => ((s.logDenial q o off p 2).putBlock blk clean, .done)
      | (s, .fault nw) => (s, .fault nw)
      | (s, .refused _) => (s.putBlock blk clean, .done)
      | (s, .hold) => (s, .held)

/-- Discard the clean stash lines of the host-memory pages of a context, and the slices' lines of them (11 R208 item 3). -/
def State.discardHost (s : State) (ctx : BitVec 20) : State :=
  let blocks := s.disp.blocks.map fun e => (e.1, e.2.map fun b =>
    { b with lines := b.lines.filter fun l => match l.2, b.regionAt (128 * l.1) with
      | some k, some r =>
        let t := s.objEntry r.cap.object
        let off := r.objectOff (128 * l.1)
        k.dirty || t.ctx != ctx || r.cap.home != s.fab.self || (match s.walk t.root off with
          | .leaf _ w => leafTier w != 2
          | _ => true)
      | _, _ => true })
  { s with disp := { s.disp with blocks := blocks }, mem := s.mem.discardHost ctx }

/-- The present lines of a region. -/
def Block.linesOf (b : Block) (r : Region) : List Nat :=
  (b.lines.filter fun l => decide (r.base ≤ 128 * l.1) && decide (128 * l.1 < r.base + r.length)).map Prod.fst

end Sys2Proof.Machine
end

