-- ==== Sys2Proof/Machine/Access.lean ====
section
/-! DEFINITION. How a memory instruction runs (17 R303-R305, 10 R169, R179, R180): the checks of each lane, the requests
that its lanes form (02 R36), the answers of the Weirs and of the stash, and what the statuses do (13 R232). -/

namespace Sys2Proof.Machine

/-- One lane's access before it is split: lane, capability, offset in the capability, size and the value it carries. -/
structure LaneReq where
  lane : Nat
  cap : Cap
  off : Nat
  size : Nat
  value : Nat := 0
  deriving DecidableEq, Repr

/-- The absolute offset of a lane (10 R169). -/
def LaneReq.abs (a : LaneReq) : Nat := a.cap.base.toNat + a.off

/-- The lanes that fail a test, and the first failing test of rows 7-10 (13 R230, 17 R304). -/
def checkLanes (align : Nat) (rights : BitVec 8) (alloc : Nat) (as : List LaneReq) : Option (Cause × List Nat) :=
  let bad (p : LaneReq → Bool) : List Nat := (as.filter p).map LaneReq.lane
  let misaligned := bad fun a => a.abs % align != 0
  let untagged := bad fun a => !a.cap.tag
  let weak := bad fun a => !a.cap.has rights
  let out := bad fun a => decide (a.cap.length.toNat < a.off + a.size) || (a.cap.isStash && decide (alloc < a.abs + a.size))
  if misaligned ≠ [] then some (.align, misaligned)
  else if untagged ≠ [] then some (.captag, untagged)
  else if weak ≠ [] then some (.capright, weak)
  else if out ≠ [] then some (.capbound, out)
  else none

/-- The stash bytes that the group's block holds: none for a task group (17 R315). -/
def State.allocOf (s : State) (g : Group) : Nat := ((s.block g.block).map Block.alloc).getD 0

/-- The pieces of an access, one for each 128-byte line it touches (17 R305). -/
def splitLane (a : LaneReq) : List Piece :=
  let f := a.abs
  let z := a.size
  (List.range ((f + z + 127) / 128 - f / 128)).map fun k =>
    let lo := max f ((f / 128 + k) * 128)
    let hi := min (f + z) ((f / 128 + k + 1) * 128)
    { lane := a.lane, start := lo - f, chip := a.cap.home, object := a.cap.object, offset := lo, length := hi - lo,
      value := a.value / 256 ^ (lo - f), status := 0xFF }

/-- The request a piece belongs to (02 R36): chip, object and 256-byte region. -/
def Piece.key (p : Piece) : Nat := (p.chip.toNat * 2 ^ 28 + p.object.toNat) * 2 ^ 32 + p.offset / 256

/-- Insert a number in an ascending list without repeats. -/
def insertKey (k : Nat) : List Nat → List Nat
  | [] => [k]
  | x :: xs => if k < x then k :: x :: xs else if k = x then x :: xs else x :: insertKey k xs

/-- The distinct keys, ascending (DEDUCED, log 43). -/
def sortKeys (ks : List Nat) : List Nat := ks.foldr insertKey []

/-- Who asks, for an access of a group (10 R181). -/
def State.principalOf (s : State) (ctx : BitVec 20) (grant launch : Cap) : BitVec 32 :=
  if grant = launch then (s.ctxOf ctx).principal else grant.object.setWidth 32 ||| 0x80000000#32

/-- The requester of a group's access of a log kind. -/
def State.groupReq (s : State) (h : Nat) (g : Group) (kind : Nat) : Requester :=
  { chip := s.fab.self, ctx := g.ctx, grant := g.grant, principal := s.principalOf g.ctx g.grant g.launchGrant,
    core := g.core, gid := g.gid.setWidth 16, group := h, kind := kind, checked := true, ownLine := false }

/-- What an access does: its kind tells reads from writes. -/
def AccKind.writes : AccKind → Bool
  | .store | .capStore => true
  | .atomic _ _ => true
  | _ => false

/-- The new value of an atomic (17 R310), for z bytes: D in the low part of the operand, and N above it for CAS. -/
def atomicNew (op : Nat) (isSigned : Bool) (z old v : Nat) : Nat :=
  let m := 256 ^ z
  let d := v % m
  let less (x y : Nat) : Bool := if isSigned then decide (twosOf z x < twosOf z y) else decide (x < y)
  match op with
  | 0 => (old + d) % m
  | 1 => old &&& d
  | 2 => old ||| d
  | 3 => old ^^^ d
  | 4 => d
  | 5 => if old = d then v / m % m else old
  | 6 => if less old d then old else d
  | _ => if less old d then d else old
where
  /-- A value of z bytes as a two's complement integer. -/
  twosOf (z x : Nat) : Int := if 2 * x < 256 ^ z then x else (x : Int) - 256 ^ z

/-! ### At a frame -/

/-- One piece performed on its frame. -/
def State.atFrame (s : State) (kind : AccKind) (f : Nat) (p : Piece) : State × Piece :=
  let at_ := p.offset % 65536
  match kind with
  | .store => (s.writeFrame f (byteList at_ p.length p.value), { p with status := 0 })
  | .capStore =>
    let s := s.writeFrame f (byteList at_ 16 p.value)
    ({ s with mem := { s.mem with
        tags := Sparse.set false s.mem.tags (f * 4096 + at_ / 16) (decide (p.value / 2 ^ 128 % 2 = 1)) } },
      { p with status := 0 })
  | .atomic op sg =>
    if s.framePoisoned f at_ p.length then (s, { p with status := 3 })
    else
      let old := s.frameNat f at_ p.length
      (s.writeFrame f (byteList at_ p.length (atomicNew op sg p.length old p.value)), { p with status := 0, value := old })
  | .capLoad | .gatherEntry =>
    if s.framePoisoned f at_ p.length then (s, { p with status := 3 })
    else (s, { p with status := 0, value := s.frameNat f at_ 16 + (if s.frameTag f at_ then 2 ^ 128 else 0) })
  | .jobCard =>
    if s.framePoisoned f at_ p.length then (s, { p with status := 3 })
    else
      let tags := (List.range (p.length / 16)).foldl (fun w i => if s.frameTag f (at_ + 16 * i) then w + 2 ^ i else w) 0
      (s, { p with status := 0, value := s.frameNat f at_ p.length + tags * 2 ^ (8 * p.length) })
  | _ =>
    if s.framePoisoned f at_ p.length then (s, { p with status := 3 })
    else (s, { p with status := 0, value := s.frameNat f at_ p.length })

/-- Pieces performed one after the other on a frame. -/
def State.allAtFrame (s : State) (kind : AccKind) (f : Nat) : List Piece → State × List Piece
  | [] => (s, [])
  | p :: ps =>
    let r := s.atFrame kind f p
    let t := State.allAtFrame r.1 kind f ps
    (t.1, r.2 :: t.2)

/-- The byte offsets that pieces cover. -/
def coveredBy (ps : List Piece) : List Nat := ps.flatMap fun p => (List.range p.length).map fun i => p.offset + i

/-- The poison of sectors that the stores of one request cover whole is cleared, though no one lane covers them. -/
def State.clearCovered (s : State) (f : Nat) (ps : List Piece) : State :=
  { s with mem := { s.mem with
      poison := Sparse.setAll false s.mem.poison ((wholeSectors (coveredBy ps)).map fun k => (f * 2048 + k % 2048, false)) } }

/-- Insert a piece into a list in the order of the lanes' ranks (DEDUCED, log 18). -/
def insertRanked (n : Nat) (p : Piece) : List Piece → List Piece
  | [] => [p]
  | q :: qs => if Config.laneRank n p.lane ≤ Config.laneRank n q.lane then p :: q :: qs else q :: insertRanked n p qs

/-- The order in which the pieces of one instruction are performed at one place: ascending lanes, so that of two stores of
one byte the higher lane's stays; for an atomic any order (11 R196) (DEDUCED, log 18). -/
def AccKind.inOrder (kind : AccKind) (n : Nat) (ps : List Piece) : List Piece :=
  match kind with
  | .atomic _ _ => ps.foldr (insertRanked n) []
  | _ => ps

/-- One request served by its home Weir: its pieces with their answers, and whether a page fault is `no wake`. Pieces that
wait in the miss queue keep status 0xFF (DESIGN CHOICE, log 41; DEDUCED, log 18). -/
def State.serve (s : State) (q : Requester) (kind : AccKind) (ps : List Piece) : State × List Piece × Bool :=
  match ps with
  | [] => (s, [], false)
  | p0 :: _ =>
    let off := ps.foldl (fun m p => min m p.offset) p0.offset
    let hi := ps.foldl (fun m p => max m (p.offset + p.length)) 0
    match s.translate q p0.object off kind.writes false with
    | (s, .ok leaf t) =>
      let f := leafFrame leaf
      let s := s.reach p0.object off (hi - off) leaf t kind.writes none
      let ps := kind.inOrder s.free ps
      let r := s.allAtFrame kind f ps
      ((if kind = .store then r.1.clearCovered f ps else r.1), r.2, false)
    | (s, .denied ptag) =>
      (s.logDenial q p0.object off ptag q.kind, ps.map fun p => { p with status := 1, value := 0 }, false)
    | (s, .fault nw) => (s, ps.map fun p => { p with status := 2 }, nw)
    | (s, .refused st) => (s, ps.map fun p => { p with status := st }, false)
    | (s, .hold) => (s, ps, false)

/-! ### At the stash -/

/-- The granule tags of n bytes of a stash allocation, from bit 0 on. -/
def Block.tagBits (b : Block) (off n : Nat) : Nat :=
  (List.range (n / 16)).foldl (fun w i => if Sparse.get false b.tags (off / 16 + i) then w + 2 ^ i else w) 0

/-- One piece performed on the bytes that a block's stash holds. -/
def State.inStash (s : State) (blk : Nat) (b : Block) (kind : AccKind) (p : Piece) : State × Piece :=
  let put (b : Block) (n : Nat) : State := (s.putBlock blk b).barriersTouched blk p.offset n
  match kind with
  | .store => (put (b.write (byteList p.offset p.length p.value)) p.length, { p with status := 0 })
  | .capStore =>
    let b := b.write (byteList p.offset 16 p.value)
    (put { b with tags := Sparse.set false b.tags (p.offset / 16) (decide (p.value / 2 ^ 128 % 2 = 1)) } 16, { p with status := 0 })
  | .atomic op sg =>
    if b.poisoned p.offset p.length then (s, { p with status := 3 })
    else
      let old := b.nat p.offset p.length
      (put (b.write (byteList p.offset p.length (atomicNew op sg p.length old p.value))) p.length,
        { p with status := 0, value := old })
  | .capLoad | .gatherEntry =>
    if b.poisoned p.offset p.length then (s, { p with status := 3 })
    else (s, { p with status := 0, value := b.nat p.offset 16 + b.tagBits p.offset 16 * 2 ^ 128 })
  | .jobCard =>
    if b.poisoned p.offset p.length then (s, { p with status := 3 })
    else (s, { p with status := 0, value := b.nat p.offset p.length + b.tagBits p.offset p.length * 2 ^ (8 * p.length) })
  | _ =>
    if b.poisoned p.offset p.length then (s, { p with status := 3 })
    else (s, { p with status := 0, value := b.nat p.offset p.length })

/-- The frame of a stash byte that lies in a region backed by a host-memory page of this chip. -/
def State.hostFrameOf (s : State) (b : Block) (off : Nat) : Option (Region × Nat) :=
  (b.regionAt off).bind fun r =>
    if r.cap.home != s.fab.self then none
    else
      match s.walk (s.objEntry r.cap.object).root (r.objectOff off) with
      | .leaf _ w => if leafTier w = 2 then some (r, leafFrame w) else none
      | _ => none

/-- A write to a mapped line of a host-memory page is passed to the host before it is accepted: the bytes written, with their tags
and poison, reach the frame at once, and the line stays clean (11 R208 item 1). -/
def State.passThrough (s : State) (blk off n : Nat) : State :=
  match s.block blk with
  | none => s
  | some b =>
    match s.hostFrameOf b off with
    | none => s
    | some (r, f) =>
      let at_ (a : Nat) : Nat := r.objectOff a % 65536
      let s := s.writeFrame f ((List.range n).map fun i => (at_ (off + i), Sparse.get 0 b.stash (off + i)))
      let granules := (List.range ((off + n + 15) / 16 - off / 16)).map fun k => off / 16 + k
      let sectors := (List.range ((off + n + 31) / 32 - off / 32)).map fun k => off / 32 + k
      let clean := (Sparse.get none b.lines (off / 128)).map fun l => { l with dirty := false }
      ({ s with mem := { s.mem with
          tags := Sparse.setAll false s.mem.tags (granules.map fun k => (f * 4096 + at_ (16 * k) / 16, Sparse.get false b.tags k))
          poison := Sparse.setAll false s.mem.poison (sectors.map fun k => (f * 2048 + at_ (32 * k) / 32, Sparse.get false b.poison k)) } }
        : State).putBlock blk { b with lines := Sparse.set none b.lines (off / 128) clean }

/-- The poison of sectors of a stash that the stores of one instruction cover whole is cleared, though no one lane covers them,
and with it that of the host-memory frames behind them. -/
def State.clearStash (s : State) (blk : Nat) (b : Block) (sectors : List Nat) : State :=
  let behind := sectors.filterMap fun k => (s.hostFrameOf b (32 * k)).map fun e => e.2 * 2048 + e.1.objectOff (32 * k) % 65536 / 32
  ({ s with mem := { s.mem with poison := Sparse.setAll false s.mem.poison (behind.map fun k => (k, false)) } } : State).putBlock blk
    { b with poison := Sparse.setAll false b.poison (sectors.map fun k => (k, false)) }

/-- One piece performed on the stash of a block, after its line is there; `low` is the lowest byte that the instruction asks
of the line. -/
def State.atStash (s : State) (blk : Nat) (q : Requester) (kind : AccKind) (low : Nat) (p : Piece) : State × Piece × Bool :=
  match s.block blk with
  | none => (s, { p with status := 0x04 }, false)
  | some b0 =>
    let ready : State × BitVec 8 × Bool := match b0.regionAt p.offset with
      | none => (s, 0, false)
      | some r => s.fillLine blk (p.offset / 128) r q kind.writes low
    let s := ready.1
    if ready.2.1 = 0xFF then (s, p, false)
    else if ready.2.1 ≠ 0 then
      (s, { p with status := ready.2.1, value := if ready.2.1 = 1 then 0 else p.value }, ready.2.2)
    else
      let r := s.inStash blk ((s.block blk).getD b0) kind p
      (if kind.writes && r.2.status == 0 then r.1.passThrough blk p.offset p.length else r.1, r.2, false)

/-- Pieces performed one after the other on the stash. What a line answered for one piece, it answers for the others of the
instruction that need it: they are one request (10 R183). -/
def State.stashPieces (s : State) (blk : Nat) (q : Requester) (kind : AccKind) (all : List Piece) :
    List (Nat × BitVec 8 × Bool) → List Piece → State × List Piece × Bool
  | _, [] => (s, [], false)
  | failed, p :: ps =>
    let line := p.offset / 128
    match failed.find? fun e => e.1 == line with
    | some (_, st, nw) =>
      let t := State.stashPieces s blk q kind all failed ps
      (t.1, { p with status := st, value := if st = 1 then 0 else p.value } :: t.2.1, nw || t.2.2)
    | none =>
      let low := ((all.filter fun x => x.offset / 128 == line).map Piece.offset).foldl min p.offset
      let r := s.atStash blk q kind low p
      let st := r.2.1.status
      let failed := if st = 0 ∨ st = 3 then failed else (line, st, r.2.2) :: failed
      let t := State.stashPieces r.1 blk q kind all failed ps
      (t.1, r.2.1 :: t.2.1, r.2.2 || t.2.2)

/-- The pieces of an instruction whose lines another group filled and whose PTAG is not granted: one log entry of kind 6, with
the lowest denied byte (10 R183) (DEDUCED, log 92). -/
def State.denyHits (s : State) (blk : Nat) (q : Requester) (ps : List Piece) : State × List Piece × List Piece :=
  let s := ps.foldl (fun (s : State) p => s.useHit blk (p.offset / 128) q) s
  let denied (p : Piece) : Bool := (s.hitDenied blk (p.offset / 128) q).isSome
  let bad := ps.filter denied
  let s := match bad.foldl (fun (b : Option Piece) p => match b with
      | none => some p
      | some x => if p.offset < x.offset then some p else some x) none with
    | none => s
    | some p =>
      match (s.block blk).bind fun b => b.regionAt p.offset, s.hitDenied blk (p.offset / 128) q with
      | some r, some ptag => s.logDenial { q with kind := min q.kind 6 } r.cap.object (r.objectOff p.offset) ptag
          (if q.kind = 7 then 7 else 6)
      | _, _ => s
  (s, bad.map fun p => { p with status := 1, value := 0 }, ps.filter fun p => !denied p)

/-- Every piece of an instruction on the stash. Sectors that its stores cover whole lose their poison, though no one lane
covers them (10 R191 item 1). -/
def State.allAtStash (s : State) (blk : Nat) (q : Requester) (kind : AccKind) (ps : List Piece) : State × List Piece × Bool :=
  let waits (p : Piece) : Option (BitVec 20) := s.hitUnknown blk (p.offset / 128) q
  let held := ps.filter fun p => (waits p).isSome
  let s := (held.filterMap waits).foldl (fun (s : State) ptag => s.askGrant q ptag) s
  let d := s.denyHits blk q (ps.filter fun p => (waits p).isNone)
  let r := d.1.stashPieces blk q kind d.2.2 [] d.2.2
  let s := match r.1.block blk with
    | none => r.1
    | some b =>
      let whole := wholeSectors (coveredBy (r.2.1.filter fun p => p.status == 0))
      if kind = .store ∧ whole ≠ [] then r.1.clearStash blk b whole else r.1
  (s, held ++ d.2.1 ++ r.2.1, r.2.2)

/-! ### At another chip -/

/-- The sectors that pieces touch in their 256-byte region. -/
def sectorMask (ps : List Piece) : BitVec 8 :=
  ps.foldl (fun w p => (List.range 8).foldl (fun w k =>
    if p.offset % 256 < 32 * (k + 1) ∧ 32 * k < p.offset % 256 + p.length then w ||| (1#8 <<< k) else w) w) 0

/-- The byte of a region that pieces write, the highest lane's last (11 R196). -/
def regionByte (ps : List Piece) (i : Nat) : Option Byte :=
  ps.foldl (fun b p =>
    if p.offset % 256 ≤ i ∧ i < p.offset % 256 + p.length then some (BitVec.ofNat 8 (p.value / 256 ^ (i - p.offset % 256)))
    else b) none

/-- The bytes of the sectors in a mask, with their enables. -/
def maskedBytes (ps : List Piece) (mask : BitVec 8) : List (Option Byte) :=
  (List.range 8).flatMap fun k =>
    if mask.getLsbD k then (List.range 32).map fun i => regionByte ps (32 * k + i) else []

/-- The packet of a request to another chip (02 R33, R34, R36), without its tag (DEDUCED, log 43). -/
def State.packetOf (s : State) (q : Requester) (kind : AccKind) (scope : BitVec 2) (release : Bool) (ps : List Piece) :
    Packet :=
  let p0 : Piece := ps.headD { lane := 0, start := 0, chip := 0, object := 0, offset := 0, length := 0, value := 0, status := 0 }
  let mask := sectorMask ps
  let k := (s.ctxOf q.ctx)
  let base : Packet := { Packet.zero with
    cls := 0, dst := p0.chip, src := s.fab.self, object := p0.object, context := q.ctx,
    grantHome := if grantUsable q.grant then q.grant.home else 0, grantObject := if grantUsable q.grant then q.grant.object else 0,
    keyGen := if k.prot then k.fabricGen else 0, core := BitVec.ofNat 8 q.core, scope := scope, release := release,
    offset := BitVec.ofNat 40 (p0.offset / 256 * 256), mask := mask }
  match kind with
  | .atomic op sg =>
    { base with opcode := 0x03, offset := BitVec.ofNat 40 p0.offset, oper := BitVec.ofNat 8 op,
                etype := (if p0.length = 4 then (if sg then 0x12 else 0x16) else (if sg then 0x13 else 0x17)),
                inline0 := BitVec.ofNat 64 (p0.value % 256 ^ p0.length),
                inline1 := BitVec.ofNat 64 (p0.value / 256 ^ p0.length) }
  | .store | .capStore =>
    let bytes := maskedBytes ps mask
    let part := bytes.any Option.isNone
    let en := (List.range bytes.length).foldl (fun (w : BitVec 256) i =>
      if ((bytes[i]?).getD none).isSome then w ||| (1#256 <<< i) else w) 0
    { base with opcode := 0x02, payload := bytes.map fun b => b.getD 0, enabled := part, byteEnables := if part then en else 0,
                flits := BitVec.ofNat 3 ((bytes.length + 63) / 64 + (if part then 1 else 0)),
                capTags := if kind = .capStore ∧ p0.value / 2 ^ 128 % 2 = 1 then 1#16 <<< (p0.offset % 32 / 16) else 0 }
  | _ => { base with opcode := 0x01, inline0 := BitVec.ofNat 64 q.kind }

/-- Send the request of some pieces; without a plane they answer UNREACH at once (02 R27) (DEDUCED, log 43). -/
def State.sendPieces (s : State) (h : Nat) (q : Requester) (kind : AccKind) (scope : BitVec 2) (release : Bool)
    (ps : List Piece) : State × List Piece :=
  match s.ask (dieOf q.core) (.lane h) (s.packetOf q kind scope release ps) with
  | (s, none) => (s, ps.map fun p => { p with status := 0x04 })
  | (s, some tag) => (s, ps.map fun p => { p with tag := tag })

/-- Insert a piece by its offset, behind those of the same offset. -/
def insertOffset (p : Piece) : List Piece → List Piece
  | [] => [p]
  | q :: qs => if p.offset < q.offset then p :: q :: qs else q :: insertOffset p qs

/-- Pieces in ascending order of offset (02 R36); those of one offset keep their order. -/
def byOffset (ps : List Piece) : List Piece := ps.foldl (fun l p => insertOffset p l) []

/-- The packets of an atomic request: one for each lane, since a packet carries one operand (02 R34, R33 words 6-7)
(DEDUCED, log 43). -/
def State.sendEach (s : State) (h : Nat) (q : Requester) (kind : AccKind) (scope : BitVec 2) (release : Bool) :
    List Piece → State × List Piece
  | [] => (s, [])
  | p :: ps =>
    let r := s.sendPieces h q kind scope release [p]
    let t := State.sendEach r.1 h q kind scope release ps
    (t.1, r.2 ++ t.2)

/-! ### All lanes -/

/-- Where a piece goes: a stash piece in a region of another chip's object goes to that chip. -/
def State.route (s : State) (blk : Nat) (p : Piece) : Piece :=
  if p.object != 0 then p
  else
    match (s.block blk).bind fun b => b.regionAt p.offset with
    | none => p
    | some r =>
      if r.cap.home == s.fab.self then p
      else { p with chip := r.cap.home, object := r.cap.object, offset := r.cap.base.toNat + (p.offset - r.base),
                     stash := some p.offset }

/-- A request of a group that waits in the miss queue (10 R177, R189): its pieces that have no answer, under a tag. -/
def State.hold (s : State) (h core : Nat) (ps : List Piece) : State × List Piece :=
  let tag := s.fab.nextTag
  let open_ (p : Piece) : Bool := p.status == 0xFF
  if !ps.any open_ then (s, ps)
  else
    ({ s with fab := { s.fab with nextTag := tag + 1 }
              mem := { s.mem with held := s.mem.held ++ [(tag, h, s.tickOf (dieOf core))] } },
      ps.map fun p => if open_ p then { p with tag := tag } else p)

/-- A request to a Weir of this chip: bytes beyond the object's size fault by themselves (10 R176). -/
def State.serveHere (s : State) (q : Requester) (kind : AccKind) (ps : List Piece) : State × List Piece × Bool :=
  let last := (s.objEntry ((ps.map Piece.object).headD 0)).last
  let a := s.serve q kind (ps.filter fun p => decide (p.offset ≤ last))
  let b := a.1.serve q kind (ps.filter fun p => decide (last < p.offset))
  (b.1, a.2.1 ++ b.2.1, a.2.2 || b.2.2)

/-- Every request of an instruction, in ascending order of chip, object and offset. -/
def State.serveKeys (s : State) (h : Nat) (q : Requester) (kind : AccKind) (scope : BitVec 2) (release : Bool)
    (ps : List Piece) : List Nat → State × List Piece × Bool
  | [] => (s, [], false)
  | k :: ks =>
    let mine := ps.filter fun p => p.key == k
    let p0 : Piece := mine.headD { lane := 0, start := 0, chip := 0, object := 0, offset := 0, length := 0, value := 0, status := 0 }
    let r : State × List Piece × Bool :=
      if p0.chip == s.fab.self then
        let a := if s.missFull (homeSlice p0.object (p0.offset / 65536)) then (s, mine, false) else s.serveHere q kind mine
        let b := a.1.hold h q.core a.2.1
        (b.1, b.2, a.2.2)
      else
        match kind with
        | .atomic _ _ => let t := s.sendEach h q kind scope release (byOffset (kind.inOrder s.free mine)); (t.1, t.2, false)
        | _ => let t := s.sendPieces h q kind scope release mine; (t.1, t.2, false)
    let t := State.serveKeys r.1 h q kind scope release ps ks
    (t.1, r.2.1 ++ t.2.1, r.2.2 || t.2.2)

/-- The tick at which a fault marked no wake replays (10 R178): 1,000 ticks on; else 0 (DESIGN CHOICE, log 75). -/
def State.replayTick (s : State) (core : Nat) (noWake : Bool) : W64 := if noWake then s.tickOf (dieOf core) + 1000 else 0

/-- Part of a piece: n of its bytes from byte i on. -/
def Piece.part (p : Piece) (i n : Nat) : Piece :=
  { p with start := p.start + i, offset := p.offset + i, length := n, value := p.value / 256 ^ i }

/-- Whether a piece of a higher lane writes a byte of this one. -/
def Piece.over (q p : Piece) (i : Nat) : Bool :=
  decide (p.lane < q.lane) && q.chip == p.chip && q.object == p.object && decide (q.offset ≤ p.offset + i)
    && decide (p.offset + i < q.offset + q.length)

/-- The contiguous runs of some bytes of a piece, ascending. -/
def Piece.runs (p : Piece) (bs : List Nat) : List Piece :=
  bs.foldr (fun i rs => match rs with
    | [] => [p.part i 1]
    | r :: rest => if r.start = p.start + i + 1 then p.part i (r.length + 1) :: rest else p.part i 1 :: r :: rest) []

/-- The writes of a store instruction (11 R196): where lanes store to one byte, only the highest lane's is a write
(DEDUCED, log 44). -/
def survivors (ps : List Piece) : List Piece :=
  ps.flatMap fun p =>
    let bs := (List.range p.length).filter fun i => !ps.any fun q => q.over p i
    if bs.length = p.length then [p] else p.runs bs

/-- A read at system scope that acquires discards the clean lines of the context's host-memory pages first (11 R208 item 3). -/
def State.acquireSys (s : State) (g : Group) (acquires : Bool) (scope : BitVec 2) : State :=
  if acquires && scope == 2 then s.discardHost g.ctx else s

/-- The reads that acquire when they name a scope: loads and the read of a WAIT. -/
def AccKind.acquires : AccKind → Bool
  | .load _ | .loadScalar _ | .waitRead => true
  | _ => false

/-- Perform the pieces of an instruction: those refused (10 R178) answer PAGEREF, those of the stash go to their bank,
those of this chip to their Weirs, and the rest leave as packets (DESIGN CHOICE, log 41; DEDUCED, log 18, 44). -/
def State.access (s : State) (h : Nat) (g : Group) (kind : AccKind) (log : Nat) (scope : BitVec 2) (release : Bool)
    (ps : List Piece) : State × List Piece × Bool :=
  let s := (s.acquireSys g kind.acquires scope).freshGrants g.grant.home g.grant.object
  let ps := ps.map (s.route g.block)
  let q := s.groupReq h g log
  let isRef (p : Piece) : Bool := g.refusedFor.contains (p.lane / 4) && g.refusedOn.contains (s.placeOf g.block p)
  let refused := (ps.filter isRef).map fun p => { p with status := 0x0A }
  let live := ps.filter fun p => !isRef p
  let a := s.allAtStash g.block q kind (kind.inOrder s.free (live.filter fun p => p.object == 0))
  let near := a.1.hold h q.core a.2.1
  let far := live.filter fun p => p.object != 0
  let b := near.1.serveKeys h q kind scope release far (sortKeys (far.map Piece.key))
  (b.1, refused ++ near.2 ++ b.2.1, a.2.2 || b.2.2)

/-- The log kind of the denials of an instruction (10 R183). -/
def AccKind.logKind : AccKind → Nat
  | .store | .capStore => 2
  | .atomic _ _ => 3
  | .gatherData => 1
  | .jobCard => 4
  | _ => 0

/-- A capability of 128 bits and a tag (10 R167). -/
def capOf (v : Nat) : Cap :=
  let w := BitVec.ofNat 128 v
  { home := w.extractLsb' 116 12, object := w.extractLsb' 88 28, base := w.extractLsb' 48 40, length := w.extractLsb' 8 40,
    rights := w.extractLsb' 0 8, tag := decide (v / 2 ^ 128 % 2 = 1) }

/-- The 128 bits of a capability, with its tag as bit 128. -/
def Cap.toNat (c : Cap) : Nat :=
  c.home.toNat * 2 ^ 116 + c.object.toNat * 2 ^ 88 + c.base.toNat * 2 ^ 48 + c.length.toNat * 2 ^ 8 + c.rights.toNat
    + (if c.tag then 2 ^ 128 else 0)

/-- Who asks for a held request: the read of a WAIT under the grant map as it stood at issue (15 R271). -/
def State.heldReq (s : State) (h : Nat) (g : Group) (o : MemOp) : Requester :=
  match o.kind, g.waits.find? fun r => r.slices == o.slices with
  | .waitRead, some r => s.groupReq h { g with grant := r.grant } (if r.logged then 7 else 0)
  | .waitRead, none => s.groupReq h { g with grant := capOf (o.args.getD 6 0) } 0
  | _, _ => s.groupReq h g o.kind.logKind

/-! ### What the statuses do (13 R232) -/

/-- Whether a status traps: any but OK, DENIED, PAGEFAULT and POISON (DEDUCED, log 44). -/
def statusTraps (st : BitVec 8) : Bool := decide (3 < st.toNat)

/-- The cause and detail of a trapping status: CTXBUSY, CRYPTO and KEYGONE, PAGEREF; every other counts as UNREACH. -/
def statusCause (st : BitVec 8) : Cause × BitVec 8 :=
  if st = 0x08 then (.ctxbusy, 0x08) else if st = 0x09 then (.crypto, 0x02) else if st = 0x0B then (.crypto, 0x03)
  else if st = 0x0A then (.pageref, 0x0A) else (.unreach, 0x04)

/-- The lanes of a memory instruction, ascending. -/
def MemOp.lanes (o : MemOp) : List Nat := sortKeys (o.pieces.map Piece.lane)

/-- The pieces of a lane. -/
def MemOp.of (o : MemOp) (l : Nat) : List Piece := o.pieces.filter fun p => p.lane == l

/-- Of two trapping statuses the one whose cause is lower (13 R232 item 1). -/
def lowerCause (a b : BitVec 8) : BitVec 8 :=
  if (statusCause b).1.code.toNat < (statusCause a).1.code.toNat then b else a

/-- The status of a lane: that of the lowest trapping cause of its pieces, else POISON, else PAGEFAULT, else accepted. -/
def MemOp.statusOf (o : MemOp) (l : Nat) : BitVec 8 :=
  let ss := (o.of l).map Piece.status
  match ss.filter statusTraps with
  | st :: rest => rest.foldl lowerCause st
  | [] => if ss.contains 3 then 3 else if ss.contains 2 then 2 else 0

/-- The value of an accepted lane: its pieces put together. -/
def MemOp.valueOf (o : MemOp) (l : Nat) : Nat :=
  (o.of l).foldl (fun v p => v + p.value % 256 ^ (if o.kind = .jobCard then p.length + 9 else p.length + 1) * 256 ^ p.start) 0

/-- A load's value, extended. -/
def extend (sext : Bool) (z w v : Nat) : Nat :=
  let v := v % 256 ^ z
  if sext ∧ 256 ^ z ≤ 2 * v ∧ z < w then v + (256 ^ w - 256 ^ z) else v

/-- The register writes of the accepted lanes of an instruction, as a pending result (08 R136). The destination of a
vector form is an absolute register (DESIGN CHOICE, log 41). -/
def MemOp.result (o : MemOp) (g : Group) (accepted : List Nat) : Pending :=
  let wide (l v : Nat) : List (Nat × W32) :=
    (o.dst * 128 + l, BitVec.ofNat 32 v) :: (if o.size = 8 then [((o.dst + 1) * 128 + l, BitVec.ofNat 32 (v / 2 ^ 32))] else [])
  match o.kind with
  | .load sext =>
    { slices := o.slices, vecs := accepted.flatMap fun l => wide l (extend sext o.size 4 (o.valueOf l)) }
  | .gatherData => { slices := o.slices, vecs := accepted.flatMap fun l => wide l (extend false o.size 4 (o.valueOf l)) }
  | .atomic _ _ =>
    let both (l : Nat) : List Nat := if g.prot then [l, l + 1] else [l]
    { slices := o.slices, vecs := accepted.flatMap fun l => (both l).flatMap fun k => wide k (o.valueOf l % 256 ^ o.size) }
  | .loadScalar sext =>
    { slices := o.slices, serial := o.serial, bits := ~~~o.lost,
      scalar := if o.lost = BitVec.allOnes 64 then none
        else accepted.head?.map fun l => (o.dst, BitVec.ofNat 64 (extend sext o.size 8 (o.valueOf l))) }
  | .capLoad =>
    { slices := o.slices, serial := o.serial,
      capr := if o.lost = 0 then accepted.head?.map fun l => (o.dst, capOf (o.valueOf l)) else none }
  | _ => { slices := o.slices }

/-- The elements that an XLD writes when its data arrive: those inside the shape of each accepted lane. -/
def MemOp.matrixWrites (o : MemOp) (g : Group) (accepted : List Nat) : List (Nat × W32) :=
  match o.kind with
  | .matrixLoad wide =>
    accepted.flatMap fun l =>
      let sh := Sparse.get (1, 1) g.shape (o.dst * 96 + l)
      let v := o.valueOf l
      (List.range sh.1).flatMap fun i => (List.range sh.2).flatMap fun j =>
        let e := sh.2 * i + j
        let key (k : Nat) : Nat := (k * 96 + l) * 36 + 6 * i + j
        if wide then [(key o.dst, BitVec.ofNat 32 (v / 2 ^ (64 * e))), (key (o.dst + 1), BitVec.ofNat 32 (v / 2 ^ (64 * e + 32)))]
        else [(key o.dst, BitVec.ofNat 32 (v / 2 ^ (32 * e)))]
  | _ => []

/-- Record the lanes that an instruction has not finished (09 R147). -/
def Group.setUnfinished (g : Group) (slices : List Nat) (pc : W64) (lanes : List Nat) : Group :=
  g.mapSlices (fun i sl =>
    if lanes = [] ∧ sl.replay ≠ pc then sl else { sl with unfinished := laneSet i lanes, replay := pc }) slices

/-- The group-scope park of a page fault (10 R180): every slice that is READY parks. -/
def Group.parkGroup (g : Group) (p : Park) : Group :=
  g.mapSlices (fun _ sl => if sl.state = .ready then sl.parkAt p 0 0 else sl) g.live

/-- Loads, atomics and capability loads leave a pending result; stores leave none. -/
def Group.addPendingIf (g : Group) (o : MemOp) (p : Pending) : Group :=
  match o.kind with
  | .load _ | .atomic _ _ | .gatherData => g.addPending p
  | .loadScalar _ | .capLoad => g.addInOrder p
  | _ => g

/-- The table entries that a gather has read, without those of a gang. -/
def Group.dropEntries (g : Group) (slices : List Nat) : Group :=
  { g with entries := g.entries.filter fun e => !slices.contains (e.1 / 4) }

/-- Before a rollback on poison (13 R232 item 2) every clean stash copy of a poisoned sector is discarded, chip-wide. -/
def State.dropPoisonCopies (s : State) (blk : Nat) (ps : List Piece) : State :=
  ps.foldl (fun (s : State) (p : Piece) =>
    let at_ : BitVec 28 × Nat := if p.object != 0 then (p.object, p.offset) else
      match (s.block blk).bind fun b => b.regionAt p.offset with
      | none => (0, 0)
      | some r => (r.cap.object, r.objectOff p.offset)
    if at_.1 = 0 ∨ (p.object ≠ 0 ∧ p.chip ≠ s.fab.self) then s
    else
      (s.copiesOf at_.1 at_.2 p.length).foldl (fun (s : State) c =>
        match s.block c.1 with
        | none => s
        | some b =>
          match Sparse.get none b.lines c.2.1 with
          | some l => if l.dirty then s else s.putBlock c.1 { b with lines := Sparse.set none b.lines c.2.1 none }
          | none => s) s) s

/-- The refusal that a gang's accesses met is over (10 R180). -/
def Group.endRefusal (g : Group) (slices : List Nat) : Group :=
  if slices.any fun i => g.refusedFor.contains i then { g with refusedOn := [], refusedFor := [] } else g

/-- The group-scope park of a page fault that an instruction of some slices met at some pages (10 R178, R180). -/
def State.parkFault (s : State) (h : Nat) (g : Group) (slices : List Nat) (places : List (BitVec 28 × Nat)) (writes noWake : Bool) :
    State :=
  let g := { g with faultedOn := places, faultKinds := places.map fun p => s.pageKind p writes false, faultSlices := slices,
                    noWake := noWake, noWakeAt := s.replayTick g.core noWake }
  s.putGroup h (g.parkGroup .pageFault)

/-- Settle a memory instruction whose lanes have all answered: `none` beside the state when it trapped, rolled back or
parked, and the group when every lane was accepted. -/
def State.settleMem (s : State) (h : Nat) (o : MemOp) (noWake : Bool) : State × Option Group :=
  match s.group h with
  | none => (s, none)
  | some g =>
    let lanes := o.lanes
    let accepted := lanes.filter fun l => o.statusOf l == 0
    let rest := lanes.filter fun l => o.statusOf l != 0
    let trapping := rest.filter fun l => statusTraps (o.statusOf l)
    let poisoned := rest.filter fun l => o.statusOf l == 3
    let faulted := (o.pieces.filter fun p => p.status == 2).map (s.placeOf g.block)
    let g := { g.endRefusal o.slices with x := Sparse.setAll 0 g.x (o.matrixWrites g accepted) }
    let left := if o.kind = .gatherEntry ∧ (trapping ≠ [] ∨ poisoned ≠ []) then
        sortKeys (lanes ++ (g.entries.map Prod.fst).filter fun l => o.slices.contains (l / 4))
      else rest
    let g := g.setUnfinished o.slices o.pc left
    let g := if o.kind = .gatherEntry then { g with entries := g.entries ++ accepted.map fun l => (l, capOf (o.valueOf l)) }
      else g
    let res := o.result g accepted
    if trapping ≠ [] then
      let best := trapping.foldl (fun (b : Option (Nat × Nat)) l =>
        let c := (statusCause (o.statusOf l)).1.code.toNat
        match b with
        | none => some (c, l)
        | some (c0, l0) => if c < c0 then some (c, l) else some (c0, l0)) none
      let lane := (best.map Prod.snd).getD 0
      let cd := statusCause (o.statusOf lane)
      (s.raise h ((g.dropEntries o.slices).addPendingIf o res) o.slices o.pc
        { cause := cd.1.code, detail := cd.2, lane := lane, lanes := trapping, resume := o.pc }, none)
    else if poisoned ≠ [] then
      let t : TrapInfo := { cause := Cause.mempoison.code, detail := 0x03, lane := poisoned.headD 0, lanes := poisoned,
                            resume := o.pc }
      let inHandler := g.handling && sliceBits o.slices &&& g.tstat &&& 0xFFFFFF#64 != 0
      if g.repc.getLsbD 0 && !g.firstPoison.contains o.pc && !inHandler then
        let g := g.repeatAt o.pc false
        let s := s.dropPoisonCopies g.block (o.pieces.filter fun p => p.status == 3)
        (({ s with fw := { s.fw with transient := s.fw.transient + 1 } } : State).putGroup h g.rollback, none)
      else (s.raise h ((g.dropEntries o.slices).addPendingIf o res) o.slices o.pc t, none)
    else if faulted ≠ [] then
      (s.parkFault h (g.writeNow res) o.slices faulted.eraseDups o.kind.writes noWake, none)
    else (s.repeatPassed g [o.pc] [true, false], some ((g.repeatPassed [o.pc] [true, false]).addPendingIf o res))
/-- The lanes that a memory instruction of the issuing gang acts on: the unfinished lanes of its own reissue, else
Active() (10 R180). -/
def Group.memLanes (g : Group) (slices : List Nat) (pc : W64) : List Nat :=
  let mine := slices.filter fun i => (g.slice i).replay = pc
  let unf := g.unfinishedOf mine
  if unf = [] then g.active slices else unf

/-- The lanes of a form that accesses memory once for each visible lane (08 R144): the even physical lanes. -/
def Group.onePerVisible (g : Group) (lanes : List Nat) : List Nat :=
  if g.prot then lanes.filter fun l => l % 2 == 0 else lanes

/-- After the accesses: wait for answers of other chips (10 R179), or settle and go on (DEDUCED, log 44). -/
def State.afterAccess (s : State) (h : Nat) (o : MemOp) (noWake : Bool) (k : MemOp → State → Group → Res) : Res :=
  if o.pieces.any fun p => p.status == 0xFF then
    match s.group h with
    | none => .next s
    | some g => .next (s.putGroup h { g with memOps := g.memOps ++ [o] })
  else
    match s.settleMem h o noWake with
    | (s, none) => .next s
    | (s, some g) => k o s g

/-- Run the lanes of a memory instruction whose checks have passed. Which lanes' stores are writes is settled over all active
lanes; of these, a reissue performs those of its unfinished lanes (11 R196, 10 R180) (DEDUCED, log 44). -/
def State.runLanes (s : State) (h : Nat) (g : Group) (o : MemOp) (log : Nat) (scope : BitVec 2) (release : Bool)
    (as : List LaneReq) (k : MemOp → State → Group → Res) : Res :=
  let ps := as.flatMap splitLane
  let lanes := g.memLanes o.slices o.pc
  let ps := if o.kind = .store then (survivors ps).filter fun p => lanes.contains p.lane else ps
  let r := s.access h g o.kind log scope release ps
  r.1.afterAccess h { o with pieces := r.2.1 } r.2.2 k

/-- The next instruction, for a memory instruction that finished. -/
def State.memDone (h : Nat) (o : MemOp) (s : State) (g : Group) : Res :=
  .next (s.putGroup h ((g.dropEntries o.slices).goTo o.slices (o.pc + 4) o.y))

/-- The rights that mapped regions lack for a stash store (17 R316): the lanes that trap CAPRIGHT. -/
def State.regionDenies (s : State) (blk : Nat) (as : List LaneReq) : List Nat :=
  (as.filter fun a => a.cap.isStash && (splitLane a).any fun p =>
    match (s.block blk).bind fun b => b.regionAt p.offset with
    | none => false
    | some r => !r.cap.has rW).map LaneReq.lane

/-- Rows 7-10 of 13 R230 over the lanes of a memory instruction, with the rights of mapped regions after them. -/
def State.checkFail (s : State) (g : Group) (kind : AccKind) (align : Nat) (rights : BitVec 8) (as : List LaneReq) :
    Option (Cause × List Nat) :=
  match checkLanes align rights (s.allocOf g) as with
  | some r => some r
  | none =>
    let weak := if kind.writes then s.regionDenies g.block as else []
    if weak = [] then none else some (.capright, weak)

/-- The even lanes of the pairs that differ under protected launch (08 R144). -/
def mismatches (as : List LaneReq) : List Nat :=
  (as.filter fun a => a.lane % 2 == 0 && as.any fun b =>
    b.lane == a.lane + 1 && (b.cap != a.cap || b.off != a.off || b.value != a.value)).map LaneReq.lane

/-- A mismatch (08 R144): a rollback to the region entry, or a halt when it is lasting. -/
def State.mismatch (s : State) (g : Group) (lane : Nat) : State :=
  let pc := s.cursor.pc
  if g.repc.getLsbD 0 && !g.firstMismatch.contains pc then
    let g := g.repeatAt pc true
    ({ s with fw := { s.fw with transient := s.fw.transient + 1 } } : State).putGroup s.cursor.group g.rollback
  else s.halt s.cursor.group g 0x0002 pc (tstatOf g.handling 0 0x02 lane s.cursor.slices)

/-- Check and run the lanes of a plain memory instruction. A scalar form's tests are those of the gang (13 R231). -/
def State.checkRun (s : State) (g : Group) (o : MemOp) (scalar : Bool) (align : Nat) (rights : BitVec 8) (log : Nat)
    (scope : BitVec 2) (release : Bool) (as : List LaneReq) (k : MemOp → State → Group → Res) : Res :=
  match s.checkFail g o.kind align rights as with
  | some (c, lanes) => if scalar then s.trapHere g c else s.trapLanes g c lanes
  | none =>
    if g.prot && o.kind.writes && !scalar then
      match mismatches as with
      | lane :: _ => .next (s.mismatch g lane)
      | [] => s.runLanes s.cursor.group g o log scope release (as.filter fun a => a.lane % 2 == 0) k
    else s.runLanes s.cursor.group g o log scope release as k

end Sys2Proof.Machine
end

