-- ==== Sys2Proof/Machine/Memory.lean ====
section
/-! DEFINITION. Loads, stores, gathers, atomics, capability loads and stores, prefetch, fences and WAIT (17 R306-R313; 15 R270,
R271). -/

namespace Sys2Proof.Machine

/-- The offset of a lane (17 R303): 32 bits of v_n, or 64 bits of the pair for a long form. -/
def Group.offOf (g : Group) (long : Bool) (n l : Nat) : Nat :=
  if long then (g.rp n l).toNat else (g.rv n l).toNat

/-- The access size of a width field. -/
def sizeOf (w : BitVec 2) : Nat := 2 ^ w.toNat

/-- The scope of a packet (02 R33 word 1): chip, pod, system. -/
def packetScope (sc : BitVec 2) : BitVec 2 := if sc = 0 then 0 else sc - 1

/-- The description of the issuing gang's memory instruction. -/
def State.memOp (s : State) (y : Bool) (kind : AccKind) (size dst : Nat) : MemOp :=
  { slices := s.cursor.slices, pc := s.cursor.pc, y := y, kind := kind, size := size, dst := dst, args := [], pieces := []
    serial := ((s.group s.cursor.group).map Group.lastIssue).getD 0 }

/-- A vector load (17 R306): v_d, or the pair at width 3, takes z bytes of each lane. -/
def State.vecLoad (s : State) (y sext long : Bool) (w scope : BitVec 2) (d a b : Fld) : Res :=
  s.issue fun g => s.need g (g.valIn (w == 3) d.toNat && g.valIn long b.toNat) (
    let o := s.memOp y (.load sext) (sizeOf w) (g.winb + d.toNat)
    let as : List LaneReq := (g.memLanes o.slices o.pc).map fun l =>
      { lane := l, cap := g.rc a.toNat, off := g.offOf long b.toNat l, size := o.size }
    s.checkRun g o false 1 rR 0 (packetScope scope) false as (State.memDone s.cursor.group))

/-- The lane of a scalar form (17 R303): the lowest, if the gang has an active lane. -/
def Group.scalarLane (g : Group) (o : MemOp) : List Nat := (g.memLanes o.slices o.pc).take 1

/-- A scalar load: s_d takes z bytes once for the gang. -/
def State.scalarLoad (s : State) (y sext : Bool) (w scope : BitVec 2) (d a b : Fld) : Res :=
  s.issue fun g =>
    let o := s.memOp y (.loadScalar sext) (sizeOf w) d.toNat
    let as : List LaneReq := (g.scalarLane o).map fun l =>
      { lane := l, cap := g.rc a.toNat, off := (g.rs b.toNat).toNat, size := o.size }
    s.checkRun g o true 1 rR 0 (packetScope scope) false as (State.memDone s.cursor.group)

/-- A vector store (17 R308): the low z bytes of v_d, or of the pair at width 3. -/
def State.vecStore (s : State) (y long : Bool) (w scope : BitVec 2) (release : Bool) (d a b : Fld) : Res :=
  s.issue fun g => s.need g (g.valIn (w == 3) d.toNat && g.valIn long b.toNat) (
    let o := s.memOp y .store (sizeOf w) 0
    let as : List LaneReq := (g.active o.slices).map fun l =>
      { lane := l, cap := g.rc a.toNat, off := g.offOf long b.toNat l, size := o.size,
        value := g.val (w == 3) d.toNat l % 256 ^ o.size }
    s.checkRun g o false 1 rW 2 (packetScope scope) release as (State.memDone s.cursor.group))

/-- The operands of an atomic (17 R310): D, or for CAS C with N above it. -/
def Group.atomValue (g : Group) (wide cas : Bool) (d l : Nat) : Nat :=
  if cas then
    if wide then (g.rp d l).toNat + 2 ^ 64 * (g.rp (d + 2) l).toNat else (g.rv d l).toNat + 2 ^ 32 * (g.rv (d + 1) l).toNat
  else g.val wide d l

/-- An atomic of operation op (17 R310): its type gives size and sign, its flavour the release. -/
def State.atom (s : State) (y : Bool) (op : Nat) (t : BitVec 2) (d : Fld) (fl sc : BitVec 2) (c : BitVec 3) (b : Fld) : Res :=
  s.issue fun g =>
    let wide := t.getLsbD 1
    let regs := (if op = 5 then 2 else 1) * (if wide then 2 else 1)
    s.need g (g.inWindow (d.toNat + regs - 1) && g.inWindow b.toNat) (
      let o := s.memOp y (.atomic op (!t.getLsbD 0)) (if wide then 8 else 4) (g.winb + d.toNat)
      let as : List LaneReq := (g.memLanes o.slices o.pc).map fun l =>
        { lane := l, cap := g.rc c.toNat, off := (g.rv b.toNat l).toNat, size := o.size,
          value := g.atomValue wide (op == 5) d.toNat l }
      let s := s.acquireSys g (fl.getLsbD 0 && (s.checkFail g o.kind o.size (rR ||| rW) as).isNone) (packetScope sc)
      s.checkRun g o false o.size (rR ||| rW) 3 (packetScope sc) (fl.getLsbD 1) as (State.memDone s.cursor.group))

/-- LD.I (R306). -/
def execLdI (y : Bool) (w : BitVec 2) (d a b : Fld) (s : State) : Res :=
  s.vecLoad y true false w 0 d a b

/-- LD.N (R306). -/
def execLdN (y : Bool) (w : BitVec 2) (d a b : Fld) (s : State) : Res :=
  s.vecLoad y false false w 0 d a b

/-- SLD.I (R306). -/
def execSldI (y : Bool) (w : BitVec 2) (d a b : Fld) (s : State) : Res :=
  s.scalarLoad y true w 0 d a b

/-- SLD.N (R306). -/
def execSldN (y : Bool) (w : BitVec 2) (d a b : Fld) (s : State) : Res :=
  s.scalarLoad y false w 0 d a b

/-- LD.L.I (R306). -/
def execLdLI (y : Bool) (w : BitVec 2) (d a b : Fld) (s : State) : Res :=
  s.vecLoad y true true w 0 d a b

/-- LD.L.N (R306). -/
def execLdLN (y : Bool) (w : BitVec 2) (d a b : Fld) (s : State) : Res :=
  s.vecLoad y false true w 0 d a b

/-- LD.ACQ.N (R306, R307): its reads are bound when it is accepted, so nothing later of the gang passes it. -/
def execLdAcq (y : Bool) (w s_ : BitVec 2) (d a b : Fld) (s : State) : Res :=
  s.vecLoad y false false w s_ d a b

/-- SLD.ACQ.N (R306, R307). -/
def execSldAcq (y : Bool) (w s_ : BitVec 2) (d a b : Fld) (s : State) : Res :=
  s.scalarLoad y false w s_ d a b

/-- LDX (R309), in two phases: the table entries, then the data. A phase is one issue; entries read stay with the group
until the gather ends. -/
def execLdx (y : Bool) (w : BitVec 2) (d a b : Fld) (s : State) : Res :=
  s.issue fun g => s.need g (g.valIn (w == 3) d.toNat && g.pairIn b.toNat) (
    let sl := s.cursor.slices
    let pc := s.cursor.pc
    let mine := g.entries.filter fun e => sl.contains (e.1 / 4)
    let unf := g.unfinishedOf (sl.filter fun i => (g.slice i).replay == pc)
    let first := (g.memLanes sl pc).filter fun l => !mine.any fun e => e.1 == l
    if mine = [] ∨ (unf ≠ [] ∧ first ≠ []) then
      let o := s.memOp y .gatherEntry 16 0
      if first = [] then s.retire y g
      else
        let as : List LaneReq := first.map fun l =>
          { lane := l, cap := g.rc a.toNat, off := 16 * (g.rv (b.toNat + 1) l).toNat, size := 16 }
        s.checkRun g o false 16 (rR ||| rLC) 0 0 false as fun _ s g => .next (s.putGroup s.cursor.group g)
    else
      let o := s.memOp y .gatherData (sizeOf w) (g.winb + d.toNat)
      let lanes := if unf = [] then sortKeys (mine.map Prod.fst) else unf
      let as : List LaneReq := lanes.map fun l =>
        { lane := l, cap := ((mine.find? fun e => e.1 == l).map Prod.snd).getD {}, off := (g.rv b.toNat l).toNat,
          size := o.size }
      s.checkRun (g.dropEntries sl) o false 1 rR 1 0 false as (State.memDone s.cursor.group))

/-- ST.N (R308). -/
def execStN (y : Bool) (w : BitVec 2) (d a b : Fld) (s : State) : Res :=
  s.vecStore y false w 0 false d a b

/-- SST.N (R308): one store for the gang. -/
def execSstN (y : Bool) (w : BitVec 2) (d a b : Fld) (s : State) : Res :=
  s.issue fun g =>
    let o := s.memOp y .store (sizeOf w) 0
    let as : List LaneReq := (g.scalarLane o).map fun l =>
      { lane := l, cap := g.rc a.toNat, off := (g.rs b.toNat).toNat, size := o.size,
        value := (g.rs d.toNat).toNat % 256 ^ o.size }
    s.checkRun g o true 1 rW 2 0 false as (State.memDone s.cursor.group)

/-- ST.L.N (R308). -/
def execStLN (y : Bool) (w : BitVec 2) (d a b : Fld) (s : State) : Res :=
  s.vecStore y true w 0 false d a b

/-- ST.REL.N (R308). -/
def execStRel (y : Bool) (w s_ : BitVec 2) (d a b : Fld) (s : State) : Res :=
  s.vecStore y false w s_ true d a b

/-- ATOM.ADD (R310). -/
def execAtomAdd (y : Bool) (t : BitVec 2) (d : Fld) (f s_ : BitVec 2) (c : BitVec 3) (b : Fld) (s : State) : Res :=
  s.atom y 0 t d f s_ c b

/-- ATOM.AND (R310). -/
def execAtomAnd (y : Bool) (t : BitVec 2) (d : Fld) (f s_ : BitVec 2) (c : BitVec 3) (b : Fld) (s : State) : Res :=
  s.atom y 1 t d f s_ c b

/-- ATOM.OR (R310). -/
def execAtomOr (y : Bool) (t : BitVec 2) (d : Fld) (f s_ : BitVec 2) (c : BitVec 3) (b : Fld) (s : State) : Res :=
  s.atom y 2 t d f s_ c b

/-- ATOM.XOR (R310). -/
def execAtomXor (y : Bool) (t : BitVec 2) (d : Fld) (f s_ : BitVec 2) (c : BitVec 3) (b : Fld) (s : State) : Res :=
  s.atom y 3 t d f s_ c b

/-- ATOM.SWAP (R310). -/
def execAtomSwap (y : Bool) (t : BitVec 2) (d : Fld) (f s_ : BitVec 2) (c : BitVec 3) (b : Fld) (s : State) : Res :=
  s.atom y 4 t d f s_ c b

/-- ATOM.CAS (R310). -/
def execAtomCas (y : Bool) (t : BitVec 2) (d : Fld) (f s_ : BitVec 2) (c : BitVec 3) (b : Fld) (s : State) : Res :=
  s.atom y 5 t d f s_ c b

/-- ATOM.MIN (R310). -/
def execAtomMin (y : Bool) (t : BitVec 2) (d : Fld) (f s_ : BitVec 2) (c : BitVec 3) (b : Fld) (s : State) : Res :=
  s.atom y 6 t d f s_ c b

/-- ATOM.MAX (R310). -/
def execAtomMax (y : Bool) (t : BitVec 2) (d : Fld) (f s_ : BitVec 2) (c : BitVec 3) (b : Fld) (s : State) : Res :=
  s.atom y 7 t d f s_ c b

/-- CLD (R313): c_d takes the granule and its tag. -/
def execCld (y : Bool) (d a b : Fld) (s : State) : Res :=
  s.issue fun g =>
    let o := s.memOp y .capLoad 16 d.toNat
    let as : List LaneReq := (g.scalarLane o).map fun l =>
      { lane := l, cap := g.rc a.toNat, off := (g.rs b.toNat).toNat, size := 16 }
    s.checkRun g o true 16 (rR ||| rLC) 0 0 false as (State.memDone s.cursor.group)

/-- CST (R313): the granule takes c_d and its tag. -/
def execCst (y : Bool) (d a b : Fld) (s : State) : Res :=
  s.issue fun g =>
    let o := s.memOp y .capStore 16 0
    let as : List LaneReq := (g.scalarLane o).map fun l =>
      { lane := l, cap := g.rc a.toNat, off := (g.rs b.toNat).toNat, size := 16, value := (g.rc d.toNat).toNat }
    s.checkRun g o true 16 (rW ||| rSC) 2 0 false as (State.memDone s.cursor.group)

/-- A prefetch of a line of this chip: whether its page is there and granted, and nothing holds it up
(DESIGN CHOICE, log 82; DEDUCED, log 83). -/
def State.prefetchable (s : State) (q : Requester) (o : BitVec 28) (off : Nat) : Bool :=
  match s.plainPage o off with
  | none => false
  | some (w, t) => s.levee q (leafPtag w) && !t.publishing && !(t.isContext && s.contextBusy o q false)

/-- The prefetch of one lane (R312): a line of a mapped range comes into the stash, another line of this chip into its LLC slice,
where a host-memory page shows it; a line of another chip is asked for by no packet of 02 R34
(DESIGN CHOICE, log 82; DEDUCED, log 83). -/
def State.prefetch (s : State) (g : Group) (c : Cap) (off : Nat) : State :=
  let q := s.groupReq s.cursor.group g 7
  let at_ := c.base.toNat + off
  if !c.tag || !c.has rR || decide (c.length.toNat < off + 1) then s
  else if !c.isStash then
    let line := at_ / 128 * 128
    if c.home != s.fab.self then s
    else
      let s := s.refusePrefetch q c.object line
      if s.prefetchable q c.object line && !s.missFull (homeSlice c.object (line / 65536)) then
        match s.translate q c.object line false false with
        | (s, .ok leaf t) => s.reach c.object line 128 leaf t false none
        | (s, _) => s
      else s
  else if decide (s.allocOf g ≤ at_) then s
  else
    match (s.block g.block).bind fun b => b.regionAt at_ with
    | none => s
    | some r =>
      let line := at_ / 128
      if r.cap.home != s.fab.self || ((s.block g.block).bind fun b => Sparse.get none b.lines line).isSome then s
      else
        let s := s.refusePrefetch q r.cap.object (r.objectOff (128 * line))
        if s.prefetchable q r.cap.object (r.objectOff (128 * line)) then (s.fillLine g.block line r q false (128 * line)).1 else s

/-- PREF (R312): it never traps for its checks, never parks, and returns nothing (DESIGN CHOICE, log 82). -/
def execPref (y : Bool) (a b : Fld) (s : State) : Res :=
  s.issue fun g => s.need g (g.inWindow b.toNat) (
    let t := (g.active s.cursor.slices).foldl (fun s l => s.prefetch g (g.rc a.toNat) (g.rv b.toNat l).toNat) s
    t.retire y g)

/-- A fence (R311): the gang's earlier reads are bound and its writes accepted when it issues, so it only goes on. -/
def State.fence (s : State) (y : Bool) : Res := s.issue fun g => s.retire y g

/-- An acquire or full fence at system scope: the chip discards its clean lines of the context's host-memory pages too
(11 R208 item 3). -/
def State.fenceSys (s : State) (y : Bool) : Res := s.issue fun g => (s.discardHost g.ctx).retire y g

/-- FENCE.ACQ.GROUP (R311). -/
def execFenceAcqGroup (y : Bool) (s : State) : Res :=
  s.fence y

/-- FENCE.ACQ.BLOCK (R311). -/
def execFenceAcqBlock (y : Bool) (s : State) : Res :=
  s.fence y

/-- FENCE.ACQ.CHIP (R311). -/
def execFenceAcqChip (y : Bool) (s : State) : Res :=
  s.fence y

/-- FENCE.ACQ.POD (R311). -/
def execFenceAcqPod (y : Bool) (s : State) : Res :=
  s.fence y

/-- FENCE.ACQ.SYS (R311). -/
def execFenceAcqSys (y : Bool) (s : State) : Res :=
  s.fenceSys y

/-- FENCE.REL.GROUP (R311). -/
def execFenceRelGroup (y : Bool) (s : State) : Res :=
  s.fence y

/-- FENCE.REL.BLOCK (R311). -/
def execFenceRelBlock (y : Bool) (s : State) : Res :=
  s.fence y

/-- FENCE.REL.CHIP (R311). -/
def execFenceRelChip (y : Bool) (s : State) : Res :=
  s.fence y

/-- FENCE.REL.POD (R311). -/
def execFenceRelPod (y : Bool) (s : State) : Res :=
  s.fence y

/-- FENCE.REL.SYS (R311). -/
def execFenceRelSys (y : Bool) (s : State) : Res :=
  s.fence y

/-- FENCE.FULL.GROUP (R311). -/
def execFenceFullGroup (y : Bool) (s : State) : Res :=
  s.fence y

/-- FENCE.FULL.BLOCK (R311). -/
def execFenceFullBlock (y : Bool) (s : State) : Res :=
  s.fence y

/-- FENCE.FULL.CHIP (R311). -/
def execFenceFullChip (y : Bool) (s : State) : Res :=
  s.fence y

/-- FENCE.FULL.POD (R311). -/
def execFenceFullPod (y : Bool) (s : State) : Res :=
  s.fence y

/-- FENCE.FULL.SYS (R311). -/
def execFenceFullSys (y : Bool) (s : State) : Res :=
  s.fenceSys y

/-! ### WAIT (15 R270, R271) -/

/-- Holds(w): the compare of a WAIT, on 4 or 8 bytes. -/
def waitHolds (size cmp w x : Nat) : Bool :=
  let m := 256 ^ size
  let w := w % m
  let x := x % m
  let i (v : Nat) : Int := if 2 * v < m then v else (v : Int) - m
  match cmp with
  | 0 => w == x
  | 1 => w != x
  | 2 => decide (x ≤ w)
  | 3 => decide (w < x)
  | 4 => decide (i x ≤ i w)
  | 5 => decide (i w < i x)
  | _ => w &&& x != 0

/-- A WAIT whose word was read: it goes on, or parks with its condition and a deadline. -/
def State.waitRead (h : Nat) (o : MemOp) (s : State) (g : Group) : Res :=
  let w := o.valueOf (o.lanes.headD 0) % 256 ^ o.size
  let cmp := o.args.getD 0 0
  let operand := o.args.getD 1 0
  let timeout := BitVec.ofNat 64 (o.args.getD 2 0)
  if waitHolds o.size cmp w operand then
    .next (s.putGroup h ((g.writeS o.slices o.dst (BitVec.ofNat 64 w)).goTo o.slices (o.pc + 4) false))
  else
    let deadline : W64 := if timeout = 0 then 0 else s.tickOf (dieOf g.core) + timeout
    let r : WaitRec := { slices := o.slices, cap := capOf (o.args.getD 3 0), offset := o.args.getD 4 0, size := o.size,
                         compare := cmp, operand := BitVec.ofNat 64 operand, dest := o.dst, grant := capOf (o.args.getD 6 0),
                         scope := BitVec.ofNat 2 (o.args.getD 5 0),
                         logged := o.pieces.any fun p => p.status == 1 }
    .next (s.putGroup h (({ g with waits := (g.waits.filter fun x => !x.slices.any fun i => o.slices.contains i) ++ [r] } : Group).mapSlices
      (fun _ sl => sl.parkAt .wait 0 deadline) o.slices))

/-- WAIT (R270, R271). An implicit switch point; its read is one for the gang, whatever lanes are active
(DEDUCED, log 46, 47). -/
def execWait (_y : Bool) (a b : Fld) (s : State) : Res :=
  s.issue fun g => s.switchFirst g (
    let v := g.rs a.toNat
    let cap := g.rc (bits v 23 19)
    let off := bits v 63 24
    let width := bits v 15 14
    let cmp := bits v 18 16
    let size := if width = 1 then 8 else 4
    let lane := g.lowest s.cursor.slices
    let o := { s.memOp false .waitRead size (a.toNat + 1) with
      args := [cmp, (g.rs (a.toNat + 1)).toNat, (g.rs b.toNat).toNat, cap.toNat, off, (packetScope (v.extractLsb' 12 2)).toNat,
               g.grant.toNat] }
    let as : List LaneReq := [{ lane := lane, cap := cap, off := off, size := size }]
    match s.checkFail g .waitRead size rR as with
    | some (c, _) => s.trapHere g c
    | none =>
      if cmp = 7 ∨ 2 ≤ width ∨ bits v 11 0 ≠ 0 then s.trapHere g .operand
      else s.runLanes s.cursor.group g o 0 (packetScope (v.extractLsb' 12 2)) false as (State.waitRead s.cursor.group))

end Sys2Proof.Machine
end

