-- ==== Sys2Proof/Machine/Cap.lean ====
section
/-! DEFINITION. Capability registers, stash capabilities and the mapping of the stash (17 R314-R317). -/

namespace Sys2Proof.Machine

/-- A form that computes c_d from c_a and a scalar (17 R314); interlocked. -/
def State.derive (s : State) (y : Bool) (d a : Fld) (f : Group → Cap → Cap) : Res :=
  s.plain y (fun _ => true) fun g _ => g.writeC d.toNat (f g (g.rc a.toNat))

/-- CSUB (R314): base offset + s_b and length s_(b+1); the tag needs the tag, D, and the range inside. -/
def execCsub (y : Bool) (d a b : Fld) (s : State) : Res :=
  s.derive y d a fun g p =>
    let delta := (g.rs b.toNat).toNat
    let len := (g.rs (b.toNat + 1)).toNat
    { p with base := p.base + BitVec.ofNat 40 delta, length := BitVec.ofNat 40 len,
             tag := p.tag && p.has rD && decide (delta + len ≤ p.length.toNat) }

/-- CRGT (R314): the rights are narrowed by s_b[7:0]. -/
def execCrgt (y : Bool) (d a b : Fld) (s : State) : Res :=
  s.derive y d a fun g p => { p with rights := p.rights &&& (g.rs b.toNat).setWidth 8, tag := p.tag && p.has rD }

/-- Field k of a capability (R314). -/
def Cap.field (c : Cap) (k : Nat) : W64 :=
  match k with
  | 0 => c.home.setWidth 64
  | 1 => c.object.setWidth 64
  | 2 => c.base.setWidth 64
  | 3 => c.length.setWidth 64
  | 4 => c.rights.setWidth 64
  | _ => if c.tag then 1 else 0

/-- CGET (R314). -/
def execCget (y : Bool) (d a k : Fld) (s : State) : Res :=
  s.plain y (fun _ => true) fun g sl => g.writeS sl d.toNat ((g.rc a.toNat).field k.toNat)

/-- CMOV (R314). -/
def execCmov (y : Bool) (d a : Fld) (s : State) : Res :=
  s.derive y d a fun _ p => p

/-- CCLR (R314). -/
def execCclr (y : Bool) (d : Fld) (s : State) : Res :=
  s.derive y d d fun _ _ => {}

/-- CSTASH (R315): a stash capability for [s_a, s_a + s_b) of the block's allocation. -/
def execCstash (y : Bool) (d a b : Fld) (s : State) : Res :=
  s.plain y (fun _ => true) fun g _ =>
    let base := (g.rs a.toNat).toNat
    let len := (g.rs b.toNat).toNat
    g.writeC d.toNat
      { home := s.fab.self, object := 0, base := BitVec.ofNat 40 base, length := BitVec.ofNat 40 len, rights := 0x7B,
        tag := decide (base + len ≤ s.allocOf g) && decide (0 < len) }

/-! ### Mapping the stash (17 R316, R317) -/

/-- The lowest free region number of a block. -/
def Block.freeRegion (b : Block) : Option Nat :=
  (List.range 16).find? fun n => !b.regions.any fun r => r.number == n

/-- Whether [base, base + len) overlaps a barrier word or a region. -/
def Block.overlaps (b : Block) (base len : Nat) : Bool :=
  (decide (0 < len) && decide (base < 16 * b.barriers))
    || b.regions.any fun r => decide (base < r.base + r.length) && decide (r.base < base + len)

/-- SMAP (R316). -/
def execSmap (y : Bool) (d a b : Fld) (s : State) : Res :=
  s.issue fun g =>
    let c := g.rc a.toNat
    let v := g.rs b.toNat
    let base := bits v 21 0
    let len := c.length.toNat
    if !c.tag then s.trapHere g .captag
    else if !c.has (rR ||| rE) then s.trapHere g .capright
    else if bits v 63 22 ≠ 0 ∨ base % 4096 ≠ 0 ∨ len % 4096 ≠ 0 ∨ c.base.toNat % 128 ≠ 0 ∨ c.isStash then
      s.trapHere g .operand
    else
      match s.block g.block with
      | none => s.trapHere g .operand
      | some k =>
        if k.alloc < base + len ∨ k.overlaps base len then s.trapHere g .operand
        else
          match k.freeRegion with
          | none => s.trapHere g .operand
          | some n =>
            let r : Region := { number := n, base := base, length := len, cap := c }
            let t := s.putBlock g.block { k with regions := k.regions ++ [r] }
            t.retire y (g.writeS s.cursor.slices d.toNat (BitVec.ofNat 64 n))

/-- The region that a scalar names (R317): none when a reserved bit is set or the number has no region. -/
def Block.regionOf (b : Block) (v : W64) : Option Region :=
  if bits v 63 4 ≠ 0 then none else b.regions.find? fun r => r.number == bits v 3 0

/-- What the write-backs of a region leave: lines whose pages fault, whether such a fault has no wake, and whether a line
waits in the miss queue. -/
structure FlushLeft where
  faulted : List Nat := []
  noWake : Bool := false
  held : Bool := false
  deriving DecidableEq, Repr

/-- Write back lines of a region. -/
def State.flushLines (s : State) (blk : Nat) (r : Region) (q : Requester) : List Nat → State × FlushLeft
  | [] => (s, {})
  | l :: ls =>
    let one := s.flushLine blk l r q
    let t := State.flushLines one.1 blk r q ls
    match one.2 with
    | .done => t
    | .fault nw => (t.1, { t.2 with faulted := l :: t.2.faulted, noWake := nw || t.2.noWake })
    | .held => (t.1, { t.2 with held := true })

/-- Drop the lines of a region and the region itself (R317). -/
def Block.dropRegion (b : Block) (r : Region) : Block :=
  { b with regions := b.regions.filter fun x => x.number != r.number,
           lines := Sparse.clearRange b.lines ((r.base + 127) / 128) ((r.base + r.length) / 128) }

/-- The page of a line of a region, as a fault names it. -/
def Region.pageOf (r : Region) (line : Nat) : BitVec 28 × Nat :=
  (r.cap.object, r.objectOff (128 * line) / 65536)

/-- SFLUSH and SUNMAP (R317): the write-backs, the park when a page faults, and what follows them. -/
def State.flushRegion (s : State) (y : Bool) (a : Fld) (after : Block → Region → Block) : Res :=
  s.issue fun g =>
    match s.block g.block with
    | none => s.trapHere g .operand
    | some k =>
      match k.regionOf (g.rs a.toNat) with
      | none => s.trapHere g .operand
      | some r =>
        let left := (g.flushing.filter fun e => e.1 == r.number).map Prod.snd
        let todo := if left = [] then k.linesOf r else left
        let others := g.flushing.filter fun e => e.1 != r.number
        if (s.cursor.slices.any fun i => g.refusedFor.contains i) && todo.any fun l => g.refusedOn.contains (r.pageOf l) then
          .next (s.raise s.cursor.group { g.endRefusal s.cursor.slices with flushing := others } s.cursor.slices s.cursor.pc
            (g.gangTrap s.cursor.slices Cause.pageref.code 0x0A s.cursor.pc))
        else
          let done := s.flushLines g.block r (s.groupReq s.cursor.group g 2) todo
          let t := done.1
          if done.2.faulted = [] ∧ done.2.held then .next t
          else if done.2.faulted = [] then
            match t.block g.block with
            | none => t.retire y { g with flushing := others }
            | some k2 => (t.putBlock g.block (after k2 r)).retire y { g with flushing := others }
          else
            let g := { g with flushing := others ++ done.2.faulted.map fun l => (r.number, l) }
            .next (t.parkFault s.cursor.group g s.cursor.slices (done.2.faulted.map r.pageOf) true done.2.noWake)

/-- SUNMAP (R317): the lines are written back and dropped, and the number is free. -/
def execSunmap (y : Bool) (a : Fld) (s : State) : Res :=
  s.flushRegion y a fun b r => b.dropRegion r

/-- SFLUSH (R317): the lines are written back and stay, clean. -/
def execSflush (y : Bool) (a : Fld) (s : State) : Res :=
  s.flushRegion y a fun b _ => b

end Sys2Proof.Machine
end

