-- ==== Sys2Proof/Machine/Barrier.lean ====
section
/-! DEFINITION. The barrier instructions (17 R318-R320; 08 R142). -/

namespace Sys2Proof.Machine

/-- The barrier that a scalar names (17 R318): none when a reserved bit is set, the number is out of range, or the group
is in a task block. -/
def State.barrierOf (s : State) (g : Group) (v : W64) : Option Nat :=
  match s.block g.block with
  | none => none
  | some b => if g.task || bits v 63 6 != 0 || decide (b.barriers ≤ bits v 5 0) then none else some (bits v 5 0)

/-- Update barrier k of the group's block and run the phase test, waking the gangs that wait. -/
def State.changeBarrier (s : State) (g : Group) (k : Nat) (f : Barrier → Barrier) : State :=
  match s.block g.block with
  | none => s
  | some b => (s.putBlock g.block (b.putBarrier k (f (b.barrier k)))).barrierUpdate g.block k

/-- A barrier form that only updates. -/
def State.barrierForm (s : State) (y : Bool) (a b : Fld) (f : W64 → Barrier → Barrier) : Res :=
  s.issue fun g =>
    match s.barrierOf g (g.rs a.toNat) with
    | none => s.trapHere g .operand
    | some k =>
      let t := s.changeBarrier g k (f (g.rs b.toNat))
      match t.group s.cursor.group with
      | none => .next t
      | some g2 => t.retire y g2

/-- The phase of barrier k of a block. -/
def State.phaseOf (s : State) (blk k : Nat) : BitVec 16 := ((s.block blk).map fun b => (b.barrier k).phase).getD 0

/-- The barrier wait (08 R138, R142): the gang parks past phase p while the phase is p (DEDUCED, log 46). -/
def State.barrierPark (s : State) (k : Nat) (p : BitVec 16) : Res :=
  match s.group s.cursor.group with
  | none => .next s
  | some g =>
    if s.phaseOf g.block k = p then
      let g := g.setPc s.cursor.slices (s.cursor.pc + 4)
      .next (s.putGroup s.cursor.group (g.mapSlices
        (fun _ sl => { sl.parkAt .barrier (BitVec.ofNat 32 k) 0 with phase := p }) s.cursor.slices))
    else s.retire false g

/-- BAR.INIT (R318). -/
def execBarInit (y : Bool) (a b : Fld) (s : State) : Res :=
  s.barrierForm y a b fun v w => { w with expected := v.setWidth 24 }

/-- BAR.ARRIVE (R318). -/
def execBarArrive (y : Bool) (a b : Fld) (s : State) : Res :=
  s.barrierForm y a b fun v w => { w with arrivals := w.arrivals + v.setWidth 24 }

/-- BAR.EXPECT (R318). -/
def execBarExpect (y : Bool) (a b : Fld) (s : State) : Res :=
  s.barrierForm y a b fun v w => { w with bytesExpected := w.bytesExpected + v.setWidth 32 }

/-- BAR.WAIT (R318). An implicit switch point. -/
def execBarWait (_y : Bool) (a b : Fld) (s : State) : Res :=
  s.issue fun g => s.switchFirst g (
    match s.barrierOf g (g.rs a.toNat) with
    | none => s.trapHere g .operand
    | some k => s.barrierPark k ((g.rs b.toNat).setWidth 16))

/-- BAR.ARRIVE.W (R318). An implicit switch point. -/
def execBarArriveW (_y : Bool) (a b : Fld) (s : State) : Res :=
  s.issue fun g => s.switchFirst g (
    match s.barrierOf g (g.rs a.toNat) with
    | none => s.trapHere g .operand
    | some k =>
      let p := s.phaseOf g.block k
      (s.changeBarrier g k fun w => { w with arrivals := w.arrivals + (g.rs b.toNat).setWidth 24 }).barrierPark k p)

end Sys2Proof.Machine
end

