-- ==== Sys2Proof/Machine/Engine.lean ====
section
/-! DEFINITION. Engine commands: batches (19 R339-R342), issue (R343), and the transfer of bytes, tags and poison piece by
piece (R345; 10 R170, R182, R191), with page faults that park the command in its engine (10 R179). -/

namespace Sys2Proof.Machine

/-! ### Batches -/

/-- The next batch number: 0 is never used. -/
def nextBatch (n : BitVec 32) : BitVec 32 := if n = 0xFFFFFFFF then 1 else n + 1

/-- Count one command in the open batch. -/
def Batches.count (b : Batches) : Batches :=
  if b.counts.any fun e => e.1 == b.openNum then
    { b with counts := b.counts.map fun e => if e.1 == b.openNum then (e.1, e.2.1 + 1, e.2.2) else e }
  else { b with counts := b.counts ++ [(b.openNum, 1, 0, false, false)] }

/-- Close the open batch. -/
def Batches.close (b : Batches) : Batches :=
  let cs := if b.counts.any fun e => e.1 == b.openNum then b.counts else b.counts ++ [(b.openNum, 0, 0, false, false)]
  { b with counts := cs, openNum := nextBatch b.openNum }

/-- A command of batch n ends with a status code and its matrix bits. -/
def Batches.finish (b : Batches) (n : BitVec 32) (status : Nat) (mxNan ovf : Bool) : Batches :=
  { b with counts := b.counts.map fun e =>
      if e.1 == n then (e.1, e.2.1, max e.2.2.1 status, e.2.2.2.1 || mxNan, e.2.2.2.2 || ovf) else e }

/-- The batch status word (R341). -/
def batchWord (e : BitVec 32 × Nat × Nat × Bool × Bool) : W64 :=
  BitVec.ofNat 64 (2 ^ 32 * e.1.toNat + 2 ^ 24 * e.2.2.1 + (if e.2.2.2.1 then 2 ^ 17 else 0)
    + (if e.2.2.2.2 then 2 ^ 16 else 0) + min e.2.1 65535)

/-- Complete the closed batches, in number order, that have no command left. -/
def Batches.settle (b : Batches) (busy : BitVec 32 → Bool) : List (BitVec 32 × Nat × Nat × Bool × Bool) → Batches
  | [] => { b with counts := [] }
  | e :: es =>
    if e.1 == b.openNum || busy e.1 then { b with counts := e :: es }
    else Batches.settle { b with done := ((e.1, batchWord e) :: b.done).take 256 } busy es

/-- Whether the group has a command of batch n that has not completed. -/
def State.batchBusy (s : State) (h : Nat) (n : BitVec 32) : Bool :=
  s.cmds.any fun e => match e.2 with
    | none => false
    | some c => c.group == h && c.batch == n

/-- What WAITB finds for batch n (R342): none while it has not completed. -/
def Batches.find (b : Batches) (n : BitVec 32) : Option W64 :=
  match b.done.find? fun e => e.1 == n with
  | some e => some e.2
  | none =>
    if b.counts.any fun e => e.1 == n then none else some (BitVec.ofNat 64 (2 ^ 32 * n.toNat + 2 ^ 24 * 0x0E))

/-- Wake the slices that wait for a batch that has completed: s_a takes the status word and the gang goes on. A group that is
saved meets its batch when it is restored (09 R159). -/
def Group.wakeBatches (g : Group) : Group :=
  if g.state = .saved then g else g.live.foldl (fun g i =>
    let sl := g.slice i
    if sl.park == .waitb && sl.gang == i then
      match g.batch.find sl.arg with
      | none => g
      | some w =>
        let slices := g.gang i
        (g.writeS slices sl.phase.toNat w).mapSlices (fun _ r => { r.ready with pc := r.pc + 4 }) slices
    else g) g

/-- After a command of a group has completed. -/
def State.settleBatches (s : State) (h : Nat) : State :=
  match s.group h with
  | none => s
  | some g =>
    let g := { g with batch := g.batch.settle (s.batchBusy h) g.batch.counts }
    s.putGroup h g.wakeBatches

/-! ### Issue -/

/-- The commands of a group that have not completed. -/
def State.outstanding (s : State) (h : Nat) : Nat :=
  (s.cmds.filter fun e => match e.2 with
    | none => false
    | some c => c.group == h).length

/-- Issue a command: it is counted in the open batch. -/
def State.issueCommand (s : State) (h : Nat) (g : Group) (c : Command) : State × Group :=
  let g := { g with batch := g.batch.count }
  ({ s with cmds := Sparse.set none s.cmds s.nextCmd (some { c with group := h, batch := c.batch }), nextCmd := s.nextCmd + 1 }, g)

/-- A command of a group before its work is filled in (10 R181). -/
def State.newCommand (s : State) (h : Nat) (g : Group) (work : CmdWork) : Command :=
  { group := h, block := g.block, batch := g.batch.openNum, req := s.groupReq h g 4, work := work }

/-- Commands issue only while fewer than 1,024 are outstanding (R339): otherwise the gang waits. -/
def State.issueIf (s : State) (g : Group) (y : Bool) (c : Command) (fin : Group → Group) : Res :=
  if 1024 ≤ s.outstanding s.cursor.group then .next s
  else
    let r := s.issueCommand s.cursor.group g c
    r.1.retire y (fin r.2)

/-- Whether a block holds a slot on its core: a dormant block holds none (R345, 07 R118). -/
def State.blockHere (s : State) (blk : Nat) : Bool := ((s.block blk).map fun b => !b.dormant).getD false

/-- Free the tiles that a command frees, and those of a group that has ended. -/
def State.freeTiles (s : State) (k : Nat) (c : Command) : State :=
  let gone : Bool := match s.group c.group with
    | none => true
    | some g => g.state == .done || g.state == .halted
  let mine := if gone then c.tiles else c.frees
  let used (t : Nat) : Bool := s.cmds.any fun e => e.1 != k && match e.2 with
    | none => false
    | some m => m.group == c.group && m.tiles.contains t
  let drop := mine.filter fun t => !used t || c.frees.contains t
  if drop = [] then s
  else
    let core := Sparse.get {} s.cores c.req.core
    { s with cores := Sparse.set {} s.cores c.req.core { core with
        tileOwner := Sparse.setAll none core.tileOwner (drop.map fun t => (t, none)) } }

/-- Meet a status: a command's code is the highest that it meets; after a refused page it starts no further write (R345). -/
def Command.meet (c : Command) (code : Nat) : Command :=
  { c with status := max c.status code, stop := c.stop || code == 3 }

/-- The barrier counts of a command whose writes are accepted (R345): once, before its signal. A destination block that holds
no slot any more takes no count, and the command is UNREACH. -/
def State.makeCounts (s : State) (c : Command) : State × Command :=
  let s := match c.count with
    | none => s
    | some b => s.countBytes c.block b c.bytes
  let done := { c with count := none, remoteCount := none }
  match c.remoteCount with
  | none => (s, done)
  | some (blk, b) =>
    if s.blockHere blk then (s.countBytes blk b c.bytes, done) else (s, done.meet 5)

/-- A command completes: barrier counts, tiles, and its batch (R345). -/
def State.completeCommand (s : State) (k : Nat) (c : Command) : State :=
  let r := s.makeCounts c
  let c := r.2
  let s := r.1.freeTiles k c
  let s := { s with cmds := Sparse.set none s.cmds k none }
  match s.group c.group with
  | none => s
  | some g =>
    (s.putGroup c.group { g with batch := g.batch.finish c.batch c.status c.mxNan c.mxOvf }).settleBatches c.group

/-- Store a command. -/
def State.putCommand (s : State) (k : Nat) (c : Command) : State :=
  { s with cmds := Sparse.set none s.cmds k (some c) }

/-- A command. -/
def State.command (s : State) (k : Nat) : Option Command := Sparse.get none s.cmds k

/-! ### Pieces -/

/-- The code of R341 for a packet status or a Weir's answer (02 R35). -/
def engineCode (st : BitVec 8) : Nat :=
  match st.toNat with
  | 0 => 0 | 1 => 1 | 3 => 2 | 5 => 6 | 6 => 7 | 7 => 8 | 8 => 4 | 9 => 0x0B | 0x0A => 3 | 0x0B => 0x0A | 0x0C => 9
  | _ => 5

/-- The bytes of a span that the next piece takes: up to a 128-byte stash line or a 256-byte region. -/
def Span.pieceLen (p : Span) : Nat :=
  if p.cap.isStash then min p.len (128 - p.off % 128) else min p.len (256 - p.off % 256)

/-- The span after its next piece. -/
def Span.rest (p : Span) : Span :=
  { p with off := p.off + p.pieceLen, pos := p.pos + p.pieceLen, len := p.len - p.pieceLen }

/-- The spans left after the first piece. -/
def restSpans : List Span → List Span
  | [] => []
  | p :: ps => if p.rest.len = 0 then ps else p.rest :: ps

/-- Where a piece lies: a stash piece of a region backed by another chip lies there. -/
def State.placePiece (s : State) (p : Span) : Span :=
  if !p.cap.isStash then p
  else
    match (s.block p.blk).bind fun b => b.regionAt p.off with
    | none => p
    | some r =>
      if r.cap.home == s.fab.self then p else { p with cap := r.cap, off := r.objectOff p.off, stash := some p.off }

/-- What a piece's read or write answers. -/
inductive Piece2 where
  | ok (code : Nat)
  | sent
  | fault (page : BitVec 28 × Nat) (noWake : Bool)
  | failed (code : Nat)
  | held
  deriving DecidableEq, Repr

/-- Fill buffer positions from data with tags and poison. -/
def Command.fill (c : Command) (p : Span) (n : Nat) (byte : Nat → Byte) (tag : Nat → Bool) (bad : Nat → Bool) : Command :=
  let is := List.range n
  { c with buf := Sparse.setAll 0 c.buf (is.map fun i => (p.pos + i, byte (p.off + i)))
           bufTags := Sparse.setAll false c.bufTags ((is.filter fun i => (p.off + i) % 16 == 0 && decide (i + 16 ≤ n)).map
             fun i => (p.pos + i, tag (p.off + i)))
           bufPoison := Sparse.setAll false c.bufPoison (is.map fun i => (p.pos + i, bad (p.off + i))) }

/-- Read one piece of an object of this chip. -/
def State.readHere (s : State) (c : Command) (p : Span) (n : Nat) : State × Command × Piece2 :=
  let o := p.cap.object
  let q := { c.req with kind := 4 }
  if c.refused.contains (o, p.off / 65536) then (s, c, .failed 3)
  else if s.missFull (homeSlice o (p.off / 65536)) then (s, c, .held)
  else
    match s.translate q o p.off false false with
    | (s, .ok leaf t) =>
      let f := leafFrame leaf
      let s := s.reach o p.off n leaf t false none
      let bad (a : Nat) : Bool := s.framePoisoned f (a % 65536) 1
      let c := c.fill p n (fun a => s.frameByte f (a % 65536)) (fun a => s.frameTag f (a % 65536)) bad
      (s, c, .ok (if (List.range n).any fun i => bad (p.off + i) then 2 else 0))
    | (s, .denied ptag) =>
      (s.logDenial q o p.off ptag 4, c.fill p n (fun _ => 0) (fun _ => false) (fun _ => false), .ok 1)
    | (s, .fault nw) => (s, c, .fault (o, p.off / 65536) nw)
    | (s, .refused st) =>
      if st = 3 then (s, c.fill p n (fun _ => 0) (fun _ => false) (fun _ => true), .ok 2) else (s, c, .failed (engineCode st))
    | (s, .hold) => (s, c, .held)

/-- Read one piece of the stash. -/
def State.readStash (s : State) (c : Command) (p : Span) (n : Nat) : State × Command × Piece2 :=
  match s.block p.blk with
  | none => (s, c, .failed 5)
  | some b0 =>
    let q := { c.req with kind := 4 }
    let ready : State × BitVec 8 × Bool := match b0.regionAt p.off with
      | none => (s, 0, false)
      | some r => if c.refused.contains (r.cap.object, r.objectOff p.off / 65536) then (s, 0x0A, false)
        else s.fillLine p.blk (p.off / 128) r q false p.off
    let page : BitVec 28 × Nat := match b0.regionAt p.off with
      | none => (0, 0)
      | some r => (r.cap.object, r.objectOff p.off / 65536)
    let s := ready.1
    if ready.2.1 = 0xFF then (s, c, .held)
    else if ready.2.1 = 2 then (s, c, .fault page ready.2.2)
    else if ready.2.1 = 1 then (s, c.fill p n (fun _ => 0) (fun _ => false) (fun _ => false), .ok 1)
    else if ready.2.1 = 3 then (s, c.fill p n (fun _ => 0) (fun _ => false) (fun _ => true), .ok 2)
    else if ready.2.1 ≠ 0 then (s, c, .failed (engineCode ready.2.1))
    else
      let b := (s.block p.blk).getD b0
      let bad (a : Nat) : Bool := b.poisoned a 1
      let c := c.fill p n (fun a => Sparse.get 0 b.stash a) (fun a => Sparse.get false b.tags (a / 16)) bad
      (s, c, .ok (if (List.range n).any fun i => bad (p.off + i) then 2 else 0))

/-- Send a request of a command to another chip; `failed` when no plane joins the chips, or when the page was refused. -/
def State.sendPiece (s : State) (k : Nat) (c : Command) (p : Span) (n : Nat) (pk : Packet) : State × Command × Piece2 :=
  if c.refused.contains (s.pagePlace p.cap.home p.cap.object (p.off / 65536)) then (s, c, .failed 3)
  else
    match s.ask (dieOf c.req.core) (.command k) pk with
    | (s, none) => (s, c, .failed 5)
    | (s, some tag) =>
      (s, { c with awaiting := c.awaiting ++ [{ tag := tag, pos := p.pos, len := n, off := p.off, cap := p.cap, shadow := p.shadow,
                                                  stash := p.stash.map fun a => (p.blk, a) }] },
        .sent)

/-- The header of a command's packet (02 R33). -/
def State.commandPacket (s : State) (c : Command) (p : Span) : Packet :=
  let k := s.ctxOf c.req.ctx
  { Packet.zero with
    dst := p.cap.home, src := s.fab.self, object := p.cap.object, context := c.req.ctx,
    grantHome := if grantUsable c.req.grant then c.req.grant.home else 0,
    grantObject := if grantUsable c.req.grant then c.req.grant.object else 0,
    keyGen := if k.prot then k.fabricGen else 0, core := BitVec.ofNat 8 c.req.core,
    offset := BitVec.ofNat 40 (p.off / 256 * 256) }

/-- The sectors of its region that n bytes at an offset touch. -/
def touchedSectors (off n : Nat) : BitVec 8 :=
  (List.range 8).foldl (fun w k =>
    if off % 256 < 32 * (k + 1) ∧ 32 * k < off % 256 + n then w ||| (1#8 <<< k) else w) 0

/-- Read the next piece of a span. -/
def State.readPiece (s : State) (k : Nat) (c : Command) (p0 : Span) : State × Command × Piece2 :=
  let p := s.placePiece p0
  let n := min p0.pieceLen p.pieceLen
  if p.cap.isStash then s.readStash c p n
  else if p.cap.home == s.fab.self then s.readHere c p n
  else s.sendPiece k c p n { s.commandPacket c p with opcode := 0x01, mask := touchedSectors p.off n, inline0 := 4 }

/-- Whether some of n bytes from a buffer position could not be read. -/
def Command.gap (c : Command) (pos n : Nat) : Bool :=
  c.holes.any fun h => decide (h.1 < pos + n) && decide (pos < h.1 + h.2)

/-- The buffer positions of a piece that may be written: those in no hole. -/
def Command.writable (c : Command) (p : Span) (n : Nat) : List Nat :=
  (List.range n).filter fun i => !c.holes.any fun h => decide (h.1 ≤ p.pos + i) && decide (p.pos + i < h.1 + h.2)

/-- The granules of a piece that take a tag: all 16 bytes written from one whole granule that had it (10 R170). -/
def Command.granules (c : Command) (p : Span) (is : List Nat) (keep : Bool) : List (Nat × Bool) :=
  (is.filter fun i => (p.off + i) % 16 == 0 && (List.range 16).all fun j => is.contains (i + j)).map fun i =>
    ((p.off + i) / 16, keep && Sparse.get false c.bufTags (p.pos + i))

/-- The sectors of a piece that receive a poisoned byte. -/
def Command.poisonedSectors (c : Command) (p : Span) (is : List Nat) : List Nat :=
  ((is.filter fun i => Sparse.get false c.bufPoison (p.pos + i)).map fun i => (p.off + i) / 32).eraseDups

/-- Whether a command carries tags. -/
def CmdWork.keepsTags : CmdWork → Bool
  | .copy t => t
  | _ => false

/-- Write one piece of an object of this chip. -/
def State.writeHere (s : State) (c : Command) (p : Span) (n : Nat) : State × Command × Piece2 :=
  let o := p.cap.object
  let q := { c.req with kind := 5 }
  let is := c.writable p n
  if is = [] then (s, c, .ok 0)
  else if c.refused.contains (o, p.off / 65536) then (s, c, .failed 3)
  else if s.missFull (homeSlice o (p.off / 65536)) then (s, c, .held)
  else
    match s.translate q o p.off true p.shadow with
    | (s, .ok leaf t) =>
      let f := leafFrame leaf
      let s := if p.shadow then s else s.reach o p.off n leaf t true none
      let w := is.map fun i => ((p.off + i) % 65536, Sparse.get (0 : Byte) c.buf (p.pos + i))
      let s := s.writeFrame f w
      let s := { s with mem := { s.mem with
        tags := Sparse.setAll false s.mem.tags ((c.granules p is c.work.keepsTags).map fun e => (f * 4096 + e.1 % 4096, e.2))
        poison := Sparse.setAll false s.mem.poison ((c.poisonedSectors p is).map fun e => (f * 2048 + e % 2048, true)) } }
      (s, { c with bytes := c.bytes + is.length }, .ok 0)
    | (s, .denied ptag) => (s.logDenial q o p.off ptag 5, c, .ok 1)
    | (s, .fault nw) => (s, c, .fault (o, p.off / 65536) nw)
    | (s, .refused st) => (s, c, .failed (engineCode st))
    | (s, .hold) => (s, c, .held)

/-- The bytes that an engine wrote to a mapped line of a host-memory page are passed to the host, run by run
(11 R208 item 1). -/
def State.passWritten (s : State) (blk : Nat) (offs : List Nat) : State :=
  (offs.foldr (fun o rs => match rs with
    | [] => [(o, 1)]
    | r :: rest => if r.1 = o + 1 then (o, r.2 + 1) :: rest else (o, 1) :: r :: rest) []).foldl
      (fun (s : State) r => s.passThrough blk r.1 r.2) s

/-- Write one piece of a stash. A region without W, like a denied page, discards it; a block without a slot takes nothing
(R345). -/
def State.writeStash (s : State) (c : Command) (p : Span) (n : Nat) : State × Command × Piece2 :=
  match if s.blockHere p.blk then s.block p.blk else none with
  | none => (s, c, .failed 5)
  | some b0 =>
    let q := { c.req with kind := 5 }
    let is := c.writable p n
    let page : BitVec 28 × Nat := match b0.regionAt p.off with
      | none => (0, 0)
      | some r => (r.cap.object, r.objectOff p.off / 65536)
    let ready : State × BitVec 8 × Bool := match b0.regionAt p.off with
      | none => (s, 0, false)
      | some r => if !r.cap.has rW then (s, 1, false) else if c.refused.contains page then (s, 0x0A, false)
        else s.fillLine p.blk (p.off / 128) r q true p.off
    let s := ready.1
    if is = [] then (s, c, .ok 0)
    else if ready.2.1 = 0xFF then (s, c, .held)
    else if ready.2.1 = 2 then (s, c, .fault page ready.2.2)
    else if ready.2.1 = 1 then (s, c, .ok 1)
    else if ready.2.1 ≠ 0 then (s, c, .failed (engineCode ready.2.1))
    else
      let b := (s.block p.blk).getD b0
      let b := b.write (is.map fun i => (p.off + i, Sparse.get (0 : Byte) c.buf (p.pos + i)))
      let b := { b with tags := Sparse.setAll false b.tags (c.granules p is c.work.keepsTags),
                        poison := Sparse.setAll false b.poison ((c.poisonedSectors p is).map fun e => (e, true)) }
      let s := ((s.putBlock p.blk b).barriersTouched p.blk p.off n).passWritten p.blk (is.map fun i => p.off + i)
      (s, { c with bytes := c.bytes + is.length }, .ok 0)

/-- The CPYPUT packet of a piece (02 R33, R34): payload by sector, byte enables when a sector is partly written, tags and
poison. -/
def State.putPacket (s : State) (c : Command) (p : Span) (n : Nat) : Packet :=
  let is := c.writable p n
  let mask := touchedSectors p.off n
  let byte (a : Nat) : Option Byte :=
    if p.off % 256 ≤ a ∧ a < p.off % 256 + n ∧ is.contains (a - p.off % 256) then
      some (Sparse.get (0 : Byte) c.buf (p.pos + (a - p.off % 256))) else none
  let cells := (List.range 8).flatMap fun k =>
    if mask.getLsbD k then (List.range 32).map fun i => (32 * k + i, byte (32 * k + i)) else []
  let part := cells.any fun e => e.2.isNone
  let numbered := (List.range cells.length).zip cells
  let en := numbered.foldl (fun (w : BitVec 256) e => if e.2.2.isSome then w ||| (1#256 <<< e.1) else w) 0
  let tagBits := numbered.foldl (fun (w : BitVec 16) e =>
    if e.2.1 % 16 = 0 ∧ (c.granules p is c.work.keepsTags).contains ((p.off / 256 * 256 + e.2.1) / 16, true) then
      w ||| (1#16 <<< (e.1 / 16)) else w) 0
  let bad := numbered.foldl (fun (w : BitVec 8) e =>
    if (c.poisonedSectors p is).contains ((p.off / 256 * 256 + e.2.1) / 32) then w ||| (1#8 <<< (e.1 / 32)) else w) 0
  { s.commandPacket c p with opcode := 0x04, mask := mask, payload := cells.map fun e => e.2.getD 0, enabled := part,
                             byteEnables := (if part then en else 0), capTags := tagBits, poison := bad,
                             flits := BitVec.ofNat 3 ((cells.length + 63) / 64 + (if part then 1 else 0)) }

/-- Write the next piece of a span. -/
def State.writePiece (s : State) (k : Nat) (c : Command) (p0 : Span) : State × Command × Piece2 :=
  let p := s.placePiece p0
  let n := min p0.pieceLen p.pieceLen
  if p.cap.isStash then s.writeStash c p n
  else if p0.cap.isStash && !p.cap.has rW then (s, c, .ok (if c.writable p n = [] then 0 else 1))
  else if p.cap.home == s.fab.self then s.writeHere c p n
  else if c.writable p n = [] then (s, c, .ok 0)
  else s.sendPiece k c p n (s.putPacket c p n)

/-- Whether a publish holds the object of a span (10 R189): its requests wait. -/
def State.spanHeld (s : State) (p : Span) : Bool :=
  !p.cap.isStash && p.cap.home == s.fab.self && (s.objEntry p.cap.object).publishing

/-- A command parks on a page (10 R179), with the kind of the fault and the tick of a replay marked no wake. -/
def State.commandFault (s : State) (c : Command) (page : BitVec 28 × Nat) (writes shadow nw : Bool) : Command :=
  { c with faulted := [page], faultKind := s.pageKind page writes shadow, noWake := nw, replayAt := s.replayTick c.req.core nw }

/-- One read of a command: the piece, and what its answer does (DESIGN CHOICE, log 40). -/
def State.readStep (s : State) (k : Nat) (c : Command) (p : Span) : State :=
  match s.readPiece k c p with
  | (s, _, .held) => s
  | (s, c, .ok code) => s.putCommand k { c.meet code with reads := restSpans c.reads }
  | (s, c, .sent) => s.putCommand k { c with reads := restSpans c.reads }
  | (s, c, .fault page nw) => s.putCommand k (s.commandFault c page false false nw)
  | (s, c, .failed code) =>
    s.putCommand k { c.meet code with reads := restSpans c.reads, holes := c.holes ++ [(p.pos, p.pieceLen)] }

/-- One write of a command. After a refused page fault no further write starts, and the command's status is PAGEREF (R345)
(DESIGN CHOICE, log 40). -/
def State.writeStep (s : State) (k : Nat) (c : Command) (p : Span) : State :=
  if c.stop ∨ c.refused ≠ [] then s.putCommand k { c.meet 3 with writes := [] }
  else
    match s.writePiece k c p with
    | (s, _, .held) => s
    | (s, c, .ok code) => s.putCommand k { c.meet code with writes := restSpans c.writes }
    | (s, c, .sent) => s.putCommand k { c with writes := restSpans c.writes }
    | (s, c, .fault page nw) => s.putCommand k (s.commandFault c page true p.shadow nw)
    | (s, c, .failed code) => s.putCommand k { c.meet code with writes := restSpans c.writes }

/-- The add of 1 to a completion signal (R345, 11 R207), as an engine access of the command's requester: at the signal's home
Weir, or in the stash. -/
def State.signalStep (s : State) (k : Nat) (c : Command) (sig : Cap) : State :=
  let pc := s.route c.block { lane := 0, start := 0, chip := sig.home, object := sig.object, offset := sig.base.toNat, length := 8,
                              value := 1, status := 0xFF }
  let q := { c.req with kind := 5 }
  let c1 := { c with signal := none }
  if pc.object = 0 ∨ pc.chip = s.fab.self then
    let place := s.placeOf c.block pc
    if c.refused.contains place then s.putCommand k (c1.meet 3)
    else
      let r := if pc.object = 0 then s.allAtStash c.block q (.atomic 0 false) [pc] else s.serve q (.atomic 0 false) [pc]
      let st := (r.2.1.map Piece.status).headD 0
      if st = 0xFF then r.1
      else if st = 2 then r.1.putCommand k (r.1.commandFault c place true false r.2.2)
      else r.1.putCommand k (c1.meet (engineCode st))
  else
    let at_ := pc.offset
    let p : Span := { cap := { sig with home := pc.chip, object := pc.object }, blk := 0, off := at_, len := 8, pos := 0,
                      shadow := false }
    let pk := { s.commandPacket c p with opcode := 0x03, offset := BitVec.ofNat 40 at_, oper := 0, etype := 0x17,
                                         inline0 := 1 }
    match s.sendPiece k c1 p 0 pk with
    | (s, c, .failed code) => s.putCommand k (c.meet code)
    | (s, c, _) => s.putCommand k c

/-- The payload byte of a packet at an offset of its region (02 R33): the sectors of the mask, ascending. -/
def payloadByte (p : Packet) (off : Nat) : Byte :=
  let below := ((List.range (off % 256 / 32)).filter fun k => p.mask.getLsbD k).length
  p.payload.getD (32 * below + off % 32) 0

/-- The place of a sector among the payload sectors of a packet. -/
def sectorIndex (p : Packet) (off : Nat) : Nat := ((List.range (off % 256 / 32)).filter fun k => p.mask.getLsbD k).length

/-- The granule tag of a payload byte. -/
def payloadTag (p : Packet) (off : Nat) : Bool := p.capTags.getLsbD (2 * sectorIndex p off + off % 32 / 16)

/-- Whether a payload byte lies in a poisoned sector. -/
def payloadPoison (p : Packet) (off : Nat) : Bool := p.poison.getLsbD (sectorIndex p off)

/-- A request of a command met a page fault at another chip's Weir: the command waits for the page and then makes the request
again (10 R179, R180). A request of no length is the add to the command's signal. -/
def Command.faultsAway (c : Command) (a : Await) (read : Bool) (place : BitVec 28 × Nat) (noWake : Bool) (at_ : W64) : Command :=
  let p : Span := { cap := a.cap, blk := (a.stash.map Prod.fst).getD 0, off := a.off, len := a.len, pos := a.pos,
                    shadow := a.shadow, stash := a.stash.map Prod.snd }
  { c with
    awaiting := c.awaiting.filter fun e => e.tag != a.tag
    faulted := if c.faulted.contains place then c.faulted else place :: c.faulted
    faultKind := 0
    noWake := c.noWake || noWake, replayAt := if noWake then at_ else c.replayAt
    signal := if a.len = 0 then some { a.cap with base := BitVec.ofNat 40 a.off } else c.signal
    reads := if read then p :: c.reads else c.reads
    writes := if read || a.len == 0 then c.writes else p :: c.writes }

/-- A response to a read of a command. -/
def Command.takeRead (c : Command) (a : Await) (r : Packet) : Command :=
  let c := { c with awaiting := c.awaiting.filter fun e => e.tag != a.tag }
  let p : Span := { cap := {}, blk := 0, off := a.off, len := a.len, pos := a.pos, shadow := false }
  let code := engineCode r.status
  if code = 1 then (c.fill p a.len (fun _ => 0) (fun _ => false) (fun _ => false)).meet 1
  else if code ≤ 2 then (c.fill p a.len (payloadByte r) (payloadTag r) (payloadPoison r)).meet code
  else { c.meet code with holes := c.holes ++ [(a.pos, a.len)] }

/-- A response to a write of a command. A DENIED answer names in its mask the sectors that were not written. -/
def Command.takeWrite (c : Command) (a : Await) (r : Packet) : Command :=
  let c := { c with awaiting := c.awaiting.filter fun e => e.tag != a.tag }
  let p : Span := { cap := {}, blk := 0, off := a.off, len := a.len, pos := a.pos, shadow := false }
  let code := engineCode r.status
  let is := c.writable p a.len
  let kept := if code = 1 then (is.filter fun i => !r.mask.getLsbD ((a.off + i) % 256 / 32)).length
    else if code = 0 then is.length else 0
  { c.meet code with bytes := c.bytes + kept }

end Sys2Proof.Machine
end

