-- ==== Sys2Proof/Machine/Context.lean ====
section
/-! DEFINITION. Thread contexts in memory (09): the layout of a context object (R146-R150), its pages and frames, the lines
of the register context cache (R152-R154), activation and eviction (R155, R156), and YIELDC (15 R273). -/

namespace Sys2Proof.Machine

/-! ### Codes of the header and the slice records (R147, R148) -/

/-- The park codes. -/
def Park.code : Park → Nat
  | .none => 0 | .switchPoint => 1 | .registerMiss => 2 | .post => 3 | .join => 4 | .wait => 5 | .sleep => 6
  | .barrier => 7 | .gate => 8 | .waitb => 9 | .pendingTrap => 10 | .pageFault => 11 | .contextFault => 12

/-- The slice state codes. -/
def SliceState.code : SliceState → Nat
  | .ready => 0 | .parked => 1 | .exited => 2

/-- The group state codes. -/
def GroupState.code : GroupState → Nat
  | .created => 0 | .resident => 1 | .idle => 2 | .out => 3 | .released => 4 | .saved => 5 | .done => 6 | .halted => 7

/-! ### The parts of a context object (R146, R149, R150) -/

/-- Lines of the header. -/
def headerLines : Nat := 41

/-- Lines of the vector part: S * E / 4. -/
def Group.vecLines (g : Group) : Nat := g.sliceCount * g.extent / 4

/-- Lines of the small-matrix part: S * (1 + 9X) when X > 0. -/
def Group.matLines (g : Group) : Nat := if g.xCount = 0 then 0 else g.sliceCount * (1 + 9 * g.xCount)

/-- Lines of the accumulator part: 576 for each handle. -/
def Group.accLines (g : Group) : Nat := g.aCount * 576

/-- The first shape line. -/
def Group.shapeLine (g : Group) : Nat := headerLines + g.vecLines

/-- The first accumulator line. -/
def Group.accLine (g : Group) : Nat := g.shapeLine + g.matLines

/-- All context lines. -/
def Group.ctxLines (g : Group) : Nat := g.accLine + g.accLines

/-- The object's length: rounded up to 64 KiB. -/
def Group.objectBytes (g : Group) : Nat := (64 * g.ctxLines + 65535) / 65536 * 65536

/-- The bytes of a slice record. -/
def Slice.bytes (sl : Slice) : List Byte :=
  leBytes 8 sl.pc.toNat ++ leBytes 8 sl.link.toNat ++ leBytes 1 sl.state.code ++ leBytes 1 sl.park.code ++ leBytes 1 sl.gang
    ++ leBytes 1 sl.unfinished.toNat ++ leBytes 4 sl.arg.toNat ++ leBytes 8 sl.deadline.toNat

/-- The 2,624 bytes of the header (R147, R148) (DEDUCED, log 53). -/
def Group.headerBytes (g : Group) (protCtx : Bool) : List Byte :=
  let cap16 (c : Cap) : List Byte := leBytes 16 (c.toNat % 2 ^ 128)
  let tags := (List.range 32).foldl (fun w k => if (Sparse.get {} g.c k).tag then w + 2 ^ k else w) 0
    + (if g.grant.tag then 2 ^ 32 else 0) + (if g.root.tag then 2 ^ 33 else 0)
  leBytes 4 0x5846594E ++ leBytes 1 g.width
    ++ leBytes 1 (g.prot.toNat + 2 * g.task.toNat + 4 * protCtx.toNat) ++ leBytes 1 g.state.code
    ++ leBytes 1 (if g.state = .saved then g.savedFrom.code else 0) ++ leBytes 2 g.extent ++ leBytes 2 g.winb
    ++ leBytes 4 g.joinTo.toNat ++ leBytes 8 g.repc.toNat ++ leBytes 4 g.fpcr.toNat ++ leBytes 4 g.fpsr.toNat
    ++ leBytes 8 g.tvec.toNat ++ leBytes 8 g.tpc.toNat ++ leBytes 8 g.tstat.toNat ++ leBytes 4 g.xpiv.toNat
    ++ leBytes 2 g.grid.toNat ++ leBytes 1 g.xCount ++ leBytes 1 g.aCount ++ leBytes 4 g.bid.toNat ++ leBytes 4 g.gid.toNat
    ++ leBytes 24 0 ++ leBytes 32 g.dirtyMap.toNat
    ++ ((List.range 24).flatMap fun i => if i < g.sliceCount then (g.slice i).bytes else leBytes 32 0)
    ++ ((List.range 128).flatMap fun r => leBytes 8 (g.rs r).toNat)
    ++ ((List.range 32).flatMap fun r => cap16 (Sparse.get {} g.c r)) ++ leBytes 8 tags
    ++ ((List.range 8).flatMap fun a => leBytes 4 (match Sparse.get none g.handle a with
      | none => 0
      | some t => 2 ^ 31 + t))
    ++ leBytes 24 0 ++ cap16 g.grant ++ cap16 g.root
    ++ ((List.range 96).flatMap fun l => leBytes 1 (Sparse.get 0 g.xflags l).toNat)

/-- The shape byte of x_k in a lane: rows [7:5], columns [4:2]. -/
def Group.shapeByte (g : Group) (k l : Nat) : Nat :=
  let sh := Sparse.get (1, 1) g.shape (k * 96 + l)
  32 * sh.1 + 4 * sh.2

/-- The 64 bytes of a context line. -/
def Group.lineBytes (g : Group) (protCtx : Bool) (n : Nat) : List Byte :=
  let ns := g.sliceCount
  if n < headerLines then ((g.headerBytes protCtx).drop (64 * n)).take 64
  else if n < g.shapeLine then
    let m := n - headerLines
    (List.range 4).flatMap fun r => (List.range 4).flatMap fun q =>
      leBytes 4 (Sparse.get 0 g.v ((4 * (m / ns) + r) * 128 + (4 * (m % ns) + q))).toNat
  else if n < g.accLine then
    let m := n - g.shapeLine
    if m < ns then (List.range 16).flatMap fun k => (List.range 4).flatMap fun q => leBytes 1 (g.shapeByte k (4 * m + q))
    else
      let p := (m - ns) / 9
      let j := (m - ns) % 9
      (List.range 16).flatMap fun i =>
        let w := 16 * j + i
        leBytes 4 (Sparse.get 0 g.x (((p / ns) * 96 + (4 * (p % ns) + w / 36)) * 36 + w % 36)).toNat
  else
    (List.range 16).flatMap fun i => leBytes 4 (Sparse.get 0 g.savedTiles (16 * (n - g.accLine) + i)).toNat

/-- Take the registers of a vector or matrix line from its bytes. -/
def Group.takeLine (g : Group) (n : Nat) (bytes : List Byte) : Group :=
  let ns := g.sliceCount
  let word (i : Nat) : W32 := BitVec.ofNat 32 (leNat ((bytes.drop (4 * i)).take 4))
  if n < headerLines then g
  else if n < g.shapeLine then
    let m := n - headerLines
    { g with v := Sparse.setAll 0 g.v ((List.range 16).map fun i =>
        ((4 * (m / ns) + i / 4) * 128 + (4 * (m % ns) + i % 4), word i)) }
  else if n < g.accLine then
    let m := n - g.shapeLine
    if m < ns then
      { g with shape := Sparse.setAll (1, 1) g.shape ((List.range 64).map fun i =>
          let b := (bytes.getD i 0).toNat
          ((i / 4) * 96 + (4 * m + i % 4), (b / 32, b / 4 % 8))) }
    else
      let p := (m - ns) / 9
      let j := (m - ns) % 9
      { g with x := Sparse.setAll 0 g.x ((List.range 16).map fun i =>
          let w := 16 * j + i
          (((p / ns) * 96 + (4 * (p % ns) + w / 36)) * 36 + w % 36, word i)) }
  else { g with savedTiles := Sparse.setAll 0 g.savedTiles ((List.range 16).map fun i => (16 * (n - g.accLine) + i, word i)) }

/-- Take the header's registers from its bytes (R147, R148): the fields that describe the kernel stay, and reserved bits are
zero (00 R4). -/
def Group.takeHeader (g : Group) (bytes : List Byte) : Group :=
  let num (off n : Nat) : Nat := leNat ((bytes.drop off).take n)
  let tag (k : Nat) : Bool := (num 0x980 8).testBit k
  let cap (off k : Nat) : Cap := capOf (num off 16 + (if tag k then 2 ^ 128 else 0))
  let state (n : Nat) : SliceState := if n = 0 then .ready else if n = 1 then .parked else .exited
  let park (n : Nat) : Park :=
    ([.none, .switchPoint, .registerMiss, .post, .join, .wait, .sleep, .barrier, .gate, .waitb, .pendingTrap, .pageFault,
      .contextFault] : List Park).getD n .none
  let g := { g with winb := num 0x00A 2 / 8 * 8, joinTo := BitVec.ofNat 32 (num 0x00C 4), repc := BitVec.ofNat 64 (num 0x010 8) }
  let g := { g with fpcr := BitVec.ofNat 32 (num 0x018 4 % 4), fpsr := BitVec.ofNat 32 (num 0x01C 4 % 64) }
  let g := { g with tvec := BitVec.ofNat 64 (num 0x020 8) &&& ~~~(2#64), tpc := BitVec.ofNat 64 (num 0x028 8) }
  let g := { g with tstat := BitVec.ofNat 64 (num 0x030 8) &&& 0x80FFFFFF00FFFFFF#64, xpiv := BitVec.ofNat 32 (num 0x038 4) }
  let g := { g with dirtyMap := BitVec.ofNat 256 (num 0x060 32) }
  let g := { g with s := Sparse.setAll 0 g.s ((List.range 127).map fun i =>
      (i + 1, BitVec.ofNat 64 (num (0x388 + 8 * i) 8) &&& g.writable (List.range g.sliceCount) (i + 1))) }
  let g := { g with c := Sparse.setAll {} g.c ((List.range 32).map fun i => (i, cap (0x780 + 16 * i) i)) }
  let g := { g with grant := cap 0x9C0 32, root := cap 0x9D0 33 }
  let g := { g with xflags := Sparse.setAll 0 g.xflags ((List.range 96).map fun l => (l, bytes.getD (0x9E0 + l) 0)) }
  let g := { g with smuFlags := g.xflags }
  let g := { g with handle := (List.range 8).filterMap fun a =>
    let w := num (0x988 + 4 * a) 4
    (if w.testBit 31 then some (a, some ((Sparse.get none g.handle a).getD (w % 8))) else none) }
  g.mapSlices (fun i sl =>
    let o := 0x080 + 32 * i
    let sl := { sl with pc := BitVec.ofNat 64 (num o 8), link := BitVec.ofNat 64 (num (o + 8) 8) }
    let sl := { sl with state := state (num (o + 16) 1), park := park (num (o + 17) 1), gang := num (o + 18) 1 }
    { sl with unfinished := BitVec.ofNat 4 (num (o + 19) 1), arg := BitVec.ofNat 32 (num (o + 20) 4),
              deadline := BitVec.ofNat 64 (num (o + 24) 8) }) (List.range g.sliceCount)

/-! ### Pages and frames of a context object -/

/-- A frame of a slice that firmware takes for a context object: one that was returned, else the next from the top of the
frames that contexts may use (DESIGN CHOICE, log 91), but for retired ones. Frames are named with their tier. -/
def State.takeFrame (s : State) (slice : Nat) : State × Option Nat :=
  let e := Sparse.get (0, []) s.mem.fwFrames slice
  match e.2 with
  | f :: fs => ({ s with mem := { s.mem with fwFrames := Sparse.set (0, []) s.mem.fwFrames slice (e.1, fs) } }, some f)
  | [] =>
    let bad := Sparse.get [] s.fw.retired (slice / 32)
    let number (n : Nat) : Nat := (contextFrames - 1 - n) * 128 + slice
    match (List.range (bad.length + 1)).find? fun i => !bad.contains (BitVec.ofNat 33 (dramFrame (number (e.1 + i)))) with
    | none => (s, none)
    | some i =>
      if contextFrames ≤ e.1 + i then (s, none)
      else ({ s with mem := { s.mem with fwFrames := Sparse.set (0, []) s.mem.fwFrames slice (e.1 + i + 1, []) } },
        some (dramFrame (number (e.1 + i))))

/-- Whether a frame was retired. -/
def State.isRetired (s : State) (f : Nat) : Bool :=
  (Sparse.get [] s.fw.retired (f % 128 / 32)).contains (BitVec.ofNat 33 f)

/-- Return a frame to firmware, cleared; one of main memory that is not retired joins those that it takes again. -/
def State.returnFrame (s : State) (f : Nat) : State :=
  let e := Sparse.get (0, []) s.mem.fwFrames (f % 128)
  let m := s.mem.clearFrame f
  { s with
    mem := { m with
      fwFrames := Sparse.set (0, []) s.mem.fwFrames (f % 128)
        (e.1, if frameTier f = 1 ∧ s.isRetired f = false then f :: e.2 else e.2)
      tables := Sparse.clearRange s.mem.tables (frameNumber f * 8192) (frameNumber f * 8192 + 8192) }
    trust := { s.trust with frames := Sparse.set {} s.trust.frames f { s.frameMeta f with bound := false } } }

/-- A table pointer (10 R174). -/
def tablePtr (frame table : Nat) : W64 := BitVec.ofNat 64 (2 ^ 63 + table * 2 ^ 31 + frameNumber frame)

/-- The crypto mode of a context object's pages: encrypted when its context is protected and has a key. -/
def ObjEntry.pageMode (t : ObjEntry) (prot : Bool) : Nat := if prot && t.slot != 0 then 1 else 0

/-- Firmware maps a page of a context object, whose three tables lie in the frame of its root. -/
def State.mapPage (s : State) (o : BitVec 28) (page : Nat) : State × Bool :=
  let t := s.objEntry o
  let k := tableKey (tablePtr (bits t.root 30 0) 2) page
  if (Sparse.get 0 s.mem.tables k).getLsbD 63 then (s, true)
  else
    match s.takeFrame (homeSlice o page) with
    | (s, none) => (s, false)
    | (s, some f) =>
      let leaf := BitVec.ofNat 64 (2 ^ 63 + 2 ^ 58 * t.pageMode (s.ctxOf t.ctx).prot + f)
      ({ s with mem := { s.mem with tables := Sparse.set 0 s.mem.tables k leaf } }, true)

/-- Map a list of pages; the pages that no frame was left for. -/
def State.mapPages (s : State) (o : BitVec 28) : List Nat → State × List Nat
  | [] => (s, [])
  | p :: ps =>
    let r := s.mapPage o p
    let t := State.mapPages r.1 o ps
    (t.1, if r.2 then t.2 else p :: t.2)

/-- Set the dirty-map bits of the 4 KiB regions of some lines. -/
def Group.markRegions (g : Group) (lines : List Nat) : Group :=
  { g with dirtyMap := lines.foldl (fun w n => w ||| (1#256 <<< (n / 64))) g.dirtyMap }

/-! ### Reading and writing lines of the object (R153, R154) -/

/-- The requester of a core's own context-line traffic (R376). -/
def State.lineReq (s : State) (h : Nat) (g : Group) : Requester :=
  { s.groupReq h g 0 with ownLine := true }

/-- The kind of the page fault that context-line traffic meets at a page, if it meets one: the tests of 10 R176 in their
order. What the Levee denies faults no write-protect test (10 R182). -/
def State.lineFault (s : State) (h page : Nat) (writes : Bool) : Option Nat :=
  let o := BitVec.ofNat 28 h
  let t := s.objEntry o
  let off := page * 65536
  if !s.dieRuns (homeDie o) then none
  else if !t.valid || decide (t.last < off) then some 1
  else if t.publishing then none
  else
    match s.walk t.root off with
    | .missing => some 1
    | .poison => none
    | .leaf _ w =>
      if leafMalformed w (homeSlice o page) then some 5
      else if (s.cryptoFault w t).isSome then none
      else if writes && leafProtected w && (s.group h).all (fun g => s.levee (s.lineReq h g) (leafPtag w)) then
        some (if s.mem.migrating.contains (o, page) then 3 else 2)
      else none

/-- The pages of some lines that fault. -/
def State.faultPages (s : State) (h : Nat) (lines : List Nat) (writes : Bool) : List (Nat × Nat) :=
  ((lines.map fun n => n / 1024).eraseDups).filterMap fun p => (s.lineFault h p writes).map fun k => (p, k)

/-- Write context lines to the object, whose pages do not fault. A write that the home Weir refuses otherwise is done
(DEDUCED, log 53); one that the Levee denies is logged and discarded (10 R182). -/
def State.storeLines (s : State) (h : Nat) (g : Group) : List Nat → State
  | [] => s
  | n :: ns =>
    let o := BitVec.ofNat 28 h
    let s := match s.translate (s.lineReq h g) o (64 * n) true false with
      | (s, .ok w t) =>
        let bytes := g.lineBytes (s.ctxOf g.ctx).prot n
        (s.reach o (64 * n) 64 w t true none).writeFrame (leafFrame w)
          ((List.range 64).map fun i => (64 * n % 65536 + i, bytes.getD i 0))
      | (s, .denied ptag) => s.logDenial (s.lineReq h g) o (64 * n) ptag 2
      | (s, _) => s
    State.storeLines s h g ns

/-- What the read of a line answers; `wait` while the request waits in the miss queue. -/
inductive LineIn where
  | bytes (b : List Byte)
  | refused (status : BitVec 8)
  | wait
  deriving DecidableEq, Repr

/-- Read a line of the object; a poisoned one answers 0x03 (R154), and one that the Levee denies gives zeros (10 R182). -/
def State.readLine (s : State) (h : Nat) (g : Group) (n : Nat) : State × LineIn :=
  let o := BitVec.ofNat 28 h
  match s.translate (s.lineReq h g) o (64 * n) false false with
  | (s, .ok w t) =>
    let s := s.reach o (64 * n) 64 w t false none
    if s.framePoisoned (leafFrame w) (64 * n % 65536) 64 then (s, .refused 0x03)
    else (s, .bytes ((List.range 64).map fun i => s.frameByte (leafFrame w) (64 * n % 65536 + i)))
  | (s, .refused st) => (s, .refused st)
  | (s, .denied ptag) => (s.logDenial (s.lineReq h g) o (64 * n) ptag 0, .bytes (List.replicate 64 0))
  | (s, _) => (s, .wait)

/-- Record the page faults of a group's own lines; the pages that entered the fault queue, and whether one is marked no
wake (10 R178). -/
def State.recordPages (s : State) (h : Nat) (g : Group) : List (Nat × Nat) → State × List Nat × Bool
  | [] => (s, [], false)
  | (p, k) :: ps =>
    match s.recordFault (s.lineReq h g) (BitVec.ofNat 28 h) p k with
    | none => State.recordPages s h g ps
    | some (s, nw) =>
      let r := State.recordPages s h g ps
      (r.1, p :: r.2.1, nw || r.2.2)

/-- A context fault (R154): the faults are recorded, and the group takes the group-scope park; a group that has one
outstanding stays as it is. `slices` is the gang whose fill met it. -/
def State.faultContext (s : State) (h : Nat) (g : Group) (pages : List (Nat × Nat)) (slices : List Nat) : State :=
  if g.ctxFault then s
  else
    let r := s.recordPages h g pages
    if r.2.1 = [] then r.1
    else
      let g := g.mapSlices (fun _ sl => if sl.state = .ready ∨ sl.park = .registerMiss then sl.parkAt .contextFault 0 0 else sl)
        g.live
      r.1.putGroup h { g with ctxFault := true, ctxSlices := slices, faultedOn := r.2.1.map fun p => (BitVec.ofNat 28 h, p),
                              faultKinds := r.2.1.map fun p => ((pages.find? fun e => e.1 == p).map Prod.snd).getD 0,
                              faultSlices := slices, noWake := r.2.2, noWakeAt := r.1.replayTick g.core r.2.2 }

/-- The park of a context fault ends, and the request is repeated (R154). -/
def Group.endContextFault (g : Group) : Group :=
  let parked := g.live.filter fun i => (g.slice i).park == .contextFault
  ({ g with ctxFault := false, ctxSlices := [], faultedOn := [], noWake := false, noWakeAt := 0 } : Group).mapSlices
    (fun _ sl => sl.ready) parked

/-- Whether lines can be written to the object now; else the state in which their pages have faulted. -/
def State.mayStore (s : State) (h : Nat) (g : Group) (lines : List Nat) : Option State :=
  if lines = [] then none
  else
    let pages := s.faultPages h lines true
    if pages ≠ [] then some (s.faultContext h g pages [])
    else if (s.objEntry (BitVec.ofNat 28 h)).publishing || lines.any fun n => s.missFull (homeSlice (BitVec.ofNat 28 h) (n / 1024)) then
      some s
    else none

/-! ### The header in memory (R148) -/

/-- Whether the header in a group's object is behind the group: outside RESIDENT and IDLE, when its lines are in the cache,
and SAVED, when its image stands, the object shows the group as it is. -/
def State.headerStale (s : State) (h : Nat) (g : Group) : Bool :=
  let shown (w : W64) : Bool :=
    g.headerBytes (s.ctxOf g.ctx).prot == (List.range 2624).map fun i => s.frameByte (leafFrame w) i
  if g.privileged then false
  else
  match g.state with
  | .resident | .idle | .saved => false
  | .done => g.stored != .done && (s.plainPage (BitVec.ofNat 28 h) 0).isSome
  | _ => match s.plainPage (BitVec.ofNat 28 h) 0 with
    | none => false
    | some (w, _) => !leafProtected w && s.levee (s.lineReq h g) (leafPtag w) && !shown w

/-- Write the header lines of a group to its object. -/
def State.storeHeader (s : State) (h : Nat) (g : Group) : State :=
  let g := { g.markRegions [0] with stored := g.state }
  (s.storeLines h g (List.range headerLines)).putGroup h g

/-- Write the headers that are behind. -/
def State.syncHeaders (s : State) : State :=
  s.groups.foldl (fun (s : State) e =>
    match s.group e.1 with
    | none => s
    | some g => if s.headerStale e.1 g then s.storeHeader e.1 g else s) s

/-- Whether the header of some group is behind. -/
def State.headersStale (s : State) : Bool :=
  s.groups.any fun e => match e.2 with
    | none => false
    | some g => s.headerStale e.1 g

/-! ### Creating and freeing a context object -/

/-- A context object index of a die that no object holds: firmware counts up from the middle of the die's range
(DESIGN CHOICE, log 85). -/
def State.freeObject (s : State) (die : Nat) : Nat → Nat → Nat
  | 0, n => die * 2 ^ 26 + n % 2 ^ 26
  | fuel + 1, n =>
    let o := die * 2 ^ 26 + n % 2 ^ 26
    if (s.objEntry (BitVec.ofNat 28 o)).valid || (s.group o).isSome then State.freeObject s die fuel (n + 1) else o

/-- The lines that the initial state writes (R146): the header, the vector lines of v0-v3, for a task group those of
v0-v9 (07 R124), and the shape lines. -/
def Group.firstLines (g : Group) : List Nat :=
  let vecs := (if g.task then 3 else 1) * g.sliceCount
  List.range headerLines ++ ((List.range (min vecs g.vecLines)).map fun i => headerLines + i)
    ++ (if g.xCount = 0 then [] else (List.range g.sliceCount).map fun i => g.shapeLine + i)

/-- Create a context object (R146) for a group and store the group: its handle is the object index (DESIGN CHOICE, log 6). -/
def State.createContext (s : State) (die : Nat) (g : Group) : State × Nat :=
  let h := s.freeObject die 65536 s.disp.nextObject
  let o := BitVec.ofNat 28 h
  let d := s.ctxOf g.ctx
  let s := { s with disp := { s.disp with nextObject := h % 2 ^ 26 + 1 } }
  match s.takeFrame (32 * die) with
  | (s, none) => (s.putGroup h g, h)
  | (s, some f) =>
    let entry : ObjEntry :=
      { root := tablePtr f 0, shadow := 0,
        sizeKey := BitVec.ofNat 64 (2 ^ 24 * (g.objectBytes - 1) + 2 ^ 12 * d.slot.toNat),
        flags := (3#64 <<< 32) ||| g.ctx.setWidth 64 }
    let s := { s with mem := { s.mem with
      objects := Sparse.set {} s.mem.objects h entry
      tables := Sparse.setAll 0 s.mem.tables [(tableKey (tablePtr f 0) 0, tablePtr f 1), (tableKey (tablePtr f 1) 0, tablePtr f 2)] } }
    let s := (s.mapPages o (g.firstLines.map fun n => n / 1024).eraseDups).1
    let s := s.storeLines h g g.firstLines
    (s.putGroup h g, h)

/-- Free a context object. -/
def State.freeContext (s : State) (h : Nat) : State :=
  let o := BitVec.ofNat 28 h
  let t := s.objEntry o
  let root := tablePtr (bits t.root 30 0) 2
  let frames := (List.range ((t.last + 65536) / 65536)).filterMap fun p =>
    let w := Sparse.get 0 s.mem.tables (tableKey root p)
    if w.getLsbD 63 then some (leafFrame w) else none
  let s := if t.valid then (frames ++ [dramFrame (bits t.root 30 0)]).foldl (fun (s : State) f => s.returnFrame f) s else s
  { s with mem := { s.mem with objects := Sparse.set {} s.mem.objects h {} }, groups := Sparse.set none s.groups h none }

/-! ### The register context cache (R152-R154) -/

/-- The state of a line in the cache. -/
def Group.line (g : Group) (n : Nat) : LineState := Sparse.get .invalid g.present n

/-- The lines of the cache that a group holds: a line that is still waited for has none yet (DESIGN CHOICE, log 51). -/
def Group.lineCount (g : Group) : Nat := (g.present.filter fun e => e.2 != .filling).length

/-- The groups that hold a slot of a core, by handle. -/
def State.residents (s : State) (core : Nat) : List Nat :=
  (Sparse.get {} s.cores core).slots.filterMap Prod.snd

/-- The groups of a core that have not ended, by handle: a group that has holds no line. -/
def State.groupsOf (s : State) (core : Nat) : List (Nat × Group) :=
  s.groups.filterMap fun e => match e.2 with
    | none => none
    | some g => if g.core = core ∧ g.live ≠ [] then some (e.1, g) else none

/-- The lines in use on a core. -/
def State.linesUsed (s : State) (core : Nat) : Nat := (s.groupsOf core).foldl (fun n e => n + e.2.lineCount) 0

/-- The lines of a core's cache outside the port reserves: 12,288 less four times 1,344. -/
def sharedLines : Nat := 6912

/-- The lines that a port reserves. -/
def portReserve : Nat := 1344

/-- The lines of the spill area of a core: 512 KiB (07 R114). -/
def spillLines : Nat := 8192

/-- Mark absent lines as waited for. -/
def Group.askLines (g : Group) (lines : List Nat) : Group :=
  { g with present := lines.foldl (fun (p : Sparse LineState) n =>
      if Sparse.get .invalid p n = .invalid then Sparse.set .invalid p n .filling else p) g.present }

/-- The lines of a list that the cache does not hold. -/
def Group.absent (g : Group) (lines : List Nat) : List Nat :=
  lines.filter fun n => g.line n == .invalid || g.line n == .filling

/-- Whether the header lines of a group are still waited for: it does not issue (R152). -/
def Group.headerWaits (g : Group) : Bool := g.present.any fun e => decide (e.1 < headerLines) && e.2 == .filling

/-- The pages of a group's waiting lines that fault. -/
def State.missingPages (s : State) (h : Nat) (g : Group) : List (Nat × Nat) :=
  s.faultPages h (g.filling.filter fun n => !g.inSpill n) false

/-- The waiting fill of a port that is oldest. -/
def State.oldestFill (s : State) (core port : Nat) : Option Nat :=
  (((s.residents core).filterMap fun h => (s.group h).map fun g => (h, g)).filter fun e =>
    decide (e.2.port = port) && e.2.filling != []).foldl (fun (b : Option (Nat × Nat)) e =>
      match b with
      | none => some (e.1, e.2.askedAt)
      | some (k, a) => if e.2.askedAt < a then some (e.1, e.2.askedAt) else some (k, a)) none |>.map Prod.fst

/-- What the ports have drawn of their reserves, once lines have come free: together no more than `most`, the ports of lower
numbers giving back first (DESIGN CHOICE, log 51). -/
def lowerDrawn (d : Sparse Nat) (most : Nat) : Sparse Nat :=
  let sum := (List.range 4).foldl (fun k p => k + Sparse.get 0 d p) 0
  ((List.range 4).foldl (fun (a : Sparse Nat × Nat) p =>
    let n := min a.2 (Sparse.get 0 a.1 p)
    (Sparse.set 0 a.1 p (Sparse.get 0 a.1 p - n), a.2 - n)) (d, sum - most)).1

/-- The core with n lines taken for the fill of a group: shared ones, and for the oldest waiting fill of its port those of
the port's reserve too (DESIGN CHOICE, log 51). None while there is no room. -/
def State.takeLines (s : State) (h : Nat) (g : Group) (n : Nat) : Option State :=
  let used := s.linesUsed g.core
  if used + n ≤ sharedLines then some s
  else
    let c := Sparse.get {} s.cores g.core
    let drawn := lowerDrawn c.drawn (used - sharedLines)
    let own := Sparse.get 0 drawn g.port
    let more := used + n - max used sharedLines
    if s.oldestFill g.core g.port = some h ∧ own + more ≤ portReserve then
      some { s with cores := Sparse.set {} s.cores g.core { c with drawn := Sparse.set 0 drawn g.port (own + more) } }
    else none

/-- One line arrives: from the spill area, where it is newer than the object, or from the object. A refused line does not
arrive; its number goes with the status to the list (DESIGN CHOICE, log 65). -/
def State.fillCtxLine (h : Nat) (a : State × Group × List (Nat × BitVec 8)) (n : Nat) :
    State × Group × List (Nat × BitVec 8) :=
  let (s, g, bad) := a
  if g.inSpill n then
    (s, { g with present := Sparse.set .invalid g.present n .dirty, spilled := g.spilled.filter fun e => e.1 != n }, bad)
  else
    if s.missFull (homeSlice (BitVec.ofNat 28 h) (n / 1024)) then (s, g, bad)
    else
    match s.readLine h g n with
    | (s, .bytes b) => (s, ({ g with present := Sparse.set .invalid g.present n .clean } : Group).takeLine n b, bad)
    | (s, .refused st) => (s, { g with present := Sparse.set .invalid g.present n .invalid }, bad ++ [(n, st)])
    | (s, .wait) => (s, g, bad)

/-! ### Eviction and line reclamation (R156) -/

/-- Whether a group is evictable (R156 items 1-4) (DESIGN CHOICE, log 52). -/
def State.evictable (s : State) (h : Nat) : Bool :=
  match s.group h with
  | none => false
  | some g => g.state == .idle && g.pending == [] && g.memOps == [] && g.filling == [] && !g.ctxFault && g.issued

/-- The evictable group of a list whose last issue is oldest (DESIGN CHOICE, log 85). -/
def State.victim (s : State) (hs : List Nat) : Option Nat :=
  (hs.filter s.evictable).foldl (fun (b : Option Nat) h =>
    let age (k : Nat) : Nat := ((s.group k).map Group.lastIssue).getD 0
    match b with
    | none => some h
    | some k => if age h < age k then some h else some k) none

/-- The tiles that the outstanding commands of a group use or are to free (18 R331). -/
def State.busyTiles (s : State) (h : Nat) : List Nat :=
  s.cmds.flatMap fun e => match e.2 with
    | none => []
    | some c => if c.group = h then c.tiles ++ c.frees else []

/-- Whether a tile of a core is a group's. -/
def Core.ownsTile (c : Core) (h t : Nat) : Bool := Sparse.get none c.tileOwner t == some h

/-- The bound handles of a group whose tiles stand in its core and no outstanding command uses: their tile writes may be
performed (18 R331). -/
def State.idleHandles (s : State) (h : Nat) (g : Group) : List (Nat × Nat) :=
  let c := Sparse.get {} s.cores g.core
  g.handle.filterMap fun e => match e.2 with
    | none => none
    | some t => if c.ownsTile h t && !(s.busyTiles h).contains t then some (e.1, t) else none

/-- Copy the tiles of some handles into the group, row-major. -/
def State.saveTiles (s : State) (g : Group) (hs : List (Nat × Nat)) : Group :=
  let c := Sparse.get {} s.cores g.core
  hs.foldl (fun (g : Group) e =>
    let vals := (c.tiles.filter fun w => decide (9216 * e.2 ≤ w.1) && decide (w.1 < 9216 * (e.2 + 1))).map fun w =>
      (9216 * e.1 + (w.1 - 9216 * e.2), w.2)
    { g with savedTiles := Sparse.setAll 0 (Sparse.clearRange g.savedTiles (9216 * e.1) (9216 * (e.1 + 1))) vals }) g

/-- The accumulator lines of a handle. -/
def Group.tileLines (g : Group) (a : Nat) : List Nat := (List.range 576).map fun i => g.accLine + 576 * a + i

/-- The core without a group: its slot is free, and its tiles but those that its commands still use. -/
def Core.leave (c : Core) (h : Nat) (busy : List Nat) : Core :=
  { c with slots := c.slots.filter fun e => e.2 != some h
           tileOwner := c.tileOwner.filter fun e => e.2 != some h || busy.contains e.1 }

/-- Whether a line of a group holds other bytes than its object: it has been written since it was filled (R152 DIRTY)
(DESIGN CHOICE, log 51). -/
def State.lineChanged (s : State) (h : Nat) (g : Group) (n : Nat) : Bool :=
  match s.plainPage (BitVec.ofNat 28 h) (64 * n) with
  | none => true
  | some (w, _) =>
    g.lineBytes (s.ctxOf g.ctx).prot n != (List.range 64).map fun i => s.frameByte (leafFrame w) (64 * n % 65536 + i)

/-- The present vector and small-matrix lines of a group that are DIRTY. -/
def State.dirtyLines (s : State) (h : Nat) (g : Group) : List Nat :=
  ((g.present.filter fun e => decide (headerLines ≤ e.1) && (e.2 == .dirty || (e.2 == .clean && s.lineChanged h g e.1)))).map
    Prod.fst

/-- What a group writes to its object when it leaves its core: its header, its dirty and spilled lines, and the tiles of
its bound handles. -/
def State.leaveLines (s : State) (h : Nat) (g : Group) : List Nat :=
  List.range headerLines ++ s.dirtyLines h g ++ g.spilled.map Prod.fst ++ g.handle.flatMap fun e => g.tileLines e.1

/-- Write a group's dirty lines, header and tiles to its object, and free what it holds of the core; its state becomes the
one given. The tile of a command that has not completed is written later (18 R331). When a page faults, nothing is
written, the lines stay and the group has a context fault (R154): the flag is then false. -/
def State.leaveCore (s : State) (h : Nat) (g : Group) (st : GroupState) : State × Bool :=
  match s.mayStore h g (s.leaveLines h g) with
  | some t => (t, false)
  | none =>
    let idle := s.idleHandles h g
    let lines := List.range headerLines ++ s.dirtyLines h g ++ g.spilled.map Prod.fst ++ idle.flatMap fun e => g.tileLines e.1
    let g := (s.saveTiles g idle).markRegions lines
    let g := { g with present := [], spilled := [], state := st, stored := st }
    let c := (Sparse.get {} s.cores g.core).leave h (s.busyTiles h)
    let s := s.storeLines h g.settle lines
    (({ s with cores := Sparse.set {} s.cores g.core c } : State).putGroup h g, true)

/-- Evict a group. The flag tells whether it left. -/
def State.evict (s : State) (h : Nat) : State × Bool :=
  match s.group h with
  | none => (s, false)
  | some g => s.leaveCore h g .out

/-- The tile writes that an eviction or save left to an MX command of the group are performed once it has completed
(18 R331). -/
def State.lateTiles (s : State) (h : Nat) : State :=
  match s.group h with
  | none => s
  | some g =>
    let idle := s.idleHandles h g
    if g.state = .resident ∨ g.state = .idle ∨ g.state = .done ∨ g.state = .halted ∨ idle = [] then s
    else
      let lines := idle.flatMap fun e => g.tileLines e.1
      match s.mayStore h g lines with
      | some t => t
      | none =>
        let g := (s.saveTiles g idle).markRegions lines
        let c := (Sparse.get {} s.cores g.core).leave h (s.busyTiles h)
        ((({ s with cores := Sparse.set {} s.cores g.core c } : State).storeLines h g lines).putGroup h g)

/-! ### Activation (R155) -/

/-- The activation queue of a core, in its three classes. -/
def Core.queue (c : Core) : List Nat := c.released ++ c.tasks ++ c.created

/-- Whether two groups share a quota: one grid, or one task kernel. -/
def Group.sameQuota (a b : Group) : Bool :=
  if a.task || b.task then a.task && b.task && a.code == b.code else a.grid == b.grid

/-- The residents of a core that count against a group's quota. -/
def State.quotaPeers (s : State) (core : Nat) (g : Group) : List Nat :=
  (s.residents core).filter fun k => ((s.group k).map g.sameQuota).getD false

/-- The residents of a port. -/
def Core.onPort (c : Core) (p : Nat) : Nat := (c.slots.filter fun e => e.1 / 32 == p && e.2.isSome).length

/-- The port for a new resident: the fewest residents among those with a free slot, the lowest on a tie. -/
def Core.freePort (c : Core) : Option Nat :=
  ((List.range 4).filter fun p => decide (c.onPort p < 32)).foldl (fun (b : Option Nat) p =>
    match b with
    | none => some p
    | some q => if c.onPort p < c.onPort q then some p else some q) none

/-- The bound handles of a group whose tiles are not in its core. -/
def Core.absentHandles (c : Core) (h : Nat) (g : Group) : List Nat :=
  g.handle.filterMap fun e => if (e.2.map (c.ownsTile h)).getD false then none else some e.1

/-- Whether the core has as many free tiles as the group has bound handles. -/
def Core.tilesFor (c : Core) (h : Nat) (g : Group) : Bool :=
  decide ((c.absentHandles h g).length ≤ ((List.range 8).filter fun t => Sparse.get none c.tileOwner t == none).length)

/-- Whether a group's grid is below its quota on a core: the quota applies to classes 1 to 3 (R155). -/
def State.belowQuota (s : State) (core : Nat) (g : Group) : Bool := decide ((s.quotaPeers core g).length < g.quota)

/-- Bind the handles of a group to free tiles, with the values it left. -/
def State.restoreTiles (s : State) (h : Nat) (g : Group) : State × Group :=
  let c := Sparse.get {} s.cores g.core
  let free := (List.range 8).filter fun t => Sparse.get none c.tileOwner t == none
  let pairs := (c.absentHandles h g).zip free
  let c := pairs.foldl (fun (c : Core) e =>
    let vals := (g.savedTiles.filter fun w => w.1 / 9216 == e.1).map fun w => (9216 * e.2 + w.1 % 9216, w.2)
    { c with tileOwner := Sparse.set none c.tileOwner e.2 (some h),
             tiles := Sparse.setAll 0 (Sparse.clearRange c.tiles (9216 * e.2) (9216 * (e.2 + 1))) vals }) c
  ({ s with cores := Sparse.set {} s.cores g.core c },
    { g with handle := pairs.foldl (fun (m : Sparse (Option Nat)) e => Sparse.set none m e.1 (some e.2)) g.handle })

/-- Activate a group on a port of its core: its header lines that the cache does not hold are asked for (R152). -/
def State.activate (s : State) (h p : Nat) : State :=
  match s.group h with
  | none => s
  | some g =>
    let c := Sparse.get {} s.cores g.core
    let slot := ((List.range 32).find? fun i => Sparse.get none c.slots (32 * p + i) == none).getD 0
    let drop (l : List Nat) : List Nat := l.filter fun k => k != h
    let c := { c with slots := Sparse.set none c.slots (32 * p + slot) (some h), released := drop c.released,
                      tasks := drop c.tasks, created := drop c.created }
    let s := { s with cores := Sparse.set {} s.cores g.core c }
    let r := s.restoreTiles h g
    r.1.putGroup h ({ r.2 with state := .resident, port := p, slot := slot, issued := false, lazy := false,
                                 askedAt := s.serial }.askLines (List.range headerLines))

/-- The group to evict so that an entry blocked only by its quota or by the lack of a slot may be activated. -/
def State.unblocker (s : State) (core h : Nat) (g : Group) : Option Nat :=
  let c := Sparse.get {} s.cores core
  if !c.tilesFor h g then none
  else if !s.belowQuota core g then s.victim (s.quotaPeers core g)
  else if c.freePort = none then s.victim (s.residents core)
  else none

/-- Activate the first entry that can be, with one eviction when that unblocks it (R155). -/
def State.activateFirst (s : State) (core : Nat) : List Nat → State
  | [] => s
  | h :: hs =>
    match s.group h with
    | none => State.activateFirst s core hs
    | some g =>
      let c := Sparse.get {} s.cores core
      match c.freePort, s.belowQuota core g && c.tilesFor h g with
      | some p, true => s.activate h p
      | _, _ =>
        match s.unblocker core h g with
        | none => State.activateFirst s core hs
        | some v =>
          match s.evict v with
          | (t, false) => if t = s then State.activateFirst s core hs else t
          | (t, true) =>
            let c2 := Sparse.get {} t.cores core
            match c2.freePort with
            | some p => if t.belowQuota core g then t.activate h p else State.activateFirst s core hs
            | none => State.activateFirst s core hs

/-- ACTIVATION (R155). -/
def execActivation (core : Nat) (s : State) : Res :=
  let c := Sparse.get {} s.cores core
  .next (if c.parked then s else s.activateFirst core c.queue)

/-! ### Room for a fill (R152, R156, R161) -/

/-- Drop some lines of a group from the cache. -/
def Group.dropLines (g : Group) (lines : List Nat) : Group :=
  { g with present := g.present.filter fun e => !lines.contains e.1 }

/-- The n oldest lines of the spill area of a core, with their groups. -/
def State.oldestSpilled (s : State) (core n : Nat) : List (Nat × Nat) :=
  let keys := (s.groupsOf core).flatMap fun e => e.2.spilled.map fun l => (l.2 * 2 ^ 28 + e.1) * 2 ^ 20 + l.1
  ((sortKeys keys).take n).map fun k => (k / 2 ^ 20 % 2 ^ 28, k % 2 ^ 20)

/-- Write lines of a group from the spill area to its object, or meet the context fault of their pages. -/
def State.spillLinesOut (s : State) (h : Nat) (lines : List Nat) : State :=
  match s.group h with
  | none => s
  | some g =>
    match s.mayStore h g lines with
    | some t => t
    | none =>
      (s.storeLines h g lines).putGroup h { g.markRegions lines with spilled := g.spilled.filter fun e => !lines.contains e.1 }

/-- Write the n oldest lines of the spill area of a core to their objects (07 R114, R153). -/
def State.spillOut (s : State) (core n : Nat) : State :=
  let oldest := s.oldestSpilled core n
  (sortKeys (oldest.map Prod.fst)).foldl (fun (s : State) h =>
    s.spillLinesOut h ((oldest.filter fun e => e.1 == h).map Prod.snd)) s

/-- Reclaim the lines of a victim (R156): clean vector and small-matrix lines first are dropped, then dirty ones go to the
spill area, as many as it can hold. -/
def State.reclaim (s : State) (v : Nat) : State :=
  match s.group v with
  | none => s
  | some g =>
    let body := (g.present.filter fun e => decide (headerLines ≤ e.1) && e.2 != .filling).map Prod.fst
    let dirty := s.dirtyLines v g
    let clean := body.filter fun n => !dirty.contains n
    let held := (s.groupsOf g.core).foldl (fun k e => k + e.2.spilled.length) 0
    if clean ≠ [] then s.putGroup v (g.dropLines clean)
    else if spillLines < held + dirty.length ∧ held ≠ 0 then s.spillOut g.core (held + dirty.length - spillLines)
    else
      let go := dirty.take (spillLines - held)
      s.putGroup v { (g.dropLines go).markRegions go with spilled := g.spilled ++ go.map fun n => (n, s.serial) }

/-- A group of a core that is saved in place and still holds lines of the cache: the one whose last issue is oldest. -/
def State.lazyGroup (s : State) (core : Nat) : Option Nat :=
  ((s.groupsOf core).filter fun e => e.2.lazy && !(e.2.state == .resident || e.2.state == .idle) && e.2.present != []).foldl
    (fun (b : Option (Nat × Nat)) e =>
      match b with
      | none => some (e.1, e.2.lastIssue)
      | some (k, a) => if e.2.lastIssue < a then some (e.1, e.2.lastIssue) else some (k, a)) none |>.map Prod.fst

/-- Claim the lines of a group that is saved in place (R161): a dirty one is written to its object, a clean one dropped. -/
def State.claim (s : State) (h : Nat) : State :=
  match s.group h with
  | none => s
  | some g =>
    let lines := List.range headerLines ++ s.dirtyLines h g
    match s.mayStore h g lines with
    | some t => t
    | none => (s.storeLines h g lines).putGroup h { g.markRegions lines with present := [] }

/-- Make room for a fill that finds no line: a group saved in place gives up its lines, else a victim among the residents
that still holds vector or small-matrix lines. None when there is neither. -/
def State.makeRoom (s : State) (h core : Nat) : Option State :=
  match s.lazyGroup core with
  | some k => some (s.claim k)
  | none => (s.victim ((s.residents core).filter fun k => k != h && ((s.group k).map fun m =>
      m.present.any fun e => decide (headerLines ≤ e.1)).getD false)).map s.reclaim

/-! ### Fills and context faults (R153, R154) -/

/-- The gangs that wait at the register-miss park go on. -/
def Group.endMiss (g : Group) : Group :=
  g.mapSlices (fun _ sl => sl.ready) (g.live.filter fun i => (g.slice i).park == .registerMiss)

/-- The gang of the lowest slice in the register-miss park. -/
def Group.missGang (g : Group) : List Nat :=
  match g.live.find? fun i => (g.slice i).park == .registerMiss with
  | none => []
  | some i => g.gang (g.slice i).gang

/-- The slice of a context line; none for a header or accumulator line. -/
def Group.lineSlice (g : Group) (n : Nat) : Option Nat :=
  if n < headerLines ∨ g.accLine ≤ n then none
  else if n < g.shapeLine then some ((n - headerLines) % g.sliceCount)
  else
    let m := n - g.shapeLine
    some (if m < g.sliceCount then m else (m - g.sliceCount) / 9 % g.sliceCount)

/-- The gang whose fill met a fault of some pages (R154): that of the first waiting line on one of them, when it is parked for
it, else the lowest gang that is. -/
def Group.faultGang (g : Group) (pages : List Nat) : List Nat :=
  let lines := g.filling.filter fun n => !g.inSpill n && pages.contains (n / 1024)
  match lines.findSome? fun n => (g.lineSlice n).bind fun k => if (g.slice k).park = .registerMiss then some k else none with
  | some k => g.gang (g.slice k).gang
  | none => g.missGang

/-- Whether the pages that a group's context fault waits for no longer fault, in the way that they did. -/
def State.ctxServed (s : State) (h : Nat) (g : Group) : Bool :=
  (List.range g.faultedOn.length).all fun i =>
    let k := g.faultKinds.getD i 0
    (s.lineFault h ((g.faultedOn.map Prod.snd).getD i 0) (k == 2 || k == 3)).isNone

/-- The lanes of a gang that consume lines that were not delivered: those of Active() when it has some of them. -/
def Group.badLanes (g : Group) (slices : List Nat) (bad : List (Nat × BitVec 8)) : List Nat :=
  let hit (l : Nat) : Bool := bad.any fun e => g.lineSlice e.1 == none || g.lineSlice e.1 == some (l / 4)
  let own := (slices.flatMap fun i => (List.range 4).map fun q => 4 * i + q).filter hit
  let act := own.filter fun l => (g.active slices).contains l
  if act = [] then own else act

/-- A gang consumes lines that were not delivered (R154, 13 R231, R232): the lanes of their slices trap. A poisoned line rolls
the group back at its first consumption in a region. -/
def State.badLines (s : State) (h : Nat) (slices : List Nat) (bad : List (Nat × BitVec 8)) : State :=
  match s.group h with
  | none => s
  | some g =>
    let pc := (g.slice (slices.headD 0)).pc
    let mine := bad.filter fun e => match g.lineSlice e.1 with
      | none => true
      | some k => slices.contains k
    let lanes := g.badLanes slices bad
    let worst := (mine.filter fun e => statusTraps e.2).map Prod.snd
    match worst with
    | st :: rest =>
      let cd := statusCause (rest.foldl lowerCause st)
      s.raise h g slices pc { cause := cd.1.code, detail := cd.2, lane := lanes.headD 0, lanes := lanes, resume := pc }
    | [] =>
      let inHandler := g.handling && sliceBits slices &&& g.tstat &&& 0xFFFFFF#64 != 0
      if g.repc.getLsbD 0 && !g.firstPoison.contains pc && !inHandler then
        ({ s with fw := { s.fw with transient := s.fw.transient + 1 } } : State).putGroup h (g.repeatAt pc false).rollback
      else
        s.raise h g slices pc { cause := Cause.mempoison.code, detail := 0x03, lane := lanes.headD 0, lanes := lanes, resume := pc }

/-- The gangs that wait for the lines of a list: those of their slices, and for a header line the first gang. The one whose trap
has the lowest lane comes first (13 R234). -/
def Group.badGangs (g : Group) (bad : List (Nat × BitVec 8)) : List Nat :=
  let ids := bad.map fun e => match g.lineSlice e.1 with
    | none => (g.slice (g.live.headD 0)).gang
    | some k => (g.slice k).gang
  byLane (fun i => (g.badLanes (g.gang i) bad).headD 0) ids

/-- The waiting lines of a group arrive and its register-miss parks end; lines that do not arrive trap the gangs that wait
for them. The registers themselves are the group's (DEDUCED, log 53). -/
def State.fillNow (s : State) (h : Nat) (g : Group) : State :=
  let (s, g, bad) := g.filling.foldl (State.fillCtxLine h) (s, g, [])
  let late := g.badGangs bad
  let ok := (g.live.filter fun i => (g.slice i).park == .registerMiss && !late.contains (g.slice i).gang).map fun i => (g.slice i).pc
  let (s, g) := if g.filling = [] then (s.repeatPassed g ok [false], (g.repeatPassed ok [false]).endMiss) else (s, g)
  late.foldl (fun (s : State) i => s.badLines h (g.gang i) bad) (s.putGroup h g)

/-- REGISTER_FILL (R153): the waiting lines of a group are given lines of the cache and arrive. With no line free outside the
reserves room is made first, and with no room the oldest fill of a port draws on the port's reserve (R152, R156). -/
def execRegisterFill (grp : Nat) (s : State) : Res :=
  match s.group grp with
  | none => .next s
  | some g =>
    let n := g.filling.length
    if n = 0 ∨ s.missingPages grp g ≠ [] ∨ g.ctxFault then .next s
    else
      match (if s.linesUsed g.core + n ≤ sharedLines then none else s.makeRoom grp g.core) with
      | some t => .next t
      | none =>
        match s.takeLines grp g n with
        | none => .next s
        | some t => .next (t.fillNow grp g)

/-- CONTEXT_FAULT (R154): raised, the group parks and the fault is reported; provided, firmware has mapped the pages, zeroed,
and the park ends; refused, the group halts on the double-fault path with code 0x0006. -/
def execContextFault (grp : Nat) (stage : FaultStage) (s : State) : Res :=
  match s.group grp with
  | none => .next s
  | some g =>
    let o := BitVec.ofNat 28 grp
    let ended (s : State) : State := { s with mem := { s.mem with faults := s.mem.faults.filter fun e => e.object != o } }
    match stage with
    | .raised =>
      let pages := s.missingPages grp g
      .next (if pages = [] then s else s.faultContext grp g pages (g.faultGang (pages.map Prod.fst)))
    | .provided =>
      if !g.ctxFault then .next s
      else
        let r := s.mapPages o (g.faultedOn.map Prod.snd)
        if r.2 ≠ [] ∨ !r.1.ctxServed grp g then .next s
        else .next ((ended r.1).putGroup grp g.endContextFault)
    | .refused =>
      if !g.ctxFault then .next s
      else
        let gang := g.ctxSlices
        .next ((ended s).halt grp { g with ctxFault := false, faultedOn := [], ctxSlices := [] } 0x0006
          (g.slice (gang.headD (g.live.headD 0))).pc (tstatOf g.handling 0 0x06 0 gang))

/-! ### YIELDC (15 R273) -/

/-- The first entry of the activation queue that is blocked only by its quota or by the lack of a slot. -/
def State.blockedEntry (s : State) (core : Nat) : Option Nat :=
  let c := Sparse.get {} s.cores core
  c.queue.find? fun h => match s.group h with
    | none => false
    | some g => c.tilesFor h g && (!s.belowQuota core g || c.freePort == none)

/-- A gang of a group drains (09 R159 step 2): its pending results are written, a switch-point park ends, and an SMX among
them is delivered at its PC (DESIGN CHOICE, log 52). -/
def State.drainGang (s : State) (h i : Nat) : State :=
  match s.group h with
  | none => s
  | some g =>
    let slices := g.gang i
    if !g.hasPending slices then s
    else
      let smx := g.smxOf slices
      let g := (g.flush slices).mapSlices (fun _ sl => if sl.park = .switchPoint then sl.ready else sl) slices
      if smx = [] then s.putGroup h g else s.deliver h g slices (smxTrap smx (g.slice i).pc)

/-- Every gang of a group drains, the one whose trap has the lowest lane first (13 R234). -/
def State.drain (s : State) (h : Nat) : State :=
  match s.group h with
  | none => s
  | some g =>
    let lane (i : Nat) : Nat := (smxTrap (g.smxOf (g.gang i)) 0).lane
    (byLane lane (g.live.map fun i => (g.slice i).gang)).foldl (fun (s : State) i => s.drainGang h i) s

/-- YIELDC (R273): with a blocked entry, the group's results are written and its fills complete, it leaves its slot for the tail
of class 1, and the entry is activated. -/
def execYieldc (y : Bool) (s : State) : Res :=
  s.issue fun g =>
    match s.blockedEntry g.core with
    | none => s.retire y g
    | some entry =>
      if g.memOps ≠ [] ∨ g.filling ≠ [] then .next s
      else
        let h := s.cursor.group
        let s := (s.putGroup h (g.setPc s.cursor.slices (s.cursor.pc + 4))).drain h
        match s.group h with
        | none => .next s
        | some g =>
          if g.state ≠ .resident then .next s
          else
            let t := s.leaveCore h g .out
            if !t.2 then .next (match t.1.group h with
              | none => t.1
              | some g => t.1.putGroup h (g.setPc s.cursor.slices s.cursor.pc))
            else .next (t.1.activateFirst g.core [entry])

end Sys2Proof.Machine
end

