-- ==== Sys2Proof/Machine/Elementary.lean ====
section
/-! DEFINITION. The exact values that bound the special functions (16 R293), as fixed-point numbers of 512 fractional bits:
2^x, log2 x, sin x, cos x and tanh x, each nearer to the exact value than `fxSlack`. -/

namespace Sys2Proof.Machine

/-- Fractional bits of a fixed-point number. -/
def fxBits : Nat := 512

/-- One. -/
def fxOne : Int := 2 ^ fxBits

/-- The product of two fixed-point numbers, rounded down. -/
def fxMul (a b : Int) : Int := a * b / fxOne

/-- The quotient of two fixed-point numbers, rounded down. -/
def fxDiv (a b : Int) : Int := a * fxOne / b

/-- The allowance for the error of the values below: 2^-200 (DESIGN CHOICE, log 15). -/
def fxSlack : Int := 2 ^ (fxBits - 200)

/-- The finite datum m * 2^e with a sign, truncated below 2^-512. -/
def fxOf (neg : Bool) (m : Nat) (e : Int) : Int :=
  let k := e + fxBits
  signed neg (if 0 ≤ k then m * 2 ^ k.toNat else m / 2 ^ (-k).toNat)

/-- t / (2k + 1) plus or minus the rest: the series of atanh or atan from its k-th power t, with the square of its argument. -/
def fxOdd (alternate : Bool) (z2 : Int) : Nat → Nat → Int → Int
  | 0, _, _ => 0
  | n + 1, k, t =>
    let rest := fxOdd alternate z2 n (k + 1) (fxMul t z2)
    t / (2 * k + 1 : Nat) + (if alternate then -rest else rest)

/-- atan z, for |z| < 1/2. -/
def fxAtan (z : Int) : Int := fxOdd true (fxMul z z) 256 0 z

/-- atanh z, for |z| < 1/2. -/
def fxAtanh (z : Int) : Int := fxOdd false (fxMul z z) 256 0 z

/-- ln 2. -/
def fxLn2 : Int := 2 * fxAtanh (fxOne / 3)

/-- Twice pi. -/
def fxTwoPi : Int := 32 * fxAtan (fxOne / 5) - 8 * fxAtan (fxOne / 239)

/-- The series of exp from its k-th term t. -/
def fxExpFrom (z : Int) : Nat → Nat → Int → Int
  | 0, _, _ => 0
  | n + 1, k, t => t + fxExpFrom z n (k + 1) (fxMul t z / (k + 1 : Nat))

/-- exp z, for |z| at most 20. -/
def fxExp (z : Int) : Int := fxExpFrom z 256 0 fxOne

/-- The alternating series of sin or cos from its term t, whose power of the argument is k. -/
def fxWaveFrom (z2 : Int) : Nat → Nat → Int → Int
  | 0, _, _ => 0
  | n + 1, k, t => t - fxWaveFrom z2 n (k + 2) (fxMul t z2 / ((k + 1) * (k + 2) : Nat))

/-- sin z of the remainder of z modulo 2 pi. -/
def fxSin (z : Int) : Int :=
  let r := z % fxTwoPi
  fxWaveFrom (fxMul r r) 128 1 r

/-- cos z of the remainder of z modulo 2 pi. -/
def fxCos (z : Int) : Int :=
  let r := z % fxTwoPi
  fxWaveFrom (fxMul r r) 128 0 fxOne

/-- 2^z, for z from -150 to 128. -/
def fxExp2 (z : Int) : Int :=
  let i := z / fxOne
  let v := fxExp (fxMul (z % fxOne) fxLn2)
  if 0 ≤ i then v * 2 ^ i.toNat else v / 2 ^ (-i).toNat

/-- log2 (m * 2^e), for m not 0. -/
def fxLog2 (m : Nat) (e : Int) : Int :=
  let t := fxOf false m (-(Nat.log2 m : Int))
  (e + Nat.log2 m) * fxOne + fxDiv (2 * fxAtanh (fxDiv (t - fxOne) (t + fxOne))) fxLn2

/-- tanh z, for |z| below 10. -/
def fxTanh (z : Int) : Int :=
  let v := fxExp (2 * z)
  fxDiv (v - fxOne) (v + fxOne)

/-- An ulp of F32 at a value: 2^(max(e, -126) - 23), e its exponent (16 R293). -/
def fxUlp (v : Int) : Int :=
  let e := (Nat.log2 v.natAbs : Int) - fxBits
  2 ^ (max e (-126) - 23 + fxBits).toNat

/-- The F32 value nearest to a fixed-point number. -/
def fxNearest (v : Int) : W32 := BitVec.ofNat 32 (fF32.roundTo .rne (decide (v < 0)) v.natAbs (-(fxBits : Int)) true false).1

/-- A result within a tolerance of the exact value: what the opaque function gives when it is one, else the nearest value
(16 R293) (DESIGN CHOICE, log 15). -/
def fxWithin (fn : Nat) (x : W32) (v tol : Int) : W32 :=
  match fF32.unpack (Config.sfu fn x).toNat with
  | .fin n m e =>
    if (fxOf n m e - v).natAbs ≤ (tol + fxSlack).toNat then Config.sfu fn x else fxNearest v
  | _ => fxNearest v

end Sys2Proof.Machine
end

