-- ==== Sys2Proof/Machine/Convert.lean ====
section
/-! DEFINITION. Class 5: special functions, packed half and conversions (16 R293-R298, 12 R218-R224). -/

namespace Sys2Proof.Machine

/-! ### Special functions (16 R293) -/

/-- Flags of an SFU result that the table does not list as exact: inexact, and underflow when it is subnormal or zero;
a result that is not finite has overflowed (DEDUCED, log 16). -/
def sfuFlags (y : W32) : BitVec 6 :=
  match fF32.unpack y.toNat with
  | .fin _ m e => if m < 2 ^ 23 ∧ e = -149 then flInexact ||| flUnderflow else flInexact
  | _ => flInexact ||| flOverflow

/-- a * 2^x <= b * 2^y. -/
def leScaled (a : Nat) (x : Int) (b : Nat) (y : Int) : Bool :=
  let e := min x y
  decide (a * 2 ^ (x - e).toNat ≤ b * 2 ^ (y - e).toNat)

/-- Whether my * 2^ey lies within one ulp of 1 / (m * 2^e), for m not a power of two: an ulp is 2^u. -/
def rcpNear (m : Nat) (e : Int) (my : Nat) (ey : Int) : Bool :=
  let u := max (-(Nat.log2 m : Int) - 1 - e) (-126) - 23
  let lo := min ey u
  let v := my * 2 ^ (ey - lo).toNat
  let w := 2 ^ (u - lo).toNat
  leScaled 1 0 ((v + w) * m) (lo + e) && leScaled ((v - w) * m) (lo + e) 1 0

/-- Whether my * 2^ey lies within one ulp of 1 / sqrt(m * 2^e), for m * 2^e not a power of four. -/
def rsqNear (m : Nat) (e : Int) (my : Nat) (ey : Int) : Bool :=
  let t := (Nat.log2 m : Int) + e
  let u := max (-(t / 2) - 1) (-126) - 23
  let lo := min ey u
  let v := my * 2 ^ (ey - lo).toNat
  let w := 2 ^ (u - lo).toNat
  leScaled 1 0 ((v + w) * (v + w) * m) (2 * lo + e) && leScaled ((v - w) * (v - w) * m) (2 * lo + e) 1 0

/-- A result of the opaque function, kept when it is the finite value of the right sign that a test accepts; otherwise
the fallback. The manual bounds the error of FRCP and FRSQ by one ulp (DESIGN CHOICE, log 15). -/
def bounded (fn : Nat) (x : W32) (neg : Bool) (near : Nat → Int → Bool) (fallback : Nat) : W32 :=
  match fF32.unpack (Config.sfu fn x).toNat with
  | .fin n m e => if n = neg ∧ near m e then Config.sfu fn x else BitVec.ofNat 32 fallback
  | _ => BitVec.ofNat 32 fallback

/-- Whether a magnitude is a power of two. -/
def isPow2 (m : Nat) : Bool := decide (m ≠ 0 ∧ m = 2 ^ Nat.log2 m)

/-- An exact F32 result without flags. -/
def exact32 (neg : Bool) (m : Nat) (e : Int) : W32 × BitVec 6 := (BitVec.ofNat 32 (fF32.roundTo .rne neg m e false false).1, 0)

/-- The NaN result of a NaN input. -/
def sfuNan (sg : Bool) : W32 × BitVec 6 := (0x7FC00000#32, flIf sg flInvalid)

/-- FRCP of an F32. At ±2^-128 the exact value is 2^128, and the finite values within its ulp of 2^105 are the two largest; below,
no value lies within an ulp, and the result is the infinity or the largest finite value (DESIGN CHOICE, log 15; DEDUCED, log 16). -/
def rcp32 (x : W32) : W32 × BitVec 6 :=
  match fF32.unpack x.toNat with
  | .nan sg => sfuNan sg
  | .inf n => exact32 n 0 0
  | .fin n m e =>
    if m = 0 then (BitVec.ofNat 32 (fF32.infBits n), flDivide)
    else
      let q := fF32.div .rne (.fin false 1 0) (.fin n m e)
      if isPow2 m ∧ -(e + Nat.log2 m) ≤ 127 then exact32 n 1 (-(e + Nat.log2 m))
      else if isPow2 m ∧ e + Nat.log2 m = -128 then
        let y := bounded 0 x n (leScaled (2 ^ 23 - 1) 105) (fF32.infBits n - 1)
        (y, sfuFlags y)
      else if fF32.maxE < -(e + Nat.log2 m) - 1 then
        let y := if Config.sfu 0 x = BitVec.ofNat 32 (fF32.infBits n - 1) then Config.sfu 0 x else BitVec.ofNat 32 (fF32.infBits n)
        (y, sfuFlags y)
      else
        let y := bounded 0 x n (rcpNear m e) q.1
        (y, sfuFlags y)

/-- FRSQ of an F32 (DESIGN CHOICE, log 15). -/
def rsq32 (x : W32) : W32 × BitVec 6 :=
  match fF32.unpack x.toNat with
  | .nan sg => sfuNan sg
  | .inf true => (0x7FC00000#32, flInvalid)
  | .inf false => exact32 false 0 0
  | .fin n m e =>
    if m = 0 then (BitVec.ofNat 32 (fF32.infBits n), flDivide)
    else if n then (0x7FC00000#32, flInvalid)
    else
      let t := (Nat.log2 m : Int) + e
      if isPow2 m ∧ t % 2 = 0 then exact32 false 1 (-(t / 2))
      else
        let m1 := if e % 2 = 0 then m else 2 * m
        let e1 := if e % 2 = 0 then e else e - 1
        let q := fF32.roundTo .rne false (isqrt (2 ^ 120 / m1)) (-(e1 / 2) - 60) true false
        let y := bounded 1 x false (rsqNear m e) q.1
        (y, sfuFlags y)

/-- The integer that a finite value is, if it is one. -/
def intOf (n : Bool) (m : Nat) (e : Int) : Option Int :=
  let r := roundAt .rtz n m e 0 false
  if r.2 then none else some (signed n r.1)

/-- An SFU result that the manual only bounds: within a tolerance of the exact value (DESIGN CHOICE, log 15;
DEDUCED, log 16). -/
def sfuOther (fn : Nat) (x : W32) (v tol : Int) : W32 × BitVec 6 :=
  let y := fxWithin fn x v tol
  (y, sfuFlags y)

/-- A result within two ulps of the exact value. -/
def sfuTwoUlp (fn : Nat) (x : W32) (v : Int) : W32 × BitVec 6 := sfuOther fn x v (2 * fxUlp v)

/-- FEXP2 of an F32. -/
def exp232 (x : W32) : W32 × BitVec 6 :=
  match fF32.unpack x.toNat with
  | .nan sg => sfuNan sg
  | .inf true => exact32 false 0 0
  | .inf false => (BitVec.ofNat 32 (fF32.infBits false), 0)
  | .fin n m e =>
    if (Num.fin false 128 0).le (.fin n m e) then (BitVec.ofNat 32 (fF32.infBits false), flOverflow ||| flInexact)
    else if (Num.fin n m e).lt (.fin true 150 0) then (0, flUnderflow ||| flInexact)
    else
      match intOf n m e with
      | some k => if -149 ≤ k then exact32 false 1 k else sfuTwoUlp 2 x (fxExp2 (fxOf n m e))
      | none => sfuTwoUlp 2 x (fxExp2 (fxOf n m e))

/-- FLOG2 of an F32: within 2^-22 from 0.5 to 2, within two ulps elsewhere. -/
def log232 (x : W32) : W32 × BitVec 6 :=
  match fF32.unpack x.toNat with
  | .nan sg => sfuNan sg
  | .inf true => (0x7FC00000#32, flInvalid)
  | .inf false => (BitVec.ofNat 32 (fF32.infBits false), 0)
  | .fin n m e =>
    if m = 0 then (BitVec.ofNat 32 (fF32.infBits true), flDivide)
    else if n then (0x7FC00000#32, flInvalid)
    else if isPow2 m then
      let k : Int := e + Nat.log2 m
      exact32 (decide (k < 0)) k.natAbs 0
    else
      let v := fxLog2 m e
      let near := (Num.fin false 1 (-1)).le (.fin false m e) && (Num.fin false m e).le (.fin false 2 0)
      if near then sfuOther 3 x v (2 ^ (fxBits - 22)) else sfuTwoUlp 3 x v

/-- FSIN and FCOS of an F32: function 4 or 5, within 2 ulps or 2^-22, whichever is more. -/
def trig32 (fn : Nat) (x : W32) : W32 × BitVec 6 :=
  match fF32.unpack x.toNat with
  | .nan sg => sfuNan sg
  | .inf _ => (0x7FC00000#32, flInvalid)
  | .fin n m e =>
    if m = 0 then (if fn = 4 then exact32 n 0 0 else exact32 false 1 0)
    else
      let v := if fn = 4 then fxSin (fxOf n m e) else fxCos (fxOf n m e)
      sfuOther fn x v (max (2 * fxUlp v) (2 ^ (fxBits - 22)))

/-- FTANH of an F32. -/
def tanh32 (x : W32) : W32 × BitVec 6 :=
  match fF32.unpack x.toNat with
  | .nan sg => sfuNan sg
  | .inf n => exact32 n 1 0
  | .fin n m e =>
    if m = 0 then exact32 n 0 0
    else if (Num.fin false 10 0).le (.fin false m e) then ((exact32 n 1 0).1, flInexact)
    else sfuTwoUlp 6 x (fxTanh (fxOf n m e))

/-- An SFU form: the result and its flags are pending (DESIGN CHOICE, log 15). -/
def State.sfu (s : State) (y : Bool) (d a : Fld) (f : W32 → W32 × BitVec 6) : Res :=
  s.pendLanes y (fun g => g.inWindow d.toNat && g.inWindow a.toNat) fun g sl =>
    (g.laneWrites sl d.toNat fun l => (f (g.rv a.toNat l)).1, g.laneFlags sl fun l => (f (g.rv a.toNat l)).2)

/-- FRCP (R293). -/
def execFrcp (y : Bool) (d a : Fld) (s : State) : Res :=
  s.sfu y d a rcp32

/-- FRSQ (R293). -/
def execFrsq (y : Bool) (d a : Fld) (s : State) : Res :=
  s.sfu y d a rsq32

/-- FEXP2 (R293). -/
def execFexp2 (y : Bool) (d a : Fld) (s : State) : Res :=
  s.sfu y d a exp232

/-- FLOG2 (R293). -/
def execFlog2 (y : Bool) (d a : Fld) (s : State) : Res :=
  s.sfu y d a log232

/-- FSIN (R293). -/
def execFsin (y : Bool) (d a : Fld) (s : State) : Res :=
  s.sfu y d a (trig32 4)

/-- FCOS (R293). -/
def execFcos (y : Bool) (d a : Fld) (s : State) : Res :=
  s.sfu y d a (trig32 5)

/-- FTANH (R293). -/
def execFtanh (y : Bool) (d a : Fld) (s : State) : Res :=
  s.sfu y d a tanh32

/-! ### Packed half (16 R294) -/

/-- A packed half form: both 16-bit elements of d, a and b. -/
def State.half (s : State) (y : Bool) (t : Fmt) (d a b : Fld) (f : RMode → Num → Num → Num → Nat × BitVec 6) : Res :=
  s.vecFlags y d (fun g => g.inWindow a.toNat && g.inWindow b.toNat) fun g l =>
    let e (r k : Nat) : Num := t.unpack ((g.rv r l).extractLsb' (16 * k) 16).toNat
    let x := f g.rm (e a.toNat 0) (e b.toNat 0) (e d.toNat 0)
    let z := f g.rm (e a.toNat 1) (e b.toNat 1) (e d.toNat 1)
    (BitVec.ofNat 32 (x.1 + 65536 * z.1), x.2 ||| z.2)

/-- HADD2.F16 (R294). -/
def execHadd2F16 (y : Bool) (d a b : Fld) (s : State) : Res :=
  s.half y fF16 d a b fun r x z _ => fF16.add r x z

/-- HMUL2.F16 (R294). -/
def execHmul2F16 (y : Bool) (d a b : Fld) (s : State) : Res :=
  s.half y fF16 d a b fun r x z _ => fF16.mul r x z

/-- HFMA2.F16 (R294). -/
def execHfma2F16 (y : Bool) (d a b : Fld) (s : State) : Res :=
  s.half y fF16 d a b fun r x z w => fF16.fma r x z w

/-- HADD2.BF16 (R294). -/
def execHadd2Bf16 (y : Bool) (d a b : Fld) (s : State) : Res :=
  s.half y fBF16 d a b fun r x z _ => fBF16.add r x z

/-- HMUL2.BF16 (R294). -/
def execHmul2Bf16 (y : Bool) (d a b : Fld) (s : State) : Res :=
  s.half y fBF16 d a b fun r x z _ => fBF16.mul r x z

/-- HFMA2.BF16 (R294). -/
def execHfma2Bf16 (y : Bool) (d a b : Fld) (s : State) : Res :=
  s.half y fBF16 d a b fun r x z w => fBF16.fma r x z w

/-! ### Conversions (12 R218-R224, 16 R295-R298) -/

/-- Bits of a type code (12 R209). -/
def typeBits (c : Nat) : Nat :=
  match c with
  | 0x01 | 0x13 | 0x17 => 64
  | 0x02 | 0x12 | 0x16 => 32
  | 0x03 | 0x04 | 0x11 | 0x15 => 16
  | 0x0D => 4
  | _ => 8

/-- Whether a type code is an integer type. -/
def isInt (c : Nat) : Bool := decide (16 ≤ c)
/-- Whether an integer type code is signed. -/
def isSignedInt (c : Nat) : Bool := decide (c < 20)

/-- Read a value of a type from its low bits: a floating-point datum, or an integer as an exact datum. -/
def readType (c : Nat) (v : Nat) : Num :=
  let w := v % 2 ^ typeBits c
  if isInt c then
    if isSignedInt c ∧ 2 ^ (typeBits c - 1) ≤ w then .fin true (2 ^ typeBits c - w) 0 else .fin false w 0
  else (fmtOf c).unpack w

/-- Convert a datum to a type: the register value (32 or 64 bits) and flags. -/
def convertTo (c : Nat) (rm : RMode) (saturate : Bool) (x : Num) : Nat × BitVec 6 :=
  if isInt c then
    let r := toIntType rm (isSignedInt c) (typeBits c) x
    ((BitVec.ofInt (if typeBits c = 64 then 64 else 32) r.1).toNat, r.2)
  else (fmtOf c).convert rm saturate x

/-- m of a block format: 2, 4 or 7. -/
def blockM (c : Nat) : Nat := if c = 8 then 2 else if c = 9 then 4 else 7
/-- Bytes of a block: 8, 12 or 18. -/
def blockBytes (c : Nat) : Nat := if c = 8 then 8 else if c = 9 then 12 else 18

/-- Magnitude of a finite datum as mantissa and power of two. -/
def Num.mag : Num → Nat × Int
  | .fin _ m e => (m, e)
  | _ => (0, 0)

/-- Q(y, e, m): |y| * 2^(m - 1 - e) rounded to an integer, RNE; and whether it was inexact. -/
def blockQ (x : Num) (e : Int) (m : Nat) : Nat × Bool := roundAt .rne false x.mag.1 (x.mag.2 + m - 1 - e) 0 false

/-- ToBlock (12 R221): the block as a little-endian number, and flags. -/
def toBlock (x : List Num) (m : Nat) : Nat × BitVec 6 :=
  if x.any fun v => match v with
    | .fin _ _ _ => false
    | _ => true
  then (255, flInvalid)
  else
    let logs := x.filterMap fun v => if v.mag.1 = 0 then none else some (v.mag.2 + (Nat.log2 v.mag.1 : Int))
    match logs with
    | [] => (0, 0)
    | l0 :: rest =>
      let big : Int := rest.foldl max l0
      let ex : Int := max (big + 127) 0
      let fits (g t : Nat) : Bool :=
        ((x.drop (4 * g)).take 4).all fun v => decide ((blockQ v (ex - 127 - t) m).1 ≤ 2 ^ m - 1)
      let sub (g : Nat) : Nat := if fits g 3 then 3 else if fits g 2 then 2 else if fits g 1 then 1 else 0
      let elt (i : Nat) : Nat × Bool :=
        let v := (x[i]?).getD (.fin false 0 0)
        let q := blockQ v (ex - 127 - sub (i / 4)) m
        let k := min q.1 (2 ^ m - 1)
        (k + (if k ≠ 0 ∧ v.neg then 2 ^ m else 0), q.2 || decide (k ≠ q.1))
      let is := List.range 16
      let sig := sub 0 + 4 * sub 1 + 16 * sub 2 + 64 * sub 3
      let body := is.foldl (fun a i => a + (elt i).1 * 2 ^ ((m + 1) * i)) 0
      (ex.toNat + 256 * sig + 65536 * body, flIf (is.any fun i => (elt i).2) flInexact)

/-- Element i of a block as F32 (12 R220). -/
def fromBlock (blk : Nat) (m i : Nat) : Nat :=
  let ex := blk % 256
  if ex = 255 then fF32.nan
  else
    let sg := blk / 256 / 4 ^ (i / 4) % 4
    let code := blk / 65536 / 2 ^ ((m + 1) * i) % 2 ^ (m + 1)
    let k := code % 2 ^ m
    if k = 0 then 0
    else (fF32.roundTo .rne (decide (2 ^ m ≤ code)) k ((ex : Int) - 127 - sg - (m - 1)) false false).1

/-- The scale of an affine group (12 R223): mantissa and power of two. -/
def affineScale (b : Nat) : Nat × Int :=
  if b / 8 % 32 = 0 then (b % 8, -17) else (8 + b % 8, ((b / 8 % 32 : Nat) : Int) - 18)

/-- A two's complement value of the low n bits. -/
def twos (n v : Nat) : Int := if 2 ^ (n - 1) ≤ v % 2 ^ n then ((v % 2 ^ n : Nat) : Int) - 2 ^ n else ((v % 2 ^ n : Nat) : Int)

/-- Quantize (12 R224). -/
def quantize (x : Num) (scale : Nat × Int) (z qmin qmax : Int) : Int × BitVec 6 :=
  if x.isNan || scale.1 == 0 then (sat z qmin qmax, flInvalid)
  else
    match x with
    | .inf n => (if n then qmin else qmax, flInvalid)
    | .nan _ => (sat z qmin qmax, flInvalid)
    | .fin n m e =>
      let k := e - scale.2
      let num := m * 2 ^ k.toNat
      let den := scale.1 * 2 ^ (-k).toNat
      let q := num / den
      let r := num % den
      let q := if den < 2 * r ∨ (2 * r = den ∧ q % 2 = 1) then q + 1 else q
      let t := signed n q + z
      (sat t qmin qmax, flIf (decide (r ≠ 0)) flInexact ||| flIf (decide (sat t qmin qmax ≠ t)) flSat)

/-- The copies of a visible lane: its physical lanes' parities under protected launch, else one. -/
def Group.copies (g : Group) : List Nat := if g.prot then [0, 1] else [0]

/-- Whether a visible lane is in Active(). -/
def Group.isActive (g : Group) (slices : List Nat) (l : Nat) : Bool :=
  decide (l < g.visible) && (g.activeBits slices).getLsbD l

/-- The sets of sixteen visible lanes that hold a lane of Active() (12 R222). -/
def Group.blockSets (g : Group) (slices : List Nat) : List Nat :=
  (List.range ((g.visible + 15) / 16)).filter fun k => (List.range 16).any fun i => g.isActive slices (16 * k + i)

/-- FCVT into a block format (16 R296). -/
def Group.packBlocks (g : Group) (sl : List Nat) (t c d a : Nat) : List (Nat × W32) × BitVec 6 :=
  let n := (blockBytes t + 3) / 4
  let parts := (g.blockSets sl).flatMap fun k => g.copies.map fun p =>
    let elt (i : Nat) : Num :=
      if g.isActive sl (16 * k + i) then readType c (g.rv a (g.physLane (16 * k + i) + p)).toNat else .fin false 0 0
    let b := toBlock ((List.range 16).map elt) (blockM t)
    ((List.range n).filterMap fun j =>
      if g.isActive sl (16 * k + j) then
        some (g.vkey d (g.physLane (16 * k + j) + p), BitVec.ofNat 32 (b.1 / 2 ^ (32 * j)))
      else none, b.2)
  (parts.flatMap Prod.fst, flAll (parts.map Prod.snd))

/-- FCVT from a block format to F32 (16 R297). -/
def Group.unpackBlocks (g : Group) (sl : List Nat) (c d a : Nat) : List (Nat × W32) :=
  let n := (blockBytes c + 3) / 4
  (g.blockSets sl).flatMap fun k => g.copies.flatMap fun p =>
    let word (j : Nat) : Nat :=
      if g.isActive sl (16 * k + j) then (g.rv a (g.physLane (16 * k + j) + p)).toNat else 0
    let blk := (List.range n).foldl (fun x j => x + word j * 2 ^ (32 * j)) 0 % 2 ^ (8 * blockBytes c)
    (List.range 16).filterMap fun i =>
      if g.isActive sl (16 * k + i) then
        some (g.vkey d (g.physLane (16 * k + i) + p), BitVec.ofNat 32 (fromBlock blk (blockM c) i))
      else none

/-- A lane-wise FCVT: its writes and flags. -/
def Group.convertLanes (g : Group) (sl : List Nat) (t c d a : Nat) (rm : RMode) (saturate : Bool) :
    List (Nat × W32) × BitVec 6 :=
  let one (l : Nat) : Nat × BitVec 6 := convertTo t rm saturate (readType c (g.val (typeBits c == 64) a l))
  ((g.active sl).flatMap fun l => g.valWrites (typeBits t == 64) d l (one l).1, g.laneFlags sl fun l => (one l).2)

/-- FCVT to A8 or A4 (16 R298). -/
def Group.quantizeLanes (g : Group) (sl : List Nat) (t d a : Nat) : List (Nat × W32) × BitVec 6 :=
  let one (l : Nat) : Int × BitVec 6 :=
    let w := (g.rv (a + 1) l).toNat
    quantize (fF32.unpack (g.rv a l).toNat) (affineScale w) (twos 8 (w / 256))
      (if t = 12 then -128 else -8) (if t = 12 then 127 else 7)
  (g.laneWrites sl d fun l => BitVec.ofInt 32 (one l).1, g.laneFlags sl fun l => (one l).2)

/-- FCVT.F32 from A8 or A4 (16 R298): s * (q - z), exactly. -/
def Group.dequantizeLanes (g : Group) (sl : List Nat) (c d a : Nat) : List (Nat × W32) :=
  g.laneWrites sl d fun l =>
    let w := (g.rv (a + 1) l).toNat
    let q := twos (typeBits c) (g.rv a l).toNat - twos 8 (w / 256)
    let sc := affineScale w
    BitVec.ofNat 32 (fF32.roundTo .rne (decide (q < 0)) (sc.1 * q.natAbs) sc.2 false false).1

/-- FCVT (R295-R298), by destination code t and source code c; n is .RN and q is .SAT. -/
def execFcvt (y : Bool) (t : BitVec 5) (d a : Fld) (n q : Bool) (c : BitVec 5) (s : State) : Res :=
  let tt := t.toNat
  let cc := c.toNat
  let block (k : Nat) : Bool := k == 8 || k == 9 || k == 10
  let affine (k : Nat) : Bool := k == 12 || k == 13
  s.pendLanes y
    (fun g => g.valIn (typeBits tt == 64 && !block tt && !affine tt) d.toNat
      && g.valIn ((typeBits cc == 64 && !block cc) || affine tt || affine cc) a.toNat)
    fun g sl =>
      if block tt then g.packBlocks sl tt cc d.toNat a.toNat
      else if block cc then (g.unpackBlocks sl cc d.toNat a.toNat, 0)
      else if affine tt then g.quantizeLanes sl tt d.toNat a.toNat
      else if affine cc then (g.dequantizeLanes sl cc d.toNat a.toNat, 0)
      else g.convertLanes sl tt cc d.toNat a.toNat (if n then .rne else g.rm) q

end Sys2Proof.Machine
end

