-- ==== Sys2Proof/Machine/SmallMatrix.lean ====
section
/-! DEFINITION. Small-matrix registers and their unit (18 R321-R330; 12 R229). -/

namespace Sys2Proof.Machine

/-! ### Registers (18 R321, R323) -/

/-- Whether x_k is a register of the group; a 64-bit form needs k + 1 too. -/
def Group.xIn (g : Group) (wide : Bool) (k : Nat) : Bool := decide ((if wide then k + 1 else k) < g.xCount)

/-- The key of element (i, j) of x_k in a physical lane. -/
def xKey (k l i j : Nat) : Nat := (k * 96 + l) * 36 + 6 * i + j

/-- The shape of x_k in a lane. -/
def Group.shapeOf (g : Group) (k l : Nat) : Nat × Nat := Sparse.get (1, 1) g.shape (k * 96 + l)

/-- An element, 32 bits or the pair, as bits. -/
def Group.xe (g : Group) (wide : Bool) (k l i j : Nat) : Nat :=
  let lo := (Sparse.get (0 : W32) g.x (xKey k l i j)).toNat
  if wide then lo + 2 ^ 32 * (Sparse.get (0 : W32) g.x (xKey (k + 1) l i j)).toNat else lo

/-- All 36 elements of a register, row-major with 6 to a row. -/
def Group.mat (g : Group) (wide : Bool) (k l : Nat) : List Nat :=
  (List.range 36).map fun e => g.xe wide k l (e / 6) (e % 6)

/-- Element (i, j) of a matrix. -/
def at6 (m : List Nat) (i j : Nat) : Nat := m.getD (6 * i + j) 0

/-- The writes of one element. -/
def xElem (wide : Bool) (k l i j v : Nat) : List (Nat × W32) :=
  (xKey k l i j, BitVec.ofNat 32 v) :: (if wide then [(xKey (k + 1) l i j, BitVec.ofNat 32 (v / 2 ^ 32))] else [])

/-- The writes of a whole register: +0 outside the shape (R321 item 6). -/
def xMatrix (wide : Bool) (k l r c : Nat) (m : List Nat) : List (Nat × W32) :=
  (List.range 36).flatMap fun e =>
    xElem wide k l (e / 6) (e % 6) (if e / 6 < r ∧ e % 6 < c then at6 m (e / 6) (e % 6) else 0)

/-- The shape writes of a register, or of both registers of a pair. -/
def xShape (wide : Bool) (k l r c : Nat) : List (Nat × (Nat × Nat)) :=
  (k * 96 + l, (r, c)) :: (if wide then [((k + 1) * 96 + l, (r, c))] else [])

/-- What a class 6 instruction does in one lane: shapes, elements and vector registers written, FPSR flags, and XFLAGS
bits set. -/
structure SmuOut where
  shapes : List (Nat × (Nat × Nat)) := []
  xs : List (Nat × W32) := []
  vs : List (Nat × W32) := []
  fl : BitVec 6 := 0
  ev : BitVec 8 := 0
  deriving DecidableEq, Repr

/-- The lane's operand shapes do not conform: only the flag is set. -/
def smuShape : SmuOut := { ev := 1 }

/-- A register result. -/
def smuMat (wide : Bool) (k l r c : Nat) (m : List Nat) (fl : BitVec 6) (ev : BitVec 8) : SmuOut :=
  { shapes := xShape wide k l r c, xs := xMatrix wide k l r c m, fl := fl, ev := ev }

/-- The XFLAGS bits that record SMX: those set whose trap bit is 1. The trap bit of NOTPD 2 is bit 7, of SINGULAR 1
bit 6, of SHAPE 0 bit 5. -/
def smxBits (before ev : BitVec 8) : List Nat :=
  (List.range 3).filter fun b => ev.getLsbD b && before.getLsbD (b + 5)

/-- The results of a class 6 instruction, by lane. -/
def Group.smuApply (g : Group) (slices : List Nat) (outs : List (Nat × SmuOut)) : Group :=
  let ev (e : Nat × SmuOut) : BitVec 8 := if e.2.fl &&& flInexact != 0 then e.2.ev ||| 16 else e.2.ev
  let flagged := outs.filter fun e => ev e != 0
  let xfl := flagged.map fun e => (e.1, Sparse.get (0 : Byte) g.smuFlags e.1 ||| ev e)
  let smx := flagged.flatMap fun e => (smxBits (Sparse.get (0 : Byte) g.smuFlags e.1) (ev e)).map fun b => (e.1, b)
  let g := { g with x := Sparse.setAll 0 g.x (outs.flatMap fun (e : Nat × SmuOut) => e.2.xs),
                    shape := Sparse.setAll (1, 1) g.shape (outs.flatMap fun (e : Nat × SmuOut) => e.2.shapes),
                    smuFlags := Sparse.setAll 0 g.smuFlags xfl }
  g.addPending { slices := slices, vecs := outs.flatMap fun (e : Nat × SmuOut) => e.2.vs, xfl := xfl,
                 flags := flAll (outs.map fun (e : Nat × SmuOut) => e.2.fl), smx := smx }

/-- A class 6 instruction: performed at issue in its slice's order; its vector results, XFLAGS and FPSR flags are
pending (R321 items 3 and 4). -/
def State.smu (s : State) (y : Bool) (ok : Group → Bool) (f : Group → Nat → SmuOut) : Res :=
  s.plain y ok fun g sl => g.smuApply sl ((g.active sl).map fun l => (l, f g l))

/-! ### Chains of steps -/

/-- Working storage of a factorisation: elements, permutation, its parity, flags, and XFLAGS bits. -/
structure Work where
  m : List Nat
  p : List Nat := []
  odd : Bool := false
  fl : BitVec 6 := 0
  ev : BitVec 8 := 0
  deriving DecidableEq, Repr

/-- Write an element with the flags of its step. -/
def Work.put (t : Work) (i j : Nat) (r : Nat × BitVec 6) : Work :=
  { t with m := t.m.set (6 * i + j) r.1, fl := t.fl ||| r.2 }

/-- Set an XFLAGS bit. -/
def Work.event (t : Work) (cond : Bool) (bit : BitVec 8) : Work := if cond then { t with ev := t.ev ||| bit } else t

/-- A chain of fused steps: a value and flags. -/
def chain (step : Nat → Nat → Nat × BitVec 6) (start : Nat × BitVec 6) (ks : List Nat) : Nat × BitVec 6 :=
  ks.foldl (fun p k => let r := step k p.1; (r.1, p.2 ||| r.2)) start

/-- Indexes lo to hi - 1. -/
def span (lo hi : Nat) : List Nat := (List.range (hi - lo)).map fun k => lo + k

/-- Whether a value's magnitude is nonzero and below the pivot threshold. -/
def tiny (f : Fmt) (xpiv : W32) (v : Nat) : Bool :=
  let mag (n : Num) : Num := match n with
    | .fin _ m e => .fin false m e
    | .inf _ => .inf false
    | x => x
  let a := mag (f.unpack v)
  (Num.fin false 0 0).lt a && a.lt (mag (fF32.unpack xpiv.toNat))

/-- Whether a value is a zero. -/
def isZeroOf (f : Fmt) (v : Nat) : Bool := (f.unpack v).eqv (.fin false 0 0)

/-- Column j of the Cholesky factorisation (R326); nothing once NOTPD is set. -/
def cholCol (f : Fmt) (rm : RMode) (xpiv : W32) (a : List Nat) (n : Nat) (t : Work) (j : Nat) : Work :=
  if t.ev.getLsbD 2 then t
  else
    let q := chain (fun k p => f.fmsBits rm (at6 t.m j k) (at6 t.m j k) p) (at6 a j j, t.fl) (List.range j)
    let t := { t with fl := q.2 ||| flIf (f.unpack (at6 a j j)).isSnan flInvalid }
    if !(Num.fin false 0 0).lt (f.unpack q.1) then
      let t := t.event true 4
      (span j n).foldl (fun t i => (span j (i + 1)).foldl (fun t m => t.put i m (f.nan, 0)) t) t
    else
      let t := t.put j j (f.sqrt rm (f.unpack q.1))
      let t := t.event (tiny f xpiv (at6 t.m j j)) 8
      (span (j + 1) n).foldl (fun t i =>
        let q := chain (fun k p => f.fmsBits rm (at6 t.m i k) (at6 t.m j k) p) (at6 a i j, t.fl) (List.range j)
        ({ t with fl := q.2 } : Work).put i j (f.divBits rm q.1 (at6 t.m j j))) t

/-- The Cholesky factor of an n x n matrix. -/
def cholesky (f : Fmt) (rm : RMode) (xpiv : W32) (a : List Nat) (n : Nat) : Work :=
  (List.range n).foldl (cholCol f rm xpiv a n) { m := List.replicate 36 0 }

/-- Whether |x| is larger than |z|, a NaN counting as largest. -/
def magAbove (f : Fmt) (x z : Nat) : Bool :=
  let mag (n : Num) : Num := match n with
    | .fin _ m e => .fin false m e
    | .inf _ => .inf false
    | x => x
  if (f.unpack z).isNan then false
  else if (f.unpack x).isNan then true
  else (mag (f.unpack z)).lt (mag (f.unpack x))

/-- Exchange two rows of a matrix. -/
def swapRows (m : List Nat) (q j : Nat) : List Nat :=
  (List.range 36).map fun e =>
    let i := e / 6
    at6 m (if i = q then j else if i = j then q else i) (e % 6)

/-- Column j of the LU factorisation (R327). -/
def lupCol (f : Fmt) (rm : RMode) (xpiv : W32) (n : Nat) (t : Work) (j : Nat) : Work :=
  let t := (List.range n).foldl (fun t i =>
    let q := chain (fun k p => f.fmsBits rm (at6 t.m i k) (at6 t.m k j) p) (at6 t.m i j, 0) (List.range (min i j))
    t.put i j q) t
  let q := (span (j + 1) n).foldl (fun q i => if magAbove f (at6 t.m i j) (at6 t.m q j) then i else q) j
  let pq := t.p.getD q 0
  let pj := t.p.getD j 0
  let t := { t with m := swapRows t.m q j, p := (t.p.set q pj).set j pq, odd := (if q = j then t.odd else !t.odd) }
  if isZeroOf f (at6 t.m j j) then t.event true 2
  else
    let t := t.event (tiny f xpiv (at6 t.m j j)) 8
    (span (j + 1) n).foldl (fun t i => t.put i j (f.divBits rm (at6 t.m i j) (at6 t.m j j))) t

/-- An n x n matrix as an operation takes it in: each NaN is the default one, and a signalling NaN raises invalid, though no step
may change its element (12 R211). -/
def takeNans (f : Fmt) (a : List Nat) (n : Nat) : Work :=
  let inside (e : Nat) : Bool := decide (e / 6 < n) && decide (e % 6 < n)
  { m := (List.range 36).map fun e => if inside e && (f.unpack (a.getD e 0)).isNan then f.nan else a.getD e 0
    p := List.range 6
    fl := flIf ((List.range 36).any fun e => inside e && (f.unpack (a.getD e 0)).isSnan) flInvalid }

/-- The LU factorisation with partial pivoting of an n x n matrix. -/
def lup (f : Fmt) (rm : RMode) (xpiv : W32) (a : List Nat) (n : Nat) : Work :=
  (List.range n).foldl (lupCol f rm xpiv n) (takeNans f a n)

/-- A division of a solve: a zero divisor sets SINGULAR. -/
def Work.divide (t : Work) (f : Fmt) (rm : RMode) (i j v d : Nat) : Work :=
  (t.event (isZeroOf f d) 2).put i j (f.divBits rm v d)

/-- One column of a Cholesky solve (R328). -/
def cholSolve (f : Fmt) (rm : RMode) (l : List Nat) (n c : Nat) (t : Work) : Work :=
  let t := (List.range n).foldl (fun t i =>
    let q := chain (fun k p => f.fmsBits rm (at6 l i k) (at6 t.m k c) p) (at6 t.m i c, t.fl) (List.range i)
    ({ t with fl := q.2 } : Work).divide f rm i c q.1 (at6 l i i)) t
  (List.range n).reverse.foldl (fun t i =>
    let q := chain (fun k p => f.fmsBits rm (at6 l k i) (at6 t.m k c) p) (at6 t.m i c, t.fl) (span (i + 1) n)
    ({ t with fl := q.2 } : Work).divide f rm i c q.1 (at6 l i i)) t

/-- One column of an LU solve (R328). -/
def lupSolve (f : Fmt) (rm : RMode) (m : List Nat) (p : List Nat) (n c : Nat) (t : Work) : Work :=
  let col := (List.range n).map fun i => at6 t.m (p.getD i 0) c
  let t := (List.range n).foldl (fun t i => t.put i c (col.getD i 0, 0)) t
  let t := (List.range n).foldl (fun t i =>
    t.put i c (chain (fun k q => f.fmsBits rm (at6 m i k) (at6 t.m k c) q) (at6 t.m i c, 0) (List.range i))) t
  (List.range n).reverse.foldl (fun t i =>
    let q := chain (fun k q => f.fmsBits rm (at6 m i k) (at6 t.m k c) q) (at6 t.m i c, t.fl) (span (i + 1) n)
    ({ t with fl := q.2 } : Work).divide f rm i c q.1 (at6 m i i)) t

/-- 1.0 in a format. -/
def oneOf (f : Fmt) : Nat := f.bias * 2 ^ f.fbits

/-- The bits of a small integer in a format. -/
def intBits (f : Fmt) (n : Nat) : Nat := (f.roundTo .rne false n 0 false false).1

/-- The identity, in a shape. -/
def identity (f : Fmt) : List Nat := (List.range 36).map fun e => if e / 6 = e % 6 then oneOf f else 0

/-- Each element by a function of its place, with flags. -/
def buildMat (r c : Nat) (e : Nat → Nat → Nat × BitVec 6) : List Nat × BitVec 6 :=
  (List.range 36).foldl (fun a k =>
    let v := if k / 6 < r ∧ k % 6 < c then e (k / 6) (k % 6) else (0, 0)
    (a.1 ++ [v.1], a.2 ||| v.2)) ([], 0)

/-- The product chain of 12 R229 of n terms. -/
def dotChain (f : Fmt) (rm : RMode) (n : Nat) (x z : Nat → Nat) : Nat × BitVec 6 :=
  chain (fun k p => f.fmaBits rm (x k) (z k) p) (f.mulBits rm (x 0) (z 0)) (span 1 n)

/-! ### Moving and reshaping (R323) -/

/-- XSHP (R323): the shape becomes r x c; values stay, and nothing is pending. -/
def execXshp (y : Bool) (d r c : Fld) (s : State) : Res :=
  s.plain y (fun g => g.xIn false d.toNat) fun g sl =>
    { g with shape := Sparse.setAll (1, 1) g.shape ((g.active sl).flatMap fun l => xShape false d.toNat l r.toNat c.toNat) }

/-- XZERO (R323): all 36 words. -/
def execXzero (y : Bool) (d : Fld) (s : State) : Res :=
  s.smu y (fun g => g.xIn false d.toNat) fun _ l => { xs := xMatrix false d.toNat l 0 0 [] }

/-- XIDN (R323). -/
def execXidn (y : Bool) (d : Fld) (s : State) : Res :=
  s.smu y (fun g => g.xIn false d.toNat) fun g l =>
    let sh := g.shapeOf d.toNat l
    { xs := xMatrix false d.toNat l sh.1 sh.2 (identity fF32) }

/-- XLD (R324): a load of 4rc or 8rc bytes in each lane. -/
def execXld (y f : Bool) (d a b : Fld) (s : State) : Res :=
  s.issue fun g => s.need g (g.xIn f d.toNat && g.inWindow b.toNat) (
    let e := if f then 8 else 4
    let o := s.memOp y (.matrixLoad f) e d.toNat
    let as : List LaneReq := (g.memLanes o.slices o.pc).map fun l =>
      let sh := g.shapeOf d.toNat l
      { lane := l, cap := g.rc a.toNat, off := (g.rv b.toNat l).toNat, size := e * sh.1 * sh.2 }
    s.checkRun g o false e rR 0 0 false as (State.memDone s.cursor.group))

/-- XST (R324): a store of the elements inside the shape. -/
def execXst (y f : Bool) (d a b : Fld) (s : State) : Res :=
  s.issue fun g => s.need g (g.xIn f d.toNat && g.inWindow b.toNat) (
    let e := if f then 8 else 4
    let o := s.memOp y .store e 0
    let as : List LaneReq := (g.active o.slices).map fun l =>
      let sh := g.shapeOf d.toNat l
      let v := (List.range (sh.1 * sh.2)).foldl (fun v k =>
        v + g.xe f d.toNat l (k / sh.2) (k % sh.2) * 256 ^ (e * k)) 0
      { lane := l, cap := g.rc a.toNat, off := (g.rv b.toNat l).toNat, size := e * sh.1 * sh.2, value := v }
    s.checkRun g o false e rW 2 0 false as (State.memDone s.cursor.group))

/-- XGET (R323). -/
def execXget (y f : Bool) (d a : Fld) (i j : BitVec 3) (s : State) : Res :=
  s.smu y (fun g => g.valIn f d.toNat && g.xIn f a.toNat) fun g l =>
    let sh := g.shapeOf a.toNat l
    if i.toNat < sh.1 ∧ j.toNat < sh.2 then { vs := g.valWrites f d.toNat l (g.xe f a.toNat l i.toNat j.toNat) }
    else smuShape

/-- XPUT (R323): one element; no other changes. -/
def execXput (y f : Bool) (d a : Fld) (i j : BitVec 3) (s : State) : Res :=
  s.smu y (fun g => g.xIn f d.toNat && g.valIn f a.toNat) fun g l =>
    let sh := g.shapeOf d.toNat l
    if i.toNat < sh.1 ∧ j.toNat < sh.2 then { xs := xElem f d.toNat l i.toNat j.toNat (g.val f a.toNat l) }
    else smuShape

/-- XMOV (R323). -/
def execXmov (y f : Bool) (d a : Fld) (s : State) : Res :=
  s.smu y (fun g => g.xIn f d.toNat && g.xIn f a.toNat) fun g l =>
    let sh := g.shapeOf a.toNat l
    smuMat f d.toNat l sh.1 sh.2 (g.mat f a.toNat l) 0 0

/-- XTRN (R323). -/
def execXtrn (y f : Bool) (d a : Fld) (s : State) : Res :=
  s.smu y (fun g => g.xIn f d.toNat && g.xIn f a.toNat) fun g l =>
    let sh := g.shapeOf a.toNat l
    let m := g.mat f a.toNat l
    smuMat f d.toNat l sh.2 sh.1 ((List.range 36).map fun e => at6 m (e % 6) (e / 6)) 0 0

/-! ### Element-wise operations and products (R325) -/

/-- A class 6 form of two x operands: the result's shape and elements, or none when the shapes do not conform. -/
def State.smu3 (s : State) (y f : Bool) (d a b : Fld)
    (k : Group → Nat → Nat × Nat → Nat × Nat → Option (Nat × Nat × List Nat × BitVec 6)) : Res :=
  s.smu y (fun g => g.xIn f d.toNat && g.xIn f a.toNat && g.xIn f b.toNat) fun g l =>
    match k g l (g.shapeOf a.toNat l) (g.shapeOf b.toNat l) with
    | none => smuShape
    | some (r, c, m, fl) => smuMat f d.toNat l r c m fl 0

/-- XADD and XSUB. -/
def State.xElementwise (s : State) (y f : Bool) (d a b : Fld) (op : Fmt → RMode → Num → Num → Nat × BitVec 6) : Res :=
  s.smu3 y f d a b fun g l sa sb =>
    if sa ≠ sb then none
    else
      let m := buildMat sa.1 sa.2 fun i j => op (fmtW f) g.rm ((fmtW f).unpack (g.xe f a.toNat l i j))
        ((fmtW f).unpack (g.xe f b.toNat l i j))
      some (sa.1, sa.2, m.1, m.2)

/-- XADD (R325). -/
def execXadd (y f : Bool) (d a b : Fld) (s : State) : Res :=
  s.xElementwise y f d a b fun k rm p q => k.add rm p q

/-- XSUB (R325). -/
def execXsub (y f : Bool) (d a b : Fld) (s : State) : Res :=
  s.xElementwise y f d a b fun k rm p q => k.add rm p q.negate

/-- XSCL (R325): every element times v_b, or the pair. -/
def execXscl (y f : Bool) (d a b : Fld) (s : State) : Res :=
  s.smu y (fun g => g.xIn f d.toNat && g.xIn f a.toNat && g.valIn f b.toNat) fun g l =>
    let sh := g.shapeOf a.toNat l
    let m := buildMat sh.1 sh.2 fun i j => (fmtW f).mulBits g.rm (g.xe f a.toNat l i j) (g.val f b.toNat l)
    smuMat f d.toNat l sh.1 sh.2 m.1 m.2 0

/-- XMUL (R325). -/
def execXmul (y f : Bool) (d a b : Fld) (s : State) : Res :=
  s.smu3 y f d a b fun g l sa sb =>
    if sa.2 ≠ sb.1 then none
    else
      let m := buildMat sa.1 sb.2 fun i j => dotChain (fmtW f) g.rm sa.2 (fun k => g.xe f a.toNat l i k)
        (fun k => g.xe f b.toNat l k j)
      some (sa.1, sb.2, m.1, m.2)

/-- XMAD (R325): the chain starts from d's element. -/
def execXmad (y f : Bool) (d a b : Fld) (s : State) : Res :=
  s.smu3 y f d a b fun g l sa sb =>
    if sa.2 ≠ sb.1 ∨ g.shapeOf d.toNat l ≠ (sa.1, sb.2) then none
    else
      let m := buildMat sa.1 sb.2 fun i j =>
        chain (fun k p => (fmtW f).fmaBits g.rm (g.xe f a.toNat l i k) (g.xe f b.toNat l k j) p)
          (g.xe f d.toNat l i j, 0) (List.range sa.2)
      some (sa.1, sb.2, m.1, m.2)

/-- XMULT (R325): a times the transpose of b. -/
def execXmult (y f : Bool) (d a b : Fld) (s : State) : Res :=
  s.smu3 y f d a b fun g l sa sb =>
    if sa.2 ≠ sb.2 then none
    else
      let m := buildMat sa.1 sb.1 fun i j => dotChain (fmtW f) g.rm sa.2 (fun k => g.xe f a.toNat l i k)
        (fun k => g.xe f b.toNat l j k)
      some (sa.1, sb.1, m.1, m.2)

/-- XMV (R325): a times b read as a vector. -/
def execXmv (y f : Bool) (d a b : Fld) (s : State) : Res :=
  s.smu3 y f d a b fun g l sa sb =>
    if sb ≠ (1, sa.2) ∧ sb ≠ (sa.2, 1) then none
    else
      let v (k : Nat) : Nat := if sb.1 = 1 then g.xe f b.toNat l 0 k else g.xe f b.toNat l k 0
      let m := buildMat sa.1 1 fun i _ => dotChain (fmtW f) g.rm sa.2 (fun k => g.xe f a.toNat l i k) v
      some (sa.1, 1, m.1, m.2)

/-! ### Factorisations and solves (R326-R330) -/

/-- XCHOL (R326). -/
def execXchol (y f : Bool) (d a : Fld) (s : State) : Res :=
  s.smu y (fun g => g.xIn f d.toNat && g.xIn f a.toNat) fun g l =>
    let sh := g.shapeOf a.toNat l
    if sh.1 ≠ sh.2 then smuShape
    else
      let t := cholesky (fmtW f) g.rm g.xpiv (g.mat f a.toNat l) sh.1
      smuMat f d.toNat l sh.1 sh.1 t.m t.fl t.ev

/-- XLUP (R327): d takes the factor and the permutation register the row numbers. -/
def execXlup (y f : Bool) (d a : Fld) (s : State) : Res :=
  let pr := d.toNat + (if f then 2 else 1)
  s.smu y (fun g => g.xIn f d.toNat && g.xIn f a.toNat && g.xIn f pr) fun g l =>
    let sh := g.shapeOf a.toNat l
    if sh.1 ≠ sh.2 then smuShape
    else
      let t := lup (fmtW f) g.rm g.xpiv (g.mat f a.toNat l) sh.1
      let perm := (List.range 6).map fun j => intBits (fmtW f) (t.p.getD j 0)
      { shapes := xShape f d.toNat l sh.1 sh.1 ++ xShape f pr l 1 sh.1,
        xs := xMatrix f d.toNat l sh.1 sh.1 t.m ++ xMatrix f pr l 1 sh.1 perm, fl := t.fl, ev := t.ev }

/-- The permutation that a 1 x n register holds, if each of 0 to n - 1 stands in it exactly once. -/
def Group.permOf (g : Group) (f : Bool) (k l n : Nat) : Option (List Nat) :=
  let p := (List.range n).map fun j =>
    ((List.range n).find? fun v => ((fmtW f).unpack (g.xe f k l 0 j)).eqv (.fin false v 0)).getD 6
  if g.shapeOf k l = (1, n) ∧ (List.range n).all fun v => p.contains v then some p else none

/-- XSOLV (R328): the right-hand sides in d, with the Cholesky factor a when b = a, else the LU factor a and the
permutation b. -/
def execXsolv (y f : Bool) (d a b : Fld) (s : State) : Res :=
  s.smu y (fun g => g.xIn f d.toNat && g.xIn f a.toNat && g.xIn f b.toNat) fun g l =>
    let sa := g.shapeOf a.toNat l
    let sd := g.shapeOf d.toNat l
    let m := g.mat f a.toNat l
    let start : Work := { m := g.mat f d.toNat l }
    if sa.1 ≠ sa.2 ∨ sd.1 ≠ sa.1 then smuShape
    else if a = b then
      let t := (List.range sd.2).foldl (fun t c => cholSolve (fmtW f) g.rm m sa.1 c t) start
      smuMat f d.toNat l sd.1 sd.2 t.m t.fl t.ev
    else
      match g.permOf f b.toNat l sa.1 with
      | none => smuShape
      | some p =>
        let t := (List.range sd.2).foldl (fun t c => lupSolve (fmtW f) g.rm m p sa.1 c t) start
        smuMat f d.toNat l sd.1 sd.2 t.m t.fl t.ev

/-- XINV (R329). -/
def execXinv (y f : Bool) (d a : Fld) (s : State) : Res :=
  s.smu y (fun g => g.xIn f d.toNat && g.xIn f a.toNat) fun g l =>
    let sh := g.shapeOf a.toNat l
    if sh.1 ≠ sh.2 then smuShape
    else
      let w := lup (fmtW f) g.rm g.xpiv (g.mat f a.toNat l) sh.1
      let t := (List.range sh.1).foldl (fun t c => lupSolve (fmtW f) g.rm w.m w.p sh.1 c t)
        ({ m := identity (fmtW f), fl := w.fl, ev := w.ev } : Work)
      smuMat f d.toNat l sh.1 sh.1 t.m t.fl t.ev

/-- XDET (R329): the product of the pivots, negated when the permutation is odd; a NaN is the default NaN whatever the
permutation, and a signalling one raises invalid (12 R211). -/
def execXdet (y f : Bool) (d a : Fld) (s : State) : Res :=
  s.smu y (fun g => g.valIn f d.toNat && g.xIn f a.toNat) fun g l =>
    let sh := g.shapeOf a.toNat l
    if sh.1 ≠ sh.2 then smuShape
    else
      let w := lup (fmtW f) g.rm g.xpiv (g.mat f a.toNat l) sh.1
      let t := chain (fun j p => (fmtW f).mulBits g.rm p (at6 w.m j j)) (at6 w.m 0 0, w.fl) (span 1 sh.1)
      let x := (fmtW f).unpack t.1
      let v := if x.isNan then (fmtW f).nanOf [x] else (if w.odd then t.1 ^^^ (fmtW f).signBit else t.1, 0)
      { vs := g.valWrites f d.toNat l v.1, fl := t.2 ||| v.2, ev := w.ev }

/-- XFLAG (R330): the lane's XFLAGS as the unit holds it, then bits [4:0] are cleared. -/
def execXflag (y : Bool) (d : Fld) (s : State) : Res :=
  s.plain y (fun g => g.inWindow d.toNat) fun g sl =>
    let lanes := g.active sl
    let fl (l : Nat) : Byte := Sparse.get (0 : Byte) g.smuFlags l
    let cleared := lanes.map fun l => (l, fl l &&& 0xE0#8)
    let p : Pending := { slices := sl, vecs := lanes.map fun l => (g.vkey d.toNat l, (fl l).setWidth 32), xfl := cleared }
    ({ g with smuFlags := Sparse.setAll 0 g.smuFlags cleared } : Group).addPending p

end Sys2Proof.Machine
end

