-- ==== Sys2Proof/Machine/Matrix.lean ====
section
/-! DEFINITION. The matrix engine: the format word and its vote (12 R225, R226), operand rows (18 R334; 10 R187), the
arithmetic of chunks (12 R227, R228), and the commands MX.R, MX.S, MXJOB, MXZA, MXLDA and MXST (18 R331-R338). -/

namespace Sys2Proof.Machine

/-! ### The format word -/

def fmtA (w : W32) : Nat := bits w 4 0
def fmtB (w : W32) : Nat := bits w 9 5
/-- The accumulator format. -/
def fmtAcc (w : W32) : Nat := bits w 14 10
/-- The rounding code. -/
def fmtRound (w : W32) : Nat := bits w 17 15
/-- The scale kind: 0 none, 1 scale and zero point, 2 scale only. -/
def fmtScale (w : W32) : Nat := bits w 19 18
/-- The K-group size in elements. -/
def fmtKg (w : W32) : Nat := 32 * 2 ^ bits w 21 20

/-- Whether a type code is affine. -/
def isAffine (c : Nat) : Bool := c == 12 || c == 13
/-- Whether a type code is a block format. -/
def isBlock (c : Nat) : Bool := c == 8 || c == 9 || c == 10

/-- Whether a format word passes R226. -/
def fmtOk (w : W32) : Bool :=
  let a := fmtA w
  let b := fmtB w
  let pair :=
    if isBlock a && isBlock b then fmtScale w == 0
    else if (a == 5 || a == 6) && (b == 5 || b == 6) then fmtScale w == 0
    else if isAffine a && isAffine b then fmtScale w == 1 || fmtScale w == 2
    else (a == 4 || a == 3 || a == 2) && a == b && fmtScale w == 0
  bits w 31 23 == 0 && decide (bits w 21 20 ≠ 3) && decide (fmtScale w ≠ 3) && decide (fmtRound w ≤ 4)
    && decide (2 ≤ fmtAcc w) && decide (fmtAcc w ≤ 6) && pair

/-- The chunk length of a format word. -/
def chunkOf (w : W32) : Nat := if fmtA w = 2 then 2 else if fmtA w = 3 ∨ fmtA w = 4 then 4 else 16

/-- The word that a gang votes on: of its lowest active lane, or of its lowest lane when none is active. -/
def Group.votedWord (g : Group) (slices : List Nat) (n : Nat) : W32 :=
  g.rv n ((g.active slices).headD (4 * slices.headD 0))

/-- The vote and the check of a format word, then the rest. -/
def State.withFormat (s : State) (g : Group) (n : Nat) (k : W32 → Res) : Res :=
  s.need g (g.inWindow n) (
    let w := g.votedWord s.cursor.slices n
    if (g.active s.cursor.slices).any fun l => g.rv n l != w then s.trapHere g .fmtdiv
    else if !fmtOk w then s.trapHere g .fmtbad
    else k w)

/-- The rounding code with code 4 replaced by FPCR's mode. -/
def Group.roundCode (g : Group) (w : W32) : Nat := if fmtRound w = 4 then bits g.fpcr 1 0 else fmtRound w

/-- The mode of a rounding code 0-3. -/
def roundOf (c : Nat) : RMode := rmOf (BitVec.ofNat 32 c)

/-! ### Operand rows (R334) -/

/-- Bytes of the codes of a row of K elements. -/
def codeBytes (c k : Nat) : Nat :=
  if isBlock c then (k + 15) / 16 * blockBytes c
  else if c = 13 then (k + 1) / 2
  else k * (typeBits c / 8)

/-- Bytes of a row of K elements in a format. -/
def rowBytes (w : W32) (c k : Nat) : Nat :=
  if isAffine c then
    (codeBytes c k + 31) / 32 * 32 + (k + fmtKg w - 1) / fmtKg w * (if fmtScale w = 1 then 2 else 1)
  else codeBytes c k

/-- The little-endian number of n bytes of a row. -/
def rowNat (row : List Byte) (off : Nat) : Nat → Nat
  | 0 => 0
  | n + 1 => (row.getD off 0).toNat + 256 * rowNat row (off + 1) n

/-- Element k of a row, as an exact datum. -/
def rowVal (c : Nat) (row : List Byte) (k : Nat) : Num :=
  if isBlock c then
    fF32.unpack (fromBlock (rowNat row (k / 16 * blockBytes c) (blockBytes c)) (blockM c) (k % 16))
  else readType c (rowNat row (k * (typeBits c / 8)) (typeBits c / 8))

/-- Code k of an affine row. -/
def rowCode (c : Nat) (row : List Byte) (k : Nat) : Int :=
  if c = 13 then twos 4 ((row.getD (k / 2) 0).toNat / 16 ^ (k % 2)) else twos 8 (row.getD k 0).toNat

/-- Scale and zero point of the K-group of element k. -/
def rowScale (w : W32) (c : Nat) (row : List Byte) (kAll k : Nat) : (Nat × Int) × Int :=
  let base := (codeBytes c kAll + 31) / 32 * 32
  let i := k / fmtKg w
  if fmtScale w = 1 then (affineScale (row.getD (base + 2 * i) 0).toNat, twos 8 (row.getD (base + 2 * i + 1) 0).toNat)
  else (affineScale (row.getD (base + i) 0).toNat, 0)

/-- The stash byte of byte t of row i of an operand (10 R187). -/
def stashByte (base pitch rot i t : Nat) : Nat :=
  if rot = 0 then base + i * pitch + t
  else base + i * pitch + 32 * ((t / 32 + i * 2 ^ (rot - 1)) % (pitch / 32)) + t % 32

/-- Whether every byte of m rows of n bytes lies in an allocation, and with a rotation in the row pitch. -/
def stashFits (base pitch rot m n alloc : Nat) : Bool :=
  (rot == 0 || decide (n ≤ pitch))
    && (List.range m).all fun i => (List.range ((n + 31) / 32)).all fun c =>
      decide (stashByte base pitch rot i (32 * c) + min 32 (n - 32 * c) ≤ alloc)

/-! ### Chunks (12 R227, R228) -/

/-- The exact sum of finite data, as a signed integer at a power of two. -/
def sumExact (xs : List (Bool × Nat × Int)) : Int × Int :=
  let e := xs.foldl (fun m x => min m x.2.2) (match xs with
    | [] => 0
    | x :: _ => x.2.2)
  (xs.foldl (fun t x => t + signed x.1 (x.2.1 * 2 ^ (x.2.2 - e).toNat)) 0, e)

/-- RoundTo(F32, t, RNE) of an exact dyadic; a zero is +0 (DEDUCED, log 94). -/
def roundSum (t : Int × Int) : Nat := (fF32.roundTo .rne (decide (t.1 < 0)) t.1.natAbs t.2 false false).1

/-- The products of a chunk: a NaN, an infinity, or a finite sum. -/
def chunkSum (ps : List (Num × Num)) : Num × Nat :=
  let isZ (n : Num) : Bool := match n with
    | .fin _ 0 _ => true
    | _ => false
  let isInf (n : Num) : Bool := match n with
    | .inf _ => true
    | _ => false
  let bad := ps.any fun p => p.1.isNan || p.2.isNan || (isZ p.1 && isInf p.2) || (isInf p.1 && isZ p.2)
  let infs := (ps.filter fun p => isInf p.1 || isInf p.2).map fun p => p.1.neg != p.2.neg
  if bad || (infs.contains true && infs.contains false) then (.nan false, fF32.nan)
  else
    match infs with
    | n :: _ => (.inf n, fF32.infBits n)
    | [] =>
      let fs := ps.filterMap fun p => match p.1, p.2 with
        | .fin n1 m1 e1, .fin n2 m2 e2 => some (n1 != n2, m1 * m2, e1 + e2)
        | _, _ => none
      let r := roundSum (sumExact fs)
      (.fin false 0 0, r)

/-- An accumulation in progress: the F32 bits, and whether a NaN was written or a finite value rounded to infinity. -/
structure Acc where
  v : Nat
  ovf : Bool
  deriving DecidableEq, Repr

/-- Whether F32 bits are an infinity. -/
def isInf32 (v : Nat) : Bool := v % 2 ^ 31 == 0x7F800000

/-- Add a chunk's result to an accumulator. `inf` says that the chunk held an infinity. -/
def Acc.add (a : Acc) (r : Nat) (inf : Bool) : Acc :=
  let v := (fF32.add .rne (fF32.unpack a.v) (fF32.unpack r)).1
  { v := v, ovf := a.ovf || (!inf && isInf32 r) || (!isInf32 a.v && !isInf32 r && isInf32 v) }

/-- Chunk c of element (i, j), with A row and B column given as bytes. -/
def chunkStep (w : W32) (kAll : Nat) (ra rb : List Byte) (a : Acc) (c : Nat) : Acc :=
  let n := chunkOf w
  let ks := (List.range (min n (kAll - c * n))).map fun i => c * n + i
  if isAffine (fmtA w) then
    let sa := rowScale w (fmtA w) ra kAll (c * n)
    let sb := rowScale w (fmtB w) rb kAll (c * n)
    let t := ks.foldl (fun (t : Int) k => t + (rowCode (fmtA w) ra k - sa.2) * (rowCode (fmtB w) rb k - sb.2)) 0
    a.add (roundSum (t * (sa.1.1 * sb.1.1 : Nat), sa.1.2 + sb.1.2)) false
  else
    let s := chunkSum (ks.map fun k => (rowVal (fmtA w) ra k, rowVal (fmtB w) rb k))
    a.add s.2 (match s.1 with
      | .inf _ => true
      | _ => false)

/-- One element of a multiply (R227). -/
def mulElement (w : W32) (k : Nat) (ra rb : List Byte) (start : Nat) : Acc :=
  (List.range ((k + chunkOf w - 1) / chunkOf w)).foldl (chunkStep w k ra rb) { v := start, ovf := false }

/-! ### Tiles -/

/-- The key of an element of a tile. -/
def tileKey (t i j : Nat) : Nat := t * 9216 + 96 * i + j

/-- Write elements of a tile of a core. -/
def State.writeTile (s : State) (core : Nat) (w : List (Nat × W32)) : State :=
  let c := Sparse.get {} s.cores core
  { s with cores := Sparse.set {} s.cores core { c with tiles := Sparse.setAll 0 c.tiles w } }

/-- An element of a tile. -/
def State.tileAt (s : State) (core t i j : Nat) : W32 := Sparse.get 0 (Sparse.get {} s.cores core).tiles (tileKey t i j)

/-- Bind a handle of a group to a free tile, set to +0 (R331): none when no tile is free. -/
def State.bindTile (s : State) (h : Nat) (g : Group) (a : Nat) : Option (State × Group × Nat) :=
  match Sparse.get none g.handle a with
  | some t => some (s, g, t)
  | none =>
    let c := Sparse.get {} s.cores g.core
    match (List.range 8).find? fun t => Sparse.get none c.tileOwner t == none with
    | none => none
    | some t =>
      let c := { c with tileOwner := Sparse.set none c.tileOwner t (some h),
                        tiles := Sparse.clearRange c.tiles (tileKey t 0 0) (tileKey (t + 1) 0 0) }
      some ({ s with cores := Sparse.set {} s.cores g.core c },
        { g with handle := Sparse.set none g.handle a (some t) }, t)

/-- Bind a list of handles. -/
def State.bindTiles (s : State) (h : Nat) (g : Group) : List Nat → Option (State × Group × List (Nat × Nat))
  | [] => some (s, g, [])
  | a :: as =>
    match s.bindTile h g a with
    | none => none
    | some (s, g, t) => (State.bindTiles s h g as).map fun r => (r.1, r.2.1, (a, t) :: r.2.2)

/-! ### Performing a step -/

/-- The stash lines of an operand: read through a span, so that mapped lines fill first. -/
def operandBytes (o : MxOperand) (m n : Nat) : List Nat :=
  match o with
  | .rows _ => []
  | .stash base pitch rot =>
    ((List.range m).flatMap fun i => (List.range ((n + 31) / 32)).flatMap fun c =>
      [stashByte base pitch rot i (32 * c) / 128, stashByte base pitch rot i (min (32 * c + 31) (n - 1)) / 128]).eraseDups

/-- What a group of stash lines answers before an operand is read: the state after filling, a fault, or a status. -/
inductive Ready where
  | ok (denied : List Nat)
  | fault (page : BitVec 28 × Nat) (noWake : Bool)
  | failed (code : Nat)
  | held
  deriving DecidableEq, Repr

/-- Whether a stash line of a command's block belongs to a region of another chip's object: its bytes are read there, into the
command's buffer at their allocation offsets (DEDUCED, log 92). -/
def State.farLine (s : State) (c : Command) (l : Nat) : Bool :=
  match (s.block c.block).bind fun b => b.regionAt (128 * l) with
  | none => false
  | some r => r.cap.home != s.fab.self

/-- Fill the mapped lines of an operand; lines denied read zero. -/
def State.touchLines (s : State) (c : Command) : List Nat → List Nat → State × Ready
  | [], denied => (s, .ok denied)
  | l :: ls, denied =>
    match (s.block c.block).bind fun b => b.regionAt (128 * l) with
    | none => State.touchLines s c ls denied
    | some r =>
      let page := (r.cap.object, r.objectOff (128 * l) / 65536)
      if r.cap.home != s.fab.self then State.touchLines s c ls denied
      else if c.refused.contains page then (s, .failed 3)
      else
        match s.fillLine c.block l r { c.req with kind := 4 } false (128 * l) with
        | (s, st, nw) =>
          if st = 0xFF then (s, .held)
          else if st = 2 then (s, .fault page nw)
          else if st = 1 then State.touchLines s c ls (l :: denied)
          else if st = 0 then State.touchLines s c ls denied
          else (s, .failed (engineCode st))

/-- Row i of an operand. -/
def State.operandRow (s : State) (c : Command) (o : MxOperand) (denied : List Nat) (n i : Nat) : List Byte :=
  match o with
  | .rows bs => bs.getD i []
  | .stash base pitch rot =>
    match s.block c.block with
    | none => []
    | some b => (List.range n).map fun t =>
      let a := stashByte base pitch rot i t
      if denied.contains (a / 128) then 0
      else if s.farLine c (a / 128) then Sparse.get (0 : Byte) c.buf a else Sparse.get (0 : Byte) b.stash a

/-- Whether an operand holds a poisoned sector. -/
def State.operandPoison (s : State) (c : Command) (o : MxOperand) (denied : List Nat) (m n : Nat) : Bool :=
  match o with
  | .rows _ => false
  | .stash base pitch rot =>
    match s.block c.block with
    | none => false
    | some b => (List.range m).any fun i => (List.range n).any fun t =>
      let a := stashByte base pitch rot i t
      !denied.contains (a / 128) && (if s.farLine c (a / 128) then Sparse.get false c.bufPoison a else b.poisoned a 1)

/-- A multiply step on a tile (R335). -/
def State.mulStep (s : State) (c : Command) (t : Nat) (w : W32) (m n k : Nat) (zf : Bool) (a b : MxOperand) :
    State × Command × Ready :=
  let na := rowBytes w (fmtA w) k
  let nb := rowBytes w (fmtB w) k
  match s.touchLines c (operandBytes a m na ++ operandBytes b n nb) [] with
  | (s, .ok denied) =>
    if c.holes ≠ [] then (s, c, .failed c.status) else
    let c := if denied = [] then c else c.meet 1
    if s.operandPoison c a denied m na || s.operandPoison c b denied n nb then (s, c.meet 2, .failed 2)
    else
      let rowsA := (List.range m).map fun i => s.operandRow c a denied na i
      let colsB := (List.range n).map fun j => s.operandRow c b denied nb j
      let rs := (List.range m).flatMap fun i => (List.range n).map fun j =>
        (tileKey t i j, mulElement w k (rowsA.getD i []) (colsB.getD j [])
          (if zf then 0 else (s.tileAt c.req.core t i j).toNat))
      let c := { c with mxNan := c.mxNan || rs.any (fun e => (fF32.unpack e.2.v).isNan),
                        mxOvf := c.mxOvf || rs.any (fun e => e.2.ovf) }
      (s.writeTile c.req.core (rs.map fun e => (e.1, BitVec.ofNat 32 e.2.v)), c, .ok [])
  | (s, r) => (s, c, r)

/-- Bytes of an accumulator element. -/
def accBytes (w : W32) : Nat := typeBits (fmtAcc w) / 8

/-- The span of row i of an M x N corner in memory. -/
def cornerSpan (c : Command) (w : W32) (n : Nat) (cap : Cap) (offset pitch i : Nat) (shadow : Bool) : Span :=
  { cap := cap, blk := c.block, off := cap.base.toNat + offset + i * pitch, len := n * accBytes w,
    pos := i * (n * accBytes w), shadow := shadow }

/-- Read or write the next piece of an MX command's spans; the steps behind them run when none is left. -/
def State.mxLoad (s : State) (c : Command) (t : Nat) (w : W32) (m n : Nat) : State × Command :=
  let z := accBytes w
  let bad := (List.range (m * n * z)).any fun p => Sparse.get false c.bufPoison p
  if bad ∨ c.holes ≠ [] then (s, c.meet (if bad then 2 else 0))
  else
    let v (i j : Nat) : Nat :=
      let raw := (List.range z).foldl (fun a b => a + (Sparse.get (0 : Byte) c.buf ((i * n + j) * z + b)).toNat * 256 ^ b) 0
      ((fF32.convert .rne false ((fmtOf (fmtAcc w)).unpack raw)).1)
    let rs := (List.range m).flatMap fun i => (List.range n).map fun j => (tileKey t i j, BitVec.ofNat 32 (v i j))
    (s.writeTile c.req.core rs, { c with mxNan := c.mxNan || rs.any (fun e => (fF32.unpack e.2.toNat).isNan) })

/-- The converted bytes of an M x N corner, in the buffer (R336 item 5). -/
def State.mxConvert (s : State) (c : Command) (t : Nat) (w : W32) (rm m n : Nat) : Command :=
  let z := accBytes w
  let f := fmtOf (fmtAcc w)
  let saturate := w.getLsbD 22 && decide (5 ≤ fmtAcc w)
  let rs := (List.range m).flatMap fun i => (List.range n).map fun j =>
    let r := f.convert (roundOf rm) saturate (fF32.unpack (s.tileAt c.req.core t i j).toNat)
    (i * n + j, r.1, r.2)
  { c with
    buf := Sparse.setAll 0 [] (rs.flatMap fun e => (List.range z).map fun b => (e.1 * z + b, BitVec.ofNat 8 (e.2.1 / 256 ^ b)))
    bufTags := [], bufPoison := [], holes := [],
    mxNan := c.mxNan || rs.any (fun e => (f.unpack e.2.1).isNan),
    mxOvf := c.mxOvf || rs.any (fun e => e.2.2 &&& (flOverflow ||| flSat) != 0) }

/-- One move of a matrix command: a span's piece, or its next step. -/
def State.mxMove (s : State) (k : Nat) (c : Command) : State :=
  match c.reads, c.writes with
  | p :: _, _ => s.readStep k c p
  | [], p :: _ => s.writeStep k c p
  | [], [] =>
    if c.awaiting ≠ [] then s
    else
      match c.steps with
      | [] => s.completeCommand k c
      | .zero t m n :: rest =>
        (s.writeTile c.req.core ((List.range m).flatMap fun i => (List.range n).map fun j => (tileKey t i j, 0))).putCommand k
          { c with steps := rest }
      | .mul t w m n kk zf a b :: rest =>
        let far := (operandBytes a m (rowBytes w (fmtA w) kk) ++ operandBytes b n (rowBytes w (fmtB w) kk)).filter (s.farLine c)
        if !c.begun && far != [] then
          s.putCommand k { c with
            begun := true, buf := [], bufTags := [], bufPoison := [], holes := []
            reads := far.eraseDups.map fun l =>
              { cap := { tag := true }, blk := c.block, off := 128 * l, len := 128, pos := 128 * l, shadow := false } }
        else
        match s.mulStep c t w m n kk zf a b with
        | (s, _, .held) => s
        | (s, c, .ok _) => s.putCommand k { c with steps := rest, begun := false }
        | (s, c, .fault page nw) => s.putCommand k (s.commandFault c page false false nw)
        | (s, c, .failed code) => s.putCommand k { c.meet code with steps := [] }
      | .load t w m n cap offset pitch :: rest =>
        if !c.begun then
          s.putCommand k { c with
            begun := true, buf := [], bufTags := [], bufPoison := [], holes := [],
            reads := (List.range m).map fun i => cornerSpan c w n cap offset pitch i false }
        else
          let r := s.mxLoad c t w m n
          r.1.putCommand k { r.2 with begun := false, steps := rest }
      | .store t w rm m n cap offset pitch shadow :: rest =>
        let c := s.mxConvert c t w rm m n
        s.putCommand k { c with
          steps := rest
          writes := (List.range m).map fun i => cornerSpan c w n cap offset pitch i shadow }

/-! ### Issue (R332-R338) -/

/-- The dimension word: none when a reserved bit is set or M or N is above 96. -/
def dimsOf (v : W64) : Option (Nat × Nat × Nat × Bool) :=
  if bits v 63 41 ≠ 0 ∨ v.getLsbD 15 ∨ v.getLsbD 7 ∨ 96 < bits v 6 0 ∨ 96 < bits v 14 8 then none
  else some (bits v 6 0, bits v 14 8, bits v 39 16, v.getLsbD 40)

/-- A base register (10 R187). -/
def baseOf (v : W64) : Option Nat := if bits v 63 22 ≠ 0 ∨ bits v 21 0 % 32 ≠ 0 then none else some (bits v 21 0)

/-- A pitch register: row pitch and rotation code. -/
def pitchOf (v : W64) : Option (Nat × Nat) :=
  let rp := bits v 19 0
  let rot := bits v 58 56
  if bits v 63 59 ≠ 0 ∨ bits v 31 20 ≠ 0 ∨ bits v 55 32 % 64 ≠ 0 ∨ rp % 16 ≠ 0 ∨ (rot ≠ 0 ∧ rp % 32 ≠ 0) then none
  else some (rp, rot)

/-- Issue a matrix command for the gang of a memory operation or of the cursor: handles bind, and the gang goes on. The
gang waits while no tile is free, with an eviction of a group that holds tiles, or while 1,024 commands are outstanding. -/
def State.mxIssue (s : State) (h : Nat) (g : Group) (slices : List Nat) (pc : W64) (y : Bool) (handles : List Nat)
    (unbind : Bool) (mk : (Nat → Nat) → Command → Command) : Res :=
  if 1024 ≤ s.outstanding h then .next s
  else
    match s.bindTiles h g handles with
    | none =>
      .next (match s.victim ((s.residents g.core).filter fun k => ((s.group k).map fun m => decide (m.handle ≠ [])).getD false) with
        | none => s
        | some v => (s.evict v).1)
    | some (s, g, bound) =>
      let tile (a : Nat) : Nat := ((bound.find? fun e => e.1 == a).map Prod.snd).getD 0
      let ts := bound.map Prod.snd
      let c := mk tile { s.newCommand h g .mx with tiles := ts, frees := if unbind then ts else [] }
      let g := if unbind then { g with handle := Sparse.setAll none g.handle (bound.map fun e => (e.1, none)) } else g
      let r := s.issueCommand h g c
      .next (r.1.putGroup h (r.2.goTo slices (pc + 4) y))

/-- MX.R and MX.S: the tests of R332 and R335, with the A operand or none. -/
def State.mxMul (s : State) (y : Bool) (d a b : Fld) (regs : Bool) : Res :=
  s.issue fun g => s.need g (decide (d.toNat < g.aCount)) (s.withFormat g a.toNat fun w =>
    let v (i : Nat) : W64 := g.rs (b.toNat + i)
    let alloc := s.allocOf g
    let sl := s.cursor.slices
    match dimsOf (v 0), baseOf (v 2), pitchOf (v 3) with
    | some (m, n, k, zf), some bb, some (pitch, rot) =>
      let na := rowBytes w (fmtA w) k
      let run := bits (v 1) 6 0
      let opA : Option MxOperand :=
        if regs then
          if bits (v 1) 63 7 ≠ 0 ∨ g.visible < m ∨ 128 < run + (na + 3) / 4 ∨ g.extent < g.winb + run + (na + 3) / 4 then none
          else
            let act := g.activeVis sl
            some (.rows ((List.range m).map fun i => (List.range na).map fun t =>
              if act.contains i then (g.rv (run + t / 4) (g.physLane i)).extractLsb' (8 * (t % 4)) 8 else 0))
        else
          match baseOf (v 1) with
          | none => none
          | some ab => if stashFits ab pitch rot m na alloc then some (.stash ab pitch rot) else none
      match opA with
      | none => s.trapHere g .operand
      | some oa =>
        if !stashFits bb pitch rot n (rowBytes w (fmtB w) k) alloc then s.trapHere g .operand
        else if m = 0 ∨ n = 0 ∨ k = 0 then s.mxIssue s.cursor.group g sl s.cursor.pc y [] false fun _ c => c
        else s.mxIssue s.cursor.group g sl s.cursor.pc y [d.toNat] false fun tile c =>
          { c with steps := [.mul (tile d.toNat) w m n k zf oa (.stash bb pitch rot)] }
    | _, _, _ => s.trapHere g .operand)

/-- MX.R (R335). -/
def execMxR (y : Bool) (d a b : Fld) (s : State) : Res :=
  s.mxMul y d a b true

/-- MX.S (R335). -/
def execMxS (y : Bool) (d a b : Fld) (s : State) : Res :=
  s.mxMul y d a b false

/-- MXZA (R336). -/
def execMxza (y : Bool) (d : Fld) (s : State) : Res :=
  s.issue fun g => s.need g (decide (d.toNat < g.aCount)) (
    s.mxIssue s.cursor.group g s.cursor.slices s.cursor.pc y [d.toNat] false fun tile c =>
      { c with steps := [.zero (tile d.toNat) 96 96] })

/-- The capability tests of an M x N corner (R336 item 1): the first that fails. -/
def cornerFail (c : Cap) (rights : BitVec 8) (m n z offset pitch alloc : Nat) : Option Cause :=
  let ext := offset + (m - 1) * pitch + n * z
  if !c.tag then some .captag
  else if !c.has rights then some .capright
  else if m ≠ 0 ∧ n ≠ 0 ∧ (c.length.toNat < ext ∨ (c.isStash ∧ alloc < c.base.toNat + ext)) then some .capbound
  else none

/-- MXLDA (R336): widens the corner of memory into the tile. -/
def execMxlda (y : Bool) (d a b : Fld) (s : State) : Res :=
  s.issue fun g => s.need g (decide (d.toNat < g.aCount)) (s.withFormat g a.toNat fun w =>
    let v := g.rs b.toNat
    let offset := (g.rs (b.toNat + 1)).toNat
    let cap := g.rc (bits v 19 15)
    let m := bits v 6 0
    let n := bits v 14 8
    let pitch := bits v 39 20
    let z := accBytes w
    match cornerFail cap (rR ||| rE) m n z offset pitch (s.allocOf g) with
    | some c => s.trapHere g c
    | none =>
      if bits v 63 40 ≠ 0 ∨ v.getLsbD 7 ∨ 96 < m ∨ 96 < n ∨ offset % z ≠ 0 ∨ pitch % z ≠ 0 then s.trapHere g .operand
      else if m = 0 ∨ n = 0 then s.mxIssue s.cursor.group g s.cursor.slices s.cursor.pc y [] false fun _ c => c
      else s.mxIssue s.cursor.group g s.cursor.slices s.cursor.pc y [d.toNat] false fun tile c =>
        { c with steps := [.load (tile d.toNat) w m n cap offset pitch] })

/-- The barrier that a command may count into (19 R343 item 8): `some none` when it does not count, none for OPERAND. -/
def State.countField (s : State) (g : Group) (count : Bool) (barrier : Nat) : Option (Option Nat) :=
  if !count then some none
  else if g.task then none
  else
    match s.block g.block with
    | none => none
    | some k => if barrier < k.barriers then some (some barrier) else none

/-- MXST (R336): converts the corner of the tile into memory. -/
def execMxst (y : Bool) (d a b : Fld) (s : State) : Res :=
  s.issue fun g => s.need g (decide (d.toNat < g.aCount)) (s.withFormat g a.toNat fun w =>
    let v := g.rs b.toNat
    let offset := (g.rs (b.toNat + 1)).toNat
    let vp := g.rs (b.toNat + 2)
    let vb := g.rs (b.toNat + 3)
    let cap := g.rc (bits v 19 15)
    let m := bits v 6 0
    let n := bits v 14 8
    let pitch := bits vp 19 0
    let z := accBytes w
    let shadow := v.getLsbD 20
    match cornerFail cap (rW ||| rE) m n z offset pitch (s.allocOf g) with
    | some c => s.trapHere g c
    | none =>
      match s.countField g (vb.getLsbD 7) (bits vb 5 0) with
      | none => s.trapHere g .operand
      | some count =>
        if bits v 63 40 ≠ 0 ∨ bits v 39 22 ≠ 0 ∨ v.getLsbD 7 ∨ 96 < m ∨ 96 < n ∨ bits vp 63 20 ≠ 0 ∨ bits vb 63 8 ≠ 0
            ∨ vb.getLsbD 6 ∨ offset % z ≠ 0 ∨ pitch % z ≠ 0 ∨ (shadow ∧ (cap.isStash ∨ cap.home ≠ s.fab.self)) then
          s.trapHere g .operand
        else
          let unbind := v.getLsbD 21
          let bound := (Sparse.get none g.handle d.toNat).isSome
          let handles := if m = 0 ∨ n = 0 then (if unbind && bound then [d.toNat] else []) else [d.toNat]
          let steps (tile : Nat → Nat) : List MxStep :=
            if m = 0 ∨ n = 0 then [] else [.store (tile d.toNat) w (g.roundCode w) m n cap offset pitch shadow]
          s.mxIssue s.cursor.group g s.cursor.slices s.cursor.pc y handles unbind fun tile c =>
            { c with count := count, steps := steps tile })

/-! ### Job cards (R337, R338) -/

/-- A level of a job card. -/
structure JobLevel where
  n : Nat
  z : Bool
  s : Bool
  reserved : Bool
  h : Int
  a : Int
  b : Int
  c : Int
  deriving DecidableEq, Repr

/-- Level l of a card. -/
def jobLevel (card : List Byte) (l : Nat) : JobLevel :=
  let o := 0x40 + 16 * l
  let fl := rowNat card (o + 2) 1
  { n := rowNat card o 2, z := fl % 2 = 1, s := fl / 2 % 2 = 1, reserved := decide (4 ≤ fl),
    h := twos 8 (rowNat card (o + 3) 1), a := twos 32 (rowNat card (o + 4) 4), b := twos 32 (rowNat card (o + 8) 4),
    c := twos 32 (rowNat card (o + 12) 4) }

/-- The index tuples of a loop nest, lexicographic. -/
def indexSpace : List Nat → List (List Nat)
  | [] => [[]]
  | n :: ns => (List.range n).flatMap fun i => (indexSpace ns).map fun r => i :: r

/-- The corners of an index space: each index first or last. -/
def cornerSpace : List Nat → List (List Nat)
  | [] => [[]]
  | n :: ns => [0, n - 1].flatMap fun i => (cornerSpace ns).map fun r => i :: r

/-- The sum of i_k * stride_k over the levels up to l. -/
def strideSum (ls : List JobLevel) (ix : List Nat) (l : Nat) (f : JobLevel → Int) : Int :=
  ((List.range (l + 1)).map fun k => ((ix.getD k 0 : Nat) : Int) * ((ls[k]?).map f).getD 0).foldl (fun a b => a + b) 0

/-- The steps of one index tuple (R338), with addresses and handles as the tuple gives them. -/
def jobSteps (ls : List JobLevel) (tile : Nat → Nat) (w : W32) (rm m n k d aBase bBase pitch rot : Nat) (out : Cap)
    (offset outPitch : Nat) (shadow : Bool) (ix : List Nat) : List MxStep :=
  let handle (l : Nat) : Nat := ((d : Int) + strideSum ls ix l JobLevel.h).toNat
  let first (l : Nat) : Bool := (List.range 5).all fun q => decide (q ≤ l) || ix.getD q 0 == 0
  let last (l : Nat) : Bool := (List.range 5).all fun q =>
    decide (q ≤ l) || ix.getD q 0 + 1 == ((ls[q]?).map JobLevel.n).getD 1
  let zeros := (List.range 5).filterMap fun l =>
    if ((ls[l]?).map JobLevel.z).getD false && first l then some (MxStep.zero (tile (handle l)) m n) else none
  let stores := (List.range 5).reverse.filterMap fun l =>
    if ((ls[l]?).map JobLevel.s).getD false && last l then
      some (MxStep.store (tile (handle l)) w rm m n out ((offset : Int) + strideSum ls ix l JobLevel.c).toNat outPitch shadow)
    else none
  zeros ++ [.mul (tile (handle 4)) w m n k false (.stash ((aBase : Int) + strideSum ls ix 4 JobLevel.a).toNat pitch rot)
    (.stash ((bBase : Int) + strideSum ls ix 4 JobLevel.b).toNat pitch rot)] ++ stores

/-- The capability tests of a card (13 R230 rows 8-10, 18 R332 item 2, R338), before its OPERAND tests: of the output
capability, as the tag reads, of c_b's LC, and of every store's extent at the corners of the index space. A job with no steps
tests no output capability. -/
def jobCapCause (ls : List JobLevel) (empty lc : Bool) (m n alloc : Nat) (out : Cap) (offset outPitch z : Nat) :
    Option Cause :=
  let storing := ls.any JobLevel.s
  let extents := (cornerSpace (ls.map JobLevel.n)).all fun ix => (List.range 5).all fun l =>
    !((ls[l]?).map JobLevel.s).getD false ||
      let o := (offset : Int) + strideSum ls ix l JobLevel.c
      decide (0 ≤ o) && (cornerFail out (rW ||| rE) m n z o.toNat outPitch alloc).isNone
  if !storing then none
  else if !empty && !out.tag then some .captag
  else if !lc || (!empty && !out.has (rW ||| rE)) then some .capright
  else if !empty && !extents then some .capbound
  else none

/-- The levels whose C stride a store's offset uses: those with more than one index that stand at or outside a storing level
(R338). -/
def storeLevels (ls : List JobLevel) : List JobLevel :=
  ((List.range ls.length).filter fun l => (ls.drop l).any JobLevel.s).filterMap (fun l => ls[l]?) |>.filter
    fun l => decide (1 < l.n)

/-- The operand tests of a job at its corners (R338 items 1 and 2): the handles and the operands' bytes. -/
def jobFits (ls : List JobLevel) (w : W32) (m n k d aCount aBase bBase pitch rot alloc : Nat) : Bool :=
  let cs := cornerSpace (ls.map JobLevel.n)
  let inRange (x : Int) (hi : Nat) : Bool := decide (0 ≤ x) && decide (x < hi)
  let operand (base : Nat) (f : JobLevel → Int) (rows bytes : Nat) : Bool := cs.all fun ix =>
    let b := (base : Int) + strideSum ls ix 4 f
    decide (0 ≤ b) && decide (b.toNat % 32 = 0) && stashFits b.toNat pitch rot rows bytes alloc
  (cs.all fun ix => (List.range 5).all fun l => inRange ((d : Int) + strideSum ls ix l JobLevel.h) aCount)
    && operand aBase JobLevel.a m (rowBytes w (fmtA w) k) && operand bBase JobLevel.b n (rowBytes w (fmtB w) k)

/-- A trap of a gang that stands at a memory instruction whose answers have arrived. -/
def State.trapAt (s : State) (h : Nat) (g : Group) (o : MemOp) (c : Cause) : Res :=
  .next (s.raise h g o.slices o.pc (g.gangTrap o.slices c.code 0 o.pc))

/-- The bytes of a card that has arrived. -/
def cardBytes (o : MemOp) : List Byte :=
  (List.range 144).map fun i => match o.pieces.find? fun p => decide (p.start ≤ i) && decide (i < p.start + p.length) with
    | none => 0
    | some p => BitVec.ofNat 8 (p.value / 256 ^ (i - p.start))

/-- The tag of the card's output granule. -/
def cardTag (o : MemOp) : Bool :=
  match o.pieces.find? fun p => decide (p.start ≤ 0x20) && decide (0x20 < p.start + p.length) with
  | none => false
  | some p => decide (p.value / 2 ^ (8 * p.length + (0x20 - p.start) / 16) % 2 = 1)

/-- The card of an MXJOB has arrived (R337): its tests, then the command. The arguments are the format word, the handle,
the rounding code and whether c_b holds LC. The capability tests stand before the OPERAND tests, as R230's rows and R332 item 2
have them (DEDUCED, log 93). -/
def State.jobRead (h : Nat) (o : MemOp) (s : State) (g : Group) : Res :=
  let card := cardBytes o
  let w := BitVec.ofNat 32 (o.args.getD 0 0)
  let d := o.args.getD 1 0
  let rm := o.args.getD 2 0
  let lc := o.args.getD 3 0 = 1
  let word (off n : Nat) : W64 := BitVec.ofNat 64 (rowNat card off n)
  let ls := (List.range 5).map (jobLevel card)
  let fl := word 0x3C 4
  let out := capOf (rowNat card 0x20 16 + (if cardTag o ∧ lc then 2 ^ 128 else 0))
  let storing := ls.any JobLevel.s
  let z := accBytes w
  let offset := (word 0x30 8).toNat
  let outPitch := bits (word 0x38 4) 19 0
  let shadow := fl.getLsbD 0
  let dim := word 0 8
  let empty : Bool := bits dim 6 0 == 0 || bits dim 14 8 == 0 || bits dim 39 16 == 0 || ls.any fun l => l.n == 0
  match jobCapCause ls empty lc (bits dim 6 0) (bits dim 14 8) (s.allocOf g) out offset outPitch z with
  | some c => s.trapAt h g o c
  | none =>
    match dimsOf dim, baseOf (word 8 8), baseOf (word 0x10 8), pitchOf (word 0x18 8),
        s.countField g (fl.getLsbD 14) (bits fl 13 8) with
    | some (m, n, k, zf), some ab, some bb, some (pitch, rot), some count =>
      if zf ∨ bits (word 0x38 4) 31 20 ≠ 0 ∨ bits fl 7 2 ≠ 0 ∨ bits fl 31 15 ≠ 0 ∨ ls.any JobLevel.reserved then
        s.trapAt h g o .operand
      else if empty then
        s.mxIssue h g o.slices o.pc o.y [] false fun _ c => c
      else if storing ∧ (offset % z ≠ 0 ∨ outPitch % z ≠ 0 ∨ (storeLevels ls).any (fun l => decide (l.c % (z : Int) ≠ 0))
          ∨ (shadow ∧ (out.isStash ∨ out.home ≠ s.fab.self))) then s.trapAt h g o .operand
      else if !jobFits ls w m n k d g.aCount ab bb pitch rot (s.allocOf g) then s.trapAt h g o .operand
      else
        let space := indexSpace (ls.map JobLevel.n)
        let used := sortKeys (space.flatMap fun ix => (List.range 5).filterMap fun l =>
          if l = 4 ∨ ((ls[l]?).map fun x => x.z || x.s).getD false then
            some ((d : Int) + strideSum ls ix l JobLevel.h).toNat else none)
        s.mxIssue h g o.slices o.pc o.y used (fl.getLsbD 1) fun tile c =>
          let steps := space.flatMap (jobSteps ls tile w rm m n k d ab bb pitch rot out offset outPitch shadow)
          { c with count := count, steps := steps }
    | _, _, _, _, _ => s.trapAt h g o .operand

/-- MXJOB (R337): the vote, the tests of the card's access, and the read of the card. -/
def execMxjob (y : Bool) (d a b : Fld) (s : State) : Res :=
  s.issue fun g => s.need g (decide (d.toNat < g.aCount)) (s.withFormat g a.toNat fun w =>
    let cap := g.rc b.toNat
    let o := { s.memOp y .jobCard 144 0 with
      args := [w.toNat, d.toNat, g.roundCode w, if cap.has rLC then 1 else 0] }
    let as : List LaneReq := [{ lane := g.lowest o.slices, cap := cap, off := 0, size := 144 }]
    match s.checkFail g .jobCard 16 (rR ||| rE) as with
    | some (c, _) => s.trapHere g c
    | none => s.runLanes s.cursor.group g o 4 0 false as (State.jobRead s.cursor.group))

end Sys2Proof.Machine
end

