-- ==== Sys2Proof/Machine/Dispatcher.lean ====
section
/-! DEFINITION. Dispatch within a chip (07): partitions and cores (03 R55), the kernel image (14 R244), the initial state of
a group (08 R126), block start (R115-R117), dormancy (R118), ending, release and the events a chip posts (R119, R120), the
abort of a grid, and task groups (R122-R124). -/

namespace Sys2Proof.Machine

/-! ### Cores and partitions (01 R22, R23; 03 R55) -/

/-- Whether a die has a core that failed self-test: its last user core is absent (01 R10). -/
def State.dieShort (s : State) (d : Nat) : Bool := s.pkg.failed.any fun e => e.1 / 41 == d

/-- The user cores of the running dies, ascending. -/
def State.userCores (s : State) : List Nat :=
  (List.range 160).filter fun c => s.dieRuns (c / 40) && !(c % 40 == 39 && s.dieShort (c / 40))

/-- The partitions of the record in use; the default record has one, of every core (01 R23). -/
def State.partitions (s : State) : List Partition :=
  if s.pkg.config.parts = [] then [{ first := 0, count := 160, mode := 0, id := 0 }] else s.pkg.config.parts

/-- The running user cores of a partition. -/
def State.partCores (s : State) (id : BitVec 16) : List Nat :=
  match s.partitions.find? fun p => p.id == id with
  | none => []
  | some p => s.userCores.filter fun c => decide (p.first ≤ c) && decide (c < p.first + p.count)

/-- The blocks that hold a slot of a core: started, neither ended nor dormant. -/
def State.coreBlocks (s : State) (core : Nat) : List (Nat × Block) :=
  s.disp.blocks.filterMap fun e => match e.2 with
    | none => none
    | some b => if b.core == core && !b.dormant then some (e.1, b) else none

/-! ### References (03 R50) -/

/-- The home chip of a reference. -/
def refHome (w : W64) : BitVec 12 := w.extractLsb' 52 12
/-- The object index of a reference. -/
def refObject (w : W64) : BitVec 28 := w.extractLsb' 24 28
/-- The byte offset of a reference: 16-byte units. -/
def refOffset (w : W64) : Nat := 16 * bits w 23 0

/-! ### The kernel image (14 R244) -/

/-- The fields of a kernel image header. -/
structure Kernel where
  task : Bool
  prot : Bool
  width : Nat
  x : Nat
  a : Nat
  barriers : Nat
  extent : Nat
  quota : Nat
  stash : Nat
  args : Nat
  codeAt : Nat
  codeLen : Nat
  entry : Nat
  dataAt : Nat
  dataLen : Nat
  constAt : Nat
  constLen : Nat
  deriving DecidableEq, Repr

/-- Whether two sections (offset, length) meet (DEDUCED, log 35). -/
def sectionsMeet (a b : Nat × Nat) : Bool :=
  a.2 != 0 && b.2 != 0 && decide (a.1 < b.1 + b.2) && decide (b.1 < a.1 + a.2)

/-- Read a header; none when the dispatcher refuses the image. `fits` tells whether a section's last byte lies in the
object (DEDUCED, log 35). -/
def parseKernel (h : List Byte) (fits : Nat → Bool) : Option Kernel :=
  let num (off n : Nat) : Nat := leNat ((h.drop off).take n)
  let fl := num 0x06 2
  let k : Kernel :=
    { task := fl % 2 == 1, prot := fl / 2 % 2 == 1, width := num 0x08 1, x := num 0x09 1, a := num 0x0A 1,
      barriers := num 0x0B 1, extent := num 0x0C 2, quota := num 0x0E 2, stash := num 0x10 4, args := num 0x14 4,
      codeAt := num 0x18 4, codeLen := num 0x1C 4, entry := num 0x20 4, dataAt := num 0x24 4, dataLen := num 0x28 4,
      constAt := num 0x2C 4, constLen := num 0x30 4 }
  let secs := [(k.codeAt, k.codeLen), (k.dataAt, k.dataLen), (k.constAt, k.constLen)]
  let ok := num 0 4 == 0x4C46594E && num 4 2 == 1 && decide (fl < 4) && num 0x34 12 == 0
    && [16, 32, 64, 96].contains k.width && decide (k.x ≤ 16) && decide (k.a ≤ 8) && decide (k.barriers ≤ 64)
    && k.extent % 8 == 0 && decide (8 ≤ k.extent) && decide (k.extent ≤ 1024)
    && (if k.task then decide (1 ≤ k.quota) && decide (k.quota ≤ 128) else k.quota == 0)
    && decide (k.stash ≤ 2621440) && k.codeLen % 4 == 0 && k.entry % 4 == 0 && decide (k.entry < k.codeLen)
    && secs.all (fun e => e.1 % 64 == 0 && (e.2 == 0 || (decide (64 ≤ e.1) && fits (e.1 + e.2 - 1))))
    && !sectionsMeet (k.codeAt, k.codeLen) (k.dataAt, k.dataLen)
    && !sectionsMeet (k.codeAt, k.codeLen) (k.constAt, k.constLen)
    && !sectionsMeet (k.dataAt, k.dataLen) (k.constAt, k.constLen)
  if ok then some k else none

/-- What reading an image says. -/
inductive ImageSays where
  | kernel (k : Kernel)
  | waiting
  | bad
  deriving DecidableEq, Repr

/-- The requester of an image read: an engine read under the context's launch grant map and principal. -/
def State.imageReq (s : State) (ctx : BitVec 20) : Requester :=
  let d := s.ctxOf ctx
  { chip := s.fab.self, ctx := ctx, grant := d.grant, principal := d.principal, core := 0, gid := 0, group := 0, kind := 4,
    checked := true, ownLine := false }

/-- Keep a header read that waits. -/
def State.keepImage (s : State) (r : ImageRead) : State :=
  { s with disp := { s.disp with images := s.disp.images ++ [r] } }

/-- Forget a header read. -/
def State.dropImage (s : State) (kernel : W64) (ctx : BitVec 20) : State :=
  { s with disp := { s.disp with images := s.disp.images.filter fun r => !(r.kernel == kernel && r.ctx == ctx) } }

/-- A range of an object cut at the multiples of a unit. -/
def cutAt (unit off len : Nat) : List (Nat × Nat) :=
  (List.range ((off % unit + len + unit - 1) / unit)).map fun i =>
    let lo := max off ((off / unit + i) * unit)
    (lo, min (off + len) ((off / unit + i + 1) * unit) - lo)

/-- The sections of an image, cut at the multiples of a unit. -/
def Kernel.ranges (k : Kernel) (unit off : Nat) : List (Nat × Nat) :=
  [(k.codeAt, k.codeLen), (k.dataAt, k.dataLen), (k.constAt, k.constLen)].flatMap fun e => cutAt unit (off + e.1) e.2

/-- Read a range of one page of an image of this chip: its frame, or what the read says. -/
def State.imagePage (s : State) (kernel : W64) (ctx : BitVec 20) (off n : Nat) : State × Except ImageSays (Nat × ObjEntry) :=
  let o := refObject kernel
  let q := s.imageReq ctx
  match s.translate q o off false false with
  | (s, .ok leaf t) =>
    let f := leafFrame leaf
    let s := s.reach o off n leaf t false none
    (s, if s.framePoisoned f (off % 65536) n then .error .bad else .ok (f, t))
  | (s, .denied ptag) => (s.logDenial q o off ptag 4, .error .bad)
  | (s, .fault nw) =>
    (if nw then s
      else s.keepImage { kernel := kernel, ctx := ctx, page := some (o, off / 65536), kind := s.pageKind (o, off / 65536) false false },
      .error .waiting)
  | (s, .refused _) => (s, .error .bad)
  | (s, .hold) => (s, .error .waiting)

/-- Read ranges of an image of this chip, each in one page. -/
def State.imagePages (s : State) (kernel : W64) (ctx : BitVec 20) : List (Nat × Nat) → State × Option ImageSays
  | [] => (s, none)
  | e :: es =>
    match s.imagePage kernel ctx e.1 e.2 with
    | (s, .ok _) => State.imagePages s kernel ctx es
    | (s, .error x) => (s, some x)

/-- Read an image of this chip: its header, and then its sections. -/
def State.imageHere (s : State) (kernel : W64) (ctx : BitVec 20) : State × ImageSays :=
  let off := refOffset kernel
  match s.imagePage kernel ctx off 64 with
  | (s, .error x) => (s, x)
  | (s, .ok (f, t)) =>
    match parseKernel ((List.range 64).map fun i => s.frameByte f (off % 65536 + i)) fun n => decide (off + n ≤ t.last) with
    | none => (s, .bad)
    | some k =>
      match s.imagePages kernel ctx (k.ranges 65536 off) with
      | (s, some x) => (s, x)
      | (s, none) => (s, .kernel k)

/-- Ask another chip for a range of an image: one read of a 256-byte region (DESIGN CHOICE, log 23). -/
def State.imageThere (s : State) (r : ImageRead) (off n : Nat) : State × ImageSays :=
  let d := s.ctxOf r.ctx
  let p : Packet := { Packet.zero with
    opcode := 0x01, dst := refHome r.kernel, src := s.fab.self, object := refObject r.kernel, context := r.ctx,
    grantHome := (if grantUsable d.grant then d.grant.home else 0),
    grantObject := (if grantUsable d.grant then d.grant.object else 0),
    keyGen := (if d.prot then d.fabricGen else 0), offset := BitVec.ofNat 40 (off / 256 * 256), mask := touchedSectors off n
    inline0 := 4 }
  match s.ask 0 (.image r.kernel r.ctx) p with
  | (s, none) => (s, .bad)
  | (s, some tag) => (s.keepImage { r with tag := some tag, page := none, answer := none, at_ := off }, .waiting)

/-- Read an image where its home is. -/
def State.askImage (s : State) (kernel : W64) (ctx : BitVec 20) : State × ImageSays :=
  if refHome kernel == s.fab.self then s.imageHere kernel ctx
  else s.imageThere { kernel := kernel, ctx := ctx } (refOffset kernel) 64

/-- Go on with an image of another chip whose header was read: the next region of its sections, or the kernel. What its object's
size says of a section that ends within a sector is free (DESIGN CHOICE, log 23). -/
def State.imageRest (s : State) (r : ImageRead) : State × ImageSays :=
  let off := refOffset r.kernel
  match parseKernel r.header fun n => (off + n) % 32 == 31 || Config.remoteFits r.kernel with
  | none => (s, .bad)
  | some k =>
    match (k.ranges 256 off)[r.next]? with
    | none => (s, .kernel k)
    | some e => s.imageThere r e.1 e.2

/-- The image that a reference names, read for a context. -/
def State.image (s : State) (kernel : W64) (ctx : BitVec 20) : State × ImageSays :=
  if refOffset kernel % 64 ≠ 0 then (s, .bad)
  else
    match s.disp.images.find? fun r => r.kernel == kernel && r.ctx == ctx with
    | some r =>
      if r.refused then (s.dropImage kernel ctx, .bad)
      else
        match r.answer with
        | some (st, bytes) =>
          let s := s.dropImage kernel ctx
          if st ≠ 0 then (s, .bad)
          else s.imageRest (if r.header = [] then { r with header := bytes } else { r with next := r.next + 1 })
        | none =>
          if r.tag.isSome || r.page.isSome then (s, .waiting)
          else if r.header = [] then (s.dropImage kernel ctx).askImage kernel ctx
          else (s.dropImage kernel ctx).imageRest r
    | none => s.askImage kernel ctx

/-! ### The initial state of a group (08 R126) -/

/-- A capability of an image section. -/
def sectionCap (ref : W64) (off len : Nat) (rights : BitVec 8) : Cap :=
  { home := refHome ref, object := refObject ref, base := BitVec.ofNat 40 (refOffset ref + off), length := BitVec.ofNat 40 len,
    rights := rights, tag := true }

/-- The three words of a mask triple. -/
def tripleWords (m : BitVec 96) : List (Nat × W64) :=
  [(125, (m.extractLsb' 0 32).setWidth 64), (126, (m.extractLsb' 32 32).setWidth 64), (127, (m.extractLsb' 64 32).setWidth 64)]

/-- The visible lanes 0 to V - 1. -/
def lowLanes (v : Nat) : BitVec 96 := BitVec.ofNat 96 (2 ^ v - 1)

/-- A group as it is created, for a grid kernel. -/
def State.freshGroup (s : State) (k : Kernel) (ref arg : W64) (ctx : BitVec 20) (block : Nat) (grid : BitVec 16)
    (bid gid : BitVec 32) (nominal : BitVec 12) (core quota : Nat) : Group :=
  let v := if k.prot then k.width / 2 else k.width
  let d := s.ctxOf ctx
  let lane (l : Nat) : Nat := if k.prot then l / 2 else l
  let base : Group :=
    { ctx := ctx, block := block, grid := grid, bid := bid, gid := gid, nominal := nominal, width := k.width, prot := k.prot,
      quota := quota, extent := k.extent, xCount := k.x, aCount := k.a, core := core,
      grant := d.grant, root := d.root, launchGrant := d.grant,
      code := sectionCap ref k.codeAt k.codeLen rX, data := sectionCap ref k.dataAt k.dataLen (rR ||| rW ||| rLC ||| rSC),
      const := sectionCap ref k.constAt k.constLen (rR ||| rLC),
      s := Sparse.setAll 0 [] (tripleWords (lowLanes v)),
      v := Sparse.setAll 0 [] ((List.range k.width).flatMap fun l =>
        [(l, BitVec.ofNat 32 (lane l)), (128 + l, BitVec.ofNat 32 (gid.toNat * v + lane l))]),
      c := Sparse.setAll {} [] [(0, sectionCap arg 0 k.args (rR ||| rLC))] }
  base.mapSlices (fun _ sl => { sl with pc := BitVec.ofNat 64 (base.code.base.toNat + k.entry) }) (List.range base.sliceCount)

/-! ### Local queues (R115, R116) -/

/-- The partition whose queue an item stands in. -/
def State.itemPart (s : State) (i : QueueItem) : BitVec 16 := (s.ctxOf (s.conf.grid i.grid.toNat).ctx).part

/-- The item of a list that is lowest by grid, then block number. -/
def firstByGrid (l : List QueueItem) : Option QueueItem :=
  let key (i : QueueItem) : Nat := i.grid.toNat * 2 ^ 32 + i.number
  l.foldl (fun (b : Option QueueItem) i =>
    match b with
    | none => some i
    | some m => if key i < key m then some i else some m) none

/-- The head of a partition's queue: in class 1 the oldest, in class 2 the lowest by grid and block number, in class 3 the
oldest, since a record's blocks enter in the order of R115. -/
def State.headItem (s : State) (part : BitVec 16) : Option QueueItem :=
  let mine := s.disp.items.filter fun i => s.itemPart i == part
  let at_ (c : Nat) : List QueueItem := mine.filter fun i => i.cls == c
  match at_ 1 with
  | i :: _ => some i
  | [] => (firstByGrid (at_ 2)).or (at_ 3).head?

/-- Remove an item. -/
def State.dropItem (s : State) (i : QueueItem) : State :=
  { s with disp := { s.disp with items := s.disp.items.filter fun j => j != i } }

/-- Remove every new block of a grid from the local queues. -/
def State.dropGridItems (s : State) (grid : BitVec 16) : State :=
  { s with disp := { s.disp with items := s.disp.items.filter fun j => j.grid != grid } }

/-- The core for a block that needs some pool pages: the most free slots, ties at or after the rotation pointer. -/
def State.chooseCore (s : State) (part : BitVec 16) (pages : Nat) : Option Nat :=
  let ptr := Sparse.get 0 s.disp.rotation part.toNat
  let cores := s.partCores part
  let ring := cores.filter (fun c => decide (ptr ≤ c)) ++ cores.filter (fun c => decide (c < ptr))
  let free (c : Nat) : Nat := 16 - (s.coreBlocks c).length
  let fit := ring.filter fun c =>
    let k : Core := Sparse.get {} s.cores c
    decide (0 < free c) && decide (pages ≤ k.freePages)
  fit.foldl (fun (b : Option Nat) c =>
    match b with
    | none => some c
    | some d => if free d < free c then some c else some d) none

/-- Move a rotation pointer past the core chosen. -/
def State.rotate (s : State) (part : BitVec 16) (core : Nat) : State :=
  { s with disp := { s.disp with rotation := Sparse.set 0 s.disp.rotation part.toNat (core + 1) } }

/-- Take or return pool pages of a core. -/
def State.pages (s : State) (core : Nat) (f : Nat → Nat) : State :=
  let c := Sparse.get {} s.cores core
  { s with cores := Sparse.set {} s.cores core { c with freePages := f c.freePages } }

/-! ### Starting a block (R117) -/

/-- The bytes of a kernel's stash allocation (R114). -/
def Kernel.alloc (k : Kernel) : Nat := (k.stash + 16 * k.barriers + 4095) / 4096 * 4096

/-- Create the groups of a block in ascending number and enqueue them for activation. -/
def State.makeGroups (s : State) (k : Kernel) (row : GridRow) (item : QueueItem) (blk core : Nat) :
    List Nat → State × List Nat
  | [] => (s, [])
  | gid :: gids =>
    let g := s.freshGroup k row.kernel row.argument row.ctx blk item.grid (BitVec.ofNat 32 item.number) (BitVec.ofNat 32 gid)
      item.nominal core row.quota.toNat
    let r := s.createContext (dieOf core) g
    let t := State.makeGroups r.1 k row item blk core gids
    (t.1, r.2 :: t.2)

/-- Start a new block on a core. -/
def State.startBlock (s : State) (k : Kernel) (row : GridRow) (item : QueueItem) (part : BitVec 16) (core : Nat) : State :=
  let blk := s.disp.nextBlock
  let s := (s.rotate part core).pages core fun n => n - k.alloc / 4096
  let s := { s with disp := { s.disp with nextBlock := blk + 1 } }
  let r := s.makeGroups k row item blk core (List.range row.groups.toNat)
  let b : Block := { grid := item.grid, nominal := item.nominal, number := item.number, core := core, part := part,
                     pages := k.alloc / 4096, alloc := k.alloc, barriers := k.barriers, groups := r.2, started := true }
  let s := r.1.putBlock blk b
  let c : Core := Sparse.get {} s.cores core
  { s with cores := Sparse.set {} s.cores core { c with created := c.created ++ r.2 } }

/-- Start a dormant block again: its stash allocation stands before the groups that dormancy saved are queued as RELEASED
(R118). -/
def State.wakeBlock (s : State) (blk : Nat) (b : Block) (part : BitVec 16) (core : Nat) : State :=
  let s := (s.rotate part core).pages core fun n => n - b.pages
  let s := s.putBlock blk { b with core := core, dormant := false, wakeDue := false, slept := [] }
  b.groups.foldl (fun (s : State) h =>
    match s.group h with
    | none => s
    | some g =>
      if g.state = .saved ∧ b.slept.contains h then
        s.putGroup h ({ g with core := core, state := .released, savedFrom := .created }.flush (List.range g.sliceCount))
      else s.putGroup h { g with core := core }) s

/-- BLOCK_START (R116, R117): the head of a partition's queue starts, if its image is there and a core qualifies. A bad
image posts FAULT 0x0008, too large a stash FAULT 0x0005. The clean lines of the context's host-memory pages are discarded
first (11 R208 item 3). -/
def execBlockStart (part : BitVec 16) (s : State) : Res :=
  match s.headItem part with
  | none => .next s
  | some item =>
    match item.dormant with
    | some blk =>
      match s.block blk with
      | none => .next (s.dropItem item)
      | some b =>
        match s.chooseCore part b.pages with
        | none => .next s
        | some core => .next ((s.dropItem item).wakeBlock blk b part core)
    | none =>
      let row := s.conf.grid item.grid.toNat
      match s.image row.kernel row.ctx with
      | (s, .waiting) => .next s
      | (s, .bad) => .next ((s.dropGridItems item.grid).postFault item.grid item.nominal 0x0008)
      | (s, .kernel k) =>
        if 2621440 < k.alloc then .next ((s.dropGridItems item.grid).postFault item.grid item.nominal 0x0005)
        else
          match s.chooseCore part (k.alloc / 4096) with
          | none => .next s
          | some core => .next (((s.dropItem item).discardHost row.ctx).startBlock k row item part core)

/-! ### Release and end of a row's blocks (R119, R120) -/

/-- The key of a placement row. -/
def rowKey (grid : BitVec 16) (nominal : BitVec 12) : Nat := grid.toNat * 4096 + nominal.toNat

/-- Post RELEASE or FINISH kind 0 for a row when it is due. -/
def State.rowEvents (s : State) (grid : BitVec 16) (nominal : BitVec 12) : State :=
  let row := s.conf.place grid.toNat nominal.toNat
  let total := row.count.toNat
  let ended := Sparse.get 0 s.disp.ended (rowKey grid nominal)
  let rel := Sparse.get 0 s.disp.relCount (rowKey grid nominal)
  if ended = total then
    if s.disp.postedFinish.contains (grid, nominal) then s
    else
      let s := s.post (s.record 0x02 0 (rowPayload grid nominal 0))
      { s with disp := { s.disp with postedFinish := s.disp.postedFinish ++ [(grid, nominal)] } }
  else if rel = total ∧ !row.released ∧ !s.disp.postedRelease.contains (grid, nominal) then
    let s := s.post (s.record 0x05 0 (rowPayload grid nominal 0))
    { s with disp := { s.disp with postedRelease := s.disp.postedRelease ++ [(grid, nominal)] } }
  else s

/-- A block is released. -/
def State.releaseBlock (s : State) (blk : Nat) : State :=
  match s.block blk with
  | none => s
  | some b =>
    if b.released then s
    else
      let k := rowKey b.grid b.nominal
      let s := s.putBlock blk { b with released := true }
      { s with disp := { s.disp with relCount := Sparse.set 0 s.disp.relCount k (Sparse.get 0 s.disp.relCount k + 1) } }

/-- A group that the chip no longer holds: it leaves its core's slots, tiles and queues, and its object is freed. -/
def State.dropGroup (s : State) (h : Nat) : State :=
  match s.group h with
  | none => s
  | some g =>
    let c := Sparse.get {} s.cores g.core
    let c := c.leave h []
    let drop (l : List Nat) : List Nat := l.filter fun k => k != h
    let c := { c with released := drop c.released, tasks := drop c.tasks, created := drop c.created }
    ({ s with cores := Sparse.set {} s.cores g.core c } : State).freeContext h

/-- The commands of a block, by handle. -/
def State.blockCommands (s : State) (blk : Nat) : List Nat :=
  s.cmds.filterMap fun e => match e.2 with
    | none => none
    | some c => if c.block == blk then some e.1 else none

/-- Write back the dirty lines of a block's mapped regions: `false` when a page fault, or a publish, left one behind. -/
def State.flushRegions (s : State) (blk : Nat) : State × Bool :=
  match s.block blk with
  | none => (s, true)
  | some b =>
    let work := b.regions.flatMap fun r => (b.linesOf r).map fun l => (l, r)
    work.foldl (fun (a : State × Bool) e =>
      let filler := ((Sparse.get none b.lines e.1).map StashLine.filler).getD 0
      match a.1.group filler with
      | none => a
      | some g =>
        let r := a.1.flushLine blk e.1 e.2 (a.1.groupReq filler g 2)
        (r.1, a.2 && r.2 == .done)) (s, true)

/-- Remove a block that ended or was aborted: its pages, its slot and its groups. The RESUME that it owes after a BLOCK of its
own stays due (R118). -/
def State.removeBlock (s : State) (blk : Nat) (b : Block) : State :=
  let s := b.groups.foldl (fun (s : State) h => s.dropGroup h) s
  let s := if b.dormant then s else s.pages b.core fun n => n + b.pages
  let due : List ResumeDue :=
    if b.resumes = 0 then []
    else [{ grid := b.grid, nominal := b.nominal, number := b.number, resumes := b.resumes }]
  { s with disp := { s.disp with blocks := Sparse.set none s.disp.blocks blk none,
                                 items := s.disp.items.filter fun i => i.dormant != some blk,
                                 resumeDue := s.disp.resumeDue ++ due } }

/-- BLOCK_END (R119): every group has executed EXIT, every command has completed and the mapped regions are written back. -/
def execBlockEnd (blk : Nat) (s : State) : Res :=
  match s.block blk with
  | none => .next s
  | some b =>
    let exited := b.groups.all fun h => ((s.group h).map fun g => decide (g.state = .done)).getD false
    if !exited || !b.started || s.blockCommands blk != [] then .next s
    else
      match s.flushRegions blk with
      | (s, false) => .next s
      | (s, true) =>
        let s := s.releaseBlock blk
        let k := rowKey b.grid b.nominal
        let s := (s.removeBlock blk b)
        let s := { s with disp := { s.disp with ended := Sparse.set 0 s.disp.ended k (Sparse.get 0 s.disp.ended k + 1) } }
        .next (s.rowEvents b.grid b.nominal)

/-! ### Abort (R120) -/

/-- Discard the packets of a command that still wait in the gateway: those that carry a tag which it awaits. -/
def State.dropUnsent (s : State) (c : Command) : State :=
  let mine (p : Packet) : Bool := [0x01, 0x02, 0x03, 0x04, 0x18, 0x1C].contains p.opcode.toNat && c.awaiting.any fun a => a.tag == p.tag
  { s with fab := { s.fab with
      tx := s.fab.tx.map fun e => (e.1, { e.2 with queue := e.2.queue.filter fun p => !mine p })
      loose := s.fab.loose.filter fun p => !mine p } }

/-- Discard the commands of a block, with what they have still to send (R120); the tiles they held are free. -/
def State.dropCommands (s : State) (blk : Nat) : State :=
  (s.blockCommands blk).foldl (fun (s : State) k =>
    match s.command k with
    | none => s
    | some c =>
      let s := s.dropUnsent c
      let core := Sparse.get {} s.cores c.req.core
      { s with cmds := Sparse.set none s.cmds k none,
               cores := Sparse.set {} s.cores c.req.core { core with
                 tileOwner := Sparse.setAll none core.tileOwner (c.frees.map fun t => (t, none)) } }) s

/-- Abort a block: its groups stop, requests and commands are discarded, and its pages are freed without write-back. -/
def State.abortBlock (s : State) (blk : Nat) : State :=
  match s.block blk with
  | none => s
  | some b => (s.dropCommands blk).removeBlock blk b

/-- Whether this chip still runs the row of a block or item. -/
def State.enacts (s : State) (grid : BitVec 16) (nominal : BitVec 12) : Bool :=
  let p := s.conf.place grid.toNat nominal.toNat
  (s.conf.chip s.fab.self.toNat).state == .live && (s.conf.grid grid.toNat).state == .placed && p.placed && !p.finished
    && !p.unplaced && p.enacting == s.fab.self

/-- A chip that leaves LIVE aborts the task block of every core, its groups with their commands, and discards its task queues. -/
def State.loseTaskWork (s : State) : State :=
  let s := s.groups.foldl (fun (s : State) e =>
    match s.group e.1 with
    | none => s
    | some g =>
      if !g.task then s
      else (({ s with cmds := s.cmds.filter fun c => (c.2.map Command.group) != some e.1 } : State).dropGroup e.1)) s
  { s with cores := Sparse.setAll {} s.cores (s.cores.map fun e => (e.1, { e.2 with taskQueue := [] }))
           fw := { s.fw with mirrors := [] } }

/-- After a record: abort the blocks, and drop the queued blocks, of rows that this chip no longer runs. A chip that leaves LIVE
in its tables also loses its tasks. -/
def State.abortLost (s : State) (old : Tables) : State :=
  let lost := s.disp.blocks.filterMap fun e => match e.2 with
    | none => none
    | some b => if decide (160 ≤ b.core) || s.enacts b.grid b.nominal then none else some e.1
  let s := lost.foldl (fun (s : State) k => s.abortBlock k) s
  let s := { s with disp := { s.disp with
    items := s.disp.items.filter fun i => s.enacts i.grid i.nominal
    resumeDue := s.disp.resumeDue.filter fun d => s.enacts d.grid d.nominal } }
  if (old.chip s.fab.self.toNat).state == .live && (s.conf.chip s.fab.self.toNat).state != .live then s.loseTaskWork else s

/-- The blocks of a row (R115). -/
def rowBlocks (g : GridRow) (p : PlaceRow) : List Nat :=
  (List.range p.count.toNat).map fun j => p.first.toNat + j * (g.width.toNat * g.height.toNat)

/-- Enqueue the blocks of the rows that a record placed or re-placed on this chip (R115): class 3. What was posted for the
row before is forgotten. -/
def State.enact (s : State) (old : Tables) : State :=
  let had (g c : Nat) : Bool :=
    let p := old.place g c
    (old.grid g).state == .placed && p.placed && !p.unplaced && p.enacting == s.fab.self
  let rows := s.conf.places.filter fun e =>
    s.enacts (BitVec.ofNat 16 (e.1 / 4096)) (BitVec.ofNat 12 (e.1 % 4096)) && !had (e.1 / 4096) (e.1 % 4096)
  rows.foldl (fun (s : State) e =>
    let g := BitVec.ofNat 16 (e.1 / 4096)
    let c := BitVec.ofNat 12 (e.1 % 4096)
    let new := (rowBlocks (s.conf.grid g.toNat) e.2).map fun n =>
      { cls := 3, grid := g, nominal := c, number := n, dormant := none : QueueItem }
    { s with disp := { s.disp with
        items := s.disp.items ++ new
        ended := Sparse.set 0 s.disp.ended e.1 0
        relCount := Sparse.set 0 s.disp.relCount e.1 0
        postedRelease := s.disp.postedRelease.filter fun k => k != (g, c)
        postedFinish := s.disp.postedFinish.filter fun k => k != (g, c)
        postedFault := s.disp.postedFault.filter fun k => k != g
        resumeDue := s.disp.resumeDue.filter fun d => !(d.grid == g && d.nominal == c) } }) s

/-! ### Dormant blocks (R118) -/

/-- Whether a slice is parked at GATE, or at a WAIT on a word that another chip homes. -/
def State.farParked (s : State) (g : Group) (i : Nat) : Bool :=
  let sl := g.slice i
  sl.park == .gate || (sl.park == .wait && g.waits.any fun w =>
    w.slices.contains i && !w.cap.isStash && w.cap.home != s.fab.self)

/-- Whether every group of a block is parked so, counting those that exited. -/
def State.blockParked (s : State) (b : Block) : Bool :=
  b.started && !b.dormant && b.groups.any (fun h => ((s.group h).map fun g => decide (g.state ≠ .done)).getD false)
    && b.groups.all fun h => match s.group h with
      | none => true
      | some g => decide (g.state ≠ .created) && decide (g.state ≠ .halted) && g.live.all fun i => s.farParked g i

/-- Keep, for every block, since when it is parked without interruption. -/
def State.trackParks (s : State) : State :=
  s.disp.blocks.foldl (fun (s : State) e =>
    match e.2 with
    | none => s
    | some b =>
      let now := if s.blockParked b then some (b.parkedSince.getD (s.tickOf (dieOf b.core))) else none
      if now = b.parkedSince then s else s.putBlock e.1 { b with parkedSince := now }) s

/-- Whether a command writes the block's stash, its completion signal included, or names its barriers (09 R159 step 3; 19 R343
item 5). -/
def Command.touchesStash (c : Command) : Bool :=
  c.count.isSome || (c.remoteCount.map fun r => r.1 == c.block).getD false || (c.signal.map Cap.isStash).getD false
    || c.writes.any (fun p => p.cap.isStash && p.blk == c.block)
    || (c.steps.any fun m => match m with
      | .store _ _ _ _ _ cap _ _ _ => cap.isStash
      | _ => false)
    || (match c.work with
      | .reduce dst _ _ _ _ _ _ _ => dst.isStash
      | _ => false)

/-- Whether a group's commands let it be saved: those that write the block's stash, name its barriers or use the tile of a
bound handle have completed (09 R159 step 3; 18 R331). -/
def State.commandsLet (s : State) (h : Nat) (g : Group) : Bool :=
  s.cmds.all fun e => match e.2 with
    | none => true
    | some c => c.group != h || !(c.touchesStash || c.tiles.any fun t => !c.frees.contains t && g.handle.any fun a => a.2 == some t)

/-- Save a group (09 R159 step 4): it leaves its core, with its lines, header and tiles in its object, and is SAVED. With
`stay` its lines stay in the cache and the spill area (R161). The flag is false when a page faulted. -/
def State.saveGroup (s : State) (h : Nat) (stay : Bool) : State × Bool :=
  match s.group h with
  | none => (s, true)
  | some g =>
    let c := Sparse.get {} s.cores g.core
    if g.state = .resident ∨ g.state = .idle then
      if stay then
        let tiles := g.handle.flatMap fun e => g.tileLines e.1
        match s.mayStore h g tiles with
        | some t => (t, false)
        | none =>
          let g := (s.saveTiles g (s.idleHandles h g)).markRegions tiles
          let s := ({ s with cores := Sparse.set {} s.cores g.core (c.leave h (s.busyTiles h)) } : State).storeLines h g tiles
          (s.putGroup h { g with savedFrom := g.state, state := .saved, lazy := true }, true)
      else s.leaveCore h { g with savedFrom := g.state } .saved
    else if g.state = .out ∨ g.state = .released ∨ g.state = .created then
      let drop (l : List Nat) : List Nat := l.filter fun k => k != h
      match s.mayStore h g [0] with
      | some t => (t, false)
      | none =>
        let s := { s with cores := Sparse.set {} s.cores g.core { c with
          released := drop c.released, tasks := drop c.tasks, created := drop c.created } }
        (s.storeHeader h { g with savedFrom := g.state, state := .saved }, true)
    else (s, true)

/-- The payload of BLOCK and RESUME names the block. -/
def Block.event (b : Block) : Nat := rowPayload b.grid b.nominal b.number

/-- The groups of a block that a save has still to write out, with what they are to write. -/
def State.toSave (s : State) (b : Block) : List (Nat × Group) :=
  b.groups.filterMap fun h => match s.group h with
    | none => none
    | some g => if g.state = .done ∨ g.state = .saved then none else some (h, g)

/-- DORMANCY (R118): after 10,000 ticks the block's groups are saved, its stash is written out, its pages and its slot are
free, and BLOCK is posted. -/
def execDormancy (blk : Nat) (s : State) : Res :=
  match s.block blk with
  | none => .next s
  | some b =>
    let due := match b.parkedSince with
      | none => false
      | some t => decide (10000 ≤ (s.tickOf (dieOf b.core) - t).toNat)
    let todo := s.toSave b
    if !due || !s.blockParked b || todo.any (fun e => !s.commandsLet e.1 e.2) then .next s
    else
      match todo.findSome? fun e => s.mayStore e.1 e.2 (s.leaveLines e.1 e.2) with
      | some t => .next t
      | none =>
        match s.flushRegions blk with
        | (s, false) => .next s
        | (s, true) =>
          let b := (s.block blk).getD b
          let s := todo.foldl (fun (s : State) e => (s.saveGroup e.1 false).1) s
          let s := s.pages b.core fun n => n + b.pages
          let s := s.putBlock blk { b with dormant := true, wakeDue := false, unapplied := b.unapplied + 1, slept := todo.map Prod.fst,
                                           parkedSince := none, lines := [] }
          .next (s.post (s.record 0x03 0 b.event))

/-- The wait of a dormant block has ended: it enters class 1, and RESUME follows its own BLOCK (DEDUCED, log 84). -/
def State.wakeDormant (s : State) (blk : Nat) : State :=
  match s.block blk with
  | none => s
  | some b =>
    if !b.dormant || b.wakeDue then s
    else
      let owes := decide (b.unapplied ≠ 0)
      let s := s.putBlock blk { b with wakeDue := true, resumes := b.resumes + (if owes then 1 else 0) }
      let item : QueueItem := { cls := 1, grid := b.grid, nominal := b.nominal, number := b.number, dormant := some blk }
      let s := { s with disp := { s.disp with items := s.disp.items ++ [item] } }
      if owes then s else s.post (s.record 0x04 0 b.event)

/-- A BLOCK of a block that is gone was applied: the RESUME that waited for it is due. -/
def ResumeDue.applied (d : ResumeDue) : List ResumeDue :=
  if d.resumes ≤ 1 then [] else [{ d with resumes := d.resumes - 1 }]

/-- The chip applies its own BLOCK: a RESUME that waits for it is posted, though the block may run again, or be gone, by now; for
a row whose FINISH kind 0 was posted none is (R120). -/
def State.appliedBlock (s : State) (r : CurRec) : State :=
  let g : BitVec 16 := BitVec.ofNat 16 (bits (recWord r 0) 15 0)
  let c : BitVec 12 := BitVec.ofNat 12 (bits (recWord r 0) 27 16)
  let n := bits (recWord r 0) 63 32
  match s.disp.resumeDue.find? fun d => d.grid == g && d.nominal == c && d.number == n with
  | some d =>
    let s := { s with disp := { s.disp with
      resumeDue := s.disp.resumeDue.flatMap fun e => if e = d then e.applied else [e] } }
    if s.disp.postedFinish.contains (g, c) then s else s.post (s.record 0x04 0 (rowPayload g c n))
  | none =>
  match s.disp.blocks.find? fun e => match e.2 with
    | none => false
    | some b => b.grid == g && b.nominal == c && b.number == n && b.unapplied != 0 with
  | some (k, some b) =>
    let s := s.putBlock k { b with unapplied := b.unapplied - 1, resumes := b.resumes - 1 }
    if b.resumes ≠ 0 then s.post (s.record 0x04 0 b.event) else s
  | _ => s

/-! ### Task groups (R122-R124) -/

/-- The core that a record hashes to (R123). -/
def State.taskCore (s : State) (ctx : BitVec 20) (c : Cap) (off : W64) : Option Nat :=
  let o := c.object.toNat
  let f := (c.base.toNat + off.toNat) % 2 ^ 40
  let h : BitVec 32 := BitVec.ofNat 32 (o * 0x9E3779B1) ^^^ BitVec.ofNat 32 (f / 4096 * 0x85EBCA77)
  let h := h ^^^ (h >>> 16)
  let cores := s.partCores (s.ctxOf ctx).part
  if cores = [] then none else cores[h.toNat % cores.length]?

/-- Whether two records go to one group. -/
def TaskRec.joins (a b : TaskRec) : Bool := a.kernel == b.kernel && a.ctx == b.ctx && a.cap == b.cap

/-- A task group from records, one for each visible lane (DESIGN CHOICE, log 24; DEDUCED, log 25). -/
def State.taskGroup (s : State) (k : Kernel) (core : Nat) (number : BitVec 32) (rs : List TaskRec) : Group :=
  let r0 : TaskRec := rs.headD { kernel := 0, ctx := 0, cap := {}, offset := 0, args := [], tick := 0 }
  let g := s.freshGroup k r0.kernel 0 r0.ctx 0 0xFFFF 0xFFFFFFFF number s.fab.self core k.quota
  let lanes := (List.range k.width).flatMap fun p =>
    let l := if k.prot then p / 2 else p
    match rs[l]? with
    | none => [(p, 0), (128 + p, if Config.taskLaneNumber then BitVec.ofNat 32 l else 0)]
    | some r =>
      [(p, r.offset.setWidth 32), (128 + p, if Config.taskLaneNumber then BitVec.ofNat 32 l else r.offset.extractLsb' 32 32)]
        ++ (List.range 8).map fun j => ((2 + j) * 128 + p, r.args.getD j 0)
  { g with task := true, v := Sparse.setAll 0 [] lanes, c := Sparse.setAll {} [] [(0, r0.cap)],
           s := Sparse.setAll 0 [] (tripleWords (lowLanes rs.length)) }

/-- Remove the first n records that join a record. -/
def takeJoining (r : TaskRec) : Nat → List TaskRec → List TaskRec
  | 0, q => q
  | _ + 1, [] => []
  | n + 1, x :: q => if x.joins r then takeJoining r n q else x :: takeJoining r (n + 1) q

/-- The gangs that wait at the POST park try again: a path may have room (R123, 08 R138). -/
def State.wakePosts (s : State) : State :=
  s.groups.foldl (fun (s : State) e => match e.2 with
    | none => s
    | some g =>
      if g.live.any fun i => (g.slice i).park == .post then
        s.putGroup e.1 (g.mapSlices (fun _ sl => if sl.park = .post then sl.ready else sl) g.live)
      else s) s

/-- Set the task queue of a core, and its copy on the mirror die, which a chip with one running die does not keep (R123). -/
def State.setTasks (s : State) (core : Nat) (q : List TaskRec) : State :=
  let c := Sparse.get {} s.cores core
  let one := decide (((List.range 4).filter s.dieRuns).length ≤ 1)
  { s with cores := Sparse.set {} s.cores core { c with taskQueue := q }
           fw := { s.fw with mirrors := Sparse.set [] s.fw.mirrors core (if one then [] else q) } }

/-- Start a task group on a core from the first n records that join a record. -/
def State.startTask (s : State) (core : Nat) (k : Kernel) (r : TaskRec) (n : Nat) : State :=
  let c := Sparse.get {} s.cores core
  let rs := (c.taskQueue.filter fun x => x.joins r).take n
  let g := s.taskGroup k core c.taskCount rs
  let t := s.createContext (dieOf core) g
  let c := Sparse.get {} t.1.cores core
  let s := (t.1.setTasks core (takeJoining r n c.taskQueue)).wakePosts
  let c := Sparse.get {} s.cores core
  { s with cores := Sparse.set {} s.cores core { c with taskCount := c.taskCount + 1, tasks := c.tasks ++ [t.2] } }

/-- Refuse a task kernel: its records are discarded with error record 0x0701 (DEDUCED, log 35). -/
def State.refuseTask (s : State) (core : Nat) (r : TaskRec) : State :=
  let c := Sparse.get {} s.cores core
  let s := (s.setTasks core (c.taskQueue.filter fun x => !(x.kernel == r.kernel && x.ctx == r.ctx))).wakePosts
  s.contain (dieOf core) 0x0701 2 8 5 core none 0xFFFF 0xFFFF r.ctx.toNat 0 0 0 0

/-- Form at most one task group, over the candidate records in arrival order (DEDUCED, log 25). -/
def State.formTask (s : State) (core : Nat) : List TaskRec → State
  | [] => s
  | r :: rs =>
    match s.image r.kernel r.ctx with
    | (s, .waiting) => State.formTask s core rs
    | (s, .bad) => s.refuseTask core r
    | (s, .kernel k) =>
      if !k.task || k.stash != 0 || k.barriers != 0 then s.refuseTask core r
      else
        let c := Sparse.get {} s.cores core
        let w := if k.prot then k.width / 2 else k.width
        let n := (c.taskQueue.filter fun x => x.joins r).length
        if w ≤ n then s.startTask core k r w
        else if 1000 ≤ (s.tickOf (dieOf core) - r.tick).toNat then s.startTask core k r n
        else State.formTask s core rs

/-- The first record of each group that a queue would form. -/
def firstJoining : List TaskRec → List TaskRec
  | [] => []
  | r :: q => r :: (firstJoining q).filter fun x => !x.joins r

/-- Whether a task group has exited or halted: it is discarded (R124). -/
def Group.taskOver (g : Group) : Bool := g.task && (g.state == .done || g.state == .halted)

/-- Discard the task groups that have exited, with their context objects, and those that have halted, with their commands
too (R124). -/
def State.dropTasks (s : State) : State :=
  s.groups.foldl (fun (s : State) e =>
    match s.group e.1 with
    | none => s
    | some g =>
      if !g.taskOver then s
      else
        let s := if g.state = .done then s else { s with cmds := s.cmds.filter fun c => (c.2.map Command.group) != some e.1 }
        s.dropGroup e.1) s

/-- Whether a task group is to be discarded. -/
def State.tasksOver (s : State) : Bool := s.groups.any fun e => (e.2.map Group.taskOver).getD false

end Sys2Proof.Machine
end

