-- ==== Sys2Proof/Machine/Graph.lean ====
section
/-! DEFINITION. Graph objects as this chip holds them (06 R111, R112), and the SUBMIT payload (05 R83). -/

namespace Sys2Proof.Machine

/-- The bytes of this chip's copy of an object; a byte that cannot be read counts as zero. -/
def State.objectBytes (s : State) (o : BitVec 28) : List Byte :=
  let t := s.objEntry o
  if !t.valid then []
  else
    (List.range (t.last + 1)).map fun i =>
      match s.plainPage o i with
      | none => 0
      | some (w, _) => s.freshByte o i (leafFrame w)

/-- The graph digest (R111): the first 4 bytes of SHA-384 over the whole object (DEDUCED, log 33). -/
def State.graphDigest (s : State) (ref : W64) : BitVec 32 :=
  BitVec.ofNat 32 (leNat ((sha384 (s.objectBytes (refObject ref))).take 4))

/-- The nodes of a graph object: each node's initial predecessor count and successors. None for a malformed object. -/
def parseGraph (b : List Byte) : Option Graph :=
  let num (off n : Nat) : Nat := leNat ((b.drop off).take n)
  let n := num 4 2
  let total := num 8 4
  let node (j : Nat) : Nat × List Nat :=
    (num (0x30 + 64 * j) 4, (List.range (num (0x40 + 64 * j) 2)).map fun i =>
      num (0x10 + 64 * n + 2 * (num (0x3C + 64 * j) 4 + i)) 2)
  let nodes := (List.range n).map node
  let ok := num 0 4 == 0x4746594E && decide (1 ≤ n) && decide (n ≤ 4096) && num 6 2 == 0 && num 12 4 == 0
    && (List.range n).all (fun j => decide (num (0x3C + 64 * j) 4 + num (0x40 + 64 * j) 2 ≤ total)
      && num (0x42 + 64 * j) 14 == 0 && decide (num (0x30 + 64 * j) 4 ≤ 65535))
    && nodes.all fun e => e.2.all fun k => decide (k < n)
  if ok then some { nodes := nodes } else none

/-- The object that a reference names, from the reference's offset. -/
def State.graphBytes (s : State) (ref : W64) : List Byte := (s.objectBytes (refObject ref)).drop (refOffset ref)

/-- The digest and the parsed graph of a reference. -/
def State.graphOf (s : State) (ref : W64) : BitVec 32 × Option Graph := (s.graphDigest ref, parseGraph (s.graphBytes ref))

/-- The successors of a node, in list order. -/
def State.successors (s : State) (ref : W64) (j : Nat) : List Nat :=
  match parseGraph (s.graphBytes ref) with
  | none => []
  | some g => ((g.nodes[j]?).map Prod.snd).getD []

/-! ### Packing a submit record (03 R50, 05 R83) -/

/-- Field of a 64-byte submit record: n bytes at an offset. -/
def subField (r : BitVec 512) (off n : Nat) : Nat := (r.toNat / 256 ^ off) % 256 ^ n

/-- The payload of a SUBMIT from a submit record, with its origin and graph digest. A queue number above 1,023 goes modulo 1,024
(DESIGN CHOICE, log 70). -/
def packSubmit (r : BitVec 512) (origin : Nat) (digest : BitVec 32) : Nat :=
  let f := subField r
  let w3 := (f 0x18 4 - 1) % 2 ^ 24 * 2 ^ 40 + (f 0x1C 1 - 1) % 64 * 2 ^ 34 + (f 0x1D 1 - 1) % 64 * 2 ^ 28
    + f 0x04 4 % 8 * 2 ^ 25 + f 0x02 2 % 1024 * 2 ^ 15 + origin * 2 ^ 12
  let w4 := f 0x1E 2 * 2 ^ 48 + (f 0x20 4 - 1) % 65536 * 2 ^ 32 + f 0x24 4
  f 0x08 8 + 2 ^ 64 * f 0x10 8 + 2 ^ 128 * f 0x28 8 + 2 ^ 192 * w3 + 2 ^ 256 * w4 + 2 ^ 320 * f 0x30 4
    + 2 ^ 352 * digest.toNat

/-- The type, the reserved fields and the four ranges of R49. -/
def submitWellFormed (r : BitVec 512) : Bool :=
  let f := subField r
  f 0 2 == 1 && decide (f 0x04 4 < 8) && f 0x34 12 == 0 && decide (1 ≤ f 0x18 4) && decide (f 0x18 4 ≤ 2 ^ 24)
    && decide (1 ≤ f 0x1C 1) && decide (f 0x1C 1 ≤ 64) && decide (1 ≤ f 0x1D 1) && decide (f 0x1D 1 ≤ 64)
    && decide (1 ≤ f 0x20 4) && decide (f 0x20 4 ≤ 65536)

/-- The digest that a submit carries: that of the graph object when flag [2] is set. -/
def State.submitDigest (s : State) (r : BitVec 512) : BitVec 32 :=
  if (subField r 0x04 4).testBit 2 then s.graphDigest (BitVec.ofNat 64 (subField r 0x08 8)) else 0

/-- Whether a context accepts submits (04 R69) (DESIGN CHOICE, log 70). -/
def Descriptor.accepts (d : Descriptor) : Bool := d.state == .open && (!d.prot || d.gen != 0)

end Sys2Proof.Machine
end

