-- ==== Sys2Proof/Machine/Engines.lean ====
section
/-! DEFINITION. The engine and launch instructions (19 R340-R355): copies, collectives, publish, messages, POST, LAUNCH, GATE,
RLSE, BCLOSE, WAITB and ARM, and the completion of engine commands (R345, R347, R352). -/

namespace Sys2Proof.Machine

/-! ### Tests before issue (R343) -/

/-- A capability that a command names: the rights it needs and the range (offset, length) it must hold. -/
structure Named where
  cap : Cap
  rights : BitVec 8
  off : Nat
  len : Nat
  deriving DecidableEq, Repr

/-- Whether a named range lies in its capability, and for a stash capability in the allocation. -/
def Named.inside (n : Named) (alloc : Option Nat) : Bool :=
  decide (n.off + n.len ≤ n.cap.length.toNat) && (!n.cap.isStash || match alloc with
    | none => true
    | some a => decide (n.cap.base.toNat + n.off + n.len ≤ a))

/-- Rows 8-10 of 13 R230, each row over every capability named. -/
def namedFail (alloc : Option Nat) (ns : List Named) : Option Cause :=
  if ns.any fun n => !n.cap.tag then some .captag
  else if ns.any fun n => !n.cap.has n.rights then some .capright
  else if ns.any fun n => !n.inside alloc then some .capbound
  else none

/-- Run a command's tests in order, then issue. -/
def State.tested (s : State) (g : Group) (sig : Option Cap) (fail : Option Cause) (operandOk : Bool) (k : Res) : Res :=
  let misaligned := match sig with
    | none => false
    | some c => c.base.toNat % 8 != 0
  if misaligned then s.trapHere g .align
  else
    match fail with
    | some c => s.trapHere g c
    | none => if operandOk then k else s.trapHere g .operand

/-- A range of a command. -/
def spanOf (c : Cap) (blk off len : Nat) (shadow : Bool) : Span :=
  { cap := c, blk := blk, off := c.base.toNat + off, len := len, pos := 0, shadow := shadow }

/-- The spans of a range: none when it is empty. -/
def spansOf (c : Cap) (blk off len : Nat) (shadow : Bool) : List Span :=
  if len = 0 then [] else [spanOf c blk off len shadow]

/-- The chip that a place names (02 R26). -/
def State.placeChip (s : State) (g : Group) (dx dy : BitVec 6) : BitVec 12 :=
  let x := (BitVec.ofNat 6 (g.nominal.toNat % 64) + dx).toNat
  let y := (BitVec.ofNat 6 (g.nominal.toNat / 64) + dy).toNat
  let c := 64 * y + x
  let p := s.conf.place g.grid.toNat c
  if !g.task && p.replaced then p.enacting else BitVec.ofNat 12 c

/-- The stash that CPY.R mode 1 writes: the lowest-numbered block of the grid that holds a slot on the core (R345). -/
def State.peerBlock (s : State) (g : Group) (dcore : BitVec 8) : Option (Nat × Block) :=
  let cores := s.userCores
  let i := ((List.range cores.length).find? fun j => cores.getD j 0 == g.core).getD 0
  let j := ((i : Int) + dcore.toInt) % (cores.length : Int)
  match cores[j.toNat]? with
  | none => none
  | some c =>
    ((s.coreBlocks c).filter fun e => e.2.grid == g.grid && e.2.started && !g.task).foldl
      (fun (b : Option (Nat × Block)) e => match b with
        | none => some e
        | some m => if e.2.number < m.2.number then some e else some m) none

/-! ### Copies (R344, R345) -/

/-- CPY and CPY.R: `remote` tells which. -/
def State.copy (s : State) (y remote : Bool) (d a b : Fld) : Res :=
  s.issue fun g => s.need g (decide (b.toNat ≤ 124)) (
    let v0 := g.rs b.toNat
    let v1 := g.rs (b.toNat + 1)
    let v2 := g.rs (b.toNat + 2)
    let v3 := g.rs (b.toNat + 3)
    let len := bits v0 39 0
    let src := g.rc a.toNat
    let dst := g.rc d.toNat
    let sig := if v3.getLsbD 26 then some (g.rc (bits v3 31 27)) else none
    let mode := bits v3 63 62
    let alloc := some (s.allocOf g)
    let named : List Named := [⟨src, rR ||| rE, bits v2 39 0, len⟩]
    let target : Named := ⟨dst, rW ||| rE, bits v1 39 0, len⟩
    let sigs : List Named := match sig with
      | none => []
      | some c => [⟨c, rW ||| rE, 0, 8⟩]
    let free := decide (remote = true ∧ mode = 1)
    let ns := named ++ target :: sigs
    let fail := match namedFail none ns with
      | some c => some c
      | none => namedFail alloc (named ++ (if free then [] else [target]) ++ sigs)
    let chip := if remote && mode == 0 then s.placeChip g (v3.extractLsb' 50 6) (v3.extractLsb' 56 6) else dst.home
    let counts := v3.getLsbD 23 || v3.getLsbD 25
    let count := s.countField g counts (bits v3 21 16)
    let reserved := bits v0 63 40 != 0 || bits v1 63 40 != 0 || bits v2 63 40 != 0 || bits v3 49 32 != 0 || v3.getLsbD 22
      || bits v3 15 0 != 0
    let modeBad := decide (2 ≤ mode) || (!remote && (mode != 0 || bits v3 61 50 != 0))
      || (remote && mode == 0 && dst.isStash) || (remote && mode == 1 && (!dst.isStash || bits v3 61 58 != 0))
    let shadowBad := v3.getLsbD 24 && (dst.isStash || chip != s.fab.self)
    let ok := !reserved && !modeBad && !(v3.getLsbD 25 && mode != 1) && !shadowBad && count.isSome
    s.tested g sig fail ok (
      let peer := if free then s.peerBlock g (v3.extractLsb' 50 8) else none
      let blk := if free then (peer.map Prod.fst).getD 0 else g.block
      let there := !free || match peer with
        | none => false
        | some p => decide (dst.base.toNat + bits v1 39 0 + len ≤ p.2.alloc)
      let dst := { dst with home := chip }
      let barrier := (count.getD none).getD 0
      let c := s.newCommand s.cursor.group g (.copy (src.has rLC && dst.has rSC))
      s.issueIf g y { c with
        reads := spansOf src g.block (bits v2 39 0) len false
        writes := if there then spansOf dst blk (bits v1 39 0) len (v3.getLsbD 24) else []
        status := if there then 0 else 5
        count := if v3.getLsbD 23 then some barrier else none
        remoteCount := if v3.getLsbD 25 && there then some (blk, barrier) else none
        signal := sig } id))

/-- CPY (R344). -/
def execCpy (y : Bool) (d a b : Fld) (s : State) : Res :=
  s.copy y false d a b

/-- CPY.R (R344, R345). -/
def execCpyR (y : Bool) (d a b : Fld) (s : State) : Res :=
  s.copy y true d a b

/-! ### Collectives (R346, R347) -/

/-- Whether an operation and type pair stands in 02 R42. -/
def reduceOk (op ty : Nat) : Bool :=
  if 1 ≤ op ∧ op ≤ 3 then [0x02, 0x04, 0x12, 0x16].contains ty
  else if 4 ≤ op ∧ op ≤ 6 then [0x16, 0x17].contains ty else false

/-- The element size of a reduction type. -/
def reduceSize (ty : Nat) : Nat := if ty = 0x04 then 2 else if ty = 0x17 then 8 else 4

/-- COLL (R346). -/
def execColl (y : Bool) (d a b : Fld) (s : State) : Res :=
  s.issue fun g => s.need g (decide (b.toNat ≤ 124)) (
    let v0 := g.rs b.toNat
    let v1 := g.rs (b.toNat + 1)
    let v2 := g.rs (b.toNat + 2)
    let v3 := g.rs (b.toNat + 3)
    let kind := bits v3 63 62
    let len := bits v0 31 0
    let src := g.rc a.toNat
    let dst := g.rc d.toNat
    let op := bits v3 25 18
    let ty := bits v3 17 13
    let fail := namedFail (some (s.allocOf g)) [⟨src, rR ||| rE, bits v2 39 0, len⟩, ⟨dst, rW ||| rE, bits v1 39 0, len⟩]
    let count := s.countField g (v3.getLsbD 12) (bits v3 11 6)
    let fields := bits v1 63 40 == 0 && bits v2 63 40 == 0 && bits v3 5 0 == 0 && count.isSome
    let reduceFields := decide (len ≤ 65536) && reduceOk op ty && len % reduceSize ty == 0 && bits v0 63 32 != 0
    let mcastFields := decide (len ≤ 2 ^ 24) && bits v0 63 32 == 0 && bits v3 49 13 == 0 && !src.isStash && !dst.isStash
    let ok := fields && ((kind == 0 && reduceFields) || (kind == 1 && mcastFields))
    s.tested g none fail ok (
      let off := bits v1 39 0
      let work : CmdWork :=
        if kind = 0 then .reduce dst off (v3.extractLsb' 26 24) len (BitVec.ofNat 8 op) (BitVec.ofNat 8 ty)
          (v3.extractLsb' 50 12) (v0.extractLsb' 32 32)
        else .mcast (v3.extractLsb' 50 12) dst.object
      let c := s.newCommand s.cursor.group g work
      s.issueIf g y { c with
        reads := spansOf src g.block (bits v2 39 0) len false
        writes := if kind = 0 then [] else spansOf dst g.block off len false
        count := count.getD none } id))

/-! ### Publish and messages (R348-R350) -/

/-- PUB (R348). -/
def execPub (y : Bool) (a : Fld) (s : State) : Res :=
  s.issue fun g =>
    let c := g.rc a.toNat
    s.tested g none (namedFail none [⟨c, rP, 0, 0⟩]) (!c.isStash && c.home == s.fab.self) (
      let valid := (s.objEntry c.object).valid
      let cmd := s.newCommand s.cursor.group g (.publish c.object)
      s.issueIf g y { cmd with
        status := if !s.dieRuns (homeDie c.object) then 5 else if valid then 0 else 3
        ended := if s.dieRuns (homeDie c.object) && valid then none else some 0 } id)

/-- NSEND (R350). -/
def execNsend (y : Bool) (a b : Fld) (s : State) : Res :=
  s.issue fun g => s.need g (decide (b.toNat ≤ 124)) (
    let v0 := g.rs b.toNat
    let v1 := g.rs (b.toNat + 1)
    let v2 := g.rs (b.toNat + 2)
    let v3 := g.rs (b.toNat + 3)
    let src := g.rc a.toNat
    let len := bits v0 16 0
    let peer := bits v2 15 0
    let ok := bits v0 63 17 == 0 && decide (len ≤ 65536) && bits v1 63 40 == 0 && bits v2 63 16 == 0 && bits v3 63 32 == 0
      && Sparse.get none s.mem.peers peer == some g.ctx
    s.tested g none (namedFail (some (s.allocOf g)) [⟨src, rR ||| rE, bits v1 39 0, len⟩]) ok (
      let c := s.newCommand s.cursor.group g (.send peer (v3.setWidth 32) len)
      s.issueIf g y { c with reads := spansOf src g.block (bits v1 39 0) len false } id))

/-! ### Batches (R340, R342) -/

/-- BCLOSE (R340). -/
def execBclose (y : Bool) (d : Fld) (s : State) : Res :=
  s.issue fun g =>
    let g1 := g.writeS s.cursor.slices d.toNat (g.batch.openNum.setWidth 64)
    let g2 := { g1 with batch := g1.batch.close }
    let g3 := g2.goTo s.cursor.slices (s.cursor.pc + 4) y
    .next ((s.putGroup s.cursor.group g3).settleBatches s.cursor.group)

/-- Whether WAITB may name batch n: opened, counted back over at most 2^31 numbers. -/
def Batches.opened (b : Batches) (n : BitVec 32) : Bool :=
  let m := 2 ^ 32 - 1
  let back := (b.openNum.toNat + m - n.toNat) % m
  n != 0 && decide (1 ≤ back) && decide (back ≤ 2 ^ 31)

/-- WAITB (R342). An implicit switch point (DEDUCED, log 46). -/
def execWaitb (_y : Bool) (a : Fld) (s : State) : Res :=
  s.issue fun g => s.switchFirst g (
    let n : BitVec 32 := (g.rs a.toNat).setWidth 32
    if !g.batch.opened n then s.trapHere g .operand
    else
      match g.batch.find n with
      | some w => s.retire false (g.writeS s.cursor.slices a.toNat w)
      | none =>
        .next (s.putGroup s.cursor.group (g.mapSlices (fun _ sl =>
          { sl.parkAt .waitb n 0 with phase := BitVec.ofNat 16 a.toNat }) s.cursor.slices)))

/-! ### ARM (R351) -/

/-- The entry armed with a tag (DESIGN CHOICE, log 36). -/
def State.armed (s : State) (tag : BitVec 32) : Option (Nat × ArmEntry) :=
  (s.mem.arms.find? fun e => match e.2 with
    | none => false
    | some x => x.tag == tag).bind fun e => e.2.map fun x => (e.1, x)

/-- ARM (R351) (DESIGN CHOICE, log 36). -/
def execArm (y : Bool) (d a b : Fld) (s : State) : Res :=
  s.issue fun g => s.need g (decide (b.toNat ≤ 126)) (
    let v := g.rs b.toNat
    let v1 := g.rs (b.toNat + 1)
    let mode := bits v 45 44
    let c := g.rc a.toNat
    let slots := bits v 43 32
    let arming := decide (mode ≤ 1)
    let fail := if arming then namedFail none [⟨c, if mode = 1 then rR ||| rW ||| rE else rW ||| rE, 0, 0⟩] else none
    let ok := bits v 63 46 == 0 && mode != 3 && (if arming then
        decide (1 ≤ slots) && c.base.toNat % 65536 == 0 && decide (65536 * (1 + slots) ≤ c.length.toNat)
          && decide (c.base.toNat + c.length.toNat ≤ 2 ^ 28) && !c.isStash
      else bits v1 63 10 == 0)
    s.tested g none fail ok (
      let answer (s : State) (w : W64) : Res := s.retire y (g.writeS s.cursor.slices d.toNat w)
      let failed (n : Nat) : W64 := BitVec.ofNat 64 (2 ^ 63 + n)
      let put (k : Nat) (e : Option ArmEntry) : State :=
        { s with mem := { s.mem with arms := Sparse.set none s.mem.arms k e } }
      if arming then
        if (s.armed (v.setWidth 32)).isSome then answer s (failed 2)
        else
          match (List.range 1024).find? fun k => Sparse.get none s.mem.arms k == none with
          | none => answer s (failed 1)
          | some k =>
            answer (put k (some { tag := v.setWidth 32, ctx := g.ctx, fire := mode == 1, slots := slots, buffer := c,
                                  grant := g.grant })) (BitVec.ofNat 64 k)
      else
        let k := bits v1 9 0
        match Sparse.get none s.mem.arms k with
        | none => answer s (failed 3)
        | some e => if e.ctx == g.ctx then answer (put k none) (BitVec.ofNat 64 k) else answer s (failed 3)))

/-! ### POST (R353) -/

/-- The lanes that form records: every lane of Active(), one for each visible lane. -/
def Group.postLanes (g : Group) (slices : List Nat) : List Nat := (g.activeVis slices).map g.physLane

/-- The 64 bytes of a task record (07 R122). -/
def taskBytes (r : TaskRec) : List Byte :=
  leBytes 8 r.kernel.toNat ++ leBytes 16 (r.cap.toNat % 2 ^ 128) ++ leBytes 8 r.offset.toNat
    ++ (List.range 8).flatMap fun j => leBytes 4 (r.args.getD j 0).toNat

/-- The TASK packet of a record (02 R33, R34): the capability's tag travels in word 4. -/
def State.taskPacket (s : State) (g : Group) (r : TaskRec) : Packet :=
  let k := s.ctxOf g.ctx
  { Packet.zero with
    opcode := 0x05, dst := r.cap.home, src := s.fab.self, object := r.cap.object, context := g.ctx,
    offset := BitVec.ofNat 40 ((r.cap.base.toNat + r.offset.toNat) % 2 ^ 40 / 256 * 256),
    grantHome := (if grantUsable g.grant then g.grant.home else 0),
    grantObject := (if grantUsable g.grant then g.grant.object else 0),
    keyGen := (if k.prot then k.fabricGen else 0), core := BitVec.ofNat 8 g.core, release := true, scope := 1,
    mask := 3, flits := 1, capTags := (if r.cap.tag then 1 else 0), payload := taskBytes r }

/-- Queue a record at a core, or refuse it when the queue of 65,536 is full (DESIGN CHOICE, log 75). -/
def State.queueTask (s : State) (core : Nat) (r : TaskRec) : Option State :=
  let c : Core := Sparse.get {} s.cores core
  if 65536 ≤ c.taskQueue.length then none
  else
    let n := s.disp.arrivals
    some (({ s with disp := { s.disp with arrivals := n + 1 } } : State).setTasks core (c.taskQueue ++ [{ r with serial := n }]))

/-- Send one record; none when it cannot leave the core. A record for a partition without a running core here is lost. -/
def State.postOne (s : State) (g : Group) (r : TaskRec) : Option State :=
  if r.cap.home == s.fab.self then
    match s.taskCore r.ctx r.cap r.offset with
    | none => some s
    | some core => s.queueTask core { r with tick := s.tickOf (dieOf core) }
  else
    match s.pairFor (dieOf g.core) r.cap.home 0 with
    | none => some (s.noPlaneRecord (dieOf g.core) r.cap.home)
    | some k =>
      let s := s.takePlane (dieOf g.core) r.cap.home k.plane
      let w := s.txOf k
      if w.free then some (s.pump (dieOf g.core) k w (s.taskPacket g r)) else none

/-- Send the records of a gang in lane order; none when one of them cannot leave. -/
def State.postAll (s : State) (g : Group) : List TaskRec → Option State
  | [] => some s
  | r :: rs => (s.postOne g r).bind fun t => State.postAll t g rs

/-- POST (R353). While a record cannot leave, the gang takes the POST park and forms its records again. -/
def execPost (y : Bool) (d a b : Fld) (s : State) : Res :=
  s.issue fun g => s.need g (b.toNat % 2 == 0 && decide (b.toNat ≤ 118) && g.inWindow (b.toNat + 9)) (
    let c := g.rc a.toNat
    let lanes := g.postLanes s.cursor.slices
    let far := lanes.filter fun l => decide (c.length.toNat ≤ (g.rp b.toNat l).toNat)
    if !c.tag then s.trapHere g .captag
    else if !c.has rE then s.trapHere g .capright
    else if far ≠ [] then s.trapLanes g .capbound far
    else
      let recs : List TaskRec := lanes.map fun l =>
        { kernel := g.rs d.toNat, ctx := g.ctx, cap := c, offset := g.rp b.toNat l,
          args := (List.range 8).map fun j => g.rv (b.toNat + 2 + j) l, tick := 0 }
      match s.postAll g recs with
      | some t => t.retire y g
      | none => .next (s.putGroup s.cursor.group (g.mapSlices (fun _ sl => sl.parkAt .post 0 0) s.cursor.slices)))

/-! ### LAUNCH, GATE and RLSE (R354, R355) -/

/-- LAUNCH (R354). -/
def execLaunch (y : Bool) (d b : Fld) (s : State) : Res :=
  s.issue fun g => s.need g (decide (b.toNat ≤ 120)) (
    let r := BitVec.ofNat 512 ((List.range 8).foldl (fun n k => n + (g.rs (b.toNat + k)).toNat * 2 ^ (64 * k)) 0)
    let ok := submitWellFormed r && decide (subField r 2 2 ≤ 1023) && subField r 0x1E 2 != 0
    if !ok then s.trapHere g .operand
    else
      let c := s.newCommand s.cursor.group g .launch
      if 1024 ≤ s.outstanding s.cursor.group then .next s
      else
        let fin (g : Group) : Group := g.writeS s.cursor.slices d.toNat (g.batch.openNum.setWidth 64)
        if (s.ctxOf g.ctx).accepts then
          let rec_ := s.record 0x01 g.ctx (packSubmit r 1 (s.submitDigest r))
          let t := s.post rec_
          let t := { t with disp := { t.disp with launches := t.disp.launches ++ [(t.nextCmd, rec_)] } }
          t.issueIf g y c fin
        else s.issueIf g y { c with status := 0x10, ended := some 0 } fin)

/-- GATE (R355). An implicit switch point: the gang parks while the grid's gate is closed; a faulted predecessor ends it
(DEDUCED, log 34, 46). -/
def execGate (_y : Bool) (s : State) : Res :=
  s.issue fun g => s.switchFirst g (
    let closed := !g.task && (s.conf.grid g.grid.toNat).gated
    if closed then .next (s.putGroup s.cursor.group (g.mapSlices (fun _ sl => sl.parkAt .gate 0 0) s.cursor.slices))
    else if !g.task && Sparse.get false s.disp.gateFault g.grid.toNat then
      let g := g.mapSlices (fun _ r => { r with state := .exited, park := .none }) s.cursor.slices
      let s := s.putGroup s.cursor.group g
      .next (if g.live = [] then s.freeSlot s.cursor.group g else s)
    else s.retire false g)

/-- RLSE (R355): the issuing block is released. -/
def execRlse (y : Bool) (s : State) : Res :=
  s.issue fun g =>
    match s.block g.block with
    | none => s.retire y g
    | some b => ((s.releaseBlock g.block).rowEvents b.grid b.nominal).retire y g

/-! ### Completion of commands (R345, R347, R352) -/

/-- The spans that a command touches next may be held by a publish. -/
def State.nextHeld (s : State) (c : Command) : Bool :=
  match c.reads, c.writes with
  | p :: _, _ => s.spanHeld p
  | [], p :: _ => s.spanHeld p
  | [], [] => match c.signal with
    | some g => s.spanHeld (spanOf g 0 0 8 false)
    | none => false

/-- A class 3 packet of a command leaves on the plane of its core's die, or of the lowest running die with a trained port. -/
def State.sendOut (s : State) (k : Nat) (c : Command) (pos len : Nat) (p : Packet) : State × Command :=
  let die := dieOf c.req.core
  match if s.planeUp die then some die else (List.range 4).find? s.planeUp with
  | none => (s, c.meet 5)
  | some pl =>
    let key : PairKey := { chip := s.fab.self, plane := BitVec.ofNat 2 pl, cls := 3 }
    let r := s.newTag (.command k) key
    let p := { p with cls := 3, plane := BitVec.ofNat 2 pl, src := s.fab.self, dst := s.fab.self, tag := r.2 }
    (r.1.emitLoose p,
      { c with awaiting := c.awaiting ++ [{ tag := r.2, pos := pos, len := len, off := pos }] })

/-- The header fields and payload common to the packets of a collective, for the bytes `is` of the piece: a sector written in
part gets its byte enables (02 R33). -/
def State.collPacket (s : State) (c : Command) (pos len : Nat) (is : List Nat) : Packet :=
  let d := s.ctxOf c.req.ctx
  let part := decide (len % 32 ≠ 0) || decide (is.length < len)
  { Packet.zero with
    context := c.req.ctx, core := BitVec.ofNat 8 c.req.core, keyGen := if d.prot then d.fabricGen else 0
    grantHome := if grantUsable c.req.grant then c.req.grant.home else 0
    grantObject := if grantUsable c.req.grant then c.req.grant.object else 0
    mask := touchedSectors 0 len, flits := BitVec.ofNat 3 ((len + 63) / 64 + (if part then 1 else 0))
    enabled := part, byteEnables := if part then is.foldl (fun w i => w ||| (1#256 <<< i)) 0 else 0
    payload := (List.range ((len + 31) / 32 * 32)).map fun i => if i < len then Sparse.get 0 c.buf (pos + i) else 0
    poison := (List.range 8).foldl (fun (w : BitVec 8) i =>
      if (List.range 32).any (fun j => Sparse.get false c.bufPoison (pos + 32 * i + j)) then w ||| (1#8 <<< i) else w) 0 }

/-- The fabric key of a context: that of its key slot (02 R43, 04 R72). -/
def State.fabricKey (s : State) (ctx : BitVec 20) : BitVec 256 :=
  (s.keySlot (s.ctxOf ctx).slot.toNat).fabric

/-- A contribution of a protected context leaves sealed under its fabric key (02 R43) (DESIGN CHOICE, log 90). -/
def State.sealPart (s : State) (ctx : BitVec 20) (p : Packet) : Packet :=
  if !(s.ctxOf ctx).prot then p
  else
    let w := Config.fabricSeal (s.fabricKey ctx) p.redId (BitVec.ofNat 2048 (leNat p.payload))
    { p with payload := leBytes p.payload.length w.toNat }

/-- Send every piece of a reduction (R347 item 1) (DESIGN CHOICE, log 37): none after a refused page, and no piece that holds a
byte that could not be read (R345) (DESIGN CHOICE, log 40). -/
def State.sendReduce (s : State) (k : Nat) (c : Command) (id : BitVec 24) (len : Nat) (oper etype : BitVec 8)
    (contributors : BitVec 12) (timeout : BitVec 32) : State :=
  let r := (List.range ((len + 255) / 256)).foldl (fun (a : State × Command) i =>
    let n := min 256 (len - 256 * i)
    if c.stop || c.gap (256 * i) n then a else
    let p := { a.1.collPacket a.2 (256 * i) n (List.range n) with
      opcode := 0x1C, oper := oper, etype := etype, redId := id + BitVec.ofNat 24 i, contributors := contributors,
      inline0 := timeout.setWidth 64, inline1 := BitVec.ofNat 64 n }
    a.1.sendOut k a.2 (256 * i) n (a.1.sealPart c.req.ctx p)) (s, { c with begun := true })
  r.1.putCommand k r.2

/-- The multicast pieces outstanding for a group. -/
def State.mcastOut (s : State) (grp : BitVec 12) : Nat :=
  s.cmds.foldl (fun n e => match e.2 with
    | none => n
    | some c => match c.work with
      | .mcast g _ => if g = grp then n + c.awaiting.length else n
      | _ => n) 0

/-- Send the next piece of a multicast (R347 item 2), while fewer than 64 are outstanding for its group: the bytes that could
be read (R345), and none after a refused page. -/
def State.sendMcast (s : State) (k : Nat) (c : Command) (grp : BitVec 12) (object : BitVec 28) (p : Span) : State :=
  if c.stop then s.putCommand k { c with writes := [] }
  else if 64 ≤ s.mcastOut grp then s
  else
    let n := min p.len 256
    let is := c.writable p n
    let pk := { s.collPacket c p.pos n is with
      opcode := 0x18, group := grp, object := object, offset := BitVec.ofNat 40 p.off }
    let r := if is = [] then (s, c) else s.sendOut k c p.pos n pk
    let rest := { p with off := p.off + n, pos := p.pos + n, len := p.len - n }
    r.1.putCommand k { r.2 with writes := if rest.len = 0 then [] else [rest] }

/-- The bytes of a command's buffer. -/
def Command.bytesAt (c : Command) (pos n : Nat) : List Byte := (List.range n).map fun i => Sparse.get 0 c.buf (pos + i)

/-! ### Installing a leaf (10 R178, R189, R190) -/

/-- A leaf write that clears write-protect ends a migration of the page (10 R190 item 3) (DESIGN CHOICE, log 55). -/
def State.leaveMigration (s : State) (o : BitVec 28) (page : Nat) (w : W64) : State :=
  if leafProtected w then s
  else { s with mem := { s.mem with migrating := s.mem.migrating.filter fun e => e != (o, page) } }

/-- A pointer to a table of a map, made in a frame of the slice that homes the object's first page when it is missing
(DESIGN CHOICE, log 68). -/
def State.tableAt (s : State) (o : BitVec 28) (ptr : W64) : State × W64 :=
  if ptr.getLsbD 63 then (s, ptr)
  else
    match s.takeFrame (homeSlice o 0) with
    | (s, none) => (s, 0)
    | (s, some f) => (s, tablePtr f 0)

/-- Set an entry of a table. -/
def State.setEntry (s : State) (key : Nat) (w : W64) : State :=
  { s with mem := { s.mem with tables := Sparse.set 0 s.mem.tables key w } }

/-- Install a leaf in the published map, or in the shadow. Missing upper tables are made (DESIGN CHOICE, log 68). -/
def State.installLeaf (s : State) (o : BitVec 28) (page : Nat) (shadow : Bool) (w : W64) : State × Bool :=
  let t := s.objEntry o
  let r := s.tableAt o (if shadow then t.shadow else t.root)
  if !r.2.getLsbD 63 then (s, false)
  else
    let t := if shadow then { t with shadow := r.2 } else { t with root := r.2 }
    let s := { r.1 with mem := { r.1.mem with objects := Sparse.set {} r.1.mem.objects o.toNat t } }
    let k0 := tableKey r.2 (page / 65536)
    let a := s.tableAt o (Sparse.get 0 s.mem.tables k0)
    if !a.2.getLsbD 63 then (s, false)
    else
      let s := a.1.setEntry k0 a.2
      let k1 := tableKey a.2 (page / 256 % 256)
      let b := s.tableAt o (Sparse.get 0 s.mem.tables k1)
      if !b.2.getLsbD 63 then (s, false)
      else
        let s := (b.1.setEntry k1 b.2).setEntry (tableKey b.2 (page % 256)) w
        ((if shadow then s else s.leaveMigration o page w), true)

/-- A frame returns to the free-frame list of its slice, unless it is retired (10 R189, 13 R237). -/
def State.freeAgain (s : State) (f : Nat) : State :=
  if s.isRetired f then s
  else
    { s with mem := { s.mem with
        freeFrames := Sparse.set [] s.mem.freeFrames (f % 128) (Sparse.get [] s.mem.freeFrames (f % 128) ++ [BitVec.ofNat 33 f]) } }

/-- A shadow page becomes the object's page, and the frame of the page it replaces, if there is one, returns to the free list
(R189 steps 2 and 3). -/
def State.mergePage (s : State) (o : BitVec 28) (page : Nat) : State :=
  let t := s.objEntry o
  match s.walk t.shadow (page * 65536) with
  | .leaf ks w =>
    let s := match s.walk t.root (page * 65536) with
      | .leaf _ old => (s.recall o (page * 65536) 65536 (leafFrame old) true none).freeAgain (leafFrame old)
      | _ => s
    let r := s.installLeaf o page false w
    if r.2 then r.1.setEntry ks 0 else s
  | _ => s

/-- The pages of an object. -/
def ObjEntry.pages (t : ObjEntry) : Nat := (t.last + 65536) / 65536

/-- PUBLISH_COMPLETE (10 R189): the shadow leaves replace the published ones, the publish count advances, and the holds
end. -/
def execPublishComplete (object : BitVec 28) (s : State) : Res :=
  match s.mem.publishing.find? fun e => e.1 == object with
  | none => .next s
  | some (_, k) =>
    let t := s.objEntry object
    let s := if t.shadow.getLsbD 63 then
        (List.range t.pages).foldl (fun (s : State) p => s.mergePage object p) s else s
    let flags : W64 := ((t.flags &&& 0x0000FFFFFFFFFFFF#64) &&& ~~~(1#64 <<< 34))
      ||| ((t.flags.extractLsb' 48 16 + 1).setWidth 64 <<< 48)
    let s := { s with mem := { s.mem with
      objects := Sparse.set {} s.mem.objects object.toNat { s.objEntry object with flags := flags }
      publishing := s.mem.publishing.filter fun e => e.1 != object } }
    .next (match s.command k with
      | none => s
      | some c => s.putCommand k { c with ended := some 0 })

/-- A publish begins (R189 step 1), once no other publish holds the object. -/
def State.beginPublish (s : State) (k : Nat) (object : BitVec 28) : State :=
  let t := s.objEntry object
  if t.publishing then s
  else
    { s with mem := { s.mem with
        objects := Sparse.set {} s.mem.objects object.toNat { t with flags := t.flags ||| (1#64 <<< 34) }
        publishing := s.mem.publishing ++ [(object, k)] } }

/-! ### Arrived messages (R352) -/

/-- The end of the work for an arrived message: its answer to the sender (DEDUCED, log 39). -/
def State.endArrive (s : State) (k : Nat) (o : Outgoing) : State :=
  { s with cmds := Sparse.set none s.cmds k none, outbox := s.outbox ++ [o] }

/-- The FIRE of an armed launch: the template with origin 0 and the slot's reference. -/
def State.fire (s : State) (e : ArmEntry) (template : List Byte) (slot : Nat) : State :=
  let t := leNat (template.take 48)
  let w3 := t / 2 ^ 192 % 2 ^ 64
  let off := (e.buffer.base.toNat + 65536 * (1 + slot)) / 16
  let ref := e.buffer.home.toNat * 2 ^ 52 + e.buffer.object.toNat * 2 ^ 24 + off
  let payload := t - t / 2 ^ 64 % 2 ^ 64 * 2 ^ 64 + ref * 2 ^ 64 - w3 / 2 ^ 12 % 8 * 2 ^ 204
  if (s.ctxOf e.ctx).accepts then s.post (s.record 0x07 e.ctx payload)
  else
    s.errorRecord (homeDie e.buffer.object) 0 0x0103 2 (leBytes 4 e.ctx.toNat)

/-- Whether an earlier message for the same tag is still being written. -/
def State.arriveBusy (s : State) (k : Nat) (tag : BitVec 32) : Bool :=
  s.cmds.any fun e => decide (e.1 < k) && match e.2 with
    | none => false
    | some c => match c.work with
      | .arrive t _ => t == tag
      | _ => false

/-- One move of an arrived message: read the buffer's header, answer or write the slot and its length, add 1 to arrived,
and post FIRE (DEDUCED, log 39). -/
def State.arriveMove (s : State) (k : Nat) (c : Command) (tag : BitVec 32) (payload : List Byte) : State :=
  match s.armed tag with
  | none => s.endArrive k (.transportNak tag)
  | some (_, e) =>
    match c.reads, c.writes with
    | p :: _, _ => s.readStep k c p
    | [], p :: _ => s.writeStep k c p
    | [], [] =>
      if c.awaiting ≠ [] then s
      else
        let arrived := leNat (c.bytesAt 0 8)
        let consumed := leNat (c.bytesAt 8 8)
        let slot := arrived % e.slots
        if !c.begun then
          if c.status ≠ 0 then s.endArrive k (.transportNak tag)
          else if e.slots ≤ (arrived + 2 ^ 64 - consumed) % 2 ^ 64 then s.endArrive k (.receiverNotReady tag)
          else
            let bytes := payload ++ leBytes 4 payload.length
            let base := e.buffer.base.toNat
            let at_ (off len pos : Nat) : Span := { cap := e.buffer, blk := 0, off := off, len := len, pos := pos, shadow := false }
            let slotSpan := if payload = [] then [] else [at_ (base + 65536 * (1 + slot)) payload.length 64]
            s.putCommand k { c with
              begun := true
              buf := Sparse.setAll 0 c.buf ((List.range bytes.length).map fun i => (64 + i, bytes.getD i 0))
              writes := slotSpan ++ [at_ (base + 0x40 + 4 * slot) 4 (64 + payload.length)]
              signal := some e.buffer }
        else if c.status ≠ 0 then s.endArrive k (.transportNak tag)
        else
          match c.signal with
          | some g => s.signalStep k c g
          | none =>
            let s := s.endArrive k (.transportAck tag)
            if e.fire then s.fire e (c.bytesAt 16 48) slot else s

/-- MESSAGE_ARRIVAL (R352): without an armed entry the device answers a NAK; else the message is taken up. -/
def execMessageArrival (tag : BitVec 32) (payload : List Byte) (s : State) : Res :=
  match s.armed tag with
  | none => .next { s with outbox := s.outbox ++ [.transportNak tag] }
  | some (_, e) =>
    let q : Requester :=
      { chip := s.fab.self, ctx := e.ctx, grant := e.grant,
        principal := s.principalOf e.ctx e.grant (s.ctxOf e.ctx).grant, core := 0, gid := 0, group := 0, kind := 4,
        checked := true, ownLine := false }
    let c : Command :=
      { group := 0, block := 0, batch := 0, req := q, work := .arrive tag payload, reads := [spanOf e.buffer 0 0 64 false] }
    .next { s with cmds := Sparse.set none s.cmds s.nextCmd (some c), nextCmd := s.nextCmd + 1 }

/-! ### One move of a command -/

/-- What a command does when nothing is left to read or write: the counts, then the signal, then its completion (DEDUCED,
log 39). -/
def State.lastMove (s : State) (k : Nat) (c : Command) : State :=
  match c.signal with
  | some g =>
    let r := s.makeCounts c
    (r.1.putCommand k r.2).signalStep k r.2 g
  | none => s.completeCommand k c

/-- One move of a command that reads and writes ranges (DESIGN CHOICE, log 40). -/
def State.rangeMove (s : State) (k : Nat) (c : Command) : State :=
  match c.reads, c.writes with
  | p :: _, _ => s.readStep k c p
  | [], [] => if c.awaiting = [] then s.lastMove k c else s
  | [], p :: _ => if c.awaiting ≠ [] && !c.begun then s else s.writeStep k { c with begun := true } p

/-- Whether an earlier message to the same peer has not left: messages of one chip to one peer go in issue order (R350). -/
def State.sendWaits (s : State) (k peer : Nat) : Bool :=
  s.cmds.any fun e => decide (e.1 < k) && match e.2 with
    | none => false
    | some c => match c.work with
      | .send p _ _ => p == peer && !c.begun
      | _ => false

/-- One move of a command, by its work (DESIGN CHOICE, log 40). -/
def State.commandMove (s : State) (k : Nat) (c : Command) (ended : SendEnd) : State :=
  if c.faulted ≠ [] || s.nextHeld c then s
  else
    match c.work with
    | .copy _ => s.rangeMove k c
    | .reduce _ _ id len oper etype contributors timeout =>
      if c.reads = [] ∧ c.awaiting = [] ∧ !c.begun then s.sendReduce k c id len oper etype contributors timeout
      else s.rangeMove k c
    | .mcast grp object =>
      match c.reads, c.awaiting, c.writes with
      | [], _, p :: _ => if c.awaiting = [] || c.begun then s.sendMcast k { c with begun := true } grp object p else s
      | _, _, _ => s.rangeMove k c
    | .send peer tag len =>
      if c.reads ≠ [] || c.awaiting ≠ [] then s.rangeMove k c
      else if !c.begun then
        if c.holes ≠ [] then s.completeCommand k c
        else if s.sendWaits k peer then s
        else ({ s with outbox := s.outbox ++ [.message peer tag (c.bytesAt 0 len)] } : State).putCommand k { c with begun := true }
      else
        s.completeCommand k (c.meet (match ended with
          | .acked => 0
          | .nak => 6
          | .failed => 5))
    | .publish object =>
      match c.ended with
      | some _ => s.completeCommand k c
      | none => s.beginPublish k object
    | .launch => if c.ended.isSome then s.completeCommand k c else s
    | .arrive tag payload => if s.arriveBusy k tag then s else s.arriveMove k c tag payload
    | .mx => s.mxMove k c

/-- Whether an earlier matrix command of the same group uses a tile of this one: R332 item 4 orders them. -/
def State.tileBusy (s : State) (k : Nat) (c : Command) : Bool :=
  s.cmds.any fun e => decide (e.1 < k) && match e.2 with
    | none => false
    | some m => m.group == c.group && m.tiles.any fun t => c.tiles.contains t

/-- ENGINE_COMPLETE (R345): the next move of an engine command: a piece, a matrix step, its signal, or its completion. -/
def execEngineComplete (cmd : Nat) (ended : SendEnd) (s : State) : Res :=
  match s.command cmd with
  | none => .next s
  | some c => .next (if s.tileBusy cmd c then s else (s.commandMove cmd c ended).lateTiles c.group)

end Sys2Proof.Machine
end

