-- ==== Sys2Proof/Machine/Image.lean ====
section
/-! DEFINITION. Saved images (09 R161-R166, 04 R79): the region records of a compressed body, the header, the seal, and what a
restore reads back. -/

namespace Sys2Proof.Machine

/-! ### Region records (R162) -/

/-- Whether 64 bytes are one 4-byte word repeated. -/
def repeatsWord (l : List Byte) : Bool := (List.range 16).all fun i => (l.drop (4 * i)).take 4 == l.take 4

/-- The code of a line after the line before it, in the order in which the coder tests them, with its payload. -/
def lineCode (prev : Option (List Byte)) (l : List Byte) : Nat × List Byte :=
  if l.all (fun b => b == 0) then (0, [])
  else if prev = some l then (3, [])
  else if repeatsWord l then (1, l.take 4)
  else (2, l)

/-- The codes and payloads of a region's lines. -/
def codeLines : Option (List Byte) → List (List Byte) → List (Nat × List Byte)
  | _, [] => []
  | prev, l :: ls => lineCode prev l :: codeLines (some l) ls

/-- The record of a region of 64 lines: index, length, kind, codes, payloads. -/
def regionRecord (index kind : Nat) (lines : List (List Byte)) : List Byte :=
  let cs := codeLines none lines
  let pay := cs.flatMap Prod.snd
  let codes := (List.range 64).foldl (fun w i => w + (cs.getD i (0, [])).1 * 4 ^ i) 0
  leBytes 4 index ++ leBytes 2 (24 + pay.length) ++ leBytes 2 kind ++ leBytes 16 codes ++ pay

/-- The lines that codes and payloads give, n of them from line i; none for code 0b11 on the first line, or when the payload
ends early or is left over. -/
def decodeLines (codes : Nat) : Nat → Nat → List Byte → List Byte → Option (List (List Byte))
  | 0, _, _, pay => if pay = [] then some [] else none
  | n + 1, i, prev, pay =>
    let code := codes / 4 ^ i % 4
    let size := if code = 1 then 4 else if code = 2 then 64 else 0
    if (code = 3 ∧ i = 0) ∨ pay.length < size then none
    else
      let l := match code with
        | 0 => List.replicate 64 0
        | 1 => (List.range 16).flatMap fun _ => pay.take 4
        | 2 => pay.take 64
        | _ => prev
      (decodeLines codes n (i + 1) l (pay.drop size)).map fun ls => l :: ls

/-- A region that a restore found: its kind, index and 64 lines. -/
structure RegionIn where
  kind : Nat
  index : Nat
  lines : List (List Byte)
  deriving DecidableEq, Repr

/-- Read n region records; none when one is refused (R162) or bytes are left over. -/
def decodeRegions : Nat → List Byte → Option (List RegionIn)
  | 0, b => if b = [] then some [] else none
  | n + 1, b =>
    let num (off k : Nat) : Nat := leNat ((b.drop off).take k)
    let len := num 4 2
    if b.length < 24 ∨ len < 24 ∨ b.length < len ∨ 2 ≤ num 6 2 then none
    else
      match decodeLines (num 8 16) 64 0 [] ((b.take len).drop 24) with
      | none => none
      | some ls => (decodeRegions n (b.drop len)).map fun rs => { kind := num 6 2, index := num 0 4, lines := ls } :: rs

/-! ### The body (R162, R164) -/

/-- The 4 KiB regions of a group's object that its dirty map holds. -/
def Group.dirtyRegions (g : Group) : List Nat := (List.range ((g.ctxLines + 63) / 64)).filter fun r => g.dirtyMap.getLsbD r

/-- The lines of a 4 KiB region of a group's object. -/
def Group.regionLines (g : Group) (prot : Bool) (r : Nat) : List (List Byte) :=
  (List.range 64).map fun i => if 64 * r + i < g.ctxLines then g.lineBytes prot (64 * r + i) else List.replicate 64 0

/-- The lines of a 4 KiB region of a stash allocation. -/
def Block.regionLines (b : Block) (r : Nat) : List (List Byte) :=
  (List.range 64).map fun i => (List.range 64).map fun j => Sparse.get (0 : Byte) b.stash (4096 * r + 64 * i + j)

/-- The body of an image with its lines field: every context line and then the stash allocation, or the region records. -/
def imageBody (g : Group) (prot compressed : Bool) (stash : Option Block) : List Byte × Nat :=
  if compressed then
    let rs := g.dirtyRegions.map fun r => regionRecord r 0 (g.regionLines prot r)
    let bs := match stash with
      | none => []
      | some b => b.written.map fun e => regionRecord e.1 1 (b.regionLines e.1)
    ((rs ++ bs).flatten, rs.length + bs.length)
  else
    ((List.range g.ctxLines).flatMap (g.lineBytes prot) ++ (match stash with
      | none => []
      | some b => (List.range b.alloc).map fun i => Sparse.get 0 b.stash i), g.ctxLines)

/-! ### The header and the seal (R164; 04 R79) -/

/-- The fields of an image's header. -/
structure ImageHead where
  ctx : Nat
  sealed : Bool
  compressed : Bool
  withStash : Bool
  counter : W64
  object : Nat
  chip : Nat
  length : Nat
  lines : Nat
  stashBytes : Nat
  deriving DecidableEq, Repr

/-- The 64 bytes of a header. -/
def ImageHead.bytes (i : ImageHead) : List Byte :=
  leBytes 4 0x4946594E ++ leBytes 4 1 ++ leBytes 4 i.ctx
    ++ leBytes 4 (i.sealed.toNat + 2 * i.compressed.toNat + 4 * i.withStash.toNat) ++ leBytes 8 i.counter.toNat
    ++ leBytes 4 i.object ++ leBytes 4 i.chip ++ leBytes 8 i.length ++ leBytes 4 i.lines ++ leBytes 4 i.stashBytes ++ leBytes 16 0

/-- Read a header; none when its magic, its version or a reserved field is wrong (R166 item 1). -/
def parseHead (b : List Byte) : Option ImageHead :=
  let num (off n : Nat) : Nat := leNat ((b.drop off).take n)
  let fl := num 0x0C 4
  let i : ImageHead :=
    { ctx := num 0x08 4, sealed := fl % 2 == 1, compressed := fl / 2 % 2 == 1, withStash := fl / 4 % 2 == 1,
      counter := BitVec.ofNat 64 (num 0x10 8), object := num 0x18 4, chip := num 0x1C 4, length := num 0x20 8,
      lines := num 0x28 4, stashBytes := num 0x2C 4 }
  if b.length = 64 && num 0 4 == 0x4946594E && num 4 4 == 1 && decide (fl < 8) && decide (i.ctx < 2 ^ 20) && decide (i.object < 2 ^ 28)
      && decide (i.chip < 2 ^ 12) && num 0x30 16 == 0 && (i.sealed || i.counter == 0) && (i.withStash || i.stashBytes == 0) then some i
  else none

/-- The IV of a seal: the chip number in bits [95:84] and the save counter in bits [63:0] (04 R79). -/
def sealIv (chip : Nat) (c : W64) : List Byte := beN 12 (chip * 2 ^ 84 + c.toNat)

/-- The additional data of a seal: context, object index, save counter and image length (04 R79) (DEDUCED, log 21). -/
def ImageHead.aad (i : ImageHead) : List Byte :=
  leBytes 4 i.ctx ++ leBytes 4 i.object ++ leBytes 8 i.counter.toNat ++ leBytes 8 i.length

/-- The bytes of an image: header and body, the body sealed under a key and closed by its tag when the image is sealed. -/
def ImageHead.image (i : ImageHead) (key body : List Byte) : List Byte :=
  if i.sealed then
    let c := gcmSeal key (sealIv i.chip i.counter) i.aad body
    i.bytes ++ c.1 ++ c.2
  else i.bytes ++ body

/-- The body of an image; none when the tag of a sealed one does not verify. -/
def ImageHead.open (i : ImageHead) (key rest : List Byte) : Option (List Byte) :=
  if i.sealed then
    gcmOpen key (sealIv i.chip i.counter) i.aad (rest.take (rest.length - 16)) (rest.drop (rest.length - 16))
  else some rest

/-! ### What a restore reads back (R161, R166) -/

/-- A line of a group's object at creation (08 R126): the lane numbers in v0 and v1, shapes 1 by 1, and zero. The header, and
the lines of a task group's records, are taken as they stand (DESIGN CHOICE, log 58). -/
def Group.bornLine (g : Group) (prot : Bool) (n : Nat) : List Byte :=
  let ns := g.sliceCount
  let m := n - headerLines
  if n < headerLines ∨ (g.task ∧ n < headerLines + 3 * ns) then g.lineBytes prot n
  else if n < headerLines + ns then
    (List.range 4).flatMap fun r => (List.range 4).flatMap fun q =>
      let l := g.visLane (4 * m + q)
      leBytes 4 (if r = 0 then l else if r = 1 then (g.gid.toNat * g.visible + l) % 2 ^ 32 else 0)
  else if g.shapeLine ≤ n ∧ n < g.shapeLine + ns ∧ g.xCount ≠ 0 then List.replicate 64 0x24
  else List.replicate 64 0

/-- Whether the lines, stash bytes and length fields of a header agree with the group (R166 item 1). -/
def ImageHead.fits (i : ImageHead) (g : Group) (alloc : Nat) : Bool :=
  i.stashBytes == (if i.withStash then alloc else 0)
    && (i.compressed || (i.lines == g.ctxLines
      && i.length == 64 + 64 * g.ctxLines + i.stashBytes + (if i.sealed then 16 else 0)))

/-- The context lines and the stash bytes that a body gives; none when it does not fit its header or the group
(R162, R166 item 1). -/
def ImageHead.parts (i : ImageHead) (g : Group) (prot : Bool) (alloc : Nat) (body : List Byte) :
    Option (List (List Byte) × List (Nat × Byte)) :=
  if i.stashBytes ≠ (if i.withStash then alloc else 0) then none
  else if i.compressed then
    match decodeRegions i.lines body with
    | none => none
    | some rs =>
      let limit (r : RegionIn) : Nat := if r.kind = 0 then (g.ctxLines + 63) / 64 else i.stashBytes / 4096
      if rs.any fun r => decide (limit r ≤ r.index) then none
      else
        let region (k : Nat) : Option RegionIn := rs.find? fun r => r.kind == 0 && r.index == k
        let line (n : Nat) : List Byte := match region (n / 64) with
          | some r => r.lines.getD (n % 64) []
          | none => g.bornLine prot n
        some ((List.range g.ctxLines).map line,
          (rs.filter fun r => r.kind == 1).flatMap fun r => (List.range 4096).map fun j =>
            (4096 * r.index + j, (r.lines.getD (j / 64) []).getD (j % 64) 0))
  else if i.lines = g.ctxLines ∧ body.length = 64 * g.ctxLines + i.stashBytes then
    some ((List.range g.ctxLines).map (fun n => (body.drop (64 * n)).take 64),
      (List.range i.stashBytes).map fun j => (j, body.getD (64 * g.ctxLines + j) 0))
  else none

/-- A group with the registers that its context lines hold (R166). -/
def Group.takeImage (g : Group) (lines : List (List Byte)) : Group :=
  let g := g.takeHeader ((lines.take headerLines).flatten)
  (List.range g.ctxLines).foldl (fun (g : Group) n => if n < headerLines then g else g.takeLine n (lines.getD n [])) g

/-- The slices of a restored group: parks stand as recorded, but for one that ended while the group was saved (R159, R166). -/
def Group.takeParks (g live : Group) : Group :=
  g.mapSlices (fun i sl =>
    let old := live.slice i
    if old.state = .ready ∧ sl.state = .parked then
      { sl with pc := old.pc, link := old.link, state := .ready, park := .none, gang := old.gang, arg := 0, deadline := 0 }
    else sl) g.live

end Sys2Proof.Machine
end

