-- ==== Sys2Proof/Machine/System.lean ====
section
/-! DEFINITION. Traps, return and the system registers (15 R278-R280, 14 R261). -/

namespace Sys2Proof.Machine

/-- TRAP (R278). An implicit switch point; then cause TRAP with detail n, resuming at the next PC. -/
def execTrap (_y : Bool) (i : BitVec 8) (s : State) : Res :=
  s.issue fun g => s.switchFirst g
    (.next (s.raise s.cursor.group g s.cursor.slices s.cursor.pc
      (g.gangTrap s.cursor.slices Cause.trap.code i (s.cursor.pc + 4))))

/-- TRET (R279, R234): H is cleared, the gang goes to TPC, and a pending trap of another gang is delivered first. -/
def execTret (y : Bool) (s : State) : Res :=
  s.issue fun g => s.need g g.handling (
    let sl := s.cursor.slices
    let g := g.leaveHandler sl
    let g := if g.unfinishedOf sl = [] then { g with entries := [] } else g
    let g := if y then g.switchPark sl else g
    .next ((s.putGroup s.cursor.group g).deliverPending s.cursor.group g))

/-- The system registers (14 R261). -/
inductive SysReg where
  | gid | bid | gridid | lanebase | width | chipx | chipy | core | tick | ctxnum | winb
  | fpcr | fpsr | xflags | xpiv | tvec | tstat | tpc | repc | jointo | grant | root | kconst | kdata
  | fwctx | wdog | fqhead
  deriving DecidableEq, Repr

/-- The register with a number. -/
def sysRegOf (n : Nat) : Option SysReg :=
  match n with
  | 0x000 => some .gid | 0x001 => some .bid | 0x002 => some .gridid | 0x003 => some .lanebase | 0x004 => some .width
  | 0x005 => some .chipx | 0x006 => some .chipy | 0x007 => some .core | 0x008 => some .tick | 0x009 => some .ctxnum
  | 0x00A => some .winb | 0x010 => some .fpcr | 0x011 => some .fpsr | 0x012 => some .xflags | 0x013 => some .xpiv
  | 0x018 => some .tvec | 0x019 => some .tstat | 0x01A => some .tpc | 0x01B => some .repc | 0x01C => some .jointo
  | 0x020 => some .grant | 0x021 => some .root | 0x022 => some .kconst | 0x023 => some .kdata
  | 0x100 => some .fwctx | 0x101 => some .wdog | 0x102 => some .fqhead
  | _ => none

/-- Numbers 0x100 and above are privileged. -/
def SysReg.priv : SysReg → Bool
  | .fwctx | .wdog | .fqhead => true
  | _ => false

/-- Watchdog ticks that remain on a die (03 R58). -/
def State.watchdog (s : State) (die : Nat) : Nat := Sparse.get 10000000 s.fw.watchdog die

/-- The value of a scalar-kind system register. -/
def State.sysScalar (s : State) (g : Group) : SysReg → W64
  | .gid => g.gid.setWidth 64
  | .bid => g.bid.setWidth 64
  | .gridid => g.grid.setWidth 64
  | .lanebase => BitVec.ofNat 64 (g.gid.toNat * g.visible)
  | .width => BitVec.ofNat 64 g.visible
  | .chipx => BitVec.ofNat 64 (g.nominal.toNat % 64)
  | .chipy => BitVec.ofNat 64 (g.nominal.toNat / 64)
  | .core => BitVec.ofNat 64 g.core
  | .tick => s.tickOf (dieOf g.core)
  | .ctxnum => g.ctx.setWidth 64
  | .winb => BitVec.ofNat 64 g.winb
  | .fpcr => g.fpcr.setWidth 64
  | .fpsr => g.fpsr.setWidth 64
  | .xpiv => g.xpiv.setWidth 64
  | .tvec => g.tvec
  | .tstat => g.tstat
  | .tpc => g.tpc
  | .repc => g.repc
  | .jointo => g.joinTo.setWidth 64
  | .fwctx => (Sparse.get 0 s.fw.fwctx (dieOf g.core)).setWidth 64
  | .wdog => BitVec.ofNat 64 (s.watchdog (dieOf g.core))
  | .fqhead => BitVec.ofNat 64 (Sparse.get [] s.fw.queue (dieOf g.core)).length
  | .xflags | .grant | .root | .kconst | .kdata => 0

/-- The value of a capability-kind system register. -/
def Group.sysCap (g : Group) : SysReg → Cap
  | .grant => g.grant
  | .root => g.root
  | .kconst => g.const
  | .kdata => g.data
  | _ => {}

/-- XFLAGS of a lane as SYSR shows it. -/
def Group.xflagWord (g : Group) (l : Nat) : W32 := (Sparse.get 0 g.xflags l).setWidth 32

/-- SYSR (R280). -/
def execSysr (y : Bool) (d : Fld) (n : BitVec 10) (s : State) : Res :=
  s.issue fun g =>
    match sysRegOf n.toNat with
    | none => s.trapHere g .und
    | some r =>
      if r.priv && !g.privileged then s.trapHere g .priv
      else
        match r with
        | .xflags => s.lanes1 y d (fun _ => true) fun g l => g.xflagWord l
        | .grant | .root | .kconst | .kdata => s.retire y (g.writeC d.toNat (g.sysCap r))
        | _ => s.retire y (g.writeS s.cursor.slices d.toNat (s.sysScalar g r))

/-- SYSW of a scalar-kind register of the group (15 R280, with the reserved bits of each register written as zero). -/
def Group.sysWrite (g : Group) (r : SysReg) (v : W64) : Group :=
  match r with
  | .fpcr => { g with fpcr := v.setWidth 32 &&& 3 }
  | .fpsr => { g with fpsr := v.setWidth 32 &&& 0x3F }
  | .xpiv => { g with xpiv := v.setWidth 32 }
  | .tvec => { g with tvec := v &&& ~~~(2#64) }
  | .tstat => { g with tstat := v &&& 0x80FFFFFF00FFFFFF#64 }
  | .tpc => { g with tpc := v }
  | .repc =>
    if v.getLsbD 0 then { g with repc := v, firstPoison := [], firstMismatch := [] } else { g with repc := v }
  | .jointo => { g with joinTo := v.setWidth 32 }
  | _ => g

/-- SYSW of XFLAGS: the low bytes, in the lanes of Active(). -/
def Group.writeXflags (g : Group) (slices : List Nat) (n : Nat) : Group :=
  let vals := (g.active slices).map fun l => (l, (g.rv n l).setWidth 8)
  { g with xflags := Sparse.setAll 0 g.xflags vals, smuFlags := Sparse.setAll 0 g.smuFlags vals,
           pending := g.pending.map (Pending.dropX (g.active slices)) }

/-- Whether SYSW may name a register. -/
def SysReg.writable : SysReg → Bool
  | .fpcr | .fpsr | .xflags | .xpiv | .tvec | .tstat | .tpc | .repc | .jointo | .grant | .fwctx => true
  | _ => false

/-- SYSW (R280). -/
def execSysw (y : Bool) (a : Fld) (n : BitVec 10) (s : State) : Res :=
  s.issue fun g =>
    match sysRegOf n.toNat with
    | none => s.trapHere g .und
    | some r =>
      if !r.writable then s.trapHere g .und
      else if r.priv && !g.privileged then s.trapHere g .priv
      else
        match r with
        | .xflags => s.need g (g.inWindow a.toNat) (s.retire y (g.writeXflags s.cursor.slices a.toNat))
        | .grant => s.retire y { g with grant := g.rc a.toNat }
        | .fwctx =>
          let v : BitVec 20 := (g.rs a.toNat).setWidth 20
          ({ s with fw := { s.fw with fwctx := Sparse.set 0 s.fw.fwctx (dieOf g.core) v } } : State).retire y g
        | _ => s.retire y (g.sysWrite r (g.rs a.toNat))

end Sys2Proof.Machine
end

