-- ==== Sys2Proof/Machine/Firmware.lean ====
section
/-! DEFINITION. The firmware minors of class 15 (15 R281, R282), the firmware queue (R283), and saving and restoring a group
(09 R159-R166, 04 R79). -/

namespace Sys2Proof.Machine

/-! ### The firmware region and queue -/

/-- Bytes of a die's firmware region (03 R57). -/
def fwRegionBytes : Nat := 2 ^ 29

/-- A byte of a die's firmware region. -/
def State.fwByte (s : State) (die off : Nat) : Byte := Sparse.get 0 s.fw.region (die * fwRegionBytes + off)

/-- Bytes of a die's firmware region. -/
def State.fwBytes (s : State) (die off n : Nat) : List Byte := (List.range n).map fun i => s.fwByte die (off + i)

/-- Write bytes of a die's firmware region. -/
def State.putFwBytes (s : State) (die off : Nat) (b : List Byte) : State :=
  let w := (List.range b.length).map fun i => (die * fwRegionBytes + off + i, b.getD i 0)
  { s with fw := { s.fw with region := Sparse.setAll 0 s.fw.region w } }

/-- Whether a firmware offset names n bytes of the region, aligned to their size (R281 item 4) (DESIGN CHOICE, log 56). -/
def fwOffsetOk (off : W64) (n : Nat) : Bool := decide (off.toNat + n ≤ fwRegionBytes) && off.toNat % n == 0

/-- The firmware queue of a die. -/
def State.fwQueue (s : State) (die : Nat) : List FwEntry := Sparse.get [] s.fw.queue die

/-- Append an entry. -/
def State.pushFw (s : State) (die : Nat) (e : FwEntry) : State :=
  { s with fw := { s.fw with queue := Sparse.set [] s.fw.queue die (s.fwQueue die ++ [e]) } }

/-- The 32 bytes of an entry (R283). -/
def FwEntry.bytes (e : FwEntry) : List Byte :=
  leBytes 1 e.kind.toNat ++ leBytes 1 e.status.toNat ++ leBytes 2 e.weir.toNat ++ leBytes 4 e.ctx.toNat
    ++ leBytes 8 e.object.toNat ++ leBytes 8 e.offset.toNat ++ leBytes 1 e.faultKind.toNat ++ leBytes 1 0
    ++ leBytes 2 e.op.toNat ++ leBytes 4 0

/-- A firmware minor: PRIV outside privileged mode; else its effect on the machine and the result it writes. -/
def State.firmware (s : State) (y : Bool) (d : Fld) (f : Group → State × W64) : Res :=
  s.issue fun g =>
    if !g.privileged then s.trapHere g .priv
    else
      let r := f g
      r.1.retire y (g.writeS s.cursor.slices d.toNat r.2)

/-! ### PWLEAF, POBJ, PKEY (R282) -/

/-- The object of an object word, when its home is this chip and its home die, which runs, is that of the group: another home
is not on this die, which is status 1 (R281). -/
def State.wordObject (s : State) (g : Group) (w : W64) : Option (BitVec 28) :=
  let o : BitVec 28 := w.extractLsb' 24 28
  if w.extractLsb' 52 12 == s.fab.self && s.dieRuns (homeDie o) && homeDie o == dieOf g.core then some o else none

/-- Whether a page-map entry of a level has its reserved field zero (10 R174, R175): a leaf has none. -/
def entryClean (level : Nat) (e : W64) : Bool := level == 2 || e.extractLsb' 36 27 == 0

/-- Whether a word of an object table entry has its reserved fields zero (10 R173, R174). -/
def objectClean (k : Nat) (v : W64) : Bool :=
  match k with
  | 0 | 1 => entryClean 0 v
  | 2 => v.extractLsb' 0 12 == 0
  | _ => v.extractLsb' 20 12 == 0 && v.extractLsb' 35 13 == 0

/-- FWCTX of the die of a group. -/
def State.fwctxOf (s : State) (g : Group) : BitVec 20 := Sparse.get 0 s.fw.fwctx (dieOf g.core)

/-- Whether FWCTX refuses a context (R281 item 5) (DESIGN CHOICE, log 56). -/
def State.fwRefuses (s : State) (g : Group) (ctx : BitVec 20) : Bool := s.fwctxOf g != 0 && s.fwctxOf g != ctx

/-- The key of the page-map entry of a level: none when an upper table is missing. -/
def State.entryKey (s : State) (root : W64) (level off : Nat) : Option Nat :=
  if !root.getLsbD 63 then none
  else
    let k0 := tableKey root (off / 2 ^ 32 % 256)
    if level = 0 then some k0
    else
      let e0 := Sparse.get 0 s.mem.tables k0
      if !e0.getLsbD 63 then none
      else
        let k1 := tableKey e0 (off / 2 ^ 24 % 256)
        if level = 1 then some k1
        else
          let e1 := Sparse.get 0 s.mem.tables k1
          if !e1.getLsbD 63 then none else some (tableKey e1 (off / 2 ^ 16 % 256))

/-- Whether a leaf write begins the move of a page (10 R190 step 1): it sets write-protect on a page of its frame, and the
migration table of the home Weir, of 8 entries, has room. R190 gives firmware no other way into the table, and does not say
which of its write-protections are moves: that is free (DESIGN CHOICE, log 55). -/
def State.beginsMove (s : State) (o : BitVec 28) (page : Nat) (old new : W64) : Bool :=
  old.getLsbD 63 && new.getLsbD 63 && !leafProtected old && leafProtected new && leafFrame old == leafFrame new
    && decide ((s.mem.migrating.filter fun e => homeSlice e.1 e.2 == homeSlice o page).length < 8) && Config.freeBool s.free

/-- A leaf write to the published map at a page that is being moved, or whose move it begins or ends (10 R190). One that
installs another frame and clears write-protect finds the old frame's contents there, and the page dirty. -/
def State.moveLeaf (s : State) (o : BitVec 28) (page : Nat) (old new : W64) : State × W64 :=
  if s.mem.migrating.contains (o, page) then
    if !leafProtected new && leafFrame old != leafFrame new then
      let s := (s.recall o (page * 65536) 65536 (leafFrame old) false none).copyPage (leafFrame old) (leafFrame new)
      (s.leaveMigration o page new, new ||| (1#64 <<< 61))
    else (s.leaveMigration o page new, new)
  else if s.beginsMove o page old new then
    ({ s with mem := { s.mem with migrating := s.mem.migrating ++ [(o, page)] } }, new)
  else (s, new)

/-- Write a page-map entry in one step with respect to every request (DESIGN CHOICE, log 55). -/
def State.writeLeaf (s : State) (g : Group) (entry word off : W64) : State × W64 :=
  let sel := bits word 23 0
  let level := sel / 2 % 4
  let f := off.toNat % 2 ^ 40
  match s.wordObject g word with
  | none => (s, 1)
  | some o =>
    if 8 ≤ sel || level == 3 || decide (2 ^ 40 ≤ off.toNat) || !entryClean level entry then (s, 1)
    else
      let t := s.objEntry o
      if !t.valid then (s, 2)
      else if s.fwRefuses g t.ctx then (s, 4)
      else
        match s.entryKey (if sel % 2 = 1 then t.shadow else t.root) level f with
        | none => (s, 2)
        | some k =>
          let r := if level = 2 ∧ sel % 2 = 0 then s.moveLeaf o (f / 65536) (Sparse.get 0 s.mem.tables k) entry else (s, entry)
          (r.1.setEntry k r.2, 0)

/-- PWLEAF (R282). -/
def execPwleaf (y : Bool) (d : Fld) (a : Fld) (b : Fld) (s : State) : Res :=
  s.firmware y d fun g => s.writeLeaf g (g.rs d.toNat) (g.rs a.toNat) (g.rs b.toNat)

/-- An object table entry with one of its words replaced. -/
def ObjEntry.put (t : ObjEntry) (k : Nat) (v : W64) : ObjEntry :=
  match k with
  | 0 => { t with root := v }
  | 1 => { t with shadow := v }
  | 2 => { t with sizeKey := v }
  | _ => { t with flags := v }

/-- Write a word of an object table entry. -/
def State.writeObject (s : State) (g : Group) (v word : W64) : State × W64 :=
  let sel := bits word 23 0
  match s.wordObject g word with
  | none => (s, 1)
  | some o =>
    if 4 ≤ sel ∨ !objectClean sel v then (s, 1)
    else
      let t := s.objEntry o
      let u := t.put sel v
      if (t.valid && s.fwRefuses g t.ctx) || (sel == 3 && u.valid && s.fwRefuses g u.ctx) then (s, 4)
      else ({ s with mem := { s.mem with objects := Sparse.set {} s.mem.objects o.toNat u } }, 0)

/-- POBJ (R282). -/
def execPobj (y : Bool) (d : Fld) (a : Fld) (_b : Fld) (s : State) : Res :=
  s.firmware y d fun g => s.writeObject g (g.rs d.toNat) (g.rs a.toNat)

/-- Write a key slot in every Weir. -/
def State.putSlot (s : State) (n : Nat) (k : KeySlot) : State :=
  { s with trust := { s.trust with slots := Sparse.set {} s.trust.slots n k } }

/-- Install keys: a replaced generation stays as the previous one (04 R75), but of a destroyed slot nothing is left. -/
def KeySlot.install (k : KeySlot) (ctx : BitVec 20) (gen : BitVec 8) (key fabric : BitVec 256) (fabricGen : BitVec 8) :
    KeySlot :=
  { ctx := ctx, gen := gen, key := key, fabric := fabric, fabricGen := fabricGen, destroyed := false, warmLost := false, made := key,
    prev := if k.destroyed then none else if k.gen ≠ 0 ∧ k.gen ≠ gen then some (k.gen, k.key) else k.prev }

/-- The frames that were written under a key, once a slot holds another key for their generation: in mode encrypted what the
tier holds decrypts to other bytes, and with integrity no metadata word matches, which the next read of a sector meets (04 R74)
(DESIGN CHOICE, log 22). -/
def State.remakeFrames (s : State) (slot : Nat) (old new : KeySlot) : State :=
  let keys := Sys2Proof.Machine.subkeys new.key new.ctx new.gen
  let was := Sys2Proof.Machine.subkeys old.made old.ctx old.gen
  (s.trust.frames.filter fun e => e.2.bound && e.2.slot.toNat == slot && e.2.gen == new.gen && e.2.mode != 0).foldl
    (fun (s : State) e =>
      let f := e.1
      if e.2.mode = 1 then
        let bytes := (List.range 512).flatMap fun n =>
          let again (j : Nat) (p : List Byte) : List Byte :=
            let tw := sectorTweak s.fab.self f (4 * n + j)
            xtsDec keys.xtsData keys.xtsTweak tw (xtsEnc was.xtsData was.xtsTweak tw p)
          let sectors := ((List.range 4).zip (s.lineStored f n)).map fun e => e.2.map (again e.1)
          let p := plainLine (Sparse.get 0 s.mem.forms (f * 512 + n)).toNat sectors
          (List.range 128).map fun i => (f * 65536 + 128 * n + i, p.getD i 0)
        { s with mem := { s.mem with bytes := Sparse.setAll 0 s.mem.bytes bytes } }
      else { s with mem := { s.mem with
        stale := Sparse.setAll false s.mem.stale ((List.range 2048).map fun k => (f * 2048 + k, true)) } }) s

/-- Load a slot with keys in every Weir. After a warm reset each Weir rebuilds its roots from the counter blocks then in
memory (04 R74). -/
def State.loadSlot (s : State) (n : Nat) (new : KeySlot) : State :=
  let old := s.keySlot n
  let s := if old.gen ≠ 0 ∧ old.gen = new.gen ∧ old.made ≠ new.key then s.remakeFrames n old new else s
  let s := if old.warmLost then { s with mem := s.mem.rebuildRoots } else s
  s.putSlot n new

/-- A slot whose key material is zeroed: the generations that its frames are bound to stay known. -/
def KeySlot.zeroed (k : KeySlot) : KeySlot := { k with key := 0, fabric := 0, prev := k.prev.map fun p => (p.1, 0) }

/-- Act on a key slot. -/
def State.actKey (s : State) (g : Group) (word off : W64) : State × W64 :=
  let n := bits word 11 0
  let op := bits word 15 12
  let k := s.keySlot n
  if word.toNat ≥ 65536 || n == 0 || decide (2 < op) then (s, 1)
  else if op = 0 then
    if !fwOffsetOk off 96 then (s, 1)
    else
      let blk := s.fwBytes (dieOf g.core) off.toNat 96
      let num (o m : Nat) : Nat := leNat ((blk.drop o).take m)
      if num 0x46 26 ≠ 0 ∨ 2 ^ 20 ≤ num 0x40 4 then (s, 1)
      else
        let ctx := BitVec.ofNat 20 (num 0x40 4)
        if s.fwRefuses g ctx then (s, 4)
        else if k.ctx ≠ 0 ∧ k.ctx ≠ ctx then (s, 3)
        else (s.loadSlot n (k.install ctx (BitVec.ofNat 8 (num 0x44 1)) (BitVec.ofNat 256 (num 0 32)) (BitVec.ofNat 256 (num 0x20 32))
            (BitVec.ofNat 8 (num 0x45 1))), 0)
  else if k.ctx = 0 then (s, 2)
  else if s.fwRefuses g k.ctx then (s, 4)
  else if op = 1 then (s.putSlot n { k with destroyed := true }, 0)
  else (s.putSlot n k.zeroed, 0)

/-- PKEY (R282). -/
def execPkey (y : Bool) (d : Fld) (a : Fld) (b : Fld) (s : State) : Res :=
  s.firmware y d fun g => s.actKey g (g.rs a.toNat) (g.rs b.toNat)

/-! ### PWDOG, PMCSET, PEVENT, PFQ (R282) -/

/-- Restart a watchdog (03 R58). -/
def State.restartWatchdog (s : State) (die : Nat) : State :=
  { s with fw := { s.fw with watchdog := Sparse.set 10000000 s.fw.watchdog die 10000000 } }

/-- PWDOG (R282). -/
def execPwdog (y : Bool) (d : Fld) (_a : Fld) (_b : Fld) (s : State) : Res :=
  s.firmware y d fun g => (s.restartWatchdog (dieOf g.core), BitVec.ofNat 64 (s.watchdog (dieOf g.core)))

/-- The MCSET packet of a plane (02 R39): the control word in words 6 and 7, the map in one payload flit. -/
def State.mcsetPacket (s : State) (grp : BitVec 12) (control : W64) (members : BitVec 512) (plane : Nat) : Packet :=
  { s.plainPacket 0x1A 3 (BitVec.ofNat 2 plane) s.fab.self (leBytes 64 members.toNat) with
    group := grp, context := control.extractLsb' 21 20, inline0 := control }

/-- The MCSET packets of every plane with an enabled port (02 R39). -/
def State.mcsetPackets (s : State) (grp : BitVec 12) (control : W64) (members : BitVec 512) : List Packet :=
  ((List.range 4).filter s.planeEnabled).map (s.mcsetPacket grp control members)

/-- Send MCSET packets for a gang, which waits for their acknowledgement (DEDUCED, log 60). -/
def State.sendMcset (s : State) (die slice : Nat) (ps : List Packet) : State :=
  let s := { s with fw := { s.fw with mcsets := s.fw.mcsets ++ [{ die := die, slice := slice, packets := ps }] } }
  ps.foldl State.emitLoose s

/-- PMCSET (R282): the packets leave, and the instruction stands until the first switches have acknowledged them. -/
def execPmcset (y : Bool) (d : Fld) (a : Fld) (b : Fld) (s : State) : Res :=
  s.issue fun g =>
    let off := g.rs d.toNat
    let control := g.rs a.toNat
    let grp := g.rs b.toNat
    let die := dieOf g.core
    let slice := s.cursor.slices.headD 0
    if !g.privileged then s.trapHere g .priv
    else
      match s.fw.mcsets.find? fun e => e.die == die && e.slice == slice with
      | some e =>
        if e.packets.any s.unheard then .next s
        else ({ s with fw := { s.fw with mcsets := s.fw.mcsets.filter fun x => x != e } } : State).retire y
          (g.writeS s.cursor.slices d.toNat 0)
      | none =>
        if !fwOffsetOk off 64 || bits control 20 0 != 0 || decide (56 < bits control 46 41) || decide (4096 ≤ grp.toNat) then
          s.retire y (g.writeS s.cursor.slices d.toNat 1)
        else .next (s.sendMcset die slice
          (s.mcsetPackets (grp.setWidth 12) control (BitVec.ofNat 512 (leNat (s.fwBytes die off.toNat 64)))))

/-- PEVENT (R282). A SUBMIT or FIRE of a context that does not accept submits is not posted (04 R69, 06 R102)
(DESIGN CHOICE, log 56). -/
def execPevent (y : Bool) (d : Fld) (a : Fld) (_b : Fld) (s : State) : Res :=
  s.firmware y d fun g =>
    let off := g.rs a.toNat
    if !fwOffsetOk off 64 then (s, 1)
    else
      let r := recordOf (s.fwBytes (dieOf g.core) off.toNat 64)
      if r.seq ≠ 0 then (s, 1)
      else if (r.typ == 0x01 || r.typ == 0x07) && !(s.ctxOf (r.ctx.setWidth 20)).accepts then
        (s.errorRecord (dieOf g.core) 8 0x0103 2 (leBytes 4 r.ctx.toNat), 1)
      else (s.post r, 0)

/-- PFQ (R282): the oldest entry goes to the firmware region. A place in the queue lets a waiting report in (R178). -/
def execPfq (y : Bool) (d : Fld) (a : Fld) (_b : Fld) (s : State) : Res :=
  s.firmware y d fun g =>
    let off := g.rs a.toNat
    let die := dieOf g.core
    match s.fwQueue die with
    | [] => (s, BitVec.allOnes 64)
    | e :: q =>
      if !fwOffsetOk off 32 then (s, 1)
      else
        let s := s.putFwBytes die off.toNat e.bytes
        (({ s with fw := { s.fw with queue := Sparse.set [] s.fw.queue die q } } : State).reportFaults, BitVec.ofNat 64 q.length)

/-! ### PSAVE (R282, 09 R159-R165) -/

/-- The block whose stash a save of a group carries: it is asked for, and the group is the block's lowest-numbered
(DESIGN CHOICE, log 58). -/
def State.savedStash (s : State) (h : Nat) (g : Group) (ask : Bool) : Option Block :=
  match s.block g.block with
  | none => none
  | some b => if ask && !g.task && b.groups.head? == some h then some b else none

/-- Whether a group has stopped so that it can be written out (R159 steps 1-3): its accesses are answered, no fill of its
gangs is in flight, and its commands let it go. A group that a page or context fault holds has stopped at once. -/
def State.stopped (s : State) (h : Nat) (g : Group) : Bool :=
  (g.memOps.all fun o => o.kind == .waitRead) && (g.groupParked || g.flushing == []) && (g.ctxFault || g.filling == []) && s.commandsLet h g

/-- A save or restore of a group is in progress. -/
def State.saving (s : State) (h : Nat) : Bool := s.fw.saves.any fun o => o.group == h

/-- Start an operation. -/
def State.startSave (s : State) (o : SaveOp) : State × W64 :=
  ({ s with fw := { s.fw with saves := s.fw.saves ++ [{ o with op := s.fw.nextOp }], nextOp := s.fw.nextOp + 1 } },
    s.fw.nextOp.setWidth 64)

/-- A status of PSAVE and PREST (DESIGN CHOICE, log 57). -/
def saveStatus (n : Nat) : W64 := BitVec.ofNat 64 (2 ^ 63 + n)

/-- Whether a place is in order: a firmware offset must hold n bytes (DESIGN CHOICE, log 56). -/
def placeOk (w : W64) (n : Nat) : Bool :=
  w.getLsbD 63 || (bits w 62 0 % 64 == 0 && decide (bits w 62 0 + n ≤ fwRegionBytes))

/-- Whether saves of a group's context go where the host says (03 R54 bit 1) (DESIGN CHOICE, log 59). -/
def State.hostSaves (s : State) (g : Group) : Bool := s.hostAssisted (s.ctxOf g.ctx).part 1

/-- Whether a save leaves the group in place (R161): in a partition of 1 to 8 cores, for a context that is not protected, when
no compressed image is asked for (DESIGN CHOICE, log 58). -/
def State.savesLazily (s : State) (g : Group) (compressed : Bool) : Bool :=
  let d := s.ctxOf g.ctx
  let n := ((s.partitions.find? fun p => p.id == d.part).map Partition.count).getD 0
  !compressed && !d.prot && decide (1 ≤ n) && decide (n ≤ 8)

/-- A group as it stands once it has been written out: its tiles copied, the regions it writes marked, and SAVED. -/
def State.asSaved (s : State) (h : Nat) (g : Group) : Group :=
  { (s.saveTiles g (s.idleHandles h g)).markRegions (s.leaveLines h g) with savedFrom := g.state, state := .saved }

/-- The header and the body of a group's image. -/
def State.imageOf (s : State) (h : Nat) (g : Group) (compressed : Bool) (stash : Option Block) (c : W64) :
    ImageHead × List Byte :=
  let prot := (s.ctxOf g.ctx).prot
  let b := imageBody g prot compressed stash
  ({ ctx := g.ctx.toNat, sealed := prot, compressed := compressed, withStash := stash.isSome, counter := c, object := h,
     chip := s.fab.self.toNat, length := 64 + b.1.length + (if prot then 16 else 0), lines := b.2,
     stashBytes := (stash.map Block.alloc).getD 0 }, b.1)

/-- The length of the image that a save of a group would write now. -/
def State.imageSize (s : State) (h : Nat) (g : Group) (compressed : Bool) (stash : Option Block) : Nat :=
  (s.imageOf h (s.asSaved h g) compressed stash 0).1.length

/-- The protected saves that have been started and have no seal yet. -/
def State.savesToSeal (s : State) : Nat :=
  (s.fw.saves.filter fun o => !o.restore && ((s.group o.group).map fun g => (s.ctxOf g.ctx).prot).getD false).length

/-- PSAVE's operation (DESIGN CHOICE, log 57). -/
def State.save (s : State) (g : Group) (opts word place : W64) : State × W64 :=
  let h := word.toNat
  let die := dieOf g.core
  if 4 ≤ opts.toNat ∨ 2 ^ 28 ≤ h then (s, saveStatus 1)
  else if !s.dieRuns (h / 2 ^ 26) then (s, saveStatus 1)
  else
    match s.group h with
    | none => (s, saveStatus 2)
    | some m =>
      let compressed := opts.getLsbD 0
      let stay := s.savesLazily m compressed
      if m.privileged || m.state == .saved || m.state == .done || m.state == .halted then (s, saveStatus 2)
      else if !s.hostSaves m && !stay && !placeOk place (s.imageSize h m compressed (s.savedStash h m (opts.getLsbD 1))) then
        (s, saveStatus 1)
      else if 1024 ≤ (s.fwQueue die).length ∨ s.saving h then (s, saveStatus 3)
      else if (s.ctxOf m.ctx).prot ∧ 65536 ≤ s.trust.seals.length + s.savesToSeal then
        (s.errorRecord die 8 0x0406 2 (leBytes 4 m.ctx.toNat ++ leBytes 4 h), saveStatus 3)
      else
        s.startSave { op := 0, die := die, group := h, compressed := compressed, stash := opts.getLsbD 1, restore := false,
                      stay := stay, place := place, asked := none,
                      retryAt := if s.hostSaves m && !stay then some (s.tickOf die) else none }

/-- PSAVE (R282). -/
def execPsave (y : Bool) (d : Fld) (a : Fld) (b : Fld) (s : State) : Res :=
  s.firmware y d fun g => s.save g (g.rs d.toNat) (g.rs a.toNat) (g.rs b.toNat)

/-! ### PREST (R282, 09 R166) -/

/-- The bytes at a place: of the host's memory, or of the firmware region of a die. -/
def State.placeBytes (s : State) (die : Nat) (place : W64) (n : Nat) : List Byte :=
  let at_ := bits place 62 0
  if place.getLsbD 63 then (List.range n).map fun i => Sparse.get 0 s.host.memory (at_ + i) else s.fwBytes die at_ n

/-- Write an image to its place: in host memory it leaves the chip. -/
def State.putPlace (s : State) (die : Nat) (place : W64) (b : List Byte) : State :=
  let at_ := bits place 62 0
  if place.getLsbD 63 then
    { s with host := { s.host with memory := Sparse.setAll 0 s.host.memory ((List.range b.length).map fun i => (at_ + i, b.getD i 0)) }
             outbox := s.outbox ++ [.hostWrite (BitVec.ofNat 64 at_) b] }
  else s.putFwBytes die at_ b

/-- Ask the host for a destination or a source (R165) (DESIGN CHOICE, log 59). -/
def State.askPlace (s : State) (o : SaveOp) (g : Group) : State :=
  let size := if o.restore then 0 else s.imageSize o.group g o.compressed (s.savedStash o.group g o.stash)
  let id := s.host.svcNext
  let body := leBytes 1 o.restore.toNat ++ leBytes 3 0 ++ leBytes 4 g.ctx.toNat ++ leBytes 4 o.group ++ leBytes 4 0
    ++ leBytes 8 size
  let s := s.serviceRequest 1 o.die (s.ctxOf g.ctx).part body
  { s with fw := { s.fw with saves := s.fw.saves.map fun p =>
      if p.op == o.op then { p with asked := some id, retryAt := none } else p } }

/-- PREST's operation. -/
def State.restore (s : State) (g : Group) (opts word place : W64) : State × W64 :=
  let h := word.toNat
  let die := dieOf g.core
  if opts ≠ 0 ∨ 2 ^ 28 ≤ h then (s, saveStatus 1)
  else if !s.dieRuns (h / 2 ^ 26) then (s, saveStatus 1)
  else
    match s.group h with
    | none => (s, saveStatus 2)
    | some m =>
      let ask := s.hostSaves m && !m.lazy
      if m.state ≠ .saved then (s, saveStatus 2)
      else if !ask && !m.lazy && !placeOk place 64 then (s, saveStatus 1)
      else if 1024 ≤ (s.fwQueue die).length ∨ s.saving h then (s, saveStatus 3)
      else
        s.startSave { op := 0, die := die, group := h, compressed := false, stash := false, restore := true, stay := m.lazy,
                      place := place, asked := none, retryAt := if ask then some (s.tickOf die) else none }

/-- PREST (R282). -/
def execPrest (y : Bool) (d : Fld) (a : Fld) (b : Fld) (s : State) : Res :=
  s.firmware y d fun g => s.restore g (g.rs d.toNat) (g.rs a.toNat) (g.rs b.toNat)

/-! ### Completion (R283, 09 R159-R166) -/

/-- The operation with an id. -/
def State.saveOp (s : State) (op : BitVec 16) : Option SaveOp := s.fw.saves.find? fun o => o.op == op

/-- End an operation with a completion entry (DESIGN CHOICE, log 57). -/
def State.endSave (s : State) (o : SaveOp) (status : Nat) (ctx : BitVec 20) (length : Nat) : State :=
  let s := { s with fw := { s.fw with saves := s.fw.saves.filter fun p => p.op != o.op } }
  s.pushFw o.die
    { kind := if o.restore then 3 else 2, status := BitVec.ofNat 8 status, weir := 0xFFFF, ctx := ctx.setWidth 32,
      object := (s.fab.self.setWidth 64 <<< 52) ||| (BitVec.ofNat 64 o.group <<< 24), offset := BitVec.ofNat 64 length,
      faultKind := 0, op := o.op }

/-- SAVE_RETRY (R165): the host is asked for a place, first when the group has stopped and drained, and again 10^5 ticks after
it refused one. -/
def execSaveRetry (grp : Nat) (s : State) : Res :=
  match s.fw.saves.find? fun o => o.group == grp, s.group grp with
  | some o, some g =>
    let due := match o.retryAt with
      | none => false
      | some t => decide (t.toNat ≤ (s.tickOf o.die).toNat)
    if !due || !(o.restore || s.stopped grp g) then .next s
    else
      let s := if o.restore then s else s.drain grp
      .next (match s.group grp with
        | none => s
        | some g => s.askPlace o g)
  | _, _ => .next s

/-- Write a group out (R159 step 4, R164; 04 R79): the group leaves its core, the image of a protected one is sealed under
the next save counter and recorded in the seal table, and the image goes to its place (DESIGN CHOICE, log 58). -/
def State.writeImage (s : State) (o : SaveOp) (g : Group) : State :=
  let h := o.group
  let d := s.ctxOf g.ctx
  let stash := s.savedStash h g o.stash
  match s.saveGroup h o.stay with
  | (t, false) => t
  | (t, true) =>
    if o.stay then t.endSave o 0 g.ctx 0
    else
      let c : W64 := if d.prot then d.counter + 1 else 0
      let t := if d.prot then { t with trust := { t.trust with
          ctxs := Sparse.set {} t.trust.ctxs g.ctx.toNat { d with counter := c }
          seals := (t.trust.seals.filter fun e => e.object.toNat != h)
            ++ [{ ctx := g.ctx, object := BitVec.ofNat 28 h, counter := c, gen := (t.keySlot d.slot.toNat).gen }] } } else t
      let i := t.imageOf h ((t.group h).getD g) o.compressed stash c
      (t.putPlace o.die o.place (i.1.image (t.keySlot d.slot.toNat).subkeys.saveSeal i.2)).endSave o 0 g.ctx i.1.length

/-- SAVE_DONE (R159-R164): a stopped group is written out. A group that ended meanwhile completes as refused. -/
def execSaveDone (op : BitVec 16) (s : State) : Res :=
  match s.saveOp op with
  | none => .next s
  | some o =>
    if o.restore || o.asked.isSome || o.retryAt.isSome || decide (1024 ≤ (s.fwQueue o.die).length) then .next s
    else
      match s.group o.group with
      | none => .next (s.endSave o 1 0 0)
      | some g =>
        if g.state = .done ∨ g.state = .halted then .next (s.endSave o 1 g.ctx 0)
        else if !s.stopped o.group g then .next s
        else
          let s := s.drain o.group
          match s.group o.group with
          | none => .next s
          | some g => .next (if g.state = .done ∨ g.state = .halted then s.endSave o 1 g.ctx 0 else s.writeImage o g)

/-- A refused restore: the error record and the completion; the group stays SAVED. -/
def State.refuseImage (s : State) (o : SaveOp) (g : Group) (code : BitVec 16) : State :=
  let s := s.errorRecord o.die 8 code 2 (leBytes 4 g.ctx.toNat ++ leBytes 4 o.group)
  s.endSave o (code.toNat % 256) g.ctx 0

/-- Whether a slice's park has ended by what holds now (R159): the phase of its barrier has advanced, its gate is open, its
batch has completed; and a switch point or register miss that a save ended (DESIGN CHOICE, log 58; DEDUCED, log 84). -/
def State.parkOver (s : State) (g : Group) (sl : Slice) : Bool :=
  match sl.park with
  | .barrier => match s.block g.block with
    | none => false
    | some b => (b.barrier sl.arg.toNat).phase != sl.phase
  | .gate => g.task || !(s.conf.grid g.grid.toNat).gated
  | .waitb => (g.batch.find sl.arg).isSome
  | .switchPoint | .registerMiss => true
  | _ => false

/-- The parks of a group that is to issue again, and its results that arrived while it was saved (DEDUCED, log 84). -/
def State.settleParks (s : State) (g : Group) : Group :=
  let g := g.mapSlices (fun _ sl => sl.ready) (g.live.filter fun i => s.parkOver g (g.slice i))
  g.flush (List.range g.sliceCount)

/-- Put an image back: its lines in the context object, its stash allocation in the block's pages, the state RELEASED, and the
seal removed (R166; 04 R79). The flag is false when a page of the object faulted. -/
def State.reinstate (s : State) (o : SaveOp) (live : Group) (i : ImageHead) (lines : List (List Byte))
    (stash : List (Nat × Byte)) : State :=
  let h := o.group
  match s.mayStore h live (List.range live.ctxLines) with
  | some t => t
  | none =>
    let g := (live.takeImage lines).takeParks live
    let g := s.settleParks { g with state := .released, savedFrom := .created, present := [], spilled := [], lazy := false }
    let s := { s with trust := { s.trust with seals := s.trust.seals.filter fun e => e.object.toNat != h } }
    let s := match i.withStash, s.block live.block with
      | true, some b => s.putBlock live.block { b with stash := Sparse.setAll 0 [] stash, tags := [], poison := [] }
      | _, _ => s
    let s := s.storeLines h g (List.range g.ctxLines)
    (s.putGroup h g).endSave o 0 g.ctx i.length

/-- A group that was saved in place resumes: its lines still present are used without fill (R161). -/
def State.resume (s : State) (o : SaveOp) (g : Group) : State :=
  (s.putGroup o.group (s.settleParks { g with state := .released, savedFrom := .created })).endSave o 0 g.ctx 0

/-- RESTORE_DONE (R166, R79): the checks of the image in order, and the group is put back. -/
def execRestoreDone (op : BitVec 16) (s : State) : Res :=
  match s.saveOp op with
  | none => .next s
  | some o =>
    if !o.restore || o.asked.isSome || o.retryAt.isSome || decide (1024 ≤ (s.fwQueue o.die).length) then .next s
    else
      match s.group o.group with
      | none => .next (s.endSave o 1 0 0)
      | some g =>
        if g.state ≠ .saved then .next (s.endSave o 1 g.ctx 0)
        else if o.stay then .next (s.resume o g)
        else
          let d := s.ctxOf g.ctx
          match parseHead (s.placeBytes o.die o.place 64) with
          | none => .next (s.refuseImage o g 0x0901)
          | some i =>
            let k := s.keySlot d.slot.toNat
            let entry := s.trust.seals.find? fun e => e.object.toNat == o.group && e.ctx == g.ctx && e.counter == i.counter
            let gen := (entry.map Seal.gen).getD 0
            let held := !k.destroyed && (k.gen == gen || (k.prev.map Prod.fst) == some gen)
            let tail := 64 + (if i.sealed then 16 else 0)
            let own := s.savedStash o.group g true
            if i.object ≠ o.group ∨ i.ctx ≠ g.ctx.toNat ∨ i.sealed ≠ d.prot ∨ (i.sealed ∧ i.chip ≠ s.fab.self.toNat)
                ∨ i.length < tail ∨ 2 ^ 32 ≤ i.length ∨ !placeOk o.place i.length ∨ (i.withStash ∧ own.isNone)
                ∨ !i.fits g ((own.map Block.alloc).getD 0) then
              .next (s.refuseImage o g 0x0901)
            else if i.sealed && entry.isNone then .next (s.refuseImage o g 0x0404)
            else
              let rest := (s.placeBytes o.die o.place i.length).drop 64
              match i.open (subkeys (k.keyOfGen gen) k.ctx gen).saveSeal rest with
              | none => .next (s.refuseImage o g 0x0405)
              | some body =>
                if i.sealed && !held then .next (s.refuseImage o g 0x0405)
                else
                  match i.parts g d.prot ((own.map Block.alloc).getD 0) body with
                  | none => .next (s.refuseImage o g 0x0901)
                  | some p => .next (s.reinstate o g i p.1 p.2)

end Sys2Proof.Machine
end

