-- ==== Sys2Proof/Machine/Lines.lean ====
section
/-! DEFINITION. The registers that an instruction reads or writes: the context lines that must be present before it is issued
(09 R153). -/

namespace Sys2Proof.Machine

/-- One register. -/
def useOne (n : Fld) : List Nat := [n.toNat]
/-- A run of k registers. -/
def useRun (k : Nat) (n : Fld) : List Nat := (List.range k).map fun i => n.toNat + i
/-- A pair. -/
def usePair (n : Fld) : List Nat := useRun 2 n
/-- A register, or a pair when the form is 64 bits wide. -/
def useVal (wide : Bool) (n : Fld) : List Nat := if wide then usePair n else useOne n

/-- The run of registers that hold the A operand of MX.R (18 R335). -/
def Group.mxRun (g : Group) (slices : List Nat) (a b : Nat) : List Nat :=
  let w := g.rv a ((g.active slices).headD (4 * slices.headD 0))
  match dimsOf (g.rs b) with
  | none => []
  | some (_, _, k, _) => (List.range ((rowBytes w (fmtA w) k + 3) / 4)).map fun i => bits (g.rs (b + 1)) 6 0 + i

/-- The window positions of vector registers that an instruction of some slices uses. -/
def Group.vecUse (g : Group) (slices : List Nat) (i : Instr) : List Nat :=
  match i with
  | .powerOn _ => []
  | .coldReset _ => []
  | .warmReset _ => []
  | .bootRomStart _ => []
  | .powerWindow _ => []
  | .thermalStep _ => []
  | .thermalHold _ _ => []
  | .thermtrip _ => []
  | .hostModuleTraining _ => []
  | .submitWrite _ => []
  | .submitBufferDrain => []
  | .subdropRead _ => []
  | .errlostRead _ => []
  | .errtailWrite _ => []
  | .svctailWrite _ => []
  | .pmodeWrite _ => []
  | .hostRegisterWrite _ => []
  | .serviceReply _ => []
  | .serviceRequest => []
  | .svclate _ => []
  | .attest _ => []
  | .loadrun _ => []
  | .update _ => []
  | .raisemin _ => []
  | .badCommand _ => []
  | .kemkey _ => []
  | .ctxopen _ => []
  | .keyload _ => []
  | .ctxclose _ => []
  | .erase _ => []
  | .sweep _ => []
  | .receipt _ => []
  | .rekey _ => []
  | .mailboxComplete => []
  | .fwdog _ => []
  | .dieDrop _ => []
  | .errorRetry _ => []
  | .dataFrame _ _ => []
  | .idleFrame _ _ => []
  | .retryRequest _ _ => []
  | .portRetrain _ => []
  | .portDown _ => []
  | .portTrained _ => []
  | .read _ => []
  | .write _ => []
  | .atomic _ => []
  | .cpyput _ => []
  | .task _ => []
  | .readresp _ => []
  | .writeack _ => []
  | .atomresp _ => []
  | .seqack _ => []
  | .seqackTimer _ => []
  | .pairBreak _ => []
  | .mcwrite _ => []
  | .mcreply _ => []
  | .redresult _ => []
  | .swattest _ => []
  | .event _ => []
  | .tailFetch => []
  | .tailRequest _ _ _ _ => []
  | .tailData _ _ _ => []
  | .snapshotRequest _ _ _ => []
  | .snapshotData _ _ _ => []
  | .notHeld _ _ => []
  | .transferTimeout => []
  | .submit => []
  | .fire => []
  | .finishBlocksEnded => []
  | .signalOrDone _ => []
  | .finishSignalWritten => []
  | .block => []
  | .resume => []
  | .release => []
  | .fault => []
  | .share => []
  | .loss => []
  | .admitChip => []
  | .expel => []
  | .capacity => []
  | .soundDigest => []
  | .soundClose => []
  | .soundVerdict => []
  | .soundwaitExpiry => []
  | .expelwaitExpiry _ => []
  | .rejoin => []
  | .nosnapshot => []
  | .blockStart _ => []
  | .dormancy _ => []
  | .blockEnd _ => []
  | .taskGroupTimeout _ => []
  | .activation _ => []
  | .registerFill _ => []
  | .contextFault _ _ => []
  | .resultWrite _ => []
  | .trapDelivery _ => []
  | .quiescenceRelease _ _ => []
  | .waitReread _ _ => []
  | .waitDeadline _ _ => []
  | .sleepDeadline _ _ => []
  | .weirRequest => []
  | .walkComplete _ _ => []
  | .pageFaultWake _ _ _ => []
  | .pageFaultRefusal _ _ _ => []
  | .noWakeReplay _ => []
  | .localtimeout _ => []
  | .publishComplete _ => []
  | .engineComplete _ _ => []
  | .messageArrival _ _ => []
  | .saveDone _ => []
  | .restoreDone _ => []
  | .saveRetry _ => []
  | .thermalHoldEnd _ => []
  | .candidateSilence => []
  | .firmwareReadiness _ => []
  | .sadd _ _ _ _ => []
  | .ssub _ _ _ _ => []
  | .smul _ _ _ _ => []
  | .smulhI _ _ _ _ => []
  | .smulhN _ _ _ _ => []
  | .sdivI _ _ _ _ => []
  | .sdivN _ _ _ _ => []
  | .sremI _ _ _ _ => []
  | .sremN _ _ _ _ => []
  | .sand _ _ _ _ => []
  | .sor _ _ _ _ => []
  | .sxor _ _ _ _ => []
  | .sandn _ _ _ _ => []
  | .sshl _ _ _ _ => []
  | .sshrN _ _ _ _ => []
  | .sshrI _ _ _ _ => []
  | .sror _ _ _ _ => []
  | .sminI _ _ _ _ => []
  | .sminN _ _ _ _ => []
  | .smaxI _ _ _ _ => []
  | .smaxN _ _ _ _ => []
  | .sseq _ _ _ _ => []
  | .ssne _ _ _ _ => []
  | .ssltI _ _ _ _ => []
  | .ssltN _ _ _ _ => []
  | .ssleI _ _ _ _ => []
  | .ssleN _ _ _ _ => []
  | .spopc _ _ _ => []
  | .sclz _ _ _ => []
  | .sctz _ _ _ => []
  | .slea4 _ _ _ _ => []
  | .slea8 _ _ _ _ => []
  | .saddi _ _ _ _ => []
  | .sandi _ _ _ _ => []
  | .sori _ _ _ _ => []
  | .sxori _ _ _ _ => []
  | .sshli _ _ _ _ => []
  | .sshriN _ _ _ _ => []
  | .sshriI _ _ _ _ => []
  | .ssltiI _ _ _ _ => []
  | .vadd _ d a b => useOne d ++ useOne a ++ useOne b
  | .vsub _ d a b => useOne d ++ useOne a ++ useOne b
  | .vmul _ d a b => useOne d ++ useOne a ++ useOne b
  | .vmulhI _ d a b => useOne d ++ useOne a ++ useOne b
  | .vmulhN _ d a b => useOne d ++ useOne a ++ useOne b
  | .vaddsI _ d a b => useOne d ++ useOne a ++ useOne b
  | .vaddsN _ d a b => useOne d ++ useOne a ++ useOne b
  | .vsubsI _ d a b => useOne d ++ useOne a ++ useOne b
  | .vsubsN _ d a b => useOne d ++ useOne a ++ useOne b
  | .vand _ d a b => useOne d ++ useOne a ++ useOne b
  | .vor _ d a b => useOne d ++ useOne a ++ useOne b
  | .vxor _ d a b => useOne d ++ useOne a ++ useOne b
  | .vandn _ d a b => useOne d ++ useOne a ++ useOne b
  | .vshl _ d a b => useOne d ++ useOne a ++ useOne b
  | .vshrN _ d a b => useOne d ++ useOne a ++ useOne b
  | .vshrI _ d a b => useOne d ++ useOne a ++ useOne b
  | .vminI _ d a b => useOne d ++ useOne a ++ useOne b
  | .vminN _ d a b => useOne d ++ useOne a ++ useOne b
  | .vmaxI _ d a b => useOne d ++ useOne a ++ useOne b
  | .vmaxN _ d a b => useOne d ++ useOne a ++ useOne b
  | .vdot4I8 _ d a b => useOne d ++ useOne a ++ useOne b
  | .vdot4N8 _ d a b => useOne d ++ useOne a ++ useOne b
  | .vpopc _ d a => useOne d ++ useOne a
  | .vclz _ d a => useOne d ++ useOne a
  | .vceq _ _ a b => useOne a ++ useOne b
  | .vcne _ _ a b => useOne a ++ useOne b
  | .vcltI _ _ a b => useOne a ++ useOne b
  | .vcltN _ _ a b => useOne a ++ useOne b
  | .vcleI _ _ a b => useOne a ++ useOne b
  | .vcleN _ _ a b => useOne a ++ useOne b
  | .vmov _ d a => useOne d ++ useOne a
  | .vdup _ d _ => useOne d
  | .vaddI64 _ d a b => usePair d ++ usePair a ++ usePair b
  | .vsubI64 _ d a b => usePair d ++ usePair a ++ usePair b
  | .vshlI64 _ d a b => usePair d ++ usePair a ++ useOne b
  | .vshrN64 _ d a b => usePair d ++ usePair a ++ useOne b
  | .vshrI64 _ d a b => usePair d ++ usePair a ++ useOne b
  | .vaddi _ d a _ => useOne d ++ useOne a
  | .vandi _ d a _ => useOne d ++ useOne a
  | .vori _ d a _ => useOne d ++ useOne a
  | .vxori _ d a _ => useOne d ++ useOne a
  | .vshli _ d a _ => useOne d ++ useOne a
  | .vshriN _ d a _ => useOne d ++ useOne a
  | .vshriI _ d a _ => useOne d ++ useOne a
  | .vmovi _ d _ => useOne d
  | .fadd _ f d a b => useVal f d ++ useVal f a ++ useVal f b
  | .fsub _ f d a b => useVal f d ++ useVal f a ++ useVal f b
  | .fmul _ f d a b => useVal f d ++ useVal f a ++ useVal f b
  | .ffma _ f d a b => useVal f d ++ useVal f a ++ useVal f b
  | .ffms _ f d a b => useVal f d ++ useVal f a ++ useVal f b
  | .fmin _ f d a b => useVal f d ++ useVal f a ++ useVal f b
  | .fmax _ f d a b => useVal f d ++ useVal f a ++ useVal f b
  | .fabs _ f d a => useVal f d ++ useVal f a
  | .fneg _ f d a => useVal f d ++ useVal f a
  | .fceq _ f _ a b => useVal f a ++ useVal f b
  | .fclt _ f _ a b => useVal f a ++ useVal f b
  | .fcle _ f _ a b => useVal f a ++ useVal f b
  | .fcun _ f _ a b => useVal f a ++ useVal f b
  | .fdiv _ f d a b => useVal f d ++ useVal f a ++ useVal f b
  | .fsqrt _ f d a => useVal f d ++ useVal f a
  | .frnd _ f d a => useVal f d ++ useVal f a
  | .faddRn _ f d a b => useVal f d ++ useVal f a ++ useVal f b
  | .fsubRn _ f d a b => useVal f d ++ useVal f a ++ useVal f b
  | .fmulRn _ f d a b => useVal f d ++ useVal f a ++ useVal f b
  | .ffmaRn _ f d a b => useVal f d ++ useVal f a ++ useVal f b
  | .frcp _ d a => useOne d ++ useOne a
  | .frsq _ d a => useOne d ++ useOne a
  | .fexp2 _ d a => useOne d ++ useOne a
  | .flog2 _ d a => useOne d ++ useOne a
  | .fsin _ d a => useOne d ++ useOne a
  | .fcos _ d a => useOne d ++ useOne a
  | .ftanh _ d a => useOne d ++ useOne a
  | .hadd2F16 _ d a b => useOne d ++ useOne a ++ useOne b
  | .hmul2F16 _ d a b => useOne d ++ useOne a ++ useOne b
  | .hfma2F16 _ d a b => useOne d ++ useOne a ++ useOne b
  | .hadd2Bf16 _ d a b => useOne d ++ useOne a ++ useOne b
  | .hmul2Bf16 _ d a b => useOne d ++ useOne a ++ useOne b
  | .hfma2Bf16 _ d a b => useOne d ++ useOne a ++ useOne b
  | .fcvt _ t d a _ _ c => useVal (isWideCode t) d ++ useVal (isWideCode c || isAffineCode t || isAffineCode c) a
  | .xshp _ _ _ _ => []
  | .xzero _ _ => []
  | .xidn _ _ => []
  | .xld _ _ _ _ b => useOne b
  | .xst _ _ _ _ b => useOne b
  | .xget _ f d _ _ _ => useVal f d
  | .xput _ f _ a _ _ => useVal f a
  | .xmov _ _ _ _ => []
  | .xtrn _ _ _ _ => []
  | .xadd _ _ _ _ _ => []
  | .xsub _ _ _ _ _ => []
  | .xscl _ f _ _ b => useVal f b
  | .xmul _ _ _ _ _ => []
  | .xmad _ _ _ _ _ => []
  | .xmult _ _ _ _ _ => []
  | .xmv _ _ _ _ _ => []
  | .xchol _ _ _ _ => []
  | .xlup _ _ _ _ => []
  | .xsolv _ _ _ _ _ => []
  | .xinv _ _ _ _ => []
  | .xdet _ f d _ => useVal f d
  | .xflag _ d => useOne d
  | .mand _ _ _ _ => []
  | .mor _ _ _ _ => []
  | .mxor _ _ _ _ => []
  | .mandn _ _ _ _ => []
  | .mnot _ _ _ => []
  | .mmov _ _ _ => []
  | .mpopc _ _ _ => []
  | .mfirst _ _ _ => []
  | .mswap _ _ _ => []
  | .mfromv _ _ a => useOne a
  | .mtov _ d _ => useOne d
  | .shflIdxW4 _ d a b => useOne d ++ useOne a ++ useOne b
  | .shflIdxW8 _ d a b => useOne d ++ useOne a ++ useOne b
  | .shflIdxW16 _ d a b => useOne d ++ useOne a ++ useOne b
  | .shflIdxW32 _ d a b => useOne d ++ useOne a ++ useOne b
  | .shflIdxW64 _ d a b => useOne d ++ useOne a ++ useOne b
  | .shflIdxW96 _ d a b => useOne d ++ useOne a ++ useOne b
  | .shflXorW4 _ d a _ => useOne d ++ useOne a
  | .shflXorW8 _ d a _ => useOne d ++ useOne a
  | .shflXorW16 _ d a _ => useOne d ++ useOne a
  | .shflXorW32 _ d a _ => useOne d ++ useOne a
  | .shflXorW64 _ d a _ => useOne d ++ useOne a
  | .shflXorW96 _ d a _ => useOne d ++ useOne a
  | .shflUpW4 _ d a _ => useOne d ++ useOne a
  | .shflUpW8 _ d a _ => useOne d ++ useOne a
  | .shflUpW16 _ d a _ => useOne d ++ useOne a
  | .shflUpW32 _ d a _ => useOne d ++ useOne a
  | .shflUpW64 _ d a _ => useOne d ++ useOne a
  | .shflUpW96 _ d a _ => useOne d ++ useOne a
  | .shflDnW4 _ d a _ => useOne d ++ useOne a
  | .shflDnW8 _ d a _ => useOne d ++ useOne a
  | .shflDnW16 _ d a _ => useOne d ++ useOne a
  | .shflDnW32 _ d a _ => useOne d ++ useOne a
  | .shflDnW64 _ d a _ => useOne d ++ useOne a
  | .shflDnW96 _ d a _ => useOne d ++ useOne a
  | .vbcastW4 _ d a _ => useOne d ++ useOne a
  | .vbcastW8 _ d a _ => useOne d ++ useOne a
  | .vbcastW16 _ d a _ => useOne d ++ useOne a
  | .vbcastW32 _ d a _ => useOne d ++ useOne a
  | .vbcastW64 _ d a _ => useOne d ++ useOne a
  | .vbcastW96 _ d a _ => useOne d ++ useOne a
  | .voteAny _ _ _ => []
  | .voteAll _ _ _ => []
  | .voteBal _ _ _ => []
  | .vredW4 _ d a _ _ => useOne d ++ useOne a
  | .vredW8 _ d a _ _ => useOne d ++ useOne a
  | .vredW16 _ d a _ _ => useOne d ++ useOne a
  | .vredW32 _ d a _ _ => useOne d ++ useOne a
  | .vredW64 _ d a _ _ => useOne d ++ useOne a
  | .vredW96 _ d a _ _ => useOne d ++ useOne a
  | .vscanW4 _ d a _ _ => useOne d ++ useOne a
  | .vscanW8 _ d a _ _ => useOne d ++ useOne a
  | .vscanW16 _ d a _ _ => useOne d ++ useOne a
  | .vscanW32 _ d a _ _ => useOne d ++ useOne a
  | .vscanW64 _ d a _ _ => useOne d ++ useOne a
  | .vscanW96 _ d a _ _ => useOne d ++ useOne a
  | .ldI _ w d _ b => useVal (w == 3) d ++ useOne b
  | .ldN _ w d _ b => useVal (w == 3) d ++ useOne b
  | .sldI _ _ _ _ _ => []
  | .sldN _ _ _ _ _ => []
  | .ldx _ w d _ b => useVal (w == 3) d ++ usePair b
  | .cld _ _ _ _ => []
  | .ldLI _ w d _ b => useVal (w == 3) d ++ usePair b
  | .ldLN _ w d _ b => useVal (w == 3) d ++ usePair b
  | .ldAcq _ w _ d _ b => useVal (w == 3) d ++ useOne b
  | .sldAcq _ _ _ _ _ _ => []
  | .stN _ w d _ b => useVal (w == 3) d ++ useOne b
  | .sstN _ _ _ _ _ => []
  | .cst _ _ _ _ => []
  | .stLN _ w d _ b => useVal (w == 3) d ++ usePair b
  | .stRel _ w _ d _ b => useVal (w == 3) d ++ useOne b
  | .atomAdd _ t d _ _ _ b => useVal (t.getLsbD 1) d ++ useOne b
  | .atomAnd _ t d _ _ _ b => useVal (t.getLsbD 1) d ++ useOne b
  | .atomOr _ t d _ _ _ b => useVal (t.getLsbD 1) d ++ useOne b
  | .atomXor _ t d _ _ _ b => useVal (t.getLsbD 1) d ++ useOne b
  | .atomSwap _ t d _ _ _ b => useVal (t.getLsbD 1) d ++ useOne b
  | .atomCas _ t d _ _ _ b => useRun (if t.getLsbD 1 then 4 else 2) d ++ useOne b
  | .atomMin _ t d _ _ _ b => useVal (t.getLsbD 1) d ++ useOne b
  | .atomMax _ t d _ _ _ b => useVal (t.getLsbD 1) d ++ useOne b
  | .csub _ _ _ _ => []
  | .crgt _ _ _ _ => []
  | .cget _ _ _ _ => []
  | .cmov _ _ _ => []
  | .cclr _ _ => []
  | .cstash _ _ _ _ => []
  | .pref _ _ b => useOne b
  | .smap _ _ _ _ => []
  | .sunmap _ _ => []
  | .sflush _ _ => []
  | .fenceAcqGroup _ => []
  | .fenceAcqBlock _ => []
  | .fenceAcqChip _ => []
  | .fenceAcqPod _ => []
  | .fenceAcqSys _ => []
  | .fenceRelGroup _ => []
  | .fenceRelBlock _ => []
  | .fenceRelChip _ => []
  | .fenceRelPod _ => []
  | .fenceRelSys _ => []
  | .fenceFullGroup _ => []
  | .fenceFullBlock _ => []
  | .fenceFullChip _ => []
  | .fenceFullPod _ => []
  | .fenceFullSys _ => []
  | .barInit _ _ _ => []
  | .barArrive _ _ _ => []
  | .barExpect _ _ _ => []
  | .barWait _ _ _ => []
  | .barArriveW _ _ _ => []
  | .mxR _ _ a b => useOne a ++ (g.mxRun slices a.toNat b.toNat).filter g.inWindow
  | .mxS _ _ a _ => useOne a
  | .mxjob _ _ a _ => useOne a
  | .mxza _ _ => []
  | .mxlda _ _ a _ => useOne a
  | .mxst _ _ a _ => useOne a
  | .cpy _ _ _ _ => []
  | .cpyR _ _ _ _ => []
  | .coll _ _ _ _ => []
  | .nsend _ _ _ => []
  | .pub _ _ => []
  | .post _ _ _ b => useRun 10 b
  | .launch _ _ _ => []
  | .gate _ => []
  | .rlse _ => []
  | .bclose _ _ => []
  | .waitb _ _ => []
  | .arm _ _ _ _ => []
  | .br _ _ => []
  | .bsr _ _ => [126, 127]
  | .brcZ _ _ _ => []
  | .brcNz _ _ _ => []
  | .brmZ _ _ _ => []
  | .brmNz _ _ _ => []
  | .brcLt _ _ _ => []
  | .brcGe _ _ _ => []
  | .join _ _ => []
  | .wait _ _ _ => []
  | .winb _ _ => []
  | .call _ _ => [126, 127]
  | .ret _ => [126, 127]
  | .exit _ => []
  | .rgn _ => []
  | .rgnx _ => []
  | .yieldc _ => []
  | .sleep _ _ => []
  | .vdead _ _ _ => []
  | .jmp _ _ => []
  | .sli _ _ _ => []
  | .slis _ _ _ => []
  | .vli _ d _ => useOne d
  | .vlih _ d _ => useOne d
  | .tret _ => []
  | .pwleaf _ _ _ _ => []
  | .pobj _ _ _ _ => []
  | .pkey _ _ _ _ => []
  | .pwdog _ _ _ _ => []
  | .pmcset _ _ _ _ => []
  | .pevent _ _ _ _ => []
  | .psave _ _ _ _ => []
  | .prest _ _ _ _ => []
  | .pfq _ _ _ _ => []
  | .trap _ _ => []
  | .sysr _ d n => (if n.toNat = 0x012 then useOne d else [])
  | .sysw _ a n => (if n.toNat = 0x012 then useOne a else [])

/-- The sub-group of a lane operation, in visible lanes: 0 for any other instruction (16 R299). -/
def laneWidth (i : Instr) : Nat :=
  match i with
  | .shflIdxW4 _ _ _ _ => 4
  | .shflXorW4 _ _ _ _ => 4
  | .shflUpW4 _ _ _ _ => 4
  | .shflDnW4 _ _ _ _ => 4
  | .vbcastW4 _ _ _ _ => 4
  | .vredW4 _ _ _ _ _ => 4
  | .vscanW4 _ _ _ _ _ => 4
  | .shflIdxW8 _ _ _ _ => 8
  | .shflXorW8 _ _ _ _ => 8
  | .shflUpW8 _ _ _ _ => 8
  | .shflDnW8 _ _ _ _ => 8
  | .vbcastW8 _ _ _ _ => 8
  | .vredW8 _ _ _ _ _ => 8
  | .vscanW8 _ _ _ _ _ => 8
  | .shflIdxW16 _ _ _ _ => 16
  | .shflXorW16 _ _ _ _ => 16
  | .shflUpW16 _ _ _ _ => 16
  | .shflDnW16 _ _ _ _ => 16
  | .vbcastW16 _ _ _ _ => 16
  | .vredW16 _ _ _ _ _ => 16
  | .vscanW16 _ _ _ _ _ => 16
  | .shflIdxW32 _ _ _ _ => 32
  | .shflXorW32 _ _ _ _ => 32
  | .shflUpW32 _ _ _ _ => 32
  | .shflDnW32 _ _ _ _ => 32
  | .vbcastW32 _ _ _ _ => 32
  | .vredW32 _ _ _ _ _ => 32
  | .vscanW32 _ _ _ _ _ => 32
  | .shflIdxW64 _ _ _ _ => 64
  | .shflXorW64 _ _ _ _ => 64
  | .shflUpW64 _ _ _ _ => 64
  | .shflDnW64 _ _ _ _ => 64
  | .vbcastW64 _ _ _ _ => 64
  | .vredW64 _ _ _ _ _ => 64
  | .vscanW64 _ _ _ _ _ => 64
  | .shflIdxW96 _ _ _ _ => 96
  | .shflXorW96 _ _ _ _ => 96
  | .shflUpW96 _ _ _ _ => 96
  | .shflDnW96 _ _ _ _ => 96
  | .vbcastW96 _ _ _ _ => 96
  | .vredW96 _ _ _ _ _ => 96
  | .vscanW96 _ _ _ _ _ => 96
  | _ => 0

/-- The handle that a matrix command names. -/
def mxHandle (i : Instr) : Nat :=
  match i with
  | .mxR _ d _ _ => d.toNat
  | .mxS _ d _ _ => d.toNat
  | .mxjob _ d _ _ => d.toNat
  | .mxza _ d => d.toNat
  | .mxlda _ d _ _ => d.toNat
  | .mxst _ d _ _ => d.toNat
  | _ => 0

/-- Whether an instruction is a matrix command. -/
def isMx (i : Instr) : Bool :=
  match i with
  | .mxR _ _ _ _ => true
  | .mxS _ _ _ _ => true
  | .mxjob _ _ _ _ => true
  | .mxza _ _ => true
  | .mxlda _ _ _ _ => true
  | .mxst _ _ _ _ => true
  | _ => false

/-- Whether a group raises UND on an instruction before any context line is asked for (13 R230 rows 2 and 4): a register
outside the window or the group's x registers, a sub-group wider than the visible lanes, a handle at or above the a count. -/
def Group.malformed (g : Group) (slices : List Nat) (i : Instr) (xs : List Nat) : Bool :=
  (g.vecUse slices i).any (fun n => !g.inWindow n) || xs.any (fun k => decide (g.xCount ≤ k))
    || decide (g.visible < laneWidth i) || (isMx i && decide (g.aCount ≤ mxHandle i))

/-- The small-matrix registers that an instruction uses. -/
def matUse (i : Instr) : List Nat :=
  match i with
  | .powerOn _ => []
  | .coldReset _ => []
  | .warmReset _ => []
  | .bootRomStart _ => []
  | .powerWindow _ => []
  | .thermalStep _ => []
  | .thermalHold _ _ => []
  | .thermtrip _ => []
  | .hostModuleTraining _ => []
  | .submitWrite _ => []
  | .submitBufferDrain => []
  | .subdropRead _ => []
  | .errlostRead _ => []
  | .errtailWrite _ => []
  | .svctailWrite _ => []
  | .pmodeWrite _ => []
  | .hostRegisterWrite _ => []
  | .serviceReply _ => []
  | .serviceRequest => []
  | .svclate _ => []
  | .attest _ => []
  | .loadrun _ => []
  | .update _ => []
  | .raisemin _ => []
  | .badCommand _ => []
  | .kemkey _ => []
  | .ctxopen _ => []
  | .keyload _ => []
  | .ctxclose _ => []
  | .erase _ => []
  | .sweep _ => []
  | .receipt _ => []
  | .rekey _ => []
  | .mailboxComplete => []
  | .fwdog _ => []
  | .dieDrop _ => []
  | .errorRetry _ => []
  | .dataFrame _ _ => []
  | .idleFrame _ _ => []
  | .retryRequest _ _ => []
  | .portRetrain _ => []
  | .portDown _ => []
  | .portTrained _ => []
  | .read _ => []
  | .write _ => []
  | .atomic _ => []
  | .cpyput _ => []
  | .task _ => []
  | .readresp _ => []
  | .writeack _ => []
  | .atomresp _ => []
  | .seqack _ => []
  | .seqackTimer _ => []
  | .pairBreak _ => []
  | .mcwrite _ => []
  | .mcreply _ => []
  | .redresult _ => []
  | .swattest _ => []
  | .event _ => []
  | .tailFetch => []
  | .tailRequest _ _ _ _ => []
  | .tailData _ _ _ => []
  | .snapshotRequest _ _ _ => []
  | .snapshotData _ _ _ => []
  | .notHeld _ _ => []
  | .transferTimeout => []
  | .submit => []
  | .fire => []
  | .finishBlocksEnded => []
  | .signalOrDone _ => []
  | .finishSignalWritten => []
  | .block => []
  | .resume => []
  | .release => []
  | .fault => []
  | .share => []
  | .loss => []
  | .admitChip => []
  | .expel => []
  | .capacity => []
  | .soundDigest => []
  | .soundClose => []
  | .soundVerdict => []
  | .soundwaitExpiry => []
  | .expelwaitExpiry _ => []
  | .rejoin => []
  | .nosnapshot => []
  | .blockStart _ => []
  | .dormancy _ => []
  | .blockEnd _ => []
  | .taskGroupTimeout _ => []
  | .activation _ => []
  | .registerFill _ => []
  | .contextFault _ _ => []
  | .resultWrite _ => []
  | .trapDelivery _ => []
  | .quiescenceRelease _ _ => []
  | .waitReread _ _ => []
  | .waitDeadline _ _ => []
  | .sleepDeadline _ _ => []
  | .weirRequest => []
  | .walkComplete _ _ => []
  | .pageFaultWake _ _ _ => []
  | .pageFaultRefusal _ _ _ => []
  | .noWakeReplay _ => []
  | .localtimeout _ => []
  | .publishComplete _ => []
  | .engineComplete _ _ => []
  | .messageArrival _ _ => []
  | .saveDone _ => []
  | .restoreDone _ => []
  | .saveRetry _ => []
  | .thermalHoldEnd _ => []
  | .candidateSilence => []
  | .firmwareReadiness _ => []
  | .sadd _ _ _ _ => []
  | .ssub _ _ _ _ => []
  | .smul _ _ _ _ => []
  | .smulhI _ _ _ _ => []
  | .smulhN _ _ _ _ => []
  | .sdivI _ _ _ _ => []
  | .sdivN _ _ _ _ => []
  | .sremI _ _ _ _ => []
  | .sremN _ _ _ _ => []
  | .sand _ _ _ _ => []
  | .sor _ _ _ _ => []
  | .sxor _ _ _ _ => []
  | .sandn _ _ _ _ => []
  | .sshl _ _ _ _ => []
  | .sshrN _ _ _ _ => []
  | .sshrI _ _ _ _ => []
  | .sror _ _ _ _ => []
  | .sminI _ _ _ _ => []
  | .sminN _ _ _ _ => []
  | .smaxI _ _ _ _ => []
  | .smaxN _ _ _ _ => []
  | .sseq _ _ _ _ => []
  | .ssne _ _ _ _ => []
  | .ssltI _ _ _ _ => []
  | .ssltN _ _ _ _ => []
  | .ssleI _ _ _ _ => []
  | .ssleN _ _ _ _ => []
  | .spopc _ _ _ => []
  | .sclz _ _ _ => []
  | .sctz _ _ _ => []
  | .slea4 _ _ _ _ => []
  | .slea8 _ _ _ _ => []
  | .saddi _ _ _ _ => []
  | .sandi _ _ _ _ => []
  | .sori _ _ _ _ => []
  | .sxori _ _ _ _ => []
  | .sshli _ _ _ _ => []
  | .sshriN _ _ _ _ => []
  | .sshriI _ _ _ _ => []
  | .ssltiI _ _ _ _ => []
  | .vadd _ _ _ _ => []
  | .vsub _ _ _ _ => []
  | .vmul _ _ _ _ => []
  | .vmulhI _ _ _ _ => []
  | .vmulhN _ _ _ _ => []
  | .vaddsI _ _ _ _ => []
  | .vaddsN _ _ _ _ => []
  | .vsubsI _ _ _ _ => []
  | .vsubsN _ _ _ _ => []
  | .vand _ _ _ _ => []
  | .vor _ _ _ _ => []
  | .vxor _ _ _ _ => []
  | .vandn _ _ _ _ => []
  | .vshl _ _ _ _ => []
  | .vshrN _ _ _ _ => []
  | .vshrI _ _ _ _ => []
  | .vminI _ _ _ _ => []
  | .vminN _ _ _ _ => []
  | .vmaxI _ _ _ _ => []
  | .vmaxN _ _ _ _ => []
  | .vdot4I8 _ _ _ _ => []
  | .vdot4N8 _ _ _ _ => []
  | .vpopc _ _ _ => []
  | .vclz _ _ _ => []
  | .vceq _ _ _ _ => []
  | .vcne _ _ _ _ => []
  | .vcltI _ _ _ _ => []
  | .vcltN _ _ _ _ => []
  | .vcleI _ _ _ _ => []
  | .vcleN _ _ _ _ => []
  | .vmov _ _ _ => []
  | .vdup _ _ _ => []
  | .vaddI64 _ _ _ _ => []
  | .vsubI64 _ _ _ _ => []
  | .vshlI64 _ _ _ _ => []
  | .vshrN64 _ _ _ _ => []
  | .vshrI64 _ _ _ _ => []
  | .vaddi _ _ _ _ => []
  | .vandi _ _ _ _ => []
  | .vori _ _ _ _ => []
  | .vxori _ _ _ _ => []
  | .vshli _ _ _ _ => []
  | .vshriN _ _ _ _ => []
  | .vshriI _ _ _ _ => []
  | .vmovi _ _ _ => []
  | .fadd _ _ _ _ _ => []
  | .fsub _ _ _ _ _ => []
  | .fmul _ _ _ _ _ => []
  | .ffma _ _ _ _ _ => []
  | .ffms _ _ _ _ _ => []
  | .fmin _ _ _ _ _ => []
  | .fmax _ _ _ _ _ => []
  | .fabs _ _ _ _ => []
  | .fneg _ _ _ _ => []
  | .fceq _ _ _ _ _ => []
  | .fclt _ _ _ _ _ => []
  | .fcle _ _ _ _ _ => []
  | .fcun _ _ _ _ _ => []
  | .fdiv _ _ _ _ _ => []
  | .fsqrt _ _ _ _ => []
  | .frnd _ _ _ _ => []
  | .faddRn _ _ _ _ _ => []
  | .fsubRn _ _ _ _ _ => []
  | .fmulRn _ _ _ _ _ => []
  | .ffmaRn _ _ _ _ _ => []
  | .frcp _ _ _ => []
  | .frsq _ _ _ => []
  | .fexp2 _ _ _ => []
  | .flog2 _ _ _ => []
  | .fsin _ _ _ => []
  | .fcos _ _ _ => []
  | .ftanh _ _ _ => []
  | .hadd2F16 _ _ _ _ => []
  | .hmul2F16 _ _ _ _ => []
  | .hfma2F16 _ _ _ _ => []
  | .hadd2Bf16 _ _ _ _ => []
  | .hmul2Bf16 _ _ _ _ => []
  | .hfma2Bf16 _ _ _ _ => []
  | .fcvt _ _ _ _ _ _ _ => []
  | .xshp _ d _ _ => useOne d
  | .xzero _ d => useOne d
  | .xidn _ d => useOne d
  | .xld _ f d _ _ => useVal f d
  | .xst _ f d _ _ => useVal f d
  | .xget _ f _ a _ _ => useVal f a
  | .xput _ f d _ _ _ => useVal f d
  | .xmov _ f d a => useVal f d ++ useVal f a
  | .xtrn _ f d a => useVal f d ++ useVal f a
  | .xadd _ f d a b => useVal f d ++ useVal f a ++ useVal f b
  | .xsub _ f d a b => useVal f d ++ useVal f a ++ useVal f b
  | .xscl _ f d a _ => useVal f d ++ useVal f a
  | .xmul _ f d a b => useVal f d ++ useVal f a ++ useVal f b
  | .xmad _ f d a b => useVal f d ++ useVal f a ++ useVal f b
  | .xmult _ f d a b => useVal f d ++ useVal f a ++ useVal f b
  | .xmv _ f d a b => useVal f d ++ useVal f a ++ useVal f b
  | .xchol _ f d a => useVal f d ++ useVal f a
  | .xlup _ f d a => useRun (if f then 4 else 2) d ++ useVal f a
  | .xsolv _ f d a b => useVal f d ++ useVal f a ++ useVal f b
  | .xinv _ f d a => useVal f d ++ useVal f a
  | .xdet _ f _ a => useVal f a
  | .xflag _ _ => []
  | .mand _ _ _ _ => []
  | .mor _ _ _ _ => []
  | .mxor _ _ _ _ => []
  | .mandn _ _ _ _ => []
  | .mnot _ _ _ => []
  | .mmov _ _ _ => []
  | .mpopc _ _ _ => []
  | .mfirst _ _ _ => []
  | .mswap _ _ _ => []
  | .mfromv _ _ _ => []
  | .mtov _ _ _ => []
  | .shflIdxW4 _ _ _ _ => []
  | .shflIdxW8 _ _ _ _ => []
  | .shflIdxW16 _ _ _ _ => []
  | .shflIdxW32 _ _ _ _ => []
  | .shflIdxW64 _ _ _ _ => []
  | .shflIdxW96 _ _ _ _ => []
  | .shflXorW4 _ _ _ _ => []
  | .shflXorW8 _ _ _ _ => []
  | .shflXorW16 _ _ _ _ => []
  | .shflXorW32 _ _ _ _ => []
  | .shflXorW64 _ _ _ _ => []
  | .shflXorW96 _ _ _ _ => []
  | .shflUpW4 _ _ _ _ => []
  | .shflUpW8 _ _ _ _ => []
  | .shflUpW16 _ _ _ _ => []
  | .shflUpW32 _ _ _ _ => []
  | .shflUpW64 _ _ _ _ => []
  | .shflUpW96 _ _ _ _ => []
  | .shflDnW4 _ _ _ _ => []
  | .shflDnW8 _ _ _ _ => []
  | .shflDnW16 _ _ _ _ => []
  | .shflDnW32 _ _ _ _ => []
  | .shflDnW64 _ _ _ _ => []
  | .shflDnW96 _ _ _ _ => []
  | .vbcastW4 _ _ _ _ => []
  | .vbcastW8 _ _ _ _ => []
  | .vbcastW16 _ _ _ _ => []
  | .vbcastW32 _ _ _ _ => []
  | .vbcastW64 _ _ _ _ => []
  | .vbcastW96 _ _ _ _ => []
  | .voteAny _ _ _ => []
  | .voteAll _ _ _ => []
  | .voteBal _ _ _ => []
  | .vredW4 _ _ _ _ _ => []
  | .vredW8 _ _ _ _ _ => []
  | .vredW16 _ _ _ _ _ => []
  | .vredW32 _ _ _ _ _ => []
  | .vredW64 _ _ _ _ _ => []
  | .vredW96 _ _ _ _ _ => []
  | .vscanW4 _ _ _ _ _ => []
  | .vscanW8 _ _ _ _ _ => []
  | .vscanW16 _ _ _ _ _ => []
  | .vscanW32 _ _ _ _ _ => []
  | .vscanW64 _ _ _ _ _ => []
  | .vscanW96 _ _ _ _ _ => []
  | .ldI _ _ _ _ _ => []
  | .ldN _ _ _ _ _ => []
  | .sldI _ _ _ _ _ => []
  | .sldN _ _ _ _ _ => []
  | .ldx _ _ _ _ _ => []
  | .cld _ _ _ _ => []
  | .ldLI _ _ _ _ _ => []
  | .ldLN _ _ _ _ _ => []
  | .ldAcq _ _ _ _ _ _ => []
  | .sldAcq _ _ _ _ _ _ => []
  | .stN _ _ _ _ _ => []
  | .sstN _ _ _ _ _ => []
  | .cst _ _ _ _ => []
  | .stLN _ _ _ _ _ => []
  | .stRel _ _ _ _ _ _ => []
  | .atomAdd _ _ _ _ _ _ _ => []
  | .atomAnd _ _ _ _ _ _ _ => []
  | .atomOr _ _ _ _ _ _ _ => []
  | .atomXor _ _ _ _ _ _ _ => []
  | .atomSwap _ _ _ _ _ _ _ => []
  | .atomCas _ _ _ _ _ _ _ => []
  | .atomMin _ _ _ _ _ _ _ => []
  | .atomMax _ _ _ _ _ _ _ => []
  | .csub _ _ _ _ => []
  | .crgt _ _ _ _ => []
  | .cget _ _ _ _ => []
  | .cmov _ _ _ => []
  | .cclr _ _ => []
  | .cstash _ _ _ _ => []
  | .pref _ _ _ => []
  | .smap _ _ _ _ => []
  | .sunmap _ _ => []
  | .sflush _ _ => []
  | .fenceAcqGroup _ => []
  | .fenceAcqBlock _ => []
  | .fenceAcqChip _ => []
  | .fenceAcqPod _ => []
  | .fenceAcqSys _ => []
  | .fenceRelGroup _ => []
  | .fenceRelBlock _ => []
  | .fenceRelChip _ => []
  | .fenceRelPod _ => []
  | .fenceRelSys _ => []
  | .fenceFullGroup _ => []
  | .fenceFullBlock _ => []
  | .fenceFullChip _ => []
  | .fenceFullPod _ => []
  | .fenceFullSys _ => []
  | .barInit _ _ _ => []
  | .barArrive _ _ _ => []
  | .barExpect _ _ _ => []
  | .barWait _ _ _ => []
  | .barArriveW _ _ _ => []
  | .mxR _ _ _ _ => []
  | .mxS _ _ _ _ => []
  | .mxjob _ _ _ _ => []
  | .mxza _ _ => []
  | .mxlda _ _ _ _ => []
  | .mxst _ _ _ _ => []
  | .cpy _ _ _ _ => []
  | .cpyR _ _ _ _ => []
  | .coll _ _ _ _ => []
  | .nsend _ _ _ => []
  | .pub _ _ => []
  | .post _ _ _ _ => []
  | .launch _ _ _ => []
  | .gate _ => []
  | .rlse _ => []
  | .bclose _ _ => []
  | .waitb _ _ => []
  | .arm _ _ _ _ => []
  | .br _ _ => []
  | .bsr _ _ => []
  | .brcZ _ _ _ => []
  | .brcNz _ _ _ => []
  | .brmZ _ _ _ => []
  | .brmNz _ _ _ => []
  | .brcLt _ _ _ => []
  | .brcGe _ _ _ => []
  | .join _ _ => []
  | .wait _ _ _ => []
  | .winb _ _ => []
  | .call _ _ => []
  | .ret _ => []
  | .exit _ => []
  | .rgn _ => []
  | .rgnx _ => []
  | .yieldc _ => []
  | .sleep _ _ => []
  | .vdead _ _ _ => []
  | .jmp _ _ => []
  | .sli _ _ _ => []
  | .slis _ _ _ => []
  | .vli _ _ _ => []
  | .vlih _ _ _ => []
  | .tret _ => []
  | .pwleaf _ _ _ _ => []
  | .pobj _ _ _ _ => []
  | .pkey _ _ _ _ => []
  | .pwdog _ _ _ _ => []
  | .pmcset _ _ _ _ => []
  | .pevent _ _ _ _ => []
  | .psave _ _ _ _ => []
  | .prest _ _ _ _ => []
  | .pfq _ _ _ _ => []
  | .trap _ _ => []
  | .sysr _ _ _ => []
  | .sysw _ _ _ => []

end Sys2Proof.Machine
end

