-- ==== Sys2Proof/Machine/Waits.lean ====
section
/-! DEFINITION. How parks end by themselves: results that arrive (08 R137), pending traps (13 R234), quiescence releases
(08 R135), the re-reads and deadlines of WAIT (15 R271) and the deadline of SLEEP (15 R272). -/

namespace Sys2Proof.Machine

/-! ### Results and pending traps -/

/-- RESULT_WRITE (R137, 13 R233): the results of a gang parked at a switch point are written and its park ends, with an SMX
that one of them recorded delivered then. Without such a gang the oldest result arrives, unless it records an SMX, which
waits for a switch point (DESIGN CHOICE, log 42). -/
def execResultWrite (grp : Nat) (s : State) : Res :=
  match s.group grp with
  | none => .next s
  | some g =>
    match g.live.find? fun i => (g.slice i).park == .switchPoint with
    | some i =>
      .next (if g.hasPending (g.gang (g.slice i).gang) then s.drainGang grp i
        else s.putGroup grp (g.mapSlices (fun _ sl => if sl.park = .switchPoint then sl.ready else sl) (g.gang (g.slice i).gang)))
    | none =>
      match g.pending with
      | [] => .next s
      | p :: ps =>
        .next (if p.smx = [] then s.putGroup grp (({ g with pending := ps } : Group).applyPending p) else s)

/-- TRAP_DELIVERY (R234): with H clear, the pending trap of the lowest lane is delivered: to the handler, or to a halt when
there is none. -/
def execTrapDelivery (grp : Nat) (s : State) : Res :=
  match s.group grp with
  | none => .next s
  | some g => .next (s.deliverPending grp g)

/-! ### Quiescence (08 R135) -/

/-- The parks that count toward quiescence (08 R138) (DEDUCED, log 47). -/
def Park.quiet : Park → Bool
  | .join | .wait | .sleep | .barrier | .gate | .waitb | .pendingTrap | .pageFault | .contextFault => true
  | .none | .switchPoint | .registerMiss | .post => false

/-- Whether the wait of a rejoin register is to be released: an expected slice that has not arrived is parked or has exited,
or JOINTO ticks have passed since A became nonzero, which a write by software may just have made it. -/
def State.releaseDue (s : State) (g : Group) (r : Nat) : Bool :=
  let w := g.rs r
  let missing := rejoinE w &&& ~~~(rejoinA w)
  let idle (i : Nat) : Bool :=
    missing.getLsbD i && ((g.slice i).state == .exited || g.groupParked || (g.slice i).park.quiet)
  let since : W64 := Sparse.get 0 g.joinSince r
  let waited := if since = 0 then 0 else (s.tickOf (dieOf g.core) - since).toNat
  rejoinA w != 0 && ((List.range g.sliceCount).any idle || (g.joinTo != 0 && decide (g.joinTo.toNat ≤ waited)))

/-- The release: the arrived slices go on in the gangs they arrived in, E becomes A, A becomes empty and L is set. -/
def Group.releaseJoin (g : Group) (r : Nat) : Group :=
  let w := g.rs r
  let w' : W64 := (w &&& 0x7FFF000000000000#64) ||| (1#64 <<< 63) ||| (rejoinA w).setWidth 64
  let arrived := g.arrivals r
  let g := { g with s := Sparse.set 0 g.s r w', joinSince := Sparse.set 0 g.joinSince r 0 }
  g.mapSlices (fun _ sl => { sl.ready with pc := sl.pc + 4 }) arrived

/-- QUIESCENCE_RELEASE (R135) of rejoin register s_j, for a group that is resident. -/
def execQuiescenceRelease (grp j : Nat) (s : State) : Res :=
  match s.group grp with
  | none => .next s
  | some g =>
    .next (if decide (116 ≤ j) && decide (j ≤ 123) && (g.state == .resident || g.state == .idle) && s.releaseDue g j then
        s.putGroup grp (g.releaseJoin j)
      else s)

/-! ### WAIT and SLEEP (15 R271, R272) -/

/-- A group whose park ended wakes its dormant block (07 R118). -/
def State.wakeBlockOf (s : State) (g : Group) : State := if g.task || g.privileged then s else s.wakeDormant g.block

/-- The condition that a slice waits for. -/
def Group.waitOf (g : Group) (i : Nat) : Option WaitRec := g.waits.find? fun r => r.slices.contains i

/-- Whether the deadline of a wait has come (DEDUCED, log 49). -/
def State.waitOver (s : State) (g : Group) (r : WaitRec) : Bool :=
  let d := (g.slice (r.slices.headD 0)).deadline
  d != 0 && decide (d.toNat ≤ (s.tickOf (dieOf g.core)).toNat)

/-- Whether a write touches the word of a wait. -/
def State.touches (s : State) (g : Group) (r : WaitRec) (t : Touch) : Bool :=
  let at_ := r.cap.base.toNat + r.offset
  if r.cap.isStash then t.stash && t.place == g.block && t.bytes.any fun b => decide (at_ ≤ b) && decide (b < at_ + r.size)
  else
    r.cap.home == s.fab.self && !t.stash && match s.plainPage r.cap.object at_ with
      | none => false
      | some (w, _) => leafFrame w == t.place && t.bytes.any fun b =>
          decide (at_ % 65536 ≤ b) && decide (b < at_ % 65536 + r.size)

/-- The waits that the writes of a step touch are to read their words again (R271). -/
def State.noteWrites (s : State) : State :=
  { s with
    groups := s.groups.map fun e => (e.1, e.2.map fun g =>
      { g with waits := g.waits.map fun r => if s.mem.touched.any (s.touches g r) then { r with due := true } else r })
    mem := { s.mem with touched := [] } }

/-- The answer of a re-read. OK and DENIED give the word: the park ends when it holds, or at the deadline; while the group is
saved the word is kept as a pending result, which the restore writes (09 R159). Any other status
ends the park, and is resolved as for a WAIT whose read answered it (DEDUCED, log 49). -/
def State.rereadDone (s : State) (h : Nat) (o : MemOp) (noWake : Bool) : State :=
  match s.group h with
  | none => s
  | some g =>
    match g.waits.find? fun r => r.slices == o.slices with
    | none => s
    | some r =>
      let l := o.lanes.headD 0
      let rest := g.waits.filter fun x => x != r
      if o.statusOf l = 0 then
        let w := o.valueOf l % 256 ^ o.size
        if waitHolds r.size r.compare w r.operand.toNat || s.waitOver g r then
          let v := BitVec.ofNat 64 w
          let g : Group := { g with waits := rest }
          let g := if g.state = .saved then g.addPending { slices := r.slices, scalar := some (r.dest, v) }
            else g.writeS r.slices r.dest v
          let g := g.mapSlices (fun _ sl => { sl.ready with pc := sl.pc + 4 }) r.slices
          (s.putGroup h g).wakeBlockOf g
        else
          let logged := r.logged || o.pieces.any fun p => p.status == 1
          s.putGroup h { g with waits := g.waits.map fun x => if x = r then { r with logged := logged, due := false } else x }
      else
        let g := ({ g with waits := rest } : Group).mapSlices (fun _ sl => sl.ready) r.slices
        ((s.putGroup h g).settleMem h o noWake).1.wakeBlockOf g

/-- The re-read of a parked gang's word, under the grant map as it stood at issue. A word of another chip is read there
(DEDUCED, log 49). -/
def State.reread (s : State) (h i : Nat) : State :=
  match s.group h with
  | none => s
  | some g =>
    match g.waitOf i with
    | none => s
    | some r =>
      if (g.slice i).park ≠ .wait ∨ g.memOps.any fun o => o.slices == r.slices then s
      else
        let o : MemOp := { slices := r.slices, pc := (g.slice i).pc, y := false, kind := .waitRead, size := r.size, dst := r.dest,
                           args := [], pieces := [] }
        let a : LaneReq := { lane := g.lowest r.slices, cap := r.cap, off := r.offset, size := r.size }
        let q := s.access h { g with grant := r.grant } .waitRead (if r.logged then 7 else 0) r.scope false (splitLane a)
        let o := { o with pieces := q.2.1 }
        if o.pieces.any fun p => p.status == 0xFF then
          match q.1.group h with
          | none => q.1
          | some g =>
            let seen (x : WaitRec) : WaitRec := if x = r then { r with due := false } else x
            q.1.putGroup h { g with memOps := g.memOps ++ [o], waits := g.waits.map seen }
        else q.1.rereadDone h o q.2.2

/-- WAIT_REREAD (R271) (DESIGN CHOICE, log 1). -/
def execWaitReread (grp slice : Nat) (s : State) : Res := .next (s.reread grp slice)

/-- WAIT_DEADLINE (R271): at a nonzero deadline the word is read and the park ends. -/
def execWaitDeadline (grp slice : Nat) (s : State) : Res :=
  match s.group grp with
  | none => .next s
  | some g =>
    match g.waitOf slice with
    | none => .next s
    | some r => .next (if s.waitOver g r then s.reread grp slice else s)

/-- SLEEP_DEADLINE (R272): the gang goes on. -/
def execSleepDeadline (grp slice : Nat) (s : State) : Res :=
  match s.group grp with
  | none => .next s
  | some g =>
    let sl := g.slice slice
    let gang := (g.gang sl.gang).filter fun i => (g.slice i).park == .sleep
    .next (if sl.park = .sleep ∧ sl.deadline.toNat ≤ (s.tickOf (dieOf g.core)).toNat then
        s.putGroup grp (g.mapSlices (fun _ r => r.ready) gang)
      else s)

end Sys2Proof.Machine
end

