-- ==== Sys2Proof/Machine/Fetch.lean ====
section
/-! DEFINITION. Instruction fetch (09 R150, 13 R230 row 1, 14 R246): the checks of the code capability, the word from this
chip's memory, from another chip or from the firmware region, and the context lines that the instruction needs (09 R153). -/

namespace Sys2Proof.Machine

/-- The 4-byte access of a fetch at a PC, by a gang. -/
def fetchOp (slices : List Nat) (pc : W64) : MemOp :=
  { slices := slices, pc := pc, y := false, kind := .fetch, size := 4, dst := 0, args := [], pieces := [] }

/-- The pieces of a fetch at a PC, which is a byte offset in the object of the image (DEDUCED, log 97): the word, and a byte of
each other sector of its line up to a last byte, so that poison in the line is met (13 R230 row 1) (DESIGN CHOICE, log 50). -/
def fetchPieces (g : Group) (slices : List Nat) (pc : W64) (last : Nat) : List Piece :=
  let piece (at_ n : Nat) : Piece := { lane := 4 * slices.headD 0, start := 0, chip := g.code.home, object := g.code.object,
                                       offset := at_, length := n, value := 0, status := 0 }
  let line := pc.toNat / 128 * 128
  piece pc.toNat 4 :: (((List.range 4).map fun i => line + 32 * i).filter fun a =>
    decide (a ≤ last) && a / 32 != pc.toNat / 32).map fun a => piece a 1

/-- The last byte that a fetch may touch in the line of its word: the object's where it is at home here, else the code's. -/
def State.fetchLast (s : State) (g : Group) : Nat :=
  if g.code.home = s.fab.self then (s.objEntry g.code.object).last else g.code.base.toNat + g.code.length.toNat - 1

/-- Whether the code capability lets a PC be fetched (13 R230 row 1). -/
def Group.mayFetch (g : Group) (pc : W64) : Bool :=
  g.code.tag && g.code.has rX && pc.toNat % 4 == 0 && decide (g.code.base.toNat ≤ pc.toNat)
    && decide (pc.toNat + 4 ≤ g.code.base.toNat + g.code.length.toNat)

/-- IFETCH, for a gang (DESIGN CHOICE, log 50). -/
def State.ifetch (s : State) (h : Nat) (g : Group) (slices : List Nat) (pc : W64) : State :=
  s.raise h g slices pc (g.gangTrap slices Cause.ifetch.code 0 pc)

/-- The word that a fetch gives: a denied one reads zero (10 R182). -/
def MemOp.fetchWord (o : MemOp) : Option W32 :=
  if o.pieces.all fun p => p.status == 0 || p.status == 1 then
    (o.pieces.find? fun p => p.length == 4).map fun p => if p.status = 0 then BitVec.ofNat 32 p.value else 0
  else none

/-- A fetch without a word: a page fault parks the group as for a load (10 R180), and any other answer raises IFETCH
(DESIGN CHOICE, log 50). -/
def State.fetchFailed (s : State) (h : Nat) (g : Group) (o : MemOp) (noWake : Bool) : State :=
  let g := g.endRefusal o.slices
  if o.pieces.any fun p => p.status == 2 then
    s.parkFault h g o.slices (o.pieces.map (s.placeOf g.block)).eraseDups false noWake
  else s.ifetch h g o.slices o.pc

/-- A fetch from another chip is answered: its word waits for the gang's turn (DESIGN CHOICE, log 50). -/
def State.fetchDone (s : State) (h : Nat) (o : MemOp) (noWake : Bool) : State :=
  match s.group h with
  | none => s
  | some g =>
    match o.fetchWord with
    | some w => s.putGroup h { g with fetched := (g.fetched.filter fun e => e.1 != o.pc) ++ [(o.pc, w)] }
    | none => s.fetchFailed h g o noWake

/-- Fetch at the PC of a gang (08 R128): the word, or none when the gang traps, parks or waits for another chip
(DEDUCED, log 97; DESIGN CHOICE, log 50). -/
def State.fetch (s : State) (h : Nat) (g : Group) (slices : List Nat) (pc : W64) : State × Option W32 :=
  if !g.mayFetch pc then (s.ifetch h g slices pc, none)
  else if g.privileged then
    (s, some (BitVec.ofNat 32 (leNat (s.fwBytes (dieOf g.core) pc.toNat 4))))
  else
    match g.fetched.find? fun e => e.1 == pc with
    | some e => (s.putGroup h { g with fetched := g.fetched.filter fun e => e.1 != pc }, some e.2)
    | none =>
      let r := s.access h g .fetch 0 0 false (fetchPieces g slices pc (s.fetchLast g))
      let o := { fetchOp slices pc with pieces := r.2.1 }
      if r.2.1.any fun p => p.status == 0xFF then (r.1.putGroup h { g with memOps := g.memOps ++ [o] }, none)
      else
        match o.fetchWord with
        | some w => (r.1, some w)
        | none => (r.1.fetchFailed h g o r.2.2, none)

/-- The small-matrix registers whose element lines an instruction uses: XSHP uses shapes alone (R365). -/
def elementUse : Instr → List Nat
  | .xshp _ _ _ _ => []
  | i => matUse i

/-- The context lines that an instruction reads or writes for some slices (R149, R151, R153). An instruction on which the group
raises UND needs none (13 R230 rows 2 and 4). -/
def Group.needs (g : Group) (slices : List Nat) (i : Instr) : List Nat :=
  let vs := g.vecUse slices i
  let xs := matUse i
  let ns := g.sliceCount
  if g.privileged || g.malformed slices i xs then []
  else
    (slices.flatMap fun k => vs.map fun n => headerLines + (g.winb + n) / 4 * ns + k)
      ++ (if xs = [] then [] else slices.flatMap fun k =>
        (g.shapeLine + k) :: (elementUse i).flatMap fun x => (List.range 9).map fun j => g.shapeLine + ns + 9 * (x * ns + k) + j)

end Sys2Proof.Machine
end

