-- ==== Sys2Proof/Machine/Package.lean ====
section
/-! DEFINITION. The package (01) and what firmware and the device do for it: resets and boot (01 R16-R18, 03 R57-R64), power
and heat (01 R19, R20), host modules (R12), the die drop (R24, 07 R121), run-time recovery (03 R64), and the outcome of a
failed check (13 R236-R238). -/

namespace Sys2Proof

/-- Whether an access is a whole write of an 8-byte register at an offset, every byte enabled. -/
def HostAccess.writes8 (h : HostAccess) (off : Nat) : Bool := h.offset == off && h.data.length == 8 && h.enables

/-- The little-endian value that a host access writes. -/
def HostAccess.value (h : HostAccess) : W64 := BitVec.ofNat 64 (leNat h.data)

/-- The bytes that an access writes from an offset on: those whose byte enable is on. -/
def HostAccess.writes (h : HostAccess) (at_ : Nat) : List (Nat × Byte) :=
  ((List.range h.data.length).filter h.enabled).map fun i => (at_ + i, h.data.getD i 0)

/-- Whether a read takes a byte of the 8-byte register at an offset, whatever its size (R47). -/
def HostAccess.readsReg (h : HostAccess) (off : Nat) : Bool :=
  decide (h.offset < off + 8) && decide (off < h.offset + h.data.length)

end Sys2Proof

namespace Sys2Proof.Machine

/-! ### Reset (01 R16, R17) -/

/-- The state after a power-on or cold reset: fuses stay, and so does what lies outside the device (the boot store and host
memory, the chip's place in the pod, what is still to happen) (DESIGN CHOICE, log 9; DEDUCED, log 62). -/
def State.cleared (s : State) : State :=
  { State.reset with
    agenda := s.agenda, outbox := s.outbox, free := s.free
    pkg := { minVersion := s.pkg.minVersion, minCounter := s.pkg.minCounter, rsaDigest := s.pkg.rsaDigest,
             slhDigest := s.pkg.slhDigest }
    host := { memory := s.host.memory }
    mem := { bytes := s.hostImage }
    fab := { self := s.fab.self }
    fw := { store := s.fw.store } }

/-- POWER_ON (R16, R18): with a rail out of tolerance the device stays in reset and drives ALERT_N low. -/
def execPowerOn (railsOk : Bool) (s : State) : Res :=
  let t := s.cleared
  .next (if railsOk then t else { t with pkg := { t.pkg with inReset := true, alertLow := true } })

/-- COLD_RESET (R16): COLDRST_N held low for at least 100 ticks. A device that a rail holds in reset stays there. -/
def execColdReset (heldTicks : Nat) (s : State) : Res :=
  let t := s.cleared
  .next (if heldTicks < 100 then s
    else { t with pkg := { t.pkg with inReset := s.pkg.inReset, alertLow := s.pkg.alertLow } })

/-- A key slot after its destruction: its keys are gone; the context and the generations that its frames are bound to stay
(DEDUCED, log 62). -/
def KeySlot.destroy (k : KeySlot) : KeySlot := { k.zeroed with destroyed := true }

/-- Destroy every key slot, as a warm reset and recovery do (R17, 03 R64) (DEDUCED, log 62). -/
def State.destroyKeys (s : State) : State :=
  { s with trust := { s.trust with slots := s.trust.slots.map fun e => (e.1, { e.2.destroy with warmLost := true }) } }

/-- What LPDDR-5X and host memory hold of the memory: LLC-pinned frames are SRAM and are lost (10 R184), the roots of the
Weirs too, and of lines of host memory that were cached what the host holds is there. Dirty LLC sectors of frames that DRAM backs are
taken to have reached it (DESIGN CHOICE, log 54). -/
def State.warmMem (s : State) : MemState :=
  let m := s.mem
  { objects := m.objects, tables := m.tables, freeFrames := m.freeFrames, fwFrames := m.fwFrames
    bytes := Sparse.setAll 0 (m.bytes.filter fun e => frameTier (e.1 / 65536) != 0)
      (m.hostNew.filterMap fun e => e.2.map fun b => (e.1, b))
    tags := m.tags.filter fun e => frameTier (e.1 / 4096) != 0
    poison := m.poison.filter fun e => frameTier (e.1 / 2048) != 0
    minors := m.minors.filter fun e => frameTier (e.1 / 2048) != 0
    majors := m.majors.filter fun e => frameTier (e.1 / 16) != 0
    stale := m.stale.filter fun e => frameTier (e.1 / 2048) != 0
    schemes := m.schemes.filter fun e => frameTier e.1 != 0
    forms := m.forms.filter fun e => frameTier (e.1 / 512) != 0
    tree := m.tree }

/-- The state after a warm reset: fuses, the loaded configuration record and the LPDDR-5X contents stay (objects, page
maps, frames and their metadata, and the firmware region with descriptors, seals and retired frames) (DEDUCED, log 62). -/
def State.warmed (s : State) : State :=
  let t := s.cleared
  let t := { t with
    pkg := { t.pkg with config := s.pkg.config, cfgDefault := s.pkg.cfgDefault, warm := true }
    mem := s.warmMem
    trust := { s.trust with
      switches := [], nonces := [], frames := s.trust.frames.filter fun e => frameTier e.1 != 0 }
    fw := { t.fw with region := s.fw.region, retired := s.fw.retired }
    disp := { t.disp with nextObject := s.disp.nextObject } }
  t.destroyKeys

/-! ### Host accesses (03 R46-R48) -/

/-- Whether a host access arrives at the windows: its module is trained, and the device is not in reset (01 R12). -/
def State.hostReaches (s : State) (h : HostAccess) : Bool :=
  h.target == .window && s.pkg.trained.getLsbD h.hostModule.toNat && !s.pkg.inReset && !s.pkg.tripped

/-- Whether every window answers: not in recovery (R63). -/
def State.windowsOpen (s : State) (h : HostAccess) : Bool := s.hostReaches h && s.fw.state != 2

/-- WARM_RESET (R16, R47): DEVCTL bit 0. -/
def execWarmReset (h : HostAccess) (s : State) : Res :=
  .next (if s.windowsOpen h && h.writes8 0x10000 && h.value.getLsbD 0 then s.warmed else s)

/-! ### Firmware images (03 R60, R61) -/

/-- Bytes of a memory. -/
def memBytes (m : Memory) (off n : Nat) : List Byte := (List.range n).map fun i => Sparse.get (0 : Byte) m (off + i)

/-- The little-endian number of n bytes of a memory. -/
def memNat (m : Memory) (off n : Nat) : Nat := leNat (memBytes m off n)

/-- The result of verifying the image at an offset: 0, or the code of the first failing check (R62)
(DESIGN CHOICE, log 19; PRESUMED, log 61). -/
def verifyImage (m : Memory) (base : Nat) (minVersion : BitVec 32) : Nat :=
  let n := memNat m (base + 8) 8
  let header := memBytes m base 256
  if memNat m base 4 != 0x5746594E || (memBytes m (base + 0x40) 192).any (fun b => b != 0) || n == 0
    || decide (67078432 < n) then 1
  else if sha384 (memBytes m (base + 0x100) n) != memBytes m (base + 0x10) 48 then 2
  else if !Config.rsaOk Config.romRsaKey header (memBytes m (base + 0x100 + n) 384) then 3
  else if !Config.slhOk Config.romSlhKey header (memBytes m (base + 0x280 + n) slhBytes) then 4
  else if memNat m (base + 4) 4 < minVersion.toNat then 6
  else 0

/-- The boot store's offset of a slot (R59) (PRESUMED, log 61). -/
def slotBase (slot : Nat) : Nat := if slot = 0 then 0x01000000 else 0x05000000

/-! ### The firmware core (03 R57, R58) -/

/-- The handle of a die's firmware group: outside the object indexes (DESIGN CHOICE, log 6). -/
def fwGroup (die : Nat) : Nat := 2 ^ 28 + die

/-- The handle of the block whose allocation is the stash of a die's firmware core (DESIGN CHOICE, log 13). -/
def fwBlock (die : Nat) : Nat := 2 ^ 40 + die

/-- The stash of a firmware core: the whole block pool, without barriers or tasks (R57; 07 R114) (DESIGN CHOICE, log 13). -/
def State.newFwBlock (s : State) (die : Nat) : Block :=
  { grid := 0xFFFF, nominal := s.fab.self, number := 2 ^ 32 - 1, core := 160 + die, pages := 640, alloc := 2621440 }

/-- A firmware group at body offset 0. The image stands at the start of the firmware region; CORE reads 160 plus the die. All
its lines stand in the register context cache of its core from the start, so that none is ever absent
(DESIGN CHOICE, log 13; PRESUMED, log 61). -/
def State.newFwGroup (s : State) (die : Nat) : Group :=
  let n := memNat (s.fw.region) (die * fwRegionBytes + 8) 8
  let g : Group :=
    { privileged := true, width := 16, extent := 1024, xCount := 16, aCount := 8, core := 160 + die, grid := 0xFFFF,
      bid := 0xFFFFFFFF, nominal := s.fab.self, state := .resident, quota := 1, block := fwBlock die,
      code := { home := s.fab.self, object := 0, base := 0x100, length := BitVec.ofNat 40 n, rights := rX, tag := true },
      s := Sparse.setAll 0 [] (tripleWords (lowLanes 16)),
      v := Sparse.setAll 0 [] ((List.range 16).flatMap fun l => [(l, BitVec.ofNat 32 l), (128 + l, BitVec.ofNat 32 l)]) }
  g.mapSlices (fun _ sl => { sl with pc := 0x100 }) (List.range g.sliceCount)

/-- Start the FWC of a die from the image in its firmware region. -/
def State.startFwc (s : State) (die : Nat) : State :=
  let s := { s with cores := Sparse.set {} s.cores (160 + die) { slots := [(0, some (fwGroup die))], freePages := 0 } }
  ((s.restartWatchdog die).putBlock (fwBlock die) (s.newFwBlock die)).putGroup (fwGroup die) (s.newFwGroup die)

/-- The FWC of a die stops. -/
def State.stopFwc (s : State) (die : Nat) : State :=
  { s with fw := { s.fw with mcsets := s.fw.mcsets.filter fun e => e.die != die }
           cores := Sparse.set {} s.cores (160 + die) {}, groups := Sparse.set none s.groups (fwGroup die) none
           disp := { s.disp with blocks := Sparse.set none s.disp.blocks (fwBlock die) none } }

/-- Run an image: it is copied into each running die's firmware region, and every FWC starts
(DESIGN CHOICE, log 12; PRESUMED, log 61). -/
def State.runImage (s : State) (m : Memory) (base : Nat) (image : BitVec 8) : State :=
  let total := 0x280 + memNat m (base + 8) 8 + slhBytes
  let part := m.filter fun e => decide (base ≤ e.1) && decide (e.1 < base + total)
  let dies := (List.range 4).filter s.dieRuns
  let region := dies.foldl (fun (r : Sparse Byte) d =>
    Sparse.setAll 0 (Sparse.clearRange r (d * fwRegionBytes) (d * fwRegionBytes + total))
      (part.map fun e => (d * fwRegionBytes + (e.1 - base), e.2))) s.fw.region
  let s := { s with fw := { s.fw with
    region := region, state := 1, image := image, version := BitVec.ofNat 32 (memNat m (base + 4) 4),
    imageHash := BitVec.ofNat 384 (leNat (sha384 (memBytes m base 256))), diesParked := 0 } }
  dies.foldl (fun (s : State) d => s.startFwc d) s

/-! ### The configuration record (01 R21-R23) -/

/-- A partition entry (R22). -/
def partitionOf (w : W64) : Partition :=
  { first := bits w 63 56, count := bits w 55 48, mode := w.extractLsb' 32 16, id := w.extractLsb' 16 16 }

/-- Whether a device number names a user core of a die that a record enables (01 R10). A die that self-test drops, with more
than one failed core, counts as enabled here (DESIGN CHOICE, log 95). -/
def State.coreExists (s : State) (dieMap : Nat) (c : Nat) : Bool :=
  decide (c < 160) && dieMap.testBit (c / 40) && !(c % 40 == 39 && s.dieShort (c / 40))

/-- Whether two partitions overlap. -/
def Partition.meets (p q : Partition) : Bool := decide (p.first < q.first + q.count) && decide (q.first < p.first + p.count)

/-- Whether the partitions are in order: in range, on user cores of enabled dies, disjoint, with unique ids. -/
def State.partsOk (s : State) (dieMap : Nat) : List Partition → Bool
  | [] => true
  | p :: ps =>
    decide (1 ≤ p.count) && decide (p.count ≤ 160) && decide (p.first < 160) && decide (p.mode.toNat < 128)
      && (List.range p.count).all (fun i => s.coreExists dieMap (p.first + i))
      && ps.all (fun q => !p.meets q && q.id != p.id) && State.partsOk s dieMap ps

/-- The configuration record of the boot store, or none when the boot ROM refuses it (R23). -/
def State.loadConfig (s : State) : Option ConfigRecord :=
  let m := s.fw.store
  let num (off n : Nat) : Nat := memNat m off n
  let rsaKey := memBytes m 0x8000 388
  let slhKey := memBytes m 0x8184 64
  let body := memBytes m 0 0xE0
  let count := num 0x052 1
  let words := (List.range 16).map fun i => BitVec.ofNat 64 (num (0x060 + 8 * i) 8)
  let parts := (words.take count).map partitionOf
  let fwc := (List.range 4).map fun d => num (0x044 + d) 1
  let keys := BitVec.ofNat 384 (leNat (sha384 rsaKey)) == s.pkg.rsaDigest
    && BitVec.ofNat 384 (leNat (sha384 slhKey)) == s.pkg.slhDigest
  let fields := num 0 4 == 0x4346594E && num 4 2 == 1 && num 6 2 == 0xE0 && decide (s.pkg.minCounter.toNat ≤ num 8 8)
    && BitVec.ofNat 384 (num 0x010 48) == deviceDigest s.pkg.seed && decide (num 0x040 1 < 16) && decide (num 0x041 1 < 4)
    && decide (1800 ≤ num 0x042 2) && decide (num 0x042 2 ≤ 3000) && fwc.all (fun i => decide (i ≤ 40))
    && decide (1 ≤ count) && decide (count ≤ 16) && num 0x053 13 == 0
    && (words.take count).all (fun w => w.setWidth 16 == (0 : BitVec 16)) && (words.drop count).all (fun w => w == 0)
  let signed := Config.rsaOk rsaKey body (memBytes m 0x0E0 384) && Config.slhOk slhKey body (memBytes m 0x260 slhBytes)
  if keys && fields && signed && s.partsOk (num 0x040 1) parts then
    some { counter := BitVec.ofNat 64 (num 8 8), dieMap := BitVec.ofNat 4 (num 0x040 1), modules := BitVec.ofNat 2 (num 0x041 1),
           powerCap := num 0x042 2, fwc := fwc, brodug := BitVec.ofNat 64 (num 0x048 8),
           ethernet := BitVec.ofNat 16 (num 0x050 2), parts := parts, digest := BitVec.ofNat 384 (leNat (sha384 body)) }
  else none

/-! ### Boot (03 R61) -/

/-- The failed cores of a die. -/
def failedOn (failed : List (Nat × Nat)) (d : Nat) : List Nat := (failed.filter fun e => e.1 == d).map Prod.snd

/-- The FWC of a die: the core named, or the lowest that passes (01 R10). -/
def fwcOf (named : Nat) (bad : List Nat) : Nat :=
  if bad.contains named then ((List.range 41).find? fun i => !bad.contains i).getD named else named

/-- Self-test (01 R10): the failed cores are recorded, and each die reads its physically unclonable function (03 R66). -/
def State.selfTest (s : State) (failed : List (Nat × Nat)) : State :=
  { s with pkg := { s.pkg with
      seed := Config.deviceSeed
      failed := Sparse.setAll false [] ((failed.filter fun e =>
        decide (e.1 < 4) && decide (e.2 ≤ 40)).map fun e => (41 * e.1 + e.2, true)) } }

/-- Take up a configuration record, none for the default one: dies, firmware cores, host modules. At boot a die that fails is
dropped whatever host module goes with it; the limit of R24 binds drops at run time only (DESIGN CHOICE, log 96). -/
def State.takeConfig (s : State) (failed : List (Nat × Nat)) (r : Option ConfigRecord) : State :=
  let c := r.getD {}
  let up := (List.range 4).foldl (fun (w : BitVec 4) d =>
    if c.dieMap.getLsbD d && decide ((failedOn failed d).length ≤ 1) then w ||| (1#4 <<< d) else w) 0
  { s with pkg := { s.pkg with
      config := c, cfgDefault := r.isNone, running := up, dropped := 0
      fwc := Sparse.setAll 0 [] ((List.range 4).map fun d => (d, fwcOf (c.fwc.getD d 40) (failedOn failed d))) } }

/-- The die that a host module attaches to (01 R12). -/
def moduleDie (m : Nat) : Nat := if m = 0 then 0 else 2

/-- The modes of the partitions come from the record (R56), the host modules that trained stay so when the record enables them
and their die runs (01 R12), and the enabled ports of running dies begin to train (R13). -/
def State.startUnits (s : State) (trains : BitVec 2) : State :=
  let ports := (List.range 64).filter fun p => s.dieRuns (p / 16) && s.pkg.config.brodug.getLsbD p
  let kept (m : Nat) : BitVec 2 := if s.dieRuns (moduleDie m) then 1#2 <<< m else 0
  { s with
    pkg := { s.pkg with trained := trains &&& s.pkg.config.modules &&& (kept 0 ||| kept 1) }
    host := { s.host with mode := Sparse.setAll 0 [] (s.pkg.config.parts.map fun p => (p.id.toNat, p.mode)) }
    fab := { s.fab with ports := Sparse.setAll {} [] (ports.map fun p => (p, { state := .training, since := s.tickOf (p / 16) })) } }

/-- Verify both slots and run the one that R61 chooses, or enter recovery. A boot store that no host module reaches has no slot
with a header, and without a running die nothing can run: both end in recovery (DESIGN CHOICE, log 96). -/
def State.chooseSlot (s : State) (reached : Bool) : State :=
  let result (k : Nat) : Nat := if reached then verifyImage s.fw.store (slotBase k) s.pkg.minVersion else 1
  let a := result 0
  let b := result 1
  let s := { s with fw := { s.fw with slotA := BitVec.ofNat 8 a, slotB := BitVec.ofNat 8 b } }
  let ver (k : Nat) : Nat := memNat s.fw.store (slotBase k + 4) 4
  if s.pkg.running = 0 ∨ (a ≠ 0 ∧ b ≠ 0) then { s with fw := { s.fw with state := 2 } }
  else
    let k := if a ≠ 0 then 1 else if b ≠ 0 then 0 else if ver 0 < ver 1 then 1 else 0
    s.runImage s.fw.store (slotBase k) (BitVec.ofNat 8 (k + 1))

/-- BOOT_ROM_START (R59, R61): self-test; the configuration record, which a warm reset does not read again (01 R17); then the
firmware slots. The boot store is read through host module 0, or through module 1 when module 0 does not train; when neither
does, no record is read and the default one applies (DESIGN CHOICE, log 96). -/
def execBootRomStart (failed : BootTest) (s : State) : Res :=
  .next (if s.pkg.inReset || s.pkg.tripped || s.fw.state != 0 then s
    else
      let reached := failed.trains != 0
      let s := s.selfTest failed.cores
      let r := if s.pkg.warm then (if s.pkg.cfgDefault then none else some s.pkg.config)
        else if reached then s.loadConfig else none
      let s := s.takeConfig failed.cores r
      let s := { s with pkg := { s.pkg with warm := false } }
      (s.startUnits failed.trains).chooseSlot reached)

/-! ### Host modules (01 R12) -/

/-- HOST_MODULE_TRAINING (R12). -/
def execHostModuleTraining (m : BitVec 1) (s : State) : Res :=
  let k := m.toNat
  .next (if s.pkg.config.modules.getLsbD k && s.dieRuns (moduleDie k) then
      { s with pkg := { s.pkg with trained := s.pkg.trained ||| (1#2 <<< k) } } else s)

/-! ### Power and heat (01 R19, R20) -/

/-- The clock one step down, and one step up (DEDUCED, log 63). -/
def stepDown (mhz : Nat) : Nat := max 800 (mhz - 100)
def stepUp (mhz : Nat) : Nat := min 1700 (mhz + 100)

/-- POWER_WINDOW (R19): a window of 100,000 ticks ended with a power in watts. The clock does not step up while a thermal
limit holds; once a hold at 0.8 GHz has ended it steps up only while every sensor is below 92 °C (R20), until it is back at
1.7 GHz (DEDUCED, log 63). -/
def execPowerWindow (watts : Nat) (s : State) : Res :=
  let p := s.pkg
  let cap := p.config.powerCap
  let mhz := if p.hold105 then 800
    else if cap < watts then stepDown p.clockMHz
    else if 100 * watts < 95 * cap ∧ p.hot95 = false ∧ ¬ (p.cooling ∧ 92 ≤ p.hottest) then stepUp p.clockMHz
    else p.clockMHz
  .next { s with pkg := { p with clockMHz := mhz, cooling := p.cooling && mhz != 1700 } }

/-- THERMAL_STEP (R20): the hottest sensor after 10,000 ticks. -/
def execThermalStep (celsius : Nat) (s : State) : Res :=
  let p := s.pkg
  let hot := decide (95 ≤ celsius) || (p.hot95 && decide (92 ≤ celsius))
  .next { s with pkg := { p with
    hottest := celsius, hot95 := hot, clockMHz := if hot && !p.hold105 then stepDown p.clockMHz else p.clockMHz } }

/-- THERMAL_HOLD (R20): a sensor at 105 °C or more. -/
def execThermalHold (sensor celsius : Nat) (s : State) : Res :=
  if celsius < 105 ∨ s.pkg.hold105 then .next s
  else
    let s := { s with pkg := { s.pkg with hold105 := true, hot95 := true, hottest := celsius, clockMHz := 800 } }
    .next (s.contain (sensor / 16) 0x0D08 2 9 5 sensor none 0xFFFF 0xFFFF 0 0 0 0 0)

/-- THERMAL_HOLD_END (R20): the hottest sensor below 100 °C. -/
def execThermalHoldEnd (celsius : Nat) (s : State) : Res :=
  .next (if s.pkg.hold105 && decide (celsius < 100) then
      { s with pkg := { s.pkg with hold105 := false, cooling := true, hottest := celsius, hot95 := decide (92 ≤ celsius) } }
    else s)

/-- THERMTRIP (R20): at 115 °C every clock is gated. -/
def execThermtrip (celsius : Nat) (s : State) : Res :=
  .next (if 115 ≤ celsius then { s with pkg := { s.pkg with tripped := true, tripLow := true } } else s)

/-! ### Run-time recovery (03 R64) -/

/-- Enter run-time recovery (R64): the user cores park, every block is aborted and the commands are discarded, Confluence stops,
and every key slot is destroyed. -/
def State.recover (s : State) : State :=
  let cores := (List.range 160).map fun c => (c, { (Sparse.get {} s.cores c : Core) with parked := true, taskQueue := [] })
  let s := { s with cores := Sparse.setAll {} s.cores cores }
  let s := (List.range 4).foldl (fun (s : State) d => s.stopFwc d) s
  let s := s.disp.blocks.foldl (fun (s : State) e => s.abortBlock e.1) s
  let s := s.groups.foldl (fun (s : State) e => s.dropGroup e.1) s
  let s := { s with cmds := [], disp := { s.disp with items := [], images := [], signals := [], launches := [] },
                    cur := { s.cur with stopped := true, round := none, splitRound := none } }
  let s := s.destroyKeys.errorRecord 0 8 0x0109 3 []
  { s with fw := { s.fw with state := 2, saves := [], proposals := [], mirrors := [], retiring := [] } }

/-! ### Die drop (01 R24, 07 R121) -/

/-- Whether a die may be dropped: a die and an enabled host module are left. -/
def State.canDrop (s : State) (d : Nat) : Bool :=
  let left (k : Nat) : Bool := k != d && s.dieRuns k
  (List.range 4).any left
    && ((s.pkg.config.modules.getLsbD 0 && left 0) || (s.pkg.config.modules.getLsbD 1 && left 2))

/-- The map of running dies. -/
def State.runMap (s : State) : BitVec 4 := s.pkg.running &&& ~~~s.pkg.dropped

/-- TICK of the lowest-numbered running die, which holds Confluence (06 R97). -/
def State.now (s : State) : W64 := s.tickOf (((List.range 4).find? s.dieRuns).getD 0)

/-- The block slots that the chip offers (07 R113). -/
def State.capacity (s : State) : Nat := 16 * s.userCores.length

/-- The CAPACITY record (05 R82). -/
def State.capacityRec (s : State) : CurRec := s.record 0x13 0 (s.runMap.toNat + 2 ^ 32 * s.capacity)

/-- What a die proposes, or firmware may do with, while the die runs. -/
def Firmware.withoutDie (f : Firmware) (d : Nat) : Firmware :=
  { f with
    queue := Sparse.set [] f.queue d [], saves := f.saves.filter fun o => o.die != d
    proposals := f.proposals.filter fun p => p.die.toNat != d
    retiring := f.retiring.filter fun k => k % 128 / 32 != d }

/-- The gateway of a die leaves: its ports, what it held for this chip's Weirs, and its clock (DEDUCED, log 66). -/
def State.loseGateway (s : State) (d : Nat) : State :=
  let f := s.fab
  { s with fab := { f with
      ports := f.ports.map fun (e : Nat × Port) =>
        if e.1 / 16 == d then (e.1, { e.2 with state := .down, buffer := [], flits := [] }) else e
      rx := f.rx.filter fun e => e.1.plane.toNat != d
      tx := f.tx.map fun e => if e.1.plane.toNat = d then (e.1, { e.2 with moved := s.planeTick d }) else e } }

/-- The die's resources leave: modules, ports, firmware core (DEDUCED, log 66). -/
def State.loseUnits (s : State) (d : Nat) : State :=
  let down := (List.range 2).foldl (fun (w : BitVec 2) m => if moduleDie m = d then w &&& ~~~(1#2 <<< m) else w) s.pkg.trained
  let s := { s with
    pkg := { s.pkg with dropped := s.pkg.dropped ||| (1#4 <<< d), trained := down }
    fw := s.fw.withoutDie d }
  (s.loseGateway d).stopFwc d

/-- Insert by grid, then block number. -/
def insertLost (e : Nat × Block) : List (Nat × Block) → List (Nat × Block)
  | [] => [e]
  | x :: xs => if e.2.grid.toNat < x.2.grid.toNat ∨ (e.2.grid = x.2.grid ∧ e.2.number ≤ x.2.number) then e :: x :: xs
    else x :: insertLost e xs

/-- The blocks on the cores of a die, by grid and number: a dormant block is on no core (07 R118). -/
def State.lostBlocks (s : State) (d : Nat) : List (Nat × Block) :=
  (s.disp.blocks.filterMap fun e => match e.2 with
    | none => none
    | some b => if b.core / 40 == d && decide (b.core < 160) && !b.dormant then some (e.1, b) else none).foldr insertLost []

/-- Restart the blocks of restartable grids that the die held, and give back the grids that lost a block otherwise
(DEDUCED, log 66). -/
def State.loseBlocks (s : State) (d : Nat) : State × List (BitVec 16 × BitVec 12) :=
  (s.lostBlocks d).foldl (fun (a : State × List (BitVec 16 × BitVec 12)) e =>
    let again := (a.1.conf.grid e.2.grid.toNat).restartable
    let s := a.1.abortBlock e.1
    if again then
      let item : QueueItem := { cls := 2, grid := e.2.grid, nominal := e.2.nominal, number := e.2.number, dormant := none }
      let k := rowKey e.2.grid e.2.nominal
      let rel := Sparse.get 0 s.disp.relCount k
      ({ s with disp := { s.disp with items := s.disp.items ++ [item]
                                      relCount := Sparse.set 0 s.disp.relCount k (if e.2.released then rel - 1 else rel) } }, a.2)
    else if (a.2.map Prod.fst).contains e.2.grid then (s, a.2)
    else (s, a.2 ++ [(e.2.grid, e.2.nominal)])) (s, [])

/-- Insert a record by its arrival at the chip. -/
def insertTask (r : TaskRec) : List TaskRec → List TaskRec
  | [] => [r]
  | x :: xs => if r.serial ≤ x.serial then r :: x :: xs else x :: insertTask r xs

/-- The task groups of a die's cores are lost. The records queued there are read from their mirror copies and hashed again in
arrival order, whatever the length of the queue they join, and every copy is rebuilt (R121, R123) (DEDUCED, log 66). -/
def State.loseTasks (s : State) (d : Nat) : State :=
  let cores := (List.range 40).map fun i => 40 * d + i
  let recs := (cores.flatMap fun c => Sparse.get [] s.fw.mirrors c).foldr insertTask []
  let s := s.groups.foldl (fun (s : State) e => match e.2 with
    | none => s
    | some g => if g.core / 40 == d && decide (g.core < 160) then s.dropGroup e.1 else s) s
  let s := { s with cores := Sparse.setAll {} s.cores (cores.map fun c => (c, {})), fw := { s.fw with mirrors := [] } }
  let s := recs.foldl (fun (s : State) r =>
    match s.taskCore r.ctx r.cap r.offset with
    | none => s
    | some c => s.setTasks c ((Sparse.get {} s.cores c : Core).taskQueue ++ [{ r with tick := s.tickOf (dieOf c) }])) s
  s.cores.foldl (fun (s : State) e => s.setTasks e.1 e.2.taskQueue) s

/-- The commands of a die's cores are lost. -/
def State.loseCommands (s : State) (d : Nat) : State :=
  { s with cmds := s.cmds.filter fun e => match e.2 with
      | none => true
      | some c => !(decide (c.req.core < 160) && c.group != 0 && c.req.core / 40 == d) }

/-- Drop a die at run time, or enter recovery when none may be dropped. The copies of the task queues are rebuilt before
CAPACITY is posted, and that before any FAULT (DEDUCED, log 66). -/
def State.dropDie (s : State) (d : Nat) : State :=
  if !s.dieRuns d then s
  else if !s.canDrop d then s.recover
  else
    let r := (s.loseUnits d).loseBlocks d
    let s := (r.1.loseCommands d).loseTasks d
    let s := s.post s.capacityRec
    let s := s.contain d 0x0D06 3 8 5 d none 0xFFFF 0xFFFF 0 0 0 0 0
    r.2.foldl (fun (s : State) e => s.postFault e.1 e.2 0x0004) s

/-- Write a die-drop proposal (13 R237): record 0x0D05, and in host-assisted mode a service request whose reply accepts or
declines it. In hardware mode firmware accepts it at once: the spec does not say when it would decline
(DESIGN CHOICE, log 95). -/
def State.propose (s : State) (die : Nat) (reason : Nat) : State :=
  let d := BitVec.ofNat 2 die
  let s := s.contain die 0x0D05 2 8 (if reason = 4 then 6 else 5) die none 0xFFFF 0xFFFF 0 0 0 0 0
  let hosted := s.anyAssisted 6
  let s := if hosted then
      s.serviceRequest 6 die 0 (leBytes 1 die ++ leBytes 1 reason ++ leBytes 6 0 ++ leBytes 8 (Sparse.get 0 s.fw.lasting die))
    else s
  let done := s.fw.proposals.any fun p => p.die == d && p.accepted
  let p : Proposal := { die := d, reason := BitVec.ofNat 8 reason, accepted := done || !hosted }
  { s with fw := { s.fw with proposals := (s.fw.proposals.filter fun p => p.die != d) ++ [p] } }

/-! ### The watchdog (03 R58) -/

/-- Park or unpark the user cores of a die. -/
def State.parkDie (s : State) (die : Nat) (on : Bool) : State :=
  let bit : BitVec 4 := 1#4 <<< die
  let s := { s with fw := { s.fw with diesParked := if on then s.fw.diesParked ||| bit else s.fw.diesParked &&& ~~~bit } }
  { s with cores := Sparse.setAll {} s.cores ((List.range 40).map fun i =>
      (40 * die + i, { (Sparse.get {} s.cores (40 * die + i) : Core) with parked := on })) }

/-- FWDOG (R58): the watchdog of a die expired. A second expiry within 10^8 ticks becomes a die-drop proposal. -/
def execFwdog (die : BitVec 2) (s : State) : Res :=
  let d := die.toNat
  if s.watchdog d ≠ 0 ∨ !s.dieRuns d ∨ s.fw.state ≠ 1 then .next s
  else
    let now := s.tickOf d
    let again := match Sparse.get none s.fw.lastExpiry d with
      | none => false
      | some t => decide ((now - t).toNat ≤ 100000000)
    let s := ((s.parkDie d true).stopFwc d).startFwc d
    let s := s.errorRecord d 8 0x0108 2 (leBytes 1 d)
    let s := { s with fw := { s.fw with lastExpiry := Sparse.set none s.fw.lastExpiry d (some now) } }
    .next (if again then s.propose d 4 else s)

/-- FIRMWARE_READINESS (R58): the user cores of the die resume. -/
def execFirmwareReadiness (die : BitVec 2) (s : State) : Res :=
  .next (if s.fw.diesParked.getLsbD die.toNat && s.fw.state == 1 then s.parkDie die.toNat false else s)

/-! ### Failed checks (13 R236-R238) -/

/-- The frame that a check names, with its tier. -/
def checkedFrame (e : CheckFail) : Option Nat := e.frame.map fun f => e.tier.toNat * 2 ^ 31 + f.toNat

/-- The gang of a group that would issue next: the cursor's, or the first that is not parked (DEDUCED, log 66). -/
def State.fetchingGang (s : State) (h : Nat) (g : Group) : List Nat :=
  if s.cursor.group == h && s.cursor.slices.all (fun i => g.live.contains i) && s.cursor.slices != [] then s.cursor.slices
  else
    match g.live.find? fun i => decide ((g.slice i).state = .ready) with
    | none => []
    | some i => g.gang (g.slice i).gang

/-- What a containment record says of a group: its grid, context and GID, and the PC of a slice's gang. -/
def Group.inRecord (g : Group) (slice : Option Nat) : Nat × Nat × Nat × W64 :=
  (if g.task then 0xFFFF else g.grid.toNat, g.ctx.toNat, g.gid.toNat, (slice.map fun i => (g.slice i).pc).getD 0)

/-- What the record of a check says of the group that it met (R238): the owner of a register line, the group that fetched, and
of a stash sector the grid and context of its block, with the GID where the block has one group (DESIGN CHOICE, log 65). -/
def State.checkedGroup (s : State) (e : CheckFail) : Nat × Nat × Nat × W64 :=
  let none_ : Nat × Nat × Nat × W64 := (0xFFFF, 0, 0, 0)
  match e.unitKind.toNat with
  | 2 =>
    match (s.block e.target).bind fun b => (s.group (b.groups.headD 0)).map fun g => (b, g) with
    | none => none_
    | some (b, g) => let r := g.inRecord none; (r.1, r.2.1, if b.groups.length = 1 then r.2.2.1 else 0, 0)
  | 3 =>
    match s.group e.target with
    | none => none_
    | some g => g.inRecord ((g.lineSlice e.sector.toNat).or g.live.head?)
  | 4 =>
    match s.group e.target with
    | none => none_
    | some g => g.inRecord (s.fetchingGang e.target g).head?
  | _ => none_

/-- The sector within its frame that a check names (R238): of a register line the first sector of its object line. -/
def State.checkedSector (s : State) (e : CheckFail) : Nat :=
  if e.frame.isNone then 0xFFFF
  else
    match e.unitKind.toNat with
    | 2 =>
      match (s.block e.target).bind fun b => b.regionAt (32 * e.sector.toNat) with
      | none => 0xFFFF
      | some r => r.objectOff (32 * e.sector.toNat) % 65536 / 32
    | 3 => 64 * e.sector.toNat % 65536 / 32
    | _ => if e.sector.toNat < 2048 then e.sector.toNat else 0xFFFF

/-- The containment record of a check. -/
def State.checkRecord (s : State) (e : CheckFail) (code : BitVec 16) (severity : Nat) : State :=
  let w := s.checkedGroup e
  s.contain e.die.toNat code severity e.unitKind.toNat e.check.toNat e.unitNum.toNat e.frame (s.checkedSector e) w.1 w.2.1 w.2.2.1
    w.2.2.2 0 (if code = 0x0D0B then (Config.linkPeer e.unitKind.toNat e.unitNum.toNat).setWidth 64 else 0)

/-- Poison the sector of a frame that a check names, or every sector when it names none (DESIGN CHOICE, log 65). -/
def State.poisonSectors (s : State) (f k : Nat) : State :=
  let ks := if k < 2048 then [k] else List.range 2048
  { s with mem := { s.mem with
      poison := Sparse.setAll false s.mem.poison (ks.map fun k => (f * 2048 + k, true)) } }

/-! ### Moving pages (10 R190) -/

/-- The valid entries of a table: (index, key, entry). -/
def State.tableEntries (s : State) (ptr : W64) : List (Nat × Nat × W64) :=
  if ptr.getLsbD 63 then (s.mem.tables.filter fun e =>
    decide (tableKey ptr 0 ≤ e.1) && decide (e.1 < tableKey ptr 256) && e.2.getLsbD 63).map fun e => (e.1 % 256, e.1, e.2)
  else []

/-- The leaves below a root: (page, key, leaf). -/
def State.leavesBelow (s : State) (root : W64) : List (Nat × Nat × W64) :=
  (s.tableEntries root).flatMap fun p => (s.tableEntries p.2.2).flatMap fun q =>
    (s.tableEntries q.2.2).map fun r => (65536 * p.1 + 256 * q.1 + r.1, r.2.1, r.2.2)

/-- A leaf of a page map: its object, whether in the shadow, its page, its key and the entry. -/
structure PageRef where
  object : BitVec 28
  shadow : Bool
  page : Nat
  key : Nat
  leaf : W64
  deriving DecidableEq, Repr

/-- The leaves of the objects of running dies that meet a test. -/
def State.pageRefs (s : State) (test : W64 → Bool) : List PageRef :=
  (s.mem.objects.filter fun o => s.dieRuns (homeDie (BitVec.ofNat 28 o.1))).flatMap fun o =>
    let refs (shadow : Bool) (root : W64) : List PageRef :=
      ((s.leavesBelow root).filter fun e => test e.2.2).map fun e =>
        { object := BitVec.ofNat 28 o.1, shadow := shadow, page := e.1, key := e.2.1, leaf := e.2.2 }
    refs false o.2.root ++ refs true o.2.shadow

/-- The leaves that name a frame. -/
def State.leavesOf (s : State) (f : Nat) : List PageRef := s.pageRefs fun w => leafFrame w == f

/-- The page of a leaf is under migration. -/
def State.moving (s : State) (e : PageRef) : Bool := !e.shadow && s.mem.migrating.contains (e.object, e.page)

/-- Begin migrations (R190 step 1): published pages not yet write-protected, while their Weir's table of 8 has room. -/
def State.beginMoves (s : State) (refs : List PageRef) : State :=
  refs.foldl (fun (s : State) e =>
    let sl := homeSlice e.object e.page
    let used := (s.mem.migrating.filter fun m => homeSlice m.1 m.2 == sl).length
    if e.shadow || leafProtected e.leaf || decide (8 ≤ used) then s
    else { s with mem := { s.mem with
        tables := Sparse.set 0 s.mem.tables e.key (e.leaf ||| (1#64 <<< 62))
        migrating := s.mem.migrating ++ [(e.object, e.page)] } }) s

/-- A page leaves the migration table. -/
def MemState.arrived (m : MemState) (e : PageRef) : MemState :=
  if e.shadow then m else { m with migrating := m.migrating.filter fun x => x != (e.object, e.page) }

/-- Move a page to a new frame (R190 steps 2 and 3): dirty stash copies come home, the frame is copied with tags and poison and
bound to the slot's current generation, and one leaf write installs it and sets dirty. A page that was write-protected for
another reason stays so. Without a frame the page stays; the flag is then false. -/
def State.movePage (s : State) (e : PageRef) : State × Bool :=
  let old := leafFrame e.leaf
  let kept : W64 := if leafProtected e.leaf && !s.moving e then 1#64 <<< 62 else 0
  match s.takeFrame (old % 128) with
  | (s, none) => (s, false)
  | (s, some f) =>
    let s := (s.recall e.object (e.page * 65536) 65536 old false none).copyPage old f
    let w : W64 := ((e.leaf &&& ~~~(0x40000001FFFFFFFF#64)) ||| BitVec.ofNat 64 f) ||| (1#64 <<< 61) ||| kept
    ({ s with mem := ({ s.mem with tables := Sparse.set 0 s.mem.tables e.key w } : MemState).arrived e }, true)

/-- End a migration: pages under migration, pages write-protected otherwise and shadow pages move. The old frame returns to
firmware when no leaf names it any more and it is not retired (DESIGN CHOICE, log 80). -/
def State.endMove (s : State) (e : PageRef) : State × Bool :=
  if !e.shadow && !leafProtected e.leaf && !s.moving e then (s, true)
  else
    match s.movePage e with
    | (t, false) => (t, false)
    | (t, true) =>
      let old := leafFrame e.leaf
      (if t.leavesOf old = [] && !t.isRetired old then t.returnFrame old else t, true)

/-- End the migrations among some pages; the flag is false when one found no frame. -/
def State.endMoves (s : State) (refs : List PageRef) : State × Bool :=
  refs.foldl (fun (a : State × Bool) e =>
    let r := a.1.endMove e
    (r.1, a.2 && r.2)) (s, true)

/-! ### Retired frames (13 R237) -/

/-- The pages of a retired frame that find no new frame stay there, poisoned: a leaf write restores each (R190), so that the
writers go on (DESIGN CHOICE, log 65). -/
def State.leaveOnFrame (s : State) (f : Nat) (refs : List PageRef) : State :=
  refs.foldl (fun (s : State) e =>
    if s.moving e then
      { s with mem := ({ s.mem with tables := Sparse.set 0 s.mem.tables e.key (e.leaf &&& ~~~(1#64 <<< 62)) } : MemState).arrived e }
    else s) (s.poisonSectors f 2048)

/-- Go on with the migration of the pages of the first retired frame that has some left. -/
def State.retireStep (s : State) : State :=
  match s.fw.retiring with
  | [] => s
  | f :: rest =>
    let ended (s : State) : State := { s with fw := { s.fw with retiring := rest } }
    let refs := s.leavesOf f
    if refs = [] then ended s
    else
      match s.endMoves refs with
      | (_, false) => ended (s.leaveOnFrame f refs)
      | (t, true) => t.beginMoves (t.leavesOf f)

/-- Retire a frame (13 R237 item 1): it is listed, never allocated again, and the migration of its pages begins. A full list
proposes the die, when it fills and at each frame that finds it full. -/
def State.retireFrame (s : State) (k : Nat) : State :=
  let d := k % 128 / 32
  let f := BitVec.ofNat 33 k
  let list := Sparse.get [] s.fw.retired d
  if list.contains f then s
  else if 65536 ≤ list.length then s.propose d 1
  else
    let s := { s with fw := { s.fw with
      retired := Sparse.set [] s.fw.retired d (list ++ [f]), retiring := s.fw.retiring ++ [k] } }
    let sl := k % 128
    let e := Sparse.get (0, []) s.mem.fwFrames sl
    let s := { s with mem := { s.mem with
      fwFrames := Sparse.set (0, []) s.mem.fwFrames sl (e.1, e.2.filter fun x => x != k)
      freeFrames := Sparse.set [] s.mem.freeFrames sl ((Sparse.get [] s.mem.freeFrames sl).filter fun x => x != f) } }
    let s := s.beginMoves (s.leavesOf k)
    let s := s.contain d 0x0D04 2 1 1 sl (some (f.setWidth 31)) 0xFFFF 0xFFFF 0 0 0 0 0
    if list.length + 1 = 65536 then s.propose d 1 else s

/-! ### The outcome of a check (13 R236) -/

/-- An error of a frame is counted; 16 within 10^9 ticks retire it (R237 item 1). -/
def State.countFrame (s : State) (f : Nat) (now : W64) : State :=
  let recent := (Sparse.get [] s.fw.corrected f).filter fun t => decide ((now - t).toNat ≤ 1000000000)
  let s := { s with fw := { s.fw with corrected := Sparse.set [] s.fw.corrected f (now :: recent) } }
  if 16 ≤ recent.length + 1 then s.retireFrame f else s

/-- A corrected error: recorded at most once per frame in 10^6 ticks, and counted every time (R238). -/
def State.corrected (s : State) (e : CheckFail) : State :=
  match checkedFrame e with
  | none => s.checkRecord e 0x0D01 0
  | some f =>
    let now := s.tickOf e.die.toNat
    let silent := match Sparse.get none s.fw.recorded f with
      | none => false
      | some t => decide ((now - t).toNat < 1000000)
    let t := s.checkRecord e 0x0D01 0
    (if silent then { t with host := s.host }
      else { t with fw := { t.fw with recorded := Sparse.set none t.fw.recorded f (some now) } }).countFrame f now

/-- A context line of a group is poisoned: the cache and the spill area lose it, and its place in the object is poisoned. The
groups of a core that this met are kept (DESIGN CHOICE, log 65). -/
def State.poisonLine (s : State) (h n : Nat) : State :=
  match s.group h with
  | none => s
  | some g =>
    let s := s.putGroup h { g with present := Sparse.set .invalid g.present n .invalid
                                   spilled := g.spilled.filter fun m => m.1 != n }
    let bad := Sparse.get [] s.fw.rccBad g.core
    let s := if bad.contains h then s
      else { s with fw := { s.fw with rccBad := Sparse.set [] s.fw.rccBad g.core (bad ++ [h]) } }
    match s.plainPage (BitVec.ofNat 28 h) (64 * n) with
    | none => s
    | some (w, _) =>
      let k := leafFrame w * 2048 + 64 * n % 65536 / 32
      { s with mem := { s.mem with poison := Sparse.setAll false s.mem.poison [(k, true), (k + 1, true)] } }

/-- Whether lasting errors of a core's register context cache poisoned lines of more than one of its groups. -/
def State.rccSpreads (s : State) (h : Nat) : Bool :=
  match s.group h with
  | none => false
  | some g => decide (1 < (Sparse.get [] s.fw.rccBad g.core).length)

/-- A sector of a block's stash is poisoned. The blocks of a core that this met are kept (DESIGN CHOICE, log 65). -/
def State.poisonStash (s : State) (k n : Nat) : State :=
  match s.block k with
  | none => s
  | some b =>
    let bad := Sparse.get [] s.fw.stashBad b.core
    let s := s.putBlock k { b with poison := Sparse.set false b.poison n true }
    if bad.contains k then s else { s with fw := { s.fw with stashBad := Sparse.set [] s.fw.stashBad b.core (bad ++ [k]) } }

/-- Whether lasting errors of a core's stash poisoned lines of more than one of its groups. -/
def State.stashSpreads (s : State) (k : Nat) : Bool :=
  match s.block k with
  | none => false
  | some b => decide (1 < ((Sparse.get [] s.fw.stashBad b.core).flatMap fun j => ((s.block j).map Block.groups).getD []).length)

/-- A packet with the sectors of a mask poisoned: a read's answer then says so. -/
def poisonSectorsOf (m : BitVec 8) (p : Packet) : Packet :=
  if p.payload = [] then p
  else { p with poison := p.poison ||| m, status := if p.opcode = 0x08 then 3 else p.status }

/-- The packets that a gateway holds: in its reorder pool, at its ports, and waiting to leave, in a window or without one. -/
def State.gatewayPackets (s : State) (plane : Nat) : List Packet :=
  ((s.fab.rx.filter fun e => e.1.plane.toNat == plane).flatMap fun e => e.2.pool)
    ++ ((s.fab.ports.filter fun e => e.1 / 16 == plane).flatMap fun e => e.2.buffer)
    ++ ((s.fab.tx.filter fun e => e.1.plane.toNat == plane).flatMap fun e => e.2.queue)
    ++ s.fab.loose.filter fun p => p.plane.toNat == plane

/-- A parity error in a gateway (02 R45): the packet that the check names by its place there continues, with the sectors that
the check names poisoned (DESIGN CHOICE, log 65). -/
def State.poisonPacket (s : State) (plane n : Nat) (m : BitVec 8) : State :=
  match (s.gatewayPackets plane)[n]? with
  | none => s
  | some q =>
    let fix (ps : List Packet) : List Packet := ps.map fun p => if p = q then poisonSectorsOf m p else p
    let f := s.fab
    { s with fab := { f with
        rx := f.rx.map fun e => if e.1.plane.toNat = plane then (e.1, { e.2 with pool := fix e.2.pool }) else e
        ports := f.ports.map fun e => if e.1 / 16 = plane then (e.1, { e.2 with buffer := fix e.2.buffer }) else e
        tx := f.tx.map fun e => if e.1.plane.toNat = plane then (e.1, { e.2 with queue := fix e.2.queue }) else e
        loose := fix f.loose } }

/-- A lasting parity error of the instruction cache: IFETCH (DEDUCED, log 66). -/
def State.fetchFails (s : State) (h : Nat) : State :=
  match s.group h with
  | none => s
  | some g =>
    match s.fetchingGang h g with
    | [] => s
    | i :: is =>
      let pc := (g.slice i).pc
      s.raise h g (i :: is) pc (g.gangTrap (i :: is) Cause.ifetch.code 0 pc)

/-- A lasting error, by the unit that met it (R236). A clean sector of the LLC or of a stash also counts against its frame; the
check of a dirty one had no source to repeat from. -/
def State.lastingError (s : State) (e : CheckFail) : State :=
  let d := e.die.toNat
  let s := { s with fw := { s.fw with lasting := Sparse.set 0 s.fw.lasting d (Sparse.get 0 s.fw.lasting d + 1) } }
  let poisoned (s : State) : State := match checkedFrame e with
    | none => s
    | some f => s.poisonSectors f e.sector.toNat
  let counted (s : State) : State := match checkedFrame e, e.retry with
    | some f, some _ => s.countFrame f (s.tickOf d)
    | _, _ => s
  if e.check = 2 then (poisoned s).checkRecord e 0x0401 2
  else
    match e.unitKind.toNat with
    | 0 => counted ((poisoned s).checkRecord e 0x0D03 2)
    | 1 =>
      let s := (poisoned s).checkRecord e 0x0D03 2
      match checkedFrame e with
      | none => s
      | some f => s.retireFrame f
    | 2 =>
      let s := counted ((s.poisonStash e.target e.sector.toNat).checkRecord e 0x0D03 2)
      if s.stashSpreads e.target then s.propose d 2 else s
    | 3 =>
      let s := (s.poisonLine e.target e.sector.toNat).checkRecord e 0x0D03 2
      if s.rccSpreads e.target then s.propose d 2 else s
    | 4 => s.fetchFails e.target
    | 5 => (s.poisonPacket e.unitNum.toNat e.target (e.sector.setWidth 8)).checkRecord e 0x0D0A 2
    | 6 =>
      let p := Sparse.get {} s.fab.ports e.unitNum.toNat
      if p.state = .trained then
        s.putPort e.unitNum.toNat { p with state := .training, since := s.tickOf d }
      else s
    | 7 => (s.checkRecord e 0x0D0B 2).propose d 3
    | 8 => s.propose d 2
    | _ => s

/-- ERROR_RETRY (R236): corrected, transient when the one repeat passed, else lasting. -/
def execErrorRetry (e : CheckFail) (s : State) : Res :=
  .next (if e.corrected then s.corrected e
    else if e.retry = some true then
      ({ s with fw := { s.fw with transient := s.fw.transient + 1 } } : State).checkRecord e 0x0D02 1
    else s.lastingError e)

end Sys2Proof.Machine
end

