-- ==== Sys2Proof/Machine/Wake.lean ====
section
/-! DEFINITION. How a page fault ends (10 R178, R180): wakes, refusals, replays marked no wake, and the leaf that a host
supplies. -/

namespace Sys2Proof.Machine

/-! ### Those who wait -/

/-- Whether a waiter on a fault of kind `waits` waits for an entry of a kind: one whose kind another chip's answer did not name
waits for any (DESIGN CHOICE, log 69). -/
def kindMeets (waits kind : Nat) : Bool := waits == 0 || waits == kind

/-- Whether a group waits for an entry of a page and kind. No group writes a shadow, so that an entry of kind 4 is none of its
(DESIGN CHOICE, log 69). -/
def Group.waitsOn (g : Group) (place : BitVec 28 × Nat) (kind : Nat) : Bool :=
  kind != 4 && (List.range g.faultedOn.length).any fun i =>
    g.faultedOn[i]? == some place && kindMeets (g.faultKinds.getD i 0) kind

/-- A group of a core at the page-fault park for a page goes on, so that the instruction is issued again; a refused page
answers its lanes PAGEREF. The park of a context fault ends at its page's wake (09 R154). -/
def State.wakeFaulted (s : State) (place : BitVec 28 × Nat) (kind core : Nat) (refused : Bool) (h : Nat) : State :=
  match s.group h with
  | none => s
  | some g =>
    if g.core != core || !g.waitsOn place kind then s
    else if g.ctxFault then (if refused then s else s.putGroup h g.endContextFault)
    else
      let g := { g with faultedOn := [], faultKinds := [], noWake := false, noWakeAt := 0
                        refusedOn := if refused then place :: g.refusedOn else g.refusedOn
                        refusedFor := if refused then g.faultSlices else g.refusedFor }
      s.putGroup h (g.mapSlices (fun _ sl => sl.ready) (g.live.filter fun i => (g.slice i).park == .pageFault))

/-- A command of a core that waits on a page goes on (DESIGN CHOICE, log 69). -/
def Command.wake (c : Command) (place : BitVec 28 × Nat) (kind core : Nat) (refused : Bool) : Command :=
  if c.req.core = core ∧ c.faulted.contains place ∧ kindMeets c.faultKind kind then
    { c with faulted := c.faulted.filter (fun e => e != place), noWake := false, replayAt := 0,
             refused := if refused then place :: c.refused else c.refused }
  else c

/-- A header read that waits on a page goes on. -/
def ImageRead.wake (r : ImageRead) (place : BitVec 28 × Nat) (kind : Nat) (refused : Bool) : ImageRead :=
  if r.page = some place ∧ kindMeets r.kind kind then { r with page := none, refused := refused } else r

/-- A signal that met a page fault is tried again, or ends with a refusal. -/
def SignalDue.wake (d : SignalDue) (mine refused : Bool) : SignalDue :=
  if mine && d.answer == some 2 then { d with answer := if refused then some 0x0A else none, sent := false } else d

/-- The page that a grid's signal word lies on. -/
def State.signalPlace (s : State) (grid : BitVec 16) : BitVec 28 × Nat :=
  let w := (s.conf.grid grid.toNat).signal
  s.pagePlace (refHome w) (refObject w) (refOffset w / 65536)

/-- The kind of the fault that a signal OR meets at its page. -/
def State.signalKind (s : State) (grid : BitVec 16) : Nat := s.pageKind (s.signalPlace grid) true false

/-- All of a core that wait on an entry of a place and kind go on; the header reads and signals of the dispatcher ask as
core 0. -/
def State.wakePage (s : State) (place : BitVec 28 × Nat) (kind core : Nat) (refused : Bool) : State :=
  let s := s.groups.foldl (fun (s : State) e => s.wakeFaulted place kind core refused e.1) s
  let s : State := { s with cmds := s.cmds.map fun e => (e.1, e.2.map fun c => c.wake place kind core refused) }
  if core ≠ 0 then s
  else
    let mine (d : SignalDue) : Bool := s.signalPlace d.grid == place && kindMeets d.kind kind
    { s with disp := { s.disp with
        images := s.disp.images.map fun r => r.wake place kind refused, signals := s.disp.signals.map fun d => d.wake (mine d) refused } }

/-! ### Entries -/

/-- The fault entry of an object, page and kind. -/
def State.faultEntry (s : State) (o : BitVec 28) (page kind : Nat) : Option FaultEntry :=
  s.mem.faults.find? fun e => e.object == o && e.page == page && e.kind == kind

/-- Whether the cause of a fault has gone. -/
def State.faultServed (s : State) (e : FaultEntry) : Bool :=
  let t := s.objEntry e.object
  let off := e.page * 65536
  let free := match s.walk t.root off with
    | .leaf _ w => (s.freeFrame (homeSlice e.object e.page) (leafTier w)).isSome
    | _ => true
  let leafOk (r : W64) : Bool := match s.walk r off with
    | .leaf _ w => !leafMalformed w (homeSlice e.object e.page) && (e.kind == 5 || e.kind == 1 || !leafProtected w)
    | _ => false
  if !t.valid || decide (t.last < off) then false
  else
    match e.kind with
    | 4 => (s.shadowKey t off).isSome && (free || leafOk t.shadow)
    | 3 => !s.mem.migrating.contains (e.object, e.page)
    | _ => leafOk t.root

/-- The group whose context object waits for a refused page takes CTXREFUSED (09 R154). -/
def State.refuseContext (s : State) (e : FaultEntry) : State :=
  match s.group e.object.toNat with
  | none => s
  | some g =>
    if !g.ctxFault || !g.waitsOn (e.object, e.page) e.kind || !e.requesters.contains (s.fab.self, g.core) then s
    else
      match execContextFault e.object.toNat .refused s with
      | .next t => t
      | _ => s

/-- A recorded requester is told: one of another chip by a message. -/
def State.tellFault (s : State) (e : FaultEntry) (refused : Bool) (who : BitVec 12 × Nat) : State :=
  if who.1 = s.fab.self then s.wakePage (e.object, e.page) e.kind who.2 refused
  else { s with outbox := s.outbox ++ [.wake who.1 who.2 e.object e.page e.kind refused] }

/-- An entry ends: it leaves the queue, each requester it recorded is woken or refused, and waiting reports follow. -/
def State.endFault (s : State) (e : FaultEntry) (refused : Bool) : State :=
  let s := { s with mem := { s.mem with faults := s.mem.faults.filter fun x => x != e } }
  let s := e.requesters.foldl (fun (s : State) who => s.tellFault e refused who) s
  (if refused then s.refuseContext e else s).reportFaults

/-- The shadow of an object with the upper levels of its published map (R188): the tables that are missing are made, and their
leaves are invalid (DESIGN CHOICE, log 68). -/
def State.makeShadow (s : State) (o : BitVec 28) : State :=
  let r := s.tableAt o (s.objEntry o).shadow
  let root := r.2
  let s := { r.1 with mem := { r.1.mem with objects := Sparse.set {} r.1.mem.objects o.toNat { s.objEntry o with shadow := root } } }
  if !root.getLsbD 63 then s
  else
    (s.tableEntries (s.objEntry o).root).foldl (fun (s : State) p =>
      let k := tableKey root p.1
      let a := s.tableAt o (Sparse.get 0 s.mem.tables k)
      let s := a.1.setEntry k a.2
      if !a.2.getLsbD 63 then s
      else
        (s.tableEntries p.2.2).foldl (fun (s : State) q =>
          let k := tableKey a.2 q.1
          let b := s.tableAt o (Sparse.get 0 s.mem.tables k)
          b.1.setEntry k b.2) s) s

/-- Firmware serves a reported fault of kind 4 in hardware mode (R178 item 3, R188): it makes the object's shadow, or puts a frame
into the free-frame list of the slice (DESIGN CHOICE, log 68). -/
def State.serveShadow (s : State) (e : FaultEntry) : State :=
  let off := e.page * 65536
  let sl := homeSlice e.object e.page
  if e.kind ≠ 4 ∨ !e.reported ∨ s.fw.state ≠ 1 ∨ s.hostAssisted (s.ctxOf e.ctx).part 0 then s
  else
    let s := if (s.shadowKey (s.objEntry e.object) off).isSome then s else s.makeShadow e.object
    if Sparse.get [] s.mem.freeFrames sl ≠ [] then s
    else
      match s.takeFrame sl with
      | (s, none) => s
      | (s, some f) => s.freeAgain f

/-- PAGE_FAULT_WAKE (R178, R180): an entry whose cause has gone, or that firmware serves, is served. The wake of another chip's
Weir names the core that it recorded. -/
def execPageFaultWake (object : ObjectAt) (page : Nat) (kind : FaultFor) (s : State) : Res :=
  .next (if object.home ≠ s.fab.self then s.wakePage (s.pagePlace object.home object.object page) kind.kind kind.core false
    else match s.faultEntry object.object page kind.kind with
    | some e => if (s.serveShadow e).faultServed e then (s.serveShadow e).endFault e false else s
    | none => s)

/-- PAGE_FAULT_REFUSAL (R178): a reported entry is refused; that of another chip's Weir names the core that it recorded. -/
def execPageFaultRefusal (object : ObjectAt) (page : Nat) (kind : FaultFor) (s : State) : Res :=
  .next (if object.home ≠ s.fab.self then s.wakePage (s.pagePlace object.home object.object page) kind.kind kind.core true
    else match s.faultEntry object.object page kind.kind with
    | some e => if e.reported then s.endFault e true else s
    | none => s)

/-- NO_WAKE_REPLAY (R178): requesters marked no wake replay after 1,000 ticks: those of a group, its context fault, and its
commands. -/
def execNoWakeReplay (grp : Nat) (s : State) : Res :=
  let now (core : Nat) : Nat := (s.tickOf (dieOf core)).toNat
  let due (core : Nat) (c : Command) : Bool := c.noWake && c.group == grp && decide (c.replayAt.toNat ≤ now core)
  let s : State := { s with cmds := s.cmds.map (fun (e : Nat × Option Command) => (e.1, e.2.map fun c =>
    if due c.req.core c then { c with faulted := [], noWake := false, replayAt := 0 } else c)) }
  match s.group grp with
  | none => .next s
  | some g =>
    if !g.noWake || decide (now g.core < g.noWakeAt.toNat) then .next s
    else if g.ctxFault then .next (s.putGroup grp g.endContextFault)
    else
      let parked := g.live.filter fun i => (g.slice i).park == .pageFault
      .next (s.putGroup grp (({ g with faultedOn := [], noWake := false, noWakeAt := 0 } : Group).mapSlices
        (fun _ sl => sl.ready) parked))

/-! ### The mapping that a host supplies (10 R178) -/

/-- Whether a frame is outside the pool of a context: beyond its tier, one that firmware holds for itself, or a retired one
(DESIGN CHOICE, log 68, 91). -/
def State.frameTaken (s : State) (f : Nat) : Bool :=
  let n := frameNumber f / 128
  let e := Sparse.get (0, []) s.mem.fwFrames (f % 128)
  decide (tierFrames (frameTier f) (f % 128) ≤ n) || (frameTier f == 1 && decide (contextFrames ≤ n + e.1)) || s.isRetired f

/-- A frame filled with zeros, in no context's binding. -/
def State.zeroFrame (s : State) (f : Nat) : State :=
  { s with mem := s.mem.clearFrame f, trust := { s.trust with frames := Sparse.set {} s.trust.frames f {} } }

/-- Serve a report with the host's leaf, or refuse it. A page of a context object that is mapped for the first time is zero
(09 R154). -/
def State.serveFault (s : State) (o : BitVec 28) (page kind : Nat) (leaf : Option W64) : State :=
  match s.faultEntry o page kind with
  | none => s
  | some e =>
    let t := s.objEntry o
    let good (w : W64) : Bool := w.getLsbD 63 && t.valid && decide (page * 65536 ≤ t.last)
      && !leafMalformed w (homeSlice o page) && !s.frameTaken (leafFrame w)
    let fresh : Bool := t.isContext && s.walk t.root (page * 65536) == .missing
    let r : State × Bool := match leaf with
      | none => (s, false)
      | some w =>
        if good w then (if fresh then s.zeroFrame (leafFrame w) else s).installLeaf o page (kind == 4) w else (s, false)
    if r.2 then r.1.endFault e false else s.endFault e true

end Sys2Proof.Machine
end

