-- ==== Sys2Proof/Machine/HostIface.lean ====
section
/-! DEFINITION. The host interface (03 R46-R56): what a host access does and reads, submits, the error and service rings, and
the answers of the host. -/

namespace Sys2Proof.Machine

/-! ### Reads (R46, R47, R62, R65) -/

/-- The boot status register (R62). -/
def State.bootStatus (s : State) : W64 :=
  (s.fw.state.setWidth 64 <<< 56) ||| (s.fw.image.setWidth 64 <<< 48) ||| (s.fw.slotA.setWidth 64 <<< 40)
    ||| (s.fw.slotB.setWidth 64 <<< 32) ||| (BitVec.ofNat 64 s.pkg.cfgDefault.toNat <<< 24) ||| (s.runMap.setWidth 64 <<< 20)

/-- The free entries of the submit buffer. -/
def State.subFree (s : State) : Nat := 4096 - s.host.subBuf.length

/-- MBSTAT (R65). -/
def State.mailStatus (s : State) : W64 := (BitVec.ofNat 64 s.fw.busy.toNat <<< 63) ||| s.fw.status.setWidth 64

/-- A register of the control window (R47). -/
def State.controlReg (s : State) (off : Nat) : Option W64 :=
  match off with
  | 0x000 => some 0
  | 0x008 => some (BitVec.ofNat 64 s.subFree)
  | 0x010 => some s.host.subDrop
  | 0x018 => some 0
  | 0x020 => some s.host.errHead
  | 0x028 => some s.host.errTail
  | 0x030 => some s.host.errLost
  | 0x038 => some s.host.svcHead
  | 0x040 => some s.host.svcTail
  | _ => none

/-- Byte i of a word. -/
def wordByte (w : W64) (i : Nat) : Byte := w.extractLsb' (8 * i) 8

/-- The byte that a host read finds at an offset; none for an uncovered offset, which reads as ones. In recovery only four
windows answer (R63). What MBCMD and the reply port, which are written, give to a read the spec does not say: ones, like an
uncovered offset (DESIGN CHOICE, log 79). -/
def State.hostByte (s : State) (off : Nat) : Option Byte :=
  if off < 8 then some (wordByte s.bootStatus off)
  else if 0x1000 ≤ off ∧ off < 0x5000 then some (Config.certificate (identityKey s.pkg.seed ++ slhPublic s.pkg.seed) (off - 0x1000))
  else if 0x40008 ≤ off ∧ off < 0x40010 then some (wordByte s.mailStatus (off - 0x40008))
  else if 0x4000000 ≤ off ∧ off < 0x8000000 then some (Sparse.get 0 s.host.staging (off - 0x4000000))
  else if s.fw.state = 2 then none
  else if 0x10000 ≤ off ∧ off < 0x20000 then
    (s.controlReg ((off - 0x10000) / 8 * 8)).map fun w => wordByte w ((off - 0x10000) % 8)
  else if 0x20000 ≤ off ∧ off < 0x24000 then
    some ((Sparse.get [] s.host.errRing ((off - 0x20000) / 64)).getD ((off - 0x20000) % 64) 0)
  else if 0x30000 ≤ off ∧ off < 0x34000 then
    some ((Sparse.get [] s.host.svcRing ((off - 0x30000) / 64)).getD ((off - 0x30000) % 64) 0)
  else none

/-- What a host read of n bytes answers. -/
def State.hostRead (s : State) (off n : Nat) : List Byte := (List.range n).map fun i => (s.hostByte (off + i)).getD 0xFF

/-- The answer of a host read leaves the device. -/
def State.answerRead (s : State) (h : HostAccess) : State :=
  { s with outbox := s.outbox ++ [.hostData (s.hostRead h.offset h.data.length)] }

/-- SUBDROP_READ (R47): the value is returned and the register cleared. -/
def execSubdropRead (h : HostAccess) (s : State) : Res :=
  .next (if s.windowsOpen h && h.readsReg 0x10010 then
      let s := s.answerRead h
      { s with host := { s.host with subDrop := 0 } } else s)

/-- ERRLOST_READ (R47). -/
def execErrlostRead (h : HostAccess) (s : State) : Res :=
  .next (if s.windowsOpen h && h.readsReg 0x10030 then
      let s := s.answerRead h
      { s with host := { s.host with errLost := 0 } } else s)

/-! ### The rings (R51, R52) -/

/-- A tail that the host writes: not beyond the head. -/
def ringTail (head v : W64) : W64 := if head.ult v then head else v

/-- ERRTAIL_WRITE (R51). -/
def execErrtailWrite (h : HostAccess) (s : State) : Res :=
  .next (if s.windowsOpen h && h.writes8 0x10028 then
      { s with host := { s.host with errTail := ringTail s.host.errHead h.value } } else s)

/-- SVCTAIL_WRITE (R52). -/
def execSvctailWrite (h : HostAccess) (s : State) : Res :=
  .next (if s.windowsOpen h && h.writes8 0x10040 then
      { s with host := { s.host with svcTail := ringTail s.host.svcHead h.value } } else s)

/-- The bytes of a service request in the ring. -/
def Service.bytes (r : Service) : List Byte :=
  leBytes 8 r.id.toNat ++ leBytes 1 r.function.toNat ++ leBytes 1 r.die.toNat ++ leBytes 2 r.part.toNat ++ leBytes 4 0
    ++ (r.body ++ List.replicate 48 0).take 48

/-- SERVICE_REQUEST (R52): while the ring has room, the oldest waiting request is written. -/
def execServiceRequest (s : State) : Res :=
  let h := s.host
  match h.svcWaiting with
  | [] => .next s
  | r :: rest =>
    if h.svcHead - h.svcTail = 256 then .next s
    else
      let r := { r with tick := s.tickOf r.die.toNat }
      .next { s with host := { h with
        svcWaiting := rest, svcOpen := h.svcOpen ++ [r], svcHead := h.svcHead + 1,
        svcRing := Sparse.set [] h.svcRing (h.svcHead.toNat % 256) r.bytes } }

/-! ### Submits (R48, R49) -/

/-- Discard a submit write: counted, with one error record (DESIGN CHOICE, log 70). -/
def State.dropSubmit (s : State) (code : BitVec 16) (ctx : Nat) : State :=
  ({ s with host := { s.host with subDrop := s.host.subDrop + 1 } } : State).errorRecord 0 0 code 2 (leBytes 4 ctx)

/-- SUBMIT_WRITE (R48, R49): one aligned 64-byte write to a context's port is one entry; the four cases discard it. -/
def execSubmitWrite (h : HostAccess) (s : State) : Res :=
  let at_ := h.offset - 0x10000000
  let n := at_ / 64
  let r := BitVec.ofNat 512 (leNat h.data)
  let d := s.ctxOf (BitVec.ofNat 20 n)
  .next (if !s.windowsOpen h || decide (h.offset < 0x10000000) || decide (0x14000000 ≤ h.offset) then s
    else if at_ % 64 ≠ 0 ∨ h.data.length ≠ 64 ∨ h.enables = false then s.dropSubmit 0x0101 n
    else if 4096 ≤ s.host.subBuf.length then s.dropSubmit 0x0102 n
    else if !d.accepts || !d.hostSubmit then s.dropSubmit 0x0103 n
    else if !submitWellFormed r then s.dropSubmit 0x0104 n
    else { s with host := { s.host with subBuf := s.host.subBuf ++ [(BitVec.ofNat 20 n, r)] } })

/-- Whether the chip may post events other than ADMIT (05 R91, 03 R64). -/
def State.mayPost (s : State) : Bool := s.mayPostType 0x01

/-- SUBMIT_BUFFER_DRAIN (R48): the oldest entry leaves as a SUBMIT event, once its context is found to accept submits. -/
def execSubmitBufferDrain (s : State) : Res :=
  match s.host.subBuf with
  | [] => .next s
  | (n, r) :: rest =>
    if !s.mayPost then .next s
    else
      let s := { s with host := { s.host with subBuf := rest } }
      .next (if (s.ctxOf n).accepts then s.post (s.record 0x01 n (packSubmit r 0 (s.submitDigest r)))
        else s.dropSubmit 0x0103 n.toNat)

/-! ### Modes (R54-R56) -/

/-- PMODE_WRITE (R56). -/
def execPmodeWrite (h : HostAccess) (s : State) : Res :=
  if !s.windowsOpen h || !h.writes8 0x10018 then .next s
  else
    let v := h.value
    let id : BitVec 16 := v.extractLsb' 48 16
    let mode : BitVec 16 := v.setWidth 16
    .next (if bits v 47 16 ≠ 0 ∨ 128 ≤ mode.toNat ∨ (s.partitions.all fun p => p.id != id) then
        s.errorRecord 0 0 0x0107 2 (leBytes 8 v.toNat)
      else { s with host := { s.host with mode := Sparse.set 0 s.host.mode id.toNat mode } })

/-- Whether a frame of host memory is registered (10 R184). -/
def hostFrame (n : Nat) : Bool := decide (n < 2 ^ 31) && decide (n / 128 < tierFrames 2 (n % 128))

/-- A host write to a host-memory page (11 R208). -/
def State.hostPageWrite (s : State) (h : HostAccess) : State :=
  let n := h.offset / 65536
  if hostFrame n && decide (h.offset % 65536 + h.data.length ≤ 65536) then s.hostStore (2 ^ 32 + n) (h.writes (h.offset % 65536))
  else s

/-- HOST_REGISTER_WRITE (R46, R47): a write that no other event stands for. The staging window is plain memory, of which the
enabled bytes are written, and a write that lies in part outside it is dropped whole (DESIGN CHOICE, log 70); every other write to
a window changes nothing. What the host writes to its own memory is there,
and so is a slot of the boot store while firmware slots are updated by the host (R54 bit 5). -/
def execHostRegisterWrite (h : HostAccess) (s : State) : Res :=
  let end_ := h.offset + h.data.length
  .next (match h.target with
    | .window =>
      if s.hostReaches h && decide (0x4000000 ≤ h.offset) && decide (end_ ≤ 0x8000000) then
        { s with host := { s.host with staging := Sparse.setAll 0 s.host.staging (h.writes (h.offset - 0x4000000)) } }
      else s
    | .bootStore =>
      if s.anyAssisted 5 && decide (0x1000000 ≤ h.offset) && decide (end_ ≤ 0x9000000) then
        { s with fw := { s.fw with store := Sparse.setAll 0 s.fw.store (h.writes h.offset) } }
      else s
    | .memory => { s with host := { s.host with memory := Sparse.setAll 0 s.host.memory (h.writes h.offset) } }
    | .page => s.hostPageWrite h)

/-! ### Replies (R53) -/

/-- Post a VERDICT for the split round (05 R93). -/
def State.postVerdict (s : State) (o : W64) (digest : BitVec 128) : State :=
  s.post (s.record 0x14 0 (o.toNat + 2 ^ 64 * 2 + 2 ^ 128 * digest.toNat))

/-- The reports of the split round from LIVE chips at its opening: (chip, digest), ascending (DEDUCED, log 30). -/
def splitReports (r : Round) : List (Nat × BitVec 128) :=
  (r.live.flatMap fun c => (r.reports.filter fun e => e.1 == c).map fun e => (c.toNat, e.2))

/-- The digest that the resolver rule chooses (05 R93 item 1): the most reports, then the lowest chip (DEDUCED, log 30). -/
def chooseDigest (rs : List (Nat × BitVec 128)) : Option (BitVec 128) :=
  let count (d : BitVec 128) : Nat := (rs.filter fun e => e.2 == d).length
  rs.foldl (fun (b : Option (BitVec 128)) e =>
    match b with
    | none => some e.2
    | some d => if count d < count e.2 then some e.2 else some d) none

/-- Resolve a split by the hardware-mode rule (DEDUCED, log 30). -/
def State.resolveSplit (s : State) (r : Round) : State :=
  match chooseDigest (splitReports r) with
  | none => s
  | some d => s.postVerdict r.opening d

/-- A number in a service body. -/
def bodyNum (b : List Byte) (off n : Nat) : Nat := leNat ((b.drop off).take n)

/-- The save that waits on a request (DESIGN CHOICE, log 86). -/
def State.placeReply (s : State) (id : W64) (place : Option W64) : State :=
  let answer (o : SaveOp) : SaveOp := match place with
    | some w => { o with asked := none, place := w ||| (1#64 <<< 63) }
    | none => { o with asked := none, retryAt := some (s.tickOf o.die + 100000) }
  { s with fw := { s.fw with saves := s.fw.saves.map fun o => if o.asked == some id then answer o else o } }

/-- What the outcome of a request does, by its function (R54): done with a reply body, or refused (DESIGN CHOICE, log 86). -/
def State.replied (s : State) (r : Service) (body : Option (List Byte)) : State :=
  match r.function.toNat with
  | 0 =>
    let w := BitVec.ofNat 64 (bodyNum r.body 0 8)
    s.serveFault (refObject w) (bodyNum r.body 8 8 / 65536) (bodyNum r.body 16 1)
      (body.map fun b => BitVec.ofNat 64 (bodyNum b 0 8))
  | 1 => s.placeReply r.id (body.map fun b => BitVec.ofNat 64 (bodyNum b 0 8))
  | 3 =>
    match s.cur.splitRound with
    | none => s
    | some q =>
      if q.opening.toNat ≠ bodyNum r.body 0 8 then s
      else
        match body with
        | some b => s.postVerdict q.opening (BitVec.ofNat 128 (bodyNum b 0 16))
        | none => s.resolveSplit q
  | 6 =>
    let d := bodyNum r.body 0 1 % 4
    if body.isSome then
      { s with fw := { s.fw with proposals := s.fw.proposals.map fun p => if p.die.toNat = d then { p with accepted := true } else p } }
    else { s with fw := { s.fw with proposals := s.fw.proposals.filter fun p => p.die.toNat != d } }
  | _ => s

/-- A request leaves the outstanding ones (DESIGN CHOICE, log 86). -/
def State.closeService (s : State) (id : W64) : State :=
  { s with host := { s.host with svcOpen := s.host.svcOpen.filter fun r => r.id != id } }

/-- SERVICE_REPLY (R53). -/
def execServiceReply (h : HostAccess) (s : State) : Res :=
  .next (if !s.windowsOpen h || decide (h.offset < 0x34000) || decide (0x34040 ≤ h.offset) then s
    else if h.offset ≠ 0x34000 ∨ h.data.length ≠ 64 ∨ h.enables = false ∨ 2 ≤ bodyNum h.data 8 1 ∨ bodyNum h.data 9 7 ≠ 0 then
      s.errorRecord 0 0 0x010A 2 (h.data.take 16)
    else
      let id := BitVec.ofNat 64 (bodyNum h.data 0 8)
      match s.host.svcOpen.find? fun r => r.id == id with
      | none => s.errorRecord 0 0 0x0105 2 (h.data.take 16)
      | some r => (s.closeService id).replied r (if bodyNum h.data 8 1 = 0 then some (h.data.drop 16) else none))

/-- SVCLATE (R53): a reply still missing after 10^9 ticks completes the request as refused. -/
def execSvclate (id : W64) (s : State) : Res :=
  match s.host.svcOpen.find? fun r => r.id == id with
  | none => .next s
  | some r =>
    .next (if (s.dieClock r.die.toNat - r.tick).toNat < 1000000000 then s
      else ((s.closeService id).errorRecord r.die.toNat 0 0x0106 2 (leBytes 8 id.toNat)).replied r none)

end Sys2Proof.Machine
end

