-- ==== Sys2Proof/Machine/Fabric.lean ====
section
/-! DEFINITION. What arrives over the fabric (02): link frames and ports (R28-R32), the receiving windows and the reorder
pool (R37, R38), the requests that a Weir serves for other chips (10 R176), the answers to this chip's requests, broken
pairs, multicast, reductions and switch attestation (R41-R44). -/

namespace Sys2Proof.Machine

/-! ### Packets as they may arrive (02 R34) -/

/-- The payload bytes that a sector mask names. -/
def maskBytes (m : BitVec 8) : Nat := 32 * ((List.range 8).filter fun i => m.getLsbD i).length

/-- Whether class, flit count and sector mask agree with the opcode. -/
def wellPacked (p : Packet) : Bool :=
  let counted := p.flits.toNat == (p.payload.length + 63) / 64 + p.enabled.toNat
  let full := p.payload.length == maskBytes p.mask
  match p.opcode.toNat with
  | 0x01 => p.cls == 0 && p.payload == [] && counted && p.mask != 0
  | 0x02 | 0x04 => p.cls == 0 && full && counted && p.mask != 0
  | 0x03 => p.cls == 0 && p.payload == [] && counted
  | 0x05 => p.cls == 0 && p.payload.length == 64 && counted && p.mask == 3
  | 0x08 => p.cls == 1 && (full || p.payload == []) && counted
  | 0x09 | 0x0A | 0x0B => p.cls == 1 && p.payload == [] && counted
  | 0x10 => p.cls == 2 && p.payload.length == 64 && counted && p.mask == 3
  | 0x11 => p.cls == 2 && full && counted && p.mask != 0
  | 0x18 => p.cls == 3 && full && counted && p.mask != 0
  | 0x19 => p.cls == 3 && p.payload.length == 64 && counted && p.mask == 3
  | 0x1D => p.cls == 3 && (full || p.payload == []) && counted
  | 0x1E => p.cls == 3 && full && counted && p.mask != 0
  | _ => false

/-- Count a packet that the gateway of its plane discards (02 R34). -/
def State.discard (s : State) (p : Packet) : State :=
  { s with fab := { s.fab with
      errors := Sparse.set 0 s.fab.errors p.plane.toNat (Sparse.get 0 s.fab.errors p.plane.toNat + 1) } }

/-! ### Answers to requests of groups (13 R232) -/

/-- What follows a memory instruction whose lanes have all answered (DESIGN CHOICE, log 74). -/
def State.afterAnswers (s : State) (h : Nat) (o : MemOp) (noWake : Bool) : State :=
  let again : Bool := match s.group h with
    | none => false
    | some g => o.kind == .waitRead && g.waits.any fun r => r.slices == o.slices
  if again then s.rereadDone h o noWake
  else if o.kind = .fetch then s.fetchDone h o noWake
  else
  match s.settleMem h o noWake with
  | (s, none) => s
  | (s, some g) =>
    let r : Res := match o.kind with
      | .waitRead => s.waitRead h o g
      | .jobCard => s.jobRead h o g
      | .gatherEntry => .next (s.putGroup h g)
      | _ => s.memDone h o g
    match r with
    | .next t => t
    | _ => s

/-- Change the pieces of a group's memory instructions that carry a tag; an instruction whose last answer this was is
settled. -/
def State.answerPieces (s : State) (h : Nat) (tag : BitVec 16) (noWake : Bool) (f : Piece → Piece) : State :=
  match s.group h with
  | none => s
  | some g =>
    let mine (o : MemOp) : Bool := o.pieces.any fun p => p.tag == tag && p.status == 0xFF
    match g.memOps.find? mine with
    | none => s
    | some o =>
      let o' := { o with pieces := o.pieces.map fun p => if p.tag == tag && p.status == 0xFF then f p else p }
      if o'.pieces.any fun p => p.status == 0xFF then
        s.putGroup h { g with memOps := g.memOps.map fun x => if mine x then o' else x }
      else (s.putGroup h { g with memOps := g.memOps.filter fun x => !mine x }).afterAnswers h o' noWake

/-- The value of a piece in a response: its bytes, and for capabilities and job cards the granule tags above them. -/
def pieceValue (kind : AccKind) (r : Packet) (p : Piece) : Nat :=
  let v := leNat ((List.range p.length).map fun i => payloadByte r (p.offset + i))
  match kind with
  | .capLoad | .gatherEntry => v + (if payloadTag r p.offset then 2 ^ 128 else 0)
  | .jobCard => v + ((List.range (p.length / 16)).foldl (fun w i => if payloadTag r (p.offset + 16 * i) then w + 2 ^ i else w) 0)
      * 2 ^ (8 * p.length)
  | .atomic _ _ => r.inline0.toNat
  | _ => v

/-- A piece with the answer of a response: poison marks the sectors it names. -/
def answeredPiece (kind : AccKind) (r : Packet) (p : Piece) : Piece :=
  let bad := (List.range p.length).any fun i => payloadPoison r (p.offset + i)
  if r.status = 3 then (if bad || kind.writes then { p with status := 3 } else { p with status := 0, value := pieceValue kind r p })
  else if r.status = 0 then { p with status := 0, value := pieceValue kind r p }
  else { p with status := r.status, value := 0 }

/-- The kind of the instruction that a tag belongs to. -/
def Group.kindOf (g : Group) (tag : BitVec 16) : AccKind :=
  ((g.memOps.find? fun o => o.pieces.any fun p => p.tag == tag && p.status == 0xFF).map MemOp.kind).getD .store

/-! ### What a stash keeps of a region that another chip homes

No packet of 02 R34 recalls or invalidates a line, so a line of such a region is filled and at once recalled (10 R186 item 3); its
bytes stay in the stash, and after SUNMAP the range shows them (17 R317; DEDUCED, log 92). -/

/-- The sectors that a response brings of n bytes at an offset stay in the stash at allocation offset a. -/
def State.keepRead (s : State) (blk a : Nat) (r : Packet) (off n : Nat) : State :=
  match s.block blk with
  | none => s
  | some b =>
    if (b.regionAt a).isNone then s
    else
      let w := (List.range ((off % 32 + n + 31) / 32 * 32)).map fun i => (a - off % 32 + i, off - off % 32 + i)
      s.putBlock blk { b with
        stash := Sparse.setAll 0 b.stash (w.map fun e => (e.1, payloadByte r e.2))
        tags := Sparse.setAll false b.tags ((w.filter fun e => e.2 % 16 == 0).map fun e => (e.1 / 16, payloadTag r e.2))
        poison := Sparse.setAll false b.poison ((w.filter fun e => e.2 % 32 == 0).map fun e => (e.1 / 32, payloadPoison r e.2)) }

/-- Bytes that were accepted stay in the stash, with the tags of their granules. -/
def State.keepWrite (s : State) (blk : Nat) (w : List (Nat × Byte)) (tags : List (Nat × Bool)) : State :=
  match s.block blk, w with
  | some b, e :: _ =>
    if (b.regionAt e.1).isNone then s
    else
      let b := b.write w
      s.putBlock blk { b with tags := Sparse.setAll false b.tags tags }
  | _, _ => s

/-- What a response leaves in the stash for one piece of a memory instruction. -/
def State.keepPiece (s : State) (blk : Nat) (kind : AccKind) (r : Packet) (p : Piece) : State :=
  match p.stash with
  | none => s
  | some a =>
    match kind with
    | .store => if r.status = 0 then s.keepWrite blk (byteList a p.length p.value) [] else s
    | .capStore =>
      if r.status = 0 then s.keepWrite blk (byteList a 16 p.value) [(a / 16, decide (p.value / 2 ^ 128 % 2 = 1))] else s
    | .atomic op sg =>
      if r.status = 0 then s.keepWrite blk (byteList a p.length (atomicNew op sg p.length r.inline0.toNat p.value)) [] else s
    | _ => if r.opcode = 0x08 ∧ (r.status = 0 ∨ r.status = 3) then s.keepRead blk a r p.offset p.length else s

/-- What a response leaves in the stash for the pieces of a group that carry its tag. -/
def State.keepLanes (s : State) (g : Group) (r : Packet) : State :=
  ((g.memOps.flatMap MemOp.pieces).filter fun p => p.tag == r.tag && p.status == 0xFF).foldl
    (fun (s : State) p => s.keepPiece g.block (g.kindOf r.tag) r p) s

/-- What a response leaves in the stash for a piece of a command. -/
def State.keepCommand (s : State) (c : Command) (e : Await) (read : Bool) (r : Packet) : State :=
  match e.stash with
  | none => s
  | some (blk, a) =>
    if read then (if r.status = 0 ∨ r.status = 3 then s.keepRead blk a r e.off e.len else s)
    else if r.status = 0 then
      let p : Span := { cap := e.cap, blk := blk, off := a, len := e.len, pos := e.pos, shadow := false }
      let is := c.writable p e.len
      s.keepWrite blk (is.map fun i => (a + i, Sparse.get (0 : Byte) c.buf (e.pos + i))) (c.granules p is c.work.keepsTags)
    else s

/-! ### Answers (02 R35) -/

/-- An answer reaches who asked. `broken` tells that the pair broke, so that nothing came. -/
def State.finishAsk (s : State) (a : Asker) (r : Packet) (broken : Bool) : State :=
  match a with
  | .lane h =>
    match s.group h with
    | none => s
    | some g => (s.keepLanes g r).answerPieces h r.tag (r.inline0.getLsbD 0 && r.status == 2) (answeredPiece (g.kindOf r.tag) r)
  | .command k =>
    match s.command k with
    | none => s
    | some c =>
      match c.awaiting.find? fun e => e.tag == r.tag with
      | none => s
      | some e =>
        let read := e.len != 0 && (broken || r.opcode == 0x08)
        if r.status = 2 then
          s.putCommand k (c.faultsAway e read (s.pagePlace e.cap.home e.cap.object (e.off / 65536)) (r.inline0.getLsbD 0)
            (s.replayTick c.req.core (r.inline0.getLsbD 0)))
        else (s.keepCommand c e read r).putCommand k (if read then c.takeRead e r else c.takeWrite e r)
  | .signal grid =>
    { s with disp := { s.disp with signals := s.disp.signals.map fun d =>
        if d.grid == grid && d.sent && d.answer.isNone then
          (if r.status = 2 && r.inline0.getLsbD 0 then { d with sent := false } else { d with answer := some r.status })
        else d } }
  | .image kernel ctx =>
    let bytes := (List.range 64).map fun i => payloadByte r (refOffset kernel + i)
    if r.status = 2 && r.inline0.getLsbD 0 then s.dropImage kernel ctx
    else
      let page (i : ImageRead) := if r.status = 2 then some (s.pagePlace (refHome kernel) (refObject kernel) (i.at_ / 65536)) else none
      { s with disp := { s.disp with images := s.disp.images.map fun i =>
          if i.kernel == kernel && i.ctx == ctx then
            { i with tag := none, page := page i, answer := if r.status = 2 then none else some (r.status.toNat, bytes) }
          else i } }
  | .grant =>
    let bytes (e : GrantRead) : List (Option Byte) :=
      if r.status = 0 ∨ r.status = 3 then
        (List.range 128).map fun i =>
          let a := 128 * e.line + i
          if payloadPoison r a then none else some (payloadByte r a)
      else []
    { s with mem := { s.mem with
        grants := s.mem.grants.map fun e => if e.tag = some r.tag then { e with tag := none, answer := some (bytes e) } else e } }

/-- Take an answer by its tag; one that nothing awaits is dropped. -/
def State.takeAnswer (s : State) (r : Packet) : State :=
  match s.fab.asked.find? fun e => e.1 == r.tag with
  | none => s.discard r
  | some (t, a, _) =>
    ({ s with fab := { s.fab with asked := s.fab.asked.filter fun e => e.1 != t } } : State).finishAsk a r false

/-! ### Requests of other chips (10 R176, R181) -/

/-- The requester that a packet names. Its grant map is known by home and object (02 R33 word 3) (DEDUCED, log 38). -/
def State.packetReq (s : State) (p : Packet) (kind : Nat) : Requester :=
  let d := s.ctxOf p.context
  let grant : Cap := if p.grantObject = 0 then {} else
    { home := p.grantHome, object := p.grantObject, base := 0, length := 131072, rights := rR, tag := true }
  let own := d.grant.home == p.grantHome && d.grant.object == p.grantObject
  { chip := p.src, ctx := p.context, grant := if own then d.grant else grant,
    principal := if own then d.principal else p.grantObject.setWidth 32 ||| 0x80000000#32,
    core := p.core.toNat, gid := 0, group := 0, kind := kind, checked := true, ownLine := false }

/-- The byte offsets within its region that a packet's payload or mask names, ascending: for partly written sectors the
enabled ones. -/
def packetOffsets (p : Packet) : List Nat :=
  ((List.range 256).filter fun i => p.mask.getLsbD (i / 32)).filter fun i =>
    !p.enabled || p.byteEnables.getLsbD (32 * sectorIndex p i + i % 32)

/-- The operand size of an atomic packet. -/
def atomSize (p : Packet) : Nat := if p.etype = 0x12 ∨ p.etype = 0x16 then 4 else 8

/-- A response to a packet: destination, tag and position (DESIGN CHOICE, log 37). -/
def responseTo (p : Packet) (opcode : BitVec 6) (status : BitVec 8) : Packet :=
  { Packet.zero with
    opcode := opcode, cls := 1, dst := p.src, tag := p.tag, context := p.context, object := p.object, offset := p.offset,
    mask := p.mask, status := status }

/-- The response to a READ whose sectors are all poisoned: one that met a destroyed key slot or a poisoned walk
(02 R35; 10 R183). -/
def poisonedResponse (p : Packet) : Packet :=
  let n := ((List.range 8).filter fun i => p.mask.getLsbD i).length
  { responseTo p 0x08 3 with
    poison := BitVec.ofNat 8 (2 ^ n - 1), payload := List.replicate (32 * n) 0, flits := BitVec.ofNat 3 ((32 * n + 63) / 64) }

/-- The response to a READ that its Weir passed (DESIGN CHOICE, log 37). -/
def State.readResponse (s : State) (p : Packet) (leaf : W64) : Packet :=
  let f := leafFrame leaf
  let base := p.offset.toNat % 65536
  let secs := (List.range 8).filter fun i => p.mask.getLsbD i
  let bad := secs.map fun i => s.framePoisoned f (base + 32 * i) 32
  let tags := secs.flatMap fun i => [s.frameTag f (base + 32 * i), s.frameTag f (base + 32 * i + 16)]
  let pack (l : List Bool) : Nat := l.foldr (fun b w => b.toNat + 2 * w) 0
  { responseTo p 0x08 (if bad.any id then 3 else 0) with
    ptag := leafPtag leaf, poison := BitVec.ofNat 8 (pack bad), capTags := BitVec.ofNat 16 (pack tags),
    payload := secs.flatMap fun i => (List.range 32).map fun j => s.frameByte f (base + 32 * i + j)
    flits := BitVec.ofNat 3 ((32 * secs.length + 63) / 64) }

/-- Store those bytes of the payload of a WRITE, CPYPUT or MCWRITE that fall on a page of its object in the frame of that page,
with their granule tags and poison. -/
def State.storePage (s : State) (p : Packet) (page f : Nat) : State :=
  let offs := (packetOffsets p).filter fun i => (p.offset.toNat + i) / 65536 == page
  let at_ (i : Nat) : Nat := (p.offset.toNat + i) % 65536
  let s := s.writeFrame f (offs.map fun i => (at_ i, payloadByte p i))
  let tags := (offs.filter fun i => at_ i % 16 == 0 && i % 16 == 0 && payloadTag p i).map fun i => (f * 4096 + at_ i / 16, true)
  let bad := ((offs.filter fun i => payloadPoison p i).map fun i => (f * 2048 + at_ i / 32, true)).eraseDups
  { s with mem := { s.mem with
      tags := Sparse.setAll false s.mem.tags tags, poison := Sparse.setAll false s.mem.poison bad } }

/-- The response to a Levee's read of a grant-map line: it is checked by no Levee, raises no page fault, consumes no poison and
logs nothing; sectors that cannot be read come poisoned (10 R181, R182) (DESIGN CHOICE, log 17). -/
def State.grantLine (s : State) (p : Packet) : Packet :=
  let secs := (List.range 8).filter fun i => p.mask.getLsbD i
  let sector (i : Nat) : Option (List Byte) :=
    let off := p.offset.toNat + 32 * i
    match s.plainPage p.object off with
    | none => none
    | some (w, _) =>
      if s.freshPoison p.object off (leafFrame w) then none
      else some ((List.range 32).map fun j => s.freshByte p.object (off + j) (leafFrame w))
  let data := secs.map sector
  let bad := data.map Option.isNone
  { responseTo p 0x08 (if bad.any id then 3 else 0) with
    poison := BitVec.ofNat 8 (bad.foldr (fun b w => b.toNat + 2 * w) 0)
    payload := data.flatMap fun d => d.getD (List.replicate 32 0)
    flits := BitVec.ofNat 3 ((32 * secs.length + 63) / 64) }

/-- A packet that its home Weir serves, and the response; none while it waits in the miss queue (10 R177, R189). -/
def State.servePacket (s : State) (p : Packet) : State × Option Packet :=
  let atom := p.opcode == 0x03
  let writes := p.opcode != 0x01
  let kind := if p.opcode == 0x01 then min p.inline0.toNat 7 else if p.opcode == 0x02 then 2 else if atom then 3 else 5
  let code : BitVec 6 := if p.opcode == 0x01 then 0x08 else if atom then 0x0A else 0x09
  let q := s.packetReq p kind
  let lo := if atom then p.offset.toNat else p.offset.toNat + (packetOffsets p).headD 0
  let hi := if atom then p.offset.toNat + atomSize p else p.offset.toNat + 256
  if p.opcode == 0x01 && p.inline0 == 8 then (s, some (s.grantLine p)) else
  match s.translate q p.object lo writes false with
  | (s, .ok leaf t) =>
    let f := leafFrame leaf
    let s := s.reach p.object lo (hi - lo) leaf t writes none
    if p.opcode == 0x01 then (s, some (s.readResponse p leaf))
    else if atom then
      let z := atomSize p
      let pc : Piece := { lane := 0, start := 0, chip := s.fab.self, object := p.object, offset := p.offset.toNat, length := z,
                          value := p.inline0.toNat % 256 ^ z + 256 ^ z * p.inline1.toNat, status := 0xFF }
      let r := s.atFrame (.atomic p.oper.toNat (p.etype == 0x12 || p.etype == 0x13)) f pc
      (r.1, some { responseTo p code r.2.status with
        inline0 := if r.2.status = 0 then BitVec.ofNat 64 r.2.value else 0, ptag := leafPtag leaf })
    else (s.storePage p (p.offset.toNat / 65536) f, some (responseTo p code 0))
  | (s, .denied ptag) => (s.logDenial q p.object lo ptag kind, some (responseTo p code 1))
  | (s, .fault nw) => (s, some { responseTo p code 2 with inline0 := if nw then 1 else 0 })
  | (s, .refused st) => (s, some (if p.opcode == 0x01 && st == 3 then poisonedResponse p else responseTo p code st))
  | (s, .hold) => (s, none)

/-- The first byte that a packet of sectors names. -/
def packetStart (p : Packet) : Nat := p.offset.toNat + (packetOffsets p).headD 0

/-- The answer of a member to a multicast store (02 R41): its count, and one payload flit. -/
def State.mcastAnswer (s : State) (p : Packet) (ok : Bool) : State :=
  s.emitLoose { s.plainPacket 0x19 3 p.plane p.src (List.replicate 64 0) with
    tag := p.tag, context := p.context, object := p.object, offset := p.offset, status := if ok then 0 else 5, group := p.group,
    version := p.version, contributors := ok.toNat }

/-- A packet waits in the miss queue of its Weir (10 R177). -/
def State.keepWaiting (s : State) (p : Packet) : State :=
  { s with mem := { s.mem with waiting := s.mem.waiting ++ [{ packet := p }] } }

/-- The pages of its object that a packet's bytes fall on: a multicast store may start at any byte. -/
def packetPages (p : Packet) : List Nat :=
  ((packetStart p :: (packetOffsets p).map fun i => p.offset.toNat + i).map fun b => b / 65536).eraseDups

/-- The first byte of a packet that falls on a page, and how many from it on. -/
def packetSpan (p : Packet) (page : Nat) : Nat × Nat :=
  let on := ((packetOffsets p).map fun i => p.offset.toNat + i).filter fun b => b / 65536 == page
  let lo := on.headD (packetStart p)
  (lo, on.getLastD lo + 1 - lo)

/-- The checks of a multicast store, page by page; once each of them has passed the bytes are stored, else none is. `s` is the
state before any page was tried, `t` the present one. -/
def State.storePages (s : State) (p : Packet) (o : BitVec 28) (done : List (Nat × W64)) : List Nat → State → State
  | [], t => (done.foldl (fun (t : State) e => t.storePage p e.1 (leafFrame e.2)) t).mcastAnswer p true
  | page :: rest, t =>
    let span := packetSpan p page
    match t.translate (s.packetReq p 2) o span.1 true false with
    | (t, .ok leaf e) => State.storePages s p o (done ++ [(page, leaf)]) rest (t.reach o span.1 span.2 leaf e true none)
    | (t, .denied ptag) => (t.logDenial (s.packetReq p 2) o span.1 ptag 2).mcastAnswer p false
    | (_, .fault _) => s.mcastAnswer p false
    | (t, .refused _) => t.mcastAnswer p false
    | (t, .hold) =>
      if (s.objEntry o).publishing || t.mem.grants.any (fun r =>
          r.home == p.grantHome && r.object == p.grantObject && !r.used) then t.keepWaiting p
      else s.mcastAnswer p false

/-- A multicast store at this member's Weir (02 R41): a local write that never parks, but that waits for a publish as every
request does (10 R176); the answer is positive or negative. -/
def State.serveMcast (s : State) (p : Packet) : State :=
  let o := s.packetObject p
  if o = 0 then s.mcastAnswer p false else s.storePages p o [] (packetPages p) s

/-- Serve a packet and send its response, or keep it in the miss queue (DEDUCED, log 38). -/
def State.serveRemote (s : State) (p : Packet) : State :=
  if p.opcode = 0x18 then s.serveMcast p
  else
    match s.servePacket p with
    | (t, some r) => (t.send (homeDie p.object) r).1
    | (t, none) => t.keepWaiting p

/-! ### The receiving windows (02 R37, R38) -/

/-- Every request to a chip that no plane joins completes UNREACH at once (02 R27 item 3), and what waited for it is dropped. -/
def State.cutOff (s : State) (chip : BitVec 12) : State :=
  let due := s.fab.asked.filter fun e => e.2.2.chip == chip
  let s := s.noPlaneRecord (((List.range 4).find? s.dieRuns).getD 0) chip
  let s : State := { s with fab := { s.fab with
    asked := s.fab.asked.filter (fun e => e.2.2.chip != chip)
    tx := s.fab.tx.map fun e => if e.1.chip == chip then (e.1, { e.2 with queue := [] }) else e } }
  (due.foldl (fun (s : State) e => s.finishAsk e.2.1 { Packet.zero with tag := e.1, status := 4 } true) s).wakePosts

/-- The chips that requests await and that no plane joins any more. -/
def State.lostChips (s : State) : List (BitVec 12) :=
  let due := s.fab.asked.map (fun e => e.2.2.chip) ++ (s.fab.tx.filter fun e => e.2.queue != []).map fun e => e.1.chip
  due.eraseDups.filter fun c => (s.planeTo 0 c).isNone

/-- Move every pair on after a port or a plane has changed; a POST whose window has room again goes on (19 R353), and chips
that no plane joins any more are cut off. -/
def State.moveAll (s : State) : State :=
  let t := s.movePairs
  let t := if t.fab.tx.any fun e => e.2.free && !(s.txOf e.1).free then t.wakePosts else t
  t.lostChips.foldl State.cutOff t

/-- The receiving window of a pair. -/
def State.rxOf (s : State) (k : PairKey) : RxWindow := ((s.fab.rx.find? fun e => e.1 == k).map Prod.snd).getD {}

/-- Store a receiving window. -/
def State.putRx (s : State) (k : PairKey) (w : RxWindow) : State :=
  { s with fab := { s.fab with rx := (k, w) :: s.fab.rx.filter fun e => e.1 != k } }

/-- Send SEQACK for a pair. The class of the window it acknowledges is in its inline operand (DESIGN CHOICE, log 37). -/
def State.sendSeqack (s : State) (k : PairKey) : State :=
  let w := s.rxOf k
  let s := s.putRx k { w with unacked := 0 }
  s.emitLoose { Packet.zero with
    opcode := 0x0B, cls := 1, dst := k.chip, src := s.fab.self, plane := k.plane, seq := w.expected, epoch := w.epoch,
    inline0 := k.cls.setWidth 64 }

/-- The task record of a TASK packet (07 R122) (DEDUCED, log 25). -/
def taskOf (p : Packet) : TaskRec :=
  let num (off n : Nat) : Nat := leNat ((p.payload.drop off).take n)
  { kernel := BitVec.ofNat 64 (num 0 8), ctx := p.context,
    cap := capOf (num 8 16 + (if p.capTags.getLsbD 0 then 2 ^ 128 else 0)), offset := BitVec.ofNat 64 (num 0x18 8),
    args := (List.range 8).map fun j => BitVec.ofNat 32 (num (0x20 + 4 * j) 4), tick := 0 }

/-- The die that a packet of class 0 is bound for: its object's home, or the core of a task. -/
def State.boundFor (s : State) (p : Packet) : Nat :=
  if p.opcode = 0x05 then
    let r := taskOf p
    dieOf ((s.taskCore r.ctx r.cap r.offset).getD 0)
  else homeDie p.object

/-- The packets of a pair that were handed over to Weirs and are not accepted yet. -/
def State.unaccepted (s : State) (k : PairKey) : List Packet :=
  ((s.mem.requests ++ s.mem.waiting).map WeirReq.packet).filter fun p => p.src == k.chip && p.plane == k.plane && p.cls == k.cls

/-- Whether the order of R38 lets a packet of a pair be handed over: one with the release bit once every earlier packet is
accepted; one for the ingress die at once; one for another die once the previous packet is accepted, or when that went to
the same die. -/
def State.mayHand (s : State) (k : PairKey) (p : Packet) : Bool :=
  if p.cls != 0 then true
  else
    let un := s.unaccepted k
    if p.release then un == []
    else
      let d := s.boundFor p
      d == k.plane.toNat || match un.find? fun q => q.seq == p.seq - 1 with
        | none => true
        | some q => s.boundFor q == d

/-- Hand a packet over (R38); none while it cannot be accepted: a TASK whose queue is full, or a request to a Weir whose
miss queue of 1,024 is full. -/
def State.handOver (s : State) (p : Packet) : Option State :=
  match p.opcode.toNat with
  | 0x01 | 0x02 | 0x03 | 0x04 =>
    let sl := homeSlice p.object (p.offset.toNat / 65536)
    if s.missFull sl then none
    else some { s with mem := { s.mem with requests := s.mem.requests ++ [{ packet := p }] } }
  | 0x05 =>
    let r := taskOf p
    match s.taskCore r.ctx r.cap r.offset with
    | none => some s
    | some core => s.queueTask core { r with tick := s.tickOf (dieOf core) }
  | _ => some (s.takeAnswer p)

/-- Release packets of a pair in sequence order, as far as they can be handed over. After every 64 accepted a SEQACK is
sent (DESIGN CHOICE, log 73). -/
def State.releasePair (k : PairKey) : Nat → State → State
  | 0, s => s
  | n + 1, s =>
    let w := s.rxOf k
    match w.pool.find? fun p => p.seq == w.expected && s.mayHand k p with
    | none => s
    | some p =>
      match s.handOver p with
      | none => s
      | some t =>
        let w' := { w with
          expected := w.expected + 1, unacked := w.unacked + 1, pool := w.pool.filter fun x => x.seq != p.seq
          since := if w.unacked = 0 then s.planeTick k.plane.toNat else w.since }
        let t := t.putRx k w'
        State.releasePair k n (if w'.unacked = 64 then t.sendSeqack k else t)

/-- The happening that a whole packet of class 0 or 1 is. -/
def arrival (p : Packet) : Option Instr :=
  match p.opcode.toNat with
  | 0x01 => some (.read p)
  | 0x02 => some (.write p)
  | 0x03 => some (.atomic p)
  | 0x04 => some (.cpyput p)
  | 0x05 => some (.task p)
  | 0x08 => some (.readresp p)
  | 0x09 => some (.writeack p)
  | 0x0A => some (.atomresp p)
  | _ => none

/-- The happenings of the agenda that will take an entry of a gateway's pool. -/
def State.poolComing (s : State) (plane : BitVec 2) : Nat :=
  (s.agenda.filter fun i => match i with
    | .read p | .write p | .atomic p | .cpyput p | .task p | .readresp p | .writeack p | .atomresp p => p.plane == plane
    | _ => false).length

/-- Whether the gateway takes a packet from its port now: while the pool of 16,384 is full only the packet with its source's
next expected sequence (R38), and no EVENT that the arrival queue of the Current has no place for. -/
def State.roomFor (s : State) (p : Packet) : Bool :=
  if (arrival p).isSome then
    (s.rxOf { chip := p.src, plane := p.plane, cls := p.cls }).expected == p.seq
      || decide (s.poolSize p.plane.toNat + s.poolComing p.plane < 16384)
  else p.opcode != 0x10 || decide (s.cur.queue.length < 65536)

/-- The record of an EVENT packet's payload flit. -/
def recordIn (p : Packet) : CurRec := recordOf (p.payload.take 64)

/-- Cut bytes into records of 64. -/
def recordsIn : Nat → List Byte → List CurRec
  | 0, _ => []
  | n + 1, b => recordOf (b.take 64) :: recordsIn n (b.drop 64)

/-- The bytes of a row of table t (06 R96). -/
def rowSize (t : Nat) : Nat := [16, 32, 64, 16, 32, 8, 16, 32].getD t 8

/-- n row records of a snapshot stream, and what follows them. -/
def rowsIn : Nat → List Byte → List RowRec × List Byte
  | 0, b => ([], b)
  | n + 1, b =>
    let t := leNat (b.take 1)
    let r := rowsIn n (b.drop (8 + rowSize t))
    ({ table := t, index := leNat ((b.drop 4).take 4), bytes := (b.drop 8).take (rowSize t) } :: r.1, r.2)

/-- A snapshot stream from its bytes (05 R87): the header, as many rows as it counts, and the SHA-384. -/
def snapOf (b : List Byte) : SnapStream :=
  let num (off n : Nat) : Nat := leNat ((b.drop off).take n)
  let r := rowsIn (min (num 0x30 8) (b.length / 16)) (b.drop 64)
  { magic := BitVec.ofNat 32 (num 0 4), version := BitVec.ofNat 32 (num 4 4), opening := BitVec.ofNat 64 (num 8 8),
    params := BitVec.ofNat 128 (num 0x10 16), digest := BitVec.ofNat 128 (num 0x20 16), count := BitVec.ofNat 64 (num 0x30 8),
    rows := r.1, hash := BitVec.ofNat 384 (leNat (r.2.take 48)) }

/-- A switch report from its bytes. -/
def reportOf (b : List Byte) : SwitchReport :=
  let at_ (off n : Nat) : List Byte := (b.drop off).take n
  { switchId := BitVec.ofNat 32 (leNat (at_ 0 4)), plane := BitVec.ofNat 32 (leNat (at_ 4 4)), nonce := at_ 8 32,
    measurement := at_ 0x28 48, kemKey := at_ 0x58 1568, dsaKey := at_ 0x678 2592, signature := at_ 0x1098 4627 }

/-- A packet of the SYNC stream that this chip awaits came: the time-out starts anew (05 R87) (DESIGN CHOICE, log 77). -/
def State.heard (s : State) (chip : BitVec 12) (id : BitVec 24) : State :=
  match s.cur.transfer with
  | none => s
  | some t =>
    if t.asked = chip ∧ t.id = id then { s with cur := { s.cur with transfer := some { t with since := s.now } } } else s

/-- A piece of a stream, by its offset (05 R87): kept until the last one, which gives the whole. A piece that does not follow
the bytes that came is dropped, and the transfer then times out. The pieces of several switches that answer one query on a plane
are told apart by their source chip and transfer id alone (DESIGN CHOICE, log 77). -/
def State.streamPiece (s : State) (p : Packet) : State × Option (List Byte) :=
  let old := ((s.fab.streams.find? fun e => e.1 == p.src && e.2.1 == p.redId).map fun e => e.2.2).getD []
  let old := if p.offset = 0 then [] else old
  if old.length ≠ p.offset.toNat then (s, none)
  else
    let b := old ++ p.payload
    let rest := s.fab.streams.filter fun e => !(e.1 == p.src && e.2.1 == p.redId)
    let s := s.heard p.src p.redId
    if p.contributors.getLsbD 11 then ({ s with fab := { s.fab with streams := rest } }, some b)
    else ({ s with fab := { s.fab with streams := rest ++ [(p.src, p.redId, b)] } }, none)

/-- Add a happening. -/
def State.happen (s : State) (i : Instr) : State := { s with agenda := s.agenda ++ [i] }

/-- The happening that a whole packet is; none for one that a gateway discards (02 R34). -/
def State.packetArrived (s : State) (p : Packet) : State :=
  let num (off : Nat) : W64 := BitVec.ofNat 64 (leNat ((p.payload.drop off).take 8))
  match arrival p with
  | some i => s.happen i
  | none =>
    match p.opcode.toNat with
    | 0x0B => s.happen (.seqack p)
    | 0x10 => if wellPacked p then s.happen (.event (recordIn p)) else s.discard p
    | 0x11 =>
      if !wellPacked p then s.discard p
      else
        match p.oper.toNat with
        | 1 => s.happen (.tailRequest p.src p.redId (num 0) (num 8))
        | 2 => match s.streamPiece p with
          | (t, none) => t
          | (t, some b) => t.happen (.tailData p.src p.redId (recordsIn (b.length / 64) b))
        | 3 => s.happen (.snapshotRequest p.src p.redId (num 0))
        | 4 => match s.streamPiece p with
          | (t, none) => t
          | (t, some b) => t.happen (.snapshotData p.src p.redId (snapOf b))
        | 5 => s.happen (.notHeld p.src p.redId)
        | _ => s.discard p
    | 0x18 => s.happen (.mcwrite p)
    | 0x19 => s.happen (.mcreply p)
    | 0x1D => s.happen (.redresult p)
    | 0x1E =>
      if !wellPacked p ∨ p.oper ≠ 2 then s.discard p
      else match s.streamPiece p with
        | (t, none) => t
        | (t, some b) => t.happen (.swattest (reportOf b))
    | _ => s.discard p

/-- A port hands whole packets to its gateway in the order of each class, while the gateway has room for them. -/
def State.takeBuffered (s : State) (i : Nat) : List Packet → State
  | [] => s
  | p :: ps =>
    let q := s.port i
    if (q.buffer.any fun x => x.cls == p.cls) || !s.roomFor p then
      State.takeBuffered (s.putPort i { q with buffer := q.buffer ++ [p] }) i ps
    else State.takeBuffered (s.packetArrived p) i ps

/-- Every port hands over what its gateway now has room for. -/
def State.takePorts (s : State) : State :=
  (s.fab.ports.map Prod.fst).foldl (fun (s : State) i =>
    let q := s.port i
    if q.buffer = [] then s else State.takeBuffered (s.putPort i { q with buffer := [] }) i q.buffer) s

/-- Release what can be released of every pair; ports then hand over what there is room for, and the stop bits follow. -/
def State.releaseAll (s : State) : State :=
  ((s.fab.rx.map Prod.fst).foldl (fun (s : State) k => s.releasePair k (s.rxOf k).pool.length) s).takePorts.setStops

/-- TASK_GROUP_TIMEOUT (R124): a core starts a task group that holds W records, or whose first record is 1,000 ticks old. A TASK
packet that its full queue had kept out is then accepted (07 R123). -/
def execTaskGroupTimeout (core : Nat) (s : State) : Res :=
  let queue (s : State) : List TaskRec := (Sparse.get {} s.cores core : Core).taskQueue
  let t := s.formTask core (firstJoining (queue s))
  .next (if (queue t).length < (queue s).length then t.releaseAll else t)

/-- DIE_DROP (R24, 13 R237): an accepted proposal is carried out; of two, the lower-numbered die is dropped first. What waited
for the planes and the task queues of the chip moves on. -/
def execDieDrop (die : BitVec 2) (s : State) : Res :=
  let mine := s.fw.proposals.any fun p => p.die == die && p.accepted
  let lower := s.fw.proposals.any fun p => p.accepted && decide (p.die.toNat < die.toNat)
  .next (if mine && !lower then
      (({ s with fw := { s.fw with proposals := s.fw.proposals.filter fun p => p.die != die } } : State).dropDie
        die.toNat).moveAll.wakePosts.releaseAll
    else s)

/-- A receiving window of a new epoch: the pair restarts, in both classes (R37 item 5). -/
def State.restartRx (s : State) (k : PairKey) (epoch : BitVec 3) : State :=
  let again (s : State) (c : BitVec 2) : State :=
    s.putRx { k with cls := c } { epoch := epoch, discards := (s.rxOf { k with cls := c }).discards }
  again (again s 0) 1

/-- A packet of class 0 or 1 arrives (R37 items 2 and 3): outside the window, of another epoch or already there it is
discarded and counted; a packet of the next epoch restarts the pair (DESIGN CHOICE, log 73). -/
def State.receive (s : State) (opcode : BitVec 6) (p : Packet) : State :=
  if p.opcode != opcode || !wellPacked p || p.dst != s.fab.self || !s.dieRuns p.plane.toNat then s.discard p
  else
    let k : PairKey := { chip := p.src, plane := p.plane, cls := p.cls }
    let s := if p.epoch = (s.rxOf k).epoch + 1 ∧ p.seq.toNat < 512 then s.restartRx k p.epoch else s
    let w := s.rxOf k
    if p.epoch ≠ w.epoch ∨ 512 ≤ (p.seq - w.expected).toNat ∨ w.pool.any (fun x => x.seq == p.seq)
        ∨ (16384 ≤ s.poolSize p.plane.toNat ∧ p.seq ≠ w.expected) then
      s.putRx k { w with discards := w.discards + 1 }
    else ((s.putRx k { w with pool := w.pool ++ [p] }).releasePair k (w.pool.length + 1)).setStops

/-- READ (R34). -/
def execRead (p : Packet) (s : State) : Res := .next (s.receive 0x01 p)

/-- WRITE (R34). -/
def execWrite (p : Packet) (s : State) : Res := .next (s.receive 0x02 p)

/-- ATOMIC (R34). -/
def execAtomic (p : Packet) (s : State) : Res := .next (s.receive 0x03 p)

/-- CPYPUT (R34). -/
def execCpyput (p : Packet) (s : State) : Res := .next (s.receive 0x04 p)

/-- TASK (07 R123). -/
def execTask (p : Packet) (s : State) : Res := .next (s.receive 0x05 p)

/-- READRESP (R34, R35). -/
def execReadresp (p : Packet) (s : State) : Res := .next (s.receive 0x08 p)

/-- WRITEACK (R34, R35). -/
def execWriteack (p : Packet) (s : State) : Res := .next (s.receive 0x09 p)

/-- ATOMRESP (R34, R35). -/
def execAtomresp (p : Packet) (s : State) : Res := .next (s.receive 0x0A p)

/-! ### A Weir's requests (10 R176, R177, R189) -/

/-- The oldest request whose source has none that waits in a miss queue: the packets of one source are accepted in the order
they were sent (11 R204). -/
def State.nextRequest (s : State) : Option WeirReq :=
  s.mem.requests.find? fun r => !s.mem.waiting.any fun w => w.packet.src == r.packet.src && w.packet.cls == 0

/-- WEIR_REQUEST (R176): the oldest request that other chips brought is served, or goes to the miss queue; packets that can
now be handed over follow. An append that another chip's Levee has sent to a denial log homed here is made first (04 R70)
(DESIGN CHOICE, log 5). -/
def execWeirRequest (s : State) : Res :=
  match s.mem.appends with
  | a :: rest =>
    let s := { s with mem := { s.mem with appends := rest } }
    let log : Cap := { home := a.home, object := a.object, base := a.base, length := a.length, rights := rR ||| rW }
    .next (if a.home == s.fab.self && namesLog log then s.appendHere log a.entry else s)
  | [] =>
    match s.nextRequest with
    | none => .next s.releaseAll
    | some r =>
      let s := { s with mem := { s.mem with requests := s.mem.requests.erase r } }
      .next ((s.freshGrants r.packet.grantHome r.packet.grantObject).serveRemote r.packet).releaseAll

/-- The pieces of a group's held request are tried again; those that still wait stay held. -/
def State.resumeHeld (s : State) (tag : BitVec 16) (h : Nat) : State :=
  let drop (s : State) : State := { s with mem := { s.mem with held := s.mem.held.filter fun e => e.1 != tag } }
  match s.group h with
  | none => drop s
  | some g =>
    let mine (p : Piece) : Bool := p.tag == tag && p.status == 0xFF
    match g.memOps.find? fun o => o.pieces.any mine with
    | none => drop s
    | some o =>
      let ps := o.pieces.filter mine
      let q := { s.heldReq h g o with again := true }
      let a := s.allAtStash g.block q o.kind (ps.filter fun p => p.object == 0)
      let b := a.1.serveHere q o.kind (ps.filter fun p => p.object != 0)
      let out := a.2.1 ++ b.2.1
      if out.all fun p => p.status == 0xFF then b.1
      else
        let t := if out.any fun p => p.status == 0xFF then b.1 else drop b.1
        t.answerPieces h tag (a.2.2 || b.2.2) fun p => (out.find? fun x => x.lane == p.lane && x.start == p.start).getD p

/-- A packet in the miss queue is tried again; one that still waits keeps its place. -/
def State.retryWaiting (s : State) (r : WeirReq) : State :=
  let t := ({ s with mem := { s.mem with waiting := s.mem.waiting.erase r } } : State).serveRemote r.packet
  if t.mem.waiting.contains r then { t with mem := { t.mem with waiting := s.mem.waiting } } else t

/-- WALK_COMPLETE (R177): the requests that wait in the miss queue for a page go on, once nothing holds its object: those of
other chips, then those of groups (DESIGN CHOICE, log 76). -/
def execWalkComplete (object : BitVec 28) (page : Nat) (s : State) : Res :=
  if (s.objEntry object).publishing then .next s
  else
    let due := s.mem.waiting.filter fun r =>
      s.packetObject r.packet == object && r.packet.offset.toNat / 65536 == page
    let s := due.foldl State.retryWaiting s
    let mine := s.mem.held.filter fun e => s.heldPage e.1 e.2.1 == some (object, page)
    let s := mine.foldl (fun (s : State) e => s.resumeHeld e.1 e.2.1) s
    .next (if due = [] then s else s.releaseAll)

/-- LOCALTIMEOUT (09 R160): a request of a group to a Weir of this chip that has waited 10,000 ticks completes with its
sectors poisoned (DESIGN CHOICE, log 76). -/
def execLocaltimeout (tag : BitVec 16) (s : State) : Res :=
  match s.mem.held.find? fun e => e.1 == tag with
  | none => .next s
  | some (_, h, tick) =>
    match s.group h with
    | none => .next { s with mem := { s.mem with held := s.mem.held.filter fun e => e.1 != tag } }
    | some g =>
      if (s.tickOf (dieOf g.core) - tick).toNat < 10000 then .next s
      else
        let s := { s with mem := { s.mem with held := s.mem.held.filter fun e => e.1 != tag } }
        let s := s.contain (dieOf g.core) 0x0D09 2 8 7 g.core none 0xFFFF (if g.task then 0xFFFF else g.grid.toNat)
          g.ctx.toNat g.gid.toNat (((g.memOps.find? fun o => o.pieces.any fun p => p.tag == tag && p.status == 0xFF).map MemOp.pc).getD 0)
          0 0
        .next (s.answerPieces h tag false fun p => { p with status := 3 })

/-! ### Acknowledgements and broken pairs (02 R37) -/

/-- SEQACK (R37): the window advances to the sequence that the packet carries, and what waits follows. -/
def execSeqack (p : Packet) (s : State) : Res :=
  if p.opcode != 0x0B || !wellPacked p || p.dst != s.fab.self then .next (s.discard p)
  else
    let k : PairKey := { chip := p.src, plane := p.plane, cls := p.inline0.setWidth 2 }
    let w := s.txOf k
    if p.epoch ≠ w.epoch ∨ (w.next - w.oldest).toNat < (p.seq - w.oldest).toNat ∨ p.seq = w.oldest then .next s
    else
      let w := { w with oldest := p.seq, unacked := w.unacked.drop (p.seq - w.oldest).toNat, moved := s.planeTick k.plane.toNat }
      .next (s.putTx k w).moveAll.wakePosts

/-- SEQACK_TIMER (R37 item 2): 100 ticks after the oldest acceptance that is not acknowledged. -/
def execSeqackTimer (k : PairKey) (s : State) : Res :=
  let w := s.rxOf k
  .next (if w.unacked = 0 ∨ (s.planeTick k.plane.toNat - w.since).toNat < 100 then s else s.sendSeqack k)

/-- PAIR_BREAK (R37 items 4, 5): a window that has not advanced for 50,000 ticks with packets outstanding. Every request
outstanding on the pair completes UNREACH, the pair restarts in both classes with the next epoch, and firmware posts LOSS
(05 R82) (DESIGN CHOICE, log 74). -/
def execPairBreak (k : PairKey) (s : State) : Res :=
  let w := s.txOf k
  if w.unacked = [] ∨ (s.planeTick k.plane.toNat - w.moved).toNat < 50000 then .next s
  else
    let mine (e : BitVec 16 × Asker × PairKey) : Bool := e.2.2.chip == k.chip && e.2.2.plane == k.plane
    let due := s.fab.asked.filter mine
    let s : State := { s with fab := { s.fab with
      asked := s.fab.asked.filter (fun e => !mine e)
      suspected := if s.fab.suspected.contains k.chip then s.fab.suspected else s.fab.suspected ++ [k.chip] } }
    let k0 := { k with cls := 0 }
    let s := (s.putTx k0 { s.txOf k0 with queue := [] }).restartPair k.chip k.plane
    let s := s.contain k.plane.toNat 0x0D0C 2 5 7 k.plane.toNat none 0xFFFF 0xFFFF 0 0 0 0 (k.chip.setWidth 64)
    let s := due.foldl (fun (s : State) e => s.finishAsk e.2.1 { Packet.zero with tag := e.1, status := 4 } true) s
    .next ((if s.fw.state = 1 then s.post (s.record 0x10 0 k.chip.toNat) else s).moveAll.wakePosts)

/-! ### Multicast and reduction (02 R41, R42; 19 R347) -/

/-- MCWRITE (R41): a member that is LIVE serves the store at its Weir; one that is not LIVE does not answer. -/
def execMcwrite (p : Packet) (s : State) : Res :=
  if p.opcode != 0x18 || !wellPacked p then .next (s.discard p)
  else if (s.conf.chip s.fab.self.toNat).state != .live then .next s
  else .next ((s.freshGrants p.grantHome p.grantObject).serveMcast p)

/-- MCREPLY (R41): the merged answer completes the piece of the multicast that it names. -/
def execMcreply (p : Packet) (s : State) : Res :=
  if p.opcode != 0x19 || !wellPacked p then .next (s.discard p) else .next (s.takeAnswer p)

/-- The command that takes part in a reduction, with the piece that an id names (DESIGN CHOICE, log 37, 77). -/
def State.reducing (s : State) (id : BitVec 24) : List (Nat × Command × Await) :=
  s.cmds.filterMap fun e => e.2.bind fun c => match c.work with
    | .reduce _ _ first _ _ _ _ _ => (c.awaiting.find? fun a => a.pos == 256 * (id - first).toNat).map fun a => (e.1, c, a)
    | _ => none

/-- REDRESULT (R42, R43): with status OK each contributor's engine writes the result; else nothing is written. -/
def execRedresult (p : Packet) (s : State) : Res :=
  if p.opcode != 0x1D || !wellPacked p then .next (s.discard p)
  else
    .next ((s.reducing p.redId).foldl (fun (s : State) e =>
      let k := e.1
      let c := e.2.1
      let a := e.2.2
      let s := { s with fab := { s.fab with asked := s.fab.asked.filter fun x => x.1 != a.tag } }
      let c1 := { c with awaiting := c.awaiting.filter fun x => x.tag != a.tag }
      if p.status = 0 then
        match c.work with
        | .reduce dst off _ _ _ _ _ _ =>
          let sp : Span := { cap := dst, blk := c.block, off := dst.base.toNat + off + a.pos, len := a.len, pos := a.pos, shadow := false }
          let from0 : Span := { sp with off := a.pos }
          s.putCommand k { c1.fill from0 a.len (payloadByte p) (fun _ => false) (payloadPoison p) with writes := c1.writes ++ [sp] }
        | _ => s.putCommand k c1
      else s.putCommand k (c1.meet (engineCode p.status))) s)

/-! ### Switch attestation (02 R44) -/

/-- The bytes of a report that its signature covers. -/
def reportBytes (r : SwitchReport) : List Byte :=
  leBytes 4 r.switchId.toNat ++ leBytes 4 r.plane.toNat ++ r.nonce ++ r.measurement ++ r.kemKey ++ r.dsaKey

/-- Send a query with a fresh nonce to the switches of a plane: operation 1 (DEDUCED, log 78). -/
def State.querySwitches (s : State) (plane : Nat) : State :=
  let nonce := (List.range 4).flatMap fun i => leBytes 8 (Config.free64 (s.free + i)).toNat
  let id := BitVec.ofNat 24 s.trust.nonces.length
  let s := { s with free := s.free + 4, trust := { s.trust with nonces := s.trust.nonces ++ [nonce] } }
  (s.streamPackets 0x1E 3 (BitVec.ofNat 2 plane) s.fab.self 1 id nonce).foldl State.emitLoose s

/-- Query the switches of every plane with an enabled port (R44). -/
def State.queryAll (s : State) : State := ((List.range 4).filter s.planeEnabled).foldl State.querySwitches s

/-- The payload of SWKEY (R44): context, generation, the ciphertext to the switch's key, and the fabric key wrapped under
HKDF of the shared secret; m is the randomness of the encapsulation. -/
def switchKeyBytes (r : SwitchReport) (ctx : BitVec 20) (gen : BitVec 8) (fabric : BitVec 256) (m : List Byte) : List Byte :=
  let e := kemEncaps r.kemKey m
  let kek := hkdf e.1 (ascii "Nymtos496 swk" ++ leBytes 4 ctx.toNat ++ leBytes 1 gen.toNat) 32
  leBytes 4 ctx.toNat ++ leBytes 1 gen.toNat ++ leBytes 3 0 ++ e.2 ++ keyWrap kek (leBytes 32 fabric.toNat)

/-- Send SWKEY to an accepted switch, in pieces as a report comes; words 6 and 7 name the switch (DEDUCED, log 78). -/
def State.sendSwitchKey (s : State) (r : SwitchReport) (ctx : BitVec 20) (d : Descriptor) : State :=
  let plane := r.plane.toNat % 4
  let m := (List.range 4).flatMap fun i => leBytes 8 (Config.free64 (s.free + i)).toNat
  let key := (Sparse.get {} s.trust.slots d.slot.toNat : KeySlot).fabric
  let s := { s with free := s.free + 4
                    trust := { s.trust with switches := s.trust.switches ++ [(r.switchId, plane, ctx, d.fabricGen)] } }
  ((s.streamPackets 0x1F 3 (BitVec.ofNat 2 plane) s.fab.self 0 (r.switchId.setWidth 24)
    (switchKeyBytes r ctx d.fabricGen key m)).map fun p => { p with inline0 := r.switchId.setWidth 64, context := ctx }).foldl
    State.emitLoose s

/-- Whether a context accepts a report: its slot holds a fabric key, which one of all zeros is not (DESIGN CHOICE, log 19;
DEDUCED, log 78). -/
def State.acceptsSwitch (s : State) (r : SwitchReport) (d : Descriptor) : Bool :=
  let k := Sparse.get {} s.trust.slots d.slot.toNat
  (d.state == .open || d.state == .closed) && d.slot != 0 && !k.destroyed && k.fabric != 0 && leNat (sha384 (r.dsaKey ++ r.measurement)) == d.measurement.toNat

/-- SWATTEST (R44): a report is verified, and each context that accepts the switch has its fabric key sent to it. -/
def execSwattest (r : SwitchReport) (s : State) : Res :=
  if s.fw.state != 1 || !s.trust.nonces.contains r.nonce || !Config.mldsaOk r.dsaKey (reportBytes r) r.signature then .next s
  else
    let who := s.trust.ctxs.filter fun e => s.acceptsSwitch r e.2
    .next (who.foldl (fun (s : State) e => s.sendSwitchKey r (BitVec.ofNat 20 e.1) e.2) s)

/-! ### Link frames (02 R29-R32) -/

/-- Apply the acknowledgement and the stop bits of a good frame (DESIGN CHOICE, log 72). -/
def Port.hear (p : Port) (f : Frame) : Port :=
  { p with replay := p.replay.filter (fun e => decide (2048 ≤ (f.ack - e.1).toNat)), stopOut := f.stop }

/-- Ask the far side to send again after the last good frame (DESIGN CHOICE, log 72). -/
def State.requestRetry (s : State) (i : Nat) : State :=
  (s.putPort i { s.port i with retrying := true }).emitFrames i 2 [((s.port i).txSeq, [])]

/-- The data frame that a retry request asked for has come good: the repeat passed, so the error was transient (13 R236). -/
def State.retryPassed (s : State) (i : Nat) : State :=
  if (s.port i).retrying then
    (({ s with fw := { s.fw with transient := s.fw.transient + 1 } } : State).putPort i { s.port i with retrying := false }).contain
      (i / 16) 0x0D02 1 6 4 i none 0xFFFF 0xFFFF 0 0 0 0 0
  else s

/-- A good data frame delivers its flit; the flit that completes a packet makes it arrive (DESIGN CHOICE, log 72). -/
def State.takeFlit (s : State) (i : Nat) (flit : List Byte) : State :=
  let p := s.port i
  let fs := p.flits ++ [flit]
  let w0 := leNat ((fs.headD []).take 8)
  if w0 / 2 ^ 11 % 8 + 1 ≤ fs.length then
    State.takeBuffered (s.putPort i { p with flits := [], rxSeq := p.rxSeq + 1 }) i [packetOfFlits (fs.headD []) (fs.drop 1)]
  else s.putPort i { p with flits := fs, rxSeq := p.rxSeq + 1 }

/-- DATA_FRAME (R31 item 1): a frame that fails its CRC, or comes out of link order, is discarded and a retry request is sent
that names the last good sequence. -/
def execDataFrame (port : BitVec 6) (f : Frame) (s : State) : Res :=
  let p := s.port port.toNat
  if p.state ≠ .trained then .next s
  else if !f.good || f.kind != 0 || f.seq != p.rxSeq then .next (s.requestRetry port.toNat)
  else
    let s := s.retryPassed port.toNat
    .next (((s.putPort port.toNat ((s.port port.toNat).hear f)).takeFlit port.toNat f.flit).moveAll.setStops)

/-- IDLE_FRAME (R30): acknowledgement and stop bits only. -/
def execIdleFrame (port : BitVec 6) (f : Frame) (s : State) : Res :=
  let p := s.port port.toNat
  if p.state ≠ .trained then .next s
  else if !f.good || f.kind != 1 then .next (s.requestRetry port.toNat)
  else .next ((s.putPort port.toNat (p.hear f)).moveAll)

/-- RETRY_REQUEST (R31 item 2): everything after the frame that the request acknowledges is sent again, and the successive
retries of its first frame are counted. -/
def execRetryRequest (port : BitVec 6) (f : Frame) (s : State) : Res :=
  let i := port.toNat
  let p := s.port i
  if p.state ≠ .trained then .next s
  else if !f.good || f.kind != 2 then .next (s.requestRetry i)
  else
    let p := p.hear f
    let first := (p.replay.map Prod.fst).headD p.txSeq
    let p := { p with
      retries := if p.replay = [] then 0 else if p.retries ≠ 0 ∧ p.lastRetry = first then p.retries + 1 else 1
      lastRetry := first }
    .next ((s.putPort i p).emitFrames i 0 p.replay).moveAll

/-- PORT_RETRAIN (R31 item 3): after 8 successive retries of one frame. -/
def execPortRetrain (port : BitVec 6) (s : State) : Res :=
  let p := s.port port.toNat
  .next (if p.state = .trained ∧ 8 ≤ p.retries then
      s.putPort port.toNat { p with state := .training, since := s.tickOf (port.toNat / 16), retries := 0 }
    else s)

/-- PORT_DOWN (R31 item 4): a port that has not trained within 100,000 ticks goes down, with an error record. -/
def execPortDown (port : BitVec 6) (s : State) : Res :=
  let i := port.toNat
  let p := s.port i
  if p.state = .training ∧ 100000 ≤ (s.tickOf (i / 16) - p.since).toNat then
    .next (((s.putPort i { p with state := .down, retrying := false }).contain (i / 16) 0x0D0B 2 6 7 i none 0xFFFF 0xFFFF 0 0 0 0
      ((Config.linkPeer 6 i).setWidth 64)).moveAll)
  else .next s

/-- PORT_TRAINED (R28, R44): a port that the record enables trains; its unacknowledged frames are sent again, and firmware
queries the switches of every plane with an enabled port. -/
def execPortTrained (port : BitVec 6) (s : State) : Res :=
  let i := port.toNat
  let p := s.port i
  if s.dieRuns (i / 16) && s.pkg.config.brodug.getLsbD i && p.state != .trained && p.state != .idle then
    let s := ((s.putPort i { p with state := .trained, retries := 0 }).emitFrames i 0 p.replay).idlePort i
    .next ((if s.fw.state = 1 then s.queryAll else s).moveAll)
  else .next s

end Sys2Proof.Machine
end

