-- ==== Sys2Proof/Machine/Apply.lean ====
section
/-! DEFINITION. The application of Current records (05 R81-R95, 06 R96-R112): the tests that make a record a no-op, its effect on
the tables, Dispatch, sounding rounds and their closes, and what the chip then does for the rows that name it. One meaning for
each type of record: it applies the record at the head of the arrival queue. -/

namespace Sys2Proof.Machine

/-! ### Fields and the no-op tests (05 R81, R82, R84, R90) -/

/-- n bits of the payload at bit lo, as a number. -/
def payBits (r : CurRec) (lo n : Nat) : Nat := r.payload.toNat / 2 ^ lo % 2 ^ n

/-- The kind of a FINISH. -/
def finishKind (r : CurRec) : Nat := payBits r 32 8

/-- The kind of a SOUND. -/
def soundKind (r : CurRec) : Nat := payBits r 64 8

/-- The opening sequence of a SOUND. -/
def soundOpening (r : CurRec) : W64 := recWord r 0

/-- The digest of a SOUND. -/
def soundDigest (r : CurRec) : BitVec 128 := r.payload.extractLsb' 128 128

/-- The pod parameters of an ADMIT. -/
def admitParams (r : CurRec) : PodParams :=
  { every := payBits r 128 16 + 1, wait := payBits r 160 32, gap := payBits r 192 32, expel := payBits r 224 32 }

/-- Whether parameters lie in their ranges (R84). -/
def PodParams.inRange (p : PodParams) : Bool :=
  decide (1000 ≤ p.wait) && decide (p.wait ≤ 10 ^ 8) && decide (100 ≤ p.gap) && decide (p.gap ≤ 10 ^ 6)
    && decide (100 ≤ p.expel) && decide (p.expel ≤ 10 ^ 6)

/-- Whether a type is assigned (R82). -/
def typeAssigned (t : BitVec 8) : Bool :=
  (decide (1 ≤ t.toNat) && decide (t.toNat ≤ 8)) || (decide (0x10 ≤ t.toNat) && decide (t.toNat ≤ 0x14))

/-- The reserved fields, the fields fixed to zero, and the enumerated fields of a payload (R81) (DEDUCED, log 28). -/
def payloadGood (r : CurRec) : Bool :=
  let zero (lo n : Nat) : Bool := payBits r lo n == 0
  match r.typ.toNat with
  | 0x01 | 0x07 => zero 192 12 && ((subFlags r).getLsbD 2 || subDigest r == 0)
  | 0x02 => zero 28 4 && decide (finishKind r ≤ 1) && zero 40 344
  | 0x03 | 0x04 => zero 28 4 && zero 64 320
  | 0x05 => zero 28 4 && zero 32 352
  | 0x06 => zero 28 4 && zero 48 336
  | 0x08 => zero 10 6 && zero 32 352
  | 0x10 => zero 12 372
  | 0x11 => zero 4 28 && zero 144 16 && zero 256 128 && (admitParams r).inRange
  | 0x12 => zero 12 52 && zero 128 256
  | 0x13 => zero 4 28 && zero 64 320
  | 0x14 => decide (soundKind r ≤ 2) && zero 72 56 && zero 256 128 && (soundKind r != 1 || zero 128 128)
  | _ => false

/-- The source state that a record's type needs (R82). -/
def sourceGood (t : Tables) (r : CurRec) : Bool :=
  let st := (t.chip r.src.toNat).state
  match r.typ.toNat with
  | 0x11 => st != .live && st != .joining
  | 0x14 => st == .live || (st == .joining && soundKind r == 0)
  | _ => st == .live

/-- Whether a record is applied with its effect: none of the cases of R81 makes it a no-op (DEDUCED, log 28). -/
def recordGood (t : Tables) (r : CurRec) : Bool :=
  r.version == 1 && decide (r.src.toNat < 4096) && decide (r.ctx.toNat < 2 ^ 20) && payloadGood r && sourceGood t r

/-! ### Digests (05 R88) -/

/-- The hash of a row. -/
def rowHash (r : RowRec) : BitVec 128 :=
  BitVec.ofNat 128 (leNat ((sha384 (leBytes 1 r.table ++ leBytes 4 r.index ++ r.bytes)).take 16))

/-- What a row adds to the digest of the all-zero tables. -/
def rowChange (r : RowRec) : BitVec 128 := rowHash r - rowHash { r with bytes := List.replicate r.bytes.length 0 }

/-- The sum of the hashes of the rows of an all-zero table, below a row index. -/
def zeroRows (table bytes : Nat) : Nat → BitVec 128
  | 0 => 0
  | n + 1 => zeroRows table bytes n + rowHash ⟨table, n, List.replicate bytes 0⟩

/-- The tables that the digest covers: number, rows and bytes of a row (06 R96). -/
def digestTables : List (Nat × Nat × Nat) :=
  [(0, 4096, 16), (1, 1024, 32), (2, 65536, 64), (3, 2 ^ 28, 16), (4, 256, 32), (5, 65536, 8), (6, 1, 16)]

/-- The digest of all-zero tables: a constant of the part (R88; 06 R97). -/
def zeroDigest (ts : List (Nat × Nat × Nat)) : BitVec 128 := ts.foldl (fun d e => d + zeroRows e.1 e.2.2 e.2.1) 0

/-- The digest of a set of rows, all others being zero. -/
def digestOf (rows : List RowRec) : BitVec 128 := rows.foldl (fun d r => d + rowChange r) (zeroDigest digestTables)

/-- The digest of the tables. -/
def Tables.digest (t : Tables) : BitVec 128 := digestOf t.rows

/-! ### Records of Confluence and of the Current -/

/-- The state of this chip in its own tables. -/
def State.ownState (s : State) : ChipState := (s.conf.chip s.fab.self.toNat).state

/-- Write an error record of the fabric logic (DESIGN CHOICE, log 64). -/
def State.fabricError (s : State) (code : BitVec 16) (detail : List Byte) : State :=
  s.errorRecord (((List.range 4).find? s.dieRuns).getD 0) 5 code 2 detail

/-- The payload of a SOUND. -/
def soundPayload (o : W64) (kind : Nat) (digest : BitVec 128) : Nat := o.toNat + 2 ^ 64 * kind + 2 ^ 128 * digest.toNat

/-- Whether the chip reports in soundings: not while it replays for a rejoin (DEDUCED, log 31). -/
def State.speaks (s : State) : Bool := !s.cur.stopped && (s.cur.stage == .none || s.cur.stage == .admitted)

/-- The arrival queue was emptied: ports hand over what there is room for, and the stop bits follow (06 R97). -/
def State.emptied (s : State) : State := s.takePorts.setStops

/-- The chip stops applying records. -/
def State.stopApplying (s : State) : State :=
  State.emptied
    { s with cur := { s.cur with stopped := true, stage := .none, queue := [], hold := [], heldAt := [], gapSince := none,
                                 round := none, transfer := none } }

/-! ### Soundings (05 R89-R93) -/

/-- Open a round at a record (DEDUCED, log 29). -/
def State.openRound (s : State) (o : W64) (p : PodParams) : State :=
  let t := s.conf
  let inState (st : ChipState) : List (BitVec 12) :=
    (t.chips.filter fun e => e.2.state == st).map fun e => BitVec.ofNat 12 e.1
  let q : Round := { opening := o, live := inState .live, joining := inState .joining, since := s.now, closePosted := false }
  let d := t.digest
  let s := { s with cur := { s.cur with
    round := some q, deferred := false, pendingSnap := some { opening := o, digest := d, params := p, tables := t } } }
  if s.speaks && (s.ownState == .live || s.ownState == .joining) then s.post (s.record 0x14 0 (soundPayload o 0 d)) else s

/-- After a record: an opening under R89 items 1 and 2, or a deferred one (item 3). `wasOpen` tells that a round was open
before the record, `loss` that the record is a LOSS (DEDUCED, log 29). -/
def State.openRounds (s : State) (o : W64) (loss wasOpen : Bool) : State :=
  match s.cur.params with
  | none => s
  | some p =>
    let due := loss || o.toNat % p.every == 0
    match s.cur.round with
    | some _ => if due then { s with cur := { s.cur with deferred := true } } else s
    | none => if due || (s.cur.deferred && !wasOpen) then s.openRound o p else s

/-- The report of a chip in a round (DEDUCED, log 29). -/
def Round.report (q : Round) (c : BitVec 12) : Option (BitVec 128) := (q.reports.find? fun e => e.1 == c).map Prod.snd

/-- The digest that more than half of the reports from chips LIVE at the opening carry. -/
def Round.winner (q : Round) : Option (BitVec 128) :=
  let ds := q.live.filterMap q.report
  ds.find? fun d => decide (ds.length < 2 * (ds.filter fun e => e == d).length)

/-- The tables of a chip in a state. -/
def Tables.setChip (t : Tables) (c : BitVec 12) (st : ChipState) : Tables := t.putChip c.toNat { t.chip c.toNat with state := st }

/-- The state of a chip LIVE at the opening, after a close that found w in the majority. -/
def Round.settled (q : Round) (w : BitVec 128) (c : BitVec 12) : ChipState :=
  match q.report c with
  | some d => if d = w then .live else .expelled
  | none => .lost

/-- The chips of a list that are in a state (DEDUCED, log 29). -/
def Tables.still (t : Tables) (st : ChipState) (cs : List (BitVec 12)) : List (BitVec 12) :=
  cs.filter fun c => (t.chip c.toNat).state == st

/-- The EXPELs after a close (R91): the majority chip of lowest number posts, the others wait EXPELWAIT for it. -/
def State.expel (s : State) (o : W64) (majority out : List (BitVec 12)) : State :=
  if !majority.contains s.fab.self || !s.speaks then s
  else if majority.headD 0 = s.fab.self then
    out.foldl (fun (s : State) c => s.post (s.record 0x12 0 (c.toNat + 2 ^ 64 * o.toNat))) s
  else { s with cur := { s.cur with expels := s.cur.expels ++ out.map fun c => (c, o, s.now) } }

/-- The effect of a close on the chip itself: out of LIVE it stops; with a matching report a JOINING chip is LIVE. A chip that
replays goes on replaying (R94 item 3). -/
def State.settleSelf (s : State) (before : ChipState) : State :=
  let st := s.ownState
  if !s.speaks then s
  else if st ≠ before ∧ (st = .expelled ∨ st = .lost) then s.stopApplying
  else if st ≠ before ∧ st = .live then { s with cur := { s.cur with stage := .none } }
  else s

/-- A close that found w in the majority, or a VERDICT for w (R91, R93; 06 R109) (DEDUCED, log 29). -/
def State.settleRound (s : State) (q : Round) (w : BitVec 128) (snap : Option Snapshot) : State :=
  let before := s.ownState
  let t := s.conf
  let live := t.still .live q.live
  let joining := t.still .joining q.joining
  let t := live.foldl (fun (t : Tables) c => t.setChip c (q.settled w c)) t
  let t := joining.foldl (fun (t : Tables) c => t.setChip c (if q.report c = some w then .live else .expelled)) t
  let majority := live.filter fun c => q.report c == some w
  let left := live.filter fun c => q.report c != some w
  let out := left.filter (fun c => (q.report c).isSome) ++ joining.filter fun c => q.report c != some w
  let t : Tables := if t.liveChips = [] then t else left.foldl (fun (t : Tables) c => t.leave s.successors c.toNat) t
  let t : Tables := { t with split := false, formed := true }
  let keep := match snap with
    | none => s.cur.snaps
    | some p => if majority.contains s.fab.self then (s.cur.snaps ++ [p]).drop (s.cur.snaps.length - 1) else s.cur.snaps
  let s := { s with conf := t, cur := { s.cur with splitRound := none, splitSnap := none, snaps := keep } }
  let s : State := (s.expel q.opening majority out).settleSelf before
  if t.liveChips = [] then s.recover else s

/-- Resolve a split (R93, 03 R54 bit 3): by the host, or by the hardware-mode rule. -/
def State.startVerdict (s : State) (q : Round) : State :=
  if s.ownState != .live || !s.speaks then s
  else if s.anyAssisted 3 then
    let ds := ((splitReports q).map Prod.snd).eraseDups
    s.serviceRequest 3 (((List.range 4).find? s.dieRuns).getD 0) 0
      (leBytes 8 q.opening.toNat ++ (ds.take 2).flatMap fun d => leBytes 16 d.toNat)
  else s.resolveSplit q

/-- A round closes (R91) (DEDUCED, log 29). -/
def State.closeRound (s : State) (q : Round) : State :=
  let snap := s.cur.pendingSnap
  let s := { s with cur := { s.cur with round := none, pendingSnap := none } }
  match q.winner with
  | some w => s.settleRound q w snap
  | none =>
    ({ s with conf := { s.conf with split := true }, cur := { s.cur with splitRound := some q, splitSnap := snap } } :
      State).startVerdict q

/-- The effect of a SOUND of kind DIGEST (R90, R91). -/
def State.takeDigest (s : State) (r : CurRec) : State :=
  let c := r.src.setWidth 12
  match s.cur.round with
  | none => s
  | some q =>
    if q.opening ≠ soundOpening r ∨ (q.report c).isSome ∨ !(q.live.contains c || q.joining.contains c) then s
    else
      let q := { q with reports := q.reports ++ [(c, soundDigest r)] }
      let row : SoundRow := { opening := q.opening, kind := 1, digest := soundDigest r }
      let s := { s with conf := { s.conf with sounds := Sparse.set {} s.conf.sounds c.toNat row },
                        cur := { s.cur with round := some q } }
      if (q.live ++ q.joining).all fun k => (q.report k).isSome then s.closeRound q else s

/-- The effect of a SOUND of kind CLOSE (DEDUCED, log 30). -/
def State.takeClose (s : State) (r : CurRec) : State :=
  match s.cur.round with
  | none => s
  | some q => if q.opening = soundOpening r then s.closeRound q else s

/-- The effect of a SOUND of kind VERDICT (R93). -/
def State.takeVerdict (s : State) (r : CurRec) : State :=
  match s.cur.splitRound with
  | none => s
  | some q =>
    if s.conf.split && q.opening == soundOpening r && q.reports.any fun e => e.2 == soundDigest r then
      s.settleRound q (soundDigest r) s.cur.splitSnap
    else s

/-! ### Submits (06 R102, R103, R112) -/

/-- A LAUNCH whose SUBMIT was applied completes (19 R354). -/
def State.launchDone (s : State) (r : CurRec) (code : Nat) : State :=
  if r.src ≠ s.fab.self.setWidth 16 ∨ subOrigin r ≠ 1 then s
  else
    match s.disp.launches.find? fun e => e.2.payload == r.payload && e.2.ctx == r.ctx with
    | none => s
    | some e =>
      let s := { s with disp := { s.disp with launches := s.disp.launches.filter fun x => x != e } }
      match s.command e.1 with
      | none => s
      | some c => s.putCommand e.1 { c with status := code, ended := some 0 }

/-- The effect of a SUBMIT or FIRE: its poster records a refusal. -/
def State.takeSubmit (s : State) (r : CurRec) : State :=
  match s.conf.submit r s.graphOf with
  | .accepted t => ({ s with conf := t } : State).launchDone r 0
  | .refused n =>
    let s := s.launchDone r (0x10 + n)
    if r.src = s.fab.self.setWidth 16 then
      s.fabricError 0x0601 (leBytes 8 r.seq.toNat ++ leBytes 1 n ++ leBytes 3 0 ++ leBytes 4 (subTag r).toNat)
    else s
  | .graphDiffers => s

/-- Whether a record meets a graph object that differs from its digest (R112). -/
def State.graphDiff (s : State) (r : CurRec) : Bool :=
  (r.typ == 0x01 || r.typ == 0x07) && s.conf.submit r s.graphOf == .graphDiffers

/-! ### Chips (05 R95, 06 R109) -/

/-- The effect of an ADMIT: LIVE while the pod is forming, else JOINING; the first one gives the parameters. -/
def State.takeAdmit (s : State) (r : CurRec) : State :=
  let slots : BitVec 32 := r.payload.extractLsb' 32 32
  let row : ChipRow := { state := if s.conf.formed then .joining else .live, dieMap := BitVec.ofNat 8 (payBits r 0 8),
                         capacity := slots, free := slots }
  let params := match s.cur.params with
    | none => some (admitParams r)
    | some p => some p
  { s with conf := s.conf.putChip r.src.toNat row, cur := { s.cur with params := params } }

/-- The effect of a CAPACITY. -/
def State.takeCapacity (s : State) (r : CurRec) : State :=
  let c := s.conf.chip r.src.toNat
  let slots : BitVec 32 := r.payload.extractLsb' 32 32
  { s with conf := s.conf.putChip r.src.toNat { c with
      dieMap := BitVec.ofNat 8 (payBits r 0 8), free := c.free + (slots - c.capacity), capacity := slots } }

/-- The effect of an EXPEL on this chip: it no longer waits for it (R91). The tables do not change. -/
def State.takeExpel (s : State) (r : CurRec) : State :=
  let c : BitVec 12 := BitVec.ofNat 12 (payBits r 0 12)
  { s with cur := { s.cur with expels := s.cur.expels.filter fun e => !(e.1 == c && e.2.1 == recWord r 1) } }

/-- The effect of a good record, before Dispatch. -/
def State.effect (s : State) (r : CurRec) : State :=
  match r.typ.toNat with
  | 0x01 | 0x07 => s.takeSubmit r
  | 0x02 => { s with conf := if finishKind r = 0 then s.conf.finishBlocks s.successors r else s.conf.finishSignal r }
  | 0x03 => { s with conf := s.conf.block r }
  | 0x04 => { s with conf := s.conf.resume r }
  | 0x05 => { s with conf := s.conf.release r }
  | 0x06 => { s with conf := s.conf.fault s.successors r }
  | 0x08 => { s with conf := s.conf.share r }
  | 0x11 => s.takeAdmit r
  | 0x12 => s.takeExpel r
  | 0x13 => s.takeCapacity r
  | 0x14 => if soundKind r = 0 then s.takeDigest r else if soundKind r = 1 then s.takeClose r else s.takeVerdict r
  | _ => s

/-! ### What the chip does for its rows -/

/-- The gangs of a grid that wait at GATE go on, and dormant blocks wake (19 R355, 07 R118) (DEDUCED, log 34). -/
def State.openGate (s : State) (g : Nat) : State :=
  s.groups.foldl (fun (s : State) e =>
    match e.2 with
    | none => s
    | some p =>
      if p.task || p.privileged || p.grid.toNat != g then s
      else
        let waiting := p.live.filter fun i => (p.slice i).park == .gate
        if waiting = [] then s
        else (s.putGroup e.1 (p.mapSlices (fun _ sl => sl.ready) waiting)).wakeBlockOf p) s

/-- The grids whose gate a record opened. -/
def State.opened (s : State) (old : Tables) : List Nat :=
  (old.grids.filter fun e => e.2.gated && (s.conf.grid e.1).state != .free && !(s.conf.grid e.1).gated).map Prod.fst

/-- Latch the faulted flag of the predecessors of the gates that a record opened (19 R355); a chip that replays does so too. -/
def State.latchGates (s : State) (old : Tables) (faulted : Bool) : State :=
  let kept := s.disp.gateFault.filter fun e => (s.conf.grid e.1).state != .free
  { s with disp := { s.disp with gateFault := Sparse.setAll false kept ((s.opened old).map fun g => (g, faulted)) } }

/-- Open the gates that a record opened, here. -/
def State.openGates (s : State) (old : Tables) : State := (s.opened old).foldl (fun (s : State) g => s.openGate g) s

/-- The requester of a signal OR: the grid's context, under its launch grant map and principal (06 R108). -/
def State.signalReq (s : State) (row : GridRow) : Requester := { s.imageReq row.ctx with kind := 3 }

/-- The OR of a signal: bit 0, and bit 63 for a fault (DEDUCED, log 33). -/
def signalPiece (row : GridRow) : Piece :=
  { lane := 0, start := 0, chip := refHome row.signal, object := refObject row.signal, offset := refOffset row.signal,
    length := 8, value := if row.faulted then 2 ^ 63 + 1 else 1, status := 0xFF }

/-- Note the answer of a signal OR, or that it was sent (DEDUCED, log 33). -/
def State.noteSignal (s : State) (grid : BitVec 16) (answer : Option (BitVec 8)) (sent : Bool) : State :=
  { s with disp := { s.disp with signals := s.disp.signals.map fun d =>
      if d.grid == grid then
        { d with answer := answer, sent := sent, kind := if answer = some 2 then s.signalKind grid else 0 }
      else d } }

/-- Try the signal OR of a grid: at this chip's Weir or at another chip's; one that met a page fault waits for
its wake (DEDUCED, log 33). -/
def State.trySignal (s : State) (grid : BitVec 16) : State :=
  match s.disp.signals.find? fun d => d.grid == grid && d.answer.isNone && !d.sent with
  | none => s
  | some _ =>
    let row := s.conf.grid grid.toNat
    let p := signalPiece row
    let q := s.signalReq row
    if p.chip = s.fab.self then
      let r := s.serve q (.atomic 2 false) [p]
      let st := (r.2.1.map Piece.status).headD 4
      if st = 0xFF ∨ (st = 2 ∧ r.2.2) then r.1 else r.1.noteSignal grid (some st) false
    else
      match s.ask (((List.range 4).find? s.dieRuns).getD 0) (.signal grid) (s.packetOf q (.atomic 2 false) 2 false [p]) with
      | (s, none) => s.noteSignal grid (some 4) false
      | (s, some _) => s.noteSignal grid none true

/-- The signals that this chip owes after a record: new ones are tried at once (R108), and the duty of a grid that is no longer
DONE and owed here is dropped. -/
def State.oweSignals (s : State) : State :=
  let due := (s.conf.grids.filter fun e => e.2.state == .done && e.2.owed == s.fab.self).map fun e => BitVec.ofNat 16 e.1
  let kept := s.disp.signals.filter fun d => due.contains d.grid
  let fresh := due.filter fun g => kept.all fun d => d.grid != g
  let new := fresh.map fun g => { grid := g, fault := (s.conf.grid g.toNat).faulted, answer := none, sent := false, posted := false : SignalDue }
  let s := { s with disp := { s.disp with signals := kept ++ new } }
  fresh.foldl (fun (s : State) g => s.trySignal g) s

/-- The payload of a node launch (R112): the node's entry with flag [2], origin 2, its node and the graph digest. -/
def nodePayload (entry : List Byte) (inst node : Nat) (digest : BitVec 32) : Nat :=
  let t := leNat (entry.take 44)
  let field (lo n : Nat) : Nat := t / 2 ^ lo % 2 ^ n
  let t := t - field (192 + 27) 1 * 2 ^ (192 + 27) + 2 ^ (192 + 27)
  let t := t - field (192 + 12) 3 * 2 ^ (192 + 12) + 2 * 2 ^ (192 + 12)
  let t := t - field 256 32 * 2 ^ 256 + (inst * 2 ^ 24 + node) * 2 ^ 256
  t + 2 ^ 352 * digest.toNat

/-- Post the launch of a counter row that this chip owes (DEDUCED, log 33). -/
def State.launchNode (s : State) (k : Nat) : State :=
  match s.conf.insts.find? fun e => e.2.inUse && decide (e.2.first.toNat ≤ k) && decide (k < e.2.first.toNat + e.2.nodes.toNat) with
  | none => s
  | some e =>
    let j := k - e.2.first.toNat
    if (s.ctxOf e.2.ctx).accepts then
      let entry := (s.graphBytes e.2.object).drop (0x10 + 64 * j)
      s.post (s.record 0x01 e.2.ctx (nodePayload entry e.1 j (s.graphDigest e.2.object)))
    else s.fabricError 0x0103 (leBytes 4 e.2.ctx.toNat)

/-- The launches of the nodes that a record made this chip owe, in ascending node number. -/
def State.launchNodes (s : State) (old : Tables) : State :=
  let owes (r : CtrRow) : Bool := r.state == 2 && r.owed == s.fab.self
  let due := s.conf.ctrs.filter fun e => owes e.2 && !owes (Sparse.get {} old.ctrs e.1)
  if s.ownState = .live then due.foldl (fun (s : State) e => s.launchNode e.1) s else s

/-- A changed die map ends the silence about the pairs that it names: its chip's, or this chip's own every one (02 R27 item 3). -/
def State.remapped (s : State) (old : Tables) : State :=
  let same (c : BitVec 12) : Bool := (s.conf.chip c.toNat).dieMap == (old.chip c.toNat).dieMap
  { s with fab := { s.fab with noPlane := if same s.fab.self then s.fab.noPlane.filter same else [] } }

/-- A change of a die map may give a pair a plane, or take it (02 R27). -/
def State.dieMaps (s : State) (old : Tables) (r : CurRec) : State :=
  if r.typ = 0x11 ∨ r.typ = 0x13 then (s.remapped old).moveAll else s

/-- What the chip does after a record changed the tables; while it replays for a rejoin it runs no row. -/
def State.react (s : State) (old : Tables) (r : CurRec) : State :=
  let wasLive := (old.chip s.fab.self.toNat).state == .live
  let s := ((s.abortLost old).dieMaps old r).latchGates old (r.typ == 0x06 || r.typ == 0x14)
  let s := if wasLive && s.ownState != .live then s.wakePosts.releaseAll else s
  if !s.speaks then s
  else
    let s := (s.enact old).openGates old
    let s := s.oweSignals.launchNodes old
    if r.typ = 0x03 ∧ r.src = s.fab.self.setWidth 16 then s.appliedBlock r else s

/-! ### Applying one record -/

/-- Keep an applied record: the last 2^20 (R85). -/
def State.logRecord (s : State) (r : CurRec) : State :=
  { s with cur := { s.cur with log := if s.cur.log.length < 2 ^ 20 then s.cur.log ++ [r] else s.cur.log.drop 1 ++ [r] } }

/-- Apply a record (DEDUCED, log 28). -/
def State.applyRecord (s : State) (r : CurRec) : State :=
  let old := s.conf
  let wasOpen := s.cur.round.isSome
  if !recordGood old r then
    let s := (s.logRecord r).openRounds r.seq false wasOpen
    if r.src = s.fab.self.setWidth 16 then
      (if r.typ = 0x01 then s.launchDone r 0x0F else s).fabricError 0x0501 (leBytes 8 r.seq.toNat)
    else s
  else if s.graphDiff r then s.stopApplying.fabricError 0x0602 (leBytes 8 r.seq.toNat)
  else
    let s := s.effect r
    let s := { s with conf := s.conf.dispatch }
    let s := (s.logRecord r).openRounds r.seq (r.typ == 0x10) wasOpen
    s.react old r

/-- Whether the chip applies records: it runs, and it has not stopped. -/
def State.applies (s : State) : Bool := s.fw.state == 1 && !s.cur.stopped

/-- Apply the record at the head of the queue when it is one of those asked for. -/
def State.applyHead (s : State) (mine : CurRec → Bool) : State :=
  match s.cur.queue with
  | [] => s
  | r :: rest => if s.applies && mine r then ({ s with cur := { s.cur with queue := rest } } : State).applyRecord r else s

/-- Records of unassigned types at the head are applied as no-ops (R81) (DEDUCED, log 28). -/
def State.passUnassigned : Nat → State → State
  | 0, s => s
  | n + 1, s =>
    match s.cur.queue with
    | [] => s
    | r :: _ => if s.applies && !typeAssigned r.typ then State.passUnassigned n (s.applyHead fun _ => true) else s

/-! ### The arrival queue and what is held ahead of it (05 R85, R94) -/

/-- Insert a record in a list by ascending sequence; a sequence already there stays as it is. -/
def insertRec (r : CurRec) : List CurRec → List CurRec
  | [] => [r]
  | x :: xs => if r.seq = x.seq then x :: xs else if r.seq.toNat < x.seq.toNat then r :: x :: xs else x :: insertRec r xs

/-- Put the next expected record in the arrival queue; a full queue takes none (DESIGN CHOICE, log 32). -/
def Current.enqueue (c : Current) (r : CurRec) : Current :=
  if r.seq = c.next ∧ c.queue.length < 65536 then { c with queue := c.queue ++ [r], next := c.next + 1 } else c

/-- Move the held records that have become the next ones, and forget those already applied. The wait for a gap counts from
the arrival of the first record still held. -/
def Current.drainHold (c : Current) : Current :=
  let d := c.hold.foldl Current.enqueue c
  let left := c.hold.filter fun r => decide (d.next.toNat ≤ r.seq.toNat)
  let ticks := c.heldAt.filter fun e => left.any fun r => r.seq == e.1
  { d with hold := left, heldAt := ticks, gapSince := ticks.head?.map Prod.snd }

/-- A record arrives: the next one is queued, one beyond it is held, up to 4,096, and one already queued is discarded
(DESIGN CHOICE, log 32). -/
def Current.accept (c : Current) (r : CurRec) (now : W64) : Current :=
  if r.seq.toNat < c.next.toNat then c
  else if r.seq = c.next then (c.enqueue r).drainHold
  else if 4096 ≤ c.hold.length || c.hold.any fun x => x.seq == r.seq then c
  else { c with hold := insertRec r c.hold, heldAt := c.heldAt ++ [(r.seq, now)], gapSince := some (c.gapSince.getD now) }

/-- Whether a record can be accepted now: the arrival queue, or the hold ahead of it, has a place. -/
def Current.takes (c : Current) (r : CurRec) : Bool :=
  decide (r.seq.toNat < c.next.toNat)
    || (if r.seq = c.next then decide (c.queue.length < 65536) else decide (c.hold.length < 4096))

/-- A replay (R94 item 3): of the tail, then of the records held for it, up to n are accepted while there is a place for them. -/
def Current.feed (now : W64) : Nat → Current → Current
  | 0, c => c
  | n + 1, c =>
    match c.rejoinTail, c.rejoinHold with
    | r :: rest, _ => if c.takes r then Current.feed now n (({ c with rejoinTail := rest } : Current).accept r now) else c
    | [], r :: rest => if c.takes r then Current.feed now n (({ c with rejoinHold := rest } : Current).accept r now) else c
    | [], [] => c

/-- Whether a replay has records to accept yet. -/
def Current.fed (c : Current) : Bool := c.rejoinTail == [] && c.rejoinHold == []

/-- After the arrival queue changed: a replay goes on, records of unassigned types at the head pass, ports hand over what
there is room for, and the stop bits follow (06 R97). -/
def State.queued (s : State) : State :=
  let s : State := if s.cur.stage = .replay then { s with cur := s.cur.feed s.now (s.cur.rejoinTail.length + s.cur.rejoinHold.length) } else s
  (s.passUnassigned s.cur.queue.length).takePorts.setStops

/-- Apply the head, and the records of unassigned types behind it. -/
def State.applyNext (s : State) (mine : CurRec → Bool) : Res := .next (s.applyHead mine).queued

/-- SUBMIT (R103). -/
def execSubmit (s : State) : Res := s.applyNext fun r => r.typ == 0x01

/-- FIRE (R102). -/
def execFire (s : State) : Res := s.applyNext fun r => r.typ == 0x07

/-- FINISH of kind 0 (R107); a FINISH of an unassigned kind is a no-op. -/
def execFinishBlocksEnded (s : State) : Res := s.applyNext fun r => r.typ == 0x02 && finishKind r != 1

/-- FINISH of kind 1 (R107). -/
def execFinishSignalWritten (s : State) : Res := s.applyNext fun r => r.typ == 0x02 && finishKind r == 1

/-- BLOCK (R107). -/
def execBlock (s : State) : Res := s.applyNext fun r => r.typ == 0x03

/-- RESUME (R107). -/
def execResume (s : State) : Res := s.applyNext fun r => r.typ == 0x04

/-- RELEASE (R107). -/
def execRelease (s : State) : Res := s.applyNext fun r => r.typ == 0x05

/-- FAULT (R107). -/
def execFault (s : State) : Res := s.applyNext fun r => r.typ == 0x06

/-- SHARE (R101). -/
def execShare (s : State) : Res := s.applyNext fun r => r.typ == 0x08

/-- LOSS (R89). -/
def execLoss (s : State) : Res := s.applyNext fun r => r.typ == 0x10

/-- ADMIT (R95). -/
def execAdmitChip (s : State) : Res := s.applyNext fun r => r.typ == 0x11

/-- EXPEL (R80). -/
def execExpel (s : State) : Res := s.applyNext fun r => r.typ == 0x12

/-- CAPACITY (R109). -/
def execCapacity (s : State) : Res := s.applyNext fun r => r.typ == 0x13

/-- SOUND of kind DIGEST (R91). -/
def execSoundDigest (s : State) : Res := s.applyNext fun r => r.typ == 0x14 && soundKind r == 0

/-- SOUND of kind CLOSE (R91); a SOUND of an unassigned kind is a no-op. -/
def execSoundClose (s : State) : Res := s.applyNext fun r => r.typ == 0x14 && soundKind r != 0 && soundKind r != 2

/-- SOUND of kind VERDICT (R93). -/
def execSoundVerdict (s : State) : Res := s.applyNext fun r => r.typ == 0x14 && soundKind r == 2

/-- SIGNAL_OR_DONE (R108): the OR that waited is tried again; once it is accepted or has ended, FINISH of kind 1 is posted, with
record 0x0603 when it was not accepted. -/
def execSignalOrDone (grid : BitVec 16) (s : State) : Res :=
  let s := s.trySignal grid
  match s.disp.signals.find? fun d => d.grid == grid && d.answer.isSome && d.answer != some 2 && !d.posted with
  | none => .next s
  | some d =>
    let st := d.answer.getD 0
    let s := { s with disp := { s.disp with
      signals := s.disp.signals.map fun (e : SignalDue) => if e.grid == grid then { e with posted := true } else e } }
    let s := if st = 0 then s
      else s.fabricError 0x0603 (leBytes 2 grid.toNat ++ leBytes 2 0 ++ leBytes 4 (s.conf.grid grid.toNat).hostTag.toNat
        ++ leBytes 1 st.toNat)
    .next (s.post (s.record 0x02 0 (rowPayload grid s.fab.self 1)))

end Sys2Proof.Machine
end

