-- ==== Sys2Proof/Machine/Current.lean ====
section
/-! DEFINITION. The delivery of the Current to this chip (05): records in order, the hold, tail fetches (R85), SYNC transfers
(R86, R87), the timers of soundings (R89, R91), and the rejoin (R94). -/

namespace Sys2Proof.Machine

/-! ### Delivery (05 R85, 06 R97) -/

/-- Whether the chip holds delivered records for a rejoin (DESIGN CHOICE, log 32). -/
def Current.holding (c : Current) : Bool := c.stage == .snapshot || c.stage == .tail

/-! ### Transfers (05 R85-R87) -/

/-- The ticks of silence that end a transfer (DEDUCED, log 30). -/
def State.silence (s : State) : Nat := match s.cur.params with
  | none => 100000
  | some p => p.gap

/-- The chip at (x + dx, y + dy), modulo 64. -/
def neighbour (c : BitVec 12) (dx dy : Nat) : BitVec 12 :=
  BitVec.ofNat 12 (64 * ((c.toNat / 64 + dy) % 64) + (c.toNat % 64 + dx) % 64)

/-- The candidates of R85, without the chip itself (DEDUCED, log 31). -/
def candidates (c : BitVec 12) : List (BitVec 12) :=
  let near := [neighbour c 63 0, neighbour c 1 0, neighbour c 0 63, neighbour c 0 1]
  near ++ ((List.range 4096).map fun n => BitVec.ofNat 12 n).filter fun n => n != c && !near.contains n

/-- The candidates for a snapshot: those LIVE in the chip's own tables, or all when it holds none LIVE (R94). -/
def State.snapCandidates (s : State) : List (BitVec 12) :=
  let all := candidates s.fab.self
  if s.conf.liveChips = [] then all else all.filter fun c => (s.conf.chip c.toNat).state == .live

/-- Bytes filled with zeros to a length. -/
def padTo (n : Nat) (b : List Byte) : List Byte := (b ++ List.replicate n 0).take n

/-- Ask the first of some candidates; none is left when the list is empty. -/
def State.askNext (s : State) (snapshot : Bool) (first last : W64) : List (BitVec 12) → State
  | [] => { s with cur := { s.cur with transfer := none } }
  | c :: cs =>
    let id := s.cur.nextTransfer
    let t : Transfer := { snapshot := snapshot, id := id, asked := c, left := cs, first := first, last := last, since := s.now }
    let s : State := { s with cur := { s.cur with transfer := some t, nextTransfer := id + 1 } }
    if snapshot then s.sendSync c 3 id (padTo 256 (leBytes 8 first.toNat))
    else s.sendSync c 1 id (padTo 256 (leBytes 8 first.toNat ++ leBytes 8 last.toNat))

/-- Start a rejoin at its first step: delivery is resumed, and a snapshot is sought (R94) (DEDUCED, log 31). -/
def State.beginRejoin (s : State) : State :=
  let id := s.cur.nextTransfer
  let s : State := { s with
    cur := { s.cur with stage := .snapshot, rejoinTail := [], rejoinHold := [], retryAt := none, queue := [], hold := [], heldAt := [],
                        gapSince := none, nextTransfer := id + 1 } }
  let s := s.emptied
  let s := (s.streamPackets 0x11 2 s.eventPlane s.fab.self 6 id (List.replicate 256 0)).foldl State.emitLoose s
  s.askNext true 0 0 s.snapCandidates

/-- The candidate asked failed: the next one is asked. Without one, a missing tail stops the chip (R85 item 4), the tail of a
rejoin starts it again, and a snapshot is given up; a candidate that was silent counts like one that answered 'not held'
(DEDUCED, log 30). -/
def State.nextCandidate (s : State) : State :=
  match s.cur.transfer with
  | none => s
  | some t =>
    let s : State := { s with fab := { s.fab with streams := s.fab.streams.filter fun e => !(e.1 == t.asked && e.2.1 == t.id) } }
    if t.left ≠ [] ∨ t.snapshot then s.askNext t.snapshot t.first t.last t.left
    else if s.cur.stage = .tail then s.beginRejoin
    else s.stopApplying

/-- The transfer that an answer belongs to. -/
def State.answered (s : State) (chip : BitVec 12) (id : BitVec 24) (snapshot : Bool) : Option Transfer :=
  s.cur.transfer.filter fun t => t.asked == chip && t.id == id && t.snapshot == snapshot

/-- Whether part of the stream of a transfer has come. -/
def State.streaming (s : State) (t : Transfer) : Bool := s.fab.streams.any fun e => e.1 == t.asked && e.2.1 == t.id

/-- Whether an outstanding transfer has been silent too long. -/
def State.silent (s : State) (t : Transfer) : Bool := decide (s.silence ≤ (s.now - t.since).toNat)

/-- EVENT (R85): a delivered record. While a snapshot or tail is sought for a rejoin, and until its replay has taken in what was
held, it is held, up to 2^20 (R94). -/
def execEvent (r : CurRec) (s : State) : Res :=
  .next (if s.fw.state ≠ 1 ∨ s.cur.stopped && !s.cur.holding then s
    else if s.cur.holding then
      if 2 ^ 20 ≤ s.cur.rejoinHold.length then s.beginRejoin
      else { s with cur := { s.cur with rejoinHold := insertRec r s.cur.rejoinHold } }
    else if s.cur.stage = .replay ∧ !s.cur.fed then
      if 2 ^ 20 ≤ s.cur.rejoinHold.length then s.beginRejoin
      else ({ s with cur := { s.cur with rejoinHold := insertRec r s.cur.rejoinHold } } : State).queued
    else ({ s with cur := s.cur.accept r s.now } : State).queued)

/-- TAIL_FETCH (R85): the expected record is GAPWAIT late, or the hold is full. -/
def execTailFetch (s : State) : Res :=
  match s.cur.hold, s.cur.gapSince with
  | h :: hs, some t =>
    let late := decide (s.silence ≤ (s.now - t).toNat) || decide (4096 ≤ (h :: hs).length)
    .next (if s.applies && s.cur.transfer.isNone && !s.cur.holding && late then
        s.askNext false s.cur.next (h.seq - 1) (candidates s.fab.self) else s)
  | _, _ => .next s

/-- The records of the log from first to last, when it holds them all. -/
def Current.tail (c : Current) (first last : W64) : Option (List CurRec) :=
  let rs := c.log.filter fun r => decide (first.toNat ≤ r.seq.toNat) && decide (r.seq.toNat ≤ last.toNat)
  if first.toNat ≤ last.toNat ∧ rs.length = last.toNat - first.toNat + 1 then some rs else none

/-- Whether the chip answers SYNC requests: it runs and is LIVE in its own tables. -/
def State.answersSync (s : State) : Bool := s.fw.state == 1 && s.ownState == .live

/-- TAIL_REQUEST (R85, R87). -/
def execTailRequest (chip : BitVec 12) (id : BitVec 24) (first last : W64) (s : State) : Res :=
  if s.fw.state ≠ 1 then .next s
  else
    .next (match if s.answersSync then s.cur.tail first last else none with
      | some rs => s.sendSync chip 2 id (rs.flatMap recBytes)
      | none => s.sendSync chip 5 id (padTo 256 []))

/-- The records of a tail that were asked for: each from first to last, in order (DEDUCED, log 31). -/
def tailMatches (t : Transfer) (rs : List CurRec) : Bool :=
  rs.map CurRec.seq == (List.range (t.last.toNat - t.first.toNat + 1)).map fun i => t.first + BitVec.ofNat 64 i

/-- Replay for a rejoin: the tail, then the held records (R94 item 3). -/
def State.replay (s : State) (tail : List CurRec) : State :=
  ({ s with cur := { s.cur with stage := .replay, stopped := false, transfer := none, hold := [], heldAt := [], gapSince := none,
                                rejoinTail := tail } } : State).queued

/-- TAIL_DATA (R85): the records are queued, then the held ones. A stream that is not what was asked for is discarded. -/
def execTailData (chip : BitVec 12) (id : BitVec 24) (recs : List CurRec) (s : State) : Res :=
  match s.answered chip id false with
  | none => .next s
  | some t =>
    .next (if !tailMatches t recs then s.nextCandidate
      else if s.cur.stage = .tail then s.replay recs
      else
        let c := recs.foldl Current.enqueue { s.cur with transfer := none }
        ({ s with cur := c.drainHold } : State).queued)

/-! ### Snapshots (05 R87) -/

/-- The rows of a snapshot: tables 0 to 7. -/
def Tables.snapRows (t : Tables) : List RowRec := t.rows ++ t.sounds.map fun e => ⟨7, e.1, e.2.bytes⟩

/-- The 64-byte header of a stream. -/
def snapHeader (p : SnapStream) : List Byte :=
  leBytes 4 p.magic.toNat ++ leBytes 4 p.version.toNat ++ leBytes 8 p.opening.toNat ++ leBytes 16 p.params.toNat
    ++ leBytes 16 p.digest.toNat ++ leBytes 8 p.count.toNat ++ leBytes 8 0

/-- The bytes of a row record. -/
def rowRecBytes (r : RowRec) : List Byte := leBytes 1 r.table ++ leBytes 3 0 ++ leBytes 4 r.index ++ r.bytes

/-- The SHA-384 of a stream, over everything before it. -/
def snapSum (p : SnapStream) : BitVec 384 := BitVec.ofNat 384 (leNat (sha384 (snapHeader p ++ p.rows.flatMap rowRecBytes)))

/-- The parameters as ADMIT bytes 0x20 to 0x2F hold them. -/
def PodParams.word (p : PodParams) : BitVec 128 :=
  BitVec.ofNat 128 (p.every - 1 + 2 ^ 32 * p.wait + 2 ^ 64 * p.gap + 2 ^ 96 * p.expel)

/-- The parameters of such a word. -/
def paramsOf (w : BitVec 128) : PodParams :=
  { every := bits w 15 0 + 1, wait := bits w 63 32, gap := bits w 95 64, expel := bits w 127 96 }

/-- The stream of a snapshot. -/
def Snapshot.stream (p : Snapshot) : SnapStream :=
  let rows := p.tables.snapRows
  let s : SnapStream := { magic := 0x5046594E, version := 1, opening := p.opening, params := p.params.word, digest := p.digest,
                          count := BitVec.ofNat 64 rows.length, rows := rows, hash := 0 }
  { s with hash := snapSum s }

/-- The bytes of a stream. -/
def streamBytes (p : SnapStream) : List Byte := snapHeader p ++ p.rows.flatMap rowRecBytes ++ leBytes 48 p.hash.toNat

/-- The snapshot that a request names: 0 names the latest. -/
def Current.snapshot (c : Current) (opening : W64) : Option Snapshot :=
  if opening = 0 then c.snaps.getLast? else c.snaps.find? fun p => p.opening == opening

/-- SNAPSHOT_REQUEST (R86, R87). -/
def execSnapshotRequest (chip : BitVec 12) (id : BitVec 24) (opening : W64) (s : State) : Res :=
  if s.fw.state ≠ 1 then .next s
  else
    .next (match if s.answersSync then s.cur.snapshot opening else none with
      | some p => s.sendSync chip 4 id (streamBytes p.stream)
      | none => s.sendSync chip 5 id (padTo 256 []))

/-- Whether a stream passes its checks (R87): its header, count, SHA-384 and digest. -/
def snapGood (p : SnapStream) : Bool :=
  p.magic == 0x5046594E && p.version == 1 && p.count.toNat == p.rows.length && p.hash == snapSum p
    && p.digest == digestOf (p.rows.filter fun r => r.table != 7)

/-- n bytes of a row, as a number. -/
def rowNum (r : RowRec) (off n : Nat) : Nat := leNat ((r.bytes.drop off).take n)

/-- A field of a row, as a word. -/
def rowWord (r : RowRec) (w off n : Nat) : BitVec w := BitVec.ofNat w (rowNum r off n)

/-- A chip state from its code. -/
def chipStateOf (n : Nat) : ChipState := ([.absent, .joining, .live, .expelled, .lost] : List ChipState).getD n .absent

/-- A grid state from its code. -/
def gridStateOf (n : Nat) : GridState := ([.free, .queued, .placed, .done] : List GridState).getD n .free

/-- A chip row from its bytes (06 R98). -/
def chipRowOf (r : RowRec) : ChipRow :=
  { state := chipStateOf (rowNum r 0 1), dieMap := rowWord r 8 1 1, capacity := rowWord r 32 4 4, free := rowWord r 32 8 4 }

/-- A queue row from its bytes. -/
def queueRowOf (r : RowRec) : QueueRow :=
  { pass := rowWord r 64 0 8, stride := rowWord r 32 8 4, tickets := rowWord r 16 0xC 2, skips := rowWord r 8 0xE 1,
    reservation := (rowNum r 0xF 1).testBit 0, head := rowWord r 16 0x10 2, tail := rowWord r 16 0x12 2, ctx := rowWord r 20 0x14 4,
    length := rowWord r 32 0x18 4 }

/-- A grid row from its bytes (06 R99). -/
def gridRowOf (r : RowRec) : GridRow :=
  let f := rowNum r 1 1
  { state := gridStateOf (rowNum r 0 1), restartable := f.testBit 0, gated := f.testBit 1, graphFlag := f.testBit 2,
    faulted := f.testBit 3, queue := rowWord r 10 2 2, ctx := rowWord r 20 4 4, kernel := rowWord r 64 8 8, argument := rowWord r 64 0x10 8,
    signal := rowWord r 64 0x18 8, blocks := rowWord r 32 0x20 4, width := rowWord r 8 0x24 1, height := rowWord r 8 0x25 1,
    originX := rowWord r 8 0x26 1, originY := rowWord r 8 0x27 1, quota := rowWord r 16 0x28 2, owed := rowWord r 12 0x2A 2,
    groups := rowWord r 32 0x2C 4, hostTag := rowWord r 32 0x30 4, predecessor := rowWord r 16 0x34 2, next := rowWord r 16 0x36 2,
    outstanding := rowWord r 16 0x38 2, unreleased := rowWord r 16 0x3A 2, node := rowWord r 32 0x3C 4 }

/-- A placement row from its bytes (06 R100). -/
def placeRowOf (r : RowRec) : PlaceRow :=
  let f := rowNum r 0xE 1
  { first := rowWord r 32 0 4, count := rowWord r 32 4 4, parked := rowWord r 32 8 4, enacting := rowWord r 12 0xC 2, placed := f.testBit 0,
    finished := f.testBit 1, released := f.testBit 2, unplaced := f.testBit 3, replaced := f.testBit 4 }

/-- A graph instance row from its bytes (06 R111). -/
def instRowOf (r : RowRec) : InstRow :=
  { ctx := rowWord r 20 0 4, nodes := rowWord r 16 4 2, unfinished := rowWord r 16 6 2, object := rowWord r 64 8 8, first := rowWord r 32 0x10 4,
    inUse := (rowNum r 0x14 1).testBit 0, faulted := (rowNum r 0x14 1).testBit 1 }

/-- A graph counter row from its bytes. -/
def ctrRowOf (r : RowRec) : CtrRow :=
  { counter := rowWord r 16 0 2, state := rowWord r 8 2 1, owed := rowWord r 12 4 2, grid := rowWord r 16 6 2 }

/-- A sounding row from its bytes. -/
def soundRowOf (r : RowRec) : SoundRow :=
  { opening := rowWord r 64 0 8, kind := rowWord r 8 8 1, digest := rowWord r 128 0x10 16 }

/-- Put one row record in the tables. -/
def Tables.putRow (t : Tables) (r : RowRec) : Tables :=
  match r.table with
  | 0 => { t with chips := Sparse.set {} t.chips r.index (chipRowOf r) }
  | 1 => { t with queues := Sparse.set {} t.queues r.index (queueRowOf r) }
  | 2 => { t with grids := Sparse.set {} t.grids r.index (gridRowOf r) }
  | 3 => { t with places := Sparse.set {} t.places r.index (placeRowOf r) }
  | 4 => { t with insts := Sparse.set {} t.insts r.index (instRowOf r) }
  | 5 => { t with ctrs := Sparse.set {} t.ctrs r.index (ctrRowOf r) }
  | 6 => { t with vtime := rowWord r 64 0 8, split := rowNum r 8 1 == 1, formed := rowNum r 9 1 == 1 }
  | 7 => { t with sounds := Sparse.set {} t.sounds r.index (soundRowOf r) }
  | _ => t

/-- The tables that a stream holds. -/
def tablesOf (rows : List RowRec) : Tables := rows.foldl Tables.putRow {}

/-- The round that stood open at a snapshot's opening: its reports and its close come in the tail (R94 item 3). -/
def snapRound (p : SnapStream) (now : W64) : Round :=
  let inState (st : ChipState) : List (BitVec 12) :=
    ((tablesOf p.rows).chips.filter fun e => e.2.state == st).map fun e => BitVec.ofNat 12 e.1
  { opening := p.opening, live := inState .live, joining := inState .joining, since := now, closePosted := false }

/-- The split round of a snapshot with split 1 (R93): the latest round before its opening that the sounding table names, with the
reports there; of the chips JOINING now those that reported then (DEDUCED, log 31). -/
def snapSplit (p : SnapStream) (now : W64) : Option Round :=
  let t := tablesOf p.rows
  let sent := t.sounds.filter fun e => e.2.kind == 1 && decide (e.2.opening.toNat < p.opening.toNat)
  let o : W64 := sent.foldl (fun (o : W64) e => if o.toNat < e.2.opening.toNat then e.2.opening else o) 0
  let reports := (sent.filter fun e => e.2.opening == o).map fun e => (BitVec.ofNat 12 e.1, e.2.digest)
  let inState (st : ChipState) : List (BitVec 12) := (t.chips.filter fun e => e.2.state == st).map fun e => BitVec.ofNat 12 e.1
  if t.split then
    some { opening := o, live := inState .live, joining := (inState .joining).filter fun c => reports.any fun e => e.1 == c,
           reports := reports, since := now, closePosted := true }
  else none

/-- SNAPSHOT_DATA (R87, R94): a good stream gives the tables, the parameters, the round open at it, the split round and the next
sequence; the chip that gave it is asked for the tail. Of the log and of the snapshots kept, what is not newer stays. -/
def execSnapshotData (chip : BitVec 12) (id : BitVec 24) (stream : SnapStream) (s : State) : Res :=
  match s.answered chip id true with
  | none => .next s
  | some _ =>
    let taken : State := { s with
      conf := tablesOf stream.rows
      cur := { s.cur with
        params := some (paramsOf stream.params), next := stream.opening + 1
        log := s.cur.log.filter fun r => decide (r.seq.toNat ≤ stream.opening.toNat)
        snaps := s.cur.snaps.filter fun p => decide (p.opening.toNat < stream.opening.toNat)
        round := some (snapRound stream s.now), deferred := false, splitRound := snapSplit stream s.now, splitSnap := none
        transfer := none, source := chip
        pendingSnap := some { opening := stream.opening, digest := stream.digest, params := paramsOf stream.params, tables := tablesOf stream.rows }
        opening := stream.opening, stage := .tail
        rejoinHold := s.cur.rejoinHold.filter fun r => decide (stream.opening.toNat < r.seq.toNat) } }
    .next (if !snapGood stream then s.nextCandidate else taken.remapped s.conf)

/-- NOT_HELD (R85, R87): the next candidate is asked. -/
def execNotHeld (chip : BitVec 12) (id : BitVec 24) (s : State) : Res :=
  .next (if (s.answered chip id true).isSome || (s.answered chip id false).isSome then s.nextCandidate else s)

/-- TRANSFER_TIMEOUT (R87): a stream whose next packet is late is discarded. -/
def execTransferTimeout (s : State) : Res :=
  match s.cur.transfer with
  | none => .next s
  | some t => .next (if s.streaming t && s.silent t then s.nextCandidate else s)

/-- CANDIDATE_SILENCE (R85, R94): a candidate that sent nothing is abandoned. -/
def execCandidateSilence (s : State) : Res :=
  match s.cur.transfer with
  | none => .next s
  | some t => .next (if !s.streaming t && s.silent t then s.nextCandidate else s)

/-! ### Timers of soundings (05 R89, R91) -/

/-- SOUNDWAIT_EXPIRY (R89): a round still open posts CLOSE once. -/
def execSoundwaitExpiry (s : State) : Res :=
  match s.cur.round, s.cur.params with
  | some q, some p =>
    .next (if s.applies && s.speaks && s.ownState == .live && !q.closePosted && decide (p.wait ≤ (s.now - q.since).toNat) then
        ({ s with cur := { s.cur with round := some { q with closePosted := true } } } : State).post
          (s.record 0x14 0 (soundPayload q.opening 1 0))
      else s)
  | _, _ => .next s

/-- EXPELWAIT_EXPIRY (R91): a majority chip that has not applied the EXPEL posts it. -/
def execExpelwaitExpiry (chip : BitVec 12) (s : State) : Res :=
  match s.cur.expels.find? (fun e => e.1 == chip), s.cur.params with
  | some e, some p =>
    .next (if s.applies && s.ownState == .live && decide (p.expel ≤ (s.now - e.2.2).toNat) then
        ({ s with cur := { s.cur with expels := s.cur.expels.filter fun x => x != e } } : State).post
          (s.record 0x12 0 (chip.toNat + 2 ^ 64 * e.2.1.toNat))
      else s)
  | _, _ => .next s

/-! ### Rejoin (05 R94) -/

/-- Whether a chip that is not in a rejoin may begin one: it has stopped, is EXPELLED or LOST, or restarts
(DEDUCED, log 31). -/
def State.mayRejoin (s : State) : Bool :=
  s.cur.stopped || s.ownState == .expelled || s.ownState == .lost || (s.ownState == .absent && s.cur.log == [] && s.cur.queue == [])

/-- The ADMIT of a rejoining chip, with the snapshot sequence. -/
def State.admitRec (s : State) (p : PodParams) (opening : W64) : CurRec :=
  s.record 0x11 0 (s.runMap.toNat + 2 ^ 32 * s.capacity + 2 ^ 64 * opening.toNat + 2 ^ 128 * p.word.toNat)

/-- The tail of a rejoin, from the chip that gave the snapshot, up to the first held record (DEDUCED, log 31). -/
def State.fetchRejoinTail (s : State) : State :=
  match s.cur.rejoinHold with
  | [] => s
  | r :: _ => if r.seq = s.cur.next then s.replay [] else s.askNext false s.cur.next (r.seq - 1) [s.cur.source]

/-- The end of a replay: ADMIT is posted once the chip is neither LIVE nor JOINING in its tables (DEDUCED, log 31). -/
def State.endReplay (s : State) : State :=
  match s.cur.params with
  | none => s
  | some p =>
    if s.ownState = .live ∨ s.ownState = .joining then s
    else
      let s : State := { s with cur := { s.cur with stage := .admitted } }
      s.post (s.admitRec p s.cur.opening)

/-- REJOIN (R94): the next step of the rejoin that is due. -/
def execRejoin (s : State) : Res :=
  .next (if s.fw.state ≠ 1 then s
    else match s.cur.stage with
      | .none => if s.mayRejoin then s.beginRejoin else s
      | .snapshot => match s.cur.transfer, s.cur.retryAt with
        | none, some t => if t.toNat ≤ s.now.toNat then s.beginRejoin else s
        | _, _ => s
      | .tail => if s.cur.transfer.isNone then s.fetchRejoinTail else s
      | .replay => if s.cur.queue = [] ∧ s.cur.hold = [] ∧ s.cur.fed then s.endReplay else s
      | .admitted => s)

/-- NOSNAPSHOT (R94): no candidate is left; the rejoin is tried again after 1,000,000 ticks. -/
def execNosnapshot (s : State) : Res :=
  .next (if s.fw.state = 1 ∧ s.cur.stage = .snapshot ∧ s.cur.transfer = none ∧ s.cur.retryAt = none then
      let s := s.fabricError 0x0502 []
      { s with cur := { s.cur with retryAt := some (s.now + 1000000) } }
    else s)

end Sys2Proof.Machine
end

