-- ==== Sys2Proof/Machine/Float.lean ====
section
/-! DEFINITION. Floating-point arithmetic: class 4 (16 R290-R292). -/

namespace Sys2Proof.Machine

/-- FADD (R290): one RoundTo in FPCR.RM. -/
def execFadd (y f : Bool) (d a b : Fld) (s : State) : Res :=
  s.fp3 y f d a b Group.rm fun t r x z => t.add r x z

/-- FADD.RN (R290): one RoundTo in RNE. -/
def execFaddRn (y f : Bool) (d a b : Fld) (s : State) : Res :=
  s.fp3 y f d a b Group.rn fun t r x z => t.add r x z

/-- FSUB (R290): one RoundTo in FPCR.RM. -/
def execFsub (y f : Bool) (d a b : Fld) (s : State) : Res :=
  s.fp3 y f d a b Group.rm fun t r x z => t.add r x z.negate

/-- FSUB.RN (R290): one RoundTo in RNE. -/
def execFsubRn (y f : Bool) (d a b : Fld) (s : State) : Res :=
  s.fp3 y f d a b Group.rn fun t r x z => t.add r x z.negate

/-- FMUL (R290): one RoundTo in FPCR.RM. -/
def execFmul (y f : Bool) (d a b : Fld) (s : State) : Res :=
  s.fp3 y f d a b Group.rm fun t r x z => t.mul r x z

/-- FMUL.RN (R290): one RoundTo in RNE. -/
def execFmulRn (y f : Bool) (d a b : Fld) (s : State) : Res :=
  s.fp3 y f d a b Group.rn fun t r x z => t.mul r x z

/-- FFMA (R290): RoundTo(a * b + d). -/
def execFfma (y f : Bool) (d a b : Fld) (s : State) : Res :=
  s.fpFma y f false d a b Group.rm

/-- FFMA.RN (R290): in RNE. -/
def execFfmaRn (y f : Bool) (d a b : Fld) (s : State) : Res :=
  s.fpFma y f false d a b Group.rn

/-- FFMS (R290): RoundTo(d - a * b). -/
def execFfms (y f : Bool) (d a b : Fld) (s : State) : Res :=
  s.fpFma y f true d a b Group.rm

/-- FMIN (R290): IEEE 754-2019 minimum. -/
def execFmin (y f : Bool) (d a b : Fld) (s : State) : Res :=
  s.fpLanes y f d [a, b] fun g l => (fmtW f).minMax true (g.val f a.toNat l) (g.val f b.toNat l)

/-- FMAX (R290): IEEE 754-2019 maximum. -/
def execFmax (y f : Bool) (d a b : Fld) (s : State) : Res :=
  s.fpLanes y f d [a, b] fun g l => (fmtW f).minMax false (g.val f a.toNat l) (g.val f b.toNat l)

/-- FABS (R290): the sign bit cleared. -/
def execFabs (y f : Bool) (d a : Fld) (s : State) : Res :=
  s.fpLanes y f d [a] fun g l => (g.val f a.toNat l % (fmtW f).signBit, 0)

/-- FNEG (R290): the sign bit inverted. -/
def execFneg (y f : Bool) (d a : Fld) (s : State) : Res :=
  s.fpLanes y f d [a] fun g l =>
    ((g.val f a.toNat l + (fmtW f).signBit) % (2 * (fmtW f).signBit), 0)

/-- FRND (R290): rounded to an integral value in FPCR.RM, never inexact. -/
def execFrnd (y f : Bool) (d a : Fld) (s : State) : Res :=
  s.fpLanes y f d [a] fun g l => (fmtW f).rint g.rm (g.val f a.toNat l)

/-- FCEQ (R292): a compare into a triple, no flag. -/
def execFceq (y f : Bool) (d a b : Fld) (s : State) : Res :=
  s.fpCompare y f d a b fun x z => x.eqv z

/-- FCLT (R292): a compare into a triple, no flag. -/
def execFclt (y f : Bool) (d a b : Fld) (s : State) : Res :=
  s.fpCompare y f d a b fun x z => x.lt z

/-- FCLE (R292): a compare into a triple, no flag. -/
def execFcle (y f : Bool) (d a b : Fld) (s : State) : Res :=
  s.fpCompare y f d a b fun x z => x.le z

/-- FCUN (R292): a compare into a triple, no flag. -/
def execFcun (y f : Bool) (d a b : Fld) (s : State) : Res :=
  s.fpCompare y f d a b fun x z => x.isNan || z.isNan

/-- FDIV (R291): correctly rounded, variable-latency. -/
def execFdiv (y f : Bool) (d a b : Fld) (s : State) : Res :=
  s.fpPend y f d [a, b] fun g l =>
    (fmtW f).div g.rm ((fmtW f).unpack (g.val f a.toNat l)) ((fmtW f).unpack (g.val f b.toNat l))

/-- FSQRT (R291): correctly rounded, variable-latency. -/
def execFsqrt (y f : Bool) (d a : Fld) (s : State) : Res :=
  s.fpPend y f d [a] fun g l => (fmtW f).sqrt g.rm ((fmtW f).unpack (g.val f a.toNat l))

end Sys2Proof.Machine
end

