-- ==== Sys2Proof/Machine/Lane.lean ====
section
/-! DEFINITION. Lane operations: shuffles, broadcasts, reductions and scans (16 R299-R302). -/

namespace Sys2Proof.Machine

/-- The value that physical lane l takes from visible lane src: its own value when src is not in Active() (16 R299). -/
def Group.take (g : Group) (sl : List Nat) (a src l : Nat) : W32 :=
  if decide (src < g.visible) && (g.activeBits sl).getLsbD src then
    g.rv a (g.physLane src + (if g.prot then l % 2 else 0))
  else g.rv a l

/-- A shuffle of sub-groups of n visible lanes; j gives the index for a lane and its index in the sub-group. Results of
sub-groups wider than 32 are pending (08 R136). -/
def State.shuffle (s : State) (y : Bool) (n : Nat) (d a : Fld) (ok : Group → Bool) (j : Group → Nat → Nat → Nat) : Res :=
  s.issue fun g => s.need g (g.inWindow d.toNat && g.inWindow a.toNat && ok g && decide (n ≤ g.visible)) (
    let sl := s.cursor.slices
    let vals := g.laneWrites sl d.toNat fun l =>
      let v := g.visLane l
      g.take sl a.toNat (n * (v / n) + j g l (v % n)) l
    s.retire y (if n ≤ 32 then g.writeV vals else g.addPending { slices := sl, vecs := vals }))

/-- SHFL.IDX (16 R300). -/
def State.shflIdx (s : State) (y : Bool) (n : Nat) (d a b : Fld) : Res :=
  s.shuffle y n d a (fun g => g.inWindow b.toNat) fun g l _ => (g.rv b.toNat l).toNat % n
/-- SHFL.XOR (16 R300). -/
def State.shflXor (s : State) (y : Bool) (n : Nat) (d a b : Fld) : Res :=
  s.shuffle y n d a (fun _ => true) fun g _ i => (BitVec.ofNat 64 i ^^^ g.rs b.toNat).toNat % n
/-- SHFL.UP (16 R300). -/
def State.shflUp (s : State) (y : Bool) (n : Nat) (d a b : Fld) : Res :=
  s.shuffle y n d a (fun _ => true) fun g _ i => (i + n - (g.rs b.toNat).toNat % n) % n
/-- SHFL.DN (16 R300). -/
def State.shflDn (s : State) (y : Bool) (n : Nat) (d a b : Fld) : Res :=
  s.shuffle y n d a (fun _ => true) fun g _ i => (i + (g.rs b.toNat).toNat % n) % n
/-- VBCAST (16 R300). -/
def State.vbcast (s : State) (y : Bool) (n : Nat) (d a b : Fld) : Res :=
  s.shuffle y n d a (fun _ => true) fun g _ _ => (g.rs b.toNat).toNat % n

/-- Op of a reduction (16 R302): operation 0 ADD, 1 MIN, 2 MAX, 3 AND, 4 OR, 5 XOR; type 0 I32, 1 N32, 2 F32. -/
def redOp (rm : RMode) (o t : Nat) (r x : W32) : W32 × BitVec 6 :=
  let fp (p : Nat × BitVec 6) : W32 × BitVec 6 := (BitVec.ofNat 32 p.1, p.2)
  match o with
  | 0 => if t = 2 then fp (fF32.add rm (fF32.unpack r.toNat) (fF32.unpack x.toNat)) else (r + x, 0)
  | 1 =>
    if t = 2 then fp (fF32.minMax true r.toNat x.toNat)
    else (if (if t = 0 then r.slt x else r.ult x) then r else x, 0)
  | 2 =>
    if t = 2 then fp (fF32.minMax false r.toNat x.toNat)
    else (if (if t = 0 then r.slt x else r.ult x) then x else r, 0)
  | 3 => (r &&& x, 0)
  | 4 => (r ||| x, 0)
  | _ => (r ^^^ x, 0)

/-- The first value of a reduction: for F32 a NaN becomes the default NaN, a signalling NaN raising invalid. -/
def redFirst (t : Nat) (x : W32) : W32 × BitVec 6 :=
  if t = 2 then
    match fF32.unpack x.toNat with
    | .nan sg => (0x7FC00000#32, flIf sg flInvalid)
    | _ => (x, 0)
  else (x, 0)

/-- Fold lanes in ascending order: the running values, newest first. -/
def redFold (f : W32 → W32 → W32 × BitVec 6) : List (W32 × BitVec 6) → List W32 → List (W32 × BitVec 6)
  | acc, [] => acc
  | acc, x :: xs =>
    let r := f (acc.headD (0, 0)).1 x
    redFold f ((r.1, (acc.headD (0, 0)).2 ||| r.2) :: acc) xs

/-- The writes and flags of one sub-group in one copy. -/
def Group.reduceSet (g : Group) (scan : Bool) (o t d a : Nat) (lanes : List Nat) : List (Nat × W32) × BitVec 6 :=
  match lanes with
  | [] => ([], 0)
  | l0 :: rest =>
    let acc := redFold (redOp g.rm o t) [redFirst t (g.rv a l0)] (rest.map fun l => g.rv a l)
    let last := acc.headD (0, 0)
    if scan then ((lanes.zip acc.reverse).map fun e => (g.vkey d e.1, e.2.1), last.2)
    else (lanes.map fun l => (g.vkey d l, last.1), last.2)

/-- VRED and VSCAN (16 R302) over sub-groups of n visible lanes. -/
def State.reduce (s : State) (y scan : Bool) (n : Nat) (d a : Fld) (o : BitVec 3) (t : BitVec 2) : Res :=
  s.issue fun g => s.need g (g.inWindow d.toNat && g.inWindow a.toNat && decide (n ≤ g.visible)) (
    let sl := s.cursor.slices
    let parts := (List.range ((g.visible + n - 1) / n)).flatMap fun k => g.copies.map fun p =>
      let vis := (List.range n).filterMap fun i => if g.isActive sl (n * k + i) then some (n * k + i) else none
      g.reduceSet scan o.toNat t.toNat d.toNat a.toNat (vis.map fun l => g.physLane l + p)
    let vals := parts.flatMap Prod.fst
    let fl := flAll (parts.map Prod.snd)
    s.retire y (if n ≤ 32 then (g.writeV vals).orFlags fl else g.addPending { slices := sl, vecs := vals, flags := fl }))

/-- shflIdx in sub-groups of 4 (R300). -/
def execShflIdxW4 (y : Bool) (d a b : Fld) (s : State) : Res :=
  s.shflIdx y 4 d a b

/-- shflXor in sub-groups of 4 (R300). -/
def execShflXorW4 (y : Bool) (d a b : Fld) (s : State) : Res :=
  s.shflXor y 4 d a b

/-- shflUp in sub-groups of 4 (R300). -/
def execShflUpW4 (y : Bool) (d a b : Fld) (s : State) : Res :=
  s.shflUp y 4 d a b

/-- shflDn in sub-groups of 4 (R300). -/
def execShflDnW4 (y : Bool) (d a b : Fld) (s : State) : Res :=
  s.shflDn y 4 d a b

/-- vbcast in sub-groups of 4 (R300). -/
def execVbcastW4 (y : Bool) (d a b : Fld) (s : State) : Res :=
  s.vbcast y 4 d a b

/-- vred in sub-groups of 4 (R302). -/
def execVredW4 (y : Bool) (d a : Fld) (o : BitVec 3) (t : BitVec 2) (s : State) : Res :=
  s.reduce y false 4 d a o t

/-- vscan in sub-groups of 4 (R302). -/
def execVscanW4 (y : Bool) (d a : Fld) (o : BitVec 3) (t : BitVec 2) (s : State) : Res :=
  s.reduce y true 4 d a o t

/-- shflIdx in sub-groups of 8 (R300). -/
def execShflIdxW8 (y : Bool) (d a b : Fld) (s : State) : Res :=
  s.shflIdx y 8 d a b

/-- shflXor in sub-groups of 8 (R300). -/
def execShflXorW8 (y : Bool) (d a b : Fld) (s : State) : Res :=
  s.shflXor y 8 d a b

/-- shflUp in sub-groups of 8 (R300). -/
def execShflUpW8 (y : Bool) (d a b : Fld) (s : State) : Res :=
  s.shflUp y 8 d a b

/-- shflDn in sub-groups of 8 (R300). -/
def execShflDnW8 (y : Bool) (d a b : Fld) (s : State) : Res :=
  s.shflDn y 8 d a b

/-- vbcast in sub-groups of 8 (R300). -/
def execVbcastW8 (y : Bool) (d a b : Fld) (s : State) : Res :=
  s.vbcast y 8 d a b

/-- vred in sub-groups of 8 (R302). -/
def execVredW8 (y : Bool) (d a : Fld) (o : BitVec 3) (t : BitVec 2) (s : State) : Res :=
  s.reduce y false 8 d a o t

/-- vscan in sub-groups of 8 (R302). -/
def execVscanW8 (y : Bool) (d a : Fld) (o : BitVec 3) (t : BitVec 2) (s : State) : Res :=
  s.reduce y true 8 d a o t

/-- shflIdx in sub-groups of 16 (R300). -/
def execShflIdxW16 (y : Bool) (d a b : Fld) (s : State) : Res :=
  s.shflIdx y 16 d a b

/-- shflXor in sub-groups of 16 (R300). -/
def execShflXorW16 (y : Bool) (d a b : Fld) (s : State) : Res :=
  s.shflXor y 16 d a b

/-- shflUp in sub-groups of 16 (R300). -/
def execShflUpW16 (y : Bool) (d a b : Fld) (s : State) : Res :=
  s.shflUp y 16 d a b

/-- shflDn in sub-groups of 16 (R300). -/
def execShflDnW16 (y : Bool) (d a b : Fld) (s : State) : Res :=
  s.shflDn y 16 d a b

/-- vbcast in sub-groups of 16 (R300). -/
def execVbcastW16 (y : Bool) (d a b : Fld) (s : State) : Res :=
  s.vbcast y 16 d a b

/-- vred in sub-groups of 16 (R302). -/
def execVredW16 (y : Bool) (d a : Fld) (o : BitVec 3) (t : BitVec 2) (s : State) : Res :=
  s.reduce y false 16 d a o t

/-- vscan in sub-groups of 16 (R302). -/
def execVscanW16 (y : Bool) (d a : Fld) (o : BitVec 3) (t : BitVec 2) (s : State) : Res :=
  s.reduce y true 16 d a o t

/-- shflIdx in sub-groups of 32 (R300). -/
def execShflIdxW32 (y : Bool) (d a b : Fld) (s : State) : Res :=
  s.shflIdx y 32 d a b

/-- shflXor in sub-groups of 32 (R300). -/
def execShflXorW32 (y : Bool) (d a b : Fld) (s : State) : Res :=
  s.shflXor y 32 d a b

/-- shflUp in sub-groups of 32 (R300). -/
def execShflUpW32 (y : Bool) (d a b : Fld) (s : State) : Res :=
  s.shflUp y 32 d a b

/-- shflDn in sub-groups of 32 (R300). -/
def execShflDnW32 (y : Bool) (d a b : Fld) (s : State) : Res :=
  s.shflDn y 32 d a b

/-- vbcast in sub-groups of 32 (R300). -/
def execVbcastW32 (y : Bool) (d a b : Fld) (s : State) : Res :=
  s.vbcast y 32 d a b

/-- vred in sub-groups of 32 (R302). -/
def execVredW32 (y : Bool) (d a : Fld) (o : BitVec 3) (t : BitVec 2) (s : State) : Res :=
  s.reduce y false 32 d a o t

/-- vscan in sub-groups of 32 (R302). -/
def execVscanW32 (y : Bool) (d a : Fld) (o : BitVec 3) (t : BitVec 2) (s : State) : Res :=
  s.reduce y true 32 d a o t

/-- shflIdx in sub-groups of 64 (R300). -/
def execShflIdxW64 (y : Bool) (d a b : Fld) (s : State) : Res :=
  s.shflIdx y 64 d a b

/-- shflXor in sub-groups of 64 (R300). -/
def execShflXorW64 (y : Bool) (d a b : Fld) (s : State) : Res :=
  s.shflXor y 64 d a b

/-- shflUp in sub-groups of 64 (R300). -/
def execShflUpW64 (y : Bool) (d a b : Fld) (s : State) : Res :=
  s.shflUp y 64 d a b

/-- shflDn in sub-groups of 64 (R300). -/
def execShflDnW64 (y : Bool) (d a b : Fld) (s : State) : Res :=
  s.shflDn y 64 d a b

/-- vbcast in sub-groups of 64 (R300). -/
def execVbcastW64 (y : Bool) (d a b : Fld) (s : State) : Res :=
  s.vbcast y 64 d a b

/-- vred in sub-groups of 64 (R302). -/
def execVredW64 (y : Bool) (d a : Fld) (o : BitVec 3) (t : BitVec 2) (s : State) : Res :=
  s.reduce y false 64 d a o t

/-- vscan in sub-groups of 64 (R302). -/
def execVscanW64 (y : Bool) (d a : Fld) (o : BitVec 3) (t : BitVec 2) (s : State) : Res :=
  s.reduce y true 64 d a o t

/-- shflIdx in sub-groups of 96 (R300). -/
def execShflIdxW96 (y : Bool) (d a b : Fld) (s : State) : Res :=
  s.shflIdx y 96 d a b

/-- shflXor in sub-groups of 96 (R300). -/
def execShflXorW96 (y : Bool) (d a b : Fld) (s : State) : Res :=
  s.shflXor y 96 d a b

/-- shflUp in sub-groups of 96 (R300). -/
def execShflUpW96 (y : Bool) (d a b : Fld) (s : State) : Res :=
  s.shflUp y 96 d a b

/-- shflDn in sub-groups of 96 (R300). -/
def execShflDnW96 (y : Bool) (d a b : Fld) (s : State) : Res :=
  s.shflDn y 96 d a b

/-- vbcast in sub-groups of 96 (R300). -/
def execVbcastW96 (y : Bool) (d a b : Fld) (s : State) : Res :=
  s.vbcast y 96 d a b

/-- vred in sub-groups of 96 (R302). -/
def execVredW96 (y : Bool) (d a : Fld) (o : BitVec 3) (t : BitVec 2) (s : State) : Res :=
  s.reduce y false 96 d a o t

/-- vscan in sub-groups of 96 (R302). -/
def execVscanW96 (y : Bool) (d a : Fld) (o : BitVec 3) (t : BitVec 2) (s : State) : Res :=
  s.reduce y true 96 d a o t

end Sys2Proof.Machine
end

