-- ==== Sys2Proof/Machine/Mailbox.lean ====
section
/-! DEFINITION. The mailbox (03 R65): attestation (R66, R67), firmware images (R59-R64), and the commands for contexts and
keys (04 R72, R73), erasure with its sweep and receipt (R76-R78), and the rebinding of a replaced key generation (R75). -/

namespace Sys2Proof.Machine

/-! ### Commands and the staging window -/

/-- Bytes of the staging window. -/
def State.staged (s : State) (off n : Nat) : List Byte := memBytes s.host.staging off n

/-- A little-endian number of the staging window. -/
def State.stagedNat (s : State) (off n : Nat) : Nat := leNat (s.staged off n)

/-- Write bytes to the staging window. -/
def State.stage (s : State) (off : Nat) (bs : List Byte) : State :=
  { s with host := { s.host with
      staging := Sparse.setAll 0 s.host.staging ((List.range bs.length).map (fun i => (off + i, bs.getD i 0))) } }

/-- The status of the mailbox. -/
def State.mailEnds (s : State) (status : Nat) : State := { s with fw := { s.fw with status := BitVec.ofNat 8 status } }

/-- Whether a host access writes MBCMD with a command: one aligned write of 8 bytes with every byte enabled; any other is dropped
(DESIGN CHOICE, log 79). -/
def State.mailCommand (s : State) (h : HostAccess) (code : Nat) : Bool :=
  s.hostReaches h && h.writes8 0x40000 && bits h.value 63 56 == code

/-- Run a mailbox command (R65): while one is busy another is discarded with status 4; reserved bits give status 1. The
argument of the command and its effect with a status follow (DESIGN CHOICE, log 79). -/
def State.mail (s : State) (h : HostAccess) (code : Nat) (k : Nat → State × Nat) : Res :=
  .next (if !s.mailCommand h code then s
    else if s.fw.busy then s.mailEnds 4
    else if bits h.value 47 0 ≠ 0 then s.mailEnds 1
    else
      let r := k (bits h.value 55 48)
      r.1.mailEnds r.2)

/-- Run a mailbox command that firmware serves (04 R73): elsewhere status 3. -/
def State.fwMail (s : State) (h : HostAccess) (code : Nat) (k : State × Nat) : Res :=
  s.mail h code fun arg => if s.fw.state ≠ 1 then (s, 3) else if arg ≠ 0 then (s, 1) else k

/-- The die of lowest number that runs. -/
def State.firstDie (s : State) : Nat := ((List.range 4).find? s.dieRuns).getD 0

/-! ### Identity (03 R66, R67) -/

/-- The bytes 0x000-0x0FF of the attestation report. In recovery no firmware runs, and its version reads zero like the digest
of its image (DESIGN CHOICE, log 70). The reporting die is the lowest-numbered running one (DESIGN CHOICE, log 80). -/
def State.reportHead (s : State) : List Byte :=
  let ran := s.fw.state == 1
  leBytes 4 0x5246594E ++ leBytes 4 1 ++ s.staged 0 32 ++ leBytes 48 (deviceDigest s.pkg.seed).toNat
    ++ leBytes 48 (if ran then s.fw.imageHash.toNat else 0) ++ leBytes 4 (if ran then s.fw.version.toNat else 0)
    ++ leBytes 4 s.pkg.minVersion.toNat ++ leBytes 8 (if s.pkg.cfgDefault then 0 else s.pkg.config.counter.toNat)
    ++ leBytes 48 (if s.pkg.cfgDefault then 0 else s.pkg.config.digest.toNat) ++ leBytes 8 s.bootStatus.toNat
    ++ leBytes 8 (s.tickOf s.firstDie).toNat ++ List.replicate 40 0

/-- ATTEST (R65, R67). An argument that is not zero is ignored, as the spec gives the command none (DESIGN CHOICE, log 79). -/
def execAttest (h : HostAccess) (s : State) : Res :=
  s.mail h 0x01 fun _ => if s.fw.state = 0 then (s, 3) else (s.stage 0x1000 (withSignatures s.pkg.seed s.reportHead), 0)

/-- KEMKEY (04 R72, R73). -/
def execKemkey (h : HostAccess) (s : State) : Res :=
  s.fwMail h 0x10 (s.stage 0x1000 (withSignatures s.pkg.seed (encapsKey s.pkg.seed)), 0)

/-! ### Firmware images (03 R64, R65) -/

/-- The state in which the boot ROM has ended after a warm reset, but for the firmware image: self-test finds what it found
before, the loaded record applies, and the host modules that carried traffic train again. -/
def State.rebooted (s : State) : State :=
  let failed := (s.pkg.failed.filter fun e => e.2).map fun e => (e.1 / 41, e.1 % 41)
  let t := (s.warmed.selfTest failed).takeConfig failed (if s.pkg.cfgDefault then none else some s.pkg.config)
  let t := { t with pkg := { t.pkg with warm := false }, fw := { t.fw with slotA := s.fw.slotA, slotB := s.fw.slotB } }
  t.startUnits s.pkg.trained

/-- LOADRUN (R64, R65): in recovery, the staged image is verified and runs as after a warm reset, with running image 3. With
no die to run it the command fails (DESIGN CHOICE, log 96). An argument that is not zero is ignored (DESIGN CHOICE, log 79). -/
def execLoadrun (h : HostAccess) (s : State) : Res :=
  s.mail h 0x02 fun _ =>
    if s.fw.state ≠ 2 then (s, 3)
    else if verifyImage s.host.staging 0 s.pkg.minVersion ≠ 0 ∨ s.rebooted.pkg.running = 0 then (s, 1)
    else (s.rebooted.runImage s.host.staging 0 3, 0)

/-- The staged image is written to a slot of the boot store, whole (DESIGN CHOICE, log 70). -/
def State.writeSlot (s : State) (slot : Nat) : State :=
  let base := slotBase slot
  let total := 0x280 + s.stagedNat 8 8 + slhBytes
  let part := s.host.staging.filter fun e => decide (e.1 < total)
  let moved := part.map (fun e => (base + e.1, e.2))
  let store := Sparse.setAll 0 (Sparse.clearRange s.fw.store base (base + 0x4000000)) moved
  { s with fw := { s.fw with store := store }, outbox := s.outbox ++ [.bootStore slot] }

/-- UPDATE (R65, R54 bit 5). -/
def execUpdate (h : HostAccess) (s : State) : Res :=
  s.mail h 0x03 fun slot =>
    if 2 ≤ slot then (s, 1)
    else if s.fw.state = 0 then (s, 3)
    else if s.fw.state = 1 ∧ s.anyAssisted 5 then (s, 2)
    else if s.fw.state = 1 ∧ s.fw.image.toNat = slot + 1 then (s, 3)
    else if verifyImage s.host.staging 0 s.pkg.minVersion ≠ 0 then (s, 1)
    else (s.writeSlot slot, 0)

/-- RAISEMIN (R65). An argument that is not zero is ignored (DESIGN CHOICE, log 79). -/
def execRaisemin (h : HostAccess) (s : State) : Res :=
  s.mail h 0x04 fun _ =>
    if s.fw.state ≠ 1 then (s, 3)
    else
      ({ s with pkg := { s.pkg with minVersion := if s.pkg.minVersion.ult s.fw.version then s.fw.version else s.pkg.minVersion } },
        0)

/-- The commands of R65 and 04 R73 (DESIGN CHOICE, log 79). -/
def mailCodes : List Nat := [0x01, 0x02, 0x03, 0x04, 0x10, 0x11, 0x12, 0x13, 0x14, 0x15, 0x16, 0x17]

/-- BAD_COMMAND (R65): any other code completes with status 5. -/
def execBadCommand (h : HostAccess) (s : State) : Res :=
  let code := bits h.value 63 56
  .next (if mailCodes.contains code || !s.mailCommand h code then s else if s.fw.busy then s.mailEnds 4 else s.mailEnds 5)

/-! ### Contexts and keys (04 R68, R72, R73) -/

/-- Store a descriptor. -/
def State.putCtx (s : State) (n : BitVec 20) (d : Descriptor) : State :=
  { s with trust := { s.trust with ctxs := Sparse.set {} s.trust.ctxs n.toNat d } }

/-- The context that a staged operand names; none when a reserved bit is set or it is context 0 (DESIGN CHOICE, log 79). -/
def State.mailCtx (s : State) (off : Nat) : Option (BitVec 20) :=
  let n := s.stagedNat off 4
  if n = 0 ∨ 2 ^ 20 ≤ n then none else some (BitVec.ofNat 20 n)

/-- The root capability of a descriptor: its tag is implied (R68). -/
def State.stagedRoot (s : State) (off : Nat) : Cap := capOf (s.stagedNat off 16 + 2 ^ 128)

/-- Another capability of a descriptor: tagged, but for a field of zeros (DESIGN CHOICE, log 80). -/
def State.stagedCap (s : State) (off : Nat) : Cap := if s.stagedNat off 16 = 0 then {} else s.stagedRoot off

/-- CTXOPEN (R68, R69, R73). The queues are tested against the 1,024 there are, and not against the rows that Confluence assigns
to the context (DESIGN CHOICE, log 79). -/
def execCtxopen (h : HostAccess) (s : State) : Res :=
  s.fwMail h 0x11 (
    let control := BitVec.ofNat 64 (s.stagedNat 0 8)
    let n : BitVec 20 := control.setWidth 20
    let part := BitVec.ofNat 16 (s.stagedNat 0x78 2)
    let first := s.stagedNat 0x44 2
    let count := s.stagedNat 0x46 2
    if n = 0 ∨ bits control 59 20 ≠ 0 ∨ bits control 63 62 ≠ 0 ∨ s.stagedNat 0x7A 6 ≠ 0 ∨ count = 0 ∨ 1024 < first + count
        ∨ s.partitions.all (fun p => p.id != part) then (s, 1)
    else if (s.ctxOf n).state ≠ .free then (s, 3)
    else
      (s.putCtx n
        { state := .open, prot := control.getLsbD 61, hostSubmit := control.getLsbD 60, root := s.stagedRoot 0x10,
          grant := s.stagedCap 0x20, log := s.stagedCap 0x30, principal := BitVec.ofNat 32 (s.stagedNat 0x40 4),
          firstQueue := BitVec.ofNat 16 first, queueCount := BitVec.ofNat 16 count,
          measurement := BitVec.ofNat 384 (s.stagedNat 0x48 48), part := part }, 0))

/-- The lowest free key slot. -/
def State.freeSlotKey (s : State) : Option Nat :=
  ((List.range 4096).drop 1).find? fun n => (Sparse.get {} s.trust.slots n : KeySlot).ctx == 0

/-- Whether a key record may load a generation into a context's slot: one above the descriptor's, or the same when a warm
reset destroyed the slot (R72). -/
def KeySlot.mayLoad (k : KeySlot) (d : Descriptor) (gen : BitVec 8) : Bool :=
  decide (d.gen.toNat < gen.toNat) || (gen == d.gen && gen != 0 && d.slot != 0 && k.warmLost)

/-- KEYLOAD (R72, R73, R75): a key record is unwrapped and its keys are installed as the slot's current generation. A context in
another state and a chip without a free slot give status 3; without flag [0] the fabric key is zero
(DESIGN CHOICE, log 79). -/
def execKeyload (h : HostAccess) (s : State) : Res :=
  s.fwMail h 0x12 (
    let rec_ := s.staged 0 1712
    let gen := BitVec.ofNat 8 (s.stagedNat 8 1)
    let flags := s.stagedNat 0xA 2
    match s.mailCtx 4 with
    | none => (s, 1)
    | some n =>
      let d := s.ctxOf n
      let k := s.keySlot d.slot.toNat
      if d.state ≠ .open ∧ d.state ≠ .closed then (s, 3)
      else if d.slot ≠ 0 ∧ k.prev.isSome ∧ !k.destroyed then (s, 3)
      else if s.stagedNat 0 4 ≠ 0x4B46594E ∨ 2 ≤ flags ∨ s.stagedNat 0xC 4 ≠ 0 ∨ !k.mayLoad d gen
          ∨ (flags = 0 ∧ s.stagedNat 0x658 40 ≠ 0) then (s, 1)
      else
        match unwrapRecord s.pkg.seed rec_, (if d.slot = 0 then s.freeSlotKey else some d.slot.toNat) with
        | none, _ => (s, 1)
        | _, none => (s, 3)
        | some (key, fabric), some slot =>
          let s := s.loadSlot slot ((s.keySlot slot).install n gen key fabric (BitVec.ofNat 8 (s.stagedNat 9 1)))
          let s := s.putCtx n { d with
            slot := BitVec.ofNat 12 slot, gen := gen, fabricGen := BitVec.ofNat 8 (s.stagedNat 9 1),
            measurement := BitVec.ofNat 384 (s.stagedNat 0x680 48) }
          (if flags = 1 then s.queryAll else s, 0))

/-- A context that leaves OPEN takes its entries out of the arm table (19 R351). -/
def State.disarm (s : State) (n : BitVec 20) : State :=
  { s with mem := { s.mem with arms := s.mem.arms.filter fun e => e.2.all fun a => a.ctx != n } }

/-- CTXCLOSE (R73); of a context that is not OPEN status 3 (DESIGN CHOICE, log 79). -/
def execCtxclose (h : HostAccess) (s : State) : Res :=
  s.fwMail h 0x13 (
    match s.mailCtx 0 with
    | none => (s, 1)
    | some n =>
      let d := s.ctxOf n
      if d.state ≠ .open then (s, 3) else ((s.disarm n).putCtx n { d with state := .closed, hostSubmit := false }, 0))

/-! ### Erasure (04 R76-R78) -/

/-- Whether a context still has a queued grid or a group, saved ones included, on the chip. -/
def State.ctxInUse (s : State) (n : BitVec 20) : Bool :=
  s.conf.grids.any (fun e => e.2.ctx == n && e.2.state == .queued)
    || s.groups.any (fun e => match e.2 with
      | none => false
      | some g => g.ctx == n && decide (g.state ≠ .done) && decide (g.state ≠ .halted))

/-- Whether a stash line holds data of a frame bound to a key slot. -/
def State.lineBound (s : State) (b : Block) (slot : BitVec 12) (line : Nat) : Bool :=
  match b.regionAt (128 * line) with
  | none => false
  | some r =>
    r.cap.home == s.fab.self &&
      match s.walk (s.objEntry r.cap.object).root (r.objectOff (128 * line)) with
      | .leaf _ w => (s.frameMeta (leafFrame w)).bound && (s.frameMeta (leafFrame w)).slot == slot
      | _ => false

/-- Invalidate the stash lines of frames bound to a key slot, without write-back (R76 step 2). -/
def State.dropSlotLines (s : State) (slot : BitVec 12) : State :=
  s.disp.blocks.foldl (fun (s : State) e => match e.2 with
    | none => s
    | some b =>
      let lines := (b.lines.map Prod.fst).filter fun l => (Sparse.get none b.lines l).isSome && s.lineBound b slot l
      if lines = [] then s
      else s.putBlock e.1 { b with lines := Sparse.setAll none b.lines (lines.map fun l => (l, none)) }) s

/-- The frames bound to a key slot and not yet swept, ascending: in any mode, for the metadata of a frame in mode clear names
the slot of its first write too (R74). -/
def State.boundFrames (s : State) (slot : BitVec 12) : List Nat :=
  (s.trust.frames.filter fun e => e.2.bound && !e.2.swept && slot != 0 && e.2.slot == slot).map Prod.fst

/-- The sweep log of a context. -/
def State.sweepOf (s : State) (n : BitVec 20) : SweepLog := Sparse.get {} s.trust.sweeps n.toNat

/-- Store the sweep log of a context. -/
def State.putSweep (s : State) (n : BitVec 20) (w : SweepLog) : State :=
  { s with trust := { s.trust with sweeps := Sparse.set {} s.trust.sweeps n.toNat w } }

/-- List a frame in the sweep log of a context without writing it. -/
def State.listFrame (s : State) (n : BitVec 20) (f kind : Nat) : State :=
  let w := s.sweepOf n
  let m := { s.frameMeta f with swept := true }
  ({ s with trust := { s.trust with frames := Sparse.set {} s.trust.frames f m } } : State).putSweep n
    { w with entries := w.entries ++ [(kind, 0xFFFF, f, s.tickOf s.firstDie)] }

/-- The sweep of one frame (R77): zeros in mode clear, its metadata reset, and a read-back; the sectors that fail it after the
retry are listed with kind 2, and the frame is retired (DESIGN CHOICE, log 67). -/
def State.sweepFrame (s : State) (n : BitVec 20) (f : Nat) : State :=
  if s.isRetired f then s.listFrame n f 1
  else if !s.dieRuns (f % 128 / 32) then s.listFrame n f 3
  else
    let bad := (List.range 2048).filter fun k => Config.sectorFails s.free f k
    let s := ({ s with mem := s.mem.clearFrame f, trust := { s.trust with frames := Sparse.set {} s.trust.frames f {} } } : State).tellHost
      f (if frameTier f = 2 then List.range 65536 else [])
    let w := s.sweepOf n
    if bad = [] then s.putSweep n { w with zeroed := w.zeroed + 1 }
    else
      let s := s.putSweep n { w with entries := w.entries ++ bad.map fun k => (2, k, f, s.tickOf s.firstDie) }
      s.retireFrame f

/-- Sweep frames, and note the tick at which that ended (DESIGN CHOICE, log 67). -/
def State.sweepAll (s : State) (n : BitVec 20) (fs : List Nat) : State :=
  let s := fs.foldl (fun (s : State) f => s.sweepFrame n f) s
  s.putSweep n { s.sweepOf n with endTick := s.tickOf s.firstDie }

/-- Insert a list entry in order of frame number, then sector. -/
def insertEntry (e : Nat × Nat × Nat × W64) : List (Nat × Nat × Nat × W64) → List (Nat × Nat × Nat × W64)
  | [] => [e]
  | x :: xs =>
    let a := frameNumber e.2.2.1
    let b := frameNumber x.2.2.1
    if a < b ∨ (a = b ∧ e.2.1 ≤ x.2.1) then e :: x :: xs else x :: insertEntry e xs

/-- The bytes of a scrub receipt for a nonce and a list of entries (R78). -/
def State.receiptBytes (s : State) (n : BitVec 20) (nonce : List Byte) (entries : List (Nat × Nat × Nat × W64)) : List Byte :=
  let d := s.ctxOf n
  let w := s.sweepOf n
  let all := entries.foldr insertEntry []
  let kept := all.take 1048576
  let list := kept.flatMap fun e =>
    leBytes 1 e.1 ++ leBytes 1 (e.2.2.1 % 128 / 32) ++ leBytes 2 e.2.1 ++ leBytes 4 (frameNumber e.2.2.1) ++ leBytes 8 e.2.2.2.toNat
  let head := leBytes 4 0x5346594E ++ leBytes 4 1 ++ nonce ++ leBytes 48 (deviceDigest s.pkg.seed).toNat ++ leBytes 4 n.toNat
    ++ leBytes 2 d.slot.toNat ++ leBytes 1 d.gen.toNat ++ leBytes 1 (if all = [] then 0 else 1) ++ leBytes 8 d.eraseTick.toNat
    ++ leBytes 8 w.endTick.toNat ++ leBytes 8 w.zeroed ++ leBytes 4 kept.length
    ++ leBytes 4 (if 1048576 < all.length then 1 else 0) ++ sha384 list ++ List.replicate 80 0
  withSignatures s.pkg.seed head ++ list

/-- A receipt is written; without an entry of kind 4 the slot becomes free and the context FREE (DESIGN CHOICE, log 80). -/
def State.giveReceipt (s : State) (n : BitVec 20) (nonce : List Byte) : State :=
  let d := s.ctxOf n
  let missed := (s.boundFrames d.slot).map fun f => (4, 0xFFFF, f, s.tickOf s.firstDie)
  let s := s.stage 0x1000 (s.receiptBytes n nonce ((s.sweepOf n).entries ++ missed))
  if missed ≠ [] then s
  else
    let free := s.trust.frames.map fun e =>
      if e.2.swept && e.2.slot == d.slot then (e.1, ({} : FrameMeta)) else e
    { s with trust := { s.trust with
        ctxs := Sparse.set {} s.trust.ctxs n.toNat {}, slots := Sparse.set {} s.trust.slots d.slot.toNat {}
        sweeps := Sparse.set {} s.trust.sweeps n.toNat {}, frames := free.filter fun e => e.2 != {} } }

/-- ERASE (R76): the slot is destroyed, its lines are discarded and the context is ERASED. In hardware mode the command stays
busy for the sweep and the receipt. -/
def execErase (h : HostAccess) (s : State) : Res :=
  s.fwMail h 0x14 (
    match s.mailCtx 0 with
    | none => (s, 1)
    | some n =>
      let d := s.ctxOf n
      if d.state ≠ .closed ∨ s.ctxInUse n then (s, 3)
      else
        let nonce := s.staged 0x20 32
        let s := if d.slot = 0 then s else s.putSlot d.slot.toNat (s.keySlot d.slot.toNat).destroy
        let s := if d.slot = 0 then s else s.dropSlotLines d.slot
        let s := s.putCtx n { d with state := .erased, eraseTick := s.tickOf s.firstDie }
        let s := s.putSweep n { hosted := s.hostAssisted d.part 4 }
        if s.hostAssisted d.part 4 then (s, 0)
        else ({ s with fw := { s.fw with busy := true, cmd := some { code := 0x14, ctx := n, status := 0, hosted := false, nonce := nonce } } },
          0))

/-- Whether a context's scrub is host-assisted: an erasure keeps the mode under which it started (03 R56). -/
def State.scrubHosted (s : State) (n : BitVec 20) : Bool :=
  let d := s.ctxOf n
  if d.state = .erased then (s.sweepOf n).hosted else s.hostAssisted d.part 4

/-- SWEEP (R73, R77); of a context that is not ERASED status 3 (DESIGN CHOICE, log 79). -/
def execSweep (h : HostAccess) (s : State) : Res :=
  s.fwMail h 0x15 (
    match s.mailCtx 0 with
    | none => (s, 1)
    | some n =>
      let first := s.stagedNat 8 8
      let count := s.stagedNat 0x10 8
      let inRange (f : Nat) : Bool := decide (first ≤ frameNumber f) && decide (frameNumber f < first + count)
      if !s.scrubHosted n then (s, 2)
      else if (s.ctxOf n).state ≠ .erased then (s, 3)
      else if 2 ^ 31 < first + count then (s, 1)
      else (s.sweepAll n ((s.boundFrames (s.ctxOf n).slot).filter inRange), 0))

/-- RECEIPT (R73, R78); of a context that is not ERASED status 3 (DESIGN CHOICE, log 79). -/
def execReceipt (h : HostAccess) (s : State) : Res :=
  s.fwMail h 0x16 (
    match s.mailCtx 0 with
    | none => (s, 1)
    | some n =>
      if !s.scrubHosted n then (s, 2)
      else if (s.ctxOf n).state ≠ .erased then (s, 3)
      else (s.giveReceipt n (s.staged 0x20 32), 0))

/-! ### REKEY (04 R75) -/

/-- Whether a frame is bound to the previous generation of a slot. -/
def State.heldByPrev (s : State) (slot : Nat) (m : FrameMeta) : Bool :=
  m.bound && m.slot.toNat == slot && some m.gen == (s.keySlot slot).prev.map Prod.fst

/-- The pages whose frames are bound to the previous generation of a slot. -/
def State.oldPages (s : State) (slot : Nat) : List PageRef := s.pageRefs fun w => s.heldByPrev slot (s.frameMeta (leafFrame w))

/-- Frames of the previous generation that no page maps hold nothing that can be copied to a page: they are bound to the current
one where they lie, with counters that start again (DESIGN CHOICE, log 80). -/
def State.rebindLoose (s : State) (slot : Nat) : State :=
  let loose := (s.trust.frames.filter fun e => s.heldByPrev slot e.2).map Prod.fst
  let g := (s.keySlot slot).gen
  loose.foldl (fun (s : State) f => { s with
    trust := { s.trust with frames := Sparse.set {} s.trust.frames f { s.frameMeta f with gen := g } }
    mem := { s.mem with
      minors := Sparse.clearRange s.mem.minors (f * 2048) (f * 2048 + 2048)
      majors := Sparse.clearRange s.mem.majors (f * 16) (f * 16 + 16) } }) s

/-- REKEY (R73, R75): the migration of every frame bound to the previous generation begins. -/
def execRekey (h : HostAccess) (s : State) : Res :=
  s.fwMail h 0x17 (
    match s.mailCtx 0 with
    | none => (s, 1)
    | some n =>
      let d := s.ctxOf n
      if (d.state ≠ .open ∧ d.state ≠ .closed) ∨ d.slot = 0 ∨ (s.keySlot d.slot.toNat).prev.isNone
          ∨ (s.keySlot d.slot.toNat).destroyed then (s, 3)
      else
        let s := s.beginMoves (s.oldPages d.slot.toNat)
        ({ s with fw := { s.fw with busy := true, cmd := some { code := 0x17, ctx := n, status := 0, hosted := false, nonce := [] } } }, 0))

/-- The command that was busy is over. -/
def State.mailDone (s : State) (status : BitVec 8) : State :=
  { s with fw := { s.fw with busy := false, cmd := none, status := status } }

/-- One round of a rebinding: the migrations under way end, and the next begin. -/
def State.rekeyRound (s : State) (slot : Nat) : State :=
  let t := (s.endMoves (s.oldPages slot)).1
  t.beginMoves (t.oldPages slot)

/-- MAILBOX_COMPLETE (R65): a busy command goes on: an erasure sweeps and writes its receipt; a rebinding goes on until no frame
of the previous generation is left, whose keys are then gone. A command that was busy when recovery was entered goes on there
(DESIGN CHOICE, log 79). -/
def execMailboxComplete (s : State) : Res :=
  match s.fw.cmd with
  | none => .next s
  | some c =>
    let d := s.ctxOf c.ctx
    if c.code = 0x14 then
      let s := if d.slot = 0 then s else s.dropSlotLines d.slot
      .next (((s.sweepAll c.ctx (s.boundFrames d.slot)).giveReceipt c.ctx c.nonce).mailDone c.status)
    else
      let slot := d.slot.toNat
      let t := s.rekeyRound slot
      .next (if t.oldPages slot = [] then
          let u := t.rebindLoose slot
          (u.putSlot slot { u.keySlot slot with prev := none }).mailDone c.status
        else t)

end Sys2Proof.Machine
end

