-- ==== Sys2Proof/Machine/Mask.lean ====
section
/-! DEFINITION. Mask-triple operations (15 R265, R266) and votes (16 R301). -/

namespace Sys2Proof.Machine

/-- The lanes of the issuing gang's slices whose bit in a triple is set, as a 96-bit set (15 R265). -/
def Group.gangTriple (g : Group) (slices : List Nat) (k : Nat) : BitVec 96 := g.triple k &&& g.ownBits slices

/-- A mask-triple operation of two sources (15 R265, R266). -/
def State.mask3 (s : State) (y : Bool) (d a b : Fld) (f : BitVec 96 → BitVec 96 → BitVec 96) : Res :=
  s.plain y (fun _ => true) fun g sl => g.writeTriple sl d.toNat (f (g.triple a.toNat) (g.triple b.toNat))

/-- MAND (R266). -/
def execMand (y : Bool) (d a b : Fld) (s : State) : Res :=
  s.mask3 y d a b fun x z => x &&& z

/-- MOR (R266). -/
def execMor (y : Bool) (d a b : Fld) (s : State) : Res :=
  s.mask3 y d a b fun x z => x ||| z

/-- MXOR (R266). -/
def execMxor (y : Bool) (d a b : Fld) (s : State) : Res :=
  s.mask3 y d a b fun x z => x ^^^ z

/-- MANDN (R266). -/
def execMandn (y : Bool) (d a b : Fld) (s : State) : Res :=
  s.mask3 y d a b fun x z => x &&& ~~~z

/-- MNOT (R266). -/
def execMnot (y : Bool) (d a : Fld) (s : State) : Res :=
  s.mask3 y d a a fun x _ => ~~~x

/-- MMOV (R266). -/
def execMmov (y : Bool) (d a : Fld) (s : State) : Res :=
  s.mask3 y d a a fun x _ => x

/-- MPOPC (R266): the number of lanes of the gang whose bit is set. -/
def execMpopc (y : Bool) (d a : Fld) (s : State) : Res :=
  s.plain y (fun _ => true) fun g sl =>
    g.writeS sl d.toNat (BitVec.ofNat 64 (popCount (g.gangTriple sl a.toNat)))

/-- MFIRST (R266): the lowest lane of the gang whose bit is set, or all ones. -/
def execMfirst (y : Bool) (d a : Fld) (s : State) : Res :=
  s.plain y (fun _ => true) fun g sl =>
    let w := g.gangTriple sl a.toNat
    g.writeS sl d.toNat (if w = 0 then BitVec.allOnes 64 else BitVec.ofNat 64 (trailZeros w))

/-- MSWAP (R266): the bits of the gang in the two triples are exchanged. -/
def execMswap (y : Bool) (d a : Fld) (s : State) : Res :=
  s.plain y (fun _ => true) fun g sl =>
    (g.writeTriple sl d.toNat (g.triple a.toNat)).writeTriple sl a.toNat (g.triple d.toNat)

/-- MFROMV (R266): bit l := l in Active() and v_a[l] is not zero. -/
def execMfromv (y : Bool) (d a : Fld) (s : State) : Res :=
  s.compare y d (fun g => g.inWindow a.toNat) fun g l => g.rv a.toNat l != 0

/-- MTOV (R266): v_d[l] := bit l of a. -/
def execMtov (y : Bool) (d a : Fld) (s : State) : Res :=
  s.lanes1 y d (fun _ => true) fun g l =>
    if (g.triple a.toNat).getLsbD (g.visLane l) then 1 else 0

/-- VOTE.ANY (R301): 1 if some lane of Active() has its bit set. -/
def execVoteAny (y : Bool) (d a : Fld) (s : State) : Res :=
  s.plain y (fun _ => true) fun g sl =>
    g.writeS sl d.toNat (if g.triple a.toNat &&& g.activeBits sl = 0 then 0 else 1)

/-- VOTE.ALL (R301): 1 if every lane of Active() has its bit set. -/
def execVoteAll (y : Bool) (d a : Fld) (s : State) : Res :=
  s.plain y (fun _ => true) fun g sl =>
    g.writeS sl d.toNat (if ~~~(g.triple a.toNat) &&& g.activeBits sl = 0 then 1 else 0)

/-- VOTE.BAL (R301): the bits of Active() that are set, as a triple. -/
def execVoteBal (y : Bool) (d a : Fld) (s : State) : Res :=
  s.plain y (fun _ => true) fun g sl => g.writeTriple sl d.toNat (g.triple a.toNat &&& g.activeBits sl)

end Sys2Proof.Machine
end

