-- ==== Sys2Proof/Machine/Scalar.lean ====
section
/-! DEFINITION. The scalar instructions: classes 0 and 1 (15 R263, R264) and SLI, SLIS (14 R258). -/

namespace Sys2Proof.Machine

/-- The signed quotient rounded toward zero (R263): all ones for a zero divisor; -2^63 / -1 wraps. -/
def sdiv64 (a b : W64) : W64 := if b = 0 then BitVec.allOnes 64 else BitVec.ofInt 64 (Int.tdiv a.toInt b.toInt)

/-- The unsigned quotient (R263): all ones for a zero divisor. -/
def udiv64 (a b : W64) : W64 := if b = 0 then BitVec.allOnes 64 else BitVec.ofNat 64 (a.toNat / b.toNat)

/-- The count of a shift: b[5:0]. -/
def count6 (b : W64) : Nat := b.toNat % 64

/-- 1 or 0. -/
def flag64 (p : Bool) : W64 := if p then 1 else 0

/-- SADD (R263): a + b. -/
def execSadd (y : Bool) (d a b : Fld) (s : State) : Res :=
  s.scalar3 y d a b fun x z => x + z

/-- SSUB (R263): a - b. -/
def execSsub (y : Bool) (d a b : Fld) (s : State) : Res :=
  s.scalar3 y d a b fun x z => x - z

/-- SMUL (R263): low 64 bits of a * b. -/
def execSmul (y : Bool) (d a b : Fld) (s : State) : Res :=
  s.scalar3 y d a b fun x z => x * z

/-- SMULHI (R263): high 64 bits of the signed product. -/
def execSmulhI (y : Bool) (d a b : Fld) (s : State) : Res :=
  s.scalar3 y d a b fun x z => BitVec.ofInt 64 (x.toInt * z.toInt / 2 ^ 64)

/-- SMULHN (R263): high 64 bits of the unsigned product. -/
def execSmulhN (y : Bool) (d a b : Fld) (s : State) : Res :=
  s.scalar3 y d a b fun x z => BitVec.ofNat 64 (x.toNat * z.toNat / 2 ^ 64)

/-- SDIVI (R263): signed quotient. -/
def execSdivI (y : Bool) (d a b : Fld) (s : State) : Res :=
  s.scalar3 y d a b fun x z => sdiv64 x z

/-- SDIVN (R263): unsigned quotient. -/
def execSdivN (y : Bool) (d a b : Fld) (s : State) : Res :=
  s.scalar3 y d a b fun x z => udiv64 x z

/-- SREMI (R263): a - b * SDIV.I(a, b); a for b = 0. -/
def execSremI (y : Bool) (d a b : Fld) (s : State) : Res :=
  s.scalar3 y d a b fun x z => if z = 0 then x else x - z * sdiv64 x z

/-- SREMN (R263): unsigned remainder; a for b = 0. -/
def execSremN (y : Bool) (d a b : Fld) (s : State) : Res :=
  s.scalar3 y d a b fun x z => if z = 0 then x else BitVec.ofNat 64 (x.toNat % z.toNat)

/-- SAND (R263): a and b. -/
def execSand (y : Bool) (d a b : Fld) (s : State) : Res :=
  s.scalar3 y d a b fun x z => x &&& z

/-- SOR (R263): a or b. -/
def execSor (y : Bool) (d a b : Fld) (s : State) : Res :=
  s.scalar3 y d a b fun x z => x ||| z

/-- SXOR (R263): a xor b. -/
def execSxor (y : Bool) (d a b : Fld) (s : State) : Res :=
  s.scalar3 y d a b fun x z => x ^^^ z

/-- SANDN (R263): a and not b. -/
def execSandn (y : Bool) (d a b : Fld) (s : State) : Res :=
  s.scalar3 y d a b fun x z => x &&& ~~~z

/-- SSHL (R263): a << c. -/
def execSshl (y : Bool) (d a b : Fld) (s : State) : Res :=
  s.scalar3 y d a b fun x z => x <<< count6 z

/-- SSHRN (R263): a >> c, zero-filled. -/
def execSshrN (y : Bool) (d a b : Fld) (s : State) : Res :=
  s.scalar3 y d a b fun x z => x >>> count6 z

/-- SSHRI (R263): a >> c, sign-filled. -/
def execSshrI (y : Bool) (d a b : Fld) (s : State) : Res :=
  s.scalar3 y d a b fun x z => x.sshiftRight (count6 z)

/-- SROR (R263): a rotated right by c. -/
def execSror (y : Bool) (d a b : Fld) (s : State) : Res :=
  s.scalar3 y d a b fun x z => x.rotateRight (count6 z)

/-- SMINI (R263): signed lesser. -/
def execSminI (y : Bool) (d a b : Fld) (s : State) : Res :=
  s.scalar3 y d a b fun x z => if x.slt z then x else z

/-- SMINN (R263): unsigned lesser. -/
def execSminN (y : Bool) (d a b : Fld) (s : State) : Res :=
  s.scalar3 y d a b fun x z => if x.ult z then x else z

/-- SMAXI (R263): signed greater. -/
def execSmaxI (y : Bool) (d a b : Fld) (s : State) : Res :=
  s.scalar3 y d a b fun x z => if x.slt z then z else x

/-- SMAXN (R263): unsigned greater. -/
def execSmaxN (y : Bool) (d a b : Fld) (s : State) : Res :=
  s.scalar3 y d a b fun x z => if x.ult z then z else x

/-- SSEQ (R263): 1 if a = b. -/
def execSseq (y : Bool) (d a b : Fld) (s : State) : Res :=
  s.scalar3 y d a b fun x z => flag64 (x == z)

/-- SSNE (R263): 1 if a <> b. -/
def execSsne (y : Bool) (d a b : Fld) (s : State) : Res :=
  s.scalar3 y d a b fun x z => flag64 (x != z)

/-- SSLTI (R263): 1 if a < b, signed. -/
def execSsltI (y : Bool) (d a b : Fld) (s : State) : Res :=
  s.scalar3 y d a b fun x z => flag64 (x.slt z)

/-- SSLTN (R263): 1 if a < b, unsigned. -/
def execSsltN (y : Bool) (d a b : Fld) (s : State) : Res :=
  s.scalar3 y d a b fun x z => flag64 (x.ult z)

/-- SSLEI (R263): 1 if a <= b, signed. -/
def execSsleI (y : Bool) (d a b : Fld) (s : State) : Res :=
  s.scalar3 y d a b fun x z => flag64 (!z.slt x)

/-- SSLEN (R263): 1 if a <= b, unsigned. -/
def execSsleN (y : Bool) (d a b : Fld) (s : State) : Res :=
  s.scalar3 y d a b fun x z => flag64 (!z.ult x)

/-- SLEA4 (R263): a + 4b. -/
def execSlea4 (y : Bool) (d a b : Fld) (s : State) : Res :=
  s.scalar3 y d a b fun x z => x + 4 * z

/-- SLEA8 (R263): a + 8b. -/
def execSlea8 (y : Bool) (d a b : Fld) (s : State) : Res :=
  s.scalar3 y d a b fun x z => x + 8 * z

/-- SPOPC (R263): set bits. -/
def execSpopc (y : Bool) (d a : Fld) (s : State) : Res :=
  s.scalar2 y d a fun x => BitVec.ofNat 64 (popCount x)

/-- SCLZ (R263): leading zeros, 64 for zero. -/
def execSclz (y : Bool) (d a : Fld) (s : State) : Res :=
  s.scalar2 y d a fun x => BitVec.ofNat 64 (leadZeros x)

/-- SCTZ (R263): trailing zeros, 64 for zero. -/
def execSctz (y : Bool) (d a : Fld) (s : State) : Res :=
  s.scalar2 y d a fun x => BitVec.ofNat 64 (trailZeros x)

/-- SADDI (R264): a + i. -/
def execSaddi (y : Bool) (d a : Fld) (i : BitVec 10) (s : State) : Res :=
  s.scalar2 y d a fun x => x + imm64 i

/-- SANDI (R264): a and i. -/
def execSandi (y : Bool) (d a : Fld) (i : BitVec 10) (s : State) : Res :=
  s.scalar2 y d a fun x => x &&& imm64 i

/-- SORI (R264): a or i. -/
def execSori (y : Bool) (d a : Fld) (i : BitVec 10) (s : State) : Res :=
  s.scalar2 y d a fun x => x ||| imm64 i

/-- SXORI (R264): a xor i. -/
def execSxori (y : Bool) (d a : Fld) (i : BitVec 10) (s : State) : Res :=
  s.scalar2 y d a fun x => x ^^^ imm64 i

/-- SSLTII (R264): 1 if a < i, signed. -/
def execSsltiI (y : Bool) (d a : Fld) (i : BitVec 10) (s : State) : Res :=
  s.scalar2 y d a fun x => flag64 (x.slt (imm64 i))

/-- SSHLI (R264): a << imm. -/
def execSshli (y : Bool) (d a : Fld) (i : BitVec 6) (s : State) : Res :=
  s.scalar2 y d a fun x => x <<< i.toNat

/-- SSHRIN (R264): a >> imm, zero-filled. -/
def execSshriN (y : Bool) (d a : Fld) (i : BitVec 6) (s : State) : Res :=
  s.scalar2 y d a fun x => x >>> i.toNat

/-- SSHRII (R264): a >> imm, sign-filled. -/
def execSshriI (y : Bool) (d a : Fld) (i : BitVec 6) (s : State) : Res :=
  s.scalar2 y d a fun x => x.sshiftRight i.toNat

/-- SLI (R258): the sign extension of imm18. -/
def execSli (y : Bool) (d : Fld) (i : BitVec 18) (s : State) : Res :=
  s.scalar2 y d d fun _ => i.signExtend 64

/-- SLIS (R258): (s_d << 18) or imm18. -/
def execSlis (y : Bool) (d : Fld) (i : BitVec 18) (s : State) : Res :=
  s.scalar2 y d d fun x => (x <<< 18) ||| i.setWidth 64

end Sys2Proof.Machine
end

