-- ==== Sys2Proof/Machine/Vector.lean ====
section
/-! DEFINITION. Vector integer instructions: classes 2 and 3 (16 R286-R289) and VLI, VLIH (14 R258). -/

namespace Sys2Proof.Machine

/-- b[4:0]. -/
def count5 (b : W32) : Nat := b.toNat % 32

/-- Byte i of a word, unsigned. -/
def byteN (x : W32) (i : Nat) : Int := ((x.extractLsb' (8 * i) 8).toNat : Int)
/-- Byte i of a word, signed. -/
def byteI (x : W32) (i : Nat) : Int := (x.extractLsb' (8 * i) 8).toInt

/-- The sum of the products of the four bytes. -/
def dot4 (f : W32 → Nat → Int) (x z : W32) : Int := f x 0 * f z 0 + f x 1 * f z 1 + f x 2 * f z 2 + f x 3 * f z 3

/-- VADD (R286): a + b. -/
def execVadd (y : Bool) (d a b : Fld) (s : State) : Res :=
  s.vec3 y d a b fun x z => x + z

/-- VSUB (R286): a - b. -/
def execVsub (y : Bool) (d a b : Fld) (s : State) : Res :=
  s.vec3 y d a b fun x z => x - z

/-- VMUL (R286): low 32 bits of a * b. -/
def execVmul (y : Bool) (d a b : Fld) (s : State) : Res :=
  s.vec3 y d a b fun x z => x * z

/-- VMULHI (R286): high 32 bits of the signed product. -/
def execVmulhI (y : Bool) (d a b : Fld) (s : State) : Res :=
  s.vec3 y d a b fun x z => BitVec.ofInt 32 (x.toInt * z.toInt / 2 ^ 32)

/-- VMULHN (R286): high 32 bits of the unsigned product. -/
def execVmulhN (y : Bool) (d a b : Fld) (s : State) : Res :=
  s.vec3 y d a b fun x z => BitVec.ofNat 32 (x.toNat * z.toNat / 2 ^ 32)

/-- VAND (R286): a and b. -/
def execVand (y : Bool) (d a b : Fld) (s : State) : Res :=
  s.vec3 y d a b fun x z => x &&& z

/-- VOR (R286): a or b. -/
def execVor (y : Bool) (d a b : Fld) (s : State) : Res :=
  s.vec3 y d a b fun x z => x ||| z

/-- VXOR (R286): a xor b. -/
def execVxor (y : Bool) (d a b : Fld) (s : State) : Res :=
  s.vec3 y d a b fun x z => x ^^^ z

/-- VANDN (R286): a and not b. -/
def execVandn (y : Bool) (d a b : Fld) (s : State) : Res :=
  s.vec3 y d a b fun x z => x &&& ~~~z

/-- VSHL (R286): a << c. -/
def execVshl (y : Bool) (d a b : Fld) (s : State) : Res :=
  s.vec3 y d a b fun x z => x <<< count5 z

/-- VSHRN (R286): a >> c, zero-filled. -/
def execVshrN (y : Bool) (d a b : Fld) (s : State) : Res :=
  s.vec3 y d a b fun x z => x >>> count5 z

/-- VSHRI (R286): a >> c, sign-filled. -/
def execVshrI (y : Bool) (d a b : Fld) (s : State) : Res :=
  s.vec3 y d a b fun x z => x.sshiftRight (count5 z)

/-- VMINI (R286): signed lesser. -/
def execVminI (y : Bool) (d a b : Fld) (s : State) : Res :=
  s.vec3 y d a b fun x z => if x.slt z then x else z

/-- VMINN (R286): unsigned lesser. -/
def execVminN (y : Bool) (d a b : Fld) (s : State) : Res :=
  s.vec3 y d a b fun x z => if x.ult z then x else z

/-- VMAXI (R286): signed greater. -/
def execVmaxI (y : Bool) (d a b : Fld) (s : State) : Res :=
  s.vec3 y d a b fun x z => if x.slt z then z else x

/-- VMAXN (R286): unsigned greater. -/
def execVmaxN (y : Bool) (d a b : Fld) (s : State) : Res :=
  s.vec3 y d a b fun x z => if x.ult z then z else x

/-- VADDSI (R286): signed saturating sum, SAT when it saturates. -/
def execVaddsI (y : Bool) (d a b : Fld) (s : State) : Res :=
  s.vec3Flags y d a b fun x z => satI32 (x.toInt + z.toInt)

/-- VADDSN (R286): unsigned saturating sum, SAT when it saturates. -/
def execVaddsN (y : Bool) (d a b : Fld) (s : State) : Res :=
  s.vec3Flags y d a b fun x z => satN32 ((x.toNat : Int) + z.toNat)

/-- VSUBSI (R286): signed saturating difference, SAT when it saturates. -/
def execVsubsI (y : Bool) (d a b : Fld) (s : State) : Res :=
  s.vec3Flags y d a b fun x z => satI32 (x.toInt - z.toInt)

/-- VSUBSN (R286): unsigned saturating difference, SAT when it saturates. -/
def execVsubsN (y : Bool) (d a b : Fld) (s : State) : Res :=
  s.vec3Flags y d a b fun x z => satN32 ((x.toNat : Int) - z.toNat)

/-- VDOT4I8 (R286): d plus the four byte products. -/
def execVdot4I8 (y : Bool) (d a b : Fld) (s : State) : Res :=
  s.vecAcc y d a b fun w x z => w + BitVec.ofInt 32 (dot4 byteI x z)

/-- VDOT4N8 (R286): d plus the four byte products. -/
def execVdot4N8 (y : Bool) (d a b : Fld) (s : State) : Res :=
  s.vecAcc y d a b fun w x z => w + BitVec.ofInt 32 (dot4 byteN x z)

/-- VPOPC (R286): set bits. -/
def execVpopc (y : Bool) (d a : Fld) (s : State) : Res :=
  s.vec2 y d a fun x => BitVec.ofNat 32 (popCount x)

/-- VCLZ (R286): leading zeros, 32 for zero. -/
def execVclz (y : Bool) (d a : Fld) (s : State) : Res :=
  s.vec2 y d a fun x => BitVec.ofNat 32 (leadZeros x)

/-- VMOV (R286): a. -/
def execVmov (y : Bool) (d a : Fld) (s : State) : Res :=
  s.vec2 y d a fun x => x

/-- VDUP (R286): s_a[31:0] in every lane of Active(). -/
def execVdup (y : Bool) (d a : Fld) (s : State) : Res :=
  s.lanes1 y d (fun _ => true) fun g _ => (g.rs a.toNat).setWidth 32

/-- VCEQ (R287): the triple of a = b. -/
def execVceq (y : Bool) (d a b : Fld) (s : State) : Res :=
  s.vecCompare y d a b fun x z => x == z

/-- VCNE (R287): the triple of a <> b. -/
def execVcne (y : Bool) (d a b : Fld) (s : State) : Res :=
  s.vecCompare y d a b fun x z => x != z

/-- VCLTI (R287): the triple of a < b, signed. -/
def execVcltI (y : Bool) (d a b : Fld) (s : State) : Res :=
  s.vecCompare y d a b fun x z => x.slt z

/-- VCLTN (R287): the triple of a < b, unsigned. -/
def execVcltN (y : Bool) (d a b : Fld) (s : State) : Res :=
  s.vecCompare y d a b fun x z => x.ult z

/-- VCLEI (R287): the triple of a <= b, signed. -/
def execVcleI (y : Bool) (d a b : Fld) (s : State) : Res :=
  s.vecCompare y d a b fun x z => !z.slt x

/-- VCLEN (R287): the triple of a <= b, unsigned. -/
def execVcleN (y : Bool) (d a b : Fld) (s : State) : Res :=
  s.vecCompare y d a b fun x z => !z.ult x

/-- VADDI64 (R288): modulo 2^64 on pairs. -/
def execVaddI64 (y : Bool) (d a b : Fld) (s : State) : Res :=
  s.pairs1 y d (fun g => g.pairIn a.toNat && g.pairIn b.toNat) fun g l => g.rp a.toNat l + g.rp b.toNat l

/-- VSUBI64 (R288): modulo 2^64 on pairs. -/
def execVsubI64 (y : Bool) (d a b : Fld) (s : State) : Res :=
  s.pairs1 y d (fun g => g.pairIn a.toNat && g.pairIn b.toNat) fun g l => g.rp a.toNat l - g.rp b.toNat l

/-- VSHLI64 (R288): a pair shifted by v_b[5:0]. -/
def execVshlI64 (y : Bool) (d a b : Fld) (s : State) : Res :=
  s.pairs1 y d (fun g => g.pairIn a.toNat && g.inWindow b.toNat) fun g l =>
    g.rp a.toNat l <<< ((g.rv b.toNat l).toNat % 64)

/-- VSHRN64 (R288): a pair shifted by v_b[5:0]. -/
def execVshrN64 (y : Bool) (d a b : Fld) (s : State) : Res :=
  s.pairs1 y d (fun g => g.pairIn a.toNat && g.inWindow b.toNat) fun g l =>
    g.rp a.toNat l >>> ((g.rv b.toNat l).toNat % 64)

/-- VSHRI64 (R288): a pair shifted by v_b[5:0]. -/
def execVshrI64 (y : Bool) (d a b : Fld) (s : State) : Res :=
  s.pairs1 y d (fun g => g.pairIn a.toNat && g.inWindow b.toNat) fun g l =>
    (g.rp a.toNat l).sshiftRight ((g.rv b.toNat l).toNat % 64)

/-- VADDI (R289): a + i. -/
def execVaddi (y : Bool) (d a : Fld) (i : BitVec 10) (s : State) : Res :=
  s.vec2 y d a fun x => x + imm32 i

/-- VANDI (R289): a and i. -/
def execVandi (y : Bool) (d a : Fld) (i : BitVec 10) (s : State) : Res :=
  s.vec2 y d a fun x => x &&& imm32 i

/-- VORI (R289): a or i. -/
def execVori (y : Bool) (d a : Fld) (i : BitVec 10) (s : State) : Res :=
  s.vec2 y d a fun x => x ||| imm32 i

/-- VXORI (R289): a xor i. -/
def execVxori (y : Bool) (d a : Fld) (i : BitVec 10) (s : State) : Res :=
  s.vec2 y d a fun x => x ^^^ imm32 i

/-- VSHLI (R289): a << imm. -/
def execVshli (y : Bool) (d a : Fld) (i : BitVec 5) (s : State) : Res :=
  s.vec2 y d a fun x => x <<< i.toNat

/-- VSHRIN (R289): a >> imm, zero-filled. -/
def execVshriN (y : Bool) (d a : Fld) (i : BitVec 5) (s : State) : Res :=
  s.vec2 y d a fun x => x >>> i.toNat

/-- VSHRII (R289): a >> imm, sign-filled. -/
def execVshriI (y : Bool) (d a : Fld) (i : BitVec 5) (s : State) : Res :=
  s.vec2 y d a fun x => x.sshiftRight i.toNat

/-- VMOVI (R289): i in every lane of Active(). -/
def execVmovi (y : Bool) (d : Fld) (i : BitVec 10) (s : State) : Res :=
  s.lanes1 y d (fun _ => true) fun _ _ => imm32 i

/-- VLI (R258): the sign extension of imm18 to 32 bits. -/
def execVli (y : Bool) (d : Fld) (i : BitVec 18) (s : State) : Res :=
  s.lanes1 y d (fun _ => true) fun _ _ => i.signExtend 32

/-- VLIH (R258): (imm18 << 14) or the low 14 bits of v_d. -/
def execVlih (y : Bool) (d : Fld) (i : BitVec 18) (s : State) : Res :=
  s.vec2 y d d fun x => (i.setWidth 32 <<< 14) ||| (x &&& 0x3FFF#32)

end Sys2Proof.Machine
end

