-- ==== Sys2Proof/Machine/Dispatch.lean ====
section
/-! DEFINITION. The dispatch: one arm per constructor of Instr, each a direct call of its meaning. -/

namespace Sys2Proof.Machine

/-- What an instruction, an operation or a happening does to the machine. -/
def exec (i : Instr) (s : State) : Host.Outcome State Fault Refusal :=
    match i with
    | .powerOn railsOk => Sys2Proof.Machine.execPowerOn railsOk s
    | .coldReset heldTicks => Sys2Proof.Machine.execColdReset heldTicks s
    | .warmReset h => Sys2Proof.Machine.execWarmReset h s
    | .bootRomStart failed => Sys2Proof.Machine.execBootRomStart failed s
    | .powerWindow watts => Sys2Proof.Machine.execPowerWindow watts s
    | .thermalStep celsius => Sys2Proof.Machine.execThermalStep celsius s
    | .thermalHold sensor celsius => Sys2Proof.Machine.execThermalHold sensor celsius s
    | .thermtrip celsius => Sys2Proof.Machine.execThermtrip celsius s
    | .hostModuleTraining m => Sys2Proof.Machine.execHostModuleTraining m s
    | .submitWrite h => Sys2Proof.Machine.execSubmitWrite h s
    | .submitBufferDrain => Sys2Proof.Machine.execSubmitBufferDrain s
    | .subdropRead h => Sys2Proof.Machine.execSubdropRead h s
    | .errlostRead h => Sys2Proof.Machine.execErrlostRead h s
    | .errtailWrite h => Sys2Proof.Machine.execErrtailWrite h s
    | .svctailWrite h => Sys2Proof.Machine.execSvctailWrite h s
    | .pmodeWrite h => Sys2Proof.Machine.execPmodeWrite h s
    | .hostRegisterWrite h => Sys2Proof.Machine.execHostRegisterWrite h s
    | .serviceReply h => Sys2Proof.Machine.execServiceReply h s
    | .serviceRequest => Sys2Proof.Machine.execServiceRequest s
    | .svclate id => Sys2Proof.Machine.execSvclate id s
    | .attest h => Sys2Proof.Machine.execAttest h s
    | .loadrun h => Sys2Proof.Machine.execLoadrun h s
    | .update h => Sys2Proof.Machine.execUpdate h s
    | .raisemin h => Sys2Proof.Machine.execRaisemin h s
    | .badCommand h => Sys2Proof.Machine.execBadCommand h s
    | .kemkey h => Sys2Proof.Machine.execKemkey h s
    | .ctxopen h => Sys2Proof.Machine.execCtxopen h s
    | .keyload h => Sys2Proof.Machine.execKeyload h s
    | .ctxclose h => Sys2Proof.Machine.execCtxclose h s
    | .erase h => Sys2Proof.Machine.execErase h s
    | .sweep h => Sys2Proof.Machine.execSweep h s
    | .receipt h => Sys2Proof.Machine.execReceipt h s
    | .rekey h => Sys2Proof.Machine.execRekey h s
    | .mailboxComplete => Sys2Proof.Machine.execMailboxComplete s
    | .fwdog die => Sys2Proof.Machine.execFwdog die s
    | .dieDrop die => Sys2Proof.Machine.execDieDrop die s
    | .errorRetry e => Sys2Proof.Machine.execErrorRetry e s
    | .dataFrame port f => Sys2Proof.Machine.execDataFrame port f s
    | .idleFrame port f => Sys2Proof.Machine.execIdleFrame port f s
    | .retryRequest port f => Sys2Proof.Machine.execRetryRequest port f s
    | .portRetrain port => Sys2Proof.Machine.execPortRetrain port s
    | .portDown port => Sys2Proof.Machine.execPortDown port s
    | .portTrained port => Sys2Proof.Machine.execPortTrained port s
    | .read p => Sys2Proof.Machine.execRead p s
    | .write p => Sys2Proof.Machine.execWrite p s
    | .atomic p => Sys2Proof.Machine.execAtomic p s
    | .cpyput p => Sys2Proof.Machine.execCpyput p s
    | .task p => Sys2Proof.Machine.execTask p s
    | .readresp p => Sys2Proof.Machine.execReadresp p s
    | .writeack p => Sys2Proof.Machine.execWriteack p s
    | .atomresp p => Sys2Proof.Machine.execAtomresp p s
    | .seqack p => Sys2Proof.Machine.execSeqack p s
    | .seqackTimer k => Sys2Proof.Machine.execSeqackTimer k s
    | .pairBreak k => Sys2Proof.Machine.execPairBreak k s
    | .mcwrite p => Sys2Proof.Machine.execMcwrite p s
    | .mcreply p => Sys2Proof.Machine.execMcreply p s
    | .redresult p => Sys2Proof.Machine.execRedresult p s
    | .swattest r => Sys2Proof.Machine.execSwattest r s
    | .event r => Sys2Proof.Machine.execEvent r s
    | .tailFetch => Sys2Proof.Machine.execTailFetch s
    | .tailRequest chip id first last => Sys2Proof.Machine.execTailRequest chip id first last s
    | .tailData chip id recs => Sys2Proof.Machine.execTailData chip id recs s
    | .snapshotRequest chip id opening => Sys2Proof.Machine.execSnapshotRequest chip id opening s
    | .snapshotData chip id stream => Sys2Proof.Machine.execSnapshotData chip id stream s
    | .notHeld chip id => Sys2Proof.Machine.execNotHeld chip id s
    | .transferTimeout => Sys2Proof.Machine.execTransferTimeout s
    | .submit => Sys2Proof.Machine.execSubmit s
    | .fire => Sys2Proof.Machine.execFire s
    | .finishBlocksEnded => Sys2Proof.Machine.execFinishBlocksEnded s
    | .signalOrDone grid => Sys2Proof.Machine.execSignalOrDone grid s
    | .finishSignalWritten => Sys2Proof.Machine.execFinishSignalWritten s
    | .block => Sys2Proof.Machine.execBlock s
    | .resume => Sys2Proof.Machine.execResume s
    | .release => Sys2Proof.Machine.execRelease s
    | .fault => Sys2Proof.Machine.execFault s
    | .share => Sys2Proof.Machine.execShare s
    | .loss => Sys2Proof.Machine.execLoss s
    | .admitChip => Sys2Proof.Machine.execAdmitChip s
    | .expel => Sys2Proof.Machine.execExpel s
    | .capacity => Sys2Proof.Machine.execCapacity s
    | .soundDigest => Sys2Proof.Machine.execSoundDigest s
    | .soundClose => Sys2Proof.Machine.execSoundClose s
    | .soundVerdict => Sys2Proof.Machine.execSoundVerdict s
    | .soundwaitExpiry => Sys2Proof.Machine.execSoundwaitExpiry s
    | .expelwaitExpiry chip => Sys2Proof.Machine.execExpelwaitExpiry chip s
    | .rejoin => Sys2Proof.Machine.execRejoin s
    | .nosnapshot => Sys2Proof.Machine.execNosnapshot s
    | .blockStart part => Sys2Proof.Machine.execBlockStart part s
    | .dormancy blk => Sys2Proof.Machine.execDormancy blk s
    | .blockEnd blk => Sys2Proof.Machine.execBlockEnd blk s
    | .taskGroupTimeout core => Sys2Proof.Machine.execTaskGroupTimeout core s
    | .activation core => Sys2Proof.Machine.execActivation core s
    | .registerFill grp => Sys2Proof.Machine.execRegisterFill grp s
    | .contextFault grp stage => Sys2Proof.Machine.execContextFault grp stage s
    | .resultWrite grp => Sys2Proof.Machine.execResultWrite grp s
    | .trapDelivery grp => Sys2Proof.Machine.execTrapDelivery grp s
    | .quiescenceRelease grp j => Sys2Proof.Machine.execQuiescenceRelease grp j s
    | .waitReread grp slice => Sys2Proof.Machine.execWaitReread grp slice s
    | .waitDeadline grp slice => Sys2Proof.Machine.execWaitDeadline grp slice s
    | .sleepDeadline grp slice => Sys2Proof.Machine.execSleepDeadline grp slice s
    | .weirRequest => Sys2Proof.Machine.execWeirRequest s
    | .walkComplete object page => Sys2Proof.Machine.execWalkComplete object page s
    | .pageFaultWake object page kind => Sys2Proof.Machine.execPageFaultWake object page kind s
    | .pageFaultRefusal object page kind => Sys2Proof.Machine.execPageFaultRefusal object page kind s
    | .noWakeReplay grp => Sys2Proof.Machine.execNoWakeReplay grp s
    | .localtimeout tag => Sys2Proof.Machine.execLocaltimeout tag s
    | .publishComplete object => Sys2Proof.Machine.execPublishComplete object s
    | .engineComplete cmd ended => Sys2Proof.Machine.execEngineComplete cmd ended s
    | .messageArrival tag payload => Sys2Proof.Machine.execMessageArrival tag payload s
    | .saveDone op => Sys2Proof.Machine.execSaveDone op s
    | .restoreDone op => Sys2Proof.Machine.execRestoreDone op s
    | .saveRetry grp => Sys2Proof.Machine.execSaveRetry grp s
    | .thermalHoldEnd celsius => Sys2Proof.Machine.execThermalHoldEnd celsius s
    | .candidateSilence => Sys2Proof.Machine.execCandidateSilence s
    | .firmwareReadiness die => Sys2Proof.Machine.execFirmwareReadiness die s
    | .sadd y d a b => Sys2Proof.Machine.execSadd y d a b s
    | .ssub y d a b => Sys2Proof.Machine.execSsub y d a b s
    | .smul y d a b => Sys2Proof.Machine.execSmul y d a b s
    | .smulhI y d a b => Sys2Proof.Machine.execSmulhI y d a b s
    | .smulhN y d a b => Sys2Proof.Machine.execSmulhN y d a b s
    | .sdivI y d a b => Sys2Proof.Machine.execSdivI y d a b s
    | .sdivN y d a b => Sys2Proof.Machine.execSdivN y d a b s
    | .sremI y d a b => Sys2Proof.Machine.execSremI y d a b s
    | .sremN y d a b => Sys2Proof.Machine.execSremN y d a b s
    | .sand y d a b => Sys2Proof.Machine.execSand y d a b s
    | .sor y d a b => Sys2Proof.Machine.execSor y d a b s
    | .sxor y d a b => Sys2Proof.Machine.execSxor y d a b s
    | .sandn y d a b => Sys2Proof.Machine.execSandn y d a b s
    | .sshl y d a b => Sys2Proof.Machine.execSshl y d a b s
    | .sshrN y d a b => Sys2Proof.Machine.execSshrN y d a b s
    | .sshrI y d a b => Sys2Proof.Machine.execSshrI y d a b s
    | .sror y d a b => Sys2Proof.Machine.execSror y d a b s
    | .sminI y d a b => Sys2Proof.Machine.execSminI y d a b s
    | .sminN y d a b => Sys2Proof.Machine.execSminN y d a b s
    | .smaxI y d a b => Sys2Proof.Machine.execSmaxI y d a b s
    | .smaxN y d a b => Sys2Proof.Machine.execSmaxN y d a b s
    | .sseq y d a b => Sys2Proof.Machine.execSseq y d a b s
    | .ssne y d a b => Sys2Proof.Machine.execSsne y d a b s
    | .ssltI y d a b => Sys2Proof.Machine.execSsltI y d a b s
    | .ssltN y d a b => Sys2Proof.Machine.execSsltN y d a b s
    | .ssleI y d a b => Sys2Proof.Machine.execSsleI y d a b s
    | .ssleN y d a b => Sys2Proof.Machine.execSsleN y d a b s
    | .spopc y d a => Sys2Proof.Machine.execSpopc y d a s
    | .sclz y d a => Sys2Proof.Machine.execSclz y d a s
    | .sctz y d a => Sys2Proof.Machine.execSctz y d a s
    | .slea4 y d a b => Sys2Proof.Machine.execSlea4 y d a b s
    | .slea8 y d a b => Sys2Proof.Machine.execSlea8 y d a b s
    | .saddi y d a im => Sys2Proof.Machine.execSaddi y d a im s
    | .sandi y d a im => Sys2Proof.Machine.execSandi y d a im s
    | .sori y d a im => Sys2Proof.Machine.execSori y d a im s
    | .sxori y d a im => Sys2Proof.Machine.execSxori y d a im s
    | .sshli y d a im => Sys2Proof.Machine.execSshli y d a im s
    | .sshriN y d a im => Sys2Proof.Machine.execSshriN y d a im s
    | .sshriI y d a im => Sys2Proof.Machine.execSshriI y d a im s
    | .ssltiI y d a im => Sys2Proof.Machine.execSsltiI y d a im s
    | .vadd y d a b => Sys2Proof.Machine.execVadd y d a b s
    | .vsub y d a b => Sys2Proof.Machine.execVsub y d a b s
    | .vmul y d a b => Sys2Proof.Machine.execVmul y d a b s
    | .vmulhI y d a b => Sys2Proof.Machine.execVmulhI y d a b s
    | .vmulhN y d a b => Sys2Proof.Machine.execVmulhN y d a b s
    | .vaddsI y d a b => Sys2Proof.Machine.execVaddsI y d a b s
    | .vaddsN y d a b => Sys2Proof.Machine.execVaddsN y d a b s
    | .vsubsI y d a b => Sys2Proof.Machine.execVsubsI y d a b s
    | .vsubsN y d a b => Sys2Proof.Machine.execVsubsN y d a b s
    | .vand y d a b => Sys2Proof.Machine.execVand y d a b s
    | .vor y d a b => Sys2Proof.Machine.execVor y d a b s
    | .vxor y d a b => Sys2Proof.Machine.execVxor y d a b s
    | .vandn y d a b => Sys2Proof.Machine.execVandn y d a b s
    | .vshl y d a b => Sys2Proof.Machine.execVshl y d a b s
    | .vshrN y d a b => Sys2Proof.Machine.execVshrN y d a b s
    | .vshrI y d a b => Sys2Proof.Machine.execVshrI y d a b s
    | .vminI y d a b => Sys2Proof.Machine.execVminI y d a b s
    | .vminN y d a b => Sys2Proof.Machine.execVminN y d a b s
    | .vmaxI y d a b => Sys2Proof.Machine.execVmaxI y d a b s
    | .vmaxN y d a b => Sys2Proof.Machine.execVmaxN y d a b s
    | .vdot4I8 y d a b => Sys2Proof.Machine.execVdot4I8 y d a b s
    | .vdot4N8 y d a b => Sys2Proof.Machine.execVdot4N8 y d a b s
    | .vpopc y d a => Sys2Proof.Machine.execVpopc y d a s
    | .vclz y d a => Sys2Proof.Machine.execVclz y d a s
    | .vceq y d a b => Sys2Proof.Machine.execVceq y d a b s
    | .vcne y d a b => Sys2Proof.Machine.execVcne y d a b s
    | .vcltI y d a b => Sys2Proof.Machine.execVcltI y d a b s
    | .vcltN y d a b => Sys2Proof.Machine.execVcltN y d a b s
    | .vcleI y d a b => Sys2Proof.Machine.execVcleI y d a b s
    | .vcleN y d a b => Sys2Proof.Machine.execVcleN y d a b s
    | .vmov y d a => Sys2Proof.Machine.execVmov y d a s
    | .vdup y d a => Sys2Proof.Machine.execVdup y d a s
    | .vaddI64 y d a b => Sys2Proof.Machine.execVaddI64 y d a b s
    | .vsubI64 y d a b => Sys2Proof.Machine.execVsubI64 y d a b s
    | .vshlI64 y d a b => Sys2Proof.Machine.execVshlI64 y d a b s
    | .vshrN64 y d a b => Sys2Proof.Machine.execVshrN64 y d a b s
    | .vshrI64 y d a b => Sys2Proof.Machine.execVshrI64 y d a b s
    | .vaddi y d a im => Sys2Proof.Machine.execVaddi y d a im s
    | .vandi y d a im => Sys2Proof.Machine.execVandi y d a im s
    | .vori y d a im => Sys2Proof.Machine.execVori y d a im s
    | .vxori y d a im => Sys2Proof.Machine.execVxori y d a im s
    | .vshli y d a im => Sys2Proof.Machine.execVshli y d a im s
    | .vshriN y d a im => Sys2Proof.Machine.execVshriN y d a im s
    | .vshriI y d a im => Sys2Proof.Machine.execVshriI y d a im s
    | .vmovi y d im => Sys2Proof.Machine.execVmovi y d im s
    | .fadd y f d a b => Sys2Proof.Machine.execFadd y f d a b s
    | .fsub y f d a b => Sys2Proof.Machine.execFsub y f d a b s
    | .fmul y f d a b => Sys2Proof.Machine.execFmul y f d a b s
    | .ffma y f d a b => Sys2Proof.Machine.execFfma y f d a b s
    | .ffms y f d a b => Sys2Proof.Machine.execFfms y f d a b s
    | .fmin y f d a b => Sys2Proof.Machine.execFmin y f d a b s
    | .fmax y f d a b => Sys2Proof.Machine.execFmax y f d a b s
    | .fabs y f d a => Sys2Proof.Machine.execFabs y f d a s
    | .fneg y f d a => Sys2Proof.Machine.execFneg y f d a s
    | .fceq y f d a b => Sys2Proof.Machine.execFceq y f d a b s
    | .fclt y f d a b => Sys2Proof.Machine.execFclt y f d a b s
    | .fcle y f d a b => Sys2Proof.Machine.execFcle y f d a b s
    | .fcun y f d a b => Sys2Proof.Machine.execFcun y f d a b s
    | .fdiv y f d a b => Sys2Proof.Machine.execFdiv y f d a b s
    | .fsqrt y f d a => Sys2Proof.Machine.execFsqrt y f d a s
    | .frnd y f d a => Sys2Proof.Machine.execFrnd y f d a s
    | .faddRn y f d a b => Sys2Proof.Machine.execFaddRn y f d a b s
    | .fsubRn y f d a b => Sys2Proof.Machine.execFsubRn y f d a b s
    | .fmulRn y f d a b => Sys2Proof.Machine.execFmulRn y f d a b s
    | .ffmaRn y f d a b => Sys2Proof.Machine.execFfmaRn y f d a b s
    | .frcp y d a => Sys2Proof.Machine.execFrcp y d a s
    | .frsq y d a => Sys2Proof.Machine.execFrsq y d a s
    | .fexp2 y d a => Sys2Proof.Machine.execFexp2 y d a s
    | .flog2 y d a => Sys2Proof.Machine.execFlog2 y d a s
    | .fsin y d a => Sys2Proof.Machine.execFsin y d a s
    | .fcos y d a => Sys2Proof.Machine.execFcos y d a s
    | .ftanh y d a => Sys2Proof.Machine.execFtanh y d a s
    | .hadd2F16 y d a b => Sys2Proof.Machine.execHadd2F16 y d a b s
    | .hmul2F16 y d a b => Sys2Proof.Machine.execHmul2F16 y d a b s
    | .hfma2F16 y d a b => Sys2Proof.Machine.execHfma2F16 y d a b s
    | .hadd2Bf16 y d a b => Sys2Proof.Machine.execHadd2Bf16 y d a b s
    | .hmul2Bf16 y d a b => Sys2Proof.Machine.execHmul2Bf16 y d a b s
    | .hfma2Bf16 y d a b => Sys2Proof.Machine.execHfma2Bf16 y d a b s
    | .fcvt y t d a n s_ c => Sys2Proof.Machine.execFcvt y t d a n s_ c s
    | .xshp y d r c => Sys2Proof.Machine.execXshp y d r c s
    | .xzero y d => Sys2Proof.Machine.execXzero y d s
    | .xidn y d => Sys2Proof.Machine.execXidn y d s
    | .xld y f d a b => Sys2Proof.Machine.execXld y f d a b s
    | .xst y f d a b => Sys2Proof.Machine.execXst y f d a b s
    | .xget y f d a im j => Sys2Proof.Machine.execXget y f d a im j s
    | .xput y f d a im j => Sys2Proof.Machine.execXput y f d a im j s
    | .xmov y f d a => Sys2Proof.Machine.execXmov y f d a s
    | .xtrn y f d a => Sys2Proof.Machine.execXtrn y f d a s
    | .xadd y f d a b => Sys2Proof.Machine.execXadd y f d a b s
    | .xsub y f d a b => Sys2Proof.Machine.execXsub y f d a b s
    | .xscl y f d a b => Sys2Proof.Machine.execXscl y f d a b s
    | .xmul y f d a b => Sys2Proof.Machine.execXmul y f d a b s
    | .xmad y f d a b => Sys2Proof.Machine.execXmad y f d a b s
    | .xmult y f d a b => Sys2Proof.Machine.execXmult y f d a b s
    | .xmv y f d a b => Sys2Proof.Machine.execXmv y f d a b s
    | .xchol y f d a => Sys2Proof.Machine.execXchol y f d a s
    | .xlup y f d a => Sys2Proof.Machine.execXlup y f d a s
    | .xsolv y f d a b => Sys2Proof.Machine.execXsolv y f d a b s
    | .xinv y f d a => Sys2Proof.Machine.execXinv y f d a s
    | .xdet y f d a => Sys2Proof.Machine.execXdet y f d a s
    | .xflag y d => Sys2Proof.Machine.execXflag y d s
    | .mand y d a b => Sys2Proof.Machine.execMand y d a b s
    | .mor y d a b => Sys2Proof.Machine.execMor y d a b s
    | .mxor y d a b => Sys2Proof.Machine.execMxor y d a b s
    | .mandn y d a b => Sys2Proof.Machine.execMandn y d a b s
    | .mnot y d a => Sys2Proof.Machine.execMnot y d a s
    | .mmov y d a => Sys2Proof.Machine.execMmov y d a s
    | .mpopc y d a => Sys2Proof.Machine.execMpopc y d a s
    | .mfirst y d a => Sys2Proof.Machine.execMfirst y d a s
    | .mswap y d a => Sys2Proof.Machine.execMswap y d a s
    | .mfromv y d a => Sys2Proof.Machine.execMfromv y d a s
    | .mtov y d a => Sys2Proof.Machine.execMtov y d a s
    | .shflIdxW4 y d a b => Sys2Proof.Machine.execShflIdxW4 y d a b s
    | .shflIdxW8 y d a b => Sys2Proof.Machine.execShflIdxW8 y d a b s
    | .shflIdxW16 y d a b => Sys2Proof.Machine.execShflIdxW16 y d a b s
    | .shflIdxW32 y d a b => Sys2Proof.Machine.execShflIdxW32 y d a b s
    | .shflIdxW64 y d a b => Sys2Proof.Machine.execShflIdxW64 y d a b s
    | .shflIdxW96 y d a b => Sys2Proof.Machine.execShflIdxW96 y d a b s
    | .shflXorW4 y d a b => Sys2Proof.Machine.execShflXorW4 y d a b s
    | .shflXorW8 y d a b => Sys2Proof.Machine.execShflXorW8 y d a b s
    | .shflXorW16 y d a b => Sys2Proof.Machine.execShflXorW16 y d a b s
    | .shflXorW32 y d a b => Sys2Proof.Machine.execShflXorW32 y d a b s
    | .shflXorW64 y d a b => Sys2Proof.Machine.execShflXorW64 y d a b s
    | .shflXorW96 y d a b => Sys2Proof.Machine.execShflXorW96 y d a b s
    | .shflUpW4 y d a b => Sys2Proof.Machine.execShflUpW4 y d a b s
    | .shflUpW8 y d a b => Sys2Proof.Machine.execShflUpW8 y d a b s
    | .shflUpW16 y d a b => Sys2Proof.Machine.execShflUpW16 y d a b s
    | .shflUpW32 y d a b => Sys2Proof.Machine.execShflUpW32 y d a b s
    | .shflUpW64 y d a b => Sys2Proof.Machine.execShflUpW64 y d a b s
    | .shflUpW96 y d a b => Sys2Proof.Machine.execShflUpW96 y d a b s
    | .shflDnW4 y d a b => Sys2Proof.Machine.execShflDnW4 y d a b s
    | .shflDnW8 y d a b => Sys2Proof.Machine.execShflDnW8 y d a b s
    | .shflDnW16 y d a b => Sys2Proof.Machine.execShflDnW16 y d a b s
    | .shflDnW32 y d a b => Sys2Proof.Machine.execShflDnW32 y d a b s
    | .shflDnW64 y d a b => Sys2Proof.Machine.execShflDnW64 y d a b s
    | .shflDnW96 y d a b => Sys2Proof.Machine.execShflDnW96 y d a b s
    | .vbcastW4 y d a b => Sys2Proof.Machine.execVbcastW4 y d a b s
    | .vbcastW8 y d a b => Sys2Proof.Machine.execVbcastW8 y d a b s
    | .vbcastW16 y d a b => Sys2Proof.Machine.execVbcastW16 y d a b s
    | .vbcastW32 y d a b => Sys2Proof.Machine.execVbcastW32 y d a b s
    | .vbcastW64 y d a b => Sys2Proof.Machine.execVbcastW64 y d a b s
    | .vbcastW96 y d a b => Sys2Proof.Machine.execVbcastW96 y d a b s
    | .voteAny y d a => Sys2Proof.Machine.execVoteAny y d a s
    | .voteAll y d a => Sys2Proof.Machine.execVoteAll y d a s
    | .voteBal y d a => Sys2Proof.Machine.execVoteBal y d a s
    | .vredW4 y d a o t => Sys2Proof.Machine.execVredW4 y d a o t s
    | .vredW8 y d a o t => Sys2Proof.Machine.execVredW8 y d a o t s
    | .vredW16 y d a o t => Sys2Proof.Machine.execVredW16 y d a o t s
    | .vredW32 y d a o t => Sys2Proof.Machine.execVredW32 y d a o t s
    | .vredW64 y d a o t => Sys2Proof.Machine.execVredW64 y d a o t s
    | .vredW96 y d a o t => Sys2Proof.Machine.execVredW96 y d a o t s
    | .vscanW4 y d a o t => Sys2Proof.Machine.execVscanW4 y d a o t s
    | .vscanW8 y d a o t => Sys2Proof.Machine.execVscanW8 y d a o t s
    | .vscanW16 y d a o t => Sys2Proof.Machine.execVscanW16 y d a o t s
    | .vscanW32 y d a o t => Sys2Proof.Machine.execVscanW32 y d a o t s
    | .vscanW64 y d a o t => Sys2Proof.Machine.execVscanW64 y d a o t s
    | .vscanW96 y d a o t => Sys2Proof.Machine.execVscanW96 y d a o t s
    | .ldI y w d a b => Sys2Proof.Machine.execLdI y w d a b s
    | .ldN y w d a b => Sys2Proof.Machine.execLdN y w d a b s
    | .sldI y w d a b => Sys2Proof.Machine.execSldI y w d a b s
    | .sldN y w d a b => Sys2Proof.Machine.execSldN y w d a b s
    | .ldx y w d a b => Sys2Proof.Machine.execLdx y w d a b s
    | .cld y d a b => Sys2Proof.Machine.execCld y d a b s
    | .ldLI y w d a b => Sys2Proof.Machine.execLdLI y w d a b s
    | .ldLN y w d a b => Sys2Proof.Machine.execLdLN y w d a b s
    | .ldAcq y w s_ d a b => Sys2Proof.Machine.execLdAcq y w s_ d a b s
    | .sldAcq y w s_ d a b => Sys2Proof.Machine.execSldAcq y w s_ d a b s
    | .stN y w d a b => Sys2Proof.Machine.execStN y w d a b s
    | .sstN y w d a b => Sys2Proof.Machine.execSstN y w d a b s
    | .cst y d a b => Sys2Proof.Machine.execCst y d a b s
    | .stLN y w d a b => Sys2Proof.Machine.execStLN y w d a b s
    | .stRel y w s_ d a b => Sys2Proof.Machine.execStRel y w s_ d a b s
    | .atomAdd y t d f s_ c b => Sys2Proof.Machine.execAtomAdd y t d f s_ c b s
    | .atomAnd y t d f s_ c b => Sys2Proof.Machine.execAtomAnd y t d f s_ c b s
    | .atomOr y t d f s_ c b => Sys2Proof.Machine.execAtomOr y t d f s_ c b s
    | .atomXor y t d f s_ c b => Sys2Proof.Machine.execAtomXor y t d f s_ c b s
    | .atomSwap y t d f s_ c b => Sys2Proof.Machine.execAtomSwap y t d f s_ c b s
    | .atomCas y t d f s_ c b => Sys2Proof.Machine.execAtomCas y t d f s_ c b s
    | .atomMin y t d f s_ c b => Sys2Proof.Machine.execAtomMin y t d f s_ c b s
    | .atomMax y t d f s_ c b => Sys2Proof.Machine.execAtomMax y t d f s_ c b s
    | .csub y d a b => Sys2Proof.Machine.execCsub y d a b s
    | .crgt y d a b => Sys2Proof.Machine.execCrgt y d a b s
    | .cget y d a k => Sys2Proof.Machine.execCget y d a k s
    | .cmov y d a => Sys2Proof.Machine.execCmov y d a s
    | .cclr y d => Sys2Proof.Machine.execCclr y d s
    | .cstash y d a b => Sys2Proof.Machine.execCstash y d a b s
    | .pref y a b => Sys2Proof.Machine.execPref y a b s
    | .smap y d a b => Sys2Proof.Machine.execSmap y d a b s
    | .sunmap y a => Sys2Proof.Machine.execSunmap y a s
    | .sflush y a => Sys2Proof.Machine.execSflush y a s
    | .fenceAcqGroup y => Sys2Proof.Machine.execFenceAcqGroup y s
    | .fenceAcqBlock y => Sys2Proof.Machine.execFenceAcqBlock y s
    | .fenceAcqChip y => Sys2Proof.Machine.execFenceAcqChip y s
    | .fenceAcqPod y => Sys2Proof.Machine.execFenceAcqPod y s
    | .fenceAcqSys y => Sys2Proof.Machine.execFenceAcqSys y s
    | .fenceRelGroup y => Sys2Proof.Machine.execFenceRelGroup y s
    | .fenceRelBlock y => Sys2Proof.Machine.execFenceRelBlock y s
    | .fenceRelChip y => Sys2Proof.Machine.execFenceRelChip y s
    | .fenceRelPod y => Sys2Proof.Machine.execFenceRelPod y s
    | .fenceRelSys y => Sys2Proof.Machine.execFenceRelSys y s
    | .fenceFullGroup y => Sys2Proof.Machine.execFenceFullGroup y s
    | .fenceFullBlock y => Sys2Proof.Machine.execFenceFullBlock y s
    | .fenceFullChip y => Sys2Proof.Machine.execFenceFullChip y s
    | .fenceFullPod y => Sys2Proof.Machine.execFenceFullPod y s
    | .fenceFullSys y => Sys2Proof.Machine.execFenceFullSys y s
    | .barInit y a b => Sys2Proof.Machine.execBarInit y a b s
    | .barArrive y a b => Sys2Proof.Machine.execBarArrive y a b s
    | .barExpect y a b => Sys2Proof.Machine.execBarExpect y a b s
    | .barWait y a b => Sys2Proof.Machine.execBarWait y a b s
    | .barArriveW y a b => Sys2Proof.Machine.execBarArriveW y a b s
    | .mxR y d a b => Sys2Proof.Machine.execMxR y d a b s
    | .mxS y d a b => Sys2Proof.Machine.execMxS y d a b s
    | .mxjob y d a b => Sys2Proof.Machine.execMxjob y d a b s
    | .mxza y d => Sys2Proof.Machine.execMxza y d s
    | .mxlda y d a b => Sys2Proof.Machine.execMxlda y d a b s
    | .mxst y d a b => Sys2Proof.Machine.execMxst y d a b s
    | .cpy y d a b => Sys2Proof.Machine.execCpy y d a b s
    | .cpyR y d a b => Sys2Proof.Machine.execCpyR y d a b s
    | .coll y d a b => Sys2Proof.Machine.execColl y d a b s
    | .nsend y a b => Sys2Proof.Machine.execNsend y a b s
    | .pub y a => Sys2Proof.Machine.execPub y a s
    | .post y d a b => Sys2Proof.Machine.execPost y d a b s
    | .launch y d b => Sys2Proof.Machine.execLaunch y d b s
    | .gate y => Sys2Proof.Machine.execGate y s
    | .rlse y => Sys2Proof.Machine.execRlse y s
    | .bclose y d => Sys2Proof.Machine.execBclose y d s
    | .waitb y a => Sys2Proof.Machine.execWaitb y a s
    | .arm y d a b => Sys2Proof.Machine.execArm y d a b s
    | .br y o => Sys2Proof.Machine.execBr y o s
    | .bsr y o => Sys2Proof.Machine.execBsr y o s
    | .brcZ y c o => Sys2Proof.Machine.execBrcZ y c o s
    | .brcNz y c o => Sys2Proof.Machine.execBrcNz y c o s
    | .brmZ y c o => Sys2Proof.Machine.execBrmZ y c o s
    | .brmNz y c o => Sys2Proof.Machine.execBrmNz y c o s
    | .brcLt y c o => Sys2Proof.Machine.execBrcLt y c o s
    | .brcGe y c o => Sys2Proof.Machine.execBrcGe y c o s
    | .join y j => Sys2Proof.Machine.execJoin y j s
    | .wait y a b => Sys2Proof.Machine.execWait y a b s
    | .winb y n => Sys2Proof.Machine.execWinb y n s
    | .call y a => Sys2Proof.Machine.execCall y a s
    | .ret y => Sys2Proof.Machine.execRet y s
    | .exit y => Sys2Proof.Machine.execExit y s
    | .rgn y => Sys2Proof.Machine.execRgn y s
    | .rgnx y => Sys2Proof.Machine.execRgnx y s
    | .yieldc y => Sys2Proof.Machine.execYieldc y s
    | .sleep y a => Sys2Proof.Machine.execSleep y a s
    | .vdead y a b => Sys2Proof.Machine.execVdead y a b s
    | .jmp y a => Sys2Proof.Machine.execJmp y a s
    | .sli y d im => Sys2Proof.Machine.execSli y d im s
    | .slis y d im => Sys2Proof.Machine.execSlis y d im s
    | .vli y d im => Sys2Proof.Machine.execVli y d im s
    | .vlih y d im => Sys2Proof.Machine.execVlih y d im s
    | .tret y => Sys2Proof.Machine.execTret y s
    | .pwleaf y d a b => Sys2Proof.Machine.execPwleaf y d a b s
    | .pobj y d a b => Sys2Proof.Machine.execPobj y d a b s
    | .pkey y d a b => Sys2Proof.Machine.execPkey y d a b s
    | .pwdog y d a b => Sys2Proof.Machine.execPwdog y d a b s
    | .pmcset y d a b => Sys2Proof.Machine.execPmcset y d a b s
    | .pevent y d a b => Sys2Proof.Machine.execPevent y d a b s
    | .psave y d a b => Sys2Proof.Machine.execPsave y d a b s
    | .prest y d a b => Sys2Proof.Machine.execPrest y d a b s
    | .pfq y d a b => Sys2Proof.Machine.execPfq y d a b s
    | .trap y im => Sys2Proof.Machine.execTrap y im s
    | .sysr y d n => Sys2Proof.Machine.execSysr y d n s
    | .sysw y a n => Sys2Proof.Machine.execSysw y a n s

end Sys2Proof.Machine
end

