-- ==== Sys2Proof/Machine/Schedule.lean ====
section
/-! DEFINITION. What happens next on the chip: the internal events that are due, in a fixed order, and the gang that issues
(08 R127, R128). -/

namespace Sys2Proof.Machine

/-! ### Internal events that may be due -/

/-- The row of the opcode table that applies a Current record (06 R103-R112, 05 R89-R95). -/
def applyRow (r : CurRec) : List Instr :=
  match r.typ.toNat with
  | 0x01 => [.submit]
  | 0x02 => if finishKind r = 1 then [.finishSignalWritten] else [.finishBlocksEnded]
  | 0x03 => [.block]
  | 0x04 => [.resume]
  | 0x05 => [.release]
  | 0x06 => [.fault]
  | 0x07 => [.fire]
  | 0x08 => [.share]
  | 0x10 => [.loss]
  | 0x11 => [.admitChip]
  | 0x12 => [.expel]
  | 0x13 => [.capacity]
  | 0x14 => if soundKind r = 0 then [.soundDigest] else if soundKind r = 2 then [.soundVerdict] else [.soundClose]
  | _ => []

/-- One candidate, when a condition holds. -/
def dueIf (b : Bool) (i : Instr) : List Instr := if b then [i] else []

/-- Candidates of the Current and Confluence (05, 06). -/
def Current.due (c : Current) : List Instr :=
  (match c.queue with
    | [] => []
    | r :: _ => applyRow r)
    ++ dueIf (c.hold != []) .tailFetch
    ++ dueIf c.transfer.isSome .transferTimeout ++ dueIf c.transfer.isSome .candidateSilence
    ++ dueIf c.round.isSome .soundwaitExpiry ++ c.expels.map (fun e => .expelwaitExpiry e.1)
    ++ dueIf (c.stopped || c.stage != .none) .nosnapshot ++ dueIf (c.stopped || c.stage != .none) .rejoin

/-- Candidates of the host interface and of firmware (03, 04, 15). -/
def State.dueHost (s : State) : List Instr :=
  dueIf (s.host.svcWaiting != []) .serviceRequest ++ dueIf (s.host.subBuf != []) .submitBufferDrain
    ++ s.host.svcOpen.map (fun r => .svclate r.id) ++ dueIf s.fw.cmd.isSome .mailboxComplete
    ++ s.fw.saves.flatMap (fun o => [.saveRetry o.group, if o.restore then .restoreDone o.op else .saveDone o.op])
    ++ (if s.fw.state = 1 then
          ((List.range 4).filter fun d => s.dieRuns d && s.watchdog d == 0).map fun d => .fwdog (BitVec.ofNat 2 d)
        else [])
    ++ (s.fw.proposals.filter Proposal.accepted).map (fun p => .dieDrop p.die)
    ++ (if s.conf.chips = [] then [] else dueIf (s.ownState == .expelled || s.ownState == .lost) .rejoin)

/-- Candidates of the memory and of the fabric (10, 02). -/
def State.dueMemory (s : State) : List Instr :=
  dueIf (s.mem.requests != [] || s.mem.appends != []) .weirRequest ++ s.mem.held.map (fun e => .localtimeout e.1)
    ++ (s.mem.waiting.map fun r => .walkComplete r.packet.object (r.packet.offset.toNat / 65536))
    ++ (s.mem.held.filterMap fun e => (s.heldPage e.1 e.2.1).map fun p => .walkComplete p.1 p.2)
    ++ s.mem.publishing.map (fun e => .publishComplete e.1)
    ++ s.mem.faults.map (fun e => .pageFaultWake ⟨s.fab.self, e.object⟩ e.page ⟨e.kind, 0⟩)
    ++ (s.fab.ports.flatMap fun e => if e.2.state = .training then [.portDown (BitVec.ofNat 6 e.1)]
        else if 8 ≤ e.2.retries then [.portRetrain (BitVec.ofNat 6 e.1)] else [])
    ++ (s.fab.rx.flatMap fun e => if e.2.unacked = 0 then [] else [.seqackTimer e.1])
    ++ (s.fab.tx.flatMap fun e => if e.2.unacked = [] then [] else [.pairBreak e.1])

/-- Candidates of the dispatcher (07, 06 R108). -/
def State.dueDispatch (s : State) : List Instr :=
  (s.disp.signals.filter fun d => !d.posted).map (fun d => .signalOrDone d.grid)
    ++ (if s.disp.items = [] then [] else s.partitions.map fun p => .blockStart p.id)
    ++ (s.disp.blocks.flatMap fun e => [.blockEnd e.1, .dormancy e.1])
    ++ (s.cores.flatMap fun e => dueIf (e.2.taskQueue != []) (.taskGroupTimeout e.1) ++ dueIf (e.2.queue != []) (.activation e.1))

/-- Candidates of the waits and sleeps of a group: they run on while it is not resident (09 R159). -/
def Group.dueWaits (h : Nat) (g : Group) : List Instr :=
  (g.waits.flatMap fun r => dueIf r.due (.waitReread h (r.slices.headD 0)) ++ [.waitDeadline h (r.slices.headD 0)])
    ++ (g.live.filter fun i => (g.slice i).park == .sleep).map (fun i => .sleepDeadline h i) ++ dueIf g.noWake (.noWakeReplay h)

/-- Candidates of one group (08, 09, 15). -/
def Group.due (h : Nat) (g : Group) : List Instr :=
  let park (p : Park) : Bool := g.live.any fun i => (g.slice i).park == p
  let quiet := g.live.any fun i => (g.slice i).state == .parked
  (if g.filling = [] then [] else [.registerFill h, .contextFault h .raised])
    ++ (if quiet then
          dueIf (park .switchPoint) (.resultWrite h) ++ dueIf (park .pendingTrap) (.trapDelivery h)
            ++ ((List.range 8).filter fun j => rejoinA (g.rs (116 + j)) != 0).map (fun j => .quiescenceRelease h (116 + j))
        else [])
    ++ g.dueWaits h

/-- The candidates of the engine commands: a message that a transport carries is ended by the outside (19 R350). -/
def State.dueCommands (s : State) : List Instr :=
  s.cmds.flatMap fun e =>
    match e.2 with
    | none => []
    | some c =>
      match c.work with
      | .send _ _ _ => dueIf (!c.begun) (.engineComplete e.1 .acked) ++ dueIf c.noWake (.noWakeReplay c.group)
      | _ => [.engineComplete e.1 .acked] ++ dueIf c.noWake (.noWakeReplay c.group)

/-- Every candidate, in the order in which the model lets them happen (DESIGN CHOICE, log 2, 5). -/
def State.candidates (s : State) : List Instr :=
  s.cur.due ++ s.dueHost ++ s.dueMemory ++ s.dueDispatch
    ++ (s.groups.flatMap fun e =>
        match e.2 with
        | none => []
        | some g => match g.state with
          | .resident | .idle | .out => g.due e.1
          | .released | .saved => g.dueWaits e.1
          | _ => [])
    ++ s.dueCommands

/-- The first candidate that changes the state, with what it gives (DESIGN CHOICE, log 2). -/
noncomputable def State.firstDue (s : State) : List Instr → Option State
  | [] => none
  | i :: is =>
    match exec i s with
    | .next t => if t = s then State.firstDue s is else some t
    | _ => State.firstDue s is

/-- The slots whose previous generation no frame is bound to any more (04 R75). -/
def State.spentSlots (s : State) : List (Nat × KeySlot) :=
  s.trust.slots.filter fun e => match e.2.prev with
    | none => false
    | some p => !s.trust.frames.any fun f => f.2.bound && f.2.slot.toNat == e.1 && f.2.gen == p.1

/-- Whether the ticks since which blocks are parked have to be noted (07 R118). -/
def State.parksStale (s : State) : Bool :=
  s.disp.blocks.any fun e =>
    match e.2 with
    | none => false
    | some b => s.blockParked b != b.parkedSince.isSome

/-- Whether the migration of a retired frame's pages can go on (13 R237). -/
def State.mayRetire (s : State) : Bool := s.fw.retiring != [] && decide (s.retireStep ≠ s)

/-- Whether what follows by itself from the last step is still to be done: ticks to note, headers to write to context objects
(09 R148), task groups to discard (07 R124), previous generations that end (04 R75), requests to chips that no plane joins
any more (02 R27), and pages of retired frames. -/
def State.untidy (s : State) : Bool :=
  s.parksStale || s.headersStale || s.tasksOver || s.spentSlots != [] || s.lostChips != [] || s.mayRetire || s.mem.touched != []
    || s.mem.grants.any GrantRead.used

/-- Do all of that. -/
def State.tidy (s : State) : State :=
  let s := s.spentSlots.foldl (fun (s : State) e => s.putSlot e.1 { e.2 with prev := none }) s
  let s := s.lostChips.foldl State.cutOff s
  (if s.mayRetire then s.retireStep else s).dropTasks.syncHeaders.trackParks.noteWrites.dropGrants

/-! ### Issue (08 R127, R128) -/

/-- The gangs of a group, by identifier. -/
def Group.gangIds (g : Group) : List Nat := sortKeys (g.live.map fun i => (g.slice i).gang)

/-- Whether a gang is ready: none of its slices is parked and none of its accesses is unanswered. -/
def Group.gangReady (g : Group) (id : Nat) : Bool :=
  let sl := g.gang id
  (sl.all fun i => decide ((g.slice i).state = .ready)) && !g.groupParked
    && !g.headerWaits && !g.memOps.any fun o => o.slices.any fun i => sl.contains i

/-- The ready gang at or after the gang pointer, with wrap. -/
def Group.readyGang (g : Group) : Option Nat :=
  let ids := g.gangIds.filter g.gangReady
  (ids.find? fun i => decide (g.gangPtr ≤ i)).or ids.head?

/-- A gang that is to issue: core, port, slot, group and gang. -/
structure Turn where
  core : Nat
  port : Nat
  slot : Nat
  group : Nat
  gang : Nat
  deriving DecidableEq, Repr

/-- The turn of one slot of a port, if its group has a ready gang. -/
def State.slotTurn (s : State) (core : Nat) (e : Nat × Option Nat) : Option Turn :=
  e.2.bind fun h => (s.group h).bind fun g =>
    if g.state = .resident ∧ !s.saving h then
      g.readyGang.map fun id => { core := core, port := e.1 / 32, slot := e.1 % 32, group := h, gang := id }
    else none

/-- The turn of a port: the first group with a ready gang at or after the group pointer, with wrap (DESIGN CHOICE, log 2). -/
def State.portTurn (s : State) (core : Nat) (c : Core) (port : Nat) : Option Turn :=
  let mine := c.slots.filter fun e => e.1 / 32 == port
  let p := Sparse.get 0 c.groupPtr port
  let order := mine.filter (fun e => decide (p ≤ e.1 % 32)) ++ mine.filter (fun e => decide (e.1 % 32 < p))
  order.findSome? (s.slotTurn core)

/-- The turns of the ports of one core. -/
def State.coreTurns (s : State) (e : Nat × Core) : List Turn :=
  if e.2.parked || !s.dieRuns (dieOf e.1) then [] else (List.range 4).filterMap fun p => s.portTurn e.1 e.2 p

/-- The gang that issues now: the ports take turns in the order of their cores (DESIGN CHOICE, log 2). -/
def State.nextTurn (s : State) : Option Turn :=
  let ts := s.cores.flatMap s.coreTurns
  (ts.find? fun t => decide (s.turn ≤ 4 * t.core + t.port)).or ts.head?

/-- The wait of every rejoin register counts from the tick at which its A last became nonzero (08 R135). -/
def Group.stampJoins (g : Group) (now : W64) : Group :=
  let stale (r : Nat) : Bool := (rejoinA (g.rs r) == 0) != (Sparse.get 0 g.joinSince r == 0)
  (((List.range 8).map fun i => 116 + i).filter stale).foldl (fun (g : Group) r =>
    { g with joinSince := Sparse.set 0 g.joinSince r (if rejoinA (g.rs r) = 0 then 0 else now) }) g

/-- One tick: TICK of every running die, and the watchdogs of running firmware (14 R261, 03 R58) (DESIGN CHOICE, log 48). -/
def State.ticked (s : State) : State :=
  let dies := (List.range 4).filter s.dieRuns
  { s with
    groups := s.groups.map fun e => (e.1, e.2.map fun g => g.stampJoins (s.tickOf (dieOf g.core)))
    pkg := { s.pkg with tick := dies.foldl (fun (m : Sparse W64) d => Sparse.set 0 m d (Sparse.get 0 m d + 1)) s.pkg.tick }
    fw := if s.fw.state = 1 then
        { s.fw with watchdog := dies.foldl (fun (m : Sparse Nat) d => Sparse.set 10000000 m d (s.watchdog d - 1)) s.fw.watchdog }
      else s.fw }

/-- The gang of a turn starts an instruction: the pointers go past it (R128 item 3). -/
def State.starts (s : State) (t : Turn) : State :=
  let c : Core := Sparse.get {} s.cores t.core
  let s : State := { s with
    turn := 4 * t.core + t.port + 1, serial := s.serial + 1
    cores := Sparse.set {} s.cores t.core { c with groupPtr := Sparse.set 0 c.groupPtr t.port ((t.slot + 1) % 32) } }
  match s.group t.group with
  | none => s.ticked
  | some g =>
    let g := { g with gangPtr := (t.gang + 1) % 24, lastIssue := s.serial, issued := true }
    ({ s with groups := Sparse.set none s.groups t.group (some g) } : State).ticked

/-- The cursor of a turn. -/
def Group.cursorOf (g : Group) (t : Turn) : Cursor :=
  { core := t.core, group := t.group, slices := g.gang t.gang, pc := (g.slice ((g.gang t.gang).headD 0)).pc }

/-- A fetched word, as the gang of a turn meets it: undecodable, it raises UND; with context lines absent, the gang takes the
register-miss park and the lines are asked for; else the instruction is executed. -/
noncomputable def State.runWord (s : State) (t : Turn) (w : W32) : Res :=
  match s.group t.group with
  | none => .next s.ticked
  | some g =>
    match decode w with
    | none => ((s.starts t).issue fun g => (s.starts t).trapHere g .und)
    | some i =>
      let lines := g.absent (g.needs s.cursor.slices i)
      if lines = [] then exec i (s.starts t)
      else
        let g := { g with askedAt := if g.filling = [] then s.serial else g.askedAt }
        .next (s.putGroup t.group ((g.askLines lines).mapSlices (fun _ sl => sl.parkAt .registerMiss 0 0) s.cursor.slices))

/-- The gang of a turn fetches and issues. -/
noncomputable def State.issueTurn (s : State) (t : Turn) : Res :=
  match s.group t.group with
  | none => .next s.ticked
  | some g =>
    let c := g.cursorOf t
    match ({ s with cursor := c } : State).fetch t.group g c.slices c.pc with
    | (s, none) => .next s
    | (s, some w) => s.runWord t w

/-- The resets that end a thermal trip (01 R16, R20). -/
def endsTrip : Instr → Bool
  | .powerOn _ => true
  | .coldReset _ => true
  | _ => false

/-- Nothing arrives from outside and no block's parks have to be noted: the internal events that are due happen first, then
a gang issues, and with nothing to do a tick passes (DESIGN CHOICE, log 1). -/
noncomputable def State.proceed (s : State) : Res :=
  match s.firstDue s.candidates with
  | some t => .next t
  | none =>
    match s.nextTurn with
    | some t => s.issueTurn t
    | none => .next s.ticked

/-- The state in which a step begins: its free values are fresh ones (DESIGN CHOICE, log 3). -/
def State.fresh (s : State) : State := { s with free := s.free + 1 }

/-- The word stored where the firmware core of die 0 fetches first: its image, of one instruction, stands in the firmware
region and the core starts at body offset 0 (03 R57, R61) (DESIGN CHOICE, log 12). -/
def State.withFirmwareWord (s : State) (w : Nat) : State :=
  let region := Sparse.setAll 0 s.fw.region
    (byteList 8 8 4 ++ byteList 0x100 4 w)
  let s : State := { s with
    agenda := [], turn := 640
    pkg := { s.pkg with running := 1, dropped := 0, inReset := false, tripped := false }
    fw := { s.fw with region := region, state := 1 } }
  s.startFwc 0

end Sys2Proof.Machine
end

