-- ==== Sys2Proof/Machine/Step.lean ====
section
/-! DEFINITION. One step of the machine: the oldest happening that waits in the agenda; else what is due on the chip; else
one instruction of the gang whose turn it is; else a tick. -/

namespace Sys2Proof.Machine

/-- One step. While THERMTRIP_N is low every clock is gated: of what arrives only a power-on or a cold reset has an effect,
and with nothing left to arrive nothing happens (01 R20) (DESIGN CHOICE, log 2). -/
noncomputable def step (s : State) : Host.Outcome State Fault Refusal :=
  let s := s.fresh
  match s.agenda with
  | i :: rest =>
    if s.pkg.tripped && !endsTrip i then .next { s with agenda := rest } else exec i { s with agenda := rest }
  | [] =>
    if s.pkg.tripped then .fault .clocksGated
    else if s.untidy then .next s.tidy
    else s.proceed

/-- The state with a word stored where the next step fetches: the first instruction of the firmware core of die 0. It is the
load of a one-instruction firmware image (03 R57, R61), for a state in which nothing else is due (DESIGN CHOICE, log 12). -/
def State.withFetchWord (s : State) (nbits w : Nat) : State := s.withFirmwareWord (w % 2 ^ nbits)

end Sys2Proof.Machine
end

