-- ==== Sys2Proof/Safety.lean ====
section
/-! DEFINITION. What counts as a safe run, in the terms that claims use. -/

namespace Sys2Proof.Machine

/-- A step from the state gives a next state: the machine neither stops nor is refused. -/
def Goes (s : State) : Prop := ∃ t, step s = .next t

/-- A run of `k` steps from the state meets no stop. -/
def SafeFor : Nat → State → Prop
  | 0, _ => True
  | k + 1, s => ∃ t, step s = .next t ∧ SafeFor k t

/-- A property of states that every step keeps. -/
def Kept (inv : State → Prop) : Prop := ∀ s t, inv s → step s = .next t → inv t

end Sys2Proof.Machine
end

