-- ==== Sys2Proof/Certificates/Slice0/Obligations.lean ====
section
/-! DEFINITION. The statements for the provers, and the few predicates that they share. A statement about an Efgus instruction
is about `exec` in a state whose cursor names the issuing gang (08 R128); its conclusion is the next state. -/

namespace Sys2Proof.Claims

open Sys2Proof.Machine

noncomputable section

/-! ### What the statements share -/

/-- The cursor names the group, and slices of it, each once: a gang that issues an instruction (08 R128, R129). -/
def Issues (s : State) (g : Group) : Prop :=
  s.group s.cursor.group = some g ∧ s.cursor.slices.Nodup ∧ ∀ i ∈ s.cursor.slices, i < 24

/-- The state in which the issuing group has become `g`, and its gang goes on at the next instruction: it parks there when the
instruction carries the switch bit and results are pending (08 R137). -/
def after (s : State) (y : Bool) (g : Group) : State :=
  s.putGroup s.cursor.group (g.goTo s.cursor.slices (s.cursor.pc + 4) y)

/-- A new scalar value where a write reaches it: s0 keeps zero, s116-s123 take bits [63:48] and the slices' bits of E and A,
s125-s127 take the bits of the slices' lanes, every other register takes all of it (15 R262, 08 R131). -/
def merged (g : Group) (sl : List Nat) (r : Nat) (v : W64) : W64 :=
  let m : W64 :=
    if r = 0 then 0
    else if 116 ≤ r ∧ r ≤ 123 then 0xFFFF000000000000#64 ||| sliceBits sl ||| (sliceBits sl <<< 24)
    else if 125 ≤ r then ((g.ownBits sl).extractLsb' (32 * (r - 125)) 32).setWidth 64
    else BitVec.allOnes 64
  (g.rs r &&& ~~~m) ||| (v &&& m)

/-- Scalar register d takes a value, older pending results and unanswered loads lose their write to the bits written, and nothing else of the group
changes. -/
def ScalarWrite (g g' : Group) (sl : List Nat) (d : Nat) (v : W64) : Prop :=
  (∀ r, g'.rs r = if r = d then merged g sl d v else g.rs r)
    ∧ g' = { g with s := g'.s, pending := g.pending.map (Pending.dropS d (g.takes sl d)),
                    memOps := g.memOps.map (MemOp.dropS d (g.takes sl d)) }

/-- Some register lanes, named by their keys, take values; no other register lane changes, older pending results lose their
writes to them, and nothing else of the group changes. -/
def VectorWrite (g g' : Group) (keys : List Nat) : Prop :=
  (∀ k, k ∉ keys → Sparse.get 0 g'.v k = Sparse.get 0 g.v k)
    ∧ g' = { g with v := g'.v, pending := g.pending.map (Pending.dropV keys) }

/-- Every active lane's 32-bit register at window position d takes its value, and nothing else of the group changes. -/
def LaneWrite (g g' : Group) (sl : List Nat) (d : Nat) (v : Nat → W32) : Prop :=
  (∀ l ∈ g.active sl, g'.rv d l = v l) ∧ VectorWrite g g' ((g.active sl).map (g.vkey d))

/-- Every active lane's register pair at window position d takes its value, and nothing else of the group changes. -/
def PairWrite (g g' : Group) (sl : List Nat) (d : Nat) (v : Nat → W64) : Prop :=
  (∀ l ∈ g.active sl, g'.rp d l = v l)
    ∧ VectorWrite g g' ((g.active sl).flatMap fun l => [g.vkey d l, g.vkey (d + 1) l])

/-- A write of every active lane's 32-bit register, or pair in a 64-bit form. -/
def FormWrite (wide : Bool) (g g' : Group) (sl : List Nat) (d : Nat) (v : Nat → Nat) : Prop :=
  if wide then PairWrite g g' sl d fun l => BitVec.ofNat 64 (v l) else LaneWrite g g' sl d fun l => BitVec.ofNat 32 (v l)

/-- The gang's bits of the triple from s_d take a value, each bit where a write may reach its register; no other bit of a
scalar register changes, older pending results lose their writes to the three registers, and nothing else of the group
changes (08 R131, 15 R265). -/
def TripleWrite (g g' : Group) (sl : List Nat) (d : Nat) (v : BitVec 96) : Prop :=
  (∀ r, g'.rs r =
      if d ≤ r ∧ r ≤ d + 2 then
        let own : W64 := ((g.ownBits sl).extractLsb' (32 * (r - d)) 32).setWidth 64
        merged g sl r ((g.rs r &&& ~~~own) ||| ((v.extractLsb' (32 * (r - d)) 32).setWidth 64 &&& own))
      else g.rs r)
    ∧ g' = { g with s := g'.s, pending := ((g.pending.map (Pending.dropS d (g.takes sl d))).map
                      (Pending.dropS (d + 1) (g.takes sl (d + 1)))).map (Pending.dropS (d + 2) (g.takes sl (d + 2))),
                    memOps := ((g.memOps.map (MemOp.dropS d (g.takes sl d))).map
                      (MemOp.dropS (d + 1) (g.takes sl (d + 1)))).map (MemOp.dropS (d + 2) (g.takes sl (d + 2))) }

/-! ### The forms of the scalar classes (15 R263-R266, R280; 14 R258; 16 R301; 17 R314) -/

/-- 1 or 0. -/
def bit (p : Bool) : W64 := if p then 1 else 0

/-- Class 0 (15 R263): each instruction with the value that s_d takes, from the values of s_a and s_b. -/
def class0 (y : Bool) (d a b : Fld) : List (Instr × (W64 → W64 → W64)) :=
  [(Instr.sadd y d a b, fun x z => x + z), (Instr.ssub y d a b, fun x z => x - z), (Instr.smul y d a b, fun x z => x * z),
   (Instr.smulhI y d a b, fun x z => BitVec.ofInt 64 (x.toInt * z.toInt / 2 ^ 64)),
   (Instr.smulhN y d a b, fun x z => BitVec.ofNat 64 (x.toNat * z.toNat / 2 ^ 64)),
   (Instr.sdivI y d a b, fun x z => if z = 0 then BitVec.allOnes 64 else BitVec.ofInt 64 (Int.tdiv x.toInt z.toInt)),
   (Instr.sdivN y d a b, fun x z => if z = 0 then BitVec.allOnes 64 else x / z),
   (Instr.sremI y d a b, fun x z => if z = 0 then x else BitVec.ofInt 64 (Int.tmod x.toInt z.toInt)),
   (Instr.sremN y d a b, fun x z => if z = 0 then x else x % z),
   (Instr.sand y d a b, fun x z => x &&& z), (Instr.sor y d a b, fun x z => x ||| z), (Instr.sxor y d a b, fun x z => x ^^^ z),
   (Instr.sandn y d a b, fun x z => x &&& ~~~z),
   (Instr.sshl y d a b, fun x z => x <<< (z.toNat % 64)), (Instr.sshrN y d a b, fun x z => x >>> (z.toNat % 64)),
   (Instr.sshrI y d a b, fun x z => x.sshiftRight (z.toNat % 64)), (Instr.sror y d a b, fun x z => x.rotateRight (z.toNat % 64))]
  ++ [(Instr.sminI y d a b, fun x z => if x.toInt ≤ z.toInt then x else z), (Instr.sminN y d a b, fun x z => if x.toNat ≤ z.toNat then x else z),
   (Instr.smaxI y d a b, fun x z => if x.toInt ≤ z.toInt then z else x), (Instr.smaxN y d a b, fun x z => if x.toNat ≤ z.toNat then z else x),
   (Instr.sseq y d a b, fun x z => bit (x == z)), (Instr.ssne y d a b, fun x z => bit (x != z)),
   (Instr.ssltI y d a b, fun x z => bit (decide (x.toInt < z.toInt))), (Instr.ssltN y d a b, fun x z => bit (decide (x.toNat < z.toNat))),
   (Instr.ssleI y d a b, fun x z => bit (decide (x.toInt ≤ z.toInt))), (Instr.ssleN y d a b, fun x z => bit (decide (x.toNat ≤ z.toNat))),
   (Instr.spopc y d a, fun x _ => BitVec.ofNat 64 ((List.range 64).countP x.getLsbD)),
   (Instr.sclz y d a, fun x _ => if x = 0 then 64 else BitVec.ofNat 64 (63 - Nat.log2 x.toNat)),
   (Instr.sctz y d a, fun x _ => BitVec.ofNat 64 (((List.range 64).find? x.getLsbD).getD 64)),
   (Instr.slea4 y d a b, fun x z => x + 4 * z), (Instr.slea8 y d a b, fun x z => x + 8 * z)]

/-- The forms with an immediate (15 R264, 14 R258): each with the value that s_d takes, from the values of s_d and s_a. -/
def scalarImm (y : Bool) (d a : Fld) (i : BitVec 10) (n : BitVec 6) (w : BitVec 18) : List (Instr × (W64 → W64 → W64)) :=
  [(Instr.saddi y d a i, fun _ x => x + i.signExtend 64), (Instr.sandi y d a i, fun _ x => x &&& i.signExtend 64),
   (Instr.sori y d a i, fun _ x => x ||| i.signExtend 64), (Instr.sxori y d a i, fun _ x => x ^^^ i.signExtend 64),
   (Instr.ssltiI y d a i, fun _ x => bit (decide (x.toInt < i.toInt))),
   (Instr.sshli y d a n, fun _ x => x <<< n.toNat), (Instr.sshriN y d a n, fun _ x => x >>> n.toNat),
   (Instr.sshriI y d a n, fun _ x => x.sshiftRight n.toNat),
   (Instr.sli y d w, fun _ _ => w.signExtend 64), (Instr.slis y d w, fun old _ => (old <<< 18) ||| w.setWidth 64)]

/-- Mask counts, votes and capability fields (15 R266, 16 R301, 17 R314): each with the value that s_d takes. -/
def scalarFromMasks (y : Bool) (d a k : Fld) : List (Instr × (Group → List Nat → W64)) :=
  let mine (g : Group) (sl : List Nat) : BitVec 96 := g.triple a.toNat &&& g.ownBits sl
  [(Instr.mpopc y d a, fun g sl => BitVec.ofNat 64 ((List.range 96).countP (mine g sl).getLsbD)),
   (Instr.mfirst y d a, fun g sl =>
      match (List.range 96).find? (mine g sl).getLsbD with
      | some l => BitVec.ofNat 64 l
      | none => BitVec.allOnes 64),
   (Instr.voteAny y d a, fun g sl => bit ((List.range 96).any fun l => (g.triple a.toNat &&& g.activeBits sl).getLsbD l)),
   (Instr.voteAll y d a, fun g sl => bit ((List.range 96).all fun l =>
      !(g.activeBits sl).getLsbD l || (g.triple a.toNat).getLsbD l)),
   (Instr.cget y d a k, fun g _ =>
      let c := g.rc a.toNat
      if k = 0 then c.home.setWidth 64 else if k = 1 then c.object.setWidth 64 else if k = 2 then c.base.setWidth 64
      else if k = 3 then c.length.setWidth 64 else if k = 4 then c.rights.setWidth 64 else bit c.tag)]

end

end Sys2Proof.Claims

open Sys2Proof Sys2Proof.Machine Sys2Proof.Claims

/-- 15 R263, R262: every class 0 instruction writes its result to s_d, and the join test of s116-s123 follows.
15 R264, 14 R258, 15 R262: the immediate forms.
15 R266, 16 R301, 17 R314: mask counts, votes and capability fields. -/
def Obligations.ScalarResults : Prop :=
  (∀ (s : State) (g : Group) (y : Bool) (d a b : Fld), Issues s g → ∀ e ∈ class0 y d a b,
    ∃ g' : Group, exec e.1 s = .next (after s y (g'.recheckJoin s.cursor.slices d.toNat))
      ∧ ScalarWrite g g' s.cursor.slices d.toNat (e.2 (g.rs a.toNat) (g.rs b.toNat)))
    ∧ (∀ (s : State) (g : Group) (y : Bool) (d a : Fld) (i : BitVec 10) (n : BitVec 6) (w : BitVec 18), Issues s g →
    ∀ e ∈ scalarImm y d a i n w,
      ∃ g' : Group, exec e.1 s = .next (after s y (g'.recheckJoin s.cursor.slices d.toNat))
        ∧ ScalarWrite g g' s.cursor.slices d.toNat (e.2 (g.rs d.toNat) (g.rs a.toNat)))
    ∧ (∀ (s : State) (g : Group) (y : Bool) (d a k : Fld), Issues s g → k.toNat ≤ 5 → ∀ e ∈ scalarFromMasks y d a k,
    ∃ g' : Group, exec e.1 s = .next (after s y (g'.recheckJoin s.cursor.slices d.toNat))
      ∧ ScalarWrite g g' s.cursor.slices d.toNat (e.2 g s.cursor.slices))

namespace Sys2Proof.Claims

open Sys2Proof.Machine

noncomputable section

/-! ### The forms of the vector integer class (16 R286-R289, 14 R258, 15 R266) -/

/-- The 32-bit lane forms without flags: each with the vector operands it reads and the value that lane l of v_d takes. -/
def laneForms (y : Bool) (d a b : Fld) (i : BitVec 10) (n : BitVec 5) (w : BitVec 18) :
    List (Instr × List Fld × (Group → Nat → W32)) :=
  let two (f : W32 → W32 → W32) (g : Group) (l : Nat) : W32 := f (g.rv a.toNat l) (g.rv b.toNat l)
  let one (f : W32 → W32) (g : Group) (l : Nat) : W32 := f (g.rv a.toNat l)
  let byte (x : W32) (k : Nat) : BitVec 8 := x.extractLsb' (8 * k) 8
  let dot (f : BitVec 8 → Int) (g : Group) (l : Nat) : W32 :=
    g.rv d.toNat l + BitVec.ofInt 32 (((List.range 4).map fun k => f (byte (g.rv a.toNat l) k) * f (byte (g.rv b.toNat l) k)).sum)
  [(Instr.vadd y d a b, [a, b], two fun x z => x + z), (Instr.vsub y d a b, [a, b], two fun x z => x - z),
   (Instr.vmul y d a b, [a, b], two fun x z => x * z),
   (Instr.vmulhI y d a b, [a, b], two fun x z => BitVec.ofInt 32 (x.toInt * z.toInt / 2 ^ 32)),
   (Instr.vmulhN y d a b, [a, b], two fun x z => BitVec.ofNat 32 (x.toNat * z.toNat / 2 ^ 32)),
   (Instr.vand y d a b, [a, b], two fun x z => x &&& z), (Instr.vor y d a b, [a, b], two fun x z => x ||| z),
   (Instr.vxor y d a b, [a, b], two fun x z => x ^^^ z), (Instr.vandn y d a b, [a, b], two fun x z => x &&& ~~~z),
   (Instr.vshl y d a b, [a, b], two fun x z => x <<< (z.toNat % 32)),
   (Instr.vshrN y d a b, [a, b], two fun x z => x >>> (z.toNat % 32)),
   (Instr.vshrI y d a b, [a, b], two fun x z => x.sshiftRight (z.toNat % 32)),
   (Instr.vminI y d a b, [a, b], two fun x z => if x.toInt ≤ z.toInt then x else z),
   (Instr.vminN y d a b, [a, b], two fun x z => if x.toNat ≤ z.toNat then x else z),
   (Instr.vmaxI y d a b, [a, b], two fun x z => if x.toInt ≤ z.toInt then z else x),
   (Instr.vmaxN y d a b, [a, b], two fun x z => if x.toNat ≤ z.toNat then z else x)]
  ++ [(Instr.vdot4I8 y d a b, [a, b], dot fun c => c.toInt), (Instr.vdot4N8 y d a b, [a, b], dot fun c => (c.toNat : Int)),
   (Instr.vpopc y d a, [a], one fun x => BitVec.ofNat 32 ((List.range 32).countP x.getLsbD)),
   (Instr.vclz y d a, [a], one fun x => if x = 0 then 32 else BitVec.ofNat 32 (31 - Nat.log2 x.toNat)),
   (Instr.vmov y d a, [a], one fun x => x), (Instr.vdup y d a, [], fun g _ => (g.rs a.toNat).setWidth 32),
   (Instr.vaddi y d a i, [a], one fun x => x + i.signExtend 32), (Instr.vandi y d a i, [a], one fun x => x &&& i.signExtend 32),
   (Instr.vori y d a i, [a], one fun x => x ||| i.signExtend 32), (Instr.vxori y d a i, [a], one fun x => x ^^^ i.signExtend 32),
   (Instr.vshli y d a n, [a], one fun x => x <<< n.toNat), (Instr.vshriN y d a n, [a], one fun x => x >>> n.toNat),
   (Instr.vshriI y d a n, [a], one fun x => x.sshiftRight n.toNat), (Instr.vmovi y d i, [], fun _ _ => i.signExtend 32),
   (Instr.vli y d w, [], fun _ _ => w.signExtend 32),
   (Instr.vlih y d w, [d], fun g l => (w.setWidth 32 <<< 14) ||| ((g.rv d.toNat l).setWidth 14).setWidth 32),
   (Instr.mtov y d a, [], fun g l => if (g.triple a.toNat).getLsbD (g.visLane l) then 1 else 0)]

/-- The saturating forms (16 R286): each with the exact result of lane l and the bounds of its type. -/
def saturatingForms (y : Bool) (d a b : Fld) : List (Instr × (Group → Nat → Int) × Int × Int) :=
  let i (f : Int → Int → Int) (g : Group) (l : Nat) : Int := f (g.rv a.toNat l).toInt (g.rv b.toNat l).toInt
  let n (f : Int → Int → Int) (g : Group) (l : Nat) : Int := f (g.rv a.toNat l).toNat (g.rv b.toNat l).toNat
  [(Instr.vaddsI y d a b, i fun x z => x + z, -2 ^ 31, 2 ^ 31 - 1), (Instr.vsubsI y d a b, i fun x z => x - z, -2 ^ 31, 2 ^ 31 - 1),
   (Instr.vaddsN y d a b, n fun x z => x + z, 0, 2 ^ 32 - 1), (Instr.vsubsN y d a b, n fun x z => x - z, 0, 2 ^ 32 - 1)]

/-- A number kept between two bounds. -/
def clamp (t lo hi : Int) : Int := max lo (min hi t)

/-- The 64-bit pair forms (16 R288): each with whether its second operand is a pair, and the value of lane l's pair at d. -/
def pairForms (y : Bool) (d a b : Fld) : List (Instr × Bool × (Group → Nat → W64)) :=
  let c (g : Group) (l : Nat) : Nat := (g.rv b.toNat l).toNat % 64
  [(Instr.vaddI64 y d a b, true, fun g l => g.rp a.toNat l + g.rp b.toNat l),
   (Instr.vsubI64 y d a b, true, fun g l => g.rp a.toNat l - g.rp b.toNat l),
   (Instr.vshlI64 y d a b, false, fun g l => g.rp a.toNat l <<< c g l),
   (Instr.vshrN64 y d a b, false, fun g l => g.rp a.toNat l >>> c g l),
   (Instr.vshrI64 y d a b, false, fun g l => (g.rp a.toNat l).sshiftRight (c g l))]

/-! ### The floating-point forms (16 R290-R294) -/

/-- The interlocked forms of class 4: each with its vector operands and the bits and flags of lane l. -/
def floatForms (y f : Bool) (d a b : Fld) : List (Instr × List Fld × (Group → Nat → Nat × BitVec 6)) :=
  let t := fmtW f
  let u (g : Group) (r : Fld) (l : Nat) : Machine.Num := t.unpack (g.val f r.toNat l)
  [(Instr.fadd y f d a b, [d, a, b], fun g l => t.add g.rm (u g a l) (u g b l)),
   (Instr.fsub y f d a b, [d, a, b], fun g l => t.add g.rm (u g a l) (u g b l).negate),
   (Instr.fmul y f d a b, [d, a, b], fun g l => t.mul g.rm (u g a l) (u g b l)),
   (Instr.ffma y f d a b, [d, a, b], fun g l => t.fma g.rm (u g a l) (u g b l) (u g d l)),
   (Instr.ffms y f d a b, [d, a, b], fun g l => t.fma g.rm (u g a l).negate (u g b l) (u g d l)),
   (Instr.faddRn y f d a b, [d, a, b], fun g l => t.add .rne (u g a l) (u g b l)),
   (Instr.fsubRn y f d a b, [d, a, b], fun g l => t.add .rne (u g a l) (u g b l).negate),
   (Instr.fmulRn y f d a b, [d, a, b], fun g l => t.mul .rne (u g a l) (u g b l)),
   (Instr.ffmaRn y f d a b, [d, a, b], fun g l => t.fma .rne (u g a l) (u g b l) (u g d l)),
   (Instr.fmin y f d a b, [d, a, b], fun g l => t.minMax true (g.val f a.toNat l) (g.val f b.toNat l)),
   (Instr.fmax y f d a b, [d, a, b], fun g l => t.minMax false (g.val f a.toNat l) (g.val f b.toNat l)),
   (Instr.fabs y f d a, [d, a], fun g l => (g.val f a.toNat l % t.signBit, 0)),
   (Instr.fneg y f d a, [d, a], fun g l => (g.val f a.toNat l ^^^ t.signBit, 0)),
   (Instr.frnd y f d a, [d, a], fun g l => t.rint g.rm (g.val f a.toNat l))]

/-- The packed forms (16 R294): each with its format and the operation on one 16-bit element of a, b and d. -/
def halfForms (y : Bool) (d a b : Fld) : List (Instr × Fmt × (RMode → Machine.Num → Machine.Num → Machine.Num → Nat × BitVec 6)) :=
  [(Instr.hadd2F16 y d a b, fF16, fun r x z _ => fF16.add r x z), (Instr.hmul2F16 y d a b, fF16, fun r x z _ => fF16.mul r x z),
   (Instr.hfma2F16 y d a b, fF16, fun r x z w => fF16.fma r x z w),
   (Instr.hadd2Bf16 y d a b, fBF16, fun r x z _ => fBF16.add r x z),
   (Instr.hmul2Bf16 y d a b, fBF16, fun r x z _ => fBF16.mul r x z),
   (Instr.hfma2Bf16 y d a b, fBF16, fun r x z w => fBF16.fma r x z w)]

/-- Element k of a packed register. -/
def half (t : Fmt) (g : Group) (r k l : Nat) : Machine.Num := t.unpack ((g.rv r l).extractLsb' (16 * k) 16).toNat

/-- The forms of class 4 and 5 whose result is pending: each with its vector operands and the bits and flags of lane l. -/
def slowFloatForms (y f : Bool) (d a b : Fld) : List (Instr × List Fld × (Group → Nat → Nat × BitVec 6)) :=
  let t := fmtW f
  let u (g : Group) (r : Fld) (l : Nat) : Machine.Num := t.unpack (g.val f r.toNat l)
  [(Instr.fdiv y f d a b, [d, a, b], fun g l => t.div g.rm (u g a l) (u g b l)),
   (Instr.fsqrt y f d a, [d, a], fun g l => t.sqrt g.rm (u g a l))]

/-- The special functions (16 R293): each with its function of an F32. -/
def sfuForms (y : Bool) (d a : Fld) : List (Instr × (W32 → W32 × BitVec 6)) :=
  [(Instr.frcp y d a, rcp32), (Instr.frsq y d a, rsq32), (Instr.fexp2 y d a, exp232), (Instr.flog2 y d a, log232),
   (Instr.fsin y d a, trig32 4), (Instr.fcos y d a, trig32 5), (Instr.ftanh y d a, tanh32)]

/-! ### The forms that write a triple (15 R265, R266; 16 R287, R292, R301) -/

/-- Compares: each with what must lie in the window, and the condition of a physical lane. -/
def compareForms (y f : Bool) (d a b : Fld) : List (Instr × (Group → Bool) × (Group → Nat → Bool)) :=
  let ints (p : W32 → W32 → Prop) [∀ x z, Decidable (p x z)] (g : Group) (l : Nat) : Bool :=
    decide (p (g.rv a.toNat l) (g.rv b.toNat l))
  let floats (p : Machine.Num → Machine.Num → Bool) (g : Group) (l : Nat) : Bool :=
    p ((fmtW f).unpack (g.val f a.toNat l)) ((fmtW f).unpack (g.val f b.toNat l))
  let both (g : Group) : Bool := g.inWindow a.toNat && g.inWindow b.toNat
  let vals (g : Group) : Bool := g.valIn f a.toNat && g.valIn f b.toNat
  [(Instr.vceq y d a b, both, ints fun x z => x = z), (Instr.vcne y d a b, both, ints fun x z => x ≠ z),
   (Instr.vcltI y d a b, both, ints fun x z => x.toInt < z.toInt), (Instr.vcltN y d a b, both, ints fun x z => x.toNat < z.toNat),
   (Instr.vcleI y d a b, both, ints fun x z => x.toInt ≤ z.toInt), (Instr.vcleN y d a b, both, ints fun x z => x.toNat ≤ z.toNat),
   (Instr.fceq y f d a b, vals, floats Num.eqv), (Instr.fclt y f d a b, vals, floats Num.lt),
   (Instr.fcle y f d a b, vals, floats Num.le), (Instr.fcun y f d a b, vals, floats fun x z => x.isNan || z.isNan),
   (Instr.mfromv y d a, fun g => g.inWindow a.toNat, fun g l => decide (g.rv a.toNat l ≠ 0))]

/-- Mask operations: each with the value whose bits of the gang the triple takes. -/
def maskForms (y : Bool) (d a b : Fld) : List (Instr × (Group → List Nat → BitVec 96)) :=
  [(Instr.mand y d a b, fun g _ => g.triple a.toNat &&& g.triple b.toNat),
   (Instr.mor y d a b, fun g _ => g.triple a.toNat ||| g.triple b.toNat),
   (Instr.mxor y d a b, fun g _ => g.triple a.toNat ^^^ g.triple b.toNat),
   (Instr.mandn y d a b, fun g _ => g.triple a.toNat &&& ~~~(g.triple b.toNat)),
   (Instr.mnot y d a, fun g _ => ~~~(g.triple a.toNat)), (Instr.mmov y d a, fun g _ => g.triple a.toNat),
   (Instr.voteBal y d a, fun g sl => g.triple a.toNat &&& g.activeBits sl)]

/-! ### Lane crossings (16 R299-R302) -/

/-- The shuffles: each with its sub-group size n, the vector operand of its index, and the index from the lane and its
place in the sub-group. -/
def shuffles (y : Bool) (d a b : Fld) : List (Instr × Nat × List Fld × (Group → Nat → Nat → Nat)) :=
  let idx (n : Nat) (g : Group) (l _ : Nat) : Nat := (g.rv b.toNat l).toNat % n
  let xor (n : Nat) (g : Group) (_ i : Nat) : Nat := (BitVec.ofNat 64 i ^^^ g.rs b.toNat).toNat % n
  let up (n : Nat) (g : Group) (_ i : Nat) : Nat := (i + n - (g.rs b.toNat).toNat % n) % n
  let dn (n : Nat) (g : Group) (_ i : Nat) : Nat := (i + (g.rs b.toNat).toNat % n) % n
  let cast (n : Nat) (g : Group) (_ _ : Nat) : Nat := (g.rs b.toNat).toNat % n
  [(Instr.shflIdxW4 y d a b, 4, [b], idx 4), (Instr.shflIdxW8 y d a b, 8, [b], idx 8), (Instr.shflIdxW16 y d a b, 16, [b], idx 16),
   (Instr.shflIdxW32 y d a b, 32, [b], idx 32), (Instr.shflIdxW64 y d a b, 64, [b], idx 64),
   (Instr.shflIdxW96 y d a b, 96, [b], idx 96)]
  ++ [(Instr.shflXorW4 y d a b, 4, [], xor 4), (Instr.shflXorW8 y d a b, 8, [], xor 8), (Instr.shflXorW16 y d a b, 16, [], xor 16),
   (Instr.shflXorW32 y d a b, 32, [], xor 32), (Instr.shflXorW64 y d a b, 64, [], xor 64), (Instr.shflXorW96 y d a b, 96, [], xor 96)]
  ++ [(Instr.shflUpW4 y d a b, 4, [], up 4), (Instr.shflUpW8 y d a b, 8, [], up 8), (Instr.shflUpW16 y d a b, 16, [], up 16),
   (Instr.shflUpW32 y d a b, 32, [], up 32), (Instr.shflUpW64 y d a b, 64, [], up 64), (Instr.shflUpW96 y d a b, 96, [], up 96)]
  ++ [(Instr.shflDnW4 y d a b, 4, [], dn 4), (Instr.shflDnW8 y d a b, 8, [], dn 8), (Instr.shflDnW16 y d a b, 16, [], dn 16),
   (Instr.shflDnW32 y d a b, 32, [], dn 32), (Instr.shflDnW64 y d a b, 64, [], dn 64), (Instr.shflDnW96 y d a b, 96, [], dn 96)]
  ++ [(Instr.vbcastW4 y d a b, 4, [], cast 4), (Instr.vbcastW8 y d a b, 8, [], cast 8), (Instr.vbcastW16 y d a b, 16, [], cast 16),
   (Instr.vbcastW32 y d a b, 32, [], cast 32), (Instr.vbcastW64 y d a b, 64, [], cast 64), (Instr.vbcastW96 y d a b, 96, [], cast 96)]

/-- What lane l takes from visible lane src in its own copy: its own value when src is not in Active() (16 R299, 08 R143). -/
def taken (g : Group) (sl : List Nat) (a src l : Nat) : W32 :=
  if src < g.visible ∧ (g.activeBits sl).getLsbD src then g.rv a (if g.prot then 2 * src + l % 2 else src) else g.rv a l

/-- The reductions and scans: each with whether it is a scan, and its sub-group size. -/
def reductions (y : Bool) (d a : Fld) (o : BitVec 3) (t : BitVec 2) : List (Instr × Bool × Nat) :=
  [(Instr.vredW4 y d a o t, false, 4), (Instr.vredW8 y d a o t, false, 8), (Instr.vredW16 y d a o t, false, 16),
   (Instr.vredW32 y d a o t, false, 32), (Instr.vredW64 y d a o t, false, 64), (Instr.vredW96 y d a o t, false, 96),
   (Instr.vscanW4 y d a o t, true, 4), (Instr.vscanW8 y d a o t, true, 8), (Instr.vscanW16 y d a o t, true, 16),
   (Instr.vscanW32 y d a o t, true, 32), (Instr.vscanW64 y d a o t, true, 64), (Instr.vscanW96 y d a o t, true, 96)]

/-- The operation over a list of values in order, with the flags of its steps (16 R302). -/
def reduced (rm : RMode) (o t : Nat) : List W32 → W32 × BitVec 6
  | [] => (0, 0)
  | x :: xs => xs.foldl (fun p z => ((redOp rm o t p.1 z).1, p.2 ||| (redOp rm o t p.1 z).2)) (redFirst t x)

/-- The active lanes of lane l's sub-group of n, in its own copy, ascending; up to lane l only in a scan. -/
def partners (g : Group) (sl : List Nat) (scan : Bool) (n l : Nat) : List Nat :=
  (g.active sl).filter fun m => g.visLane m / n == g.visLane l / n && (!g.prot || m % 2 == l % 2) && (!scan || decide (m ≤ l))

/-! ### Capability registers (17 R314, R315) -/

/-- Capability register d takes a value, an older pending result of it is dropped, and nothing else of the group changes. -/
def CapWrite (g g' : Group) (d : Nat) (c : Cap) : Prop :=
  (∀ r, g'.rc r = if r = d then c else g.rc r) ∧ g' = { g with
    c := g'.c, pending := g.pending.map (Pending.dropC d), memOps := g.memOps.map (MemOp.dropC d) }

/-- The forms that write a capability register from registers. -/
def capForms (y : Bool) (d a b : Fld) : List (Instr × (State → Group → Cap)) :=
  [(Instr.csub y d a b, fun _ g =>
      let p := g.rc a.toNat
      { p with base := p.base + BitVec.ofNat 40 (g.rs b.toNat).toNat, length := BitVec.ofNat 40 (g.rs (b.toNat + 1)).toNat,
               tag := p.tag && p.has rD && decide ((g.rs b.toNat).toNat + (g.rs (b.toNat + 1)).toNat ≤ p.length.toNat) }),
   (Instr.crgt y d a b, fun _ g =>
      let p := g.rc a.toNat
      { p with rights := p.rights &&& (g.rs b.toNat).setWidth 8, tag := p.tag && p.has rD }),
   (Instr.cmov y d a, fun _ g => g.rc a.toNat), (Instr.cclr y d, fun _ _ => {}),
   (Instr.cstash y d a b, fun s g =>
      { home := s.fab.self, object := 0, base := BitVec.ofNat 40 (g.rs a.toNat).toNat,
        length := BitVec.ofNat 40 (g.rs b.toNat).toNat, rights := 0x7B,
        tag := decide ((g.rs a.toNat).toNat + (g.rs b.toNat).toNat ≤ s.allocOf g ∧ 0 < (g.rs b.toNat).toNat) })]

end

end Sys2Proof.Claims

open Sys2Proof Sys2Proof.Machine Sys2Proof.Claims

/-- 16 R286, R289, 14 R258, 15 R266: the 32-bit lane forms write v_d in the active lanes and nothing else.
16 R286: the saturating forms, with SAT when a lane saturates.
16 R288: the 64-bit forms write the pair at d in the active lanes and nothing else. -/
def Obligations.IntegerLaneResults : Prop :=
  (∀ (s : State) (g : Group) (y : Bool) (d a b : Fld) (i : BitVec 10) (n : BitVec 5) (w : BitVec 18), Issues s g →
    ∀ e ∈ laneForms y d a b i n w, (∀ r ∈ d :: e.2.1, g.inWindow r.toNat) →
      ∃ g' : Group, exec e.1 s = .next (after s y g') ∧ LaneWrite g g' s.cursor.slices d.toNat (e.2.2 g))
    ∧ (∀ (s : State) (g : Group) (y : Bool) (d a b : Fld), Issues s g → (∀ r ∈ [d, a, b], g.inWindow r.toNat) →
    ∀ e ∈ saturatingForms y d a b,
      let t : Nat → Int := fun l => clamp (e.2.1 g l) e.2.2.1 e.2.2.2
      let moved : Bool := (g.active s.cursor.slices).any fun l => t l != e.2.1 g l
      ∃ g' : Group, exec e.1 s = .next (after s y { g' with fpsr := g.fpsr ||| (if moved then 32 else 0) })
        ∧ LaneWrite g g' s.cursor.slices d.toNat fun l => BitVec.ofInt 32 (t l))
    ∧ (∀ (s : State) (g : Group) (y : Bool) (d a b : Fld), Issues s g →
    ∀ e ∈ pairForms y d a b, g.pairIn d.toNat → g.pairIn a.toNat → g.valIn e.2.1 b.toNat →
      ∃ g' : Group, exec e.1 s = .next (after s y g') ∧ PairWrite g g' s.cursor.slices d.toNat (e.2.2 g))

/-- 16 R290, 12 R215: the interlocked floating-point forms write v_d, or its pair, and OR their flags into FPSR.
16 R294: the packed half forms act on both elements and OR the flags of both. -/
def Obligations.FloatLaneResults : Prop :=
  (∀ (s : State) (g : Group) (y f : Bool) (d a b : Fld), Issues s g →
    ∀ e ∈ floatForms y f d a b, (∀ r ∈ e.2.1, g.valIn f r.toNat) →
      ∃ g' : Group, exec e.1 s = .next (after s y (g'.orFlags (g.laneFlags s.cursor.slices fun l => (e.2.2 g l).2)))
        ∧ FormWrite f g g' s.cursor.slices d.toNat fun l => (e.2.2 g l).1)
    ∧ (∀ (s : State) (g : Group) (y : Bool) (d a b : Fld), Issues s g → (∀ r ∈ [d, a, b], g.inWindow r.toNat) →
    ∀ e ∈ halfForms y d a b,
      let v : Nat → Nat → Nat × BitVec 6 := fun k l =>
        e.2.2 g.rm (half e.2.1 g a.toNat k l) (half e.2.1 g b.toNat k l) (half e.2.1 g d.toNat k l)
      ∃ g' : Group, exec e.1 s = .next (after s y (g'.orFlags (g.laneFlags s.cursor.slices fun l => (v 0 l).2 ||| (v 1 l).2)))
        ∧ LaneWrite g g' s.cursor.slices d.toNat fun l => BitVec.ofNat 32 ((v 0 l).1 + 65536 * (v 1 l).1))

/-- 16 R291, 08 R137: FDIV and FSQRT leave their results and flags pending, and no register changes at issue.
16 R293: the special functions leave their results and flags pending.
Results that the manual only bounds are opaque, and their flags the model's (logs 15 and 16). -/
def Obligations.PendingFloatResults : Prop :=
  (∀ (s : State) (g : Group) (y f : Bool) (d a b : Fld), Issues s g →
    ∀ e ∈ slowFloatForms y f d a b, (∀ r ∈ e.2.1, g.valIn f r.toNat) →
      exec e.1 s = .next (after s y (g.addPending
        { slices := s.cursor.slices
          vecs := (g.active s.cursor.slices).flatMap fun l => g.valWrites f d.toNat l (e.2.2 g l).1
          flags := g.laneFlags s.cursor.slices fun l => (e.2.2 g l).2 })))
    ∧ (∀ (s : State) (g : Group) (y : Bool) (d a : Fld), Issues s g → g.inWindow d.toNat → g.inWindow a.toNat →
    ∀ e ∈ sfuForms y d a,
      exec e.1 s = .next (after s y (g.addPending
        { slices := s.cursor.slices
          vecs := (g.active s.cursor.slices).map fun l => (g.vkey d.toNat l, (e.2 (g.rv a.toNat l)).1)
          flags := g.laneFlags s.cursor.slices fun l => (e.2 (g.rv a.toNat l)).2 })))

/-- 16 R287, R292, 15 R266: a compare writes the triple at d with the lanes of Active() in which it holds.
15 R265, R266, 16 R301: the mask operations write the gang's bits of the triple at d.
15 R266: MSWAP exchanges the gang's bits of two triples. -/
def Obligations.MaskTripleResults : Prop :=
  (∀ (s : State) (g : Group) (y f : Bool) (d a b : Fld), Issues s g →
    ∀ e ∈ compareForms y f d a b, e.1.wf → e.2.1 g →
      ∃ (g' : Group) (v : BitVec 96), exec e.1 s = .next (after s y g') ∧ TripleWrite g g' s.cursor.slices d.toNat v
        ∧ ∀ l, v.getLsbD l = (decide (l < g.visible) && (g.activeBits s.cursor.slices).getLsbD l
            && e.2.2 g (if g.prot then 2 * l else l)))
    ∧ (∀ (s : State) (g : Group) (y : Bool) (d a b : Fld), Issues s g →
    ∀ e ∈ maskForms y d a b, e.1.wf →
      ∃ g' : Group, exec e.1 s = .next (after s y g') ∧ TripleWrite g g' s.cursor.slices d.toNat (e.2 g s.cursor.slices))
    ∧ (∀ (s : State) (g : Group) (y : Bool) (d a : Fld), Issues s g → (Instr.mswap y d a).wf →
    ∃ g1 g' : Group, exec (.mswap y d a) s = .next (after s y g') ∧ TripleWrite g g1 s.cursor.slices d.toNat (g.triple a.toNat)
      ∧ TripleWrite g1 g' s.cursor.slices a.toNat (g.triple d.toNat))

/-- 16 R299, R300, 08 R136: a shuffle of sub-groups up to 32 lanes writes at issue, a wider one leaves its result pending.
16 R302: a reduction or scan folds each sub-group's active lanes in ascending order. -/
def Obligations.LaneCrossingResults : Prop :=
  (∀ (s : State) (g : Group) (y : Bool) (d a b : Fld), Issues s g →
    ∀ e ∈ shuffles y d a b, (∀ r ∈ d :: a :: e.2.2.1, g.inWindow r.toNat) → e.2.1 ≤ g.visible →
      let n := e.2.1
      let v (l : Nat) : W32 :=
        taken g s.cursor.slices a.toNat (n * (g.visLane l / n) + e.2.2.2 g l (g.visLane l % n)) l
      ∃ g' : Group, exec e.1 s = .next (after s y g')
        ∧ if n ≤ 32 then LaneWrite g g' s.cursor.slices d.toNat v
          else g' = g.addPending { slices := s.cursor.slices,
                                   vecs := (g.active s.cursor.slices).map fun l => (g.vkey d.toNat l, v l) })
    ∧ (∀ (s : State) (g : Group) (y : Bool) (d a : Fld) (o : BitVec 3) (t : BitVec 2), Issues s g →
    ∀ e ∈ reductions y d a o t, g.inWindow d.toNat → g.inWindow a.toNat → e.2.2 ≤ g.visible →
      let value (scan : Bool) (l : Nat) : W32 × BitVec 6 :=
        reduced g.rm o.toNat t.toNat ((partners g s.cursor.slices scan e.2.2 l).map (g.rv a.toNat))
      let flags : BitVec 6 := g.laneFlags s.cursor.slices fun l => (value false l).2
      ∃ g' : Group, exec e.1 s = .next (after s y g')
        ∧ if e.2.2 ≤ 32 then
            ∃ g1 : Group, LaneWrite g g1 s.cursor.slices d.toNat (fun l => (value e.2.1 l).1) ∧ g' = g1.orFlags flags
          else ∃ p : Pending, g' = g.addPending p ∧ p = { slices := s.cursor.slices, vecs := p.vecs, flags := flags }
            ∧ (∀ l ∈ g.active s.cursor.slices, (g.vkey d.toNat l, (value e.2.1 l).1) ∈ p.vecs)
            ∧ ∀ w ∈ p.vecs, ∃ l ∈ g.active s.cursor.slices, w = (g.vkey d.toNat l, (value e.2.1 l).1))

/-- 17 R314, R315: the forms that derive a capability. -/
def Obligations.CapabilityResults : Prop :=
  ∀ (s : State) (g : Group) (y : Bool) (d a b : Fld), Issues s g →
    ∀ e ∈ capForms y d a b, ∃ g' : Group, exec e.1 s = .next (after s y g') ∧ CapWrite g g' d.toNat (e.2 s g)

namespace Sys2Proof.Claims

open Sys2Proof.Machine

noncomputable section

/-! ### Control (15 R267-R277, 08 R132-R134) -/

/-- The target of a branch: the PC plus four times the offset (14 R247). -/
def branchTarget (s : State) (o : BitVec 17) : W64 := s.cursor.pc + 4 * o.signExtend 64

/-- The forms that send the whole gang to one PC, each with that PC. -/
def jumps (y : Bool) (a : Fld) (o : BitVec 17) : List (Instr × (State → Group → W64)) :=
  let on (p : W64 → Bool) (s : State) (g : Group) : W64 := if p (g.rs a.toNat) then branchTarget s o else s.cursor.pc + 4
  [(Instr.br y o, fun s _ => branchTarget s o), (Instr.brcZ y a o, on fun x => x == 0), (Instr.brcNz y a o, on fun x => x != 0),
   (Instr.brcLt y a o, on fun x => decide (x.toInt < 0)), (Instr.brcGe y a o, on fun x => decide (0 ≤ x.toInt)),
   (Instr.jmp y a, fun _ g => g.rs a.toNat)]

/-- The fences that only go on: their orders hold when they issue (17 R311, 11 R202). -/
def fences (y : Bool) : List Instr :=
  [Instr.fenceAcqGroup y, Instr.fenceAcqBlock y, Instr.fenceAcqChip y, Instr.fenceAcqPod y,
   Instr.fenceRelGroup y, Instr.fenceRelBlock y, Instr.fenceRelChip y, Instr.fenceRelPod y, Instr.fenceRelSys y,
   Instr.fenceFullGroup y, Instr.fenceFullBlock y, Instr.fenceFullChip y, Instr.fenceFullPod y]

/-- The slices of the gang whose BRM test has a set bit: a lane of the slice with its bit in the triple and active. -/
def tested (g : Group) (k i : Nat) : Bool :=
  (List.range 96).any fun l => (g.triple k &&& g.triple 125 &&& g.ownBits [i]).getLsbD l

/-- The record of a slice after the gang parted in two: it stands at its part's PC in a gang named by its part's first slice,
and parks when the instruction carries the switch bit and its part has pending results. -/
def parted (g : Group) (part : List Nat) (pc : W64) (y : Bool) (r : Slice) : Slice :=
  let r := { r with gang := part.headD 0, pc := pc }
  if y && g.hasPending part then r.parkAt .switchPoint 0 0 else r

/-! ### System registers (15 R280, 14 R261) -/

/-- The scalar-kind registers that SYSR reads, by number (14 R261). -/
def sysReads (s : State) (g : Group) : List (Nat × W64) :=
  [(0x000, g.gid.setWidth 64), (0x001, g.bid.setWidth 64), (0x002, g.grid.setWidth 64),
   (0x003, BitVec.ofNat 64 (g.gid.toNat * g.visible)), (0x004, BitVec.ofNat 64 g.visible),
   (0x005, BitVec.ofNat 64 (g.nominal.toNat % 64)), (0x006, BitVec.ofNat 64 (g.nominal.toNat / 64)),
   (0x007, BitVec.ofNat 64 g.core), (0x008, s.tickOf (dieOf g.core)), (0x009, g.ctx.setWidth 64),
   (0x00A, BitVec.ofNat 64 g.winb), (0x010, g.fpcr.setWidth 64), (0x011, g.fpsr.setWidth 64), (0x013, g.xpiv.setWidth 64),
   (0x018, g.tvec), (0x019, g.tstat), (0x01A, g.tpc), (0x01B, g.repc), (0x01C, g.joinTo.setWidth 64)]

/-- The privileged registers that SYSR reads. -/
def sysReadsPrivileged (s : State) (g : Group) : List (Nat × W64) :=
  [(0x100, (Sparse.get 0 s.fw.fwctx (dieOf g.core)).setWidth 64), (0x101, BitVec.ofNat 64 (s.watchdog (dieOf g.core))),
   (0x102, BitVec.ofNat 64 (Sparse.get [] s.fw.queue (dieOf g.core)).length)]

/-- The capability-kind registers. -/
def sysCaps (g : Group) : List (Nat × Cap) := [(0x020, g.grant), (0x021, g.root), (0x022, g.const), (0x023, g.data)]

/-- The registers of the group that SYSW writes from s_a, each with the group after the write. -/
def sysWrites (g : Group) (v : W64) : List (Nat × Group) :=
  [(0x010, { g with fpcr := (v.setWidth 2).setWidth 32 }), (0x011, { g with fpsr := (v.setWidth 6).setWidth 32 }),
   (0x013, { g with xpiv := v.setWidth 32 }), (0x018, { g with tvec := v &&& ~~~2#64 }),
   (0x019, { g with tstat := v &&& 0x80FFFFFF00FFFFFF#64 }), (0x01A, { g with tpc := v }),
   (0x01B, if v.getLsbD 0 then { g with repc := v, firstPoison := [], firstMismatch := [] } else { g with repc := v }),
   (0x01C, { g with joinTo := v.setWidth 32 })]

/-! ### Traps (13 R230-R235) -/

/-- The group after its pending results are written, at a switch point (08 R137). -/
def drained (g : Group) (sl : List Nat) : Group := g.flush sl

/-- TSTAT as a trap leaves it: H, the cause, the detail, the lane and the slices (13 R231). -/
def trapStatus (c d : BitVec 8) (lane : Nat) (sl : List Nat) : W64 :=
  (1#64 <<< 63) ||| (c.setWidth 64 <<< 48) ||| (d.setWidth 64 <<< 40) ||| (BitVec.ofNat 64 (lane % 256) <<< 32)
    ||| (sliceBits sl &&& 0xFFFFFF#64)

/-- The handler of the group has the gang: TPC and TSTAT are saved, s113-s115 name the trapped lanes, and every slice of the
gang stands at the handler. -/
def Entered (g g' : Group) (sl : List Nat) (c d : BitVec 8) (resume : W64) : Prop :=
  g'.tpc = resume ∧ g'.tstat = trapStatus c d (g.lowest sl) sl
    ∧ (∀ i ∈ sl, (g'.slice i).pc = (g.tvec >>> 2) <<< 2 ∧ (g'.slice i).state = .ready ∧ (g'.slice i).park = .none)
    ∧ (∀ i, i ∉ sl → g'.slice i = g.slice i)
    ∧ (∀ r, r < 113 ∨ 115 < r → g'.rs r = g.rs r)
    ∧ (∀ l < 96, (g'.triple 113).getLsbD l =
        if (g.ownBits sl).getLsbD l then (g.active sl ++ g.unfinishedOf sl).any fun p => g.visLane p == l
        else (g.triple 113).getLsbD l)
    ∧ g' = { g with tpc := g'.tpc, tstat := g'.tstat, s := g'.s, pending := g'.pending, memOps := g'.memOps,
                    slices := g'.slices }

/-! ### Barriers (17 R318) -/

/-- The updating barrier forms, each with its change of the barrier word. -/
def barrierForms (y : Bool) (a b : Fld) (g : Group) : List (Instr × (Barrier → Barrier)) :=
  let v := g.rs b.toNat
  [(Instr.barInit y a b, fun w => { w with expected := v.setWidth 24 }),
   (Instr.barArrive y a b, fun w => { w with arrivals := w.arrivals + v.setWidth 24 }),
   (Instr.barExpect y a b, fun w => { w with bytesExpected := w.bytesExpected + v.setWidth 32 })]

end

end Sys2Proof.Claims

open Sys2Proof Sys2Proof.Machine Sys2Proof.Claims

/-- 15 R267, R268, 14 R247: the branches of a whole gang, and JMP, send its slices to one PC and change nothing else.
08 R132, 15 R267: BRM sends each slice by its own test, and the two parts form gangs of their own. -/
def Obligations.BranchesMoveThePc : Prop :=
  (∀ (s : State) (g : Group) (y : Bool) (a : Fld) (o : BitVec 17), Issues s g →
    ∀ e ∈ jumps y a o, exec e.1 s = .next (s.putGroup s.cursor.group (g.goTo s.cursor.slices (e.2 s g) y)))
    ∧ (∀ (s : State) (g : Group) (y : Bool) (a : Fld) (o : BitVec 17), Issues s g →
    ∀ e ∈ [(Instr.brmNz y a o, true), (Instr.brmZ y a o, false)],
      let taken := s.cursor.slices.filter fun i => tested g a.toNat i == e.2
      let rest := s.cursor.slices.filter fun i => tested g a.toNat i != e.2
      ∃ g' : Group, exec e.1 s = .next (s.putGroup s.cursor.group g') ∧ g' = { g with slices := g'.slices }
        ∧ ∀ i, g'.slice i = if i ∈ taken then parted g taken (branchTarget s o) y (g.slice i)
            else if i ∈ rest then parted g rest (s.cursor.pc + 4) y (g.slice i) else g.slice i)

/-- 15 R268: a call saves each slice's link word in window positions 126 and 127 of its lanes, links to the next instruction
and goes to its target.
15 R268: RET sends each slice to its link word, restores the saved one, and parts the gang by PC. -/
def Obligations.CallsAndReturns : Prop :=
  (∀ (s : State) (g : Group) (y : Bool) (a : Fld) (o : BitVec 17), Issues s g → g.inWindow 127 →
    ∀ e ∈ [(Instr.bsr y o, branchTarget s o), (Instr.call y a, g.rs a.toNat)],
      ∃ g' : Group, exec e.1 s = .next (s.putGroup s.cursor.group (g'.goTo s.cursor.slices e.2 y))
        ∧ (∀ i, g'.slice i = if i ∈ s.cursor.slices then { g.slice i with link := s.cursor.pc + 4 } else g.slice i)
        ∧ (∀ i ∈ s.cursor.slices, ∀ q < 4, g'.rp 126 (4 * i + q) = (g.slice i).link)
        ∧ (∀ n l, l < 128 → (n ≠ 126 ∧ n ≠ 127) ∨ l / 4 ∉ s.cursor.slices → g'.rv n l = g.rv n l)
        ∧ g' = { g with slices := g'.slices, v := g'.v, pending := g'.pending })
    ∧ (∀ (s : State) (g : Group) (y : Bool), Issues s g → g.inWindow 127 →
    ∃ g' : Group, exec (.ret y) s = .next (s.putGroup s.cursor.group (if y then g'.switchPark s.cursor.slices else g'))
      ∧ g' = { g with slices := g'.slices }
      ∧ (∀ i ∈ s.cursor.slices, g'.slice i = { g.slice i with
            pc := (g.slice i).link, link := g.rp 126 (4 * i),
            gang := (s.cursor.slices.filter fun j => (g.slice j).link == (g.slice i).link).headD i })
      ∧ ∀ i, i ∉ s.cursor.slices → g'.slice i = g.slice i)

/-- 08 R134, 15 R269: a JOIN of a gang without pending results. Slices that are not expected go on; arrivals park, and the
last of them completes the join: every slice of A, expected or not, becomes ready in one gang at the PC after the completing JOIN, and
every other slice stays as it is, but for the name of the gang that the others have left.
That a parked gang keeps the PC of its JOIN is the model's (log 46). -/
def Obligations.JoinParksUntilAllArrive : Prop :=
  ∀ (s : State) (g : Group) (y : Bool) (j : Fld), Issues s g → (Instr.join y j).wf → g.hasPending s.cursor.slices = false →
    let r := j.toNat
    let w := g.rs r
    let mine : BitVec 24 := (sliceBits s.cursor.slices).setWidth 24
    if rejoinE w &&& mine = 0 then exec (.join y j) s = .next (after s y g)
    else
      ∃ g' : Group, exec (.join y j) s = .next (s.putGroup s.cursor.group g')
        ∧ (∀ k, k ≠ r → g'.rs k = g.rs k)
        ∧ (rejoinE w &&& ~~~(rejoinA w ||| mine) ≠ 0 →
            rejoinA (g'.rs r) = rejoinA w ||| mine ∧ rejoinE (g'.rs r) = rejoinE w
              ∧ ∀ i ∈ s.cursor.slices, (g'.slice i).state = .parked ∧ (g'.slice i).park = .join)
        ∧ (rejoinE w &&& ~~~(rejoinA w ||| mine) = 0 →
            rejoinA (g'.rs r) = 0 ∧ rejoinE (g'.rs r) = rejoinE w ∧ (g'.rs r).extractLsb' 48 15 = w.extractLsb' 48 15 + 1
              ∧ ((∀ i ∈ s.cursor.slices, i ∈ g.live) →
                  let all := g.live.filter fun i => (rejoinA w ||| mine).getLsbD i
                  (∀ i ∈ all, g'.slice i = { g.slice i with
                      state := .ready, park := .none, arg := 0, deadline := 0, pc := s.cursor.pc + 4, gang := all.headD 0 })
                  ∧ ∀ i, i ∉ all → g'.slice i = { g.slice i with gang := (g'.slice i).gang }))

/-- 15 R272: SLEEP's word; a switch point, it drains pending results first; then it parks the gang until TICK plus s_a, and
for 0 until the next tick, and nothing else changes; at the deadline the gang is ready. -/
def Obligations.SleepRule : Prop :=
  ∀ (s : State) (g : Group) (y : Bool) (a : Fld), Issues s g →
    decode (BitVec.ofBool y ++ (13 : BitVec 4) ++ (9 : BitVec 6) ++ (0 : BitVec 7) ++ a ++ (0 : BitVec 7))
      = some (.sleep y a)
    ∧ (g.hasPending s.cursor.slices = true → exec (.sleep y a) s = .next (s.putGroup s.cursor.group
        (g.mapSlices (fun _ r => r.parkAt .switchPoint 0 0) s.cursor.slices)))
    ∧ (g.hasPending s.cursor.slices = false →
        (s.tickOf (dieOf g.core)).toNat + (g.rs a.toNat).toNat + 1 < 2 ^ 64 →
        ∃ (g' : Group) (pc : W64), exec (.sleep y a) s = .next (s.putGroup s.cursor.group g')
          ∧ g' = { g with slices := g'.slices }
          ∧ ∀ i, g'.slice i = if i ∈ s.cursor.slices then
              { g.slice i with pc := pc, state := .parked, park := .sleep, arg := 0,
                               deadline := s.tickOf (dieOf g.core) + (if g.rs a.toNat = 0 then 1 else g.rs a.toNat) }
            else g.slice i)
    ∧ ∀ (h i : Nat) (g1 : Group), s.group h = some g1 → (g1.slice i).park = .sleep →
        ((s.tickOf (dieOf g1.core)).toNat < (g1.slice i).deadline.toNat → exec (.sleepDeadline h i) s = .next s)
        ∧ ((g1.slice i).deadline.toNat ≤ (s.tickOf (dieOf g1.core)).toNat →
            ∃ g2 : Group, exec (.sleepDeadline h i) s = .next (s.putGroup h g2) ∧ g2 = { g1 with slices := g2.slices }
              ∧ ∀ k, g2.slice k = if k ∈ g1.gang (g1.slice i).gang ∧ (g1.slice k).park = .sleep then
                  { g1.slice k with state := .ready, park := .none, arg := 0, deadline := 0 } else g1.slice k)

/-- 08 R137: the instructions that are switch points find pending results first: the gang parks at its own PC.
15 R277: EXIT ends the slices of the gang; the last of a group frees its port slot.
That an exited slice keeps its PC is the model's choice (log 14). -/
def Obligations.SwitchPointsAndExit : Prop :=
  (∀ (s : State) (g : Group) (y : Bool) (a b : Fld) (i : BitVec 8), Issues s g → g.hasPending s.cursor.slices = true →
    ∀ e ∈ [Instr.join y a, Instr.sleep y a, Instr.exit y, Instr.trap y i, Instr.wait y a b, Instr.barWait y a b,
        Instr.barArriveW y a b],
      exec e s = .next (s.putGroup s.cursor.group
        (g.mapSlices (fun _ r => r.parkAt .switchPoint 0 0) s.cursor.slices)))
    ∧ (∀ (s : State) (g : Group) (y : Bool), Issues s g → g.hasPending s.cursor.slices = false →
    ∃ g' : Group, g' = { g with slices := g'.slices }
      ∧ (∀ i, g'.slice i = if i ∈ s.cursor.slices then { g.slice i with state := .exited, park := .none } else g.slice i)
      ∧ exec (.exit y) s = .next (if g'.live = [] then (s.putGroup s.cursor.group g').freeSlot s.cursor.group g'
          else s.putGroup s.cursor.group g'))

/-- 15 R274, R276: WINB sets the window base to 8n, and UND where that lies beyond the registers; RGN and RGNX enter and
leave a region.
15 R275, 09 R151: VDEAD goes on; it changes no register but those of the whole lines of window positions a to b of the
gang's slices, which keep their values or read zero.
That a dead register keeps its last value or reads zero is the model's choice (log 26). -/
def Obligations.WindowsAndDeadRegisters : Prop :=
  (∀ (s : State) (g : Group) (y : Bool) (n : Fld), Issues s g →
    (exec (.winb y n) s = if 8 * n.toNat < g.extent then .next (after s y { g with winb := 8 * n.toNat }) else s.trapHere g .und)
    ∧ exec (.rgn y) s = .next (after s y { g with repc := (s.cursor.pc + 4) ||| 1, firstPoison := [], firstMismatch := [] })
    ∧ exec (.rgnx y) s = .next (after s y { g with repc := 0 }))
    ∧ (∀ (s : State) (g : Group) (y : Bool) (a b : Fld), Issues s g → g.inWindow b.toNat → a.toNat ≤ b.toNat →
    ∃ (g' : Group) (n : Nat), exec (.vdead y a b) s = .next (({ s with free := n } : State).putGroup s.cursor.group
        (g'.goTo s.cursor.slices (s.cursor.pc + 4) y))
      ∧ (∀ n l, l < 128 → g'.rv n l = g.rv n l
          ∨ (g'.rv n l = 0 ∧ l / 4 ∈ s.cursor.slices ∧ (g.winb + a.toNat + 3) / 4 ≤ (g.winb + n) / 4
              ∧ (g.winb + n) / 4 < (g.winb + b.toNat + 1) / 4))
      ∧ g' = { g with v := g'.v, present := g'.present, spilled := g'.spilled })

/-- 15 R280, 14 R261: SYSR writes the register's value to s_d, c_d or the active lanes of v_d; the privileged numbers only
in a privileged group.
15 R280: SYSW writes the register with its reserved bits zero.
What TICK counts is the model's choice (log 48). -/
def Obligations.SystemRegisters : Prop :=
  (∀ (s : State) (g : Group) (y : Bool) (d : Fld) (n : BitVec 10), Issues s g →
    (∀ v, (n.toNat, v) ∈ sysReads s g ∨ (g.privileged ∧ (n.toNat, v) ∈ sysReadsPrivileged s g) →
      ∃ g' : Group, exec (.sysr y d n) s = .next (after s y (g'.recheckJoin s.cursor.slices d.toNat)) ∧ ScalarWrite g g' s.cursor.slices d.toNat v)
    ∧ (∀ c, (n.toNat, c) ∈ sysCaps g →
      ∃ g' : Group, exec (.sysr y d n) s = .next (after s y g') ∧ CapWrite g g' d.toNat c)
    ∧ (n.toNat = 0x012 → g.inWindow d.toNat →
      ∃ g' : Group, exec (.sysr y d n) s = .next (after s y g')
        ∧ LaneWrite g g' s.cursor.slices d.toNat fun l => (Sparse.get 0 g.xflags l).setWidth 32))
    ∧ (∀ (s : State) (g : Group) (y : Bool) (a : Fld) (n : BitVec 10), Issues s g →
    (∀ g' : Group, (n.toNat, g') ∈ sysWrites g (g.rs a.toNat) → exec (.sysw y a n) s = .next (after s y g'))
    ∧ (n.toNat = 0x020 → exec (.sysw y a n) s = .next (after s y { g with grant := g.rc a.toNat }))
    ∧ (n.toNat = 0x012 → g.inWindow a.toNat →
      ∃ g' : Group, exec (.sysw y a n) s = .next (after s y g')
        ∧ (∀ l, Sparse.get 0 g'.xflags l =
            if l ∈ g.active s.cursor.slices then (g.rv a.toNat l).setWidth 8 else Sparse.get 0 g.xflags l)
        ∧ g' = { g with xflags := g'.xflags, smuFlags := g'.smuFlags, pending := g'.pending })
    ∧ (n.toNat = 0x100 → g.privileged → ∃ fw', fw' = { s.fw with fwctx := fw'.fwctx }
        ∧ Sparse.get 0 fw'.fwctx (dieOf g.core) = (g.rs a.toNat).setWidth 20
        ∧ exec (.sysw y a n) s = .next (after { s with fw := fw' } y g)))

/-- 15 R278: TRAP's word, UND for a number above 255; a switch point, it drains pending results first; then it enters the
handler with cause TRAP and its detail, resuming at the next instruction. -/
def Obligations.TrapRule : Prop :=
  ∀ (s : State) (g : Group) (y : Bool) (i : BitVec 8) (n : BitVec 10), Issues s g →
    let word (n : BitVec 10) : W32 := BitVec.ofBool y ++ (15 : BitVec 4) ++ (4 : BitVec 3) ++ (0 : BitVec 14) ++ n
    decode (word (i.setWidth 10)) = some (.trap y i) ∧ (256 ≤ n.toNat → decode (word n) = none)
    ∧ (g.hasPending s.cursor.slices = true → exec (.trap y i) s = .next (s.putGroup s.cursor.group
        (g.mapSlices (fun _ r => r.parkAt .switchPoint 0 0) s.cursor.slices)))
    ∧ (g.hasPending s.cursor.slices = false → g.handling = false → g.tvec.getLsbD 0 = true →
        ∃ g' : Group, exec (.trap y i) s = .next (s.putGroup s.cursor.group g')
          ∧ Entered g g' s.cursor.slices 0x0B i (s.cursor.pc + 4))

/-- 13 R230, R234, R278, R279: UND, PRIV and TRET outside a handler enter the handler at the instruction's own PC.
13 R234, R279: TRET clears H and sends the gang to TPC; with no gang at a pending trap nothing else follows. -/
def Obligations.TrapsAndTheirReturn : Prop :=
  (∀ (s : State) (g : Group) (y : Bool) (a d : Fld) (n : BitVec 10), Issues s g →
    g.hasPending s.cursor.slices = false → g.handling = false → g.tvec.getLsbD 0 = true →
    (∃ g' : Group, exec (.tret y) s = .next (s.putGroup s.cursor.group g') ∧ Entered g g' s.cursor.slices 0x02 0 s.cursor.pc)
    ∧ (n.toNat ∈ [0x100, 0x101, 0x102] → g.privileged = false →
        ∃ g' : Group, exec (.sysr y d n) s = .next (s.putGroup s.cursor.group g') ∧ Entered g g' s.cursor.slices 0x03 0 s.cursor.pc)
    ∧ (n.toNat ∈ [0x000, 0x008, 0x00A, 0x021, 0x022, 0x023] →
        ∃ g' : Group, exec (.sysw y a n) s = .next (s.putGroup s.cursor.group g') ∧ Entered g g' s.cursor.slices 0x02 0 s.cursor.pc)
    ∧ (g.inWindow d.toNat = false →
        ∃ g' : Group, exec (.vmov y d a) s = .next (s.putGroup s.cursor.group g') ∧ Entered g g' s.cursor.slices 0x02 0 s.cursor.pc))
    ∧ (∀ (s : State) (g : Group) (y : Bool), Issues s g → g.handling = true →
    (∀ i ∈ g.live, (g.slice i).park ≠ .pendingTrap) →
    ∃ g' : Group, exec (.tret y) s = .next (s.putGroup s.cursor.group (if y then g'.switchPark s.cursor.slices else g'))
      ∧ g'.tstat = g.tstat &&& 0x7FFFFFFFFFFFFFFF#64 ∧ (∀ i ∈ s.cursor.slices, (g'.slice i).pc = g.tpc)
      ∧ (∀ i, i ∉ s.cursor.slices → g'.slice i = g.slice i)
      ∧ g' = { g with tstat := g'.tstat, slices := g'.slices, entries := g'.entries })

/-- 17 R318: the updating barrier forms change the barrier word, run its phase test, and the gang goes on.
17 R318, 08 R142: BAR.WAIT parks past phase s_b while the barrier's phase is s_b, and goes on at once otherwise.
17 R318, 08 R142: BAR.ARRIVE.W arrives, runs the phase test, and parks past the phase it found while that lasts.
The PC past a waiting form is the model's (log 46). -/
def Obligations.BarrierResults : Prop :=
  (∀ (s : State) (g : Group) (blk : Block) (y : Bool) (a b : Fld) (k : Nat), Issues s g → s.block g.block = some blk →
    s.barrierOf g (g.rs a.toNat) = some k → ∀ e ∈ barrierForms y a b g,
      ∃ g2 : Group, ((s.putBlock g.block (blk.putBarrier k (e.2 (blk.barrier k)))).barrierUpdate g.block k).group s.cursor.group = some g2
        ∧ exec e.1 s = .next (after ((s.putBlock g.block (blk.putBarrier k (e.2 (blk.barrier k)))).barrierUpdate g.block k) y g2))
    ∧ (∀ (s : State) (g : Group) (blk : Block) (y : Bool) (a b : Fld) (k : Nat), Issues s g → s.block g.block = some blk →
    s.barrierOf g (g.rs a.toNat) = some k → g.hasPending s.cursor.slices = false →
      if (blk.barrier k).phase = (g.rs b.toNat).setWidth 16 then
        ∃ g' : Group, exec (.barWait y a b) s = .next (s.putGroup s.cursor.group g') ∧ g' = { g with slices := g'.slices }
          ∧ ∀ i, g'.slice i = if i ∈ s.cursor.slices then
              { g.slice i with pc := s.cursor.pc + 4, state := .parked, park := .barrier, arg := BitVec.ofNat 32 k, deadline := 0,
                               phase := (blk.barrier k).phase }
            else g.slice i
      else exec (.barWait y a b) s = .next (after s false g))
    ∧ (∀ (s : State) (g : Group) (blk : Block) (y : Bool) (a b : Fld) (k : Nat), Issues s g → s.block g.block = some blk →
    s.barrierOf g (g.rs a.toNat) = some k → g.hasPending s.cursor.slices = false →
      let p := (blk.barrier k).phase
      let w := { blk.barrier k with arrivals := (blk.barrier k).arrivals + (g.rs b.toNat).setWidth 24 }
      let t := (s.putBlock g.block (blk.putBarrier k w)).barrierUpdate g.block k
      ∃ g2 : Group, t.group s.cursor.group = some g2 ∧
        if t.phaseOf g.block k = p then
          ∃ g' : Group, exec (.barArriveW y a b) s = .next (t.putGroup s.cursor.group g') ∧ g' = { g2 with slices := g'.slices }
            ∧ ∀ i, g'.slice i = if i ∈ s.cursor.slices then
                { g2.slice i with pc := s.cursor.pc + 4, state := .parked, park := .barrier, arg := BitVec.ofNat 32 k,
                                  deadline := 0, phase := p }
              else g2.slice i
        else exec (.barArriveW y a b) s = .next (t.putGroup s.cursor.group (g2.goTo s.cursor.slices (s.cursor.pc + 4) false)))

namespace Sys2Proof.Claims

open Sys2Proof.Machine

noncomputable section

/-! ### Small matrices (18 R321-R330) -/

/-- A matrix result of one lane: shape r x c, elements with their flags, and the XFLAGS bits that the operation sets. -/
def matOf (f : Bool) (d l r c : Nat) (e : Nat → Nat → Nat × BitVec 6) : SmuOut :=
  let m := buildMat r c e
  smuMat f d l r c m.1 m.2 0

/-- The forms of the small-matrix unit: each with the registers it needs and what a lane of Active() gives. A lane whose shapes
do not conform only sets SHAPE. -/
def smallMatrixForms (y f : Bool) (d a b : Fld) (i j : BitVec 3) : List (Instr × (Group → Bool) × (Group → Nat → SmuOut)) :=
  let t := fmtW f
  let x2 (g : Group) : Bool := g.xIn f d.toNat && g.xIn f a.toNat
  let x3 (g : Group) : Bool := x2 g && g.xIn f b.toNat
  let A (g : Group) (l i j : Nat) : Nat := g.xe f a.toNat l i j
  let B (g : Group) (l i j : Nat) : Nat := g.xe f b.toNat l i j
  let sA (g : Group) (l : Nat) : Nat × Nat := g.shapeOf a.toNat l
  let sB (g : Group) (l : Nat) : Nat × Nat := g.shapeOf b.toNat l
  let sD (g : Group) (l : Nat) : Nat × Nat := g.shapeOf d.toNat l
  [(Instr.xzero y d, fun g => g.xIn false d.toNat, fun _ l => { xs := xMatrix false d.toNat l 0 0 [] }),
   (Instr.xidn y d, fun g => g.xIn false d.toNat, fun g l =>
      { xs := xMatrix false d.toNat l (sD g l).1 (sD g l).2
          ((List.range 36).map fun e => if e / 6 = e % 6 then 0x3F800000 else 0) }),
   (Instr.xget y f d a i j, fun g => g.valIn f d.toNat && g.xIn f a.toNat, fun g l =>
      if i.toNat < (sA g l).1 ∧ j.toNat < (sA g l).2 then { vs := g.valWrites f d.toNat l (A g l i.toNat j.toNat) } else { ev := 1 }),
   (Instr.xput y f d a i j, fun g => g.xIn f d.toNat && g.valIn f a.toNat, fun g l =>
      if i.toNat < (sD g l).1 ∧ j.toNat < (sD g l).2 then
        { xs := xElem f d.toNat l i.toNat j.toNat (g.val f a.toNat l) }
      else { ev := 1 }),
   (Instr.xmov y f d a, x2, fun g l => smuMat f d.toNat l (sA g l).1 (sA g l).2 (g.mat f a.toNat l) 0 0),
   (Instr.xtrn y f d a, x2, fun g l => smuMat f d.toNat l (sA g l).2 (sA g l).1
      ((List.range 36).map fun e => at6 (g.mat f a.toNat l) (e % 6) (e / 6)) 0 0)]
  ++ [(Instr.xadd y f d a b, x3, fun g l => if sA g l ≠ sB g l then { ev := 1 } else
      matOf f d.toNat l (sA g l).1 (sA g l).2 fun i j => t.add g.rm (t.unpack (A g l i j)) (t.unpack (B g l i j))),
   (Instr.xsub y f d a b, x3, fun g l => if sA g l ≠ sB g l then { ev := 1 } else
      matOf f d.toNat l (sA g l).1 (sA g l).2 fun i j => t.add g.rm (t.unpack (A g l i j)) (t.unpack (B g l i j)).negate),
   (Instr.xscl y f d a b, fun g => x2 g && g.valIn f b.toNat, fun g l =>
      matOf f d.toNat l (sA g l).1 (sA g l).2 fun i j => t.mulBits g.rm (A g l i j) (g.val f b.toNat l)),
   (Instr.xmul y f d a b, x3, fun g l => if (sA g l).2 ≠ (sB g l).1 then { ev := 1 } else
      matOf f d.toNat l (sA g l).1 (sB g l).2 fun i j => dotChain t g.rm (sA g l).2 (fun k => A g l i k) fun k => B g l k j),
   (Instr.xmad y f d a b, x3, fun g l =>
      if (sA g l).2 ≠ (sB g l).1 ∨ sD g l ≠ ((sA g l).1, (sB g l).2) then { ev := 1 } else
      matOf f d.toNat l (sA g l).1 (sB g l).2 fun i j =>
        chain (fun k p => t.fmaBits g.rm (A g l i k) (B g l k j) p) (g.xe f d.toNat l i j, 0) (List.range (sA g l).2)),
   (Instr.xmult y f d a b, x3, fun g l => if (sA g l).2 ≠ (sB g l).2 then { ev := 1 } else
      matOf f d.toNat l (sA g l).1 (sB g l).1 fun i j => dotChain t g.rm (sA g l).2 (fun k => A g l i k) fun k => B g l j k),
   (Instr.xmv y f d a b, x3, fun g l => if sB g l ≠ (1, (sA g l).2) ∧ sB g l ≠ ((sA g l).2, 1) then { ev := 1 } else
      matOf f d.toNat l (sA g l).1 1 fun i _ => dotChain t g.rm (sA g l).2 (fun k => A g l i k) fun k =>
        if (sB g l).1 = 1 then B g l 0 k else B g l k 0)]
  ++ [(Instr.xchol y f d a, x2, fun g l => if (sA g l).1 ≠ (sA g l).2 then { ev := 1 } else
      let w := cholesky t g.rm g.xpiv (g.mat f a.toNat l) (sA g l).1
      smuMat f d.toNat l (sA g l).1 (sA g l).1 w.m w.fl w.ev),
   (Instr.xinv y f d a, x2, fun g l => if (sA g l).1 ≠ (sA g l).2 then { ev := 1 } else
      let n := (sA g l).1
      let w := lup t g.rm g.xpiv (g.mat f a.toNat l) n
      let r := (List.range n).foldl (fun r c => lupSolve t g.rm w.m w.p n c r) { m := identity t, fl := w.fl, ev := w.ev }
      smuMat f d.toNat l n n r.m r.fl r.ev),
   (Instr.xdet y f d a, fun g => g.valIn f d.toNat && g.xIn f a.toNat, fun g l =>
      if (sA g l).1 ≠ (sA g l).2 then { ev := 1 } else
      let n := (sA g l).1
      let w := lup t g.rm g.xpiv (g.mat f a.toNat l) n
      let p := chain (fun j p => t.mulBits g.rm p (at6 w.m j j)) (at6 w.m 0 0, w.fl) (span 1 n)
      let x := t.unpack p.1
      { vs := g.valWrites f d.toNat l (if x.isNan then t.nan else if w.odd then p.1 ^^^ t.signBit else p.1),
        fl := p.2 ||| flIf x.isSnan flInvalid, ev := w.ev })]

/-- What XLUP gives in a lane: the factor in d, and the row numbers in the register after it (18 R327). -/
def lupOut (f : Bool) (d a : Fld) (g : Group) (l : Nat) : SmuOut :=
  let t := fmtW f
  let pr := d.toNat + (if f then 2 else 1)
  let n := (g.shapeOf a.toNat l).1
  if n ≠ (g.shapeOf a.toNat l).2 then { ev := 1 }
  else
    let w := lup t g.rm g.xpiv (g.mat f a.toNat l) n
    let rows := (List.range 6).map fun j => intBits t (w.p.getD j 0)
    { shapes := xShape f d.toNat l n n ++ xShape f pr l 1 n, xs := xMatrix f d.toNat l n n w.m ++ xMatrix f pr l 1 n rows,
      fl := w.fl, ev := w.ev }

/-- What XSOLV gives in a lane (18 R328). -/
def solveOut (f : Bool) (d a b : Fld) (g : Group) (l : Nat) : SmuOut :=
  let t := fmtW f
  let sa := g.shapeOf a.toNat l
  let sd := g.shapeOf d.toNat l
  let cols (step : Nat → Work → Work) : SmuOut :=
    let w := (List.range sd.2).foldl (fun w c => step c w) { m := g.mat f d.toNat l }
    smuMat f d.toNat l sd.1 sd.2 w.m w.fl w.ev
  if sa.1 ≠ sa.2 ∨ sd.1 ≠ sa.1 then { ev := 1 }
  else if a = b then cols (cholSolve t g.rm (g.mat f a.toNat l) sa.1)
  else
    match g.permOf f b.toNat l sa.1 with
    | none => { ev := 1 }
    | some p => cols (lupSolve t g.rm (g.mat f a.toNat l) p sa.1)

/-! ### Memory instructions (17 R303-R313) -/

/-- A memory instruction: what it needs of the group, its description, its lanes' accesses, whether its tests are the gang's,
and its alignment, rights, log kind, scope and release. -/
structure MemForm where
  need : Group → Bool := fun _ => true
  op : MemOp
  lanes : Group → List LaneReq
  scalar : Bool := false
  align : Nat := 1
  rights : BitVec 8
  log : Nat
  scope : BitVec 2 := 0
  release : Bool := false

/-- The scope of a packet from a scope field (02 R33, 11 R201). -/
def wireScope (c : BitVec 2) : BitVec 2 := if c = 0 then 0 else c - 1

/-- The vector loads and stores (17 R306, R308): with `sext`, a 64-bit offset, the width and the scope. -/
def vecForms (s : State) (y : Bool) (w c : BitVec 2) (d a b : Fld) : List (Instr × MemForm) :=
  let z := 2 ^ w.toNat
  let sl := s.cursor.slices
  let at_ (g : Group) (long : Bool) (l : Nat) : Nat := if long then (g.rp b.toNat l).toNat else (g.rv b.toNat l).toNat
  let desc (k : AccKind) (dst : Nat) : MemOp :=
    { slices := sl, pc := s.cursor.pc, y := y, kind := k, size := z, dst := dst, args := [], pieces := [] }
  let need (long : Bool) (g : Group) : Bool := g.valIn (w == 3) d.toNat && g.valIn long b.toNat
  let load (long : Bool) (g : Group) : List LaneReq := (g.memLanes sl s.cursor.pc).map fun l =>
    { lane := l, cap := g.rc a.toNat, off := at_ g long l, size := z }
  let store (long : Bool) (g : Group) : List LaneReq := (g.active sl).map fun l =>
    { lane := l, cap := g.rc a.toNat, off := at_ g long l, size := z, value := g.val (w == 3) d.toNat l % 256 ^ z }
  let ld (sext long : Bool) (c : BitVec 2) : MemForm :=
    { need := need long, op := desc (.load sext) ((Sparse.get none s.groups s.cursor.group |>.map Group.winb).getD 0 + d.toNat),
      lanes := load long, rights := 1, log := 0, scope := wireScope c }
  let st (long rel : Bool) (c : BitVec 2) : MemForm :=
    { need := need long, op := desc .store 0, lanes := store long, rights := 2, log := 2, scope := wireScope c, release := rel }
  [(Instr.ldI y w d a b, ld true false 0), (Instr.ldN y w d a b, ld false false 0), (Instr.ldLI y w d a b, ld true true 0),
   (Instr.ldLN y w d a b, ld false true 0), (Instr.ldAcq y w c d a b, ld false false c),
   (Instr.stN y w d a b, st false false 0), (Instr.stLN y w d a b, st true false 0), (Instr.stRel y w c d a b, st false true c)]

/-- The scalar loads and stores and those of capabilities (17 R306, R308, R313): one access for the gang, by its lowest lane. -/
def scalarForms (s : State) (y : Bool) (w c : BitVec 2) (d a b : Fld) : List (Instr × MemForm) :=
  let z := 2 ^ w.toNat
  let sl := s.cursor.slices
  let desc (k : AccKind) (z dst : Nat) : MemOp :=
    { slices := sl, pc := s.cursor.pc, y := y, kind := k, size := z, dst := dst, args := [], pieces := [] }
  let one (z : Nat) (v : Group → Nat) (g : Group) : List LaneReq := ((g.memLanes sl s.cursor.pc).take 1).map fun l =>
    { lane := l, cap := g.rc a.toNat, off := (g.rs b.toNat).toNat, size := z, value := v g }
  let ld (sext : Bool) (c : BitVec 2) : MemForm :=
    { op := desc (.loadScalar sext) z d.toNat, lanes := one z fun _ => 0, scalar := true, rights := 1, log := 0, scope := wireScope c }
  [(Instr.sldI y w d a b, ld true 0), (Instr.sldN y w d a b, ld false 0), (Instr.sldAcq y w c d a b, ld false c),
   (Instr.sstN y w d a b, { op := desc .store z 0, lanes := one z fun g => (g.rs d.toNat).toNat % 256 ^ z, scalar := true,
                            rights := 2, log := 2 }),
   (Instr.cld y d a b, { op := desc .capLoad 16 d.toNat, lanes := one 16 fun _ => 0, scalar := true, align := 16,
                         rights := rR ||| rLC, log := 0 }),
   (Instr.cst y d a b, { op := desc .capStore 16 0, lanes := one 16 fun g => (g.rc d.toNat).toNat, scalar := true, align := 16,
                         rights := rW ||| rSC, log := 2 })]

/-- The atomics (17 R310): each with its operation. -/
def atomics (y : Bool) (t : BitVec 2) (d : Fld) (f c : BitVec 2) (k : BitVec 3) (b : Fld) : List (Instr × Nat) :=
  [(Instr.atomAdd y t d f c k b, 0), (Instr.atomAnd y t d f c k b, 1), (Instr.atomOr y t d f c k b, 2),
   (Instr.atomXor y t d f c k b, 3), (Instr.atomSwap y t d f c k b, 4), (Instr.atomCas y t d f c k b, 5),
   (Instr.atomMin y t d f c k b, 6), (Instr.atomMax y t d f c k b, 7)]

/-- The accesses of an atomic: 4 or 8 bytes aligned to their size, with the operand, or for CAS the compared value and the new
one above it. -/
def atomicForm (s : State) (y : Bool) (op : Nat) (t : BitVec 2) (d : Fld) (f c : BitVec 2) (k : BitVec 3) (b : Fld) : MemForm :=
  let wide := t.getLsbD 1
  let z := if wide then 8 else 4
  let words := (if op = 5 then 2 else 1) * (if wide then 2 else 1)
  let value (g : Group) (l : Nat) : Nat :=
    (List.range words).foldl (fun v i => v + (g.rv (d.toNat + i) l).toNat * 2 ^ (32 * i)) 0
  { need := fun g => g.inWindow (d.toNat + words - 1) && g.inWindow b.toNat
    op := { slices := s.cursor.slices, pc := s.cursor.pc, y := y, kind := .atomic op (!t.getLsbD 0), size := z,
            dst := (Sparse.get none s.groups s.cursor.group |>.map Group.winb).getD 0 + d.toNat, args := [], pieces := [] }
    lanes := fun g => (g.memLanes s.cursor.slices s.cursor.pc).map fun l =>
      { lane := l, cap := g.rc k.toNat, off := (g.rv b.toNat l).toNat, size := z, value := value g l }
    align := z, rights := rR ||| rW, log := 3, scope := wireScope c, release := f.getLsbD 1 }

/-- XLD and XST (18 R324): the elements inside each lane's shape. -/
def matrixForms (s : State) (y f : Bool) (d a b : Fld) : List (Instr × MemForm) :=
  let z := if f then 8 else 4
  let sl := s.cursor.slices
  let desc (k : AccKind) (dst : Nat) : MemOp :=
    { slices := sl, pc := s.cursor.pc, y := y, kind := k, size := z, dst := dst, args := [], pieces := [] }
  let need (g : Group) : Bool := g.xIn f d.toNat && g.inWindow b.toNat
  let req (ls : Group → List Nat) (v : Group → Nat → Nat) (g : Group) : List LaneReq := (ls g).map fun l =>
    { lane := l, cap := g.rc a.toNat, off := (g.rv b.toNat l).toNat,
      size := z * (g.shapeOf d.toNat l).1 * (g.shapeOf d.toNat l).2, value := v g l }
  let elements (g : Group) (l : Nat) : Nat :=
    let c := (g.shapeOf d.toNat l).2
    (List.range ((g.shapeOf d.toNat l).1 * c)).foldl (fun v k => v + g.xe f d.toNat l (k / c) (k % c) * 256 ^ (z * k)) 0
  [(Instr.xld y f d a b, { need := need, op := desc (.matrixLoad f) d.toNat, lanes := req (fun g => g.memLanes sl s.cursor.pc) fun _ _ => 0, align := z, rights := 1, log := 0 }),
   (Instr.xst y f d a b, { need := need, op := desc .store 0, lanes := req (fun g => g.active sl) elements, align := z, rights := 2, log := 2 })]

/-- The lanes whose accesses are performed: under protected launch a write is made once for each visible lane (08 R144). -/
def performed (g : Group) (m : MemForm) : List LaneReq :=
  if g.prot && m.op.kind.writes && !m.scalar then (m.lanes g).filter fun r => r.lane % 2 == 0 else m.lanes g

/-- The pieces that leave: of a store, those lanes' whose bytes no higher lane writes, settled over all active lanes, and of
these the unfinished lanes' on a reissue (11 R196, 10 R180). -/
def issued (g : Group) (m : MemForm) : List Piece :=
  let ps := (performed g m).flatMap splitLane
  if m.op.kind = .store then (survivors ps).filter fun p => (g.memLanes m.op.slices m.op.pc).contains p.lane else ps

/-- The access of a memory instruction: the state after it, the answered pieces, and whether a page fault has no wake. -/
def accessed (s : State) (g : Group) (m : MemForm) : State × List Piece × Bool :=
  s.access s.cursor.group g m.op.kind m.log m.scope m.release (issued g m)

/-- The instruction passes its checks, and every piece of it is accepted: the group is `g2` after the accesses. -/
def Accepted (s : State) (g g2 : Group) (m : MemForm) : Prop :=
  m.need g ∧ s.checkFail g m.op.kind m.align m.rights (m.lanes g) = none
    ∧ ((g.prot && m.op.kind.writes && !m.scalar) = true → mismatches (m.lanes g) = [])
    ∧ (∀ p ∈ (accessed s g m).2.1, p.status = 0) ∧ (accessed s g m).1.group s.cursor.group = some g2

/-- The state after the accesses of an instruction that every lane of completed, with the records of a repeat that so passed
(13 R236). -/
def settled (t : State) (g2 : Group) (pc : W64) : State := t.repeatPassed g2 [pc] [true, false]

/-- The instruction with the answers of its pieces. -/
def answered (s : State) (g : Group) (m : MemForm) : MemOp := { m.op with pieces := (accessed s g m).2.1 }

/-- The group after an accepted memory instruction: nothing of it is unfinished, its result is pending where it has one, and the
elements of a matrix load are written. -/
def Resolved (g2 g3 : Group) (o : MemOp) : Prop :=
  g3 = { (g2.endRefusal o.slices).repeatPassed [o.pc] [true, false] with
          x := Sparse.setAll 0 g2.x (o.matrixWrites g2 o.lanes), pending := g3.pending, slices := g3.slices, entries := g3.entries }
    ∧ (∀ i ∈ o.slices, g3.slice i = (if (g2.slice i).replay = o.pc then { g2.slice i with unfinished := 0 } else g2.slice i))
    ∧ (∀ i, i ∉ o.slices → g3.slice i = g2.slice i)
    ∧ (∀ e, e ∈ g3.entries ↔ e ∈ g2.entries ∧ e.1 / 4 ∉ o.slices)
    ∧ match o.kind with
      | .load _ | .atomic _ _ => g3.pending = g2.pending ++ [o.result g2 o.lanes]
      | .loadScalar _ | .capLoad => g3.pending = (g2.addInOrder (o.result g2 o.lanes)).pending
      | _ => g3.pending = g2.pending

end

end Sys2Proof.Claims

open Sys2Proof Sys2Proof.Machine Sys2Proof.Claims

/-- 18 R323-R329: the forms of the small-matrix unit, with what each lane of Active() gives.
18 R321, R322: the unit writes a matrix result at once, elements outside the shape as +0, and leaves XFLAGS, FPSR flags and
vector results pending.
18 R323, R330: XSHP writes shapes only; XFLAG reads the unit's flags into v_d and clears bits [4:0], both pending. -/
def Obligations.SmallMatrixForms : Prop :=
  (∀ (s : State) (g : Group) (y f : Bool) (d a b : Fld) (i j : BitVec 3), Issues s g →
    (∀ e ∈ smallMatrixForms y f d a b i j, e.2.1 g →
      exec e.1 s = .next (after s y (g.smuApply s.cursor.slices ((g.active s.cursor.slices).map fun l => (l, e.2.2 g l)))))
    ∧ (g.xIn f d.toNat → g.xIn f a.toNat → g.xIn f (d.toNat + if f then 2 else 1) → exec (.xlup y f d a) s =
        .next (after s y (g.smuApply s.cursor.slices ((g.active s.cursor.slices).map fun l => (l, lupOut f d a g l)))))
    ∧ (g.xIn f d.toNat → g.xIn f a.toNat → g.xIn f b.toNat → exec (.xsolv y f d a b) s =
        .next (after s y (g.smuApply s.cursor.slices ((g.active s.cursor.slices).map fun l => (l, solveOut f d a b g l))))))
    ∧ (∀ (g : Group) (sl lanes : List Nat) (f : Bool) (d : Nat) (r c : Nat → Nat) (m : Nat → List Nat) (fl : Nat → BitVec 6)
    (ev : Nat → BitVec 8), lanes.Nodup → (∀ l ∈ lanes, l < 96) →
    let g' := g.smuApply sl (lanes.map fun l => (l, smuMat f d l (r l) (c l) (m l) (fl l) (ev l)))
    (∀ l ∈ lanes, g'.shapeOf d l = (r l, c l) ∧ ∀ i < 6, ∀ j < 6,
        g'.xe f d l i j = if i < r l ∧ j < c l then at6 (m l) i j % 2 ^ (if f then 64 else 32) else 0)
    ∧ (∀ k l i j, l < 96 → i < 6 → j < 6 → (k ≠ d ∧ ¬(f ∧ k = d + 1)) ∨ l ∉ lanes →
        g'.xe false k l i j = g.xe false k l i j ∧ g'.shapeOf k l = g.shapeOf k l)
    ∧ (∀ l ∈ lanes, Sparse.get 0 g'.smuFlags l = Sparse.get 0 g.smuFlags l ||| ev l
        ||| (if (fl l).getLsbD 4 then 16 else 0))
    ∧ ∃ p : Pending, g' = { g with x := g'.x, shape := g'.shape, smuFlags := g'.smuFlags, pending := g.pending ++ [p] }
        ∧ p.vecs = [] ∧ p.scalar = none ∧ p.slices = sl ∧ p.flags = flAll (lanes.map fl))
    ∧ (∀ (s : State) (g : Group) (y : Bool) (d r c : Fld), Issues s g →
    (g.xIn false d.toNat → ∃ g' : Group, exec (.xshp y d r c) s = .next (after s y g')
      ∧ (∀ k, Sparse.get (1, 1) g'.shape k =
          if ∃ l ∈ g.active s.cursor.slices, k = d.toNat * 96 + l then (r.toNat, c.toNat) else Sparse.get (1, 1) g.shape k)
      ∧ g' = { g with shape := g'.shape })
    ∧ (g.inWindow d.toNat → ∃ (g' : Group) (p : Pending), exec (.xflag y d) s = .next (after s y g')
      ∧ g' = { g with smuFlags := g'.smuFlags, pending := g.pending ++ [p] }
      ∧ (∀ l, Sparse.get 0 g'.smuFlags l = if l ∈ g.active s.cursor.slices then Sparse.get 0 g.smuFlags l &&& 0xE0
          else Sparse.get 0 g.smuFlags l)
      ∧ p = { slices := s.cursor.slices
              vecs := (g.active s.cursor.slices).map fun l => (g.vkey d.toNat l, (Sparse.get 0 g.smuFlags l).setWidth 32)
              xfl := (g.active s.cursor.slices).map fun l => (l, Sparse.get 0 g.smuFlags l &&& 0xE0) }))

/-- 17 R306, R308, R313, 18 R324: loads and stores whose checks pass and whose pieces are all accepted go on, with the result
of a load pending.
17 R310, 11 R208: atomics, likewise, after the discard of an acquire at system scope; the result is the old value.
That a read is bound when its pieces are accepted is the model's choice (log 41). -/
def Obligations.MemoryFormsComplete : Prop :=
  (∀ (s : State) (g g2 : Group) (y f : Bool) (w c : BitVec 2) (d a b : Fld), Issues s g →
    ∀ e ∈ vecForms s y w c d a b ++ scalarForms s y w c d a b ++ matrixForms s y f d a b, Accepted s g g2 e.2 →
      ∃ g3 : Group, Resolved g2 g3 (answered s g e.2)
        ∧ exec e.1 s = .next ((settled (accessed s g e.2).1 g2 s.cursor.pc).putGroup s.cursor.group (g3.goTo s.cursor.slices (s.cursor.pc + 4) y)))
    ∧ (∀ (s : State) (g g2 : Group) (y : Bool) (t : BitVec 2) (d : Fld) (f c : BitVec 2) (k : BitVec 3) (b : Fld), Issues s g →
    ∀ e ∈ atomics y t d f c k b, let m := atomicForm s y e.2 t d f c k b
      let u := s.acquireSys g (f.getLsbD 0) (wireScope c)
      s.checkFail g m.op.kind m.align m.rights (m.lanes g) = none → Accepted u g g2 m →
        ∃ g3 : Group, Resolved g2 g3 (answered u g m)
          ∧ exec e.1 s = .next ((settled (accessed u g m).1 g2 s.cursor.pc).putGroup s.cursor.group (g3.goTo s.cursor.slices (s.cursor.pc + 4) y)))

namespace Sys2Proof.Claims

open Sys2Proof.Machine

noncomputable section

/-- The group after an instruction that reads memory without a register result: nothing of its slices is unfinished. -/
def Settled (g2 g3 : Group) (sl : List Nat) (pc : W64) : Prop :=
  g3 = { (g2.endRefusal sl).repeatPassed [pc] [true, false] with slices := g3.slices }
    ∧ (∀ i ∈ sl, g3.slice i = (if (g2.slice i).replay = pc then { g2.slice i with unfinished := 0 } else g2.slice i))
    ∧ ∀ i, i ∉ sl → g3.slice i = g2.slice i

/-- The read of a WAIT (15 R270): s_a names the capability, the offset, the width and the compare. -/
def waitForm (s : State) (g : Group) (a b : Fld) : MemForm :=
  let v := g.rs a.toNat
  let c := g.rc (bits v 23 19)
  let z := if bits v 15 14 = 1 then 8 else 4
  { op := { slices := s.cursor.slices, pc := s.cursor.pc, y := false, kind := .waitRead, size := z, dst := a.toNat + 1,
            args := [bits v 18 16, (g.rs (a.toNat + 1)).toNat, (g.rs b.toNat).toNat, c.toNat, bits v 63 24,
                     (wireScope (v.extractLsb' 12 2)).toNat, g.grant.toNat], pieces := [] }
    lanes := fun g => [{ lane := g.lowest s.cursor.slices, cap := c, off := bits v 63 24, size := z }]
    align := z
    rights := 1
    log := 0
    scope := wireScope (v.extractLsb' 12 2) }

/-- The group's gang reads one word or register through a capability at home here: the access lies in the capability and in one
128-byte line of an object of this chip, and nothing else holds it up. -/
def PlainHere (s : State) (g : Group) (c : Cap) (off z : Nat) (need : BitVec 8) : Prop :=
  c.tag = true ∧ c.has need = true ∧ off + z ≤ c.length.toNat ∧ 0 < z ∧ (c.base.toNat + off) % 128 + z ≤ 128
    ∧ c.object ≠ 0 ∧ c.home = s.fab.self ∧ s.missFull (homeSlice c.object ((c.base.toNat + off) / 65536)) = false
    ∧ c.base.toNat + off ≤ (s.objEntry c.object).last ∧ g.refusedOn = [] ∧ g.memLanes s.cursor.slices s.cursor.pc ≠ []

end

end Sys2Proof.Claims

open Sys2Proof Sys2Proof.Machine Sys2Proof.Claims

/-- 15 R270, R271: a WAIT whose read is accepted goes on with the word in s_(a+1) when the compare holds, and else parks its gang
with the condition and the deadline.
The parked PC and the sum modulo 2^64 are the model's (logs 46 and 47), and so is that the read is bound at once (log
41). -/
def Obligations.WaitReadsItsWord : Prop :=
  ∀ (s : State) (g g2 : Group) (y : Bool) (a b : Fld), Issues s g → g.hasPending s.cursor.slices = false →
    let m := waitForm s g a b
    let v := g.rs a.toNat
    Accepted s g g2 m → bits v 18 16 ≠ 7 → bits v 15 14 < 2 → bits v 11 0 = 0 →
      let t := settled (accessed s g m).1 g2 s.cursor.pc
      let w := (answered s g m).valueOf ((answered s g m).lanes.headD 0) % 256 ^ m.op.size
      ∃ g3 : Group, Settled g2 g3 s.cursor.slices s.cursor.pc ∧
        if waitHolds m.op.size (bits v 18 16) w (g.rs (a.toNat + 1)).toNat then
          exec (.wait y a b) s = .next (t.putGroup s.cursor.group
            ((g3.writeS s.cursor.slices (a.toNat + 1) (BitVec.ofNat 64 w)).goTo s.cursor.slices (s.cursor.pc + 4) false))
        else
          ∃ (r : WaitRec) (g4 : Group), exec (.wait y a b) s = .next (t.putGroup s.cursor.group g4)
            ∧ g4 = { g3 with waits := (g3.waits.filter fun x => !x.slices.any fun i => s.cursor.slices.contains i) ++ [r]
                             slices := g4.slices }
            ∧ r.slices = s.cursor.slices ∧ r.offset = bits v 63 24 ∧ r.compare = bits v 18 16 ∧ r.dest = a.toNat + 1
            ∧ r.operand = g.rs (a.toNat + 1) ∧ r.size = m.op.size ∧ r.grant = capOf g.grant.toNat ∧ r.due = false
            ∧ ∀ i, g4.slice i = if i ∈ s.cursor.slices then
                { g3.slice i with state := .parked, park := .wait, arg := 0,
                                  deadline := if g.rs b.toNat = 0 then 0 else t.tickOf (dieOf g3.core) + g.rs b.toNat }
              else g3.slice i

/-- 17 R309: LDX reads its lanes' 16-byte table entries first, and stays at its own PC with them; when they are read, it reads
the data through them and goes on with its result pending.
That a read is bound when it is accepted is the model's choice (log 41). -/
def Obligations.GatherRunsInTwoPhases : Prop :=
  ∀ (s : State) (g g2 : Group) (y : Bool) (w : BitVec 2) (d a b : Fld), Issues s g →
    (∀ i ∈ s.cursor.slices, (g.slice i).replay ≠ s.cursor.pc) → g.valIn (w == 3) d.toNat → g.pairIn b.toNat →
    let sl := s.cursor.slices
    let mine := g.entries.filter fun e => sl.contains (e.1 / 4)
    let entry : MemForm :=
      { op := { slices := sl, pc := s.cursor.pc, y := y, kind := .gatherEntry, size := 16, dst := 0, args := [], pieces := [] }
        lanes := fun g => (g.active sl).map fun l =>
          { lane := l, cap := g.rc a.toNat, off := 16 * (g.rv (b.toNat + 1) l).toNat, size := 16 }
        align := 16
        rights := rR ||| rLC
        log := 0 }
    let data : MemForm :=
      { op := { slices := sl, pc := s.cursor.pc, y := y, kind := .gatherData, size := 2 ^ w.toNat, dst := g.winb + d.toNat,
                args := [], pieces := [] }
        lanes := fun g => (sortKeys (mine.map Prod.fst)).map fun l =>
          { lane := l, cap := ((mine.find? fun e => e.1 == l).map Prod.snd).getD {},
            off := (g.rv b.toNat l).toNat, size := 2 ^ w.toNat }
        rights := 1
        log := 1 }
    (mine = [] → g.active sl = [] → exec (.ldx y w d a b) s = .next (after s y g))
    ∧ (mine = [] → g.active sl ≠ [] → Accepted s g g2 entry →
        ∃ g3 : Group, exec (.ldx y w d a b) s = .next ((settled (accessed s g entry).1 g2 s.cursor.pc).putGroup s.cursor.group g3)
          ∧ g3 = { (g2.endRefusal sl).repeatPassed [s.cursor.pc] [true, false] with
                    slices := g3.slices
                    entries := g2.entries ++ (answered s g entry).lanes.map fun l => (l, capOf ((answered s g entry).valueOf l)) }
          ∧ ∀ i, (g3.slice i).pc = (g2.slice i).pc)
    ∧ (mine ≠ [] → s.checkFail { g with entries := g.entries.filter fun e => !sl.contains (e.1 / 4) } data.op.kind data.align
          data.rights (data.lanes g) = none →
        let g1 : Group := { g with entries := g.entries.filter fun e => !sl.contains (e.1 / 4) }
        (∀ p ∈ (accessed s g1 data).2.1, p.status = 0) → (accessed s g1 data).1.group s.cursor.group = some g2 →
        ∃ g3 : Group, exec (.ldx y w d a b) s =
            .next ((settled (accessed s g1 data).1 g2 s.cursor.pc).putGroup s.cursor.group (g3.goTo sl (s.cursor.pc + 4) y))
          ∧ g3.pending = g2.pending ++ [(answered s g1 data).result g2 (answered s g1 data).lanes]
          ∧ g3.s = g2.s ∧ g3.v = g2.v ∧ g3.c = g2.c ∧ g3.x = g2.x)

/-- 17 R316: SMAP maps a capability's range into the lowest free region of the block and returns its number.
17 R317: SFLUSH and SUNMAP go on once their write-backs have ended, and at once when no line of the region is dirty; SUNMAP
drops the region with its lines, SFLUSH changes no line more.
What the stash keeps of a region that another chip homes is the model's reading (log 92). -/
def Obligations.StashMappings : Prop :=
  (∀ (s : State) (g : Group) (k : Block) (n : Nat) (y : Bool) (d a b : Fld), Issues s g → s.block g.block = some k →
    let c := g.rc a.toNat
    let v := g.rs b.toNat
    c.tag → c.has (rR ||| rE) → bits v 63 22 = 0 → bits v 21 0 % 4096 = 0 → c.length.toNat % 4096 = 0 → c.base.toNat % 128 = 0 →
    c.object ≠ 0 → bits v 21 0 + c.length.toNat ≤ k.alloc → k.overlaps (bits v 21 0) c.length.toNat = false →
    n < 16 → (∀ r ∈ k.regions, r.number ≠ n) → (∀ m < n, ∃ r ∈ k.regions, r.number = m) →
      ∃ g' : Group, ScalarWrite g g' s.cursor.slices d.toNat (BitVec.ofNat 64 n)
        ∧ exec (.smap y d a b) s = .next (after (s.putBlock g.block { k with regions := k.regions ++
            [{ number := n, base := bits v 21 0, length := c.length.toNat, cap := c }] }) y (g'.recheckJoin s.cursor.slices d.toNat)))
    ∧ (∀ (s : State) (g : Group) (k : Block) (r : Region) (y : Bool) (a : Fld), Issues s g → s.block g.block = some k →
    k.regionOf (g.rs a.toNat) = some r → g.flushing = [] → g.refusedOn = [] →
    let unmapped (k : Block) : Block := { k with
      regions := k.regions.filter fun x => x.number != r.number
      lines := Sparse.clearRange k.lines ((r.base + 127) / 128) ((r.base + r.length) / 128) }
    ((∀ n ∈ k.linesOf r, ∀ l, Sparse.get none k.lines n = some l → l.dirty = false) →
      exec (.sflush y a) s = .next (after (s.putBlock g.block k) y g)
      ∧ exec (.sunmap y a) s = .next (after (s.putBlock g.block (unmapped k)) y g))
    ∧ ∀ (t : State) (k2 : Block), s.flushLines g.block r (s.groupReq s.cursor.group g 2) (k.linesOf r) = (t, {}) →
        t.block g.block = some k2 →
        exec (.sflush y a) s = .next (after (t.putBlock g.block k2) y g)
        ∧ exec (.sunmap y a) s = .next (after (t.putBlock g.block (unmapped k2)) y g))

/-- 17 R311, 11 R208: a fence goes on and changes no register. An acquire or full fence at system scope also discards the
lines of the context's host-memory pages that the device holds cached: their bytes become what the host wrote meanwhile, and
every other byte stays.
17 R312: PREF goes on whatever its addresses meet, and changes no group, no frame's metadata and nothing of the host's but
the error ring, where a translation that R74 refuses leaves its record; firmware's counts change only with a sector that fails its
check. A lane that names an absent line of a region of an object of this chip, whose page is mapped, granted and not being
published, in a slice whose miss queue has room, brings that line into the stash.
15 R273: YIELDC without a blocked entry changes nothing.
What a prefetch does beyond bringing a line in is the model's reading (logs 82 and 83). -/
def Obligations.FencesHintsAndYield : Prop :=
  (∀ (s : State) (g : Group) (y : Bool), Issues s g →
    (∀ i ∈ fences y, exec i s = .next (after s y g))
    ∧ ∀ i ∈ [Instr.fenceAcqSys y, Instr.fenceFullSys y],
        ∃ t : State, exec i s = .next (after t y g)
          ∧ t = { s with disp := t.disp, mem := { s.mem with bytes := t.mem.bytes, hostNew := t.mem.hostNew, hostCached := t.mem.hostCached } }
          ∧ (∀ k, Sparse.get none t.mem.hostCached k ≠ some g.ctx)
          ∧ (∀ e ∈ t.mem.hostNew, Sparse.get none s.mem.hostCached (e.1 / 128) ≠ some g.ctx)
          ∧ (∀ k, Sparse.get none s.mem.hostCached (k / 128) ≠ some g.ctx →
              Sparse.get 0 t.mem.bytes k = Sparse.get 0 s.mem.bytes k)
          ∧ ∀ k b, Sparse.get none s.mem.hostCached (k / 128) = some g.ctx → (k, some b) ∈ s.mem.hostNew →
              (∀ b', (k, some b') ∈ s.mem.hostNew → b' = b) → Sparse.get 0 t.mem.bytes k = b)
    ∧ (∀ (s : State) (g : Group) (y : Bool) (a b : Fld), Issues s g → g.inWindow b.toNat →
    ∃ t : State, exec (.pref y a b) s = .next (t.putGroup s.cursor.group (g.goTo s.cursor.slices (s.cursor.pc + 4) y))
      ∧ t.groups = s.groups ∧ t.cursor = s.cursor ∧ t.trust = s.trust
      ∧ t.host = { s.host with errRing := t.host.errRing, errHead := t.host.errHead, errLost := t.host.errLost }
      ∧ (s.mem.stale = [] → t.fw = s.fw)
      ∧ ∀ (l : Nat) (k : Block) (r : Region) (w : W64) (e : ObjEntry), g.active s.cursor.slices = [l] →
          let c := g.rc a.toNat
          let at_ := c.base.toNat + (g.rv b.toNat l).toNat
          c.tag = true → c.has rR = true → c.isStash = true → (g.rv b.toNat l).toNat < c.length.toNat → at_ < k.alloc →
          s.block g.block = some k → k.regionAt at_ = some r → r.cap.home = s.fab.self → Sparse.get none k.lines (at_ / 128) = none →
          s.plainPage r.cap.object (r.objectOff (128 * (at_ / 128))) = some (w, e) →
          s.levee (s.groupReq s.cursor.group g 7) (leafPtag w) = true → e.publishing = false → e.isContext = false →
          s.missFull (homeSlice r.cap.object (r.objectOff (128 * (at_ / 128)) / 65536)) = false →
            ∃ (k' : Block) (line : StashLine), t.block g.block = some k' ∧ Sparse.get none k'.lines (at_ / 128) = some line)
    ∧ (∀ (s : State) (g : Group) (y : Bool), Issues s g → s.blockedEntry g.core = none →
    exec (.yieldc y) s = .next (after s y g))

/-- 10 R176, R181: translation of an access without a shadow, past the table and the leaf: the Levee decides first, once
it has the line of a grant map that another chip homes, then protection; a granted access marks the leaf, binds a frame at its first write, and changes no byte.
10 R181, R182: a request that the Levee denies answers zero for every piece, whatever memory holds, and a denied store
writes nothing but the denial log.
17 R308, R304: SST.N to a mapped page of this chip stores the low bytes of s_d at its address, every other byte of every
frame stays, and the registers stay.
17 R306: SLD.N from a mapped page of this chip: s_d is to take the bytes at its address, zero-extended; memory stays.
That a read is bound when it is accepted is the model's choice (log 41), and so is how a Levee reads another chip's
grant map (log 17). -/
def Obligations.AccessesReachTheirBytes : Prop :=
  (∀ (s : State) (q : Requester) (o : BitVec 28) (off key : Nat) (w : W64) (writes : Bool), s.dieRuns (homeDie o) →
    (s.objEntry o).valid → off ≤ (s.objEntry o).last → s.walk (s.objEntry o).root off = .leaf key w →
    leafMalformed w (homeSlice o (off / 65536)) = false → s.cryptoFault w (s.objEntry o) = none →
    (s.objEntry o).publishing = false →
      (s.grantUnknown q (leafPtag w) = true → s.translate q o off writes false = (s.askGrant q (leafPtag w), .hold))
      ∧ (s.grantUnknown q (leafPtag w) = false → s.levee q (leafPtag w) = false →
          s.translate q o off writes false = (s.useGrant q (leafPtag w), .denied (leafPtag w)))
      ∧ (s.grantUnknown q (leafPtag w) = false → s.levee q (leafPtag w) = true → ((s.objEntry o).isContext && s.contextBusy o q writes) = false →
          (writes && leafProtected w) = false → s.tierReached (leafFrame w) = true →
          ∃ t : State, s.translate q o off writes false =
              (t, .ok (w ||| (1#64 <<< 60) ||| (if writes then 1#64 <<< 61 else 0)) (s.objEntry o))
            ∧ t.mem = { s.mem with
                tables := t.mem.tables, minors := t.mem.minors, majors := t.mem.majors, schemes := t.mem.schemes
                grants := (s.useGrant q (leafPtag w)).mem.grants } ∧ t.groups = s.groups ∧ t.disp = s.disp
            ∧ ((writes = false ∨ (s.frameMeta (leafFrame w)).bound) → t.trust = s.trust)
            ∧ (writes → (t.frameMeta (leafFrame w)).bound)))
    ∧ (∀ (s t : State) (q : Requester) (kind : AccKind) (p0 : Piece) (ps : List Piece) (ptag : BitVec 20),
    s.translate q p0.object ((p0 :: ps).foldl (fun m p => min m p.offset) p0.offset) kind.writes false = (t, .denied ptag) →
      s.serve q kind (p0 :: ps) = (t.logDenial q p0.object ((p0 :: ps).foldl (fun m p => min m p.offset) p0.offset) ptag q.kind,
        (p0 :: ps).map fun p => { p with status := 1, value := 0 }, false))
    ∧ (∀ (s t : State) (g : Group) (y : Bool) (w : BitVec 2) (d a b : Fld) (leaf : W64) (e : ObjEntry), Issues s g →
    let c := g.rc a.toNat
    let off := (g.rs b.toNat).toNat
    let z := 2 ^ w.toNat
    let at_ := c.base.toNat + off
    PlainHere s g c off z 2 →
    (s.freshGrants g.grant.home g.grant.object).translate (s.groupReq s.cursor.group g 2) c.object at_ true false = (t, .ok leaf e) → t.copiesOf c.object at_ z = [] →
    t.groups = s.groups → t.mem.stale = [] →
      ∃ (u : State) (g' : Group), exec (.sstN y w d a b) s = .next (u.putGroup s.cursor.group g')
        ∧ (∀ f, ∀ o < 65536, u.frameByte f o =
            if f = leafFrame leaf ∧ at_ % 65536 ≤ o ∧ o < at_ % 65536 + z then
              BitVec.ofNat 8 ((g.rs d.toNat).toNat / 256 ^ (o - at_ % 65536))
            else t.frameByte f o)
        ∧ u.groups = t.groups ∧ u.host = t.host ∧ u.fw = t.fw
        ∧ (∀ r, g'.rs r = g.rs r) ∧ (∀ r, g'.rc r = g.rc r) ∧ g'.v = g.v ∧ g'.x = g.x ∧ g'.fpsr = g.fpsr ∧ g'.tstat = g.tstat
        ∧ ∀ i ∈ s.cursor.slices, (g'.slice i).pc = s.cursor.pc + 4)
    ∧ (∀ (s t : State) (g : Group) (y : Bool) (w : BitVec 2) (d a b : Fld) (leaf : W64) (e : ObjEntry), Issues s g →
    let c := g.rc a.toNat
    let off := (g.rs b.toNat).toNat
    let z := 2 ^ w.toNat
    let at_ := c.base.toNat + off
    PlainHere s g c off z 1 →
    (s.freshGrants g.grant.home g.grant.object).translate (s.groupReq s.cursor.group g 0) c.object at_ false false = (t, .ok leaf e) → t.copiesOf c.object at_ z = [] →
    t.framePoisoned (leafFrame leaf) (at_ % 65536) z = false → t.groups = s.groups → t.mem.stale = [] →
    (∀ p ∈ g.pending, p.serial ≤ g.lastIssue) →
      ∃ (u : State) (g' : Group),
        exec (.sldN y w d a b) s = .next (u.putGroup s.cursor.group (g'.goTo s.cursor.slices (s.cursor.pc + 4) y))
        ∧ (∀ f o, u.frameByte f o = t.frameByte f o) ∧ u.groups = t.groups ∧ u.host = t.host ∧ u.fw = t.fw ∧ u.trust = t.trust
        ∧ g'.pending = g.pending ++ [
            { slices := s.cursor.slices, serial := g.lastIssue
              scalar := some (d.toNat, BitVec.ofNat 64 (t.frameNat (leafFrame leaf) (at_ % 65536) z)) }]
        ∧ g'.s = g.s ∧ g'.v = g.v ∧ g'.c = g.c ∧ g'.x = g.x)

namespace Sys2Proof.Claims

open Sys2Proof.Machine

noncomputable section

/-! ### Engine commands (19 R339-R352) -/

/-- The state in which the group has issued a command, which is counted in its open batch, and has become `g`: its gang goes
on at the next instruction. -/
def commanded (s : State) (g : Group) (sl : List Nat) (pc : W64) (y : Bool) (c : Command) : State :=
  ({ s with cmds := Sparse.set none s.cmds s.nextCmd (some c), nextCmd := s.nextCmd + 1 } : State).putGroup s.cursor.group
    (({ g with batch := g.batch.count } : Group).goTo sl pc y)

/-- A command of the issuing group, before its fields are filled in. -/
def fresh (s : State) (g : Group) (work : CmdWork) : Command :=
  { group := s.cursor.group, block := g.block, batch := g.batch.openNum, req := s.groupReq s.cursor.group g 4, work := work }

/-- A capability with its tag, the rights given and E, over a range of it, which lies in the allocation if it is of the stash. -/
def Names (s : State) (g : Group) (c : Cap) (need : BitVec 8) (off len : Nat) : Prop :=
  c.tag = true ∧ c.has (need ||| rE) = true ∧ off + len ≤ c.length.toNat
    ∧ (c.object = 0 → c.base.toNat + off + len ≤ s.allocOf g)

/-- A field bit that asks for barrier counting is clear, or its barrier exists in the group's block. -/
def Counts (s : State) (g : Group) (bit : Bool) (barrier : Nat) : Prop :=
  bit = true → g.task = false ∧ ∃ k, s.block g.block = some k ∧ barrier < k.barriers

/-- The range of a command, or nothing when it is empty. -/
def rangeOf (c : Cap) (blk off len : Nat) (shadow : Bool) : List Span :=
  if len = 0 then [] else [{ cap := c, blk := blk, off := c.base.toNat + off, len := len, pos := 0, shadow := shadow }]

/-- The gang's format word passes its vote and its check (18 R332). -/
def Format (s : State) (g : Group) (a : Fld) (w : W32) : Prop :=
  g.inWindow a.toNat ∧ w = g.votedWord s.cursor.slices a.toNat ∧ (∀ l ∈ g.active s.cursor.slices, g.rv a.toNat l = w)
    ∧ fmtOk w = true

/-- A matrix command of the group on bound tiles. -/
def mxCommand (s : State) (g : Group) (bound : List (Nat × Nat)) (frees : Bool) (count : Option Nat) (steps : List MxStep) : Command :=
  { fresh s g .mx with tiles := bound.map Prod.snd, frees := if frees then bound.map Prod.snd else [], count := count, steps := steps }

/-- The fields of a card that its OPERAND tests find in order: the dimensions, bases and pitch are as given, no reserved field
holds a bit, and a barrier that is counted into exists (18 R337). -/
def CardFields (s : State) (g : Group) (card : List Byte) (m n k ab bb pitch rot : Nat) : Prop :=
  let word (off n : Nat) : W64 := BitVec.ofNat 64 (rowNat card off n)
  let flags := word 0x3C 4
  dimsOf (word 0 8) = some (m, n, k, false) ∧ baseOf (word 8 8) = some ab ∧ baseOf (word 0x10 8) = some bb
    ∧ pitchOf (word 0x18 8) = some (pitch, rot) ∧ bits (word 0x38 4) 31 20 = 0 ∧ bits flags 7 2 = 0 ∧ bits flags 31 15 = 0
    ∧ (∀ l ∈ (List.range 5).map (jobLevel card), l.reserved = false) ∧ Counts s g (flags.getLsbD 14) (bits flags 13 8)

end

end Sys2Proof.Claims

open Sys2Proof Sys2Proof.Machine Sys2Proof.Claims

/-- 19 R343, R344: a CPY whose tests pass issues one command of its ranges, flags and signal, and the gang goes on.
19 R344, R345, 02 R26: a CPY.R of mode 0 writes at the chip that its place names, through the shadow when the bit is set and
that chip is this one; of mode 1, into the lowest block of the grid on the core that it names, whose barrier takes the remote count,
or it ends UNREACH when there is none or it does not reach so far. Count and signal are as those of CPY.
That ranges move in ascending order is the model's choice (log 40). -/
def Obligations.CopiesIssueOneCommand : Prop :=
  (∀ (s : State) (g : Group) (y : Bool) (d a b : Fld), Issues s g → b.toNat ≤ 124 → s.outstanding s.cursor.group < 1024 →
    let len := bits (g.rs b.toNat) 39 0
    let to_ := bits (g.rs (b.toNat + 1)) 39 0
    let from_ := bits (g.rs (b.toNat + 2)) 39 0
    let v := g.rs (b.toNat + 3)
    let src := g.rc a.toNat
    let dst := g.rc d.toNat
    let sig := g.rc (bits v 31 27)
    Names s g src rR from_ len → Names s g dst rW to_ len → bits (g.rs b.toNat) 63 40 = 0 →
    bits (g.rs (b.toNat + 1)) 63 40 = 0 → bits (g.rs (b.toNat + 2)) 63 40 = 0 → bits v 63 32 = 0 → v.getLsbD 22 = false →
    bits v 15 0 = 0 → v.getLsbD 25 = false → (v.getLsbD 24 = true → dst.object ≠ 0 ∧ dst.home = s.fab.self) →
    Counts s g (v.getLsbD 23) (bits v 21 16) → (v.getLsbD 26 = true → sig.base.toNat % 8 = 0 ∧ Names s g sig rW 0 8) →
      exec (.cpy y d a b) s = .next (commanded s g s.cursor.slices (s.cursor.pc + 4) y
        { fresh s g (.copy (src.has rLC && dst.has rSC)) with
          reads := rangeOf src g.block from_ len false
          writes := rangeOf dst g.block to_ len (v.getLsbD 24)
          count := if v.getLsbD 23 then some (bits v 21 16) else none
          signal := if v.getLsbD 26 then some sig else none }))
    ∧ (∀ (s : State) (g : Group) (y : Bool) (d a b : Fld), Issues s g → b.toNat ≤ 124 → s.outstanding s.cursor.group < 1024 →
    let len := bits (g.rs b.toNat) 39 0
    let to_ := bits (g.rs (b.toNat + 1)) 39 0
    let from_ := bits (g.rs (b.toNat + 2)) 39 0
    let v := g.rs (b.toNat + 3)
    let src := g.rc a.toNat
    let dst := g.rc d.toNat
    let sig := g.rc (bits v 31 27)
    let place := s.placeChip g (v.extractLsb' 50 6) (v.extractLsb' 56 6)
    let c : Command := { fresh s g (.copy (src.has rLC && dst.has rSC)) with
      reads := rangeOf src g.block from_ len false
      count := if v.getLsbD 23 then some (bits v 21 16) else none
      signal := if v.getLsbD 26 then some sig else none }
    Names s g src rR from_ len → dst.tag = true → dst.has (rW ||| rE) = true → to_ + len ≤ dst.length.toNat →
    bits (g.rs b.toNat) 63 40 = 0 → bits (g.rs (b.toNat + 1)) 63 40 = 0 → bits (g.rs (b.toNat + 2)) 63 40 = 0 →
    bits v 49 32 = 0 → v.getLsbD 22 = false → bits v 15 0 = 0 → Counts s g (v.getLsbD 23 || v.getLsbD 25) (bits v 21 16) →
    (v.getLsbD 26 = true → sig.base.toNat % 8 = 0 ∧ Names s g sig rW 0 8) →
      (bits v 63 62 = 0 → dst.object ≠ 0 → v.getLsbD 25 = false → (v.getLsbD 24 = true → place = s.fab.self) →
        exec (.cpyR y d a b) s = .next (commanded s g s.cursor.slices (s.cursor.pc + 4) y
          { c with writes := rangeOf { dst with home := place } g.block to_ len (v.getLsbD 24) }))
      ∧ (bits v 63 62 = 1 → bits v 61 58 = 0 → dst.object = 0 → v.getLsbD 24 = false →
        exec (.cpyR y d a b) s = .next (commanded s g s.cursor.slices (s.cursor.pc + 4) y
          (match s.peerBlock g (v.extractLsb' 50 8) with
            | some p => if dst.base.toNat + to_ + len ≤ p.2.alloc then
                { c with writes := rangeOf dst p.1 to_ len false
                         remoteCount := if v.getLsbD 25 then some (p.1, bits v 21 16) else none }
              else { c with status := 5 }
            | none => { c with status := 5 }))))

/-- 19 R346, R347, 02 R42: a COLL whose tests pass issues a reduction or a multicast.
19 R348, R350: PUB and NSEND whose tests pass issue one command each.
Where a REDPART holds its time-out and length is the model's choice (log 37). -/
def Obligations.CollectivesAndMessagesIssue : Prop :=
  (∀ (s : State) (g : Group) (y : Bool) (d a b : Fld), Issues s g → b.toNat ≤ 124 → s.outstanding s.cursor.group < 1024 →
    let v0 := g.rs b.toNat
    let v3 := g.rs (b.toNat + 3)
    let len := bits v0 31 0
    let to_ := bits (g.rs (b.toNat + 1)) 39 0
    let from_ := bits (g.rs (b.toNat + 2)) 39 0
    let src := g.rc a.toNat
    let dst := g.rc d.toNat
    let count := if v3.getLsbD 12 then some (bits v3 11 6) else none
    Names s g src rR from_ len → Names s g dst rW to_ len → bits (g.rs (b.toNat + 1)) 63 40 = 0 →
    bits (g.rs (b.toNat + 2)) 63 40 = 0 → bits v3 5 0 = 0 → Counts s g (v3.getLsbD 12) (bits v3 11 6) →
      (bits v3 63 62 = 0 → len ≤ 65536 → reduceOk (bits v3 25 18) (bits v3 17 13) = true →
          len % reduceSize (bits v3 17 13) = 0 → bits v0 63 32 ≠ 0 →
        exec (.coll y d a b) s = .next (commanded s g s.cursor.slices (s.cursor.pc + 4) y
          { fresh s g (.reduce dst to_ (v3.extractLsb' 26 24) len (BitVec.ofNat 8 (bits v3 25 18)) (BitVec.ofNat 8 (bits v3 17 13))
              (v3.extractLsb' 50 12) (v0.extractLsb' 32 32)) with
            reads := rangeOf src g.block from_ len false, count := count }))
      ∧ (bits v3 63 62 = 1 → len ≤ 2 ^ 24 → bits v0 63 32 = 0 → bits v3 49 13 = 0 → src.object ≠ 0 → dst.object ≠ 0 →
        exec (.coll y d a b) s = .next (commanded s g s.cursor.slices (s.cursor.pc + 4) y
          { fresh s g (.mcast (v3.extractLsb' 50 12) dst.object) with
            reads := rangeOf src g.block from_ len false, writes := rangeOf dst g.block to_ len false, count := count })))
    ∧ (∀ (s : State) (g : Group) (y : Bool) (a b : Fld), Issues s g → s.outstanding s.cursor.group < 1024 →
    let c := g.rc a.toNat
    (c.tag = true → c.has rP = true → c.object ≠ 0 → c.home = s.fab.self → s.dieRuns (homeDie c.object) = true →
        (s.objEntry c.object).valid = true →
      exec (.pub y a) s = .next (commanded s g s.cursor.slices (s.cursor.pc + 4) y (fresh s g (.publish c.object))))
    ∧ (b.toNat ≤ 124 →
        let len := bits (g.rs b.toNat) 16 0
        let from_ := bits (g.rs (b.toNat + 1)) 39 0
        let peer := bits (g.rs (b.toNat + 2)) 15 0
        Names s g c rR from_ len → bits (g.rs b.toNat) 63 17 = 0 → len ≤ 65536 → bits (g.rs (b.toNat + 1)) 63 40 = 0 →
        bits (g.rs (b.toNat + 2)) 63 16 = 0 → bits (g.rs (b.toNat + 3)) 63 32 = 0 → Sparse.get none s.mem.peers peer = some g.ctx →
      exec (.nsend y a b) s = .next (commanded s g s.cursor.slices (s.cursor.pc + 4) y
        { fresh s g (.send peer ((g.rs (b.toNat + 3)).setWidth 32) len) with reads := rangeOf c g.block from_ len false })))

/-- 19 R351: ARM answers the index of the entry that it makes or ends, and bit 63 with a code when it cannot.
The causes of a bad buffer are the model's (log 36). -/
def Obligations.ArmAnswersItsEntry : Prop :=
  ∀ (s : State) (g : Group) (y : Bool) (d a b : Fld), Issues s g → b.toNat ≤ 126 →
    let v := g.rs b.toNat
    let c := g.rc a.toNat
    let answers (t : State) (w : W64) : Prop :=
      ∃ g' : Group, exec (.arm y d a b) s = .next (after t y (g'.recheckJoin s.cursor.slices d.toNat)) ∧ ScalarWrite g g' s.cursor.slices d.toNat w
    let with_ (k : Nat) (e : Option ArmEntry) : State := { s with mem := { s.mem with arms := Sparse.set none s.mem.arms k e } }
    bits v 63 46 = 0 →
      (bits v 45 44 ≤ 1 → c.tag = true → c.has (if bits v 45 44 = 1 then rR ||| rW ||| rE else rW ||| rE) = true →
          1 ≤ bits v 43 32 → c.base.toNat % 65536 = 0 → 65536 * (1 + bits v 43 32) ≤ c.length.toNat →
          c.base.toNat + c.length.toNat ≤ 2 ^ 28 → c.object ≠ 0 →
        if (s.armed (v.setWidth 32)).isSome then answers s (BitVec.ofNat 64 (2 ^ 63 + 2))
        else
          ((∀ k < 1024, Sparse.get none s.mem.arms k ≠ none) → answers s (BitVec.ofNat 64 (2 ^ 63 + 1)))
          ∧ ∀ k < 1024, Sparse.get none s.mem.arms k = none → (∀ j < k, Sparse.get none s.mem.arms j ≠ none) →
            answers (with_ k (some { tag := v.setWidth 32, ctx := g.ctx, fire := decide (bits v 45 44 = 1), slots := bits v 43 32,
                                     buffer := c, grant := g.grant })) (BitVec.ofNat 64 k))
      ∧ (bits v 45 44 = 2 → bits (g.rs (b.toNat + 1)) 63 10 = 0 →
        let k := bits (g.rs (b.toNat + 1)) 9 0
        (∀ e, Sparse.get none s.mem.arms k = some e → e.ctx = g.ctx → answers (with_ k none) (BitVec.ofNat 64 k))
        ∧ ((∀ e, Sparse.get none s.mem.arms k = some e → e.ctx ≠ g.ctx) → answers s (BitVec.ofNat 64 (2 ^ 63 + 3))))

/-- 19 R353: POST sends one record for each active visible lane, in lane order, and goes on; when one cannot leave the core the
gang parks and no record has left.
19 R354: LAUNCH posts the submit record that s_b to s_(b+7) hold, as one command of the open batch, whose number s_d takes;
a context that does not accept ends the command with code 0x10. -/
def Obligations.PostsAndLaunches : Prop :=
  (∀ (s : State) (g : Group) (y : Bool) (d a b : Fld), Issues s g → b.toNat % 2 = 0 → b.toNat ≤ 118 → g.inWindow (b.toNat + 9) →
    let c := g.rc a.toNat
    let lanes := (g.activeVis s.cursor.slices).map fun l => if g.prot then 2 * l else l
    let recs : List TaskRec := lanes.map fun l =>
      { kernel := g.rs d.toNat, ctx := g.ctx, cap := c, offset := g.rp b.toNat l,
        args := (List.range 8).map fun j => g.rv (b.toNat + 2 + j) l, tick := 0 }
    c.tag = true → c.has rE = true → (∀ l ∈ lanes, (g.rp b.toNat l).toNat < c.length.toNat) →
      (∀ t, s.postAll g recs = some t → exec (.post y d a b) s = .next (after t y g))
      ∧ (s.postAll g recs = none → exec (.post y d a b) s = .next (s.putGroup s.cursor.group
          (g.mapSlices (fun _ r => r.parkAt .post 0 0) s.cursor.slices))))
    ∧ (∀ (s : State) (g : Group) (y : Bool) (d b : Fld), Issues s g → b.toNat ≤ 120 → s.outstanding s.cursor.group < 1024 →
    let r := BitVec.ofNat 512 ((List.range 8).foldl (fun n k => n + (g.rs (b.toNat + k)).toNat * 2 ^ (64 * k)) 0)
    let rec_ := s.record 0x01 g.ctx (packSubmit r 1 (s.submitDigest r))
    let posted := s.post rec_
    submitWellFormed r = true → subField r 2 2 ≤ 1023 → subField r 0x1E 2 ≠ 0 →
      ∃ g' : Group, ScalarWrite { g with batch := g.batch.count } g' s.cursor.slices d.toNat (g.batch.openNum.setWidth 64)
        ∧ ((s.ctxOf g.ctx).accepts = true → exec (.launch y d b) s = .next (after
            { posted with disp := { posted.disp with launches := posted.disp.launches ++ [(s.nextCmd, rec_)] },
                          cmds := Sparse.set none s.cmds s.nextCmd (some (fresh s g .launch)), nextCmd := s.nextCmd + 1 }
            y (g'.recheckJoin s.cursor.slices d.toNat)))
        ∧ ((s.ctxOf g.ctx).accepts = false → exec (.launch y d b) s = .next (after
            { s with cmds := Sparse.set none s.cmds s.nextCmd (some { fresh s g .launch with status := 0x10, ended := some 0 }),
                     nextCmd := s.nextCmd + 1 }
            y (g'.recheckJoin s.cursor.slices d.toNat))))

/-- 19 R340-R342: BCLOSE returns the open batch and opens the next, 1 after the last number; WAITB of a completed batch returns
its status word, of a younger one parks its gang, and of one that is neither retained
nor outstanding returns code 0x0E and no commands.
19 R355: GATE goes on through an open gate and parks at a closed one; RLSE releases its block and goes on.
That a gang parked at WAITB or GATE keeps its PC is the model's (log 46), and so is which predecessors set the fault
flag that a gate latches (log 34). -/
def Obligations.BatchesAndTheGate : Prop :=
  (∀ (s : State) (g : Group) (y : Bool) (a d : Fld), Issues s g →
    (∃ g1 g2 : Group, exec (.bclose y d) s = .next ((s.putGroup s.cursor.group (g2.goTo s.cursor.slices (s.cursor.pc + 4) y)).settleBatches
          s.cursor.group)
        ∧ ScalarWrite g g1 s.cursor.slices d.toNat (g.batch.openNum.setWidth 64)
        ∧ g2 = { g1.recheckJoin s.cursor.slices d.toNat with batch := g2.batch }
        ∧ g2.batch.openNum = (if g.batch.openNum = 0xFFFFFFFF then 1 else g.batch.openNum + 1) ∧ g2.batch.done = g.batch.done)
    ∧ (g.hasPending s.cursor.slices = false → g.batch.opened ((g.rs a.toNat).setWidth 32) = true →
        let n : BitVec 32 := (g.rs a.toNat).setWidth 32
        ((∀ e ∈ g.batch.done, e.1 ≠ n) → (∀ e ∈ g.batch.counts, e.1 ≠ n) →
          g.batch.find n = some (BitVec.ofNat 64 (2 ^ 32 * n.toNat + 2 ^ 24 * 0x0E)))
        ∧ (∀ e ∈ g.batch.counts, e.1 = n → (∀ d ∈ g.batch.done, d.1 ≠ n) → g.batch.find n = none)
        ∧ (∀ w, g.batch.find n = some w →
          ∃ g' : Group, exec (.waitb y a) s = .next (after s false (g'.recheckJoin s.cursor.slices a.toNat)) ∧ ScalarWrite g g' s.cursor.slices a.toNat w)
        ∧ (g.batch.find n = none →
          ∃ g' : Group, exec (.waitb y a) s = .next (s.putGroup s.cursor.group g') ∧ g' = { g with slices := g'.slices }
            ∧ ∀ i ∈ s.cursor.slices, (g'.slice i).state = .parked ∧ (g'.slice i).park = .waitb ∧ (g'.slice i).arg = n
              ∧ (g'.slice i).pc = (g.slice i).pc)))
    ∧ (∀ (s : State) (g : Group) (y : Bool), Issues s g →
    (g.hasPending s.cursor.slices = false → (g.task = true ∨ (s.conf.grid g.grid.toNat).gated = false) →
        (g.task = true ∨ Sparse.get false s.disp.gateFault g.grid.toNat = false) → exec (.gate y) s = .next (after s false g))
    ∧ (g.hasPending s.cursor.slices = false → g.task = false → (s.conf.grid g.grid.toNat).gated = true →
        exec (.gate y) s = .next (s.putGroup s.cursor.group (g.mapSlices (fun _ r => r.parkAt .gate 0 0) s.cursor.slices)))
    ∧ (∀ b, s.block g.block = some b → exec (.rlse y) s = .next (after ((s.releaseBlock g.block).rowEvents b.grid b.nominal) y g))
    ∧ (s.block g.block = none → exec (.rlse y) s = .next (after s y g)))

/-- 18 R331-R336: the matrix instructions whose tests pass bind their handle to a tile and issue one command of one step.
18 R337, R338: MXJOB reads its card. A card whose tests pass issues a command: with no step where a dimension or a count
is zero, and otherwise with the steps of R338's order on the tiles of the handles that the job uses.
That the capability tests stand before the OPERAND tests is the model's reading (log 93). -/
def Obligations.MatrixWorkIssues : Prop :=
  (∀ (s t : State) (g g1 : Group) (y : Bool) (d a b : Fld) (w : W32) (bound : List (Nat × Nat)), Issues s g →
    s.outstanding s.cursor.group < 1024 → d.toNat < g.aCount → s.bindTiles s.cursor.group g [d.toNat] = some (t, g1, bound) →
    let tile := ((bound.find? fun e => e.1 == d.toNat).map Prod.snd).getD 0
    let v (i : Nat) : W64 := g.rs (b.toNat + i)
    let goesOn (c : Command) : Res := .next (commanded t g1 s.cursor.slices (s.cursor.pc + 4) y c)
    exec (.mxza y d) s = goesOn (mxCommand t g1 bound false none [.zero tile 96 96])
    ∧ (Format s g a w → ∀ (m n k ab bb pitch rot : Nat) (zf : Bool), dimsOf (v 0) = some (m, n, k, zf) → baseOf (v 1) = some ab →
        baseOf (v 2) = some bb → pitchOf (v 3) = some (pitch, rot) → m ≠ 0 → n ≠ 0 → k ≠ 0 →
        stashFits ab pitch rot m (rowBytes w (fmtA w) k) (s.allocOf g) = true →
        stashFits bb pitch rot n (rowBytes w (fmtB w) k) (s.allocOf g) = true →
      exec (.mxS y d a b) s =
        goesOn (mxCommand t g1 bound false none [.mul tile w m n k zf (.stash ab pitch rot) (.stash bb pitch rot)]))
    ∧ (Format s g a w → ∀ (m n k bb pitch rot : Nat) (zf : Bool), dimsOf (v 0) = some (m, n, k, zf) → bits (v 1) 63 7 = 0 →
        baseOf (v 2) = some bb → pitchOf (v 3) = some (pitch, rot) → m ≠ 0 → n ≠ 0 → k ≠ 0 → m ≤ g.visible →
        let run := bits (v 1) 6 0
        let na := rowBytes w (fmtA w) k
        run + (na + 3) / 4 ≤ 128 → g.winb + run + (na + 3) / 4 ≤ g.extent →
        stashFits bb pitch rot n (rowBytes w (fmtB w) k) (s.allocOf g) = true →
      exec (.mxR y d a b) s = goesOn (mxCommand t g1 bound false none [.mul tile w m n k zf
        (.rows ((List.range m).map fun i => (List.range na).map fun q =>
          if i < g.visible ∧ (g.activeBits s.cursor.slices).getLsbD i then
            (g.rv (run + q / 4) (if g.prot then 2 * i else i)).extractLsb' (8 * (q % 4)) 8 else 0)) (.stash bb pitch rot)]))
    ∧ (Format s g a w → bits (v 0) 63 40 = 0 → (v 0).getLsbD 7 = false →
        let m := bits (v 0) 6 0
        let n := bits (v 0) 14 8
        let pitch := bits (v 0) 39 20
        let cap := g.rc (bits (v 0) 19 15)
        let off := (v 1).toNat
        1 ≤ m → m ≤ 96 → 1 ≤ n → n ≤ 96 → off % accBytes w = 0 → pitch % accBytes w = 0 →
        Names s g cap rR off ((m - 1) * pitch + n * accBytes w) →
      exec (.mxlda y d a b) s = goesOn (mxCommand t g1 bound false none [.load tile w m n cap off pitch]))
    ∧ (Format s g a w → bits (v 0) 63 40 = 0 → bits (v 0) 39 22 = 0 → (v 0).getLsbD 7 = false → bits (v 2) 63 20 = 0 →
        bits (v 3) 63 8 = 0 → (v 3).getLsbD 6 = false → Counts s g ((v 3).getLsbD 7) (bits (v 3) 5 0) →
        let m := bits (v 0) 6 0
        let n := bits (v 0) 14 8
        let pitch := bits (v 2) 19 0
        let cap := g.rc (bits (v 0) 19 15)
        let off := (v 1).toNat
        let shadow := (v 0).getLsbD 20
        1 ≤ m → m ≤ 96 → 1 ≤ n → n ≤ 96 → off % accBytes w = 0 → pitch % accBytes w = 0 →
        Names s g cap rW off ((m - 1) * pitch + n * accBytes w) → (shadow = true → cap.object ≠ 0 ∧ cap.home = s.fab.self) →
        let g2 : Group := if (v 0).getLsbD 21 then { g1 with handle := Sparse.setAll none g1.handle (bound.map fun e => (e.1, none)) } else g1
      exec (.mxst y d a b) s = .next (commanded t g2 s.cursor.slices (s.cursor.pc + 4) y
        { mxCommand t g1 bound ((v 0).getLsbD 21) (if (v 3).getLsbD 7 then some (bits (v 3) 5 0) else none)
            [.store tile w (g.roundCode w) m n cap off pitch shadow] with batch := g2.batch.openNum })))
    ∧ (∀ (s g2s : State) (g g2 : Group) (y : Bool) (d a b : Fld) (w : W32), Issues s g → d.toNat < g.aCount → Format s g a w →
    let m : MemForm :=
      { op := { slices := s.cursor.slices, pc := s.cursor.pc, y := y, kind := .jobCard, size := 144, dst := 0,
                args := [w.toNat, d.toNat, g.roundCode w, if (g.rc b.toNat).has rLC then 1 else 0], pieces := [] }
        lanes := fun g => [{ lane := g.lowest s.cursor.slices, cap := g.rc b.toNat, off := 0, size := 144 }]
        align := 16
        rights := rR ||| rE
        log := 4 }
    Accepted s g g2 m → g2s = settled (accessed s g m).1 g2 s.cursor.pc →
      ∃ g3 : Group, Settled g2 g3 s.cursor.slices s.cursor.pc ∧ exec (.mxjob y d a b) s = State.jobRead s.cursor.group (answered s g m) g2s g3
        ∧ ∀ (dm dn dk ab bb pitch rot : Nat), CardFields g2s g3 (cardBytes (answered s g m)) dm dn dk ab bb pitch rot →
          g2s.outstanding s.cursor.group < 1024 →
          let card := cardBytes (answered s g m)
          let ls := (List.range 5).map (jobLevel card)
          let flags := rowNat card 0x3C 4
          let out := capOf (rowNat card 0x20 16 + (if cardTag (answered s g m) ∧ (g.rc b.toNat).has rLC then 2 ^ 128 else 0))
          let off := rowNat card 0x30 8
          let rowPitch := rowNat card 0x38 4 % 2 ^ 20
          (((∃ l ∈ ls, l.s = true) → (g.rc b.toNat).has rLC = true) → (dm = 0 ∨ dn = 0 ∨ dk = 0 ∨ ∃ l ∈ ls, l.n = 0) →
            exec (.mxjob y d a b) s = .next (commanded g2s g3 s.cursor.slices (s.cursor.pc + 4) y (mxCommand g2s g3 [] false none [])))
          ∧ (dm ≠ 0 → dn ≠ 0 → dk ≠ 0 → (∀ l ∈ ls, l.n ≠ 0) →
            jobCapCause ls false ((g.rc b.toNat).has rLC) dm dn (g2s.allocOf g3) out off rowPitch (accBytes w) = none →
            ((∃ l ∈ ls, l.s = true) → off % accBytes w = 0 ∧ rowPitch % accBytes w = 0 ∧ (∀ l ∈ ls, l.c % (accBytes w : Int) = 0)
              ∧ (flags % 2 = 1 → out.isStash = false ∧ out.home = g2s.fab.self)) →
            jobFits ls w dm dn dk d.toNat g3.aCount ab bb pitch rot (g2s.allocOf g3) = true →
            let space := indexSpace (ls.map JobLevel.n)
            let used := sortKeys (space.flatMap fun ix => (List.range 5).filterMap fun l =>
              if l = 4 ∨ ((ls[l]?).map fun x => x.z || x.s).getD false then
                some ((d.toNat : Int) + strideSum ls ix l JobLevel.h).toNat else none)
            ∀ (t : State) (g4 : Group) (bound : List (Nat × Nat)), g2s.bindTiles s.cursor.group g3 used = some (t, g4, bound) →
            let unbind : Bool := decide (flags / 2 % 2 = 1)
            let g5 : Group := if unbind then { g4 with handle := Sparse.setAll none g4.handle (bound.map fun e => (e.1, none)) } else g4
            let tile (k : Nat) : Nat := ((bound.find? fun e => e.1 == k).map Prod.snd).getD 0
            exec (.mxjob y d a b) s = .next (commanded t g5 s.cursor.slices (s.cursor.pc + 4) y
              (mxCommand t g4 bound unbind (if flags / 2 ^ 14 % 2 = 1 then some (flags / 2 ^ 8 % 64) else none)
                (space.flatMap (jobSteps ls tile w (g.roundCode w) dm dn dk d.toNat ab bb pitch rot out off rowPitch
                  (decide (flags % 2 = 1))))))))

namespace Sys2Proof.Claims

open Sys2Proof.Machine

noncomputable section

/-- The firmware minors (15 R282). -/
def firmwareMinors (y : Bool) (d a b : Fld) : List Instr :=
  [Instr.pwleaf y d a b, Instr.pobj y d a b, Instr.pkey y d a b, Instr.pwdog y d a b, Instr.pmcset y d a b,
   Instr.pevent y d a b, Instr.psave y d a b, Instr.prest y d a b, Instr.pfq y d a b]

/-- A firmware minor answers a value in s_d and leaves the machine in a state, for the rest. -/
def FwAnswers (s : State) (g : Group) (y : Bool) (i : Instr) (d : Fld) (t : State) (w : W64) : Prop :=
  ∃ g' : Group, exec i s = .next (after t y (g'.recheckJoin s.cursor.slices d.toNat)) ∧ ScalarWrite g g' s.cursor.slices d.toNat w

end

end Sys2Proof.Claims

open Sys2Proof Sys2Proof.Machine Sys2Proof.Claims

/-- 15 R281, 13 R230: a firmware minor of a group without privilege raises PRIV.
15 R282, R281: PWLEAF, POBJ and PKEY that are in order write their entry or slot, and answer 0; a home that is not
on this die and a nonzero reserved field answer 1.
The alignment of operands, and which write-protections begin a move, are the model's choice (logs 56 and 55). -/
def Obligations.FirmwareMinors : Prop :=
  (∀ (s : State) (g : Group) (y : Bool) (d a b : Fld), Issues s g → g.privileged = false →
    ∀ i ∈ firmwareMinors y d a b, exec i s = s.trapHere g .priv)
    ∧ (∀ (s : State) (g : Group) (y : Bool) (d a b : Fld), Issues s g → g.privileged = true →
    let word := g.rs a.toNat
    let sel := bits word 23 0
    (∀ o k, s.wordObject g word = some o → sel < 6 → entryClean (sel / 2) (g.rs d.toNat) = true → (g.rs b.toNat).toNat < 2 ^ 40 →
        (s.objEntry o).valid = true →
        s.fwRefuses g (s.objEntry o).ctx = false →
        s.entryKey (if sel % 2 = 1 then (s.objEntry o).shadow else (s.objEntry o).root) (sel / 2) (g.rs b.toNat).toNat = some k →
      let old := Sparse.get 0 s.mem.tables k
      let new := g.rs d.toNat
      let page := (o, (g.rs b.toNat).toNat / 65536)
      let wrote (moving : List (BitVec 28 × Nat)) : State :=
        { s with mem := { s.mem with tables := Sparse.set 0 s.mem.tables k new, migrating := moving } }
      (sel ≠ 4 → FwAnswers s g y (.pwleaf y d a b) d (wrote s.mem.migrating) 0)
      ∧ (sel = 4 → s.mem.migrating.contains page = false → ∃ moving, FwAnswers s g y (.pwleaf y d a b) d (wrote moving) 0
          ∧ (moving = s.mem.migrating ∨ (moving = s.mem.migrating ++ [page] ∧ leafProtected old = false ∧ leafProtected new = true
              ∧ leafFrame old = leafFrame new)))
      ∧ (sel = 4 → s.mem.migrating.contains page = true → (leafProtected new = true ∨ leafFrame old = leafFrame new) →
          FwAnswers s g y (.pwleaf y d a b) d
            (wrote (if leafProtected new then s.mem.migrating else s.mem.migrating.filter fun e => e != page)) 0)
      ∧ (sel = 4 → s.mem.migrating.contains page = true → leafProtected new = false → leafFrame old ≠ leafFrame new →
          ∃ t : State, FwAnswers s g y (.pwleaf y d a b) d t 0 ∧ Sparse.get 0 t.mem.tables k = (new ||| (1#64 <<< 61))
            ∧ t.mem.migrating.contains page = false ∧ t.groups = s.groups))
    ∧ (∀ o u, s.wordObject g word = some o → sel < 4 → objectClean sel (g.rs d.toNat) = true → u = (s.objEntry o).put sel (g.rs d.toNat) →
        ((s.objEntry o).valid && s.fwRefuses g (s.objEntry o).ctx) = false →
        (decide (sel = 3) && u.valid && s.fwRefuses g u.ctx) = false →
      FwAnswers s g y (.pobj y d a b) d { s with mem := { s.mem with objects := Sparse.set {} s.mem.objects o.toNat u } } 0)
    ∧ ((word.extractLsb' 52 12 ≠ s.fab.self ∨ homeDie (word.extractLsb' 24 28) ≠ dieOf g.core ∨ 6 ≤ sel
          ∨ (sel < 4 ∧ bits (g.rs d.toNat) 62 36 ≠ 0)) → FwAnswers s g y (.pwleaf y d a b) d s 1)
    ∧ ((word.extractLsb' 52 12 ≠ s.fab.self ∨ homeDie (word.extractLsb' 24 28) ≠ dieOf g.core ∨ 4 ≤ sel
          ∨ (sel < 2 ∧ bits (g.rs d.toNat) 62 36 ≠ 0) ∨ (sel = 2 ∧ bits (g.rs d.toNat) 11 0 ≠ 0)
          ∨ (sel = 3 ∧ (bits (g.rs d.toNat) 31 20 ≠ 0 ∨ bits (g.rs d.toNat) 47 35 ≠ 0))) →
        FwAnswers s g y (.pobj y d a b) d s 1)
    ∧ (word.toNat < 65536 → bits word 11 0 ≠ 0 →
        let k := s.keySlot (bits word 11 0)
        (bits word 15 12 = 1 → k.ctx ≠ 0 → s.fwRefuses g k.ctx = false →
          FwAnswers s g y (.pkey y d a b) d (s.putSlot (bits word 11 0) { k with destroyed := true }) 0)
        ∧ (bits word 15 12 = 2 → k.ctx ≠ 0 → s.fwRefuses g k.ctx = false →
          FwAnswers s g y (.pkey y d a b) d (s.putSlot (bits word 11 0) { k with
            key := 0, fabric := 0, prev := k.prev.map fun p => (p.1, 0) }) 0)
        ∧ (bits word 15 12 = 0 → fwOffsetOk (g.rs b.toNat) 96 = true →
          let blk := s.fwBytes (dieOf g.core) (g.rs b.toNat).toNat 96
          let num (o n : Nat) : Nat := leNat ((blk.drop o).take n)
          num 0x46 26 = 0 → num 0x40 4 < 2 ^ 20 → s.fwRefuses g (BitVec.ofNat 20 (num 0x40 4)) = false →
          (k.ctx = 0 ∨ k.ctx = BitVec.ofNat 20 (num 0x40 4)) →
            let u := k.install (BitVec.ofNat 20 (num 0x40 4)) (BitVec.ofNat 8 (num 0x44 1)) (BitVec.ofNat 256 (num 0 32))
              (BitVec.ofNat 256 (num 0x20 32)) (BitVec.ofNat 8 (num 0x45 1))
            (∃ t : State, FwAnswers s g y (.pkey y d a b) d t 0 ∧ t.keySlot (bits word 11 0) = u
              ∧ (∀ m, m ≠ bits word 11 0 → t.keySlot m = s.keySlot m) ∧ t.groups = s.groups)
            ∧ (k.warmLost = false → (k.gen = 0 ∨ k.gen ≠ u.gen ∨ k.made = u.key) →
              FwAnswers s g y (.pkey y d a b) d (s.putSlot (bits word 11 0) u) 0))))

/-- 15 R282, R283, 03 R58: PWDOG restarts the watchdog and answers what remained; PMCSET sends MCSET on every plane with an enabled
port, stands until no port that is up awaits their acknowledgement, and answers 0; PEVENT sends; PFQ takes the oldest entry of the
queue, or answers all ones.
15 R282, 09 R159, R166: PSAVE and PREST of a group in a state that allows it start an operation.
The alignment of operands and the states that refuse are the model's (logs 56 and 57), and so are what ends a wait of
PMCSET (log 60) and when a lazy save stays and is tried again (logs 58 and 59). -/
def Obligations.FirmwareQueuesAndSaves : Prop :=
  (∀ (s : State) (g : Group) (y : Bool) (d a b : Fld), Issues s g → g.privileged = true →
    let die := dieOf g.core
    let off := g.rs a.toNat
    FwAnswers s g y (.pwdog y d a b) d { s with fw := { s.fw with watchdog := Sparse.set 10000000 s.fw.watchdog die 10000000 } }
        (BitVec.ofNat 64 (Sparse.get 10000000 s.fw.watchdog die))
    ∧ (∀ e, (s.fw.mcsets.find? fun e => e.die == die && e.slice == s.cursor.slices.headD 0) = some e →
        (e.packets.any s.unheard = true → exec (.pmcset y d a b) s = .next s)
        ∧ (e.packets.any s.unheard = false → FwAnswers s g y (.pmcset y d a b) d
            { s with fw := { s.fw with mcsets := s.fw.mcsets.filter fun x => x != e } } 0))
    ∧ ((s.fw.mcsets.find? fun e => e.die == die && e.slice == s.cursor.slices.headD 0) = none →
        fwOffsetOk (g.rs d.toNat) 64 = true → bits off 20 0 = 0 → bits off 46 41 ≤ 56 → (g.rs b.toNat).toNat < 4096 →
        ∃ pk : Nat → Packet,
          let ps := ((List.range 4).filter s.planeEnabled).map pk
          let u : State := { s with fw := { s.fw with
            mcsets := s.fw.mcsets ++ [{ die := die, slice := s.cursor.slices.headD 0, packets := ps }] } }
          exec (.pmcset y d a b) s = .next (ps.foldl State.emitLoose u)
          ∧ ∀ p, (pk p).opcode = 0x1A ∧ (pk p).cls = 3 ∧ (pk p).plane = BitVec.ofNat 2 p ∧ (pk p).src = s.fab.self
              ∧ (pk p).group = (g.rs b.toNat).setWidth 12 ∧ (pk p).inline0 = off
              ∧ (pk p).payload = s.fwBytes die (g.rs d.toNat).toNat 64)
    ∧ (fwOffsetOk off 64 = true → leNat ((s.fwBytes die off.toNat 64).take 8) = 0 →
        let r := recordOf (s.fwBytes die off.toNat 64)
        let barred : Bool := (r.typ == 0x01 || r.typ == 0x07) && !(s.ctxOf (r.ctx.setWidth 20)).accepts
        (barred = false → FwAnswers s g y (.pevent y d a b) d (s.post r) 0)
        ∧ (barred = true → ∃ t : State, FwAnswers s g y (.pevent y d a b) d t 1 ∧ t = { s with host := t.host }))
    ∧ (s.fwQueue die = [] → FwAnswers s g y (.pfq y d a b) d s (BitVec.allOnes 64))
    ∧ (∀ e q, s.fwQueue die = e :: q → fwOffsetOk off 32 = true → ∃ t : State,
        FwAnswers s g y (.pfq y d a b) d t.reportFaults (BitVec.ofNat 64 q.length)
          ∧ t = { s with fw := { s.fw with region := t.fw.region, queue := Sparse.set [] s.fw.queue die q } }
          ∧ (∀ i < 32, t.fwByte die (off.toNat + i) = e.bytes.getD i 0)))
    ∧ (∀ (s : State) (g m : Group) (y : Bool) (d a b : Fld), Issues s g → g.privileged = true →
    let h := (g.rs a.toNat).toNat
    let opts := g.rs d.toNat
    let place := g.rs b.toNat
    let die := dieOf g.core
    h < 2 ^ 28 → s.dieRuns (h / 2 ^ 26) = true → s.group h = some m → (s.fwQueue die).length < 1024 → s.saving h = false →
      (opts.toNat < 4 → m.privileged = false → m.state ∉ [.saved, .done, .halted] →
          let stay := s.savesLazily m (opts.getLsbD 0)
          (s.hostSaves m = true ∨ stay = true
            ∨ placeOk place (s.imageSize h m (opts.getLsbD 0) (s.savedStash h m (opts.getLsbD 1))) = true) →
          ((s.ctxOf m.ctx).prot = false ∨ s.trust.seals.length + s.savesToSeal < 65536) →
        let r := s.startSave { op := 0, die := die, group := h, compressed := opts.getLsbD 0, stash := opts.getLsbD 1,
                               restore := false, stay := stay, place := place, asked := none,
                               retryAt := if s.hostSaves m && !stay then some (s.tickOf die) else none }
        FwAnswers s g y (.psave y d a b) d r.1 r.2)
      ∧ (opts = 0 → m.state = .saved → (s.hostSaves m = true ∨ m.lazy = true ∨ placeOk place 64 = true) →
        let r := s.startSave { op := 0, die := die, group := h, compressed := false, stash := false, restore := true,
                               stay := m.lazy, place := place, asked := none,
                               retryAt := if s.hostSaves m && !m.lazy then some (s.tickOf die) else none }
        FwAnswers s g y (.prest y d a b) d r.1 r.2))

namespace Sys2Proof.Claims

open Sys2Proof.Machine

noncomputable section

/-- A host access that writes MBCMD with a command, while no command is busy and the reserved bits are zero (03 R65). -/
def MailStarts (s : State) (h : HostAccess) (code arg : Nat) : Prop :=
  s.hostReaches h = true ∧ h.writes8 0x40000 = true ∧ bits h.value 63 56 = code ∧ bits h.value 55 48 = arg ∧ bits h.value 47 0 = 0
    ∧ s.fw.busy = false

/-- The state with a mailbox status. -/
def ended (s : State) (status : BitVec 8) : State := { s with fw := { s.fw with status := status } }

/-- A state with bytes written to the staging window, and nothing else changed. -/
def Staged (s t : State) (off : Nat) (bs : List Byte) : Prop :=
  t = { s with host := { s.host with staging := t.host.staging } }
    ∧ ∀ k, Sparse.get 0 t.host.staging k = if off ≤ k ∧ k < off + bs.length then bs.getD (k - off) 0 else Sparse.get 0 s.host.staging k

/-- The mailbox commands with their codes (03 R65, 04 R73), and whether only running firmware serves them. -/
def mailForms (h : HostAccess) : List (Instr × Nat × Bool) :=
  [(Instr.attest h, 0x01, false), (Instr.loadrun h, 0x02, false), (Instr.update h, 0x03, false), (Instr.raisemin h, 0x04, false),
   (Instr.kemkey h, 0x10, true), (Instr.ctxopen h, 0x11, true), (Instr.keyload h, 0x12, true), (Instr.ctxclose h, 0x13, true),
   (Instr.erase h, 0x14, true), (Instr.sweep h, 0x15, true), (Instr.receipt h, 0x16, true), (Instr.rekey h, 0x17, true)]

/-- The context descriptors with one entry replaced. -/
def withCtx (s : State) (n : BitVec 20) (d : Descriptor) : State :=
  { s with trust := { s.trust with ctxs := Sparse.set {} s.trust.ctxs n.toNat d } }

end

end Sys2Proof.Claims

open Sys2Proof Sys2Proof.Machine Sys2Proof.Claims

/-- 01 R16, R17: a power-on and a cold reset leave the fuses and what lies outside the device; a warm reset keeps the loaded
configuration record and what LPDDR-5X holds too, and destroys every key slot. What lies outside, and which places are in DRAM,
is the model's reading (assumption log 9, 62).
03 R59, R61, R62, 01 R23: the boot ROM records the result of each firmware slot, takes up the configuration record of the boot
store after a power-on or cold reset and the loaded one after a warm reset, and runs the passing image of the higher version,
slot A when they are equal, or enters recovery. That it runs nothing when no host module trains or no die runs is the model's
choice (assumption log 96).
What a warm reset keeps beyond the manual's list, the fuses' zero, and a boot without a host module or a running die
are the model's (logs 62, 9 and 96). -/
def Obligations.ResetsAndBoot : Prop :=
  (∀ (s : State) (r : Bool) (n : Nat) (h : HostAccess),
    let cleared (held alert : Bool) : State :=
      { State.reset with
        agenda := s.agenda
        outbox := s.outbox
        free := s.free
        pkg := { State.reset.pkg with minVersion := s.pkg.minVersion, minCounter := s.pkg.minCounter, rsaDigest := s.pkg.rsaDigest,
                                      slhDigest := s.pkg.slhDigest, inReset := held, alertLow := alert }
        host := { State.reset.host with memory := s.host.memory }
        mem := { State.reset.mem with bytes := s.hostImage }
        fab := { State.reset.fab with self := s.fab.self }
        fw := { State.reset.fw with store := s.fw.store } }
    exec (.powerOn r) s = .next (cleared (!r) (!r))
    ∧ (100 ≤ n → exec (.coldReset n) s = .next (cleared s.pkg.inReset s.pkg.alertLow))
    ∧ (n < 100 → exec (.coldReset n) s = .next s)
    ∧ (s.windowsOpen h = true → h.writes8 0x10000 = true → h.value.getLsbD 0 = true → ∃ t : State, exec (.warmReset h) s = .next t
        ∧ t.pkg = { State.reset.pkg with
            minVersion := s.pkg.minVersion, minCounter := s.pkg.minCounter, rsaDigest := s.pkg.rsaDigest, slhDigest := s.pkg.slhDigest
            config := s.pkg.config, cfgDefault := s.pkg.cfgDefault, warm := true }
        ∧ t.mem.objects = s.mem.objects ∧ t.mem.tables = s.mem.tables ∧ t.mem.freeFrames = s.mem.freeFrames
        ∧ (s.mem.hostNew = [] → ∀ a, Sparse.get 0 t.mem.bytes a = if frameTier (a / 65536) = 0 then 0 else Sparse.get 0 s.mem.bytes a)
        ∧ (∀ a, Sparse.get false t.mem.tags a = if frameTier (a / 4096) = 0 then false else Sparse.get false s.mem.tags a)
        ∧ t.fw = { State.reset.fw with store := s.fw.store, region := s.fw.region, retired := s.fw.retired }
        ∧ (∀ e ∈ t.trust.slots, e.2.key = 0 ∧ e.2.fabric = 0 ∧ (∀ p, e.2.prev = some p → p.2 = 0) ∧ e.2.destroyed = true)
        ∧ t.trust.ctxs = s.trust.ctxs ∧ t.trust.switches = [] ∧ t.trust.seals = s.trust.seals
        ∧ t.trust.frames = s.trust.frames.filter (fun e => frameTier e.1 != 0)
        ∧ t.cores = [] ∧ t.groups = [] ∧ t.cmds = [] ∧ t.host = { State.reset.host with memory := s.host.memory }
        ∧ t.cur = State.reset.cur ∧ t.conf = State.reset.conf
        ∧ t.disp = { State.reset.disp with nextObject := s.disp.nextObject })
    ∧ ((s.windowsOpen h && h.writes8 0x10000 && h.value.getLsbD 0) = false → exec (.warmReset h) s = .next s))
    ∧ (∀ (s : State) (failed : List (Nat × Nat)) (trains : BitVec 2),
    ((s.pkg.inReset = true ∨ s.pkg.tripped = true ∨ s.fw.state ≠ 0) → exec (.bootRomStart ⟨failed, trains⟩) s = .next s)
    ∧ (s.pkg.inReset = false → s.pkg.tripped = false → s.fw.state = 0 →
        let a := if trains = 0 then 1 else verifyImage s.fw.store 0x01000000 s.pkg.minVersion
        let b := if trains = 0 then 1 else verifyImage s.fw.store 0x05000000 s.pkg.minVersion
        let version (base : Nat) : Nat := memNat s.fw.store (base + 4) 4
        let kept : Option ConfigRecord := if s.pkg.cfgDefault then none else some s.pkg.config
        let read : Option ConfigRecord := if trains = 0 then none else (s.selfTest failed).loadConfig
        let record := if s.pkg.warm then kept else read
        ∃ t : State, exec (.bootRomStart ⟨failed, trains⟩) s = .next t
          ∧ t.fw.slotA = BitVec.ofNat 8 a ∧ t.fw.slotB = BitVec.ofNat 8 b
          ∧ t.pkg.dropped = 0 ∧ t.pkg.warm = false ∧ t.pkg.config = record.getD {} ∧ t.pkg.cfgDefault = record.isNone
          ∧ (∀ d < 4, t.pkg.running.getLsbD d =
              (t.pkg.config.dieMap.getLsbD d && decide ((failed.filter fun e => e.1 == d).length ≤ 1)))
          ∧ (∀ m < 2, t.pkg.trained.getLsbD m = (trains.getLsbD m && t.pkg.config.modules.getLsbD m && t.pkg.running.getLsbD (2 * m)))
          ∧ (t.pkg.running = 0 ∨ (a ≠ 0 ∧ b ≠ 0) → t.fw.state = 2)
          ∧ (t.pkg.running ≠ 0 → (a = 0 ∨ b = 0) → t.fw.state = 1
              ∧ t.fw.image = if a ≠ 0 ∨ (b = 0 ∧ version 0x01000000 < version 0x05000000) then 2 else 1)))

/-- 03 R46, R47, R51, R52, R56: what a host access to the control window, a ring tail, a mode vector or the staging window does;
and what the host writes to its own memory is there.
03 R48, R49: a submit write becomes an entry of the buffer, or is discarded with its error record; the oldest entry leaves
as a SUBMIT event.
03 R52-R55: a waiting request enters the ring while it has room; a reply completes its request, as refused when it says so
or when it is missing after 10^9 ticks.
Bytes of error records that no rule gives, and the record of a submit that is drained after its context closed, are the
model's (logs 64 and 70). -/
def Obligations.HostWindow : Prop :=
  (∀ (s : State) (h : HostAccess), s.windowsOpen h = true →
    let answer := s.outbox ++ [Outgoing.hostData (s.hostRead h.offset h.data.length)]
    (h.readsReg 0x10010 = true → exec (.subdropRead h) s = .next { s with outbox := answer, host := { s.host with subDrop := 0 } })
    ∧ (h.readsReg 0x10030 = true → exec (.errlostRead h) s = .next { s with outbox := answer, host := { s.host with errLost := 0 } })
    ∧ (h.writes8 0x10028 = true → exec (.errtailWrite h) s = .next { s with host := { s.host with
        errTail := if s.host.errHead.toNat < h.value.toNat then s.host.errHead else h.value } })
    ∧ (h.writes8 0x10040 = true → exec (.svctailWrite h) s = .next { s with host := { s.host with
        svcTail := if s.host.svcHead.toNat < h.value.toNat then s.host.svcHead else h.value } })
    ∧ (h.writes8 0x10018 = true →
        if bits h.value 47 16 = 0 ∧ bits h.value 15 0 < 128 ∧ (s.partitions.any fun p => p.id == h.value.extractLsb' 48 16) = true then
          exec (.pmodeWrite h) s = .next { s with host := { s.host with
            mode := Sparse.set 0 s.host.mode (bits h.value 63 48) (h.value.setWidth 16) } }
        else exec (.pmodeWrite h) s = .next (s.errorRecord 0 0 0x0107 2 (leBytes 8 h.value.toNat)))
    ∧ (0x4000000 ≤ h.offset → h.offset + h.data.length ≤ 0x8000000 →
        ∃ t : State, exec (.hostRegisterWrite h) s = .next t
          ∧ t = { s with host := { s.host with staging := t.host.staging } }
          ∧ ∀ k, let i := 0x4000000 + k - h.offset
            Sparse.get 0 t.host.staging k =
              if h.offset ≤ 0x4000000 + k ∧ i < h.data.length ∧ h.enabled i = true then h.data.getD i 0
              else Sparse.get 0 s.host.staging k)
    ∧ (h.offset < 0x4000000 ∨ 0x8000000 < h.offset + h.data.length → exec (.hostRegisterWrite h) s = .next s)
    ∧ (∀ q : HostAccess, q.target = .memory → ∃ t : State, exec (.hostRegisterWrite q) s = .next t
        ∧ t = { s with host := { s.host with memory := t.host.memory } }
        ∧ ∀ k, Sparse.get 0 t.host.memory k =
            if q.offset ≤ k ∧ k - q.offset < q.data.length ∧ q.enabled (k - q.offset) = true then q.data.getD (k - q.offset) 0
            else Sparse.get 0 s.host.memory k))
    ∧ (∀ (s : State) (h : HostAccess), s.windowsOpen h = true → 0x10000000 ≤ h.offset → h.offset < 0x14000000 →
    let n := (h.offset - 0x10000000) / 64
    let r := BitVec.ofNat 512 (leNat h.data)
    let d := s.ctxOf (BitVec.ofNat 20 n)
    let drop (u : State) (code : BitVec 16) (n : Nat) : State :=
      ({ u with host := { u.host with subDrop := u.host.subDrop + 1 } } : State).errorRecord 0 0 code 2 (leBytes 4 n)
    let whole : Prop := h.offset % 64 = 0 ∧ h.data.length = 64 ∧ h.enables = true
    (¬ whole → exec (.submitWrite h) s = .next (drop s 0x0101 n))
    ∧ (whole → 4096 ≤ s.host.subBuf.length → exec (.submitWrite h) s = .next (drop s 0x0102 n))
    ∧ (whole → s.host.subBuf.length < 4096 → (d.accepts && d.hostSubmit) = false → exec (.submitWrite h) s = .next (drop s 0x0103 n))
    ∧ (whole → s.host.subBuf.length < 4096 → (d.accepts && d.hostSubmit) = true → submitWellFormed r = false →
        exec (.submitWrite h) s = .next (drop s 0x0104 n))
    ∧ (whole → s.host.subBuf.length < 4096 → (d.accepts && d.hostSubmit) = true → submitWellFormed r = true →
        exec (.submitWrite h) s = .next { s with host := { s.host with subBuf := s.host.subBuf ++ [(BitVec.ofNat 20 n, r)] } })
    ∧ (∀ c q rest, s.host.subBuf = (c, q) :: rest → s.mayPost = true →
        let t : State := { s with host := { s.host with subBuf := rest } }
        exec .submitBufferDrain s = .next (if (s.ctxOf c).accepts then t.post (t.record 0x01 c (packSubmit q 0 (t.submitDigest q)))
          else drop t 0x0103 c.toNat))
    ∧ (s.host.subBuf = [] ∨ s.mayPost = false → exec .submitBufferDrain s = .next s))
    ∧ (∀ (s : State) (h : HostAccess) (id : W64),
    let f := s.host
    let closed : State := { s with host := { f with svcOpen := f.svcOpen.filter fun r => r.id != id } }
    (∀ r rest, f.svcWaiting = r :: rest → f.svcHead - f.svcTail ≠ 256 →
      let r' : Service := { r with tick := s.tickOf r.die.toNat }
      exec .serviceRequest s = .next { s with host := { f with
        svcWaiting := rest, svcOpen := f.svcOpen ++ [r'], svcHead := f.svcHead + 1
        svcRing := Sparse.set [] f.svcRing (f.svcHead.toNat % 256) r'.bytes } })
    ∧ (f.svcWaiting = [] ∨ f.svcHead - f.svcTail = 256 → exec .serviceRequest s = .next s)
    ∧ (∀ r, (f.svcOpen.find? fun q => q.id == id) = some r →
        (10 ^ 9 ≤ (s.tickOf r.die.toNat - r.tick).toNat →
          exec (.svclate id) s = .next ((closed.errorRecord r.die.toNat 0 0x0106 2 (leBytes 8 id.toNat)).replied r none))
        ∧ ((s.tickOf r.die.toNat - r.tick).toNat < 10 ^ 9 → exec (.svclate id) s = .next s))
    ∧ (s.windowsOpen h = true → 0x34000 ≤ h.offset → h.offset < 0x34040 →
        let whole : Prop := h.offset = 0x34000 ∧ h.data.length = 64 ∧ h.enables = true ∧ bodyNum h.data 8 1 < 2 ∧ bodyNum h.data 9 7 = 0
        (¬ whole → exec (.serviceReply h) s = .next (s.errorRecord 0 0 0x010A 2 (h.data.take 16)))
        ∧ (whole → id = BitVec.ofNat 64 (bodyNum h.data 0 8) →
            ((f.svcOpen.find? fun q => q.id == id) = none →
              exec (.serviceReply h) s = .next (s.errorRecord 0 0 0x0105 2 (h.data.take 16)))
            ∧ (∀ r, (f.svcOpen.find? fun q => q.id == id) = some r →
              exec (.serviceReply h) s = .next (closed.replied r (if bodyNum h.data 8 1 = 0 then some (h.data.drop 16) else none))))))

/-- 03 R65, 04 R73: a mailbox command is discarded with status 4 while one is busy, completes with status 1 when a reserved bit
is set, with 5 when its code has no command, and with 3 when firmware has to serve it and does not run.
03 R64, R65, R67, 04 R72: the commands for identity and firmware images.
Statuses that the manual does not give case by case, the zero fill of the rest of a slot at UPDATE, LOADRUN without a
running die, and the slot results that stay are the model's (logs 79, 70, 96 and 80). -/
def Obligations.MailboxImages : Prop :=
  (∀ (s : State) (h : HostAccess), s.hostReaches h = true → h.writes8 0x40000 = true → ∀ e ∈ mailForms h,
    (bits h.value 63 56 = e.2.1 →
      (s.fw.busy = true → exec e.1 s = .next (ended s 4))
      ∧ (s.fw.busy = false → bits h.value 47 0 ≠ 0 → exec e.1 s = .next (ended s 1))
      ∧ (e.2.2 = true → s.fw.busy = false → bits h.value 47 0 = 0 → s.fw.state ≠ 1 → exec e.1 s = .next (ended s 3))
      ∧ (e.2.2 = true → s.fw.busy = false → bits h.value 55 0 ≠ 0 → s.fw.state = 1 → exec e.1 s = .next (ended s 1)))
    ∧ ((∀ f ∈ mailForms h, bits h.value 63 56 ≠ f.2.1) →
        exec (.badCommand h) s = .next (ended s (if s.fw.busy then 4 else 5)) ∧ exec e.1 s = .next s))
    ∧ (∀ (s : State) (h : HostAccess) (arg : Nat),
    (MailStarts s h 0x01 arg → s.fw.state ≠ 0 →
      (withSignatures s.pkg.seed s.reportHead).length = 30432
        ∧ ∃ t, Staged s t 0x1000 (withSignatures s.pkg.seed s.reportHead) ∧ exec (.attest h) s = .next (ended t 0))
    ∧ (MailStarts s h 0x10 0 → s.fw.state = 1 →
      ∃ t, Staged s t 0x1000 (withSignatures s.pkg.seed (encapsKey s.pkg.seed)) ∧ exec (.kemkey h) s = .next (ended t 0))
    ∧ (MailStarts s h 0x02 arg →
        (s.fw.state ≠ 2 → exec (.loadrun h) s = .next (ended s 3))
        ∧ (s.fw.state = 2 → (verifyImage s.host.staging 0 s.pkg.minVersion ≠ 0 ∨ s.rebooted.pkg.running = 0) →
            exec (.loadrun h) s = .next (ended s 1))
        ∧ (s.fw.state = 2 → verifyImage s.host.staging 0 s.pkg.minVersion = 0 → s.rebooted.pkg.running ≠ 0 → ∃ t : State,
            exec (.loadrun h) s = .next t
            ∧ t.fw.state = 1 ∧ t.fw.image = 3 ∧ t.fw.status = 0 ∧ t.fw.version = BitVec.ofNat 32 (memNat s.host.staging 4 4)
            ∧ t.fw.slotA = s.fw.slotA ∧ t.fw.slotB = s.fw.slotB ∧ t.mem = s.warmMem ∧ t.pkg = s.rebooted.pkg
            ∧ ∀ e ∈ t.trust.slots, e.2.key = 0 ∧ e.2.fabric = 0 ∧ ∀ p, e.2.prev = some p → p.2 = 0))
    ∧ (MailStarts s h 0x03 arg → arg < 2 → s.fw.state ≠ 0 → (s.fw.state = 1 → s.anyAssisted 5 = false ∧ s.fw.image.toNat ≠ arg + 1) →
        (verifyImage s.host.staging 0 s.pkg.minVersion ≠ 0 → exec (.update h) s = .next (ended s 1))
        ∧ (verifyImage s.host.staging 0 s.pkg.minVersion = 0 → Sparse.wf 0 s.host.staging = true → ∃ t : State,
            t = { s with fw := { s.fw with store := t.fw.store }, outbox := s.outbox ++ [.bootStore arg] }
            ∧ exec (.update h) s = .next (ended t 0)
            ∧ ∀ k, let base := if arg = 0 then 0x01000000 else 0x05000000
                Sparse.get 0 t.fw.store k =
                  if base ≤ k ∧ k < base + 0x04000000 then
                    (if k - base < 0x280 + s.stagedNat 8 8 + slhBytes then Sparse.get 0 s.host.staging (k - base) else 0)
                  else Sparse.get 0 s.fw.store k))
    ∧ (MailStarts s h 0x04 arg → s.fw.state = 1 → exec (.raisemin h) s = .next (ended { s with pkg := { s.pkg with
        minVersion := if s.pkg.minVersion.toNat < s.fw.version.toNat then s.fw.version else s.pkg.minVersion } } 0)))

/-- 04 R68, R69, R72, R73, R75, 19 R351: the commands that open and close a context and load its keys; a close takes the
context's entries out of the arm table.
04 R75-R78: the commands of an erasure and of a rebinding, and how a busy command goes on and ends.
Statuses that the manual does not give case by case, and the batches of a rebinding, are the model's (logs 79 and 80). -/
def Obligations.MailboxKeys : Prop :=
  (∀ (s : State) (h : HostAccess), s.fw.state = 1 →
    (MailStarts s h 0x11 0 →
      let control := BitVec.ofNat 64 (s.stagedNat 0 8)
      let n : BitVec 20 := control.setWidth 20
      let first := s.stagedNat 0x44 2
      let count := s.stagedNat 0x46 2
      let ok : Prop := n ≠ 0 ∧ bits control 59 20 = 0 ∧ bits control 63 62 = 0 ∧ s.stagedNat 0x7A 6 = 0 ∧ count ≠ 0
        ∧ first + count ≤ 1024 ∧ ∃ p ∈ s.partitions, p.id = BitVec.ofNat 16 (s.stagedNat 0x78 2)
      (¬ ok → exec (.ctxopen h) s = .next (ended s 1))
      ∧ (ok → (s.ctxOf n).state ≠ .free → exec (.ctxopen h) s = .next (ended s 3))
      ∧ (ok → (s.ctxOf n).state = .free → exec (.ctxopen h) s = .next (ended (withCtx s n
          { state := .open, prot := control.getLsbD 61, hostSubmit := control.getLsbD 60, root := s.stagedRoot 0x10
            grant := s.stagedCap 0x20, log := s.stagedCap 0x30, principal := BitVec.ofNat 32 (s.stagedNat 0x40 4)
            firstQueue := BitVec.ofNat 16 first, queueCount := BitVec.ofNat 16 count
            measurement := BitVec.ofNat 384 (s.stagedNat 0x48 48), part := BitVec.ofNat 16 (s.stagedNat 0x78 2) }) 0)))
    ∧ (∀ n, MailStarts s h 0x13 0 → s.mailCtx 0 = some n →
        ((s.ctxOf n).state = .open → exec (.ctxclose h) s = .next (ended (withCtx
          { s with mem := { s.mem with arms := s.mem.arms.filter fun e => e.2.all fun a => a.ctx != n } } n
          { s.ctxOf n with state := .closed, hostSubmit := false }) 0))
        ∧ ((s.ctxOf n).state ≠ .open → exec (.ctxclose h) s = .next (ended s 3)))
    ∧ (∀ n key fabric, MailStarts s h 0x12 0 → s.mailCtx 4 = some n → (s.ctxOf n).state = .open →
        let d := s.ctxOf n
        let k := s.keySlot d.slot.toNat
        let gen := BitVec.ofNat 8 (s.stagedNat 8 1)
        d.slot ≠ 0 → (k.prev = none ∨ k.destroyed = true) → d.gen.toNat < gen.toNat → k.gen ≠ gen → k.warmLost = false →
        s.stagedNat 0 4 = 0x4B46594E → s.stagedNat 0xA 2 = 0 → s.stagedNat 0xC 4 = 0 → s.stagedNat 0x658 40 = 0 →
        unwrapRecord s.pkg.seed (s.staged 0 1712) = some (key, fabric) →
          exec (.keyload h) s = .next (ended (withCtx (s.putSlot d.slot.toNat
              { ctx := n, gen := gen, key := key, fabric := fabric, fabricGen := BitVec.ofNat 8 (s.stagedNat 9 1), destroyed := false
                warmLost := false, made := key
                prev := if k.destroyed then none else if k.gen ≠ 0 then some (k.gen, k.key) else none })
            n { d with gen := gen, fabricGen := BitVec.ofNat 8 (s.stagedNat 9 1), measurement := BitVec.ofNat 384 (s.stagedNat 0x680 48) }) 0)))
    ∧ (∀ (s : State) (h : HostAccess) (n : BitVec 20), s.fw.state = 1 → s.mailCtx 0 = some n →
    let d := s.ctxOf n
    (MailStarts s h 0x14 0 →
      (d.state ≠ .closed ∨ s.ctxInUse n = true → exec (.erase h) s = .next (ended s 3))
      ∧ (d.state = .closed → s.ctxInUse n = false → ∃ t : State, exec (.erase h) s = .next t ∧ t.fw.status = 0
          ∧ (d.slot ≠ 0 → t.keySlot d.slot.toNat = { s.keySlot d.slot.toNat with
              key := 0, fabric := 0, prev := (s.keySlot d.slot.toNat).prev.map (fun p => (p.1, 0)), destroyed := true })
          ∧ t.ctxOf n = { d with state := .erased, eraseTick := s.tickOf s.firstDie }
          ∧ t.fw.busy = !s.hostAssisted d.part 4 ∧ t.fw.cmd.isSome = (!s.hostAssisted d.part 4 || s.fw.cmd.isSome)
          ∧ t.mem = s.mem ∧ t.groups = s.groups ∧ t.pkg = s.pkg ∧ t.host = s.host))
    ∧ (MailStarts s h 0x15 0 → s.scrubHosted n = true → d.state = .erased → s.stagedNat 8 8 + s.stagedNat 0x10 8 ≤ 2 ^ 31 →
        exec (.sweep h) s = .next (ended (s.sweepAll n ((s.boundFrames d.slot).filter fun f =>
          decide (s.stagedNat 8 8 ≤ frameNumber f) && decide (frameNumber f < s.stagedNat 8 8 + s.stagedNat 0x10 8))) 0))
    ∧ (MailStarts s h 0x16 0 → s.scrubHosted n = true → d.state = .erased →
        ∃ t : State, exec (.receipt h) s = .next (ended t 0) ∧ (s.boundFrames d.slot = [] → t.ctxOf n = {} ∧ t.keySlot d.slot.toNat = {})
          ∧ (s.boundFrames d.slot ≠ [] → t.trust = s.trust) ∧ t.mem = s.mem ∧ t.groups = s.groups)
    ∧ (MailStarts s h 0x17 0 → (d.state = .open ∨ d.state = .closed) → d.slot ≠ 0 → (s.keySlot d.slot.toNat).prev.isSome = true →
        (s.keySlot d.slot.toNat).destroyed = false →
        ∃ t : State, exec (.rekey h) s = .next t ∧ t.fw.busy = true ∧ t.fw.status = 0 ∧ t.mem.bytes = s.mem.bytes ∧ t.trust = s.trust
          ∧ t.fw.cmd = some { code := 0x17, ctx := n, status := 0, hosted := false, nonce := [] })
    ∧ (s.fw.cmd = none → exec .mailboxComplete s = .next s)
    ∧ (∀ c, s.fw.cmd = some c → c.ctx = n →
        (c.code = 0x14 → ∃ t : State, exec .mailboxComplete s = .next t ∧ t.fw.busy = false ∧ t.fw.cmd = none ∧ t.fw.status = c.status)
        ∧ (c.code ≠ 0x14 → ∃ t : State, exec .mailboxComplete s = .next t
            ∧ (t.fw.busy = false ↔ t.oldPages d.slot.toNat = [] ∨ s.fw.busy = false)
            ∧ (t.fw.busy = true → t.fw.cmd = some c))))

/-- 01 R12, R19, R20: the clock follows the power window and the thermal limits, and a host module trains on its running die. How
long the lower limit of 92 °C bars a step up after a hold is the model's reading (assumption log 63).
01 R24, 03 R58, R64, 13 R236, R237: the watchdog, the firmware's readiness, an accepted die drop and the outcome of a check.
When the clock goes up is the model's reading (log 63). -/
def Obligations.PowerHeatAndDies : Prop :=
  (∀ (s : State) (n sensor : Nat) (m : BitVec 1),
    let p := s.pkg
    let now (q : Package) : State := { s with pkg := q }
    let down : Nat := max 800 (p.clockMHz - 100)
    let up : Nat := min 1700 (p.clockMHz + 100)
    let barred : Bool := p.hot95 || (p.cooling && decide (92 ≤ p.hottest))
    let held : Nat := if 100 * n < 95 * p.config.powerCap ∧ barred = false then up else p.clockMHz
    let clock : Nat := if p.hold105 then 800 else if p.config.powerCap < n then down else held
    exec (.powerWindow n) s = .next (now { p with clockMHz := clock, cooling := p.cooling && clock != 1700 })
    ∧ (95 ≤ n ∨ (p.hot95 = true ∧ 92 ≤ n) → exec (.thermalStep n) s = .next (now { p with
        hot95 := true, hottest := n, clockMHz := if p.hold105 then p.clockMHz else down }))
    ∧ (n < 92 ∨ (p.hot95 = false ∧ n < 95) → exec (.thermalStep n) s = .next (now { p with hot95 := false, hottest := n }))
    ∧ (105 ≤ n → p.hold105 = false → exec (.thermalHold sensor n) s = .next
        ((now { p with hold105 := true, hot95 := true, hottest := n, clockMHz := 800 }).contain (sensor / 16) 0x0D08 2 9 5 sensor none
          0xFFFF 0xFFFF 0 0 0 0 0))
    ∧ (n < 105 ∨ p.hold105 = true → exec (.thermalHold sensor n) s = .next s)
    ∧ (p.hold105 = true → n < 100 → exec (.thermalHoldEnd n) s = .next (now { p with
        hold105 := false, cooling := true, hottest := n, hot95 := decide (92 ≤ n) }))
    ∧ (p.hold105 = false ∨ 100 ≤ n → exec (.thermalHoldEnd n) s = .next s)
    ∧ (115 ≤ n → exec (.thermtrip n) s = .next (now { p with tripped := true, tripLow := true }))
    ∧ (n < 115 → exec (.thermtrip n) s = .next s)
    ∧ (p.config.modules.getLsbD m.toNat = true → s.dieRuns (2 * m.toNat) = true →
        exec (.hostModuleTraining m) s = .next (now { p with trained := p.trained ||| (1#2 <<< m.toNat) }))
    ∧ (p.config.modules.getLsbD m.toNat = false ∨ s.dieRuns (2 * m.toNat) = false → exec (.hostModuleTraining m) s = .next s))
    ∧ (∀ (s : State) (die : BitVec 2) (e : CheckFail),
    let d := die.toNat
    let place : Nat := if e.frame = none then 0xFFFF
      else if e.unitKind = 3 then 64 * e.sector.toNat % 65536 / 32
      else if e.sector.toNat < 2048 then e.sector.toNat else 0xFFFF
    let of : Nat × Nat × Nat × W64 :=
      if e.unitKind = 3 then ((s.group e.target).map fun g =>
        g.inRecord (if (g.lineSlice e.sector.toNat).isSome then g.lineSlice e.sector.toNat else g.live.head?)).getD (0xFFFF, 0, 0, 0)
      else (0xFFFF, 0, 0, 0)
    let noted (u : State) (code : BitVec 16) (severity : Nat) : State :=
      u.contain e.die.toNat code severity e.unitKind.toNat e.check.toNat e.unitNum.toNat e.frame place of.1 of.2.1 of.2.2.1 of.2.2.2 0 0
    (s.fw.diesParked.getLsbD d = true → s.fw.state = 1 → ∃ t : State, exec (.firmwareReadiness die) s = .next t
      ∧ t.fw.diesParked.getLsbD d = false
      ∧ (∀ c, (Sparse.get {} t.cores c : Core).parked = if 40 * d ≤ c ∧ c < 40 * d + 40 then false else (Sparse.get {} s.cores c : Core).parked))
    ∧ (s.watchdog d ≠ 0 ∨ s.dieRuns d = false ∨ s.fw.state ≠ 1 → exec (.fwdog die) s = .next s)
    ∧ (s.watchdog d = 0 → s.dieRuns d = true → s.fw.state = 1 → ∃ t : State, exec (.fwdog die) s = .next t
        ∧ t.watchdog d = 10000000 ∧ t.fw.diesParked.getLsbD d = true
        ∧ (∀ c, 40 * d ≤ c → c < 40 * d + 40 → (Sparse.get {} t.cores c : Core).parked = true)
        ∧ (∃ g, t.group (2 ^ 28 + d) = some g ∧ g.privileged = true ∧ g.state = .resident ∧ (g.slice 0).pc = 0x100)
        ∧ (∀ u, Sparse.get none s.fw.lastExpiry d = some u → (s.tickOf d - u).toNat ≤ 10 ^ 8 → ∃ p ∈ t.fw.proposals, p.die = die ∧ p.reason = 4)
        ∧ (Sparse.get none s.fw.lastExpiry d = none → t.fw.proposals = s.fw.proposals))
    ∧ ((s.fw.proposals.any fun p => p.die == die && p.accepted) = true →
        (s.fw.proposals.any fun p => p.accepted && decide (p.die.toNat < d)) = false →
        s.dieRuns d = true → s.canDrop d = true → ∃ t : State, exec (.dieDrop die) s = .next t.moveAll.wakePosts.releaseAll
          ∧ t.pkg = { s.pkg with dropped := s.pkg.dropped ||| (1#4 <<< d), trained := t.pkg.trained }
          ∧ (∀ p ∈ t.fw.proposals, p.die ≠ die) ∧ t.group (2 ^ 28 + d) = none)
    ∧ ((e.unitKind ≠ 2 → e.unitKind ≠ 4 → e.corrected = true → e.frame = none → exec (.errorRetry e) s = .next (noted s 0x0D01 0))
        ∧ (e.unitKind ≠ 2 → e.unitKind ≠ 4 → e.corrected = false → e.retry = some true →
            exec (.errorRetry e) s = .next (noted { s with fw := { s.fw with transient := s.fw.transient + 1 } } 0x0D02 1))
        ∧ (e.corrected = false → e.retry ≠ some true → e.check ≠ 2 → (e.unitKind = 7 ∨ e.unitKind = 8) →
            ∃ t : State, exec (.errorRetry e) s = .next t ∧ ∃ p ∈ t.fw.proposals, p.die = e.die)))

namespace Sys2Proof.Claims

open Sys2Proof.Machine

noncomputable section

/-- The packets of classes 0 and 1 that a window brings, with their opcodes (02 R34). -/
def windowPackets (p : Packet) : List (Instr × BitVec 6) :=
  [(Instr.read p, 0x01), (Instr.write p, 0x02), (Instr.atomic p, 0x03), (Instr.cpyput p, 0x04), (Instr.task p, 0x05),
   (Instr.readresp p, 0x08), (Instr.writeack p, 0x09), (Instr.atomresp p, 0x0A)]

/-- The state after a packet that the gateway of its plane discards: its error count rises (02 R34). -/
def discarded (s : State) (p : Packet) : State :=
  { s with fab := { s.fab with
      errors := Sparse.set 0 s.fab.errors p.plane.toNat (Sparse.get 0 s.fab.errors p.plane.toNat + 1) } }

/-- A port that has taken up the acknowledgement and the stop bits of a frame (02 R30-R32). -/
def heardFrame (p : Port) (f : Frame) : Port :=
  { p with replay := p.replay.filter (fun e => decide (2048 ≤ (f.ack - e.1).toNat)), stopOut := f.stop }

end

end Sys2Proof.Claims

open Sys2Proof Sys2Proof.Machine Sys2Proof.Claims

/-- 02 R29-R31: frames on a trained port: a bad or unexpected one asks for a retry after the last good sequence; a good one
is heard, and the flit that completes a packet brings it to its gateway; a retry request has everything after what it
acknowledges sent again.
02 R28, R31, R44: a port retrains after 8 successive retries of one frame, goes down when it has not trained within 100,000
ticks, and once trained sends its unacknowledged frames again.
The details of a retry are the model's choice (log 72). -/
def Obligations.LinksAndPorts : Prop :=
  (∀ (s : State) (port : BitVec 6) (f : Frame),
    let i := port.toNat
    let p := s.port i
    let retry : State := ({ s with outbox := s.outbox ++ [.frame i (makeFrame 2 p.txSeq (p.rxSeq - 1) p.stopIn [])] } : State).putPort i
      { p with ackSent := p.rxSeq - 1, stopSent := p.stopIn, retrying := true }
    let q := heardFrame p f
    let s0 : State := if p.retrying then State.contain { s with fw := { s.fw with transient := s.fw.transient + 1 } } (i / 16) 0x0D02 1 6 4 i
        none 0xFFFF 0xFFFF 0 0 0 0 0
      else s
    let q0 : Port := { q with retrying := false }
    (p.state ≠ .trained → ∀ j ∈ [Instr.dataFrame port f, Instr.idleFrame port f, Instr.retryRequest port f], exec j s = .next s)
    ∧ (p.state = .trained →
        ((f.good = false ∨ f.kind ≠ 0 ∨ f.seq ≠ p.rxSeq) → exec (.dataFrame port f) s = .next retry)
        ∧ ((f.good = false ∨ f.kind ≠ 1) → exec (.idleFrame port f) s = .next retry)
        ∧ ((f.good = false ∨ f.kind ≠ 2) → exec (.retryRequest port f) s = .next retry)
        ∧ (f.good = true → f.kind = 1 → exec (.idleFrame port f) s = .next (s.putPort i q).moveAll)
        ∧ (f.good = true → f.kind = 0 → f.seq = p.rxSeq →
            let fs := p.flits ++ [f.flit]
            let flits := leNat ((fs.headD []).take 8) / 2 ^ 11 % 8 + 1
            let part := (s0.putPort i q0).putPort i { q0 with flits := fs, rxSeq := p.rxSeq + 1 }
            let whole := (s0.putPort i q0).putPort i { q0 with flits := [], rxSeq := p.rxSeq + 1 }
            let k := packetOfFlits (fs.headD []) (fs.drop 1)
            let kept := whole.putPort i { q0 with flits := [], rxSeq := p.rxSeq + 1, buffer := q0.buffer ++ [k] }
            let u : State := if fs.length < flits then part
              else if (q0.buffer.any fun x => x.cls == k.cls) = true ∨ whole.roomFor k = false then kept else whole.packetArrived k
            exec (.dataFrame port f) s = .next u.moveAll.setStops)
        ∧ (f.good = true → f.kind = 2 →
            let first := (q.replay.map Prod.fst).headD p.txSeq
            let n := if q.replay = [] then 0 else if p.retries ≠ 0 ∧ p.lastRetry = first then p.retries + 1 else 1
            exec (.retryRequest port f) s = .next (State.moveAll
              ((s.putPort i { q with retries := n, lastRetry := first }).emitFrames i 0 q.replay)))))
    ∧ (∀ (s : State) (port : BitVec 6),
    let i := port.toNat
    let p := s.port i
    (p.state = .trained → 8 ≤ p.retries → exec (.portRetrain port) s = .next
      (s.putPort i { p with state := .training, since := s.tickOf (i / 16), retries := 0 }))
    ∧ (p.state ≠ .trained ∨ p.retries < 8 → exec (.portRetrain port) s = .next s)
    ∧ (p.state = .training → 100000 ≤ (s.tickOf (i / 16) - p.since).toNat → exec (.portDown port) s = .next (State.moveAll
        ((s.putPort i { p with state := .down, retrying := false }).contain (i / 16) 0x0D0B 2 6 7 i none 0xFFFF 0xFFFF 0 0 0 0
          ((Config.linkPeer 6 i).setWidth 64))))
    ∧ (p.state ≠ .training ∨ (s.tickOf (i / 16) - p.since).toNat < 100000 → exec (.portDown port) s = .next s)
    ∧ (s.dieRuns (i / 16) = true → s.pkg.config.brodug.getLsbD i = true → p.state = .training ∨ p.state = .down →
        let up : State := ((s.putPort i { p with state := .trained, retries := 0 }).emitFrames i 0 p.replay).idlePort i
        exec (.portTrained port) s = .next (if up.fw.state = 1 then up.queryAll else up).moveAll)
    ∧ (s.dieRuns (i / 16) = false ∨ s.pkg.config.brodug.getLsbD i = false ∨ p.state = .trained ∨ p.state = .idle →
        exec (.portTrained port) s = .next s))

/-- 02 R34, R37, R38: a packet of a window: one that does not fit its opcode or this chip is discarded; one outside the window,
of another epoch, already there, or that the full pool of its gateway has no place for is counted; the next in sequence is handed
over when the order of R38 lets it, and every 64th is acknowledged.
02 R34, R35, R38, 10 R176, R177, 07 R122: what handing a packet over means: a request waits for its Weir while the miss queue
has room, a task for its core, and an answer reaches who asked.
02 R37: SEQACK advances its window; the acknowledgement timer sends one; a window that has stood for 50,000 ticks breaks its
pair: its requests complete UNREACH, it restarts in both classes with the next epoch, and firmware posts LOSS.
What waits behind a broken pair, and restarts, are the model's choice (logs 73 and 74), and so is that SEQACK's window
class stands in inline0 (log 37). -/
def Obligations.WindowsAndPackets : Prop :=
  (∀ (s : State) (p : Packet), ∀ e ∈ windowPackets p,
    let k : PairKey := { chip := p.src, plane := p.plane, cls := p.cls }
    let w := s.rxOf k
    (p.opcode ≠ e.2 ∨ wellPacked p = false ∨ p.dst ≠ s.fab.self ∨ s.dieRuns p.plane.toNat = false →
      exec e.1 s = .next (discarded s p))
    ∧ (p.opcode = e.2 → wellPacked p = true → p.dst = s.fab.self → s.dieRuns p.plane.toNat = true →
        (p.epoch ≠ w.epoch → (p.epoch ≠ w.epoch + 1 ∨ 512 ≤ p.seq.toNat) →
          exec e.1 s = .next (s.putRx k { w with discards := w.discards + 1 }))
        ∧ (p.epoch = w.epoch → (512 ≤ (p.seq - w.expected).toNat ∨ (w.pool.any fun x => x.seq == p.seq) = true
            ∨ (16384 ≤ s.poolSize p.plane.toNat ∧ p.seq ≠ w.expected)) →
          exec e.1 s = .next (s.putRx k { w with discards := w.discards + 1 }))
        ∧ (p.epoch = w.epoch → p.seq = w.expected → w.pool = [] →
            let u := s.putRx k { w with pool := [p] }
            (u.mayHand k p = false ∨ u.handOver p = none → exec e.1 s = .next u.setStops)
            ∧ (u.mayHand k p = true → ∀ t, u.handOver p = some t →
                let w1 : RxWindow := { w with expected := w.expected + 1, unacked := w.unacked + 1
                                              since := if w.unacked = 0 then s.planeTick k.plane.toNat else w.since }
                exec e.1 s = .next (if w1.unacked = 64 then (t.putRx k w1).sendSeqack k else t.putRx k w1).setStops))))
    ∧ (∀ (s : State) (p : Packet),
    (p.opcode ∈ [(0x01 : BitVec 6), 0x02, 0x03, 0x04] →
      let full := s.missFull (homeSlice p.object (p.offset.toNat / 65536))
      s.handOver p = if full then none else some { s with mem := { s.mem with requests := s.mem.requests ++ [{ packet := p }] } })
    ∧ (p.opcode = 0x05 →
        (∀ core, s.taskCore p.context (taskOf p).cap (taskOf p).offset = some core →
          s.handOver p = s.queueTask core { taskOf p with tick := s.tickOf (dieOf core) })
        ∧ (s.taskCore p.context (taskOf p).cap (taskOf p).offset = none → s.handOver p = some s))
    ∧ (p.opcode ∈ [(0x08 : BitVec 6), 0x09, 0x0A] →
        ((∀ e ∈ s.fab.asked, e.1 ≠ p.tag) → s.handOver p = some (discarded s p))
        ∧ (∀ a at_, (s.fab.asked.find? fun e => e.1 == p.tag) = some (p.tag, a, at_) →
            s.handOver p = some (({ s with fab := { s.fab with asked := s.fab.asked.filter fun e => e.1 != p.tag } } : State).finishAsk a p
              false))))
    ∧ (∀ (s : State) (p : Packet) (k : PairKey),
    let w := s.txOf k
    let r := s.rxOf k
    let now := s.planeTick k.plane.toNat
    (p.opcode = 0x0B → wellPacked p = true → p.dst = s.fab.self → k = { chip := p.src, plane := p.plane, cls := p.inline0.setWidth 2 } →
      (p.epoch = w.epoch → p.seq ≠ w.oldest → (p.seq - w.oldest).toNat ≤ (w.next - w.oldest).toNat →
        exec (.seqack p) s = .next (s.putTx k
          { w with oldest := p.seq, unacked := w.unacked.drop (p.seq - w.oldest).toNat, moved := now }).moveAll.wakePosts)
      ∧ (p.epoch ≠ w.epoch ∨ p.seq = w.oldest ∨ (w.next - w.oldest).toNat < (p.seq - w.oldest).toNat → exec (.seqack p) s = .next s))
    ∧ (r.unacked = 0 ∨ (now - r.since).toNat < 100 → exec (.seqackTimer k) s = .next s)
    ∧ (r.unacked ≠ 0 → 100 ≤ (now - r.since).toNat →
        exec (.seqackTimer k) s = .next ((s.putRx k { r with unacked := 0 }).emitLoose { Packet.zero with
          opcode := 0x0B, cls := 1, dst := k.chip, src := s.fab.self, plane := k.plane, seq := r.expected, epoch := r.epoch
          inline0 := k.cls.setWidth 64 }))
    ∧ (w.unacked = [] ∨ (now - w.moved).toNat < 50000 → exec (.pairBreak k) s = .next s)
    ∧ (w.unacked ≠ [] → 50000 ≤ (now - w.moved).toNat →
        let mine (e : BitVec 16 × Asker × PairKey) : Bool := e.2.2.chip == k.chip && e.2.2.plane == k.plane
        let u : State := { s with fab := { s.fab with
          asked := s.fab.asked.filter (fun e => !mine e)
          suspected := if s.fab.suspected.contains k.chip then s.fab.suspected else s.fab.suspected ++ [k.chip] } }
        let k0 : PairKey := { k with cls := 0 }
        let v := ((u.putTx k0 { u.txOf k0 with queue := [] }).restartPair k.chip k.plane).contain k.plane.toNat 0x0D0C 2 5 7 k.plane.toNat
          none 0xFFFF 0xFFFF 0 0 0 0 (k.chip.setWidth 64)
        let x := (s.fab.asked.filter mine).foldl (fun (s : State) e => s.finishAsk e.2.1 { Packet.zero with tag := e.1, status := 4 } true) v
        exec (.pairBreak k) s = .next (if x.fw.state = 1 then x.post (x.record 0x10 0 k.chip.toNat) else x).moveAll.wakePosts)
    ∧ (∀ c < (2 : BitVec 2), (s.restartPair k.chip k.plane).txOf { k with cls := c } =
        { next := 0, oldest := 0, epoch := (s.txOf { k with cls := 0 }).epoch + 1, queue := (s.txOf { k with cls := c }).queue }))

/-- 02 R41-R44: a multicast write is stored and answered; its merged answer reaches who asked; a reduction that no command awaits
writes nothing; a switch report that does not verify has no effect, and each context that accepts one sends the switch its key.
10 R176, R177, 09 R160, 04 R70: the oldest request of another chip whose source has none waiting is served or waits for a
publish; an append of another chip goes to the denial log homed here; a completed walk lets what waits for its page go on; a
request that has waited 10,000 ticks completes poisoned.
How a reduction's result is matched, and the requester of a remote request, are the model's (logs 38 and 77), and so
are what WALK_COMPLETE resumes (log 76), an MCREPLY's contributors 1 or 0 (log 37), and that a new request reads
another chip's grant map anew (log 17). -/
def Obligations.SwitchesAndWeirs : Prop :=
  (∀ (s : State) (p : Packet) (r : SwitchReport),
    let o := s.packetObject p
    let check (u : State) (page : Nat) : State × Verdict := u.translate (s.packetReq p 2) o (packetSpan p page).1 true false
    let reached (u : State) (page : Nat) (leaf : W64) (entry : ObjEntry) : State :=
      u.reach o (packetSpan p page).1 (packetSpan p page).2 leaf entry true none
    let answer (u : State) (ok : Bool) : State := u.emitLoose { u.plainPacket 0x19 3 p.plane p.src (List.replicate 64 0) with
      tag := p.tag, context := p.context, object := p.object, offset := p.offset, status := if ok then 0 else 5, group := p.group,
      version := p.version, contributors := ok.toNat }
    (p.opcode ≠ 0x18 ∨ wellPacked p = false → exec (.mcwrite p) s = .next (discarded s p))
    ∧ (p.opcode = 0x18 → wellPacked p = true → (s.conf.chip s.fab.self.toNat).state ≠ .live → exec (.mcwrite p) s = .next s)
    ∧ (p.opcode = 0x18 → wellPacked p = true → (s.conf.chip s.fab.self.toNat).state = .live →
        let w := s.freshGrants p.grantHome p.grantObject
        (o = 0 → exec (.mcwrite p) s = .next (answer w false))
        ∧ (o ≠ 0 →
            (∀ page t leaf entry, packetPages p = [page] → check w page = (t, .ok leaf entry) → exec (.mcwrite p) s = .next (answer
              ((reached t page leaf entry).storePage p page (leafFrame leaf)) true))
            ∧ (∀ a b t u la lb ea eb, packetPages p = [a, b] → check w a = (t, .ok la ea) →
                check (reached t a la ea) b = (u, .ok lb eb) → exec (.mcwrite p) s = .next (answer
                  (((reached u b lb eb).storePage p a (leafFrame la)).storePage p b (leafFrame lb)) true))
            ∧ (∀ page rest, packetPages p = page :: rest →
                (∀ t ptag, check w page = (t, .denied ptag) →
                  exec (.mcwrite p) s = .next (answer (t.logDenial (s.packetReq p 2) o (packetSpan p page).1 ptag 2) false))
                ∧ (∀ t nw, check w page = (t, .fault nw) → exec (.mcwrite p) s = .next (answer w false))
                ∧ (∀ t, check w page = (t, .hold) → (s.objEntry o).publishing = true → exec (.mcwrite p) s = .next
                    { w with mem := { w.mem with waiting := w.mem.waiting ++ [{ packet := p }] } }))))
    ∧ (p.opcode ≠ 0x19 ∨ wellPacked p = false → exec (.mcreply p) s = .next (discarded s p))
    ∧ (p.opcode = 0x19 → wellPacked p = true → exec (.mcreply p) s = .next (s.takeAnswer p))
    ∧ (p.opcode ≠ 0x1D ∨ wellPacked p = false → exec (.redresult p) s = .next (discarded s p))
    ∧ (p.opcode = 0x1D → wellPacked p = true → ∃ t : State, exec (.redresult p) s = .next t
        ∧ t.mem = s.mem ∧ t.groups = s.groups ∧ t.disp = s.disp ∧ (s.reducing p.redId = [] → t = s))
    ∧ (s.fw.state ≠ 1 ∨ s.trust.nonces.contains r.nonce = false ∨ Config.mldsaOk r.dsaKey (reportBytes r) r.signature = false →
        exec (.swattest r) s = .next s)
    ∧ (s.fw.state = 1 → s.trust.nonces.contains r.nonce = true → Config.mldsaOk r.dsaKey (reportBytes r) r.signature = true →
        let who := s.trust.ctxs.filter fun e => s.acceptsSwitch r e.2
        ∃ t : State, exec (.swattest r) s = .next t ∧ t.mem = s.mem ∧ t.groups = s.groups ∧ (who = [] → t = s)
          ∧ t.trust = { s.trust with
            switches := s.trust.switches ++ who.map fun e => (r.switchId, r.plane.toNat % 4, BitVec.ofNat 20 e.1, e.2.fabricGen) }))
    ∧ (∀ (s : State) (o : BitVec 28) (page : Nat) (tag : BitVec 16),
    (∀ (a : LogAppend) rest, s.mem.appends = a :: rest →
      let u : State := { s with mem := { s.mem with appends := rest } }
      let log : Cap := { home := a.home, object := a.object, base := a.base, length := a.length, rights := rR ||| rW }
      exec .weirRequest s = .next (if a.home = s.fab.self ∧ namesLog log = true then u.appendHere log a.entry else u))
    ∧ (s.mem.appends = [] → ∀ r, s.nextRequest = some r →
        let u : State := ({ s with mem := { s.mem with requests := s.mem.requests.erase r } } : State).freshGrants
          r.packet.grantHome r.packet.grantObject
        (r.packet.opcode ≠ 0x18 → ∀ t, u.servePacket r.packet = (t, none) →
          exec .weirRequest s = .next (State.releaseAll
            { t with mem := { t.mem with waiting := t.mem.waiting ++ [{ packet := r.packet }] } }))
        ∧ (r.packet.opcode ≠ 0x18 → ∀ t q, u.servePacket r.packet = (t, some q) →
          exec .weirRequest s = .next (t.send (homeDie r.packet.object) q).1.releaseAll))
    ∧ (∀ r rest, s.mem.requests = r :: rest → (∀ w ∈ s.mem.waiting, w.packet.src ≠ r.packet.src ∨ w.packet.cls ≠ 0) →
        s.nextRequest = some r)
    ∧ (s.mem.appends = [] → s.nextRequest = none → exec .weirRequest s = .next s.releaseAll)
    ∧ ((s.objEntry o).publishing = true → exec (.walkComplete o page) s = .next s)
    ∧ ((s.objEntry o).publishing = false → (∀ e ∈ s.mem.held, s.heldPage e.1 e.2.1 ≠ some (o, page)) →
        let due := s.mem.waiting.filter fun r => s.packetObject r.packet == o && r.packet.offset.toNat / 65536 == page
        (due = [] → exec (.walkComplete o page) s = .next s)
        ∧ (∀ r, due = [r] →
            let t := ({ s with mem := { s.mem with waiting := s.mem.waiting.erase r } } : State).serveRemote r.packet
            (∀ e ∈ t.mem.held, t.heldPage e.1 e.2.1 ≠ some (o, page)) →
            exec (.walkComplete o page) s = .next
              (if t.mem.waiting.contains r then { t with mem := { t.mem with waiting := s.mem.waiting } } else t).releaseAll))
    ∧ ((∀ e ∈ s.mem.held, e.1 ≠ tag) → exec (.localtimeout tag) s = .next s)
    ∧ (∀ h tick g, (s.mem.held.find? fun e => e.1 == tag) = some (tag, h, tick) → s.group h = some g →
        ((s.tickOf (dieOf g.core) - tick).toNat < 10000 → exec (.localtimeout tag) s = .next s)
        ∧ (10000 ≤ (s.tickOf (dieOf g.core) - tick).toNat →
            let u : State := { s with mem := { s.mem with held := s.mem.held.filter fun e => e.1 != tag } }
            exec (.localtimeout tag) s = .next (State.answerPieces
              (u.contain (dieOf g.core) 0x0D09 2 8 7 g.core none 0xFFFF (if g.task then 0xFFFF else g.grid.toNat) g.ctx.toNat g.gid.toNat
                (((g.memOps.find? fun o => o.pieces.any fun p => p.tag == tag && p.status == 0xFF).map MemOp.pc).getD 0) 0 0) h tag false fun q => { q with status := 3 }))))

namespace Sys2Proof.Claims

open Sys2Proof.Machine

noncomputable section

/-- The rows that apply a Current record, each with the records that are its own (05 R82, 06 R102-R109). -/
def recordForms : List (Instr × (CurRec → Bool)) :=
  [(Instr.submit, fun r => r.typ == 0x01), (Instr.fire, fun r => r.typ == 0x07),
   (Instr.finishBlocksEnded, fun r => r.typ == 0x02 && finishKind r != 1),
   (Instr.finishSignalWritten, fun r => r.typ == 0x02 && finishKind r == 1), (Instr.block, fun r => r.typ == 0x03),
   (Instr.resume, fun r => r.typ == 0x04), (Instr.release, fun r => r.typ == 0x05), (Instr.fault, fun r => r.typ == 0x06),
   (Instr.share, fun r => r.typ == 0x08), (Instr.loss, fun r => r.typ == 0x10), (Instr.admitChip, fun r => r.typ == 0x11),
   (Instr.expel, fun r => r.typ == 0x12), (Instr.capacity, fun r => r.typ == 0x13),
   (Instr.soundDigest, fun r => r.typ == 0x14 && soundKind r == 0),
   (Instr.soundClose, fun r => r.typ == 0x14 && soundKind r != 0 && soundKind r != 2),
   (Instr.soundVerdict, fun r => r.typ == 0x14 && soundKind r == 2)]

/-- Ask a candidate for a tail or a snapshot: the transfer under way, and the request that leaves (05 R85, R87). -/
def asked (s : State) (snapshot : Bool) (first last : W64) (c : BitVec 12) (left : List (BitVec 12)) : State :=
  let id := s.cur.nextTransfer
  let u : State := { s with
    cur := { s.cur with transfer := some { snapshot := snapshot, id := id, asked := c, left := left, first := first, last := last, since := s.now }
                        nextTransfer := id + 1 } }
  if snapshot then u.sendSync c 3 id (padTo 256 (leBytes 8 first.toNat))
  else u.sendSync c 1 id (padTo 256 (leBytes 8 first.toNat ++ leBytes 8 last.toNat))

/-- The grid and the nominal chip that a completion record names (06 R107). -/
def namedGrid (r : CurRec) : Nat := bits (recWord r 0) 15 0
def namedChip (r : CurRec) : Nat := bits (recWord r 0) 27 16

/-- Tables that differ in one placement row and one chip's free count. -/
def RowChange (t u : Tables) (g c : Nat) (p : PlaceRow) (chip : Nat) (free : BitVec 32) : Prop :=
  u = { t with places := u.places, chips := u.chips }
    ∧ (∀ k, Sparse.get {} u.places k = if k = g * 4096 + c then p else Sparse.get {} t.places k)
    ∧ (∀ k, Sparse.get {} u.chips k = if k = chip then { t.chip chip with free := free } else Sparse.get {} t.chips k)

end

end Sys2Proof.Claims

open Sys2Proof Sys2Proof.Machine Sys2Proof.Claims

/-- 05 R85, R94: a delivered record is queued when it is the expected one, held when it is beyond it, discarded when it came before,
and kept for the replay while a rejoin seeks its snapshot and tail or replays.
05 R85-R87: the requests for tails and snapshots, their answers, and the candidates that are asked in turn.
What is discarded beyond a full queue, and the stages of a rejoin, are the model's (logs 31 and 32). -/
def Obligations.RecordsTravel : Prop :=
  (∀ (s : State) (r : CurRec),
    (s.fw.state ≠ 1 ∨ (s.cur.stopped = true ∧ s.cur.holding = false) → exec (.event r) s = .next s)
    ∧ (s.fw.state = 1 → s.cur.holding = true → s.cur.rejoinHold.length < 2 ^ 20 →
        exec (.event r) s = .next { s with cur := { s.cur with rejoinHold := insertRec r s.cur.rejoinHold } })
    ∧ (s.fw.state = 1 → s.cur.stage = .replay → s.cur.stopped = false → s.cur.fed = false → s.cur.rejoinHold.length < 2 ^ 20 →
        exec (.event r) s = .next (State.queued { s with cur := { s.cur with rejoinHold := insertRec r s.cur.rejoinHold } }))
    ∧ (s.fw.state = 1 → s.cur.stopped = false → s.cur.holding = false → s.cur.stage ≠ .replay → s.cur.hold = [] →
        typeAssigned r.typ = true → (∀ q ∈ s.cur.queue, typeAssigned q.typ = true) → (∀ i, (s.port i).buffer = []) →
        ∃ t : State, exec (.event r) s = .next t
          ∧ t = { s with cur := t.cur, outbox := t.outbox, fab := { s.fab with ports := t.fab.ports } }
          ∧ (r.seq.toNat < s.cur.next.toNat → t.cur = s.cur)
          ∧ (r.seq = s.cur.next → s.cur.queue.length < 65536 →
              t.cur = { s.cur with queue := s.cur.queue ++ [r], next := s.cur.next + 1, heldAt := [], gapSince := none })
          ∧ (s.cur.next.toNat < r.seq.toNat → t.cur = { s.cur with
              hold := [r], heldAt := s.cur.heldAt ++ [(r.seq, s.now)], gapSince := some (s.cur.gapSince.getD s.now) })))
    ∧ (∀ (s : State) (chip : BitVec 12) (id : BitVec 24) (first last : W64) (recs : List CurRec) (stream : SnapStream),
    (∀ h hs t, s.cur.hold = h :: hs → s.cur.gapSince = some t → s.fw.state = 1 → s.cur.stopped = false → s.cur.transfer = none →
      s.cur.holding = false →
        ((s.silence ≤ (s.now - t).toNat ∨ 4096 ≤ s.cur.hold.length) →
          exec .tailFetch s = .next (asked s false s.cur.next (h.seq - 1) (neighbour s.fab.self 63 0) (candidates s.fab.self).tail))
        ∧ ((s.now - t).toNat < s.silence → s.cur.hold.length < 4096 → exec .tailFetch s = .next s))
    ∧ (s.cur.hold = [] → exec .tailFetch s = .next s)
    ∧ (s.fw.state = 1 → exec (.tailRequest chip id first last) s = .next (
        match (if s.ownState = .live then s.cur.tail first last else none) with
        | some rs => s.sendSync chip 2 id (rs.flatMap recBytes)
        | none => s.sendSync chip 5 id (padTo 256 [])))
    ∧ (s.fw.state = 1 → exec (.snapshotRequest chip id first) s = .next (
        match (if s.ownState = .live then (if first = 0 then s.cur.snaps.getLast? else s.cur.snaps.find? fun p => p.opening == first)
          else none) with
        | some p => s.sendSync chip 4 id (streamBytes p.stream)
        | none => s.sendSync chip 5 id (padTo 256 [])))
    ∧ (s.fw.state ≠ 1 → exec (.tailRequest chip id first last) s = .next s ∧ exec (.snapshotRequest chip id first) s = .next s)
    ∧ (s.answered chip id false = none → exec (.tailData chip id recs) s = .next s)
    ∧ (∀ t, s.answered chip id false = some t →
        (tailMatches t recs = false → exec (.tailData chip id recs) s = .next s.nextCandidate)
        ∧ (tailMatches t recs = true → s.cur.stage ≠ .tail → exec (.tailData chip id recs) s = .next (State.queued
            { s with cur := (recs.foldl Current.enqueue { s.cur with transfer := none }).drainHold }))
        ∧ (tailMatches t recs = true → s.cur.stage = .tail → exec (.tailData chip id recs) s = .next (State.queued
            { s with cur := { s.cur with stage := .replay, stopped := false, transfer := none, hold := [], heldAt := [], gapSince := none
                                         rejoinTail := recs } })))
    ∧ (s.answered chip id true = none → exec (.snapshotData chip id stream) s = .next s)
    ∧ (∀ t, s.answered chip id true = some t →
        (snapGood stream = false → exec (.snapshotData chip id stream) s = .next s.nextCandidate)
        ∧ (snapGood stream = true → ∃ u : State, exec (.snapshotData chip id stream) s = .next u
            ∧ u = { s with conf := tablesOf stream.rows, cur := u.cur, fab := { s.fab with noPlane := u.fab.noPlane } } ∧ u.cur.next = stream.opening + 1 ∧ u.cur.stage = .tail
            ∧ u.cur.params = some (paramsOf stream.params) ∧ u.cur.round = some (snapRound stream s.now) ∧ u.cur.source = chip ∧ u.cur.transfer = none
            ∧ u.cur.log = (s.cur.log.filter fun r => decide (r.seq.toNat ≤ stream.opening.toNat))
            ∧ u.cur.snaps = (s.cur.snaps.filter fun p => decide (p.opening.toNat < stream.opening.toNat))
            ∧ u.cur.splitRound = snapSplit stream s.now
            ∧ u.cur.rejoinHold = s.cur.rejoinHold.filter fun r => decide (stream.opening.toNat < r.seq.toNat)))
    ∧ exec (.notHeld chip id) s = .next
        (if (s.answered chip id true).isSome ∨ (s.answered chip id false).isSome then s.nextCandidate else s)
    ∧ (∀ t, s.cur.transfer = some t →
        exec .transferTimeout s = .next (if s.streaming t = true ∧ s.silence ≤ (s.now - t.since).toNat then s.nextCandidate else s)
        ∧ exec .candidateSilence s = .next (if s.streaming t = false ∧ s.silence ≤ (s.now - t.since).toNat then s.nextCandidate else s)
        ∧ (∀ c cs, t.left = c :: cs → s.nextCandidate =
            asked { s with fab := { s.fab with streams := s.fab.streams.filter fun e => !(e.1 == t.asked && e.2.1 == t.id) } }
              t.snapshot t.first t.last c cs))
    ∧ (s.cur.transfer = none → exec .transferTimeout s = .next s ∧ exec .candidateSilence s = .next s))

/-- 05 R89, R91, R94: the timers of a sounding round, and the steps of a rejoin.
Which chips post, and when a rejoin starts, are the model's readings (logs 29 to 31). -/
def Obligations.SoundingTimersAndRejoin : Prop :=
  ∀ (s : State) (chip : BitVec 12),
    (∀ q p, s.cur.round = some q → s.cur.params = some p →
      let due := s.applies && s.speaks && s.ownState == .live && !q.closePosted && decide (p.wait ≤ (s.now - q.since).toNat)
      (due = true → exec .soundwaitExpiry s = .next
        (({ s with cur := { s.cur with round := some { q with closePosted := true } } } : State).post
          (s.record 0x14 0 (q.opening.toNat + 2 ^ 64))))
      ∧ (due = false → exec .soundwaitExpiry s = .next s))
    ∧ (s.cur.round = none → exec .soundwaitExpiry s = .next s)
    ∧ (∀ e p, (s.cur.expels.find? fun e => e.1 == chip) = some e → s.cur.params = some p →
        let due := s.applies && s.ownState == .live && decide (p.expel ≤ (s.now - e.2.2).toNat)
        (due = true → exec (.expelwaitExpiry chip) s = .next
          (({ s with cur := { s.cur with expels := s.cur.expels.filter fun x => x != e } } : State).post
            (s.record 0x12 0 (chip.toNat + 2 ^ 64 * e.2.1.toNat))))
        ∧ (due = false → exec (.expelwaitExpiry chip) s = .next s))
    ∧ ((∀ e ∈ s.cur.expels, e.1 ≠ chip) → exec (.expelwaitExpiry chip) s = .next s)
    ∧ (s.fw.state ≠ 1 → exec .rejoin s = .next s)
    ∧ (s.fw.state = 1 → s.cur.stage = .none → s.mayRejoin = false → exec .rejoin s = .next s)
    ∧ (s.fw.state = 1 → s.cur.stage = .none → s.mayRejoin = true →
        let id := s.cur.nextTransfer
        let u : State := State.emptied { s with cur := { s.cur with
          stage := .snapshot, rejoinTail := [], rejoinHold := [], retryAt := none, queue := [], hold := [], heldAt := [], gapSince := none, nextTransfer := id + 1 } }
        let x := (u.streamPackets 0x11 2 u.eventPlane u.fab.self 6 id (List.replicate 256 0)).foldl State.emitLoose u
        exec .rejoin s = .next (match s.snapCandidates with
          | [] => { x with cur := { x.cur with transfer := none } }
          | c :: cs => asked x true 0 0 c cs))
    ∧ (s.fw.state = 1 → s.cur.stage = .replay → s.cur.queue = [] → s.cur.hold = [] → s.cur.fed = true → s.ownState ≠ .live →
        s.ownState ≠ .joining → ∀ p, s.cur.params = some p →
          exec .rejoin s = .next (({ s with cur := { s.cur with stage := .admitted } } : State).sendEvent
            (s.record 0x11 0 (s.runMap.toNat + 2 ^ 32 * s.capacity + 2 ^ 64 * s.cur.opening.toNat + 2 ^ 128 * p.word.toNat))))
    ∧ (s.fw.state = 1 → s.cur.stage = .snapshot → s.cur.transfer = none → s.cur.retryAt = none →
        let u := s.errorRecord (((List.range 4).find? s.dieRuns).getD 0) 5 0x0502 2 []
        exec .nosnapshot s = .next { u with cur := { s.cur with retryAt := some (s.now + 1000000) } })
    ∧ (s.fw.state ≠ 1 ∨ s.cur.stage ≠ .snapshot ∨ s.cur.transfer ≠ none ∨ s.cur.retryAt ≠ none → exec .nosnapshot s = .next s)

/-- 05 R81, R82, R85, R89, 06 R97, R104: the record at the head of the queue is applied by its own row: one that is in order has its
effect, then Dispatch runs; any other leaves the tables; each is kept in the log. A signal OR that has ended is reported.
Which no-ops write EVBAD is the model's reading (log 28). -/
def Obligations.RecordsAreApplied : Prop :=
  ∀ (s : State), ∀ e ∈ recordForms,
    (s.cur.queue = [] → exec e.1 s = .next s.queued)
    ∧ (∀ r rest, s.cur.queue = r :: rest → (s.applies = false ∨ e.2 r = false) → exec e.1 s = .next s.queued)
    ∧ (∀ r rest, s.cur.queue = r :: rest → s.applies = true → e.2 r = true →
        let u : State := { s with cur := { s.cur with queue := rest } }
        let t := u.applyRecord r
        exec e.1 s = .next t.queued
          ∧ (recordGood s.conf r = false → t.conf = s.conf ∧ t.mem = s.mem ∧ t.groups = s.groups
              ∧ (s.cur.log.length < 2 ^ 20 → t.cur.log = s.cur.log ++ [r]))
          ∧ (recordGood s.conf r = true → u.graphDiff r = true →
              t = (u.stopApplying).errorRecord (((List.range 4).find? s.dieRuns).getD 0) 5 0x0602 2 (leBytes 8 r.seq.toNat))
          ∧ (recordGood s.conf r = true → u.graphDiff r = false →
              let v := u.effect r
              t = ((({ v with conf := v.conf.dispatch } : State).logRecord r).openRounds r.seq (r.typ == 0x10) s.cur.round.isSome).react s.conf r))
    ∧ (∀ grid, (∀ d ∈ s.disp.signals, d.grid ≠ grid) → exec (.signalOrDone grid) s = .next s)
    ∧ (∀ (grid : BitVec 16) (d : SignalDue) (st : BitVec 8), s.disp.signals = [d] → d.grid = grid → d.answer = some st → st ≠ 2 →
        d.posted = false →
        let u : State := { s with disp := { s.disp with signals := [{ d with posted := true }] } }
        let v := if st = 0 then u else u.errorRecord (((List.range 4).find? s.dieRuns).getD 0) 5 0x0603 2
          (leBytes 2 grid.toNat ++ leBytes 2 0 ++ leBytes 4 (s.conf.grid grid.toNat).hostTag.toNat ++ leBytes 1 st.toNat)
        exec (.signalOrDone grid) s = .next (v.post (s.record 0x02 0 (grid.toNat + 2 ^ 16 * s.fab.self.toNat + 2 ^ 32))))

/-- 06 R107: what BLOCK, RESUME, RELEASE, FINISH and FAULT do to the tables; one whose row is not placed, or is enacted by another chip
than the record's source, does nothing.
06 R101, R105, R107: the shares of a queue, the end of a signalled grid, and where a grid fits: the first origin in row-major
order whose chips are LIVE and have room.
The context of such records is the model's choice (log 27). -/
def Obligations.CompletionsAndShares : Prop :=
  (∀ (t : Tables) (r : CurRec) (succ : W64 → Nat → List Nat),
    let g := namedGrid r
    let c := namedChip r
    let p := t.place g c
    let row := t.grid g
    let chip := p.enacting.toNat
    let free := (t.chip chip).free
    ((row.state ≠ .placed ∨ p.placed = false ∨ p.enacting.setWidth 16 ≠ r.src) →
      t.block r = t ∧ t.resume r = t ∧ t.release r = t ∧ t.finishBlocks succ r = t ∧ t.fault succ r = t)
    ∧ (row.state = .placed → p.placed = true → p.enacting.setWidth 16 = r.src →
        (p.parked.toNat < p.count.toNat → p.finished = false → RowChange t (t.block r) g c { p with parked := p.parked + 1 } chip (free + 1))
        ∧ (p.count.toNat ≤ p.parked.toNat ∨ p.finished = true → t.block r = t)
        ∧ (p.parked ≠ 0 → RowChange t (t.resume r) g c { p with parked := p.parked - 1 } chip (free - 1))
        ∧ (p.parked = 0 → t.resume r = t)
        ∧ (p.released = true → t.release r = t)
        ∧ (p.released = false → row.unreleased ≠ 1 → (t.release r).place g c = { p with released := true }
            ∧ (t.release r).grid g = { row with unreleased := row.unreleased - 1 } ∧ (t.release r).chips = t.chips)
        ∧ (p.finished = true → t.finishBlocks succ r = t)
        ∧ (p.finished = false → p.released = true → row.outstanding ≠ 1 →
            ∃ u, RowChange t u g c { p with finished := true, parked := 0 } chip (free + (p.count - p.parked))
              ∧ t.finishBlocks succ r = { u with grids := Sparse.set {} t.grids g { row with outstanding := row.outstanding - 1 } })
        ∧ ((row.signal = 0 → row.node = 0xFFFFFFFF → ((t.fault succ r).grid g).state = .free)
            ∧ (row.signal ≠ 0 → row.node = 0xFFFFFFFF → ((t.fault succ r).grid g).state = .done ∧ ((t.fault succ r).grid g).faulted = true
                ∧ ((t.fault succ r).grid g).owed = r.src.setWidth 12))))
    ∧ (∀ (t : Tables) (r : CurRec) (g : GridRow),
    let i := bits (recWord r 0) 9 0
    let q := t.queue i
    let tickets : BitVec 16 := (recWord r 0).extractLsb' 16 16
    let shared : QueueRow := { q with tickets := tickets, stride := BitVec.ofNat 32 (2 ^ 24 / tickets.toNat), ctx := r.ctx.setWidth 20 }
    ((q.tickets ≠ 0 ∧ q.ctx ≠ r.ctx.setWidth 20) ∨ (tickets = 0 ∧ q.length ≠ 0) → t.share r = t)
    ∧ ((q.tickets = 0 ∨ q.ctx = r.ctx.setWidth 20) → tickets ≠ 0 → t.share r = { t with queues := Sparse.set {} t.queues i shared })
    ∧ ((t.grid (namedGrid r)).state = .done → r.src = (t.grid (namedGrid r)).owed.setWidth 16 →
        ((t.finishSignal r).grid (namedGrid r)).state = .free)
    ∧ ((t.grid (namedGrid r)).state ≠ .done ∨ r.src ≠ (t.grid (namedGrid r)).owed.setWidth 16 → t.finishSignal r = t)
    ∧ (let w := g.width.toNat
       let h := g.height.toNat
       let good (x y : Nat) : Prop := x + w ≤ 64 ∧ y + h ≤ 64 ∧ ∀ k < w * h,
         (t.chip (64 * (y + k / w) + (x + k % w))).state = .live
           ∧ (g.cnt k : Int) ≤ (t.chip (64 * (y + k / w) + (x + k % w))).free.toInt
       1 ≤ w → 1 ≤ h →
        (∀ x y, t.fit g = some (x, y) → w * h ≤ t.storeFree ∧ good x y ∧ ∀ x' y', good x' y' → y < y' ∨ (y = y' ∧ x ≤ x'))
        ∧ (w * h ≤ t.storeFree → (∃ x y, good x y) → (t.fit g).isSome = true)))

namespace Sys2Proof.Claims

open Sys2Proof.Machine

noncomputable section

/-- The slices of a list become ready, and every other slice stays. -/
def Readied (g g' : Group) (sl : List Nat) : Prop :=
  ∀ i, g'.slice i = if i ∈ sl then { g.slice i with state := .ready, park := .none, arg := 0, deadline := 0 } else g.slice i

end

end Sys2Proof.Claims

open Sys2Proof Sys2Proof.Machine Sys2Proof.Claims

/-- 07 R115-R117: the head of a partition's queue starts on a core with a free slot and enough pages, the one with the most free
slots; a bad image posts FAULT 0x0008, too large a stash FAULT 0x0005.
07 R118, R119: a block ends when its groups have exited, its commands have completed and its regions are written back; one parked
for 10,000 ticks becomes dormant, and BLOCK is posted.
Which images are refused beyond the manual's list is the model's reading (log 35). -/
def Obligations.BlocksStartAndEnd : Prop :=
  (∀ (s : State) (part : BitVec 16),
    (s.headItem part = none → exec (.blockStart part) s = .next s)
    ∧ (∀ item blk b, s.headItem part = some item → item.dormant = some blk → s.block blk = some b →
        (s.chooseCore part b.pages = none → exec (.blockStart part) s = .next s)
        ∧ (∀ core, s.chooseCore part b.pages = some core → ∃ t : State, exec (.blockStart part) s = .next t ∧ item ∉ t.disp.items
            ∧ t.block blk = some { b with core := core, dormant := false, wakeDue := false, slept := [] }))
    ∧ (∀ item s1 out, s.headItem part = some item → item.dormant = none →
        s.image (s.conf.grid item.grid.toNat).kernel (s.conf.grid item.grid.toNat).ctx = (s1, out) →
        let faulted (code : BitVec 16) : State :=
          ({ s1 with disp := { s1.disp with items := s1.disp.items.filter fun j => j.grid != item.grid } } : State).postFault item.grid
            item.nominal code
        let started (core : Nat) (k : Kernel) (gs : List Nat) : Block :=
          { grid := item.grid
            nominal := item.nominal
            number := item.number
            core := core
            part := part
            pages := k.alloc / 4096
            alloc := k.alloc
            barriers := k.barriers
            groups := gs
            started := true }
        (out = .waiting → exec (.blockStart part) s = .next s1)
        ∧ (out = .bad → exec (.blockStart part) s = .next (faulted 8))
        ∧ (∀ k, out = .kernel k →
            (2621440 < k.alloc → exec (.blockStart part) s = .next (faulted 5))
            ∧ (k.alloc ≤ 2621440 → s1.chooseCore part (k.alloc / 4096) = none → exec (.blockStart part) s = .next s1)
            ∧ (k.alloc ≤ 2621440 → ∀ core, s1.chooseCore part (k.alloc / 4096) = some core →
                ∃ (t : State) (gs : List Nat), exec (.blockStart part) s = .next t
                  ∧ gs.length = (s.conf.grid item.grid.toNat).groups.toNat ∧ t.disp.nextBlock = s1.disp.nextBlock + 1
                  ∧ t.block s1.disp.nextBlock = some (started core k gs)
                  ∧ (Sparse.get {} t.cores core : Core).created = (Sparse.get {} s1.cores core : Core).created ++ gs
                  ∧ (Sparse.get {} t.cores core : Core).freePages = (Sparse.get {} s1.cores core : Core).freePages - k.alloc / 4096)))
    ∧ (∀ pages core, s.chooseCore part pages = some core →
        let fits (c : Nat) : Prop := c ∈ s.partCores part ∧ (s.coreBlocks c).length < 16 ∧ pages ≤ (Sparse.get {} s.cores c : Core).freePages
        fits core ∧ ∀ c, fits c → (s.coreBlocks core).length ≤ (s.coreBlocks c).length))
    ∧ (∀ (s : State) (blk : Nat) (b : Block), s.block blk = some b →
    let exited := b.groups.all fun h => ((s.group h).map fun g => decide (g.state = .done)).getD false
    let due := (b.parkedSince.map fun t => decide (10000 ≤ (s.tickOf (dieOf b.core) - t).toNat)).getD false
    (exited = false ∨ b.started = false ∨ s.blockCommands blk ≠ [] → exec (.blockEnd blk) s = .next s)
    ∧ (exited = true → b.started = true → s.blockCommands blk = [] → ∀ s1 ok, s.flushRegions blk = (s1, ok) →
        (ok = false → exec (.blockEnd blk) s = .next s1)
        ∧ (ok = true → ∃ t : State, exec (.blockEnd blk) s = .next t ∧ t.block blk = none ∧ (∀ h ∈ b.groups, t.group h = none)
            ∧ Sparse.get 0 t.disp.ended (rowKey b.grid b.nominal) = Sparse.get 0 s1.disp.ended (rowKey b.grid b.nominal) + 1))
    ∧ (due = false ∨ s.blockParked b = false ∨ (∃ e ∈ s.toSave b, s.commandsLet e.1 e.2 = false) → exec (.dormancy blk) s = .next s)
    ∧ (due = true → s.blockParked b = true → (∀ e ∈ s.toSave b, s.commandsLet e.1 e.2 = true) →
        let fault := (s.toSave b).findSome? fun e => s.mayStore e.1 e.2 (s.leaveLines e.1 e.2)
        (∀ u, fault = some u → exec (.dormancy blk) s = .next u)
        ∧ (fault = none → ∀ s1 ok, s.flushRegions blk = (s1, ok) →
            (ok = false → exec (.dormancy blk) s = .next s1)
            ∧ (ok = true → ∃ t : State,
                exec (.dormancy blk) s = .next (t.post (t.record 0x03 0 (b.grid.toNat + 2 ^ 16 * b.nominal.toNat + 2 ^ 32 * b.number)))
                ∧ ∃ b1, t.block blk = some b1 ∧ b1.dormant = true ∧ b1.wakeDue = false ∧ b1.unapplied = b.unapplied + 1 ∧ b1.lines = []
                  ∧ b1.parkedSince = none ∧ b1.groups = b.groups ∧ b1.slept = (s.toSave b).map Prod.fst))))

/-- 07 R124: records of one kernel, context and capability become a task group when they fill its visible lanes, or when the first is
1,000 ticks old; a kernel that is no task kernel is refused.
09 R152-R156: an entry of the activation queue that can be takes the port with the fewest residents and asks for its header
lines; waiting lines arrive and end the register-miss parks; a context fault parks the group, and ends when its pages are provided
or refused.
The lanes filled and the contents of v1 are the model's (logs 24 and 25). -/
def Obligations.GroupsFormAndFill : Prop :=
  (∀ (s : State) (core : Nat),
    ((Sparse.get {} s.cores core : Core).taskQueue = [] → exec (.taskGroupTimeout core) s = .next s)
    ∧ (∀ r rest s1 out, (Sparse.get {} s.cores core : Core).taskQueue = r :: rest → (∀ x ∈ rest, x.joins r = true) →
        s.image r.kernel r.ctx = (s1, out) → (Sparse.get {} s1.cores core : Core).taskQueue = r :: rest →
        (out = .waiting → exec (.taskGroupTimeout core) s = .next s1)
        ∧ (out = .bad → exec (.taskGroupTimeout core) s = .next (s1.refuseTask core r))
        ∧ (∀ k, out = .kernel k →
            let c : Core := Sparse.get {} s1.cores core
            let w := if k.prot then k.width / 2 else k.width
            let n := rest.length + 1
            let old := decide (1000 ≤ (s1.tickOf (dieOf core) - r.tick).toNat)
            (k.task = false ∨ k.stash ≠ 0 ∨ k.barriers ≠ 0 → exec (.taskGroupTimeout core) s = .next (s1.refuseTask core r))
            ∧ (k.task = true → k.stash = 0 → k.barriers = 0 → n < w → old = false → exec (.taskGroupTimeout core) s = .next s1)
            ∧ (k.task = true → k.stash = 0 → k.barriers = 0 → 0 < w → (w ≤ n ∨ old = true) → ∃ (t : State) (h : Nat) (g : Group),
                exec (.taskGroupTimeout core) s = .next t ∧ t.group h = some g ∧ g.task = true ∧ g.core = core ∧ g.ctx = r.ctx
                  ∧ g.rc 0 = r.cap ∧ (Sparse.get {} t.cores core : Core).tasks = c.tasks ++ [h]
                  ∧ (Sparse.get {} t.cores core : Core).taskQueue = (r :: rest).drop (if w ≤ n then w else n)))))
    ∧ (∀ (s : State) (core grp : Nat),
    let c : Core := Sparse.get {} s.cores core
    (c.parked = true ∨ c.queue = [] → exec (.activation core) s = .next s)
    ∧ (∀ h hs g p, c.parked = false → c.queue = h :: hs → s.group h = some g → g.core = core → c.freePort = some p →
        s.belowQuota core g = true → c.tilesFor h g = true → ∃ (t : State) (g' : Group), exec (.activation core) s = .next t
          ∧ t.group h = some g' ∧ g'.port = p ∧ g'.issued = false
          ∧ (g.groupParked = false → (∃ i ∈ g.live, (g.slice i).state = .ready) → g'.state = .resident)
          ∧ (∀ n, g'.line n = if n < 41 ∧ g.line n = .invalid then .filling else g.line n)
          ∧ Sparse.get none (Sparse.get {} t.cores core : Core).slots (32 * p + g'.slot) = some h
          ∧ h ∉ (Sparse.get {} t.cores core : Core).queue)
    ∧ (∀ p, c.freePort = some p → p < 4 ∧ c.onPort p < 32 ∧ ∀ q < 4, c.onPort p ≤ c.onPort q)
    ∧ (∀ g, s.group grp = some g →
        let n := g.filling.length
        let o : BitVec 28 := BitVec.ofNat 28 grp
        let ended (u : State) : State := { u with mem := { u.mem with faults := u.mem.faults.filter fun e => e.object != o } }
        (g.filling = [] ∨ s.missingPages grp g ≠ [] ∨ g.ctxFault = true → exec (.registerFill grp) s = .next s)
        ∧ (g.filling ≠ [] → s.missingPages grp g = [] → g.ctxFault = false →
            (s.linesUsed g.core + n ≤ 6912 → exec (.registerFill grp) s = .next (s.fillNow grp g))
            ∧ (6912 < s.linesUsed g.core + n →
                (∀ t, s.makeRoom grp g.core = some t → exec (.registerFill grp) s = .next t)
                ∧ (s.makeRoom grp g.core = none → exec (.registerFill grp) s = .next (((s.takeLines grp g n).map fun t => t.fillNow grp g).getD s))))
        ∧ (∀ (t : State) (g' : Group), g.filling.foldl (State.fillCtxLine grp) (s, g, []) = (t, g', []) →
            let pcs := (g'.live.filter (fun i => (g'.slice i).park == .registerMiss)).map fun i => (g'.slice i).pc
            s.fillNow grp g = if g'.filling = [] then (t.repeatPassed g' pcs [false]).putGroup grp (g'.repeatPassed pcs [false]).endMiss
              else t.putGroup grp g')
        ∧ Readied g g.endMiss (g.live.filter fun i => (g.slice i).park == .registerMiss)
        ∧ (s.missingPages grp g = [] ∨ g.ctxFault = true → exec (.contextFault grp .raised) s = .next s)
        ∧ (s.missingPages grp g ≠ [] → g.ctxFault = false → ∀ t pages nw, s.recordPages grp g (s.missingPages grp g) = (t, pages, nw) →
            (pages = [] → exec (.contextFault grp .raised) s = .next t)
            ∧ (pages ≠ [] → ∃ g' : Group, exec (.contextFault grp .raised) s = .next (t.putGroup grp g') ∧ g'.ctxFault = true
                ∧ g'.faultedOn = pages.map (fun p => (o, p)) ∧ g'.noWake = nw
                ∧ ∀ i ∈ g.live, ((g.slice i).state = .ready ∨ (g.slice i).park = .registerMiss) →
                    (g'.slice i).state = .parked ∧ (g'.slice i).park = .contextFault))
        ∧ (g.ctxFault = false → exec (.contextFault grp .provided) s = .next s ∧ exec (.contextFault grp .refused) s = .next s)
        ∧ (g.ctxFault = true → ∀ t, s.mapPages o (g.faultedOn.map Prod.snd) = (t, []) →
            t.ctxServed grp g = true →
            ∃ g' : Group, g'.ctxFault = false ∧ g'.faultedOn = [] ∧ Readied g g' (g.live.filter fun i => (g.slice i).park == .contextFault)
              ∧ exec (.contextFault grp .provided) s = .next ((ended t).putGroup grp g'))
        ∧ (g.ctxFault = true → ∃ (t : State) (g' : Group), exec (.contextFault grp .refused) s = .next t ∧ t.group grp = some g'
            ∧ g'.state = .halted ∧ ∀ e ∈ t.mem.faults, e.object ≠ o)))

/-- 08 R135, R137, 13 R234, 15 R271, R272: results arrive, a pending trap is delivered once H is clear, a rejoin register is released by
quiescence, and WAIT and SLEEP end.
10 R178, R180: a page fault of this chip whose cause has gone, or that is refused once it was reported, ends; the wake or the
refusal of another chip's Weir reaches who waits at the core that it names; a requester marked no wake replays after 1,000 ticks.
That results arrive together, and when WAIT reads again, are the model's (logs 42 and 49), and so are the PC after a
released JOIN (log 46) and whom the wake of a page fault wakes (log 69). -/
def Obligations.ParksAndFaultsEnd : Prop :=
  (∀ (s : State) (grp : Nat) (g : Group), s.group grp = some g →
    ((g.live.find? fun i => (g.slice i).park == .switchPoint) = none →
      (g.pending = [] → exec (.resultWrite grp) s = .next s)
      ∧ (∀ p ps, g.pending = p :: ps → p.smx = [] →
          exec (.resultWrite grp) s = .next (s.putGroup grp (({ g with pending := ps } : Group).applyPending p)))
      ∧ (∀ p ps, g.pending = p :: ps → p.smx ≠ [] → exec (.resultWrite grp) s = .next s))
    ∧ (∀ i, (g.live.find? fun i => (g.slice i).park == .switchPoint) = some i →
        let gang := g.gang (g.slice i).gang
        let go (u : Group) : Group := u.mapSlices (fun _ sl => if sl.park = .switchPoint then sl.ready else sl) gang
        (g.hasPending gang = false → exec (.resultWrite grp) s = .next (s.putGroup grp (go g)))
        ∧ (g.gang i = gang → g.hasPending gang = true → g.smxOf gang = [] →
            exec (.resultWrite grp) s = .next (s.putGroup grp (go (g.flush gang)))))
    ∧ (g.handling = true ∨ g.nextTrap = none → exec (.trapDelivery grp) s = .next s)
    ∧ (g.handling = false → ∀ sl, g.nextTrap = some sl → exec (.trapDelivery grp) s = .next (s.deliver grp g sl (g.parkedTrap sl)))
    ∧ (∀ j, (j < 116 ∨ 123 < j ∨ s.releaseDue g j = false) → exec (.quiescenceRelease grp j) s = .next s)
    ∧ (∀ j, 116 ≤ j → j ≤ 123 → (g.state = .resident ∨ g.state = .idle) → s.releaseDue g j = true → ∃ g' : Group,
        exec (.quiescenceRelease grp j) s = .next (s.putGroup grp g')
          ∧ (∀ r, g'.rs r = if r = j then (g.rs j &&& 0x7FFF000000000000) ||| 0x8000000000000000 ||| (rejoinA (g.rs j)).setWidth 64
                else g.rs r)
          ∧ ∀ i, g'.slice i = if i ∈ g.arrivals j then { (g.slice i).ready with pc := (g.slice i).pc + 4 } else g.slice i)
    ∧ (∀ i, g.waitOf i = none → exec (.waitReread grp i) s = .next s ∧ exec (.waitDeadline grp i) s = .next s)
    ∧ (∀ i r, g.waitOf i = some r → s.waitOver g r = false → exec (.waitDeadline grp i) s = .next s)
    ∧ (∀ i r, g.waitOf i = some r → s.waitOver g r = true → exec (.waitDeadline grp i) s = exec (.waitReread grp i) s)
    ∧ (∀ i r, g.waitOf i = some r → (g.slice i).park = .wait → (∀ o ∈ g.memOps, o.slices ≠ r.slices) →
        let a : LaneReq := { lane := g.lowest r.slices, cap := r.cap, off := r.offset, size := r.size }
        let q := s.access grp { g with grant := r.grant } .waitRead (if r.logged then 7 else 0) r.scope false (splitLane a)
        let o : MemOp := { slices := r.slices, pc := (g.slice i).pc, y := false, kind := .waitRead, size := r.size, dst := r.dest
                           args := [], pieces := q.2.1 }
        (∀ p ∈ q.2.1, p.status ≠ 0xFF) → exec (.waitReread grp i) s = .next (q.1.rereadDone grp o q.2.2))
    ∧ (∀ i, let sl := g.slice i
        (sl.park ≠ .sleep ∨ (s.tickOf (dieOf g.core)).toNat < sl.deadline.toNat → exec (.sleepDeadline grp i) s = .next s)
        ∧ (sl.park = .sleep → sl.deadline.toNat ≤ (s.tickOf (dieOf g.core)).toNat → ∃ g' : Group,
            exec (.sleepDeadline grp i) s = .next (s.putGroup grp g') ∧ g' = { g with slices := g'.slices }
              ∧ Readied g g' ((g.gang sl.gang).filter fun k => (g.slice k).park == .sleep))))
    ∧ (∀ (s : State) (o : BitVec 28) (page kind grp core : Nat) (home : BitVec 12),
    let here := s.fab.self
    let place := s.pagePlace home o page
    (∀ e, s.faultEntry o page kind = some e → (kind ≠ 4 → s.serveShadow e = s) ∧
      exec (.pageFaultWake ⟨here, o⟩ page ⟨kind, core⟩) s = .next
          (if (s.serveShadow e).faultServed e then (s.serveShadow e).endFault e false else s)
      ∧ exec (.pageFaultRefusal ⟨here, o⟩ page ⟨kind, core⟩) s = .next (if e.reported then s.endFault e true else s))
    ∧ (s.faultEntry o page kind = none → exec (.pageFaultWake ⟨here, o⟩ page ⟨kind, core⟩) s = .next s
        ∧ exec (.pageFaultRefusal ⟨here, o⟩ page ⟨kind, core⟩) s = .next s)
    ∧ (home ≠ here → exec (.pageFaultWake ⟨home, o⟩ page ⟨kind, core⟩) s = .next (s.wakePage place kind core false)
        ∧ exec (.pageFaultRefusal ⟨home, o⟩ page ⟨kind, core⟩) s = .next (s.wakePage place kind core true))
    ∧ (∀ refused g, s.group grp = some g → g.core = core → g.waitsOn place kind = true →
        (g.ctxFault = false → ∃ g' : Group, s.wakeFaulted place kind core refused grp = s.putGroup grp g' ∧ g'.faultedOn = [] ∧ g'.noWake = false
          ∧ (refused = true → place ∈ g'.refusedOn ∧ g'.refusedFor = g.faultSlices) ∧ (refused = false → g'.refusedOn = g.refusedOn)
          ∧ Readied g g' (g.live.filter fun i => (g.slice i).park == .pageFault))
        ∧ (g.ctxFault = true → s.wakeFaulted place kind core refused grp = if refused then s else s.putGroup grp g.endContextFault))
    ∧ (∀ refused g, s.group grp = some g → (g.core ≠ core ∨ g.waitsOn place kind = false) → s.wakeFaulted place kind core refused grp = s)
    ∧ (s.cmds = [] → ∀ g, s.group grp = some g →
        let due := decide (g.noWakeAt.toNat ≤ (s.tickOf (dieOf g.core)).toNat)
        (g.noWake = false ∨ due = false → exec (.noWakeReplay grp) s = .next s)
        ∧ (g.noWake = true → due = true → g.ctxFault = true → exec (.noWakeReplay grp) s = .next (s.putGroup grp g.endContextFault))
        ∧ (g.noWake = true → due = true → g.ctxFault = false → ∃ g' : Group, exec (.noWakeReplay grp) s = .next (s.putGroup grp g')
            ∧ g' = { g with faultedOn := [], noWake := false, noWakeAt := 0, slices := g'.slices }
            ∧ Readied g g' (g.live.filter fun i => (g.slice i).park == .pageFault))))

/-- 10 R189, 19 R342, R345, R350, R352: a publish completes, an engine command makes its moves and ends, and a message arrives.
09 R159-R166, 04 R79, 15 R283: a save or restore completes with an entry of the firmware queue; a restore is refused with the code
of the first check that fails; a place that the host gives is asked for, and again once its refusal is 10^5 ticks old.
One move at a time, and the retry of a save, are the model's (logs 39, 40, 58 and 59), and so is that a save whose
group ended completes with status 1 (log 57). -/
def Obligations.CommandsAndSavesEnd : Prop :=
  (∀ (s : State) (o : BitVec 28) (k : Nat) (e : SendEnd) (tag : BitVec 32) (payload : List Byte),
    ((∀ x ∈ s.mem.publishing, x.1 ≠ o) → exec (.publishComplete o) s = .next s)
    ∧ (∀ j, (s.mem.publishing.find? fun x => x.1 == o) = some (o, j) → ∃ t : State, exec (.publishComplete o) s = .next t
        ∧ (t.objEntry o).publishing = false ∧ (t.objEntry o).flags.extractLsb' 48 16 = (s.objEntry o).flags.extractLsb' 48 16 + 1
        ∧ (∀ x ∈ t.mem.publishing, x.1 ≠ o)
        ∧ ∀ c, s.command j = some c → t.command j = some { c with ended := some 0 })
    ∧ (s.command k = none → exec (.engineComplete k e) s = .next s)
    ∧ (∀ c, s.command k = some c → s.tileBusy k c = true → exec (.engineComplete k e) s = .next s)
    ∧ (∀ c, s.command k = some c → s.tileBusy k c = false → (c.faulted ≠ [] ∨ s.nextHeld c = true) →
        exec (.engineComplete k e) s = .next (s.lateTiles c.group))
    ∧ (∀ c, s.command k = some c → s.tileBusy k c = false → c.faulted = [] → s.nextHeld c = false →
        let moved (t : State) : Prop := exec (.engineComplete k e) s = .next (t.lateTiles c.group)
        (∀ b, c.work = .copy b → c.awaiting = [] →
          (∀ p ps, c.reads = p :: ps → moved (s.readStep k c p))
          ∧ (∀ p ps, c.reads = [] → c.writes = p :: ps → moved (s.writeStep k { c with begun := true } p))
          ∧ (c.reads = [] → c.writes = [] → ∀ g, c.signal = some g →
              moved (((s.makeCounts c).1.putCommand k (s.makeCounts c).2).signalStep k (s.makeCounts c).2 g))
          ∧ (c.reads = [] → c.writes = [] → c.signal = none → moved (s.completeCommand k c)))
        ∧ (∀ peer m n, c.work = .send peer m n → c.reads = [] → c.awaiting = [] →
            (c.begun = false → c.holes ≠ [] → moved (s.completeCommand k c))
            ∧ (c.begun = false → c.holes = [] → s.sendWaits k peer = true → moved s)
            ∧ (c.begun = false → c.holes = [] → s.sendWaits k peer = false → moved { s with
              outbox := s.outbox ++ [.message peer m ((List.range n).map fun i => Sparse.get 0 c.buf i)]
              cmds := Sparse.set none s.cmds k (some { c with begun := true }) })
            ∧ (c.begun = true → moved (s.completeCommand k (c.meet
                (match e with
                  | .acked => 0
                  | .nak => 6
                  | .failed => 5)))))
        ∧ (∀ x, c.work = .publish x → moved (if c.ended.isSome then s.completeCommand k c else s.beginPublish k x))
        ∧ (c.work = .launch → moved (if c.ended.isSome then s.completeCommand k c else s)))
    ∧ (s.armed tag = none → exec (.messageArrival tag payload) s = .next { s with outbox := s.outbox ++ [.transportNak tag] })
    ∧ (∀ i a, s.armed tag = some (i, a) → ∃ c : Command, exec (.messageArrival tag payload) s = .next { s with
          cmds := Sparse.set none s.cmds s.nextCmd (some c), nextCmd := s.nextCmd + 1 }
        ∧ c.work = .arrive tag payload ∧ c.group = 0 ∧ c.req.ctx = a.ctx ∧ c.req.grant = a.grant))
    ∧ (∀ (s : State) (op : BitVec 16) (o : SaveOp) (g : Group), s.saveOp op = some o → s.group o.group = some g →
    let completed (t : State) (status : Nat) (ctx : BitVec 20) (length : Nat) : Prop :=
      t.fw.saves = s.fw.saves.filter (fun p => p.op != o.op)
        ∧ ∃ e : FwEntry, t.fwQueue o.die = s.fwQueue o.die ++ [e] ∧ e.kind = (if o.restore then 3 else 2) ∧ e.op = o.op
          ∧ e.status = BitVec.ofNat 8 status ∧ e.ctx = ctx.setWidth 32 ∧ e.offset = BitVec.ofNat 64 length
    let refused (status : Nat) : Prop := ∃ t : State, exec (.restoreDone op) s = .next t ∧ completed t status g.ctx 0 ∧ t.groups = s.groups
    let waits := o.asked.isSome || o.retryAt.isSome || decide (1024 ≤ (s.fwQueue o.die).length)
    let d := s.ctxOf g.ctx
    (o.restore = true ∨ waits = true → exec (.saveDone op) s = .next s)
    ∧ (o.restore = false ∨ waits = true → exec (.restoreDone op) s = .next s)
    ∧ (o.restore = false → waits = false →
        ((g.state = .done ∨ g.state = .halted) → ∃ t : State, exec (.saveDone op) s = .next t ∧ completed t 1 g.ctx 0 ∧ t.groups = s.groups)
        ∧ (g.state ≠ .done → g.state ≠ .halted → s.stopped o.group g = false → exec (.saveDone op) s = .next s)
        ∧ (g.state = .idle → g.pending = [] → s.stopped o.group g = true → ∀ t ok, s.saveGroup o.group o.stay = (t, ok) →
            (ok = false → exec (.saveDone op) s = .next t)
            ∧ (ok = true → ∃ g' : Group, t.group o.group = some g' ∧ g'.state = .saved ∧ g'.savedFrom = .idle
                ∧ (o.stay = true → exec (.saveDone op) s = .next (t.endSave o 0 g.ctx 0))
                ∧ (o.stay = false → d.prot = false →
                    let i := t.imageOf o.group g' o.compressed (s.savedStash o.group g o.stash) 0
                    exec (.saveDone op) s = .next ((t.putPlace o.die o.place (i.1.bytes ++ i.2)).endSave o 0 g.ctx i.1.length))
                ∧ (o.stay = false → d.prot = true → ∃ u : State, exec (.saveDone op) s = .next u
                    ∧ (u.ctxOf g.ctx).counter = d.counter + 1
                    ∧ ∃ e ∈ u.trust.seals, e.ctx = g.ctx ∧ e.object = BitVec.ofNat 28 o.group ∧ e.counter = d.counter + 1))))
    ∧ (o.restore = true → waits = false →
        (g.state ≠ .saved → refused 1)
        ∧ (g.state = .saved → o.stay = true → exec (.restoreDone op) s = .next (s.resume o g))
        ∧ (g.state = .saved → o.stay = false → parseHead (s.placeBytes o.die o.place 64) = none → refused 1)
        ∧ (∀ i, g.state = .saved → o.stay = false → parseHead (s.placeBytes o.die o.place 64) = some i →
            let k := s.keySlot d.slot.toNat
            let own := s.savedStash o.group g true
            let entry := s.trust.seals.find? fun e => e.object.toNat == o.group && e.ctx == g.ctx && e.counter == i.counter
            let gen := (entry.map Seal.gen).getD 0
            let held := !k.destroyed && (k.gen == gen || (k.prev.map Prod.fst) == some gen)
            let fits : Prop := i.object = o.group ∧ i.ctx = g.ctx.toNat ∧ i.sealed = d.prot ∧ (i.sealed = true → i.chip = s.fab.self.toNat)
              ∧ 64 + (if i.sealed then 16 else 0) ≤ i.length ∧ i.length < 2 ^ 32 ∧ placeOk o.place i.length = true
              ∧ (i.withStash = true → own.isSome = true)
            let opened := i.open (subkeys (k.keyOfGen gen) k.ctx gen).saveSeal ((s.placeBytes o.die o.place i.length).drop 64)
            (¬ fits → refused 1)
            ∧ (fits → i.sealed = true → entry = none → refused 4)
            ∧ (fits → i.sealed = true → entry ≠ none → (opened = none ∨ held = false) → refused 5)
            ∧ (fits → (i.sealed = true → entry ≠ none ∧ held = true) → ∀ body, opened = some body →
                let parts := i.parts g d.prot ((own.map Block.alloc).getD 0) body
                (parts = none → refused 1)
                ∧ (∀ p, parts = some p →
                    (∀ t, s.mayStore o.group g (List.range g.ctxLines) = some t → exec (.restoreDone op) s = .next t)
                    ∧ (s.mayStore o.group g (List.range g.ctxLines) = none → ∃ (t : State) (g' : Group), exec (.restoreDone op) s = .next t
                        ∧ completed t 0 g'.ctx i.length ∧ t.group o.group = some g' ∧ g'.state = .released ∧ g'.present = []
                        ∧ ∀ e ∈ t.trust.seals, e.object.toNat ≠ o.group)))))
    ∧ (∀ p, (s.fw.saves.find? fun p => p.group == o.group) = some p →
        (p.retryAt = none → exec (.saveRetry o.group) s = .next s)
        ∧ (∀ tick, p.retryAt = some tick → (s.tickOf p.die).toNat < tick.toNat → exec (.saveRetry o.group) s = .next s)
        ∧ (∀ tick, p.retryAt = some tick → p.restore = false → s.stopped p.group g = false → exec (.saveRetry o.group) s = .next s)
        ∧ (∀ tick, p.retryAt = some tick → tick.toNat ≤ (s.tickOf p.die).toNat → (p.restore = true ∨ s.stopped p.group g = true) →
            g.pending = [] → ∃ t : State, exec (.saveRetry o.group) s = .next t ∧ t.host.svcNext = s.host.svcNext + 1 ∧ t.groups = s.groups
              ∧ t.fw.saves = s.fw.saves.map fun q => if q.op == p.op then { q with asked := some s.host.svcNext, retryAt := none } else q)))

namespace Sys2Proof.Claims

open Sys2Proof.Machine

noncomputable section

/-! ### Conversions (16 R295-R298) -/

/-- The element that visible lane l contributes to a block, in copy q: its value, or +0 outside Active() (16 R296). -/
def contributed (g : Group) (sl : List Nat) (c a q l : Nat) : Machine.Num :=
  if g.isActive sl l then readType c (g.rv a (g.physLane l + q)).toNat else .fin false 0 0

/-- The block that set k of sixteen lanes forms, with its flags. -/
def formed (g : Group) (sl : List Nat) (t c a q k : Nat) : Nat × BitVec 6 :=
  toBlock ((List.range 16).map fun i => contributed g sl c a q (16 * k + i)) (blockM t)

/-- The block that set k of sixteen lanes holds in its first words: a word of a lane outside Active() reads zero (16 R297). -/
def held (g : Group) (sl : List Nat) (c a q k : Nat) : Nat :=
  let word (j : Nat) : Nat := if g.isActive sl (16 * k + j) then (g.rv a (g.physLane (16 * k + j) + q)).toNat else 0
  ((List.range ((blockBytes c + 3) / 4)).map fun j => word j * 2 ^ (32 * j)).sum % 2 ^ (8 * blockBytes c)

/-- The quantization parameters of lane l: the scale, and the zero point (12 R223). -/
def quantOf (g : Group) (a l : Nat) : (Nat × Int) × Int :=
  (affineScale (g.rv (a + 1) l).toNat, ((g.rv (a + 1) l).extractLsb' 8 8).toInt)

/-- The group with pending register lanes and flags of its gang. -/
def pends (g : Group) (sl : List Nat) (vecs : List (Nat × W32)) (fl : BitVec 6) : Group :=
  g.addPending { slices := sl, vecs := vecs, flags := fl }

end

end Sys2Proof.Claims

open Sys2Proof Sys2Proof.Machine Sys2Proof.Claims

/-- 16 R295, R298: the lane-wise conversions leave their results and flags pending.
16 R296, R297: the conversions to and from blocks of sixteen lanes. -/
def Obligations.ConversionResults : Prop :=
  (∀ (s : State) (g : Group) (y : Bool) (t c : BitVec 5) (d a : Fld) (n q : Bool), Issues s g →
    let sl := s.cursor.slices
    let lane (f : Nat → W32 × BitVec 6) : Group :=
      pends g sl ((g.active sl).map fun l => (g.vkey d.toNat l, (f l).1)) (g.laneFlags sl fun l => (f l).2)
    (t ∉ [8, 9, 10, 12, 13] → c ∉ [8, 9, 10, 12, 13] →
      g.valIn (typeBits t.toNat = 64) d.toNat → g.valIn (typeBits c.toNat = 64) a.toNat →
      let one (l : Nat) : Nat × BitVec 6 :=
        convertTo t.toNat (if n then .rne else g.rm) q (readType c.toNat (g.val (typeBits c.toNat = 64) a.toNat l))
      exec (.fcvt y t d a n q c) s = .next (after s y (pends g sl
        ((g.active sl).flatMap fun l => g.valWrites (typeBits t.toNat = 64) d.toNat l (one l).1) (g.laneFlags sl fun l => (one l).2))))
    ∧ (t ∈ [12, 13] → g.inWindow d.toNat → g.valIn true a.toNat →
        exec (.fcvt y t d a n q 2) s = .next (after s y (lane fun l =>
          let r := quantize (fF32.unpack (g.rv a.toNat l).toNat) (quantOf g a.toNat l).1 (quantOf g a.toNat l).2
            (if t = 12 then -128 else -8) (if t = 12 then 127 else 7)
          (BitVec.ofInt 32 r.1, r.2))))
    ∧ (c ∈ [12, 13] → g.inWindow d.toNat → g.valIn true a.toNat →
        ∃ vecs, exec (.fcvt y 2 d a n q c) s = .next (after s y (pends g sl vecs 0))
          ∧ vecs = (g.active sl).map fun l =>
              let code : Int := if c = 12 then ((g.rv a.toNat l).extractLsb' 0 8).toInt else ((g.rv a.toNat l).extractLsb' 0 4).toInt
              let k : Int := code - (quantOf g a.toNat l).2
              (g.vkey d.toNat l, BitVec.ofNat 32 (fF32.roundTo .rne (decide (k < 0)) ((quantOf g a.toNat l).1.1 * k.natAbs)
                (quantOf g a.toNat l).1.2 false false).1)))
    ∧ (∀ (s : State) (g : Group) (y : Bool) (t c : BitVec 5) (d a : Fld) (n q : Bool), Issues s g →
    g.inWindow d.toNat → g.inWindow a.toNat →
    let sl := s.cursor.slices
    (t ∈ [8, 9, 10] → c ∈ [2, 3, 4] →
      ∃ vecs fl, exec (.fcvt y t d a n q c) s = .next (after s y (pends g sl vecs fl))
        ∧ (∀ e, e ∈ vecs ↔ ∃ p ∈ g.copies, ∃ k, ∃ j < (blockBytes t.toNat + 3) / 4, g.isActive sl (16 * k + j)
            ∧ e = (g.vkey d.toNat (g.physLane (16 * k + j) + p),
                BitVec.ofNat 32 ((formed g sl t.toNat c.toNat a.toNat p k).1 / 2 ^ (32 * j))))
        ∧ ∀ b, fl.getLsbD b = true ↔ ∃ p ∈ g.copies, ∃ k, (∃ i < 16, g.isActive sl (16 * k + i))
            ∧ (formed g sl t.toNat c.toNat a.toNat p k).2.getLsbD b)
    ∧ (c ∈ [8, 9, 10] →
      ∃ vecs, exec (.fcvt y 2 d a n q c) s = .next (after s y (pends g sl vecs 0))
        ∧ ∀ e, e ∈ vecs ↔ ∃ p ∈ g.copies, ∃ k, ∃ i < 16, g.isActive sl (16 * k + i)
            ∧ e = (g.vkey d.toNat (g.physLane (16 * k + i) + p),
                BitVec.ofNat 32 (fromBlock (held g sl c.toNat a.toNat p k) (blockM c.toNat) i))))

/-- 16 R289: the immediate forms of class 3. Their words, with UND for a shift word with one of imm[9:5] set; their results in
the active lanes; no flag, and nothing else of the group changes. -/
def Obligations.LaneImmediateRule : Prop :=
  ∀ (s : State) (g : Group) (y : Bool) (d a : Fld) (i : BitVec 10) (c : BitVec 5), Issues s g →
    let word (m : BitVec 3) (a : Fld) (i : BitVec 10) : W32 :=
      BitVec.ofBool y ++ (3 : BitVec 4) ++ m ++ d ++ a ++ i
    let n : BitVec 10 := (0 : BitVec 5) ++ c
    (∀ e ∈ [((0 : BitVec 3), Instr.vaddi y d a i, fun x : W32 => x + i.signExtend 32), (1, .vandi y d a i, fun x => x &&& i.signExtend 32),
        (2, .vori y d a i, fun x => x ||| i.signExtend 32), (3, .vxori y d a i, fun x => x ^^^ i.signExtend 32)],
      decode (word e.1 a i) = some e.2.1 ∧ (g.inWindow d.toNat → g.inWindow a.toNat →
        ∃ g' : Group, exec e.2.1 s = .next (after s y g') ∧ LaneWrite g g' s.cursor.slices d.toNat fun l => e.2.2 (g.rv a.toNat l)))
    ∧ (∀ e ∈ [((4 : BitVec 3), Instr.vshli y d a c, fun x : W32 => x <<< c.toNat), (5, .vshriN y d a c, fun x => x >>> c.toNat),
        (6, .vshriI y d a c, fun x => x.sshiftRight c.toNat)],
      decode (word e.1 a n) = some e.2.1 ∧ (i.extractLsb' 5 5 ≠ 0 → decode (word e.1 a i) = none)
        ∧ (g.inWindow d.toNat → g.inWindow a.toNat →
          ∃ g' : Group, exec e.2.1 s = .next (after s y g') ∧ LaneWrite g g' s.cursor.slices d.toNat fun l => e.2.2 (g.rv a.toNat l)))
    ∧ decode (word 7 0 i) = some (.vmovi y d i) ∧ (g.inWindow d.toNat →
        ∃ g' : Group, exec (.vmovi y d i) s = .next (after s y g') ∧ LaneWrite g g' s.cursor.slices d.toNat fun _ => i.signExtend 32)

/-- Every well-formed instruction that has a word is the one that its word decodes to: no bit of an encoding is dropped. -/
def Obligations.EncodeThenDecode : Prop :=
  ∀ (i : Instr) (w : W32), i.wf = true → encode i = some w → decode w = some i

/-- 14 R246, R260: a word that decodes gives a well-formed instruction, and is that instruction's word: no two words, and no
reserved bit, are read alike. -/
def Obligations.DecodeThenEncode : Prop :=
  ∀ (i : Instr) (w : W32), decode w = some i → i.wf = true ∧ encode i = some w

/-- Words that the manual writes out, with the instructions that they stand for, and words that it excludes. -/
def Obligations.WrittenWordsDecode : Prop :=
  decode 0xC205 = some (.sadd false 3 4 5) ∧ decode 0x08060FFF = some (.saddi false 3 3 0x3FF)
    ∧ decode 0x1000C205 = some (.vadd false 3 4 5) ∧ decode 0x18080064 = some (.vaddi false 4 0 100)
    ∧ decode 0x29004103 = some (.hadd2F16 false 1 2 3) ∧ decode 0x2CA081A2 = some (.fcvt false 5 2 3 false true 2)
    ∧ decode 0x3DC50500 = some (.voteAny false 20 10) ∧ decode 0x44820104 = some (.ldx false 2 8 2 4)
    ∧ decode 0x4BA19602 = some (.atomCas false 1 6 1 1 4 2) ∧ decode 0x5A278000 = some (.bclose false 30)
    ∧ decode 0x5900C114 = some (.cpy false 3 2 20) ∧ decode 0x68200A16 = some (.wait false 20 22)
    ∧ decode 0x7024_0004 = some (.sli false 9 4) ∧ decode 0x7A010286 = some (.pwleaf false 4 5 6)
    ∧ decode 0x7C00002A = some (.trap false 42) ∧ decode 0x7C000100 = none ∧ decode 0x68A00001 = none

/-! ### The machine -/

/-- A step with nothing from outside and nothing due: the gang whose turn it is fetches, its pointers move past it, and `exec`
runs the decoded instruction; a word that does not decode raises UND, and with context lines absent the gang parks. The order
in which the ports take their turns, and that free values are fresh, are the model's (logs 2 and 3).
That a register-miss park moves no issue pointer is the model's choice (log 50). -/
def Obligations.StepRunsTheDecodedInstruction : Prop :=
  ∀ (s s1 : State) (g g1 : Group) (t : Turn) (w : W32),
    let u := s.fresh
    u.pkg.tripped = false → u.agenda = [] → u.untidy = false → u.firstDue u.candidates = none → u.nextTurn = some t →
    u.group t.group = some g →
    ({ u with cursor := g.cursorOf t } : State).fetch t.group g (g.cursorOf t).slices (g.cursorOf t).pc = (s1, some w) →
    s1.group t.group = some g1 → s1.cursor = g.cursorOf t →
      (∀ i, decode w = some i → g1.absent (g1.needs s1.cursor.slices i) = [] → step s = exec i (s1.starts t))
      ∧ (∀ i, decode w = some i → g1.absent (g1.needs s1.cursor.slices i) ≠ [] →
          let asks : Group := { g1 with askedAt := if g1.filling = [] then s1.serial else g1.askedAt }
          step s = .next (s1.putGroup t.group ((asks.askLines (g1.absent (g1.needs s1.cursor.slices i))).mapSlices
            (fun _ sl => sl.parkAt .registerMiss 0 0) s1.cursor.slices)))
      ∧ (decode w = none → ∃ g2 : Group, (s1.starts t).group t.group = some g2 ∧ step s = (s1.starts t).trapHere g2 .und)

/-- What comes before an issue: while the chip is tripped, of what arrives only a power-on or a cold reset happens, and nothing
when nothing arrives; else the oldest happening from outside; else what follows from the last step, then what is due inside; and
with nothing to issue, one tick passes. The order among these is the model's (logs 1 and 2).
That a quiet step counts one tick, and that happenings are dropped while the chip is tripped, are the model's choices
(logs 48 and 63). -/
def Obligations.StepOrder : Prop :=
  ∀ (s : State),
    let u := s.fresh
    u = { s with free := s.free + 1 }
    ∧ (s.pkg.tripped = true → s.agenda = [] → step s = .fault .clocksGated)
    ∧ (∀ i rest, s.agenda = i :: rest →
        (s.pkg.tripped = true → endsTrip i = false → step s = .next { u with agenda := rest })
        ∧ (s.pkg.tripped = false ∨ endsTrip i = true → step s = exec i { u with agenda := rest }))
    ∧ (s.pkg.tripped = false → s.agenda = [] →
        (u.untidy = true → step s = .next u.tidy)
        ∧ (u.untidy = false →
            (∀ t, u.firstDue u.candidates = some t → step s = .next t)
            ∧ (u.firstDue u.candidates = none → u.nextTurn = none → step s = .next u.ticked
                ∧ ∀ d < 4, u.ticked.tickOf d = if s.dieRuns d then s.tickOf d + 1 else s.tickOf d)))

/-- 08 R128: the gang that issues is ready, of a resident group in a slot of a running core; it is the first ready gang of its
group at or after the gang pointer, with wrap; and issuing it moves the pointers past it. -/
def Obligations.ReadyGangsTakeTurns : Prop :=
  ∀ (s : State) (t : Turn), s.nextTurn = some t →
    ∃ g c, s.group t.group = some g ∧ (t.core, c) ∈ s.cores ∧ (32 * t.port + t.slot, some t.group) ∈ c.slots
      ∧ c.parked = false ∧ s.dieRuns (dieOf t.core) = true ∧ g.state = .resident ∧ s.saving t.group = false
      ∧ g.gang t.gang ≠ [] ∧ (g.gang t.gang).Nodup ∧ g.gangReady t.gang = true
      ∧ (∀ i ∈ g.gang t.gang, i < 24 ∧ (g.slice i).state = .ready)
      ∧ (∀ i ∈ g.live, g.gangReady (g.slice i).gang = true →
          if g.gangPtr ≤ t.gang then (g.slice i).gang < g.gangPtr ∨ t.gang ≤ (g.slice i).gang
          else (g.slice i).gang < g.gangPtr ∧ t.gang ≤ (g.slice i).gang)
      ∧ ∃ g' : Group, (s.starts t).group t.group = some g' ∧ g'.gangPtr = (t.gang + 1) % 24
        ∧ g' = { g with gangPtr := g'.gangPtr, lastIssue := g'.lastIssue, issued := true, joinSince := g'.joinSince }

/-- 13 R230 row 1, 14 R246, 03 R61: a fetch that the code capability does not allow raises IFETCH; firmware reads its word from
its region, little-endian; another group's word is that of its one answered piece, and a denied piece reads zero.
The base of the PC and what a refused fetch raises are the model's (logs 97 and 50). -/
def Obligations.FetchReadsTheWord : Prop :=
  ∀ (s : State) (h : Nat) (g : Group) (sl : List Nat) (pc : W64),
    (¬(g.code.tag = true ∧ g.code.has rX = true ∧ pc.toNat % 4 = 0 ∧ g.code.base.toNat ≤ pc.toNat
        ∧ pc.toNat + 4 ≤ g.code.base.toNat + g.code.length.toNat) →
      s.fetch h g sl pc = (s.raise h g sl pc (g.gangTrap sl Cause.ifetch.code 0 pc), none))
    ∧ (g.mayFetch pc = true → g.privileged = true →
        s.fetch h g sl pc = (s, some (BitVec.ofNat 32 (leNat (s.fwBytes (dieOf g.core) pc.toNat 4)))))
    ∧ (g.mayFetch pc = true → g.privileged = false → g.fetched = [] →
        let r := s.access h g .fetch 0 0 false (fetchPieces g sl pc (s.fetchLast g))
        ((∀ p ∈ r.2.1, p.status = 0) → ∀ p ps, r.2.1 = p :: ps → p.length = 4 → s.fetch h g sl pc = (r.1, some (BitVec.ofNat 32 p.value)))
        ∧ ((∀ p ∈ r.2.1, p.status = 1) → ∀ p ps, r.2.1 = p :: ps → p.length = 4 → s.fetch h g sl pc = (r.1, some 0))
        ∧ ((∃ p ∈ r.2.1, p.status = 0xFF) → ∃ o, s.fetch h g sl pc = (r.1.putGroup h { g with memOps := g.memOps ++ [o] }, none) ∧ o.pc = pc
              ∧ o.slices = sl ∧ o.pieces = r.2.1)
        ∧ ((∃ p ∈ r.2.1, p.status = 3) → (∀ p ∈ r.2.1, p.status ≠ 0xFF ∧ p.status ≠ 2) → ∃ u : Group, u = g.endRefusal sl ∧
            s.fetch h g sl pc = (r.1.raise h u sl pc (u.gangTrap sl Cause.ifetch.code 0 pc), none)))

/-- 01 R16, 03 R57: after the power-on reset everything is cleared: no die runs, firmware is not running, no group exists, no
memory byte is listed, and a byte of memory reads zero; a step goes on.
That such a byte reads zero is the model's choice (log 7). -/
def Obligations.ResetLeavesNothing : Prop :=
  State.reset.mem.bytes = [] ∧ Memory.wf State.reset.mem.bytes = true ∧ (∀ a, Sparse.get 0 State.reset.mem.bytes a = 0)
    ∧ (∀ h, State.reset.group h = none) ∧ (∀ d < 4, State.reset.dieRuns d = false ∧ State.reset.tickOf d = 0)
    ∧ State.reset.fw.state = 0 ∧ State.reset.pkg.tripped = false ∧ ∃ t, step State.reset = .next t

/-- Every step keeps the canonical form of memory: addresses strictly rising, and no listed byte zero.
That an unlisted byte is zero is the model's choice (log 7). -/
def Obligations.StepsKeepMemoryCanonical : Prop :=
  ∀ (s t : State), Memory.wf s.mem.bytes = true → step s = .next t → Memory.wf t.mem.bytes = true

/-- Every instruction of every gang that exists, and every happening, gives a next state: ordinary data never stop the chip.
A step with nothing from outside goes on, unless the chip is tripped: no state of it is stuck.
That a happening whose precondition fails changes nothing is the model's choice (log 1). -/
def Obligations.TheChipGoesOn : Prop :=
  (∀ (i : Instr) (s : State) (g : Group), s.group s.cursor.group = some g → ∃ t, exec i s = .next t)
    ∧ (∀ (s : State), s.pkg.tripped = false → s.agenda = [] → ∃ t, step s = .next t)
end

