-- ==== Sys2Proof/Laws/Decode.lean ====
section
/-! SUPPORT. What the fields of a packed word read back as, format by format (14 R246). -/

namespace Sys2Proof

/-- Bits above the low part of an append are bits of its high part. -/
theorem extract_high {v w : Nat} (x : BitVec v) (y : BitVec w) (n k : Nat) (h : n = w + k) (len : Nat) :
    (x ++ y).extractLsb' n len = x.extractLsb' k len := by
  subst h
  rw [BitVec.extractLsb'_append_eq_of_le (Nat.le_add_right _ _), Nat.add_sub_cancel_left]

/-- Bits within the low part of an append. -/
theorem extract_low {v w : Nat} (x : BitVec v) (y : BitVec w) (n len : Nat) (h : n + len ≤ w) :
    (x ++ y).extractLsb' n len = y.extractLsb' n len := BitVec.extractLsb'_append_eq_of_add_le h

/-- The top bit of an append whose high part is one bit. -/
theorem top_of_append (y : Bool) {w : Nat} (x : BitVec w) : (BitVec.ofBool y ++ x).getLsbD w = y := by
  simp [BitVec.getLsbD_append, -BitVec.getLsbD_eq_getElem]

@[simp] theorem wordY_packR (y c m d a b) : wordY (packR y c m d a b) = y := top_of_append y (c ++ (m ++ (d ++ (a ++ b))))

@[simp] theorem wordClass_packR (y c m d a b) : wordClass (packR y c m d a b) = c :=
  ((extract_low (BitVec.ofBool y) (c ++ (m ++ (d ++ (a ++ b)))) 27 4 (by decide)).trans (extract_high c (m ++ (d ++ (a ++ b))) 27 0 rfl 4)).trans BitVec.extractLsb'_eq_self

@[simp] theorem wordMinor_packR (y c m d a b) : wordMinor (packR y c m d a b) = m :=
  (((extract_low (BitVec.ofBool y) (c ++ (m ++ (d ++ (a ++ b)))) 21 6 (by decide)).trans (extract_low c (m ++ (d ++ (a ++ b))) 21 6 (by decide))).trans (extract_high m (d ++ (a ++ b)) 21 0 rfl 6)).trans BitVec.extractLsb'_eq_self

@[simp] theorem wordD_packR (y c m d a b) : wordD (packR y c m d a b) = d :=
  ((((extract_low (BitVec.ofBool y) (c ++ (m ++ (d ++ (a ++ b)))) 14 7 (by decide)).trans (extract_low c (m ++ (d ++ (a ++ b))) 14 7 (by decide))).trans (extract_low m (d ++ (a ++ b)) 14 7 (by decide))).trans (extract_high d (a ++ b) 14 0 rfl 7)).trans BitVec.extractLsb'_eq_self

@[simp] theorem wordA_packR (y c m d a b) : wordA (packR y c m d a b) = a :=
  (((((extract_low (BitVec.ofBool y) (c ++ (m ++ (d ++ (a ++ b)))) 7 7 (by decide)).trans (extract_low c (m ++ (d ++ (a ++ b))) 7 7 (by decide))).trans (extract_low m (d ++ (a ++ b)) 7 7 (by decide))).trans (extract_low d (a ++ b) 7 7 (by decide))).trans (extract_high a b 7 0 rfl 7)).trans BitVec.extractLsb'_eq_self

@[simp] theorem wordB_packR (y c m d a b) : wordB (packR y c m d a b) = b :=
  (((((extract_low (BitVec.ofBool y) (c ++ (m ++ (d ++ (a ++ b)))) 0 7 (by decide)).trans (extract_low c (m ++ (d ++ (a ++ b))) 0 7 (by decide))).trans (extract_low m (d ++ (a ++ b)) 0 7 (by decide))).trans (extract_low d (a ++ b) 0 7 (by decide))).trans (extract_low a b 0 7 (by decide))).trans BitVec.extractLsb'_eq_self

@[simp] theorem wordY_packI (y c m d a i) : wordY (packI y c m d a i) = y := top_of_append y (c ++ (m ++ (d ++ (a ++ i))))

@[simp] theorem wordClass_packI (y c m d a i) : wordClass (packI y c m d a i) = c :=
  ((extract_low (BitVec.ofBool y) (c ++ (m ++ (d ++ (a ++ i)))) 27 4 (by decide)).trans (extract_high c (m ++ (d ++ (a ++ i))) 27 0 rfl 4)).trans BitVec.extractLsb'_eq_self

@[simp] theorem wordMinor3_packI (y c m d a i) : wordMinor3 (packI y c m d a i) = m :=
  (((extract_low (BitVec.ofBool y) (c ++ (m ++ (d ++ (a ++ i)))) 24 3 (by decide)).trans (extract_low c (m ++ (d ++ (a ++ i))) 24 3 (by decide))).trans (extract_high m (d ++ (a ++ i)) 24 0 rfl 3)).trans BitVec.extractLsb'_eq_self

@[simp] theorem wordDI_packI (y c m d a i) : wordDI (packI y c m d a i) = d :=
  ((((extract_low (BitVec.ofBool y) (c ++ (m ++ (d ++ (a ++ i)))) 17 7 (by decide)).trans (extract_low c (m ++ (d ++ (a ++ i))) 17 7 (by decide))).trans (extract_low m (d ++ (a ++ i)) 17 7 (by decide))).trans (extract_high d (a ++ i) 17 0 rfl 7)).trans BitVec.extractLsb'_eq_self

@[simp] theorem wordAI_packI (y c m d a i) : wordAI (packI y c m d a i) = a :=
  (((((extract_low (BitVec.ofBool y) (c ++ (m ++ (d ++ (a ++ i)))) 10 7 (by decide)).trans (extract_low c (m ++ (d ++ (a ++ i))) 10 7 (by decide))).trans (extract_low m (d ++ (a ++ i)) 10 7 (by decide))).trans (extract_low d (a ++ i) 10 7 (by decide))).trans (extract_high a i 10 0 rfl 7)).trans BitVec.extractLsb'_eq_self

@[simp] theorem wordImm10_packI (y c m d a i) : wordImm10 (packI y c m d a i) = i :=
  (((((extract_low (BitVec.ofBool y) (c ++ (m ++ (d ++ (a ++ i)))) 0 10 (by decide)).trans (extract_low c (m ++ (d ++ (a ++ i))) 0 10 (by decide))).trans (extract_low m (d ++ (a ++ i)) 0 10 (by decide))).trans (extract_low d (a ++ i) 0 10 (by decide))).trans (extract_low a i 0 10 (by decide))).trans BitVec.extractLsb'_eq_self

@[simp] theorem wordY_packU (y c m d i) : wordY (packU y c m d i) = y := top_of_append y (c ++ (m ++ (d ++ i)))

@[simp] theorem wordClass_packU (y c m d i) : wordClass (packU y c m d i) = c :=
  ((extract_low (BitVec.ofBool y) (c ++ (m ++ (d ++ i))) 27 4 (by decide)).trans (extract_high c (m ++ (d ++ i)) 27 0 rfl 4)).trans BitVec.extractLsb'_eq_self

@[simp] theorem wordMinor2_packU (y c m d i) : wordMinor2 (packU y c m d i) = m :=
  (((extract_low (BitVec.ofBool y) (c ++ (m ++ (d ++ i))) 25 2 (by decide)).trans (extract_low c (m ++ (d ++ i)) 25 2 (by decide))).trans (extract_high m (d ++ i) 25 0 rfl 2)).trans BitVec.extractLsb'_eq_self

@[simp] theorem wordDU_packU (y c m d i) : wordDU (packU y c m d i) = d :=
  ((((extract_low (BitVec.ofBool y) (c ++ (m ++ (d ++ i))) 18 7 (by decide)).trans (extract_low c (m ++ (d ++ i)) 18 7 (by decide))).trans (extract_low m (d ++ i) 18 7 (by decide))).trans (extract_high d i 18 0 rfl 7)).trans BitVec.extractLsb'_eq_self

@[simp] theorem wordImm18_packU (y c m d i) : wordImm18 (packU y c m d i) = i :=
  ((((extract_low (BitVec.ofBool y) (c ++ (m ++ (d ++ i))) 0 18 (by decide)).trans (extract_low c (m ++ (d ++ i)) 0 18 (by decide))).trans (extract_low m (d ++ i) 0 18 (by decide))).trans (extract_low d i 0 18 (by decide))).trans BitVec.extractLsb'_eq_self

@[simp] theorem wordY_packB (y c m d o) : wordY (packB y c m d o) = y := top_of_append y (c ++ (m ++ (d ++ o)))

@[simp] theorem wordClass_packB (y c m d o) : wordClass (packB y c m d o) = c :=
  ((extract_low (BitVec.ofBool y) (c ++ (m ++ (d ++ o))) 27 4 (by decide)).trans (extract_high c (m ++ (d ++ o)) 27 0 rfl 4)).trans BitVec.extractLsb'_eq_self

@[simp] theorem wordMinor3_packB (y c m d o) : wordMinor3 (packB y c m d o) = m :=
  (((extract_low (BitVec.ofBool y) (c ++ (m ++ (d ++ o))) 24 3 (by decide)).trans (extract_low c (m ++ (d ++ o)) 24 3 (by decide))).trans (extract_high m (d ++ o) 24 0 rfl 3)).trans BitVec.extractLsb'_eq_self

@[simp] theorem wordDI_packB (y c m d o) : wordDI (packB y c m d o) = d :=
  ((((extract_low (BitVec.ofBool y) (c ++ (m ++ (d ++ o))) 17 7 (by decide)).trans (extract_low c (m ++ (d ++ o)) 17 7 (by decide))).trans (extract_low m (d ++ o) 17 7 (by decide))).trans (extract_high d o 17 0 rfl 7)).trans BitVec.extractLsb'_eq_self

@[simp] theorem wordOff_packB (y c m d o) : wordOff (packB y c m d o) = o :=
  ((((extract_low (BitVec.ofBool y) (c ++ (m ++ (d ++ o))) 0 17 (by decide)).trans (extract_low c (m ++ (d ++ o)) 0 17 (by decide))).trans (extract_low m (d ++ o) 0 17 (by decide))).trans (extract_low d o 0 17 (by decide))).trans BitVec.extractLsb'_eq_self

/-- The width of a format M word stands above its op. -/
theorem width_of_minor (w : BitVec 2) (o : BitVec 4) : (w ++ o).extractLsb' 4 2 = w :=
  (extract_high w o 4 0 rfl 2).trans BitVec.extractLsb'_eq_self

theorem op_of_minor (w : BitVec 2) (o : BitVec 4) : (w ++ o).extractLsb' 0 4 = o :=
  (extract_low w o 0 4 (by decide)).trans BitVec.extractLsb'_eq_self

end Sys2Proof
end

