-- ==== Sys2Proof/Laws/Exec.lean ====
section
/-! SUPPORT. The dispatch, one equation per constructor: a proof about an instruction rewrites with its equation. -/

namespace Sys2Proof.Machine

theorem exec_powerOn (railsOk s) : exec (Instr.powerOn railsOk) s = execPowerOn railsOk s := rfl
theorem exec_coldReset (heldTicks s) : exec (Instr.coldReset heldTicks) s = execColdReset heldTicks s := rfl
theorem exec_warmReset (h s) : exec (Instr.warmReset h) s = execWarmReset h s := rfl
theorem exec_bootRomStart (failed s) : exec (Instr.bootRomStart failed) s = execBootRomStart failed s := rfl
theorem exec_powerWindow (watts s) : exec (Instr.powerWindow watts) s = execPowerWindow watts s := rfl
theorem exec_thermalStep (celsius s) : exec (Instr.thermalStep celsius) s = execThermalStep celsius s := rfl
theorem exec_thermalHold (sensor celsius s) : exec (Instr.thermalHold sensor celsius) s = execThermalHold sensor celsius s := rfl
theorem exec_thermtrip (celsius s) : exec (Instr.thermtrip celsius) s = execThermtrip celsius s := rfl
theorem exec_hostModuleTraining (m s) : exec (Instr.hostModuleTraining m) s = execHostModuleTraining m s := rfl
theorem exec_submitWrite (h s) : exec (Instr.submitWrite h) s = execSubmitWrite h s := rfl
theorem exec_submitBufferDrain (s) : exec (Instr.submitBufferDrain) s = execSubmitBufferDrain s := rfl
theorem exec_subdropRead (h s) : exec (Instr.subdropRead h) s = execSubdropRead h s := rfl
theorem exec_errlostRead (h s) : exec (Instr.errlostRead h) s = execErrlostRead h s := rfl
theorem exec_errtailWrite (h s) : exec (Instr.errtailWrite h) s = execErrtailWrite h s := rfl
theorem exec_svctailWrite (h s) : exec (Instr.svctailWrite h) s = execSvctailWrite h s := rfl
theorem exec_pmodeWrite (h s) : exec (Instr.pmodeWrite h) s = execPmodeWrite h s := rfl
theorem exec_hostRegisterWrite (h s) : exec (Instr.hostRegisterWrite h) s = execHostRegisterWrite h s := rfl
theorem exec_serviceReply (h s) : exec (Instr.serviceReply h) s = execServiceReply h s := rfl
theorem exec_serviceRequest (s) : exec (Instr.serviceRequest) s = execServiceRequest s := rfl
theorem exec_svclate (id s) : exec (Instr.svclate id) s = execSvclate id s := rfl
theorem exec_attest (h s) : exec (Instr.attest h) s = execAttest h s := rfl
theorem exec_loadrun (h s) : exec (Instr.loadrun h) s = execLoadrun h s := rfl
theorem exec_update (h s) : exec (Instr.update h) s = execUpdate h s := rfl
theorem exec_raisemin (h s) : exec (Instr.raisemin h) s = execRaisemin h s := rfl
theorem exec_badCommand (h s) : exec (Instr.badCommand h) s = execBadCommand h s := rfl
theorem exec_kemkey (h s) : exec (Instr.kemkey h) s = execKemkey h s := rfl
theorem exec_ctxopen (h s) : exec (Instr.ctxopen h) s = execCtxopen h s := rfl
theorem exec_keyload (h s) : exec (Instr.keyload h) s = execKeyload h s := rfl
theorem exec_ctxclose (h s) : exec (Instr.ctxclose h) s = execCtxclose h s := rfl
theorem exec_erase (h s) : exec (Instr.erase h) s = execErase h s := rfl
theorem exec_sweep (h s) : exec (Instr.sweep h) s = execSweep h s := rfl
theorem exec_receipt (h s) : exec (Instr.receipt h) s = execReceipt h s := rfl
theorem exec_rekey (h s) : exec (Instr.rekey h) s = execRekey h s := rfl
theorem exec_mailboxComplete (s) : exec (Instr.mailboxComplete) s = execMailboxComplete s := rfl
theorem exec_fwdog (die s) : exec (Instr.fwdog die) s = execFwdog die s := rfl
theorem exec_dieDrop (die s) : exec (Instr.dieDrop die) s = execDieDrop die s := rfl
theorem exec_errorRetry (e s) : exec (Instr.errorRetry e) s = execErrorRetry e s := rfl
theorem exec_dataFrame (port f s) : exec (Instr.dataFrame port f) s = execDataFrame port f s := rfl
theorem exec_idleFrame (port f s) : exec (Instr.idleFrame port f) s = execIdleFrame port f s := rfl
theorem exec_retryRequest (port f s) : exec (Instr.retryRequest port f) s = execRetryRequest port f s := rfl
theorem exec_portRetrain (port s) : exec (Instr.portRetrain port) s = execPortRetrain port s := rfl
theorem exec_portDown (port s) : exec (Instr.portDown port) s = execPortDown port s := rfl
theorem exec_portTrained (port s) : exec (Instr.portTrained port) s = execPortTrained port s := rfl
theorem exec_read (p s) : exec (Instr.read p) s = execRead p s := rfl
theorem exec_write (p s) : exec (Instr.write p) s = execWrite p s := rfl
theorem exec_atomic (p s) : exec (Instr.atomic p) s = execAtomic p s := rfl
theorem exec_cpyput (p s) : exec (Instr.cpyput p) s = execCpyput p s := rfl
theorem exec_task (p s) : exec (Instr.task p) s = execTask p s := rfl
theorem exec_readresp (p s) : exec (Instr.readresp p) s = execReadresp p s := rfl
theorem exec_writeack (p s) : exec (Instr.writeack p) s = execWriteack p s := rfl
theorem exec_atomresp (p s) : exec (Instr.atomresp p) s = execAtomresp p s := rfl
theorem exec_seqack (p s) : exec (Instr.seqack p) s = execSeqack p s := rfl
theorem exec_seqackTimer (k s) : exec (Instr.seqackTimer k) s = execSeqackTimer k s := rfl
theorem exec_pairBreak (k s) : exec (Instr.pairBreak k) s = execPairBreak k s := rfl
theorem exec_mcwrite (p s) : exec (Instr.mcwrite p) s = execMcwrite p s := rfl
theorem exec_mcreply (p s) : exec (Instr.mcreply p) s = execMcreply p s := rfl
theorem exec_redresult (p s) : exec (Instr.redresult p) s = execRedresult p s := rfl
theorem exec_swattest (r s) : exec (Instr.swattest r) s = execSwattest r s := rfl
theorem exec_event (r s) : exec (Instr.event r) s = execEvent r s := rfl
theorem exec_tailFetch (s) : exec (Instr.tailFetch) s = execTailFetch s := rfl
theorem exec_tailRequest (chip id first last s) : exec (Instr.tailRequest chip id first last) s = execTailRequest chip id first last s := rfl
theorem exec_tailData (chip id recs s) : exec (Instr.tailData chip id recs) s = execTailData chip id recs s := rfl
theorem exec_snapshotRequest (chip id opening s) : exec (Instr.snapshotRequest chip id opening) s = execSnapshotRequest chip id opening s := rfl
theorem exec_snapshotData (chip id stream s) : exec (Instr.snapshotData chip id stream) s = execSnapshotData chip id stream s := rfl
theorem exec_notHeld (chip id s) : exec (Instr.notHeld chip id) s = execNotHeld chip id s := rfl
theorem exec_transferTimeout (s) : exec (Instr.transferTimeout) s = execTransferTimeout s := rfl
theorem exec_submit (s) : exec (Instr.submit) s = execSubmit s := rfl
theorem exec_fire (s) : exec (Instr.fire) s = execFire s := rfl
theorem exec_finishBlocksEnded (s) : exec (Instr.finishBlocksEnded) s = execFinishBlocksEnded s := rfl
theorem exec_signalOrDone (grid s) : exec (Instr.signalOrDone grid) s = execSignalOrDone grid s := rfl
theorem exec_finishSignalWritten (s) : exec (Instr.finishSignalWritten) s = execFinishSignalWritten s := rfl
theorem exec_block (s) : exec (Instr.block) s = execBlock s := rfl
theorem exec_resume (s) : exec (Instr.resume) s = execResume s := rfl
theorem exec_release (s) : exec (Instr.release) s = execRelease s := rfl
theorem exec_fault (s) : exec (Instr.fault) s = execFault s := rfl
theorem exec_share (s) : exec (Instr.share) s = execShare s := rfl
theorem exec_loss (s) : exec (Instr.loss) s = execLoss s := rfl
theorem exec_admitChip (s) : exec (Instr.admitChip) s = execAdmitChip s := rfl
theorem exec_expel (s) : exec (Instr.expel) s = execExpel s := rfl
theorem exec_capacity (s) : exec (Instr.capacity) s = execCapacity s := rfl
theorem exec_soundDigest (s) : exec (Instr.soundDigest) s = execSoundDigest s := rfl
theorem exec_soundClose (s) : exec (Instr.soundClose) s = execSoundClose s := rfl
theorem exec_soundVerdict (s) : exec (Instr.soundVerdict) s = execSoundVerdict s := rfl
theorem exec_soundwaitExpiry (s) : exec (Instr.soundwaitExpiry) s = execSoundwaitExpiry s := rfl
theorem exec_expelwaitExpiry (chip s) : exec (Instr.expelwaitExpiry chip) s = execExpelwaitExpiry chip s := rfl
theorem exec_rejoin (s) : exec (Instr.rejoin) s = execRejoin s := rfl
theorem exec_nosnapshot (s) : exec (Instr.nosnapshot) s = execNosnapshot s := rfl
theorem exec_blockStart (part s) : exec (Instr.blockStart part) s = execBlockStart part s := rfl
theorem exec_dormancy (blk s) : exec (Instr.dormancy blk) s = execDormancy blk s := rfl
theorem exec_blockEnd (blk s) : exec (Instr.blockEnd blk) s = execBlockEnd blk s := rfl
theorem exec_taskGroupTimeout (core s) : exec (Instr.taskGroupTimeout core) s = execTaskGroupTimeout core s := rfl
theorem exec_activation (core s) : exec (Instr.activation core) s = execActivation core s := rfl
theorem exec_registerFill (grp s) : exec (Instr.registerFill grp) s = execRegisterFill grp s := rfl
theorem exec_contextFault (grp stage s) : exec (Instr.contextFault grp stage) s = execContextFault grp stage s := rfl
theorem exec_resultWrite (grp s) : exec (Instr.resultWrite grp) s = execResultWrite grp s := rfl
theorem exec_trapDelivery (grp s) : exec (Instr.trapDelivery grp) s = execTrapDelivery grp s := rfl
theorem exec_quiescenceRelease (grp j s) : exec (Instr.quiescenceRelease grp j) s = execQuiescenceRelease grp j s := rfl
theorem exec_waitReread (grp slice s) : exec (Instr.waitReread grp slice) s = execWaitReread grp slice s := rfl
theorem exec_waitDeadline (grp slice s) : exec (Instr.waitDeadline grp slice) s = execWaitDeadline grp slice s := rfl
theorem exec_sleepDeadline (grp slice s) : exec (Instr.sleepDeadline grp slice) s = execSleepDeadline grp slice s := rfl
theorem exec_weirRequest (s) : exec (Instr.weirRequest) s = execWeirRequest s := rfl
theorem exec_walkComplete (object page s) : exec (Instr.walkComplete object page) s = execWalkComplete object page s := rfl
theorem exec_pageFaultWake (object page kind s) : exec (Instr.pageFaultWake object page kind) s = execPageFaultWake object page kind s := rfl
theorem exec_pageFaultRefusal (object page kind s) : exec (Instr.pageFaultRefusal object page kind) s = execPageFaultRefusal object page kind s := rfl
theorem exec_noWakeReplay (grp s) : exec (Instr.noWakeReplay grp) s = execNoWakeReplay grp s := rfl
theorem exec_localtimeout (tag s) : exec (Instr.localtimeout tag) s = execLocaltimeout tag s := rfl
theorem exec_publishComplete (object s) : exec (Instr.publishComplete object) s = execPublishComplete object s := rfl
theorem exec_engineComplete (cmd ended s) : exec (Instr.engineComplete cmd ended) s = execEngineComplete cmd ended s := rfl
theorem exec_messageArrival (tag payload s) : exec (Instr.messageArrival tag payload) s = execMessageArrival tag payload s := rfl
theorem exec_saveDone (op s) : exec (Instr.saveDone op) s = execSaveDone op s := rfl
theorem exec_restoreDone (op s) : exec (Instr.restoreDone op) s = execRestoreDone op s := rfl
theorem exec_saveRetry (grp s) : exec (Instr.saveRetry grp) s = execSaveRetry grp s := rfl
theorem exec_thermalHoldEnd (celsius s) : exec (Instr.thermalHoldEnd celsius) s = execThermalHoldEnd celsius s := rfl
theorem exec_candidateSilence (s) : exec (Instr.candidateSilence) s = execCandidateSilence s := rfl
theorem exec_firmwareReadiness (die s) : exec (Instr.firmwareReadiness die) s = execFirmwareReadiness die s := rfl
theorem exec_sadd (y d a b s) : exec (Instr.sadd y d a b) s = execSadd y d a b s := rfl
theorem exec_ssub (y d a b s) : exec (Instr.ssub y d a b) s = execSsub y d a b s := rfl
theorem exec_smul (y d a b s) : exec (Instr.smul y d a b) s = execSmul y d a b s := rfl
theorem exec_smulhI (y d a b s) : exec (Instr.smulhI y d a b) s = execSmulhI y d a b s := rfl
theorem exec_smulhN (y d a b s) : exec (Instr.smulhN y d a b) s = execSmulhN y d a b s := rfl
theorem exec_sdivI (y d a b s) : exec (Instr.sdivI y d a b) s = execSdivI y d a b s := rfl
theorem exec_sdivN (y d a b s) : exec (Instr.sdivN y d a b) s = execSdivN y d a b s := rfl
theorem exec_sremI (y d a b s) : exec (Instr.sremI y d a b) s = execSremI y d a b s := rfl
theorem exec_sremN (y d a b s) : exec (Instr.sremN y d a b) s = execSremN y d a b s := rfl
theorem exec_sand (y d a b s) : exec (Instr.sand y d a b) s = execSand y d a b s := rfl
theorem exec_sor (y d a b s) : exec (Instr.sor y d a b) s = execSor y d a b s := rfl
theorem exec_sxor (y d a b s) : exec (Instr.sxor y d a b) s = execSxor y d a b s := rfl
theorem exec_sandn (y d a b s) : exec (Instr.sandn y d a b) s = execSandn y d a b s := rfl
theorem exec_sshl (y d a b s) : exec (Instr.sshl y d a b) s = execSshl y d a b s := rfl
theorem exec_sshrN (y d a b s) : exec (Instr.sshrN y d a b) s = execSshrN y d a b s := rfl
theorem exec_sshrI (y d a b s) : exec (Instr.sshrI y d a b) s = execSshrI y d a b s := rfl
theorem exec_sror (y d a b s) : exec (Instr.sror y d a b) s = execSror y d a b s := rfl
theorem exec_sminI (y d a b s) : exec (Instr.sminI y d a b) s = execSminI y d a b s := rfl
theorem exec_sminN (y d a b s) : exec (Instr.sminN y d a b) s = execSminN y d a b s := rfl
theorem exec_smaxI (y d a b s) : exec (Instr.smaxI y d a b) s = execSmaxI y d a b s := rfl
theorem exec_smaxN (y d a b s) : exec (Instr.smaxN y d a b) s = execSmaxN y d a b s := rfl
theorem exec_sseq (y d a b s) : exec (Instr.sseq y d a b) s = execSseq y d a b s := rfl
theorem exec_ssne (y d a b s) : exec (Instr.ssne y d a b) s = execSsne y d a b s := rfl
theorem exec_ssltI (y d a b s) : exec (Instr.ssltI y d a b) s = execSsltI y d a b s := rfl
theorem exec_ssltN (y d a b s) : exec (Instr.ssltN y d a b) s = execSsltN y d a b s := rfl
theorem exec_ssleI (y d a b s) : exec (Instr.ssleI y d a b) s = execSsleI y d a b s := rfl
theorem exec_ssleN (y d a b s) : exec (Instr.ssleN y d a b) s = execSsleN y d a b s := rfl
theorem exec_spopc (y d a s) : exec (Instr.spopc y d a) s = execSpopc y d a s := rfl
theorem exec_sclz (y d a s) : exec (Instr.sclz y d a) s = execSclz y d a s := rfl
theorem exec_sctz (y d a s) : exec (Instr.sctz y d a) s = execSctz y d a s := rfl
theorem exec_slea4 (y d a b s) : exec (Instr.slea4 y d a b) s = execSlea4 y d a b s := rfl
theorem exec_slea8 (y d a b s) : exec (Instr.slea8 y d a b) s = execSlea8 y d a b s := rfl
theorem exec_saddi (y d a im s) : exec (Instr.saddi y d a im) s = execSaddi y d a im s := rfl
theorem exec_sandi (y d a im s) : exec (Instr.sandi y d a im) s = execSandi y d a im s := rfl
theorem exec_sori (y d a im s) : exec (Instr.sori y d a im) s = execSori y d a im s := rfl
theorem exec_sxori (y d a im s) : exec (Instr.sxori y d a im) s = execSxori y d a im s := rfl
theorem exec_sshli (y d a im s) : exec (Instr.sshli y d a im) s = execSshli y d a im s := rfl
theorem exec_sshriN (y d a im s) : exec (Instr.sshriN y d a im) s = execSshriN y d a im s := rfl
theorem exec_sshriI (y d a im s) : exec (Instr.sshriI y d a im) s = execSshriI y d a im s := rfl
theorem exec_ssltiI (y d a im s) : exec (Instr.ssltiI y d a im) s = execSsltiI y d a im s := rfl
theorem exec_vadd (y d a b s) : exec (Instr.vadd y d a b) s = execVadd y d a b s := rfl
theorem exec_vsub (y d a b s) : exec (Instr.vsub y d a b) s = execVsub y d a b s := rfl
theorem exec_vmul (y d a b s) : exec (Instr.vmul y d a b) s = execVmul y d a b s := rfl
theorem exec_vmulhI (y d a b s) : exec (Instr.vmulhI y d a b) s = execVmulhI y d a b s := rfl
theorem exec_vmulhN (y d a b s) : exec (Instr.vmulhN y d a b) s = execVmulhN y d a b s := rfl
theorem exec_vaddsI (y d a b s) : exec (Instr.vaddsI y d a b) s = execVaddsI y d a b s := rfl
theorem exec_vaddsN (y d a b s) : exec (Instr.vaddsN y d a b) s = execVaddsN y d a b s := rfl
theorem exec_vsubsI (y d a b s) : exec (Instr.vsubsI y d a b) s = execVsubsI y d a b s := rfl
theorem exec_vsubsN (y d a b s) : exec (Instr.vsubsN y d a b) s = execVsubsN y d a b s := rfl
theorem exec_vand (y d a b s) : exec (Instr.vand y d a b) s = execVand y d a b s := rfl
theorem exec_vor (y d a b s) : exec (Instr.vor y d a b) s = execVor y d a b s := rfl
theorem exec_vxor (y d a b s) : exec (Instr.vxor y d a b) s = execVxor y d a b s := rfl
theorem exec_vandn (y d a b s) : exec (Instr.vandn y d a b) s = execVandn y d a b s := rfl
theorem exec_vshl (y d a b s) : exec (Instr.vshl y d a b) s = execVshl y d a b s := rfl
theorem exec_vshrN (y d a b s) : exec (Instr.vshrN y d a b) s = execVshrN y d a b s := rfl
theorem exec_vshrI (y d a b s) : exec (Instr.vshrI y d a b) s = execVshrI y d a b s := rfl
theorem exec_vminI (y d a b s) : exec (Instr.vminI y d a b) s = execVminI y d a b s := rfl
theorem exec_vminN (y d a b s) : exec (Instr.vminN y d a b) s = execVminN y d a b s := rfl
theorem exec_vmaxI (y d a b s) : exec (Instr.vmaxI y d a b) s = execVmaxI y d a b s := rfl
theorem exec_vmaxN (y d a b s) : exec (Instr.vmaxN y d a b) s = execVmaxN y d a b s := rfl
theorem exec_vdot4I8 (y d a b s) : exec (Instr.vdot4I8 y d a b) s = execVdot4I8 y d a b s := rfl
theorem exec_vdot4N8 (y d a b s) : exec (Instr.vdot4N8 y d a b) s = execVdot4N8 y d a b s := rfl
theorem exec_vpopc (y d a s) : exec (Instr.vpopc y d a) s = execVpopc y d a s := rfl
theorem exec_vclz (y d a s) : exec (Instr.vclz y d a) s = execVclz y d a s := rfl
theorem exec_vceq (y d a b s) : exec (Instr.vceq y d a b) s = execVceq y d a b s := rfl
theorem exec_vcne (y d a b s) : exec (Instr.vcne y d a b) s = execVcne y d a b s := rfl
theorem exec_vcltI (y d a b s) : exec (Instr.vcltI y d a b) s = execVcltI y d a b s := rfl
theorem exec_vcltN (y d a b s) : exec (Instr.vcltN y d a b) s = execVcltN y d a b s := rfl
theorem exec_vcleI (y d a b s) : exec (Instr.vcleI y d a b) s = execVcleI y d a b s := rfl
theorem exec_vcleN (y d a b s) : exec (Instr.vcleN y d a b) s = execVcleN y d a b s := rfl
theorem exec_vmov (y d a s) : exec (Instr.vmov y d a) s = execVmov y d a s := rfl
theorem exec_vdup (y d a s) : exec (Instr.vdup y d a) s = execVdup y d a s := rfl
theorem exec_vaddI64 (y d a b s) : exec (Instr.vaddI64 y d a b) s = execVaddI64 y d a b s := rfl
theorem exec_vsubI64 (y d a b s) : exec (Instr.vsubI64 y d a b) s = execVsubI64 y d a b s := rfl
theorem exec_vshlI64 (y d a b s) : exec (Instr.vshlI64 y d a b) s = execVshlI64 y d a b s := rfl
theorem exec_vshrN64 (y d a b s) : exec (Instr.vshrN64 y d a b) s = execVshrN64 y d a b s := rfl
theorem exec_vshrI64 (y d a b s) : exec (Instr.vshrI64 y d a b) s = execVshrI64 y d a b s := rfl
theorem exec_vaddi (y d a im s) : exec (Instr.vaddi y d a im) s = execVaddi y d a im s := rfl
theorem exec_vandi (y d a im s) : exec (Instr.vandi y d a im) s = execVandi y d a im s := rfl
theorem exec_vori (y d a im s) : exec (Instr.vori y d a im) s = execVori y d a im s := rfl
theorem exec_vxori (y d a im s) : exec (Instr.vxori y d a im) s = execVxori y d a im s := rfl
theorem exec_vshli (y d a im s) : exec (Instr.vshli y d a im) s = execVshli y d a im s := rfl
theorem exec_vshriN (y d a im s) : exec (Instr.vshriN y d a im) s = execVshriN y d a im s := rfl
theorem exec_vshriI (y d a im s) : exec (Instr.vshriI y d a im) s = execVshriI y d a im s := rfl
theorem exec_vmovi (y d im s) : exec (Instr.vmovi y d im) s = execVmovi y d im s := rfl
theorem exec_fadd (y f d a b s) : exec (Instr.fadd y f d a b) s = execFadd y f d a b s := rfl
theorem exec_fsub (y f d a b s) : exec (Instr.fsub y f d a b) s = execFsub y f d a b s := rfl
theorem exec_fmul (y f d a b s) : exec (Instr.fmul y f d a b) s = execFmul y f d a b s := rfl
theorem exec_ffma (y f d a b s) : exec (Instr.ffma y f d a b) s = execFfma y f d a b s := rfl
theorem exec_ffms (y f d a b s) : exec (Instr.ffms y f d a b) s = execFfms y f d a b s := rfl
theorem exec_fmin (y f d a b s) : exec (Instr.fmin y f d a b) s = execFmin y f d a b s := rfl
theorem exec_fmax (y f d a b s) : exec (Instr.fmax y f d a b) s = execFmax y f d a b s := rfl
theorem exec_fabs (y f d a s) : exec (Instr.fabs y f d a) s = execFabs y f d a s := rfl
theorem exec_fneg (y f d a s) : exec (Instr.fneg y f d a) s = execFneg y f d a s := rfl
theorem exec_fceq (y f d a b s) : exec (Instr.fceq y f d a b) s = execFceq y f d a b s := rfl
theorem exec_fclt (y f d a b s) : exec (Instr.fclt y f d a b) s = execFclt y f d a b s := rfl
theorem exec_fcle (y f d a b s) : exec (Instr.fcle y f d a b) s = execFcle y f d a b s := rfl
theorem exec_fcun (y f d a b s) : exec (Instr.fcun y f d a b) s = execFcun y f d a b s := rfl
theorem exec_fdiv (y f d a b s) : exec (Instr.fdiv y f d a b) s = execFdiv y f d a b s := rfl
theorem exec_fsqrt (y f d a s) : exec (Instr.fsqrt y f d a) s = execFsqrt y f d a s := rfl
theorem exec_frnd (y f d a s) : exec (Instr.frnd y f d a) s = execFrnd y f d a s := rfl
theorem exec_faddRn (y f d a b s) : exec (Instr.faddRn y f d a b) s = execFaddRn y f d a b s := rfl
theorem exec_fsubRn (y f d a b s) : exec (Instr.fsubRn y f d a b) s = execFsubRn y f d a b s := rfl
theorem exec_fmulRn (y f d a b s) : exec (Instr.fmulRn y f d a b) s = execFmulRn y f d a b s := rfl
theorem exec_ffmaRn (y f d a b s) : exec (Instr.ffmaRn y f d a b) s = execFfmaRn y f d a b s := rfl
theorem exec_frcp (y d a s) : exec (Instr.frcp y d a) s = execFrcp y d a s := rfl
theorem exec_frsq (y d a s) : exec (Instr.frsq y d a) s = execFrsq y d a s := rfl
theorem exec_fexp2 (y d a s) : exec (Instr.fexp2 y d a) s = execFexp2 y d a s := rfl
theorem exec_flog2 (y d a s) : exec (Instr.flog2 y d a) s = execFlog2 y d a s := rfl
theorem exec_fsin (y d a s) : exec (Instr.fsin y d a) s = execFsin y d a s := rfl
theorem exec_fcos (y d a s) : exec (Instr.fcos y d a) s = execFcos y d a s := rfl
theorem exec_ftanh (y d a s) : exec (Instr.ftanh y d a) s = execFtanh y d a s := rfl
theorem exec_hadd2F16 (y d a b s) : exec (Instr.hadd2F16 y d a b) s = execHadd2F16 y d a b s := rfl
theorem exec_hmul2F16 (y d a b s) : exec (Instr.hmul2F16 y d a b) s = execHmul2F16 y d a b s := rfl
theorem exec_hfma2F16 (y d a b s) : exec (Instr.hfma2F16 y d a b) s = execHfma2F16 y d a b s := rfl
theorem exec_hadd2Bf16 (y d a b s) : exec (Instr.hadd2Bf16 y d a b) s = execHadd2Bf16 y d a b s := rfl
theorem exec_hmul2Bf16 (y d a b s) : exec (Instr.hmul2Bf16 y d a b) s = execHmul2Bf16 y d a b s := rfl
theorem exec_hfma2Bf16 (y d a b s) : exec (Instr.hfma2Bf16 y d a b) s = execHfma2Bf16 y d a b s := rfl
theorem exec_fcvt (y t d a n s_ c s) : exec (Instr.fcvt y t d a n s_ c) s = execFcvt y t d a n s_ c s := rfl
theorem exec_xshp (y d r c s) : exec (Instr.xshp y d r c) s = execXshp y d r c s := rfl
theorem exec_xzero (y d s) : exec (Instr.xzero y d) s = execXzero y d s := rfl
theorem exec_xidn (y d s) : exec (Instr.xidn y d) s = execXidn y d s := rfl
theorem exec_xld (y f d a b s) : exec (Instr.xld y f d a b) s = execXld y f d a b s := rfl
theorem exec_xst (y f d a b s) : exec (Instr.xst y f d a b) s = execXst y f d a b s := rfl
theorem exec_xget (y f d a im j s) : exec (Instr.xget y f d a im j) s = execXget y f d a im j s := rfl
theorem exec_xput (y f d a im j s) : exec (Instr.xput y f d a im j) s = execXput y f d a im j s := rfl
theorem exec_xmov (y f d a s) : exec (Instr.xmov y f d a) s = execXmov y f d a s := rfl
theorem exec_xtrn (y f d a s) : exec (Instr.xtrn y f d a) s = execXtrn y f d a s := rfl
theorem exec_xadd (y f d a b s) : exec (Instr.xadd y f d a b) s = execXadd y f d a b s := rfl
theorem exec_xsub (y f d a b s) : exec (Instr.xsub y f d a b) s = execXsub y f d a b s := rfl
theorem exec_xscl (y f d a b s) : exec (Instr.xscl y f d a b) s = execXscl y f d a b s := rfl
theorem exec_xmul (y f d a b s) : exec (Instr.xmul y f d a b) s = execXmul y f d a b s := rfl
theorem exec_xmad (y f d a b s) : exec (Instr.xmad y f d a b) s = execXmad y f d a b s := rfl
theorem exec_xmult (y f d a b s) : exec (Instr.xmult y f d a b) s = execXmult y f d a b s := rfl
theorem exec_xmv (y f d a b s) : exec (Instr.xmv y f d a b) s = execXmv y f d a b s := rfl
theorem exec_xchol (y f d a s) : exec (Instr.xchol y f d a) s = execXchol y f d a s := rfl
theorem exec_xlup (y f d a s) : exec (Instr.xlup y f d a) s = execXlup y f d a s := rfl
theorem exec_xsolv (y f d a b s) : exec (Instr.xsolv y f d a b) s = execXsolv y f d a b s := rfl
theorem exec_xinv (y f d a s) : exec (Instr.xinv y f d a) s = execXinv y f d a s := rfl
theorem exec_xdet (y f d a s) : exec (Instr.xdet y f d a) s = execXdet y f d a s := rfl
theorem exec_xflag (y d s) : exec (Instr.xflag y d) s = execXflag y d s := rfl
theorem exec_mand (y d a b s) : exec (Instr.mand y d a b) s = execMand y d a b s := rfl
theorem exec_mor (y d a b s) : exec (Instr.mor y d a b) s = execMor y d a b s := rfl
theorem exec_mxor (y d a b s) : exec (Instr.mxor y d a b) s = execMxor y d a b s := rfl
theorem exec_mandn (y d a b s) : exec (Instr.mandn y d a b) s = execMandn y d a b s := rfl
theorem exec_mnot (y d a s) : exec (Instr.mnot y d a) s = execMnot y d a s := rfl
theorem exec_mmov (y d a s) : exec (Instr.mmov y d a) s = execMmov y d a s := rfl
theorem exec_mpopc (y d a s) : exec (Instr.mpopc y d a) s = execMpopc y d a s := rfl
theorem exec_mfirst (y d a s) : exec (Instr.mfirst y d a) s = execMfirst y d a s := rfl
theorem exec_mswap (y d a s) : exec (Instr.mswap y d a) s = execMswap y d a s := rfl
theorem exec_mfromv (y d a s) : exec (Instr.mfromv y d a) s = execMfromv y d a s := rfl
theorem exec_mtov (y d a s) : exec (Instr.mtov y d a) s = execMtov y d a s := rfl
theorem exec_shflIdxW4 (y d a b s) : exec (Instr.shflIdxW4 y d a b) s = execShflIdxW4 y d a b s := rfl
theorem exec_shflIdxW8 (y d a b s) : exec (Instr.shflIdxW8 y d a b) s = execShflIdxW8 y d a b s := rfl
theorem exec_shflIdxW16 (y d a b s) : exec (Instr.shflIdxW16 y d a b) s = execShflIdxW16 y d a b s := rfl
theorem exec_shflIdxW32 (y d a b s) : exec (Instr.shflIdxW32 y d a b) s = execShflIdxW32 y d a b s := rfl
theorem exec_shflIdxW64 (y d a b s) : exec (Instr.shflIdxW64 y d a b) s = execShflIdxW64 y d a b s := rfl
theorem exec_shflIdxW96 (y d a b s) : exec (Instr.shflIdxW96 y d a b) s = execShflIdxW96 y d a b s := rfl
theorem exec_shflXorW4 (y d a b s) : exec (Instr.shflXorW4 y d a b) s = execShflXorW4 y d a b s := rfl
theorem exec_shflXorW8 (y d a b s) : exec (Instr.shflXorW8 y d a b) s = execShflXorW8 y d a b s := rfl
theorem exec_shflXorW16 (y d a b s) : exec (Instr.shflXorW16 y d a b) s = execShflXorW16 y d a b s := rfl
theorem exec_shflXorW32 (y d a b s) : exec (Instr.shflXorW32 y d a b) s = execShflXorW32 y d a b s := rfl
theorem exec_shflXorW64 (y d a b s) : exec (Instr.shflXorW64 y d a b) s = execShflXorW64 y d a b s := rfl
theorem exec_shflXorW96 (y d a b s) : exec (Instr.shflXorW96 y d a b) s = execShflXorW96 y d a b s := rfl
theorem exec_shflUpW4 (y d a b s) : exec (Instr.shflUpW4 y d a b) s = execShflUpW4 y d a b s := rfl
theorem exec_shflUpW8 (y d a b s) : exec (Instr.shflUpW8 y d a b) s = execShflUpW8 y d a b s := rfl
theorem exec_shflUpW16 (y d a b s) : exec (Instr.shflUpW16 y d a b) s = execShflUpW16 y d a b s := rfl
theorem exec_shflUpW32 (y d a b s) : exec (Instr.shflUpW32 y d a b) s = execShflUpW32 y d a b s := rfl
theorem exec_shflUpW64 (y d a b s) : exec (Instr.shflUpW64 y d a b) s = execShflUpW64 y d a b s := rfl
theorem exec_shflUpW96 (y d a b s) : exec (Instr.shflUpW96 y d a b) s = execShflUpW96 y d a b s := rfl
theorem exec_shflDnW4 (y d a b s) : exec (Instr.shflDnW4 y d a b) s = execShflDnW4 y d a b s := rfl
theorem exec_shflDnW8 (y d a b s) : exec (Instr.shflDnW8 y d a b) s = execShflDnW8 y d a b s := rfl
theorem exec_shflDnW16 (y d a b s) : exec (Instr.shflDnW16 y d a b) s = execShflDnW16 y d a b s := rfl
theorem exec_shflDnW32 (y d a b s) : exec (Instr.shflDnW32 y d a b) s = execShflDnW32 y d a b s := rfl
theorem exec_shflDnW64 (y d a b s) : exec (Instr.shflDnW64 y d a b) s = execShflDnW64 y d a b s := rfl
theorem exec_shflDnW96 (y d a b s) : exec (Instr.shflDnW96 y d a b) s = execShflDnW96 y d a b s := rfl
theorem exec_vbcastW4 (y d a b s) : exec (Instr.vbcastW4 y d a b) s = execVbcastW4 y d a b s := rfl
theorem exec_vbcastW8 (y d a b s) : exec (Instr.vbcastW8 y d a b) s = execVbcastW8 y d a b s := rfl
theorem exec_vbcastW16 (y d a b s) : exec (Instr.vbcastW16 y d a b) s = execVbcastW16 y d a b s := rfl
theorem exec_vbcastW32 (y d a b s) : exec (Instr.vbcastW32 y d a b) s = execVbcastW32 y d a b s := rfl
theorem exec_vbcastW64 (y d a b s) : exec (Instr.vbcastW64 y d a b) s = execVbcastW64 y d a b s := rfl
theorem exec_vbcastW96 (y d a b s) : exec (Instr.vbcastW96 y d a b) s = execVbcastW96 y d a b s := rfl
theorem exec_voteAny (y d a s) : exec (Instr.voteAny y d a) s = execVoteAny y d a s := rfl
theorem exec_voteAll (y d a s) : exec (Instr.voteAll y d a) s = execVoteAll y d a s := rfl
theorem exec_voteBal (y d a s) : exec (Instr.voteBal y d a) s = execVoteBal y d a s := rfl
theorem exec_vredW4 (y d a o t s) : exec (Instr.vredW4 y d a o t) s = execVredW4 y d a o t s := rfl
theorem exec_vredW8 (y d a o t s) : exec (Instr.vredW8 y d a o t) s = execVredW8 y d a o t s := rfl
theorem exec_vredW16 (y d a o t s) : exec (Instr.vredW16 y d a o t) s = execVredW16 y d a o t s := rfl
theorem exec_vredW32 (y d a o t s) : exec (Instr.vredW32 y d a o t) s = execVredW32 y d a o t s := rfl
theorem exec_vredW64 (y d a o t s) : exec (Instr.vredW64 y d a o t) s = execVredW64 y d a o t s := rfl
theorem exec_vredW96 (y d a o t s) : exec (Instr.vredW96 y d a o t) s = execVredW96 y d a o t s := rfl
theorem exec_vscanW4 (y d a o t s) : exec (Instr.vscanW4 y d a o t) s = execVscanW4 y d a o t s := rfl
theorem exec_vscanW8 (y d a o t s) : exec (Instr.vscanW8 y d a o t) s = execVscanW8 y d a o t s := rfl
theorem exec_vscanW16 (y d a o t s) : exec (Instr.vscanW16 y d a o t) s = execVscanW16 y d a o t s := rfl
theorem exec_vscanW32 (y d a o t s) : exec (Instr.vscanW32 y d a o t) s = execVscanW32 y d a o t s := rfl
theorem exec_vscanW64 (y d a o t s) : exec (Instr.vscanW64 y d a o t) s = execVscanW64 y d a o t s := rfl
theorem exec_vscanW96 (y d a o t s) : exec (Instr.vscanW96 y d a o t) s = execVscanW96 y d a o t s := rfl
theorem exec_ldI (y w d a b s) : exec (Instr.ldI y w d a b) s = execLdI y w d a b s := rfl
theorem exec_ldN (y w d a b s) : exec (Instr.ldN y w d a b) s = execLdN y w d a b s := rfl
theorem exec_sldI (y w d a b s) : exec (Instr.sldI y w d a b) s = execSldI y w d a b s := rfl
theorem exec_sldN (y w d a b s) : exec (Instr.sldN y w d a b) s = execSldN y w d a b s := rfl
theorem exec_ldx (y w d a b s) : exec (Instr.ldx y w d a b) s = execLdx y w d a b s := rfl
theorem exec_cld (y d a b s) : exec (Instr.cld y d a b) s = execCld y d a b s := rfl
theorem exec_ldLI (y w d a b s) : exec (Instr.ldLI y w d a b) s = execLdLI y w d a b s := rfl
theorem exec_ldLN (y w d a b s) : exec (Instr.ldLN y w d a b) s = execLdLN y w d a b s := rfl
theorem exec_ldAcq (y w s_ d a b s) : exec (Instr.ldAcq y w s_ d a b) s = execLdAcq y w s_ d a b s := rfl
theorem exec_sldAcq (y w s_ d a b s) : exec (Instr.sldAcq y w s_ d a b) s = execSldAcq y w s_ d a b s := rfl
theorem exec_stN (y w d a b s) : exec (Instr.stN y w d a b) s = execStN y w d a b s := rfl
theorem exec_sstN (y w d a b s) : exec (Instr.sstN y w d a b) s = execSstN y w d a b s := rfl
theorem exec_cst (y d a b s) : exec (Instr.cst y d a b) s = execCst y d a b s := rfl
theorem exec_stLN (y w d a b s) : exec (Instr.stLN y w d a b) s = execStLN y w d a b s := rfl
theorem exec_stRel (y w s_ d a b s) : exec (Instr.stRel y w s_ d a b) s = execStRel y w s_ d a b s := rfl
theorem exec_atomAdd (y t d f s_ c b s) : exec (Instr.atomAdd y t d f s_ c b) s = execAtomAdd y t d f s_ c b s := rfl
theorem exec_atomAnd (y t d f s_ c b s) : exec (Instr.atomAnd y t d f s_ c b) s = execAtomAnd y t d f s_ c b s := rfl
theorem exec_atomOr (y t d f s_ c b s) : exec (Instr.atomOr y t d f s_ c b) s = execAtomOr y t d f s_ c b s := rfl
theorem exec_atomXor (y t d f s_ c b s) : exec (Instr.atomXor y t d f s_ c b) s = execAtomXor y t d f s_ c b s := rfl
theorem exec_atomSwap (y t d f s_ c b s) : exec (Instr.atomSwap y t d f s_ c b) s = execAtomSwap y t d f s_ c b s := rfl
theorem exec_atomCas (y t d f s_ c b s) : exec (Instr.atomCas y t d f s_ c b) s = execAtomCas y t d f s_ c b s := rfl
theorem exec_atomMin (y t d f s_ c b s) : exec (Instr.atomMin y t d f s_ c b) s = execAtomMin y t d f s_ c b s := rfl
theorem exec_atomMax (y t d f s_ c b s) : exec (Instr.atomMax y t d f s_ c b) s = execAtomMax y t d f s_ c b s := rfl
theorem exec_csub (y d a b s) : exec (Instr.csub y d a b) s = execCsub y d a b s := rfl
theorem exec_crgt (y d a b s) : exec (Instr.crgt y d a b) s = execCrgt y d a b s := rfl
theorem exec_cget (y d a k s) : exec (Instr.cget y d a k) s = execCget y d a k s := rfl
theorem exec_cmov (y d a s) : exec (Instr.cmov y d a) s = execCmov y d a s := rfl
theorem exec_cclr (y d s) : exec (Instr.cclr y d) s = execCclr y d s := rfl
theorem exec_cstash (y d a b s) : exec (Instr.cstash y d a b) s = execCstash y d a b s := rfl
theorem exec_pref (y a b s) : exec (Instr.pref y a b) s = execPref y a b s := rfl
theorem exec_smap (y d a b s) : exec (Instr.smap y d a b) s = execSmap y d a b s := rfl
theorem exec_sunmap (y a s) : exec (Instr.sunmap y a) s = execSunmap y a s := rfl
theorem exec_sflush (y a s) : exec (Instr.sflush y a) s = execSflush y a s := rfl
theorem exec_fenceAcqGroup (y s) : exec (Instr.fenceAcqGroup y) s = execFenceAcqGroup y s := rfl
theorem exec_fenceAcqBlock (y s) : exec (Instr.fenceAcqBlock y) s = execFenceAcqBlock y s := rfl
theorem exec_fenceAcqChip (y s) : exec (Instr.fenceAcqChip y) s = execFenceAcqChip y s := rfl
theorem exec_fenceAcqPod (y s) : exec (Instr.fenceAcqPod y) s = execFenceAcqPod y s := rfl
theorem exec_fenceAcqSys (y s) : exec (Instr.fenceAcqSys y) s = execFenceAcqSys y s := rfl
theorem exec_fenceRelGroup (y s) : exec (Instr.fenceRelGroup y) s = execFenceRelGroup y s := rfl
theorem exec_fenceRelBlock (y s) : exec (Instr.fenceRelBlock y) s = execFenceRelBlock y s := rfl
theorem exec_fenceRelChip (y s) : exec (Instr.fenceRelChip y) s = execFenceRelChip y s := rfl
theorem exec_fenceRelPod (y s) : exec (Instr.fenceRelPod y) s = execFenceRelPod y s := rfl
theorem exec_fenceRelSys (y s) : exec (Instr.fenceRelSys y) s = execFenceRelSys y s := rfl
theorem exec_fenceFullGroup (y s) : exec (Instr.fenceFullGroup y) s = execFenceFullGroup y s := rfl
theorem exec_fenceFullBlock (y s) : exec (Instr.fenceFullBlock y) s = execFenceFullBlock y s := rfl
theorem exec_fenceFullChip (y s) : exec (Instr.fenceFullChip y) s = execFenceFullChip y s := rfl
theorem exec_fenceFullPod (y s) : exec (Instr.fenceFullPod y) s = execFenceFullPod y s := rfl
theorem exec_fenceFullSys (y s) : exec (Instr.fenceFullSys y) s = execFenceFullSys y s := rfl
theorem exec_barInit (y a b s) : exec (Instr.barInit y a b) s = execBarInit y a b s := rfl
theorem exec_barArrive (y a b s) : exec (Instr.barArrive y a b) s = execBarArrive y a b s := rfl
theorem exec_barExpect (y a b s) : exec (Instr.barExpect y a b) s = execBarExpect y a b s := rfl
theorem exec_barWait (y a b s) : exec (Instr.barWait y a b) s = execBarWait y a b s := rfl
theorem exec_barArriveW (y a b s) : exec (Instr.barArriveW y a b) s = execBarArriveW y a b s := rfl
theorem exec_mxR (y d a b s) : exec (Instr.mxR y d a b) s = execMxR y d a b s := rfl
theorem exec_mxS (y d a b s) : exec (Instr.mxS y d a b) s = execMxS y d a b s := rfl
theorem exec_mxjob (y d a b s) : exec (Instr.mxjob y d a b) s = execMxjob y d a b s := rfl
theorem exec_mxza (y d s) : exec (Instr.mxza y d) s = execMxza y d s := rfl
theorem exec_mxlda (y d a b s) : exec (Instr.mxlda y d a b) s = execMxlda y d a b s := rfl
theorem exec_mxst (y d a b s) : exec (Instr.mxst y d a b) s = execMxst y d a b s := rfl
theorem exec_cpy (y d a b s) : exec (Instr.cpy y d a b) s = execCpy y d a b s := rfl
theorem exec_cpyR (y d a b s) : exec (Instr.cpyR y d a b) s = execCpyR y d a b s := rfl
theorem exec_coll (y d a b s) : exec (Instr.coll y d a b) s = execColl y d a b s := rfl
theorem exec_nsend (y a b s) : exec (Instr.nsend y a b) s = execNsend y a b s := rfl
theorem exec_pub (y a s) : exec (Instr.pub y a) s = execPub y a s := rfl
theorem exec_post (y d a b s) : exec (Instr.post y d a b) s = execPost y d a b s := rfl
theorem exec_launch (y d b s) : exec (Instr.launch y d b) s = execLaunch y d b s := rfl
theorem exec_gate (y s) : exec (Instr.gate y) s = execGate y s := rfl
theorem exec_rlse (y s) : exec (Instr.rlse y) s = execRlse y s := rfl
theorem exec_bclose (y d s) : exec (Instr.bclose y d) s = execBclose y d s := rfl
theorem exec_waitb (y a s) : exec (Instr.waitb y a) s = execWaitb y a s := rfl
theorem exec_arm (y d a b s) : exec (Instr.arm y d a b) s = execArm y d a b s := rfl
theorem exec_br (y o s) : exec (Instr.br y o) s = execBr y o s := rfl
theorem exec_bsr (y o s) : exec (Instr.bsr y o) s = execBsr y o s := rfl
theorem exec_brcZ (y c o s) : exec (Instr.brcZ y c o) s = execBrcZ y c o s := rfl
theorem exec_brcNz (y c o s) : exec (Instr.brcNz y c o) s = execBrcNz y c o s := rfl
theorem exec_brmZ (y c o s) : exec (Instr.brmZ y c o) s = execBrmZ y c o s := rfl
theorem exec_brmNz (y c o s) : exec (Instr.brmNz y c o) s = execBrmNz y c o s := rfl
theorem exec_brcLt (y c o s) : exec (Instr.brcLt y c o) s = execBrcLt y c o s := rfl
theorem exec_brcGe (y c o s) : exec (Instr.brcGe y c o) s = execBrcGe y c o s := rfl
theorem exec_join (y j s) : exec (Instr.join y j) s = execJoin y j s := rfl
theorem exec_wait (y a b s) : exec (Instr.wait y a b) s = execWait y a b s := rfl
theorem exec_winb (y n s) : exec (Instr.winb y n) s = execWinb y n s := rfl
theorem exec_call (y a s) : exec (Instr.call y a) s = execCall y a s := rfl
theorem exec_ret (y s) : exec (Instr.ret y) s = execRet y s := rfl
theorem exec_exit (y s) : exec (Instr.exit y) s = execExit y s := rfl
theorem exec_rgn (y s) : exec (Instr.rgn y) s = execRgn y s := rfl
theorem exec_rgnx (y s) : exec (Instr.rgnx y) s = execRgnx y s := rfl
theorem exec_yieldc (y s) : exec (Instr.yieldc y) s = execYieldc y s := rfl
theorem exec_sleep (y a s) : exec (Instr.sleep y a) s = execSleep y a s := rfl
theorem exec_vdead (y a b s) : exec (Instr.vdead y a b) s = execVdead y a b s := rfl
theorem exec_jmp (y a s) : exec (Instr.jmp y a) s = execJmp y a s := rfl
theorem exec_sli (y d im s) : exec (Instr.sli y d im) s = execSli y d im s := rfl
theorem exec_slis (y d im s) : exec (Instr.slis y d im) s = execSlis y d im s := rfl
theorem exec_vli (y d im s) : exec (Instr.vli y d im) s = execVli y d im s := rfl
theorem exec_vlih (y d im s) : exec (Instr.vlih y d im) s = execVlih y d im s := rfl
theorem exec_tret (y s) : exec (Instr.tret y) s = execTret y s := rfl
theorem exec_pwleaf (y d a b s) : exec (Instr.pwleaf y d a b) s = execPwleaf y d a b s := rfl
theorem exec_pobj (y d a b s) : exec (Instr.pobj y d a b) s = execPobj y d a b s := rfl
theorem exec_pkey (y d a b s) : exec (Instr.pkey y d a b) s = execPkey y d a b s := rfl
theorem exec_pwdog (y d a b s) : exec (Instr.pwdog y d a b) s = execPwdog y d a b s := rfl
theorem exec_pmcset (y d a b s) : exec (Instr.pmcset y d a b) s = execPmcset y d a b s := rfl
theorem exec_pevent (y d a b s) : exec (Instr.pevent y d a b) s = execPevent y d a b s := rfl
theorem exec_psave (y d a b s) : exec (Instr.psave y d a b) s = execPsave y d a b s := rfl
theorem exec_prest (y d a b s) : exec (Instr.prest y d a b) s = execPrest y d a b s := rfl
theorem exec_pfq (y d a b s) : exec (Instr.pfq y d a b) s = execPfq y d a b s := rfl
theorem exec_trap (y im s) : exec (Instr.trap y im) s = execTrap y im s := rfl
theorem exec_sysr (y d n s) : exec (Instr.sysr y d n) s = execSysr y d n s := rfl
theorem exec_sysw (y a n s) : exec (Instr.sysw y a n) s = execSysw y a n s := rfl

end Sys2Proof.Machine
end

