-- ==== Sys2Proof/Laws/Sparse.lean ====
section
/-! SUPPORT. The laws of sparse maps: reads after writes, and the canonical form that every operation keeps. -/

namespace Sys2Proof.Machine

variable {α : Type}

@[simp] theorem Sparse.get_nil (d : α) (x : Nat) : Sparse.get d [] x = d := rfl

theorem Sparse.get_cons (d : α) (k : Nat) (v : α) (m : Sparse α) (x : Nat) :
    Sparse.get d ((k, v) :: m) x = if x = k then v else Sparse.get d m x := rfl

/-- Entries of other indexes do not matter for an index. -/
theorem Sparse.get_filter (d : α) (p : Nat × α → Bool) (m : Sparse α) (x : Nat) (h : ∀ v, p (x, v) = true) :
    Sparse.get d (m.filter p) x = Sparse.get d m x := by
  induction m with
  | nil => rfl
  | cons e m ih =>
    obtain ⟨k, v⟩ := e
    by_cases hk : x = k
    · subst hk; simp [h, Sparse.get_cons]
    · by_cases hp : p (k, v) = true <;> simp [hp, Sparse.get_cons, hk, ih]

theorem Sparse.get_filter_none (d : α) (p : Nat × α → Bool) (m : Sparse α) (x : Nat) (h : ∀ v, p (x, v) = false) :
    Sparse.get d (m.filter p) x = d := by
  induction m with
  | nil => rfl
  | cons e m ih =>
    obtain ⟨k, v⟩ := e
    by_cases hp : p (k, v) = true
    · have hk : x ≠ k := by
        intro hk
        subst hk
        simp [h] at hp
      simp [hp, Sparse.get_cons, hk, ih]
    · simp [hp, ih]

@[simp] theorem Sparse.get_erase_self (d : α) (m : Sparse α) (x : Nat) : Sparse.get d (Sparse.erase m x) x = d :=
  Sparse.get_filter_none d _ m x (by simp)

theorem Sparse.get_erase_of_ne (d : α) (m : Sparse α) {x y : Nat} (h : y ≠ x) :
    Sparse.get d (Sparse.erase m x) y = Sparse.get d m y :=
  Sparse.get_filter d _ m y (by simp [h])

theorem Sparse.get_place (d : α) (m : Sparse α) (x y : Nat) (v : α) (hm : ∀ e ∈ m, e.1 ≠ x) :
    Sparse.get d (Sparse.place x v m) y = if y = x then v else Sparse.get d m y := by
  induction m with
  | nil => simp [Sparse.place, Sparse.get_cons]
  | cons e m ih =>
    obtain ⟨k, w⟩ := e
    have hk : k ≠ x := hm (k, w) (by simp)
    have ih := ih fun e he => hm e (by simp [he])
    by_cases hx : x < k
    · simp [Sparse.place, hx, Sparse.get_cons]
    · simp only [Sparse.place, hx, if_false, Sparse.get_cons, ih]
      by_cases hy : y = k
      · subst hy; simp [hk]
      · simp [hy]

variable [DecidableEq α]

/-- A read after a write: the written index gives the value, every other index what it gave before. -/
theorem Sparse.get_set (d : α) (m : Sparse α) (x y : Nat) (v : α) :
    Sparse.get d (Sparse.set d m x v) y = if y = x then v else Sparse.get d m y := by
  unfold Sparse.set
  by_cases hv : v = d
  · simp only [hv, if_true]
    by_cases hy : y = x
    · subst hy; simp
    · simp [hy, Sparse.get_erase_of_ne]
  · simp only [hv, if_false]
    rw [Sparse.get_place d _ x y v (by simp [Sparse.erase])]
    by_cases hy : y = x
    · simp [hy]
    · simp [hy, Sparse.get_erase_of_ne]

@[simp] theorem Sparse.get_set_self (d : α) (m : Sparse α) (x : Nat) (v : α) : Sparse.get d (Sparse.set d m x v) x = v := by
  simp [Sparse.get_set]

theorem Sparse.get_set_of_ne (d : α) (m : Sparse α) {x y : Nat} (v : α) (h : y ≠ x) :
    Sparse.get d (Sparse.set d m x v) y = Sparse.get d m y := by
  simp [Sparse.get_set, h]

/-- Indexes that a list of writes does not name keep their values. -/
theorem Sparse.get_setAll_of_not_mem (d : α) (w : List (Nat × α)) (m : Sparse α) (y : Nat) (h : ∀ e ∈ w, e.1 ≠ y) :
    Sparse.get d (Sparse.setAll d m w) y = Sparse.get d m y := by
  induction w generalizing m with
  | nil => rfl
  | cons e w ih =>
    obtain ⟨k, v⟩ := e
    have hk : k ≠ y := h (k, v) (by simp)
    rw [Sparse.setAll, ih _ fun e he => h e (by simp [he]), Sparse.get_set_of_ne d m v (Ne.symm hk)]

/-- A list of writes that gives every index it names one value. -/
theorem Sparse.get_setAll_of_mem (d : α) (f : Nat → α) (w : List (Nat × α)) (m : Sparse α) (y : Nat)
    (hf : ∀ e ∈ w, e.2 = f e.1) (h : ∃ e ∈ w, e.1 = y) : Sparse.get d (Sparse.setAll d m w) y = f y := by
  induction w generalizing m with
  | nil => simp at h
  | cons e w ih =>
    obtain ⟨k, v⟩ := e
    rw [Sparse.setAll]
    by_cases hw : ∃ e ∈ w, e.1 = y
    · exact ih _ (fun e he => hf e (by simp [he])) hw
    · have hk : k = y := by
        obtain ⟨e, he, hy⟩ := h
        rcases List.mem_cons.mp he with rfl | he
        · exact hy
        · exact absurd ⟨e, he, hy⟩ hw
      have hv : v = f k := hf (k, v) (by simp)
      rw [Sparse.get_setAll_of_not_mem d w _ y fun e he hy => hw ⟨e, he, hy⟩]
      subst hk
      simp [hv]

/-! ### The canonical form -/

theorem Sparse.wfFrom_mono (d : α) (m : Sparse α) {a b : Nat} (h : a ≤ b) (hb : Sparse.wfFrom d b m = true) :
    Sparse.wfFrom d a m = true := by
  cases m with
  | nil => rfl
  | cons e m =>
    obtain ⟨k, v⟩ := e
    simp only [Sparse.wfFrom, Bool.and_eq_true, decide_eq_true_eq] at hb ⊢
    exact ⟨⟨by omega, hb.1.2⟩, hb.2⟩

theorem Sparse.wfFrom_filter (d : α) (p : Nat × α → Bool) (m : Sparse α) (lo : Nat) (h : Sparse.wfFrom d lo m = true) :
    Sparse.wfFrom d lo (m.filter p) = true := by
  induction m generalizing lo with
  | nil => rfl
  | cons e m ih =>
    obtain ⟨k, v⟩ := e
    simp only [Sparse.wfFrom, Bool.and_eq_true, decide_eq_true_eq] at h
    have hm := ih (k + 1) h.2
    by_cases hp : p (k, v) = true
    · simp only [List.filter_cons, hp, if_true, Sparse.wfFrom, Bool.and_eq_true, decide_eq_true_eq]
      exact ⟨h.1, hm⟩
    · simp only [List.filter_cons, hp]
      exact Sparse.wfFrom_mono d _ (by omega) hm

theorem Sparse.wfFrom_place (d : α) (m : Sparse α) (x : Nat) (v : α) (lo : Nat) (hv : v ≠ d) (hx : lo ≤ x)
    (hm : ∀ e ∈ m, e.1 ≠ x) (h : Sparse.wfFrom d lo m = true) : Sparse.wfFrom d lo (Sparse.place x v m) = true := by
  induction m generalizing lo with
  | nil => simp [Sparse.place, Sparse.wfFrom, hv, hx]
  | cons e m ih =>
    obtain ⟨k, w⟩ := e
    have hk : k ≠ x := hm (k, w) (by simp)
    simp only [Sparse.wfFrom, Bool.and_eq_true, decide_eq_true_eq] at h
    by_cases hlt : x < k
    · simp only [Sparse.place, hlt, if_true, Sparse.wfFrom, Bool.and_eq_true, decide_eq_true_eq]
      exact ⟨⟨hx, hv⟩, ⟨⟨by omega, h.1.2⟩, h.2⟩⟩
    · simp only [Sparse.place, hlt, if_false, Sparse.wfFrom, Bool.and_eq_true, decide_eq_true_eq]
      exact ⟨h.1, ih (k + 1) (by omega) (fun e he => hm e (by simp [he])) h.2⟩

/-- A write keeps the canonical form. -/
theorem Sparse.wf_set (d : α) (m : Sparse α) (x : Nat) (v : α) (h : Sparse.wf d m = true) :
    Sparse.wf d (Sparse.set d m x v) = true := by
  unfold Sparse.set
  have he : Sparse.wfFrom d 0 (Sparse.erase m x) = true := Sparse.wfFrom_filter d _ m 0 h
  by_cases hv : v = d
  · simp [hv, Sparse.wf, he]
  · simp only [hv, if_false]
    exact Sparse.wfFrom_place d _ x v 0 hv (by omega) (by simp [Sparse.erase]) he

/-- A list of writes keeps the canonical form. -/
theorem Sparse.wf_setAll (d : α) (w : List (Nat × α)) (m : Sparse α) (h : Sparse.wf d m = true) :
    Sparse.wf d (Sparse.setAll d m w) = true := by
  induction w generalizing m with
  | nil => exact h
  | cons e w ih => exact ih _ (Sparse.wf_set d m _ _ h)

/-- Clearing a range keeps the canonical form. -/
theorem Sparse.wf_clearRange (d : α) (m : Sparse α) (lo hi : Nat) (h : Sparse.wf d m = true) :
    Sparse.wf d (Sparse.clearRange m lo hi) = true :=
  Sparse.wfFrom_filter d _ m 0 h

/-- Keeping some entries keeps the canonical form. -/
theorem Sparse.wf_filter (d : α) (p : Nat × α → Bool) (m : Sparse α) (h : Sparse.wf d m = true) :
    Sparse.wf d (m.filter p) = true :=
  Sparse.wfFrom_filter d p m 0 h

omit [DecidableEq α] in
/-- A cleared range reads as the default, and the rest as before. -/
theorem Sparse.get_clearRange (d : α) (m : Sparse α) (lo hi y : Nat) :
    Sparse.get d (Sparse.clearRange m lo hi) y = if lo ≤ y ∧ y < hi then d else Sparse.get d m y := by
  by_cases h : lo ≤ y ∧ y < hi
  · rw [if_pos h]
    refine Sparse.get_filter_none d _ m y fun v => ?_
    simp only [Bool.or_eq_false_iff, decide_eq_false_iff_not]
    omega
  · rw [if_neg h]
    refine Sparse.get_filter d _ m y fun v => ?_
    simp only [Bool.or_eq_true, decide_eq_true_eq]
    omega

/-- Equal canonical maps: two canonical maps that read alike are the same list. -/
theorem Sparse.get_of_lt (d : α) (m : Sparse α) (lo x : Nat) (h : Sparse.wfFrom d lo m = true) (hx : x < lo) :
    Sparse.get d m x = d := by
  induction m generalizing lo with
  | nil => rfl
  | cons e m ih =>
    obtain ⟨k, v⟩ := e
    simp only [Sparse.wfFrom, Bool.and_eq_true, decide_eq_true_eq] at h
    rw [Sparse.get_cons, if_neg (by omega)]
    exact ih (k + 1) h.2 (by omega)

end Sys2Proof.Machine
end

