-- ==== Sys2Proof/Laws/Group.lean ====
section
/-! SUPPORT. What the operations on a group do: which registers they write, and that they write nothing else. -/

namespace Sys2Proof.Machine

/-! ### Slices -/

theorem Group.mapSlices_eq (g : Group) (f : Nat → Slice → Slice) (l : List Nat) :
    g.mapSlices f l = { g with slices := (g.mapSlices f l).slices } := by
  induction l generalizing g with
  | nil => rfl
  | cons i l ih => rw [Group.mapSlices, ih]; rfl

@[simp] theorem Group.mapSlices_s (g : Group) (f : Nat → Slice → Slice) (l : List Nat) : (g.mapSlices f l).s = g.s := by
  rw [Group.mapSlices_eq]
@[simp] theorem Group.mapSlices_v (g : Group) (f : Nat → Slice → Slice) (l : List Nat) : (g.mapSlices f l).v = g.v := by
  rw [Group.mapSlices_eq]
@[simp] theorem Group.mapSlices_c (g : Group) (f : Nat → Slice → Slice) (l : List Nat) : (g.mapSlices f l).c = g.c := by
  rw [Group.mapSlices_eq]
@[simp] theorem Group.mapSlices_x (g : Group) (f : Nat → Slice → Slice) (l : List Nat) : (g.mapSlices f l).x = g.x := by
  rw [Group.mapSlices_eq]
@[simp] theorem Group.mapSlices_width (g : Group) (f : Nat → Slice → Slice) (l : List Nat) :
    (g.mapSlices f l).width = g.width := by
  rw [Group.mapSlices_eq]
@[simp] theorem Group.mapSlices_state (g : Group) (f : Nat → Slice → Slice) (l : List Nat) :
    (g.mapSlices f l).state = g.state := by
  rw [Group.mapSlices_eq]
@[simp] theorem Group.mapSlices_core (g : Group) (f : Nat → Slice → Slice) (l : List Nat) :
    (g.mapSlices f l).core = g.core := by
  rw [Group.mapSlices_eq]

/-- The record of a slice after a change of some slices: each is changed once per time it is named. -/
theorem Group.slice_setSlice (g : Group) (i j : Nat) (r : Slice) :
    (g.setSlice i r).slice j = if j = i then r else g.slice j := by
  simp [Group.setSlice, Group.slice, Sparse.get_set]

theorem Group.slice_mapSlices_of_not_mem (g : Group) (f : Nat → Slice → Slice) (l : List Nat) (j : Nat) (h : j ∉ l) :
    (g.mapSlices f l).slice j = g.slice j := by
  induction l generalizing g with
  | nil => rfl
  | cons i l ih =>
    simp only [List.mem_cons, not_or] at h
    rw [Group.mapSlices, ih _ h.2, Group.slice_setSlice, if_neg h.1]

theorem Group.slice_mapSlices_of_mem (g : Group) (f : Nat → Slice → Slice) (l : List Nat) (j : Nat) (hl : l.Nodup)
    (h : j ∈ l) : (g.mapSlices f l).slice j = f j (g.slice j) := by
  induction l generalizing g with
  | nil => simp at h
  | cons i l ih =>
    rw [List.nodup_cons] at hl
    rw [Group.mapSlices]
    rcases List.mem_cons.mp h with rfl | h
    · rw [Group.slice_mapSlices_of_not_mem _ _ _ _ hl.1, Group.slice_setSlice, if_pos rfl]
    · have hji : j ≠ i := fun e => hl.1 (e ▸ h)
      rw [ih _ hl.2 h, Group.slice_setSlice, if_neg hji]

/-! ### Scalar registers -/

theorem Group.putS_eq (g : Group) (slices : List Nat) (r : Nat) (v : W64) :
    g.putS slices r v = { g with s := (g.putS slices r v).s } := rfl

/-- A scalar write: s0 discards it, the bits that the slices may change take the value, every other register is unchanged. -/
theorem Group.rs_putS (g : Group) (slices : List Nat) (r k : Nat) (v : W64) :
    (g.putS slices r v).rs k
      = if k = r then (g.rs r &&& ~~~(g.writable slices r)) ||| (v &&& g.writable slices r) else g.rs k := by
  by_cases hk : k = r
  · subst hk
    by_cases h0 : k = 0
    · subst h0; simp [Group.rs, Group.writable]
    · simp [Group.rs, Group.putS, h0]
  · simp [Group.rs, Group.putS, hk, Sparse.get_set_of_ne]

theorem Group.completeJoin_eq (g : Group) (r : Nat) (l : List Nat) (pc : W64) :
    g.completeJoin r l pc = { g with s := (g.completeJoin r l pc).s, joinSince := (g.completeJoin r l pc).joinSince,
                                     slices := (g.completeJoin r l pc).slices } := by
  unfold Group.completeJoin
  simp only
  rw [Group.mapSlices_eq]

/-- The join test of a scalar write changes nothing but the rejoin register and the slices that it sends on. -/
theorem Group.recheckJoin_eq (g : Group) (w : List Nat) (r : Nat) :
    g.recheckJoin w r = { g with s := (g.recheckJoin w r).s, joinSince := (g.recheckJoin w r).joinSince,
                                 slices := (g.recheckJoin w r).slices } := by
  unfold Group.recheckJoin
  simp only
  split
  · rw [Group.completeJoin_eq]
  · rfl

/-- Registers outside s116-s123 have no join test. -/
theorem Group.recheckJoin_of_not_rejoin (g : Group) (w : List Nat) (r : Nat) (h : r < 116 ∨ 123 < r) :
    g.recheckJoin w r = g := by
  unfold Group.recheckJoin
  simp only
  rw [if_neg]
  omega

theorem Group.writeS_eq (g : Group) (slices : List Nat) (r : Nat) (v : W64) :
    g.writeS slices r v = { g with s := (g.writeS slices r v).s, joinSince := (g.writeS slices r v).joinSince,
                                   slices := (g.writeS slices r v).slices,
                                   pending := g.pending.map (Pending.dropS r (g.takes slices r)),
                                   memOps := g.memOps.map (MemOp.dropS r (g.takes slices r)) } := by
  unfold Group.writeS
  simp only
  rw [Group.recheckJoin_eq]
  rfl

theorem Group.writeS_of_not_rejoin (g : Group) (slices : List Nat) (r : Nat) (v : W64) (h : r < 116 ∨ 123 < r) :
    g.writeS slices r v = { g.putS slices r v with pending := g.pending.map (Pending.dropS r (g.takes slices r)),
                                                   memOps := g.memOps.map (MemOp.dropS r (g.takes slices r)) } := by
  unfold Group.writeS
  simp only
  rw [Group.recheckJoin_of_not_rejoin _ _ _ h]
  rfl

/-! ### Capability and vector registers -/

theorem Group.rc_writeC (g : Group) (r k : Nat) (v : Cap) :
    (g.writeC r v).rc k = if k = r then v else g.rc k := by
  simp [Group.writeC, Group.rc, Sparse.get_set]

theorem Group.writeC_eq (g : Group) (r : Nat) (v : Cap) :
    g.writeC r v = { g with c := (g.writeC r v).c, pending := (g.writeC r v).pending, memOps := (g.writeC r v).memOps } := rfl

theorem Group.writeV_eq (g : Group) (w : List (Nat × W32)) :
    g.writeV w = { g with v := (g.writeV w).v, pending := (g.writeV w).pending } := rfl

/-- Two window positions of lanes below 128 have one key only if they are the same. -/
theorem Group.vkey_inj (g : Group) {n l n' l' : Nat} (hl : l < 128) (hl' : l' < 128) (h : g.vkey n l = g.vkey n' l') :
    n = n' ∧ l = l' := by
  unfold Group.vkey at h
  omega

theorem Group.mem_active_lt (g : Group) (sl : List Nat) {l : Nat} (h : l ∈ g.active sl) : l < 96 := by
  simp only [Group.active, List.mem_filter, List.mem_range, Group.lanes] at h
  omega

theorem Group.active_nodup (g : Group) (sl : List Nat) : (g.active sl).Nodup :=
  List.nodup_range.filter _

theorem Group.live_lt (g : Group) {i : Nat} (h : i ∈ g.live) : i < 24 := by
  simp only [Group.live, List.mem_filter, List.mem_range, Group.sliceCount, Group.lanes] at h
  omega

theorem Group.gang_lt (g : Group) (id : Nat) {i : Nat} (h : i ∈ g.gang id) : i < 24 :=
  g.live_lt (List.mem_of_mem_filter h)

theorem Group.gang_nodup (g : Group) (id : Nat) : (g.gang id).Nodup :=
  (List.nodup_range.filter _).filter _

end Sys2Proof.Machine
end

