-- ==== Sys2Proof/Laws/Forms.lean ====
section
/-! SUPPORT. What the operand forms write: one lemma for each shape of destination. -/

namespace Sys2Proof.Machine

/-! ### Plain forms -/

theorem State.plain_next (s : State) (g : Group) (y : Bool) (ok : Group → Bool) (f : Group → List Nat → Group)
    (h : s.group s.cursor.group = some g) (hok : ok g = true) :
    s.plain y ok f = .next (s.putGroup s.cursor.group ((f g s.cursor.slices).goTo s.cursor.slices (s.cursor.pc + 4) y)) := by
  simp [State.plain, State.issue, h, State.need, hok, State.retire]

theorem State.plain_und (s : State) (g : Group) (y : Bool) (ok : Group → Bool) (f : Group → List Nat → Group)
    (h : s.group s.cursor.group = some g) (hok : ok g = false) : s.plain y ok f = s.trapHere g .und := by
  simp [State.plain, State.issue, h, State.need, hok]

/-! ### Vector registers -/

/-- Writes that agree with a function of the key: a written key reads that function. -/
theorem Group.get_writeV (g : Group) (w : List (Nat × W32)) (f : Nat → W32) (hw : ∀ e ∈ w, e.2 = f e.1) (k : Nat) :
    Sparse.get 0 (g.writeV w).v k = if k ∈ w.map Prod.fst then f k else Sparse.get 0 g.v k := by
  unfold Group.writeV
  split
  · next h => exact Sparse.get_setAll_of_mem 0 f w g.v k hw (by simpa using h)
  · next h => exact Sparse.get_setAll_of_not_mem 0 w g.v k fun e he hk => h (List.mem_map.mpr ⟨e, he, hk⟩)

/-- The lane that a key belongs to. -/
theorem Group.vkey_mod (g : Group) (n l : Nat) (h : l < 128) : g.vkey n l % 128 = l := by
  unfold Group.vkey
  omega

theorem Group.map_fst_laneWrites (g : Group) (sl : List Nat) (n : Nat) (f : Nat → W32) :
    (g.laneWrites sl n f).map Prod.fst = (g.active sl).map (g.vkey n) := by
  simp [Group.laneWrites, Function.comp_def]

theorem Group.get_laneWrites (g : Group) (sl : List Nat) (n : Nat) (f : Nat → W32) (k : Nat) :
    Sparse.get 0 (g.writeV (g.laneWrites sl n f)).v k =
      if k ∈ (g.active sl).map (g.vkey n) then f (k % 128) else Sparse.get 0 g.v k := by
  rw [Group.get_writeV g _ (fun k => f (k % 128)), Group.map_fst_laneWrites]
  intro e he
  obtain ⟨l, hl, rfl⟩ := List.mem_map.mp he
  have := g.mem_active_lt sl hl
  rw [Group.vkey_mod _ _ _ (by omega)]

/-- A lane form writes its register in the lanes of Active(). -/
theorem Group.rv_laneWrites (g : Group) (sl : List Nat) (n : Nat) (f : Nat → W32) (l : Nat) (h : l ∈ g.active sl) :
    (g.writeV (g.laneWrites sl n f)).rv n l = f l := by
  have hl := g.mem_active_lt sl h
  show Sparse.get 0 (g.writeV (g.laneWrites sl n f)).v (g.vkey n l) = f l
  rw [Group.get_laneWrites, if_pos (List.mem_map.mpr ⟨l, h, rfl⟩), Group.vkey_mod _ _ _ (by omega)]

theorem Group.map_fst_pairLaneWrites (g : Group) (sl : List Nat) (n : Nat) (f : Nat → W64) :
    (g.pairLaneWrites sl n f).map Prod.fst = (g.active sl).flatMap fun l => [g.vkey n l, g.vkey (n + 1) l] := by
  simp [Group.pairLaneWrites, Group.pairWrites, List.map_flatMap]

theorem Group.get_pairLaneWrites (g : Group) (sl : List Nat) (n : Nat) (f : Nat → W64) (k : Nat) :
    Sparse.get 0 (g.writeV (g.pairLaneWrites sl n f)).v k =
      if k ∈ (g.active sl).flatMap (fun l => [g.vkey n l, g.vkey (n + 1) l]) then
        if k / 128 = g.winb + n then (f (k % 128)).setWidth 32 else (f (k % 128)).extractLsb' 32 32
      else Sparse.get 0 g.v k := by
  rw [Group.get_writeV g _ (fun k => if k / 128 = g.winb + n then (f (k % 128)).setWidth 32
    else (f (k % 128)).extractLsb' 32 32), Group.map_fst_pairLaneWrites]
  intro e he
  simp only [Group.pairLaneWrites, Group.pairWrites, List.mem_flatMap, List.mem_cons, List.not_mem_nil, or_false] at he
  obtain ⟨l, hl, rfl | rfl⟩ := he
  · have := g.mem_active_lt sl hl
    have h1 : g.vkey n l / 128 = g.winb + n := by unfold Group.vkey; omega
    simp only [h1, Group.vkey_mod _ _ _ (show l < 128 by omega), if_true]
  · have := g.mem_active_lt sl hl
    have h1 : g.vkey (n + 1) l / 128 ≠ g.winb + n := by unfold Group.vkey; omega
    simp only [if_neg h1, Group.vkey_mod _ _ _ (show l < 128 by omega)]

/-- A 64-bit lane form writes its pair in the lanes of Active(). -/
theorem Group.rp_pairLaneWrites (g : Group) (sl : List Nat) (n : Nat) (f : Nat → W64) (l : Nat) (h : l ∈ g.active sl) :
    (g.writeV (g.pairLaneWrites sl n f)).rp n l = f l := by
  have hl := g.mem_active_lt sl h
  have h1 : g.vkey n l / 128 = g.winb + n := by unfold Group.vkey; omega
  have h2 : g.vkey (n + 1) l / 128 ≠ g.winb + n := by unfold Group.vkey; omega
  show (Sparse.get 0 (g.writeV (g.pairLaneWrites sl n f)).v (g.vkey (n + 1) l)
    ++ Sparse.get 0 (g.writeV (g.pairLaneWrites sl n f)).v (g.vkey n l) : BitVec (32 + 32)) = f l
  rw [Group.get_pairLaneWrites, Group.get_pairLaneWrites, if_pos (List.mem_flatMap.mpr ⟨l, h, by simp⟩),
    if_pos (List.mem_flatMap.mpr ⟨l, h, by simp⟩), if_neg h2, if_pos h1, Group.vkey_mod _ _ _ (by omega),
    Group.vkey_mod _ _ _ (by omega)]
  apply BitVec.eq_of_getLsbD_eq
  intro i hi
  rw [BitVec.getLsbD_append]
  split
  · simp [*]
  · rw [BitVec.getLsbD_extractLsb']
    simp only [show i - 32 < 32 by omega, decide_true, Bool.true_and, show 32 + (i - 32) = i by omega]

/-- The writes of a form of 32 or 64 bits. -/
theorem Group.valWrites_eq (g : Group) (sl : List Nat) (wide : Bool) (n : Nat) (f : Nat → Nat) :
    ((g.active sl).flatMap fun l => g.valWrites wide n l (f l)) =
      if wide then g.pairLaneWrites sl n fun l => BitVec.ofNat 64 (f l) else g.laneWrites sl n fun l => BitVec.ofNat 32 (f l) := by
  cases wide <;> simp [Group.valWrites, Group.pairLaneWrites, Group.laneWrites, List.map_eq_flatMap]

/-! ### Triples -/

/-- The new value of a register of a destination triple. -/
def Group.tripleWord (g : Group) (sl : List Nat) (r j : Nat) (v : BitVec 96) : W64 :=
  let own : W64 := ((g.ownBits sl).extractLsb' (32 * j) 32).setWidth 64
  let x : W64 := (g.rs r &&& ~~~own) ||| ((v.extractLsb' (32 * j) 32).setWidth 64 &&& own)
  (g.rs r &&& ~~~(g.writable sl r)) ||| (x &&& g.writable sl r)

theorem Group.writeWord_rs (g : Group) (sl : List Nat) (r j k : Nat) (v : BitVec 96) (h : r < 116 ∨ 123 < r) :
    (g.writeWord sl r j v).rs k = if k = r then g.tripleWord sl r j v else g.rs k := by
  unfold Group.writeWord
  rw [Group.writeS_of_not_rejoin _ _ _ _ h]
  have := Group.rs_putS g sl r k
    ((g.rs r &&& ~~~(((g.ownBits sl).extractLsb' (32 * j) 32).setWidth 64 : W64))
      ||| ((v.extractLsb' (32 * j) 32).setWidth 64 &&& (((g.ownBits sl).extractLsb' (32 * j) 32).setWidth 64 : W64)))
  simpa [Group.tripleWord, Group.rs] using this

theorem Group.writeWord_eq (g : Group) (sl : List Nat) (r j : Nat) (v : BitVec 96) (h : r < 116 ∨ 123 < r) :
    g.writeWord sl r j v = { g with s := (g.writeWord sl r j v).s,
                                    pending := g.pending.map (Pending.dropS r (g.takes sl r)),
                                    memOps := g.memOps.map (MemOp.dropS r (g.takes sl r)) } := by
  unfold Group.writeWord
  rw [Group.writeS_of_not_rejoin _ _ _ _ h]
  rfl

theorem Group.writeWord_writable (g : Group) (sl : List Nat) (r j : Nat) (v : BitVec 96) (sl' : List Nat) (k : Nat)
    (h : r < 116 ∨ 123 < r) : (g.writeWord sl r j v).writable sl' k = g.writable sl' k := by
  rw [Group.writeWord_eq _ _ _ _ _ h]
  rfl

theorem Group.writeWord_ownBits (g : Group) (sl : List Nat) (r j : Nat) (v : BitVec 96) (sl' : List Nat)
    (h : r < 116 ∨ 123 < r) : (g.writeWord sl r j v).ownBits sl' = g.ownBits sl' := by
  rw [Group.writeWord_eq _ _ _ _ _ h]
  rfl

theorem Group.writeWord_takes (g : Group) (sl : List Nat) (r j : Nat) (v : BitVec 96) (sl' : List Nat) (k : Nat)
    (h : r < 116 ∨ 123 < r) : (g.writeWord sl r j v).takes sl' k = g.takes sl' k := by
  rw [Group.writeWord_eq _ _ _ _ _ h]
  rfl

theorem Group.writeWord_tripleWord (g : Group) (sl : List Nat) (r j : Nat) (v w : BitVec 96) (k i : Nat)
    (h : r < 116 ∨ 123 < r) (hk : k ≠ r) : (g.writeWord sl r j v).tripleWord sl k i w = g.tripleWord sl k i w := by
  unfold Group.tripleWord
  rw [Group.writeWord_writable _ _ _ _ _ _ _ h, Group.writeWord_ownBits _ _ _ _ _ _ h, Group.writeWord_rs _ _ _ _ _ _ h,
    if_neg hk]

/-- A triple write outside the rejoin registers: the three registers take the gang's bits, and no other register changes. -/
theorem Group.writeTriple_rs (g : Group) (sl : List Nat) (d r : Nat) (v : BitVec 96) (h : d + 2 < 116 ∨ 123 < d) :
    (g.writeTriple sl d v).rs r = if d ≤ r ∧ r ≤ d + 2 then g.tripleWord sl r (r - d) v else g.rs r := by
  unfold Group.writeTriple
  rw [Group.writeWord_rs _ _ _ _ _ _ (by omega), Group.writeWord_tripleWord _ _ _ _ _ _ _ _ (by omega) (by omega),
    Group.writeWord_tripleWord _ _ _ _ _ _ _ _ (by omega) (by omega), Group.writeWord_rs _ _ _ _ _ _ (by omega),
    Group.writeWord_tripleWord _ _ _ _ _ _ _ _ (by omega) (by omega), Group.writeWord_rs _ _ _ _ _ _ (by omega)]
  by_cases h0 : r = d
  · subst h0; simp
  · by_cases h1 : r = d + 1
    · subst h1; simp
    · by_cases h2 : r = d + 2
      · subst h2; simp
      · rw [if_neg h2, if_neg h1, if_neg h0, if_neg (by omega)]

theorem Group.writeTriple_eq (g : Group) (sl : List Nat) (d : Nat) (v : BitVec 96) (h : d + 2 < 116 ∨ 123 < d) :
    g.writeTriple sl d v = { g with s := (g.writeTriple sl d v).s
                                    pending := ((g.pending.map (Pending.dropS d (g.takes sl d))).map
                                      (Pending.dropS (d + 1) (g.takes sl (d + 1)))).map
                                      (Pending.dropS (d + 2) (g.takes sl (d + 2)))
                                    memOps := ((g.memOps.map (MemOp.dropS d (g.takes sl d))).map
                                      (MemOp.dropS (d + 1) (g.takes sl (d + 1)))).map
                                      (MemOp.dropS (d + 2) (g.takes sl (d + 2))) } := by
  unfold Group.writeTriple
  rw [Group.writeWord_eq _ _ _ _ _ (by omega : d + 2 < 116 ∨ 123 < d + 2),
    Group.writeWord_takes _ _ _ _ _ _ _ (by omega : d + 1 < 116 ∨ 123 < d + 1),
    Group.writeWord_takes _ _ _ _ _ _ _ (by omega : d < 116 ∨ 123 < d),
    Group.writeWord_eq _ _ _ _ _ (by omega : d + 1 < 116 ∨ 123 < d + 1),
    Group.writeWord_takes _ _ _ _ _ _ _ (by omega : d < 116 ∨ 123 < d),
    Group.writeWord_eq g _ _ _ _ (by omega : d < 116 ∨ 123 < d)]

/-- The bits of a compare: those of the lanes of Active() in which it holds. -/
theorem Group.getLsbD_laneBits (g : Group) (sl : List Nat) (p : Nat → Bool) (l : Nat) :
    (g.laneBits sl p).getLsbD l = (decide (l < g.visible) && (g.activeBits sl).getLsbD l && p (g.physLane l)) := by
  have step : ∀ (ls : List Nat) (w : BitVec 96),
      (ls.foldl (fun w l => if p (g.physLane l) then w ||| (1#96 <<< l) else w) w).getLsbD l
        = (w.getLsbD l || (decide (l < 96) && decide (l ∈ ls) && p (g.physLane l))) := by
    intro ls
    induction ls with
    | nil => simp
    | cons x ls ih =>
      intro w
      rw [List.foldl_cons, ih]
      by_cases hx : l = x
      · subst hx
        cases hp : p (g.physLane l) <;> by_cases h96 : l < 96 <;> simp [BitVec.getLsbD_or, BitVec.getLsbD_shiftLeft, *]
      · have : ∀ m : Nat, (1#96 <<< x).getLsbD l = false := by
          intro _
          rw [BitVec.getLsbD_shiftLeft]
          by_cases h : l < x
          · simp [h]
          · simp [show l - x ≠ 0 by omega]
        split <;> simp [BitVec.getLsbD_or, this 0, hx]
  unfold Group.laneBits
  rw [step]
  by_cases h96 : l < 96
  · simp [h96, Group.activeVis, List.mem_filter, Bool.and_assoc]
  · simp [h96, BitVec.getLsbD_of_ge _ _ (by omega : 96 ≤ l)]

end Sys2Proof.Machine
end

