-- ==== Sys2Proof/Laws/State.lean ====
section
/-! SUPPORT. What the named updates of the state leave as it was, one lemma per field: later proofs cite these and unfold
no record update. -/

namespace Sys2Proof.Machine

/-! ### A block -/

@[simp] theorem State.putBlock_agenda (s : State) (k : Nat) (b : Block) : (s.putBlock k b).agenda = s.agenda := rfl
@[simp] theorem State.putBlock_cursor (s : State) (k : Nat) (b : Block) : (s.putBlock k b).cursor = s.cursor := rfl
@[simp] theorem State.putBlock_turn (s : State) (k : Nat) (b : Block) : (s.putBlock k b).turn = s.turn := rfl
@[simp] theorem State.putBlock_serial (s : State) (k : Nat) (b : Block) : (s.putBlock k b).serial = s.serial := rfl
@[simp] theorem State.putBlock_free (s : State) (k : Nat) (b : Block) : (s.putBlock k b).free = s.free := rfl
@[simp] theorem State.putBlock_outbox (s : State) (k : Nat) (b : Block) : (s.putBlock k b).outbox = s.outbox := rfl
@[simp] theorem State.putBlock_pkg (s : State) (k : Nat) (b : Block) : (s.putBlock k b).pkg = s.pkg := rfl
@[simp] theorem State.putBlock_host (s : State) (k : Nat) (b : Block) : (s.putBlock k b).host = s.host := rfl
@[simp] theorem State.putBlock_fw (s : State) (k : Nat) (b : Block) : (s.putBlock k b).fw = s.fw := rfl
@[simp] theorem State.putBlock_trust (s : State) (k : Nat) (b : Block) : (s.putBlock k b).trust = s.trust := rfl
@[simp] theorem State.putBlock_fab (s : State) (k : Nat) (b : Block) : (s.putBlock k b).fab = s.fab := rfl
@[simp] theorem State.putBlock_cur (s : State) (k : Nat) (b : Block) : (s.putBlock k b).cur = s.cur := rfl
@[simp] theorem State.putBlock_conf (s : State) (k : Nat) (b : Block) : (s.putBlock k b).conf = s.conf := rfl
@[simp] theorem State.putBlock_mem (s : State) (k : Nat) (b : Block) : (s.putBlock k b).mem = s.mem := rfl
@[simp] theorem State.putBlock_cores (s : State) (k : Nat) (b : Block) : (s.putBlock k b).cores = s.cores := rfl
@[simp] theorem State.putBlock_groups (s : State) (k : Nat) (b : Block) : (s.putBlock k b).groups = s.groups := rfl
@[simp] theorem State.putBlock_cmds (s : State) (k : Nat) (b : Block) : (s.putBlock k b).cmds = s.cmds := rfl
@[simp] theorem State.putBlock_nextCmd (s : State) (k : Nat) (b : Block) : (s.putBlock k b).nextCmd = s.nextCmd := rfl

/-! ### A command -/

@[simp] theorem State.putCommand_agenda (s : State) (k : Nat) (c : Command) : (s.putCommand k c).agenda = s.agenda := rfl
@[simp] theorem State.putCommand_cursor (s : State) (k : Nat) (c : Command) : (s.putCommand k c).cursor = s.cursor := rfl
@[simp] theorem State.putCommand_turn (s : State) (k : Nat) (c : Command) : (s.putCommand k c).turn = s.turn := rfl
@[simp] theorem State.putCommand_serial (s : State) (k : Nat) (c : Command) : (s.putCommand k c).serial = s.serial := rfl
@[simp] theorem State.putCommand_free (s : State) (k : Nat) (c : Command) : (s.putCommand k c).free = s.free := rfl
@[simp] theorem State.putCommand_outbox (s : State) (k : Nat) (c : Command) : (s.putCommand k c).outbox = s.outbox := rfl
@[simp] theorem State.putCommand_pkg (s : State) (k : Nat) (c : Command) : (s.putCommand k c).pkg = s.pkg := rfl
@[simp] theorem State.putCommand_host (s : State) (k : Nat) (c : Command) : (s.putCommand k c).host = s.host := rfl
@[simp] theorem State.putCommand_fw (s : State) (k : Nat) (c : Command) : (s.putCommand k c).fw = s.fw := rfl
@[simp] theorem State.putCommand_trust (s : State) (k : Nat) (c : Command) : (s.putCommand k c).trust = s.trust := rfl
@[simp] theorem State.putCommand_fab (s : State) (k : Nat) (c : Command) : (s.putCommand k c).fab = s.fab := rfl
@[simp] theorem State.putCommand_cur (s : State) (k : Nat) (c : Command) : (s.putCommand k c).cur = s.cur := rfl
@[simp] theorem State.putCommand_conf (s : State) (k : Nat) (c : Command) : (s.putCommand k c).conf = s.conf := rfl
@[simp] theorem State.putCommand_disp (s : State) (k : Nat) (c : Command) : (s.putCommand k c).disp = s.disp := rfl
@[simp] theorem State.putCommand_mem (s : State) (k : Nat) (c : Command) : (s.putCommand k c).mem = s.mem := rfl
@[simp] theorem State.putCommand_cores (s : State) (k : Nat) (c : Command) : (s.putCommand k c).cores = s.cores := rfl
@[simp] theorem State.putCommand_groups (s : State) (k : Nat) (c : Command) : (s.putCommand k c).groups = s.groups := rfl
@[simp] theorem State.putCommand_nextCmd (s : State) (k : Nat) (c : Command) : (s.putCommand k c).nextCmd = s.nextCmd := rfl

/-! ### A context descriptor -/

@[simp] theorem State.putCtx_agenda (s : State) (n : BitVec 20) (d : Descriptor) : (s.putCtx n d).agenda = s.agenda := rfl
@[simp] theorem State.putCtx_cursor (s : State) (n : BitVec 20) (d : Descriptor) : (s.putCtx n d).cursor = s.cursor := rfl
@[simp] theorem State.putCtx_turn (s : State) (n : BitVec 20) (d : Descriptor) : (s.putCtx n d).turn = s.turn := rfl
@[simp] theorem State.putCtx_serial (s : State) (n : BitVec 20) (d : Descriptor) : (s.putCtx n d).serial = s.serial := rfl
@[simp] theorem State.putCtx_free (s : State) (n : BitVec 20) (d : Descriptor) : (s.putCtx n d).free = s.free := rfl
@[simp] theorem State.putCtx_outbox (s : State) (n : BitVec 20) (d : Descriptor) : (s.putCtx n d).outbox = s.outbox := rfl
@[simp] theorem State.putCtx_pkg (s : State) (n : BitVec 20) (d : Descriptor) : (s.putCtx n d).pkg = s.pkg := rfl
@[simp] theorem State.putCtx_host (s : State) (n : BitVec 20) (d : Descriptor) : (s.putCtx n d).host = s.host := rfl
@[simp] theorem State.putCtx_fw (s : State) (n : BitVec 20) (d : Descriptor) : (s.putCtx n d).fw = s.fw := rfl
@[simp] theorem State.putCtx_fab (s : State) (n : BitVec 20) (d : Descriptor) : (s.putCtx n d).fab = s.fab := rfl
@[simp] theorem State.putCtx_cur (s : State) (n : BitVec 20) (d : Descriptor) : (s.putCtx n d).cur = s.cur := rfl
@[simp] theorem State.putCtx_conf (s : State) (n : BitVec 20) (d : Descriptor) : (s.putCtx n d).conf = s.conf := rfl
@[simp] theorem State.putCtx_disp (s : State) (n : BitVec 20) (d : Descriptor) : (s.putCtx n d).disp = s.disp := rfl
@[simp] theorem State.putCtx_mem (s : State) (n : BitVec 20) (d : Descriptor) : (s.putCtx n d).mem = s.mem := rfl
@[simp] theorem State.putCtx_cores (s : State) (n : BitVec 20) (d : Descriptor) : (s.putCtx n d).cores = s.cores := rfl
@[simp] theorem State.putCtx_groups (s : State) (n : BitVec 20) (d : Descriptor) : (s.putCtx n d).groups = s.groups := rfl
@[simp] theorem State.putCtx_cmds (s : State) (n : BitVec 20) (d : Descriptor) : (s.putCtx n d).cmds = s.cmds := rfl
@[simp] theorem State.putCtx_nextCmd (s : State) (n : BitVec 20) (d : Descriptor) : (s.putCtx n d).nextCmd = s.nextCmd := rfl

/-! ### A key slot -/

@[simp] theorem State.putSlot_agenda (s : State) (n : Nat) (k : KeySlot) : (s.putSlot n k).agenda = s.agenda := rfl
@[simp] theorem State.putSlot_cursor (s : State) (n : Nat) (k : KeySlot) : (s.putSlot n k).cursor = s.cursor := rfl
@[simp] theorem State.putSlot_turn (s : State) (n : Nat) (k : KeySlot) : (s.putSlot n k).turn = s.turn := rfl
@[simp] theorem State.putSlot_serial (s : State) (n : Nat) (k : KeySlot) : (s.putSlot n k).serial = s.serial := rfl
@[simp] theorem State.putSlot_free (s : State) (n : Nat) (k : KeySlot) : (s.putSlot n k).free = s.free := rfl
@[simp] theorem State.putSlot_outbox (s : State) (n : Nat) (k : KeySlot) : (s.putSlot n k).outbox = s.outbox := rfl
@[simp] theorem State.putSlot_pkg (s : State) (n : Nat) (k : KeySlot) : (s.putSlot n k).pkg = s.pkg := rfl
@[simp] theorem State.putSlot_host (s : State) (n : Nat) (k : KeySlot) : (s.putSlot n k).host = s.host := rfl
@[simp] theorem State.putSlot_fw (s : State) (n : Nat) (k : KeySlot) : (s.putSlot n k).fw = s.fw := rfl
@[simp] theorem State.putSlot_fab (s : State) (n : Nat) (k : KeySlot) : (s.putSlot n k).fab = s.fab := rfl
@[simp] theorem State.putSlot_cur (s : State) (n : Nat) (k : KeySlot) : (s.putSlot n k).cur = s.cur := rfl
@[simp] theorem State.putSlot_conf (s : State) (n : Nat) (k : KeySlot) : (s.putSlot n k).conf = s.conf := rfl
@[simp] theorem State.putSlot_disp (s : State) (n : Nat) (k : KeySlot) : (s.putSlot n k).disp = s.disp := rfl
@[simp] theorem State.putSlot_mem (s : State) (n : Nat) (k : KeySlot) : (s.putSlot n k).mem = s.mem := rfl
@[simp] theorem State.putSlot_cores (s : State) (n : Nat) (k : KeySlot) : (s.putSlot n k).cores = s.cores := rfl
@[simp] theorem State.putSlot_groups (s : State) (n : Nat) (k : KeySlot) : (s.putSlot n k).groups = s.groups := rfl
@[simp] theorem State.putSlot_cmds (s : State) (n : Nat) (k : KeySlot) : (s.putSlot n k).cmds = s.cmds := rfl
@[simp] theorem State.putSlot_nextCmd (s : State) (n : Nat) (k : KeySlot) : (s.putSlot n k).nextCmd = s.nextCmd := rfl

/-! ### A sending window -/

@[simp] theorem State.putTx_agenda (s : State) (k : PairKey) (w : TxWindow) : (s.putTx k w).agenda = s.agenda := rfl
@[simp] theorem State.putTx_cursor (s : State) (k : PairKey) (w : TxWindow) : (s.putTx k w).cursor = s.cursor := rfl
@[simp] theorem State.putTx_turn (s : State) (k : PairKey) (w : TxWindow) : (s.putTx k w).turn = s.turn := rfl
@[simp] theorem State.putTx_serial (s : State) (k : PairKey) (w : TxWindow) : (s.putTx k w).serial = s.serial := rfl
@[simp] theorem State.putTx_free (s : State) (k : PairKey) (w : TxWindow) : (s.putTx k w).free = s.free := rfl
@[simp] theorem State.putTx_outbox (s : State) (k : PairKey) (w : TxWindow) : (s.putTx k w).outbox = s.outbox := rfl
@[simp] theorem State.putTx_pkg (s : State) (k : PairKey) (w : TxWindow) : (s.putTx k w).pkg = s.pkg := rfl
@[simp] theorem State.putTx_host (s : State) (k : PairKey) (w : TxWindow) : (s.putTx k w).host = s.host := rfl
@[simp] theorem State.putTx_fw (s : State) (k : PairKey) (w : TxWindow) : (s.putTx k w).fw = s.fw := rfl
@[simp] theorem State.putTx_trust (s : State) (k : PairKey) (w : TxWindow) : (s.putTx k w).trust = s.trust := rfl
@[simp] theorem State.putTx_cur (s : State) (k : PairKey) (w : TxWindow) : (s.putTx k w).cur = s.cur := rfl
@[simp] theorem State.putTx_conf (s : State) (k : PairKey) (w : TxWindow) : (s.putTx k w).conf = s.conf := rfl
@[simp] theorem State.putTx_disp (s : State) (k : PairKey) (w : TxWindow) : (s.putTx k w).disp = s.disp := rfl
@[simp] theorem State.putTx_mem (s : State) (k : PairKey) (w : TxWindow) : (s.putTx k w).mem = s.mem := rfl
@[simp] theorem State.putTx_cores (s : State) (k : PairKey) (w : TxWindow) : (s.putTx k w).cores = s.cores := rfl
@[simp] theorem State.putTx_groups (s : State) (k : PairKey) (w : TxWindow) : (s.putTx k w).groups = s.groups := rfl
@[simp] theorem State.putTx_cmds (s : State) (k : PairKey) (w : TxWindow) : (s.putTx k w).cmds = s.cmds := rfl
@[simp] theorem State.putTx_nextCmd (s : State) (k : PairKey) (w : TxWindow) : (s.putTx k w).nextCmd = s.nextCmd := rfl

/-! ### A receiving window -/

@[simp] theorem State.putRx_agenda (s : State) (k : PairKey) (w : RxWindow) : (s.putRx k w).agenda = s.agenda := rfl
@[simp] theorem State.putRx_cursor (s : State) (k : PairKey) (w : RxWindow) : (s.putRx k w).cursor = s.cursor := rfl
@[simp] theorem State.putRx_turn (s : State) (k : PairKey) (w : RxWindow) : (s.putRx k w).turn = s.turn := rfl
@[simp] theorem State.putRx_serial (s : State) (k : PairKey) (w : RxWindow) : (s.putRx k w).serial = s.serial := rfl
@[simp] theorem State.putRx_free (s : State) (k : PairKey) (w : RxWindow) : (s.putRx k w).free = s.free := rfl
@[simp] theorem State.putRx_outbox (s : State) (k : PairKey) (w : RxWindow) : (s.putRx k w).outbox = s.outbox := rfl
@[simp] theorem State.putRx_pkg (s : State) (k : PairKey) (w : RxWindow) : (s.putRx k w).pkg = s.pkg := rfl
@[simp] theorem State.putRx_host (s : State) (k : PairKey) (w : RxWindow) : (s.putRx k w).host = s.host := rfl
@[simp] theorem State.putRx_fw (s : State) (k : PairKey) (w : RxWindow) : (s.putRx k w).fw = s.fw := rfl
@[simp] theorem State.putRx_trust (s : State) (k : PairKey) (w : RxWindow) : (s.putRx k w).trust = s.trust := rfl
@[simp] theorem State.putRx_cur (s : State) (k : PairKey) (w : RxWindow) : (s.putRx k w).cur = s.cur := rfl
@[simp] theorem State.putRx_conf (s : State) (k : PairKey) (w : RxWindow) : (s.putRx k w).conf = s.conf := rfl
@[simp] theorem State.putRx_disp (s : State) (k : PairKey) (w : RxWindow) : (s.putRx k w).disp = s.disp := rfl
@[simp] theorem State.putRx_mem (s : State) (k : PairKey) (w : RxWindow) : (s.putRx k w).mem = s.mem := rfl
@[simp] theorem State.putRx_cores (s : State) (k : PairKey) (w : RxWindow) : (s.putRx k w).cores = s.cores := rfl
@[simp] theorem State.putRx_groups (s : State) (k : PairKey) (w : RxWindow) : (s.putRx k w).groups = s.groups := rfl
@[simp] theorem State.putRx_cmds (s : State) (k : PairKey) (w : RxWindow) : (s.putRx k w).cmds = s.cmds := rfl
@[simp] theorem State.putRx_nextCmd (s : State) (k : PairKey) (w : RxWindow) : (s.putRx k w).nextCmd = s.nextCmd := rfl

/-! ### The watchdog -/

@[simp] theorem State.restartWatchdog_agenda (s : State) (die : Nat) : (s.restartWatchdog die).agenda = s.agenda := rfl
@[simp] theorem State.restartWatchdog_cursor (s : State) (die : Nat) : (s.restartWatchdog die).cursor = s.cursor := rfl
@[simp] theorem State.restartWatchdog_turn (s : State) (die : Nat) : (s.restartWatchdog die).turn = s.turn := rfl
@[simp] theorem State.restartWatchdog_serial (s : State) (die : Nat) : (s.restartWatchdog die).serial = s.serial := rfl
@[simp] theorem State.restartWatchdog_free (s : State) (die : Nat) : (s.restartWatchdog die).free = s.free := rfl
@[simp] theorem State.restartWatchdog_outbox (s : State) (die : Nat) : (s.restartWatchdog die).outbox = s.outbox := rfl
@[simp] theorem State.restartWatchdog_pkg (s : State) (die : Nat) : (s.restartWatchdog die).pkg = s.pkg := rfl
@[simp] theorem State.restartWatchdog_host (s : State) (die : Nat) : (s.restartWatchdog die).host = s.host := rfl
@[simp] theorem State.restartWatchdog_trust (s : State) (die : Nat) : (s.restartWatchdog die).trust = s.trust := rfl
@[simp] theorem State.restartWatchdog_fab (s : State) (die : Nat) : (s.restartWatchdog die).fab = s.fab := rfl
@[simp] theorem State.restartWatchdog_cur (s : State) (die : Nat) : (s.restartWatchdog die).cur = s.cur := rfl
@[simp] theorem State.restartWatchdog_conf (s : State) (die : Nat) : (s.restartWatchdog die).conf = s.conf := rfl
@[simp] theorem State.restartWatchdog_disp (s : State) (die : Nat) : (s.restartWatchdog die).disp = s.disp := rfl
@[simp] theorem State.restartWatchdog_mem (s : State) (die : Nat) : (s.restartWatchdog die).mem = s.mem := rfl
@[simp] theorem State.restartWatchdog_cores (s : State) (die : Nat) : (s.restartWatchdog die).cores = s.cores := rfl
@[simp] theorem State.restartWatchdog_groups (s : State) (die : Nat) : (s.restartWatchdog die).groups = s.groups := rfl
@[simp] theorem State.restartWatchdog_cmds (s : State) (die : Nat) : (s.restartWatchdog die).cmds = s.cmds := rfl
@[simp] theorem State.restartWatchdog_nextCmd (s : State) (die : Nat) : (s.restartWatchdog die).nextCmd = s.nextCmd := rfl

/-! ### A tick -/

@[simp] theorem State.ticked_agenda (s : State) : (s.ticked).agenda = s.agenda := rfl
@[simp] theorem State.ticked_cursor (s : State) : (s.ticked).cursor = s.cursor := rfl
@[simp] theorem State.ticked_turn (s : State) : (s.ticked).turn = s.turn := rfl
@[simp] theorem State.ticked_serial (s : State) : (s.ticked).serial = s.serial := rfl
@[simp] theorem State.ticked_free (s : State) : (s.ticked).free = s.free := rfl
@[simp] theorem State.ticked_outbox (s : State) : (s.ticked).outbox = s.outbox := rfl
@[simp] theorem State.ticked_host (s : State) : (s.ticked).host = s.host := rfl
@[simp] theorem State.ticked_trust (s : State) : (s.ticked).trust = s.trust := rfl
@[simp] theorem State.ticked_fab (s : State) : (s.ticked).fab = s.fab := rfl
@[simp] theorem State.ticked_cur (s : State) : (s.ticked).cur = s.cur := rfl
@[simp] theorem State.ticked_conf (s : State) : (s.ticked).conf = s.conf := rfl
@[simp] theorem State.ticked_disp (s : State) : (s.ticked).disp = s.disp := rfl
@[simp] theorem State.ticked_mem (s : State) : (s.ticked).mem = s.mem := rfl
@[simp] theorem State.ticked_cores (s : State) : (s.ticked).cores = s.cores := rfl
@[simp] theorem State.ticked_cmds (s : State) : (s.ticked).cmds = s.cmds := rfl
@[simp] theorem State.ticked_nextCmd (s : State) : (s.ticked).nextCmd = s.nextCmd := rfl

/-! ### A group queued for activation -/

@[simp] theorem State.queueReleased_agenda (s : State) (o : Option Group) (h : Nat) (g : Group) : (s.queueReleased o h g).agenda = s.agenda := by
  unfold State.queueReleased; split <;> rfl
@[simp] theorem State.queueReleased_cursor (s : State) (o : Option Group) (h : Nat) (g : Group) : (s.queueReleased o h g).cursor = s.cursor := by
  unfold State.queueReleased; split <;> rfl
@[simp] theorem State.queueReleased_turn (s : State) (o : Option Group) (h : Nat) (g : Group) : (s.queueReleased o h g).turn = s.turn := by
  unfold State.queueReleased; split <;> rfl
@[simp] theorem State.queueReleased_serial (s : State) (o : Option Group) (h : Nat) (g : Group) : (s.queueReleased o h g).serial = s.serial := by
  unfold State.queueReleased; split <;> rfl
@[simp] theorem State.queueReleased_free (s : State) (o : Option Group) (h : Nat) (g : Group) : (s.queueReleased o h g).free = s.free := by
  unfold State.queueReleased; split <;> rfl
@[simp] theorem State.queueReleased_outbox (s : State) (o : Option Group) (h : Nat) (g : Group) : (s.queueReleased o h g).outbox = s.outbox := by
  unfold State.queueReleased; split <;> rfl
@[simp] theorem State.queueReleased_pkg (s : State) (o : Option Group) (h : Nat) (g : Group) : (s.queueReleased o h g).pkg = s.pkg := by
  unfold State.queueReleased; split <;> rfl
@[simp] theorem State.queueReleased_host (s : State) (o : Option Group) (h : Nat) (g : Group) : (s.queueReleased o h g).host = s.host := by
  unfold State.queueReleased; split <;> rfl
@[simp] theorem State.queueReleased_fw (s : State) (o : Option Group) (h : Nat) (g : Group) : (s.queueReleased o h g).fw = s.fw := by
  unfold State.queueReleased; split <;> rfl
@[simp] theorem State.queueReleased_trust (s : State) (o : Option Group) (h : Nat) (g : Group) : (s.queueReleased o h g).trust = s.trust := by
  unfold State.queueReleased; split <;> rfl
@[simp] theorem State.queueReleased_fab (s : State) (o : Option Group) (h : Nat) (g : Group) : (s.queueReleased o h g).fab = s.fab := by
  unfold State.queueReleased; split <;> rfl
@[simp] theorem State.queueReleased_cur (s : State) (o : Option Group) (h : Nat) (g : Group) : (s.queueReleased o h g).cur = s.cur := by
  unfold State.queueReleased; split <;> rfl
@[simp] theorem State.queueReleased_conf (s : State) (o : Option Group) (h : Nat) (g : Group) : (s.queueReleased o h g).conf = s.conf := by
  unfold State.queueReleased; split <;> rfl
@[simp] theorem State.queueReleased_disp (s : State) (o : Option Group) (h : Nat) (g : Group) : (s.queueReleased o h g).disp = s.disp := by
  unfold State.queueReleased; split <;> rfl
@[simp] theorem State.queueReleased_mem (s : State) (o : Option Group) (h : Nat) (g : Group) : (s.queueReleased o h g).mem = s.mem := by
  unfold State.queueReleased; split <;> rfl
@[simp] theorem State.queueReleased_groups (s : State) (o : Option Group) (h : Nat) (g : Group) : (s.queueReleased o h g).groups = s.groups := by
  unfold State.queueReleased; split <;> rfl
@[simp] theorem State.queueReleased_cmds (s : State) (o : Option Group) (h : Nat) (g : Group) : (s.queueReleased o h g).cmds = s.cmds := by
  unfold State.queueReleased; split <;> rfl
@[simp] theorem State.queueReleased_nextCmd (s : State) (o : Option Group) (h : Nat) (g : Group) : (s.queueReleased o h g).nextCmd = s.nextCmd := by
  unfold State.queueReleased; split <;> rfl

/-! ### A group -/

@[simp] theorem State.putGroup_agenda (s : State) (h : Nat) (g : Group) : (s.putGroup h g).agenda = s.agenda := by
  simp [State.putGroup]
@[simp] theorem State.putGroup_cursor (s : State) (h : Nat) (g : Group) : (s.putGroup h g).cursor = s.cursor := by
  simp [State.putGroup]
@[simp] theorem State.putGroup_turn (s : State) (h : Nat) (g : Group) : (s.putGroup h g).turn = s.turn := by
  simp [State.putGroup]
@[simp] theorem State.putGroup_serial (s : State) (h : Nat) (g : Group) : (s.putGroup h g).serial = s.serial := by
  simp [State.putGroup]
@[simp] theorem State.putGroup_free (s : State) (h : Nat) (g : Group) : (s.putGroup h g).free = s.free := by
  simp [State.putGroup]
@[simp] theorem State.putGroup_outbox (s : State) (h : Nat) (g : Group) : (s.putGroup h g).outbox = s.outbox := by
  simp [State.putGroup]
@[simp] theorem State.putGroup_pkg (s : State) (h : Nat) (g : Group) : (s.putGroup h g).pkg = s.pkg := by
  simp [State.putGroup]
@[simp] theorem State.putGroup_host (s : State) (h : Nat) (g : Group) : (s.putGroup h g).host = s.host := by
  simp [State.putGroup]
@[simp] theorem State.putGroup_fw (s : State) (h : Nat) (g : Group) : (s.putGroup h g).fw = s.fw := by
  simp [State.putGroup]
@[simp] theorem State.putGroup_trust (s : State) (h : Nat) (g : Group) : (s.putGroup h g).trust = s.trust := by
  simp [State.putGroup]
@[simp] theorem State.putGroup_fab (s : State) (h : Nat) (g : Group) : (s.putGroup h g).fab = s.fab := by
  simp [State.putGroup]
@[simp] theorem State.putGroup_cur (s : State) (h : Nat) (g : Group) : (s.putGroup h g).cur = s.cur := by
  simp [State.putGroup]
@[simp] theorem State.putGroup_conf (s : State) (h : Nat) (g : Group) : (s.putGroup h g).conf = s.conf := by
  simp [State.putGroup]
@[simp] theorem State.putGroup_disp (s : State) (h : Nat) (g : Group) : (s.putGroup h g).disp = s.disp := by
  simp [State.putGroup]
@[simp] theorem State.putGroup_mem (s : State) (h : Nat) (g : Group) : (s.putGroup h g).mem = s.mem := by
  simp [State.putGroup]
@[simp] theorem State.putGroup_cmds (s : State) (h : Nat) (g : Group) : (s.putGroup h g).cmds = s.cmds := by
  simp [State.putGroup]
@[simp] theorem State.putGroup_nextCmd (s : State) (h : Nat) (g : Group) : (s.putGroup h g).nextCmd = s.nextCmd := by
  simp [State.putGroup]

/-! ### An error record -/

@[simp] theorem State.errorRecord_agenda (s : State) (d u : Nat) (c : BitVec 16) (v : Nat) (l : List Byte) : (s.errorRecord d u c v l).agenda = s.agenda := by
  unfold State.errorRecord; simp only; split <;> rfl
@[simp] theorem State.errorRecord_cursor (s : State) (d u : Nat) (c : BitVec 16) (v : Nat) (l : List Byte) : (s.errorRecord d u c v l).cursor = s.cursor := by
  unfold State.errorRecord; simp only; split <;> rfl
@[simp] theorem State.errorRecord_turn (s : State) (d u : Nat) (c : BitVec 16) (v : Nat) (l : List Byte) : (s.errorRecord d u c v l).turn = s.turn := by
  unfold State.errorRecord; simp only; split <;> rfl
@[simp] theorem State.errorRecord_serial (s : State) (d u : Nat) (c : BitVec 16) (v : Nat) (l : List Byte) : (s.errorRecord d u c v l).serial = s.serial := by
  unfold State.errorRecord; simp only; split <;> rfl
@[simp] theorem State.errorRecord_free (s : State) (d u : Nat) (c : BitVec 16) (v : Nat) (l : List Byte) : (s.errorRecord d u c v l).free = s.free := by
  unfold State.errorRecord; simp only; split <;> rfl
@[simp] theorem State.errorRecord_outbox (s : State) (d u : Nat) (c : BitVec 16) (v : Nat) (l : List Byte) : (s.errorRecord d u c v l).outbox = s.outbox := by
  unfold State.errorRecord; simp only; split <;> rfl
@[simp] theorem State.errorRecord_pkg (s : State) (d u : Nat) (c : BitVec 16) (v : Nat) (l : List Byte) : (s.errorRecord d u c v l).pkg = s.pkg := by
  unfold State.errorRecord; simp only; split <;> rfl
@[simp] theorem State.errorRecord_fw (s : State) (d u : Nat) (c : BitVec 16) (v : Nat) (l : List Byte) : (s.errorRecord d u c v l).fw = s.fw := by
  unfold State.errorRecord; simp only; split <;> rfl
@[simp] theorem State.errorRecord_trust (s : State) (d u : Nat) (c : BitVec 16) (v : Nat) (l : List Byte) : (s.errorRecord d u c v l).trust = s.trust := by
  unfold State.errorRecord; simp only; split <;> rfl
@[simp] theorem State.errorRecord_fab (s : State) (d u : Nat) (c : BitVec 16) (v : Nat) (l : List Byte) : (s.errorRecord d u c v l).fab = s.fab := by
  unfold State.errorRecord; simp only; split <;> rfl
@[simp] theorem State.errorRecord_cur (s : State) (d u : Nat) (c : BitVec 16) (v : Nat) (l : List Byte) : (s.errorRecord d u c v l).cur = s.cur := by
  unfold State.errorRecord; simp only; split <;> rfl
@[simp] theorem State.errorRecord_conf (s : State) (d u : Nat) (c : BitVec 16) (v : Nat) (l : List Byte) : (s.errorRecord d u c v l).conf = s.conf := by
  unfold State.errorRecord; simp only; split <;> rfl
@[simp] theorem State.errorRecord_disp (s : State) (d u : Nat) (c : BitVec 16) (v : Nat) (l : List Byte) : (s.errorRecord d u c v l).disp = s.disp := by
  unfold State.errorRecord; simp only; split <;> rfl
@[simp] theorem State.errorRecord_mem (s : State) (d u : Nat) (c : BitVec 16) (v : Nat) (l : List Byte) : (s.errorRecord d u c v l).mem = s.mem := by
  unfold State.errorRecord; simp only; split <;> rfl
@[simp] theorem State.errorRecord_cores (s : State) (d u : Nat) (c : BitVec 16) (v : Nat) (l : List Byte) : (s.errorRecord d u c v l).cores = s.cores := by
  unfold State.errorRecord; simp only; split <;> rfl
@[simp] theorem State.errorRecord_groups (s : State) (d u : Nat) (c : BitVec 16) (v : Nat) (l : List Byte) : (s.errorRecord d u c v l).groups = s.groups := by
  unfold State.errorRecord; simp only; split <;> rfl
@[simp] theorem State.errorRecord_cmds (s : State) (d u : Nat) (c : BitVec 16) (v : Nat) (l : List Byte) : (s.errorRecord d u c v l).cmds = s.cmds := by
  unfold State.errorRecord; simp only; split <;> rfl
@[simp] theorem State.errorRecord_nextCmd (s : State) (d u : Nat) (c : BitVec 16) (v : Nat) (l : List Byte) : (s.errorRecord d u c v l).nextCmd = s.nextCmd := by
  unfold State.errorRecord; simp only; split <;> rfl

/-! ### A packet that leaves -/

/-- Frames change the fabric's state and the outbox alone. -/
theorem State.emitFrames_eq (s : State) (i kind : Nat) (es : List (BitVec 12 × List Byte)) :
    s.emitFrames i kind es = { s with fab := (s.emitFrames i kind es).fab, outbox := (s.emitFrames i kind es).outbox } := by
  unfold State.emitFrames
  simp only
  split <;> rfl

theorem State.emitOn_eq (s : State) (i : Nat) (p : Packet) :
    s.emitOn i p = { s with fab := (s.emitOn i p).fab, outbox := (s.emitOn i p).outbox } := by
  unfold State.emitOn
  simp only
  rw [State.emitFrames_eq]
  rfl

/-- A packet of no window changes the fabric's state and the outbox alone. -/
theorem State.emitLoose_eq (s : State) (p : Packet) :
    s.emitLoose p = { s with fab := (s.emitLoose p).fab, outbox := (s.emitLoose p).outbox } := by
  unfold State.emitLoose
  split
  · rfl
  · split
    · next t h =>
      obtain ⟨i, -, rfl⟩ := Option.map_eq_some_iff.mp h
      exact State.emitOn_eq s i p
    · rfl

/-- A posted event changes the fabric's state and the outbox alone. -/
theorem State.post_eq (s : State) (r : CurRec) :
    s.post r = { s with fab := (s.post r).fab, outbox := (s.post r).outbox } := by
  unfold State.post
  split
  · exact State.emitLoose_eq s _
  · rfl

/-! ### A posted event -/

@[simp] theorem State.post_agenda (s : State) (r : CurRec) : (s.post r).agenda = s.agenda := by
  rw [State.post_eq]
@[simp] theorem State.post_cursor (s : State) (r : CurRec) : (s.post r).cursor = s.cursor := by
  rw [State.post_eq]
@[simp] theorem State.post_turn (s : State) (r : CurRec) : (s.post r).turn = s.turn := by
  rw [State.post_eq]
@[simp] theorem State.post_serial (s : State) (r : CurRec) : (s.post r).serial = s.serial := by
  rw [State.post_eq]
@[simp] theorem State.post_free (s : State) (r : CurRec) : (s.post r).free = s.free := by
  rw [State.post_eq]
@[simp] theorem State.post_pkg (s : State) (r : CurRec) : (s.post r).pkg = s.pkg := by
  rw [State.post_eq]
@[simp] theorem State.post_host (s : State) (r : CurRec) : (s.post r).host = s.host := by
  rw [State.post_eq]
@[simp] theorem State.post_fw (s : State) (r : CurRec) : (s.post r).fw = s.fw := by
  rw [State.post_eq]
@[simp] theorem State.post_trust (s : State) (r : CurRec) : (s.post r).trust = s.trust := by
  rw [State.post_eq]
@[simp] theorem State.post_cur (s : State) (r : CurRec) : (s.post r).cur = s.cur := by
  rw [State.post_eq]
@[simp] theorem State.post_conf (s : State) (r : CurRec) : (s.post r).conf = s.conf := by
  rw [State.post_eq]
@[simp] theorem State.post_disp (s : State) (r : CurRec) : (s.post r).disp = s.disp := by
  rw [State.post_eq]
@[simp] theorem State.post_mem (s : State) (r : CurRec) : (s.post r).mem = s.mem := by
  rw [State.post_eq]
@[simp] theorem State.post_cores (s : State) (r : CurRec) : (s.post r).cores = s.cores := by
  rw [State.post_eq]
@[simp] theorem State.post_groups (s : State) (r : CurRec) : (s.post r).groups = s.groups := by
  rw [State.post_eq]
@[simp] theorem State.post_cmds (s : State) (r : CurRec) : (s.post r).cmds = s.cmds := by
  rw [State.post_eq]
@[simp] theorem State.post_nextCmd (s : State) (r : CurRec) : (s.post r).nextCmd = s.nextCmd := by
  rw [State.post_eq]

/-! ### Groups -/

/-- A stored group is read back with the state that its slices imply; every other group is as it was. -/
theorem State.group_putGroup (s : State) (h k : Nat) (g : Group) :
    (s.putGroup h g).group k = if k = h then some g.settle else s.group k := by
  simp [State.putGroup, State.group, Sparse.get_set]

@[simp] theorem State.group_putGroup_self (s : State) (h : Nat) (g : Group) :
    (s.putGroup h g).group h = some g.settle := by
  simp [State.group_putGroup]

/-- A park of group scope changes the slices alone. -/
theorem Group.held_eq (g : Group) : g.held = { g with slices := g.held.slices } := by
  unfold Group.held
  split
  · rw [Group.mapSlices_eq]
  · rfl

/-- Settling changes the state field and, under a park of group scope, the slices. -/
theorem Group.settle_eq (g : Group) : g.settle = { g with state := g.settle.state, slices := g.settle.slices } := by
  rw [Group.settle, Group.held_eq g]
  simp only
  split <;> (repeat' split) <;> rfl

/-- A core that a stored group does not belong to keeps everything. -/
theorem State.cores_putGroup_of_ne (s : State) (h k : Nat) (g : Group) (hk : k ≠ g.core) :
    Sparse.get {} (s.putGroup h g).cores k = (Sparse.get {} s.cores k : Core) := by
  have hc : g.settle.core = g.core := by rw [Group.settle_eq]
  unfold State.putGroup State.queueReleased
  simp only
  split
  · simp only [hc]
    exact Sparse.get_set_of_ne _ _ _ hk
  · rfl

end Sys2Proof.Machine
end

