-- ==== Sys2Proof/Tests/Slice0.lean ====
section
/-! SUPPORT. The model's own tests: the WellFormed smoke, decoding of words written out from the manual, single steps on small
states, and for the statements a state and operands that meet their hypotheses. -/

namespace Sys2Proof.Tests

open Sys2Proof Sys2Proof.Machine Sys2Proof.Claims

/-! ### A small machine: one group of one slice on die 0, with a mapped object -/

/-- A capability over the first page of object 5 of this chip, with every right. -/
def cap5 : Cap := { home := 0, object := 5, base := 0, length := 0x10000, rights := 0xFF, tag := true }

/-- A capability over the stash of the group's block. -/
def capStash : Cap := { home := 0, object := 0, base := 0, length := 0x1000, rights := 0x7B, tag := true }

/-- A group of four lanes: s3 = 7, s4 = 9, s20 = 1, all lanes active, c0 names the object, c1 the stash. -/
def gw : Machine.Group :=
  { ctx := 1, width := 4, extent := 128, xCount := 8, aCount := 2, state := .resident, block := 1, core := 0
    s := [(3, 7), (4, 9), (20, 1), (125, 15)], c := [(0, cap5), (1, capStash)] }

/-- The group's block: 16 KiB of stash, four barriers. -/
def bw : Block := { core := 0, pages := 4, alloc := 0x4000, barriers := 4, groups := [1], started := true }

/-- Object 5 is one page, mapped to frame 5, readable by everyone. -/
def mw : MemState :=
  { objects := [(5, { root := 0x8000000000000001, sizeKey := 0xFFFF000000, flags := 0x100000001 })]
    tables := [(8192, 0x8000000000000002), (16384, 0x8000000000000003), (24576, 0x8000000000000005)] }

/-- The small machine, with the group's gang at PC 0x40. -/
def sw : State :=
  { State.reset with
    cursor := { core := 0, group := 1, slices := [0], pc := 0x40 }
    pkg := { running := 1 }, fw := { state := 1 }, mem := mw, groups := [(1, some gw)]
    disp := { blocks := [(1, some bw)] } }

theorem test_issues : Issues sw gw := ⟨rfl, by decide, by decide⟩

theorem test_active : gw.active [0] = [0, 1, 2, 3] := by decide

theorem test_walk : sw.walk (sw.objEntry 5).root 0 = .leaf 24576 0x8000000000000005 := by decide

theorem test_no_crypto : sw.cryptoFault 0x8000000000000005 (sw.objEntry 5) = none := by decide

/-! ### Well-formedness: for each check a term that it refuses -/

/-- Whether every term is refused. -/
def refusedAll (l : List Instr) : Bool := l.all fun i => !i.wf

theorem test_wf_triples : refusedAll
    [.vceq false 126 1 2, .vceq false 116 1 2, .vceq false 114 1 2, .fceq false false 123 1 2, .mand false 0 126 2, .mand false 0 1 127,
     .mpopc false 3 126, .mtov false 3 127, .brmZ false 126 0, .voteBal false 118 1, .mfromv false 121 1, .mswap false 4 6,
     .mswap false 115 0] = true := by decide

theorem test_wf_triples_at_the_edges : [Instr.vceq false 113 1 2, .vceq false 124 1 2, .vceq false 125 1 2, .mswap false 4 7,
    .mswap false 4 4, .mand false 0 125 125].all Instr.wf = true := by decide

theorem test_wf_pairs : refusedAll
    [.vaddI64 false 1 2 4, .vaddI64 false 2 1 4, .vaddI64 false 2 4 5, .vshlI64 false 2 3 1, .fadd false true 1 2 4, .fneg false true 2 3,
     .ldN false 3 7 1 2, .ldLN false 2 6 1 3, .ldx false 2 6 1 3, .stLN false 0 6 1 5, .atomAdd false 2 3 0 0 1 2,
     .atomCas false 0 3 0 0 1 2, .atomCas false 3 6 0 0 1 2] = true := by decide

theorem test_wf_capabilities : refusedAll
    [.ldN false 2 6 32 2, .cst false 32 1 2, .csub false 1 2 127, .crgt false 32 0 1, .cget false 3 1 6, .cget false 3 32 5,
     .cmov false 1 32, .cclr false 40, .cstash false 32 1 2, .pref false 32 1, .smap false 1 33 2, .pub false 32] = true := by decide

theorem test_wf_matrices : refusedAll
    [.xzero false 16, .xmov false true 2 3, .xadd false false 1 2 16, .xshp false 1 0 3, .xshp false 1 3 7, .xget false false 1 2 6 0,
     .xput false false 1 2 0 6, .xdet false true 1 2, .mxza false 8, .mxR false 0 1 125, .mxlda false 0 1 127, .mxjob false 0 1 32,
     .mxst false 9 1 2] = true := by decide

theorem test_wf_runs : refusedAll
    [.cpy false 1 2 125, .coll false 32 2 3, .nsend false 1 125, .post false 1 2 119, .post false 1 2 120, .launch false 1 121,
     .arm false 1 2 127, .wait false 127 1, .vdead false 5 4, .join false 115, .join false 124] = true := by decide

theorem test_wf_codes : refusedAll
    [.fcvt false 2 1 1 false false 2, .fcvt false 7 1 1 false false 2, .fcvt false 2 1 1 false true 4, .fcvt false 8 1 1 true false 2,
     .fcvt false 16 1 1 false false 5, .fcvt false 12 1 1 false false 2, .fcvt false 1 1 2 false false 2, .vredW4 false 1 2 6 0,
     .vredW4 false 1 2 0 3, .vscanW8 false 1 2 3 2, .atomAdd false 0 1 0 1 0 2, .sysr false 1 0x00B, .sysr false 32 0x020,
     .sysw false 1 0x008, .sysw false 1 0x021, .sysw false 1 0x101] = true := by decide

/-! ### Words that the decoder refuses (14 R260) -/

/-- An unassigned minor, a branch with a condition field, a control word beyond the last, EXIT with an operand, TRAP 256, shift
counts that are too long, an unlisted system register, CLD with a width, and an odd pair. -/
theorem test_no_instruction :
    ([0x07E00000, 0x60020000, 0x69800000, 0x68A00001, 0x7C000100, 0x0C000040, 0x1C000020, 0x7D00000B, 0x42A04000, 0x14018205] : List W32).all
      (fun w => (decode w).isNone) = true := by decide

theorem test_table_word : decodeTableWord 32 0xC205 = some (.sadd false 3 4 5) ∧ decodeTableWord 32 0x8000C205 = some (.sadd true 3 4 5)
    ∧ decodeTableWord 0 0 = none := by decide

/-! ### One word for every instruction that has one, written out from the encodings of 14 to 19: class, minor, fields -/

/-- Every word decodes to its instruction. -/
noncomputable def words (l : List (W32 × Instr)) : Bool := l.all fun e => decide (decode e.1 = some e.2)

theorem test_words_scalar : words
    [(0x0001820A, .sadd false 6 4 10), (0x8021820A, .ssub true 6 4 10), (0x0041820A, .smul false 6 4 10),
     (0x8061820A, .smulhI true 6 4 10), (0x0081820A, .smulhN false 6 4 10), (0x80A1820A, .sdivI true 6 4 10),
     (0x00C1820A, .sdivN false 6 4 10), (0x80E1820A, .sremI true 6 4 10), (0x0101820A, .sremN false 6 4 10),
     (0x8121820A, .sand true 6 4 10), (0x0141820A, .sor false 6 4 10), (0x8161820A, .sxor true 6 4 10),
     (0x0181820A, .sandn false 6 4 10), (0x81A1820A, .sshl true 6 4 10), (0x01C1820A, .sshrN false 6 4 10),
     (0x81E1820A, .sshrI true 6 4 10), (0x0201820A, .sror false 6 4 10), (0x8221820A, .sminI true 6 4 10),
     (0x0241820A, .sminN false 6 4 10), (0x8261820A, .smaxI true 6 4 10)] = true := by decide

theorem test_words_scalar2 : words
    [(0x0281820A, .smaxN false 6 4 10), (0x82A1820A, .sseq true 6 4 10), (0x02C1820A, .ssne false 6 4 10),
     (0x82E1820A, .ssltI true 6 4 10), (0x0301820A, .ssltN false 6 4 10), (0x8321820A, .ssleI true 6 4 10),
     (0x0341820A, .ssleN false 6 4 10), (0x83618200, .spopc true 6 4), (0x03818200, .sclz false 6 4),
     (0x83A18200, .sctz true 6 4), (0x03C1820A, .slea4 false 6 4 10), (0x83E1820A, .slea8 true 6 4 10)] = true := by decide

theorem test_words_scalar_immediate : words
    [(0x080C11A5, .saddi false 6 4 421), (0x890C11A5, .sandi true 6 4 421), (0x0A0C11A5, .sori false 6 4 421),
     (0x8B0C11A5, .sxori true 6 4 421), (0x0C0C1035, .sshli false 6 4 53), (0x8D0C1035, .sshriN true 6 4 53),
     (0x0E0C1035, .sshriI false 6 4 53), (0x8F0C11A5, .ssltiI true 6 4 421)] = true := by decide

theorem test_words_vector_integer : words
    [(0x1001820A, .vadd false 6 4 10), (0x9021820A, .vsub true 6 4 10), (0x1041820A, .vmul false 6 4 10),
     (0x9061820A, .vmulhI true 6 4 10), (0x1081820A, .vmulhN false 6 4 10), (0x90A1820A, .vaddsI true 6 4 10),
     (0x10C1820A, .vaddsN false 6 4 10), (0x90E1820A, .vsubsI true 6 4 10), (0x1101820A, .vsubsN false 6 4 10),
     (0x9121820A, .vand true 6 4 10), (0x1141820A, .vor false 6 4 10), (0x9161820A, .vxor true 6 4 10),
     (0x1181820A, .vandn false 6 4 10), (0x91A1820A, .vshl true 6 4 10), (0x11C1820A, .vshrN false 6 4 10),
     (0x91E1820A, .vshrI true 6 4 10), (0x1201820A, .vminI false 6 4 10), (0x9221820A, .vminN true 6 4 10),
     (0x1241820A, .vmaxI false 6 4 10), (0x9261820A, .vmaxN true 6 4 10)] = true := by decide

theorem test_words_vector_integer2 : words
    [(0x1281820A, .vdot4I8 false 6 4 10), (0x92A1820A, .vdot4N8 true 6 4 10), (0x12C18200, .vpopc false 6 4),
     (0x92E18200, .vclz true 6 4), (0x1301820A, .vceq false 6 4 10), (0x9321820A, .vcne true 6 4 10),
     (0x1341820A, .vcltI false 6 4 10), (0x9361820A, .vcltN true 6 4 10), (0x1381820A, .vcleI false 6 4 10),
     (0x93A1820A, .vcleN true 6 4 10), (0x13C18200, .vmov false 6 4), (0x93E18200, .vdup true 6 4),
     (0x1401820A, .vaddI64 false 6 4 10), (0x9421820A, .vsubI64 true 6 4 10), (0x1441820A, .vshlI64 false 6 4 10),
     (0x9461820A, .vshrN64 true 6 4 10), (0x1481820A, .vshrI64 false 6 4 10)] = true := by decide

theorem test_words_vector_immediate : words
    [(0x980C11A5, .vaddi true 6 4 421), (0x190C11A5, .vandi false 6 4 421), (0x9A0C11A5, .vori true 6 4 421),
     (0x1B0C11A5, .vxori false 6 4 421), (0x9C0C1015, .vshli true 6 4 21), (0x1D0C1015, .vshriN false 6 4 21),
     (0x9E0C1015, .vshriI true 6 4 21), (0x1F0C01A5, .vmovi false 6 421)] = true := by decide

theorem test_words_float : words
    [(0xA201820A, .fadd true true 6 4 10), (0x2221820A, .fsub false true 6 4 10), (0xA241820A, .fmul true true 6 4 10),
     (0x2261820A, .ffma false true 6 4 10), (0xA281820A, .ffms true true 6 4 10), (0x22A1820A, .fmin false true 6 4 10),
     (0xA2C1820A, .fmax true true 6 4 10), (0x22E18200, .fabs false true 6 4), (0xA3018200, .fneg true true 6 4),
     (0x2321820A, .fceq false true 6 4 10), (0xA341820A, .fclt true true 6 4 10), (0x2361820A, .fcle false true 6 4 10),
     (0xA381820A, .fcun true true 6 4 10), (0x23A1820A, .fdiv false true 6 4 10), (0xA3C18200, .fsqrt true true 6 4),
     (0x23E18200, .frnd false true 6 4), (0xA481820A, .faddRn true true 6 4 10), (0x24A1820A, .fsubRn false true 6 4 10),
     (0xA4C1820A, .fmulRn true true 6 4 10), (0x24E1820A, .ffmaRn false true 6 4 10)] = true := by decide

theorem test_words_conversion : words
    [(0xA8018200, .frcp true 6 4), (0x28218200, .frsq false 6 4), (0xA8418200, .fexp2 true 6 4),
     (0x28618200, .flog2 false 6 4), (0xA8818200, .fsin true 6 4), (0x28A18200, .fcos false 6 4),
     (0xA8C18200, .ftanh true 6 4), (0x2901820A, .hadd2F16 false 6 4 10), (0xA921820A, .hmul2F16 true 6 4 10),
     (0x2941820A, .hfma2F16 false 6 4 10), (0xA961820A, .hadd2Bf16 true 6 4 10), (0x2981820A, .hmul2Bf16 false 6 4 10),
     (0xA9A1820A, .hfma2Bf16 true 6 4 10), (0x2CA18222, .fcvt false 5 6 4 false true 2)] = true := by decide

theorem test_words_small_matrix : words
    [(0xB0018183, .xshp true 6 3 3), (0x30218000, .xzero false 6), (0xB0418000, .xidn true 6),
     (0x3461820A, .xld false true 6 4 10), (0xB481820A, .xst true true 6 4 10), (0x34A1822A, .xget false true 6 4 5 2),
     (0xB4C1822A, .xput true true 6 4 5 2), (0x34E18200, .xmov false true 6 4), (0xB5018200, .xtrn true true 6 4),
     (0x3521820A, .xadd false true 6 4 10), (0xB541820A, .xsub true true 6 4 10), (0x3561820A, .xscl false true 6 4 10),
     (0xB581820A, .xmul true true 6 4 10), (0x35A1820A, .xmad false true 6 4 10), (0xB5C1820A, .xmult true true 6 4 10),
     (0x35E1820A, .xmv false true 6 4 10), (0xB6018200, .xchol true true 6 4), (0x36218200, .xlup false true 6 4),
     (0xB641820A, .xsolv true true 6 4 10), (0x36618200, .xinv false true 6 4)] = true := by decide

theorem test_words_small_matrix2 : words
    [(0xB6818200, .xdet true true 6 4), (0x32A18000, .xflag false 6)] = true := by decide

theorem test_words_mask_lane : words
    [(0xB801820A, .mand true 6 4 10), (0x3821820A, .mor false 6 4 10), (0xB841820A, .mxor true 6 4 10),
     (0x3861820A, .mandn false 6 4 10), (0xB8818200, .mnot true 6 4), (0x38A18200, .mmov false 6 4),
     (0xB8C18200, .mpopc true 6 4), (0x38E18200, .mfirst false 6 4), (0xB9028200, .mswap true 10 4),
     (0x39218200, .mfromv false 6 4), (0xB9418200, .mtov true 6 4), (0x3A01820A, .shflIdxW4 false 6 4 10),
     (0xBA21820A, .shflIdxW8 true 6 4 10), (0x3A41820A, .shflIdxW16 false 6 4 10), (0xBA61820A, .shflIdxW32 true 6 4 10),
     (0x3A81820A, .shflIdxW64 false 6 4 10), (0xBAA1820A, .shflIdxW96 true 6 4 10), (0x3AC1820A, .shflXorW4 false 6 4 10),
     (0xBAE1820A, .shflXorW8 true 6 4 10), (0x3B01820A, .shflXorW16 false 6 4 10)] = true := by decide

theorem test_words_mask_lane2 : words
    [(0xBB21820A, .shflXorW32 true 6 4 10), (0x3B41820A, .shflXorW64 false 6 4 10), (0xBB61820A, .shflXorW96 true 6 4 10),
     (0x3B81820A, .shflUpW4 false 6 4 10), (0xBBA1820A, .shflUpW8 true 6 4 10), (0x3BC1820A, .shflUpW16 false 6 4 10),
     (0xBBE1820A, .shflUpW32 true 6 4 10), (0x3C01820A, .shflUpW64 false 6 4 10), (0xBC21820A, .shflUpW96 true 6 4 10),
     (0x3C41820A, .shflDnW4 false 6 4 10), (0xBC61820A, .shflDnW8 true 6 4 10), (0x3C81820A, .shflDnW16 false 6 4 10),
     (0xBCA1820A, .shflDnW32 true 6 4 10), (0x3CC1820A, .shflDnW64 false 6 4 10), (0xBCE1820A, .shflDnW96 true 6 4 10),
     (0x3D01820A, .vbcastW4 false 6 4 10), (0xBD21820A, .vbcastW8 true 6 4 10), (0x3D41820A, .vbcastW16 false 6 4 10),
     (0xBD61820A, .vbcastW32 true 6 4 10), (0x3D81820A, .vbcastW64 false 6 4 10)] = true := by decide

theorem test_words_mask_lane3 : words
    [(0xBDA1820A, .vbcastW96 true 6 4 10), (0x3DC18200, .voteAny false 6 4), (0xBDE18200, .voteAll true 6 4),
     (0x3E018200, .voteBal false 6 4), (0xBE218234, .vredW4 true 6 4 3 1), (0x3E418234, .vredW8 false 6 4 3 1),
     (0xBE618234, .vredW16 true 6 4 3 1), (0x3E818234, .vredW32 false 6 4 3 1), (0xBEA18234, .vredW64 true 6 4 3 1),
     (0x3EC18234, .vredW96 false 6 4 3 1), (0xBEE18234, .vscanW4 true 6 4 3 1), (0x3F018234, .vscanW8 false 6 4 3 1),
     (0xBF218234, .vscanW16 true 6 4 3 1), (0x3F418234, .vscanW32 false 6 4 3 1), (0xBF618234, .vscanW64 true 6 4 3 1),
     (0x3F818234, .vscanW96 false 6 4 3 1)] = true := by decide

theorem test_words_loads : words
    [(0xC401820A, .ldI true 2 6 4 10), (0x4421820A, .ldN false 2 6 4 10), (0xC441820A, .sldI true 2 6 4 10),
     (0x4461820A, .sldN false 2 6 4 10), (0xC481820A, .ldx true 2 6 4 10), (0x40A1820A, .cld false 6 4 10),
     (0xC4C1820A, .ldLI true 2 6 4 10), (0x44E1820A, .ldLN false 2 6 4 10), (0xC521820A, .ldAcq true 2 1 6 4 10),
     (0x45A1820A, .sldAcq false 2 1 6 4 10)] = true := by decide

theorem test_words_stores_atomics : words
    [(0xCC01820A, .stN true 2 6 4 10), (0x4C21820A, .sstN false 2 6 4 10), (0xC841820A, .cst true 6 4 10),
     (0x4C61820A, .stLN false 2 6 4 10), (0xCCA1820A, .stRel true 2 1 6 4 10), (0x4B01958A, .atomAdd false 1 6 1 1 3 10),
     (0xCB21958A, .atomAnd true 1 6 1 1 3 10), (0x4B41958A, .atomOr false 1 6 1 1 3 10),
     (0xCB61958A, .atomXor true 1 6 1 1 3 10), (0x4B81958A, .atomSwap false 1 6 1 1 3 10),
     (0xCFA2158A, .atomCas true 3 8 1 1 3 10), (0x4BC1958A, .atomMin false 1 6 1 1 3 10),
     (0xCBE1958A, .atomMax true 1 6 1 1 3 10)] = true := by decide

theorem test_words_capability : words
    [(0x5001820A, .csub false 6 4 10), (0xD021820A, .crgt true 6 4 10), (0x50418205, .cget false 6 4 5),
     (0xD0618200, .cmov true 6 4), (0x50818000, .cclr false 6), (0xD0A1820A, .cstash true 6 4 10),
     (0x50C0020A, .pref false 4 10), (0xD101820A, .smap true 6 4 10), (0x51200200, .sunmap false 4),
     (0xD1400200, .sflush true 4), (0x52000000, .fenceAcqGroup false), (0xD2200000, .fenceAcqBlock true),
     (0x52400000, .fenceAcqChip false), (0xD2600000, .fenceAcqPod true), (0x52800000, .fenceAcqSys false),
     (0xD2A00000, .fenceRelGroup true), (0x52C00000, .fenceRelBlock false), (0xD2E00000, .fenceRelChip true),
     (0x53000000, .fenceRelPod false), (0xD3200000, .fenceRelSys true)] = true := by decide

theorem test_words_capability2 : words
    [(0x53400000, .fenceFullGroup false), (0xD3600000, .fenceFullBlock true), (0x53800000, .fenceFullChip false),
     (0xD3A00000, .fenceFullPod true), (0x53C00000, .fenceFullSys false), (0xD400020A, .barInit true 4 10),
     (0x5420020A, .barArrive false 4 10), (0xD440020A, .barExpect true 4 10), (0x5460020A, .barWait false 4 10),
     (0xD480020A, .barArriveW true 4 10)] = true := by decide

theorem test_words_engines : words
    [(0x5801820A, .mxR false 6 4 10), (0xD821820A, .mxS true 6 4 10), (0x5841820A, .mxjob false 6 4 10),
     (0xD8618000, .mxza true 6), (0x5881820A, .mxlda false 6 4 10), (0xD8A1820A, .mxst true 6 4 10),
     (0x5901820A, .cpy false 6 4 10), (0xD921820A, .cpyR true 6 4 10), (0x5941820A, .coll false 6 4 10),
     (0xD960020A, .nsend true 4 10), (0x59800200, .pub false 4), (0xD9A1820A, .post true 6 4 10),
     (0x59C1800A, .launch false 6 10), (0xD9E00000, .gate true), (0x5A000000, .rlse false), (0xDA218000, .bclose true 6),
     (0x5A400200, .waitb false 4), (0xDA61820A, .arm true 6 4 10)] = true := by decide

theorem test_words_branches : words
    [(0x60000003, .br false 3), (0xE1000003, .bsr true 3), (0x62060003, .brcZ false 3 3), (0xE3060003, .brcNz true 3 3),
     (0x64060003, .brmZ false 3 3), (0xE5060003, .brmNz true 3 3), (0x66060003, .brcLt false 3 3),
     (0xE7060003, .brcGe true 3 3)] = true := by decide

theorem test_words_control : words
    [(0x68003A80, .join false 117), (0xE820020A, .wait true 4 10), (0x68400009, .winb false 9), (0xE8600200, .call true 4),
     (0x68800000, .ret false), (0xE8A00000, .exit true), (0x68C00000, .rgn false), (0xE8E00000, .rgnx true),
     (0x69000000, .yieldc false), (0xE9200200, .sleep true 4), (0x6940020A, .vdead false 4 10), (0xE9600200, .jmp true 4)] = true := by decide

theorem test_words_long_immediate : words
    [(0x701AA5A5, .sli false 6 173477), (0xF21AA5A5, .slis true 6 173477), (0x741AA5A5, .vli false 6 173477),
     (0xF61AA5A5, .vlih true 6 173477)] = true := by decide

theorem test_words_system : words
    [(0x78000000, .tret false), (0xFA01820A, .pwleaf true 6 4 10), (0x7A21820A, .pobj false 6 4 10),
     (0xFA41820A, .pkey true 6 4 10), (0x7A61820A, .pwdog false 6 4 10), (0xFA81820A, .pmcset true 6 4 10),
     (0x7AA1820A, .pevent false 6 4 10), (0xFAC1820A, .psave true 6 4 10), (0x7AE1820A, .prest false 6 4 10),
     (0xFB01820A, .pfq true 6 4 10), (0x7C00002A, .trap false 42), (0xFD0C0011, .sysr true 6 17),
     (0x7E001010, .sysw false 4 16)] = true := by decide

/-! ### Single steps; the expected values are worked out by hand from the rules named -/

/-- Whether an instruction gives a next state of which a test holds. -/
noncomputable def gives (i : Instr) (s : State) (p : State → Bool) : Bool :=
  match exec i s with
  | .next t => p t
  | _ => false

/-- The small machine with another group. -/
def swith (g : Machine.Group) : State := { sw with groups := [(1, some g)] }

/-- A property of the small machine's group. -/
def ofGroup (p : Machine.Group → Bool) (t : State) : Bool :=
  match t.group 1 with
  | some g => p g
  | none => false

/-- The small machine with these scalar registers. -/
def swS (s : Sparse W64) : State := swith { gw with s := s }

/-- The small machine with lane values of v1 and v2 (lane 0 and 1), all lanes active. -/
def swV (a0 a1 b0 b1 : W32) : State :=
  swith { gw with v := Sparse.setAll 0 [] [(128, a0), (129, a1), (256, b0), (257, b1)] }

-- 15 R263: 7 + 9, and 7 - 9 modulo 2^64.
theorem test_sadd : gives (.sadd false 5 3 4) sw (ofGroup fun g => g.rs 5 == 16 && (g.slice 0).pc == 0x44) = true := by decide
theorem test_ssub_wraps : gives (.ssub false 5 3 4) sw (ofGroup fun g => g.rs 5 == 0xFFFFFFFFFFFFFFFE) = true := by decide
-- 15 R263: the most negative number by -1 wraps, and a division by zero gives all ones.
theorem test_sdiv_corner : gives (.sdivI false 5 3 4) (swS [(3, 0x8000000000000000), (4, 0xFFFFFFFFFFFFFFFF)])
    (ofGroup fun g => g.rs 5 == 0x8000000000000000) = true := by decide
theorem test_sdiv_zero : gives (.sdivN false 5 3 0) sw (ofGroup fun g => g.rs 5 == 0xFFFFFFFFFFFFFFFF) = true := by decide
-- 15 R262: s0 keeps zero; a source that is the destination is read first.
theorem test_s0 : gives (.sadd false 0 3 4) sw (ofGroup fun g => g.rs 0 == 0 && g.rs 3 == 7) = true := by decide
theorem test_in_place : gives (.sadd false 3 3 3) sw (ofGroup fun g => g.rs 3 == 14) = true := by decide
-- 08 R131: a write of s125 changes the bits of the gang's lanes only.
theorem test_gang_owned : gives (.sadd false 125 3 4) (swS [(3, 0x100), (4, 0x25), (125, 0x3F)])
    (ofGroup fun g => g.rs 125 == 0x35) = true := by decide
-- 14 R258: SLI 4, SLIS 4 builds 4 * 2^18 + 4.
theorem test_slis : gives (.slis false 9 4) (swS [(9, 4)]) (ofGroup fun g => g.rs 9 == 0x100004) = true := by decide
-- 15 R263: the high half of (-1) * 2.
theorem test_smulh : gives (.smulhI false 5 3 4) (swS [(3, 0xFFFFFFFFFFFFFFFF), (4, 2)])
    (ofGroup fun g => g.rs 5 == 0xFFFFFFFFFFFFFFFF) = true := by decide

-- 16 R286: a lane addition wraps, and a lane outside Active() keeps its register.
theorem test_vadd_wraps : gives (.vadd false 3 1 2) (swV 0xFFFFFFFF 5 2 6) (ofGroup fun g => g.rv 3 0 == 1 && g.rv 3 1 == 11) = true := by
  decide
theorem test_vadd_inactive : gives (.vadd false 1 1 2) (swith { gw with s := [(125, 1)], v := [(128, 3), (129, 4), (256, 5), (257, 6)] })
    (ofGroup fun g => g.rv 1 0 == 8 && g.rv 1 1 == 4) = true := by decide
-- 16 R286, 12 R215: saturation at 2^31 - 1 with the SAT flag.
theorem test_vadds : gives (.vaddsI false 3 1 2) (swV 0x7FFFFFFF 1 1 1)
    (ofGroup fun g => g.rv 3 0 == 0x7FFFFFFF && g.rv 3 1 == 2 && g.fpsr == 32) = true := by decide
-- 16 R286: VDOT4 of (1, 2, 3, 4) and (-1, 1, 1, 1): 8.
theorem test_vdot4 : gives (.vdot4I8 false 3 1 2) (swV 0x04030201 0 0x010101FF 0) (ofGroup fun g => g.rv 3 0 == 8) = true := by decide
-- 16 R288: a carry from v_d to v_(d+1).
theorem test_vadd64 : gives (.vaddI64 false 4 2 6) (swith { gw with v := [(256, 0xFFFFFFFF), (768, 1)] })
    (ofGroup fun g => g.rv 4 0 == 0 && g.rv 5 0 == 1) = true := by decide
-- 14 R258: VLIH keeps bits [13:0].
theorem test_vlih : gives (.vlih false 1 3) (swV 0x3FFF 0 0 0) (ofGroup fun g => g.rv 1 0 == 0xFFFF) = true := by decide

-- 16 R290: 1 + 2 = 3 and 0.1 + 0.2 rounded to nearest, with inexact (IEEE 754).
theorem test_fadd : gives (.fadd false false 3 1 2) (swV 0x3F800000 0x3DCCCCCD 0x40000000 0x3E4CCCCD)
    (ofGroup fun g => g.rv 3 0 == 0x40400000 && g.rv 3 1 == 0x3E99999A && g.fpsr == 16) = true := by decide
-- 12 R216: infinity minus infinity is the default NaN with invalid.
theorem test_fsub_invalid : gives (.fsub false false 3 1 2) (swV 0x7F800000 0 0x7F800000 0)
    (ofGroup fun g => g.rv 3 0 == 0x7FC00000 && g.fpsr == 1) = true := by decide
-- 16 R290: a fused multiply-add rounds once: (1 + 2^-12)^2 - 1 = 2^-11 + 2^-24.
theorem test_ffma : gives (.ffma false false 3 1 2) (swith { gw with v := [(128, 0x3F800800), (256, 0x3F800800), (384, 0xBF800000)] })
    (ofGroup fun g => g.rv 3 0 == 0x3A000400) = true := by decide
-- 16 R291: 1 / 0 is infinity with divide, 1 / 2 is exact, and 0 / 0 in the other lanes is invalid; all pending.
theorem test_fdiv_pending : gives (.fdiv false false 3 1 2) (swV 0x3F800000 0x3F800000 0 0x40000000)
    (ofGroup fun g => g.rv 3 0 == 0 && g.fpsr == 0
      && (g.pending.map fun p => (p.vecs.take 2, p.flags)) == [([(384, 0x7F800000), (385, 0x3F000000)], 0b11#6)]) = true := by decide

-- 16 R292: a compare with NaN holds for no lane but FCUN; the triple takes the gang's bits.
theorem test_fcun : gives (.fcun false false 10 1 2) (swV 0x7FC00000 0x3F800000 0 0) (ofGroup fun g => g.rs 10 == 1) = true := by decide
-- 12 R221, the worked example: sixteen inputs give the words 0x042B1081 and 0x1C25C028, with inexact.
theorem test_block : gives (.fcvt false 8 3 1 false false 2)
    ({ swith { gw with
      width := 16
      s := [(125, 0xFFFF)]
      slices := [(1, {}), (2, {}), (3, {})]
      v := Sparse.setAll 0 [] ((List.range 16).zip [(0x40C00000 : W32), 0xC0000000, 0x3F800000, 0x40400000, 0x3E800000, 0xBF400000,
        0x40800000, 0x40000000, 0, 0, 0xC0400000, 0x40000000, 0x40A00000, 0x3F800000, 0xC0C00000, 0xBF000000] |>.map fun e =>
          (128 + e.1, e.2)) } with cursor := { sw.cursor with slices := [0, 1, 2, 3] } })
    (fun t => ofGroup (fun g => (g.pending.map Pending.flags) == [16]) t
      && ofGroup (fun g => g.pending.all fun p => p.vecs == [(384, 0x042B1081), (385, 0x1C25C028)]) t) = true := by decide
-- 16 R298, 12 R223, R224: scale 2^-3 (code 0x60), zero point 1: 3.0 is code 25.
theorem test_quantize : gives (.fcvt false 12 4 2 false false 2) (swith { gw with s := [(125, 1)], v := [(256, 0x40400000), (384, 0x0160)] })
    (ofGroup fun g => (g.pending.map fun p => (p.vecs, p.flags)) == [([(512, 25)], 0)]) = true := by decide

-- 15 R266: MFIRST of an empty triple; MPOPC over the gang's lanes only.
theorem test_mfirst : gives (.mfirst false 5 30) sw (ofGroup fun g => g.rs 5 == 0xFFFFFFFFFFFFFFFF) = true := by decide
theorem test_mpopc : gives (.mpopc false 5 30) (swS [(30, 0xFB), (125, 15)]) (ofGroup fun g => g.rs 5 == 3) = true := by decide
-- 16 R301: VOTE.ALL over no lane is 1.
theorem test_vote_all : gives (.voteAll false 5 30) (swS [(30, 0xF)]) (ofGroup fun g => g.rs 5 == 1) = true := by decide
-- 16 R300: lane 0 takes lane 1, lane 1 takes lane 0; an inactive source leaves the lane its own value.
theorem test_shfl_xor : gives (.shflXorW4 false 3 1 20) (swith { gw with s := [(20, 1), (125, 7)], v := [(128, 10), (129, 11), (130, 12), (131, 13)] })
    (ofGroup fun g => g.rv 3 0 == 11 && g.rv 3 1 == 10 && g.rv 3 2 == 12 && g.rv 3 3 == 0) = true := by decide
-- 16 R302: a sum over four lanes, and its scan.
theorem test_vred : gives (.vredW4 false 3 1 0 0) (swith { gw with v := [(128, 1), (129, 2), (130, 3), (131, 4)] })
    (ofGroup fun g => g.rv 3 0 == 10 && g.rv 3 3 == 10) = true := by decide
theorem test_vscan : gives (.vscanW4 false 3 1 0 0) (swith { gw with v := [(128, 1), (129, 2), (130, 3), (131, 4)] })
    (ofGroup fun g => g.rv 3 0 == 1 && g.rv 3 2 == 6) = true := by decide

-- 14 R247: a branch of -1 goes to PC - 4; BRC.NZ of zero falls through.
theorem test_br : gives (.br false 0x1FFFF) sw (ofGroup fun g => (g.slice 0).pc == 0x3C) = true := by decide
theorem test_brc : gives (.brcNz false 5 8) sw (ofGroup fun g => (g.slice 0).pc == 0x44) = true := by decide
-- 15 R268: a call links to PC + 4.
theorem test_call : gives (.call false 3) sw (ofGroup fun g => (g.slice 0).pc == 7 && (g.slice 0).link == 0x44) = true := by decide
-- 15 R272: SLEEP of 9 parks until TICK + 9.
theorem test_sleep : gives (.sleep false 4) sw (ofGroup fun g =>
    (g.slice 0).park == .sleep && (g.slice 0).deadline == 9 && (g.slice 0).pc == 0x44) = true := by decide
-- 15 R274: WINB 15 puts the window at register 120.
theorem test_winb : gives (.winb false 15) sw (ofGroup fun g => g.winb == 120) = true := by decide
-- 13 R231, R234, 15 R278: TRAP 42 saves PC + 4 and cause 0x0B, and goes to the handler.
theorem test_trap : gives (.trap false 42) (swith { gw with tvec := 0x1001 }) (ofGroup fun g =>
    (g.slice 0).pc == 0x1000 && g.tpc == 0x44 && g.tstat == 0x800B2A0000000001) = true := by decide
-- 13 R234, 15 R279: TRET goes back and clears H.
theorem test_tret : gives (.tret false) (swith { gw with tstat := 0x800B2A0000000001, tpc := 0x44 }) (ofGroup fun g =>
    (g.slice 0).pc == 0x44 && g.tstat == 0x000B2A0000000001) = true := by decide
-- 13 R235: a trap without a handler halts the group.
theorem test_halt : gives (.trap false 1) sw (ofGroup fun g => g.state == .halted) = true := by decide
-- 13 R230: a firmware minor of a group without privilege raises PRIV.
theorem test_priv : gives (.pwdog false 5 0 0) (swith { gw with tvec := 1 }) (ofGroup fun g => g.tstat.extractLsb' 48 8 == 3) = true := by decide
-- 15 R280: SYSR of WIDTH; SYSW of FPSR keeps six bits.
theorem test_sysr : gives (.sysr false 5 0x004) sw (ofGroup fun g => g.rs 5 == 4) = true := by decide
theorem test_sysw : gives (.sysw false 3 0x011) (swS [(3, 0xFFFF)]) (ofGroup fun g => g.fpsr == 0x3F) = true := by decide

-- 17 R314: CSUB narrows within its parent, and clears the tag beyond it.
theorem test_csub : gives (.csub false 2 0 20) (swS [(20, 0x10), (21, 0x20)]) (ofGroup fun g =>
    (g.rc 2).base == 0x10 && (g.rc 2).length == 0x20 && (g.rc 2).tag) = true := by decide
theorem test_csub_beyond : gives (.csub false 2 0 20) (swS [(20, 0x10), (21, 0x10000)]) (ofGroup fun g => !(g.rc 2).tag) = true := by decide

-- 17 R308: SST.N32 stores the low bytes of s_d, little-endian, and nothing beyond them.
theorem test_sst : gives (.sstN false 2 3 0 20) (swS [(3, 0x1122334455667788), (20, 8), (125, 15)]) (fun t =>
    (List.range 6).map (fun i => t.frameByte 5 (7 + i)) == [0, 0x88, 0x77, 0x66, 0x55, 0]) = true := by decide
-- 17 R306: SLD.I8 sign-extends; the result is pending.
theorem test_sld : gives (.sldI false 0 9 0 20) { swS [(20, 8), (125, 15)] with
      mem := { mw with bytes := [(5 * 65536 + 8, 0x80)] }, trust := { frames := [(5, { bound := true })] } }
    (ofGroup fun g => (g.pending.map Pending.scalar) == [some (9, 0xFFFFFFFFFFFFFF80)]) = true := by decide
-- 13 R230: an access beyond the capability raises CAPBOUND, and stores nothing.
theorem test_bound : gives (.sstN false 2 3 0 20) (swith { gw with s := [(3, 7), (20, 0xFFFD), (125, 15)], tvec := 1 }) (fun t =>
    t.mem == mw && ofGroup (fun g => g.handling) t) = true := by decide

-- 18 R323: XIDN of a 2 x 2 shape; 18 R325: I * I = I.
theorem test_xidn : gives (.xidn false 1) (swith { gw with s := [(125, 1)], shape := Sparse.setAll (1, 1) [] [(96, (2, 2))] }) (ofGroup fun g =>
    g.xe false 1 0 0 0 == 0x3F800000 && g.xe false 1 0 0 1 == 0 && g.xe false 1 0 1 1 == 0x3F800000) = true := by decide
-- 18 R325: shapes that do not conform set SHAPE and write nothing.
theorem test_shape : gives (.xadd false false 2 0 1) (swith { gw with s := [(125, 1)], shape := Sparse.setAll (1, 1) [] [(96, (2, 3))] })
    (ofGroup fun g => Sparse.get 0 g.smuFlags 0 == 1 && g.shapeOf 2 0 == (1, 1)) = true := by decide

-- 17 R318, 08 R142: the last arrival ends a phase: the phase counts up and the arrivals clear.
theorem test_barrier : gives (.barArrive false 30 20) { swS [(20, 1)] with
      disp := { blocks := [(1, some (bw.putBarrier 0 { bw.barrier 0 with expected := 1 }))] } }
    (fun t => match t.block 1 with
      | some b => (b.barrier 0).phase == 1 && (b.barrier 0).arrivals == 0
      | none => false) = true := by decide

-- 19 R340: BCLOSE returns batch 1 and opens batch 2.
theorem test_bclose : gives (.bclose false 5) sw (ofGroup fun g => g.rs 5 == 1 && g.batch.openNum == 2) = true := by decide
-- 19 R344: a copy of no byte issues one command of the open batch.
theorem test_cpy : gives (.cpy false 0 0 24) sw (fun t => t.nextCmd == 1) = true := by decide
-- 19 R355: RLSE releases the block.
theorem test_rlse : gives (.rlse false) sw (fun t => match t.block 1 with
    | some b => b.released
    | none => false) = true := by decide
-- 15 R282: PFQ of an empty queue answers all ones.
theorem test_pfq : gives (.pfq false 5 0 0) (swith { gw with privileged := true }) (ofGroup fun g => g.rs 5 == 0xFFFFFFFFFFFFFFFF) = true := by
  decide

/-! ### Events -/

-- 01 R16: a cold reset keeps the fuses and clears the rest; a pulse under 100 ticks does nothing.
theorem test_cold_reset : gives (.coldReset 100) { sw with pkg := { sw.pkg with minVersion := 5 } } (fun t =>
    t.pkg.minVersion == 5 && t.pkg.running == 0 && t.groups == [] && t.mem == {}) = true := by decide
theorem test_short_reset : gives (.coldReset 99) sw (fun t => t == sw) = true := by decide
-- 01 R20: at 115 degrees every clock is gated.
theorem test_thermtrip : gives (.thermtrip 115) sw (fun t => t.pkg.tripped && t.pkg.tripLow) = true := by decide
-- 01 R19: above the power cap the clock steps down by 100 MHz.
theorem test_power : gives (.powerWindow 3001) sw (fun t => t.pkg.clockMHz == 1600) = true := by decide
-- 02 R30: a frame on a port that is not trained is not heard.
theorem test_untrained : gives (.idleFrame 0 (makeFrame 1 0 0 0 [])) sw (fun t => t == sw) = true := by decide
-- 05 R85: a record is queued in sequence.
theorem test_event : gives (.event { seq := 0, typ := 0x13, src := 0, ctx := 0, version := 0, payload := 0 }) { sw with cur := { next := 0 } } (fun t =>
    t.cur.queue.length == 1 && t.cur.next == 1) = true := by decide

/-! ### A step -/

-- The first instruction after a load into the firmware core runs: SADD s3, s4, s5 at body offset 0 leaves PC 4.
theorem test_first_step : (match step (State.reset.withFetchWord 32 0xC205) with
    | .next t => (match t.group (2 ^ 28) with
      | some g => (g.slice 0).pc == 0x104
      | none => false)
    | _ => false) = true := by decide

/-! ### For the statements: states and operands that meet their hypotheses -/

/-- The group with a pending result of its slice. -/
def gPend : Machine.Group := { gw with pending := [{ slices := [0] }] }

/-- The group with a handler and no trap. -/
def gTrap : Machine.Group := { gw with tvec := 0x1001 }

/-- A group of 96 lanes. -/
def g96 : Machine.Group := { gw with width := 96 }

/-- A privileged group. -/
def gPriv : Machine.Group := { gw with privileged := true }

theorem issues_with (g : Machine.Group) : Issues (swith g) g :=
  ⟨rfl, (by decide : ([0] : List Nat).Nodup), (by decide : ∀ i ∈ [0], i < 24)⟩

theorem witness_scalar : Issues sw gw ∧ (∃ e ∈ class0 false 127 3 4, e.1 = .sadd false 127 3 4)
    ∧ (∃ e ∈ scalarImm false 0 3 0x3FF 63 0, e.1 = .saddi false 0 3 0x3FF)
    ∧ (5 : Fld).toNat ≤ 5 ∧ ∃ e ∈ scalarFromMasks false 5 125 5, e.1 = .mpopc false 5 125 :=
  ⟨test_issues, ⟨_, .head _, rfl⟩, ⟨_, .head _, rfl⟩, by decide, ⟨_, .head _, rfl⟩⟩

theorem witness_integer_lanes :
    (∃ e ∈ laneForms false 127 1 2 0 31 0, e.1 = .vadd false 127 1 2 ∧ ∀ r ∈ (127 : Fld) :: e.2.1, gw.inWindow r.toNat = true)
    ∧ (∀ r ∈ ([127, 1, 2] : List Fld), gw.inWindow r.toNat = true)
    ∧ (∃ e ∈ pairForms false 126 2 4, e.1 = .vaddI64 false 126 2 4 ∧ gw.pairIn 126 = true ∧ gw.pairIn 2 = true ∧ gw.valIn e.2.1 4 = true) :=
  ⟨⟨_, .head _, rfl, by decide⟩, by decide, ⟨_, .head _, rfl, by decide, by decide, by decide⟩⟩

theorem witness_float_lanes :
    (∃ e ∈ floatForms false true 126 2 4, e.1 = .fadd false true 126 2 4 ∧ ∀ r ∈ e.2.1, gw.valIn true r.toNat = true)
    ∧ ∃ e ∈ slowFloatForms false false 127 2 4, e.1 = .fdiv false false 127 2 4 ∧ ∀ r ∈ e.2.1, gw.valIn false r.toNat = true :=
  ⟨⟨_, .head _, rfl, by decide⟩, ⟨_, .head _, rfl, by decide⟩⟩

theorem witness_masks :
    (∃ e ∈ compareForms false false 113 1 2, e.1 = .vceq false 113 1 2 ∧ e.1.wf = true ∧ e.2.1 gw = true)
    ∧ (∃ e ∈ maskForms false 125 125 0, e.1 = .mand false 125 125 0 ∧ e.1.wf = true) ∧ (Instr.mswap false 4 7).wf = true :=
  ⟨⟨_, .head _, rfl, by decide, by decide⟩, ⟨_, .head _, rfl, by decide⟩, by decide⟩

theorem witness_crossings : Issues { swith g96 with cursor := { sw.cursor with slices := List.range 24 } } g96
    ∧ (∃ e ∈ shuffles false 3 127 1, e.2.1 = 4 ∧ (∀ r ∈ (3 : Fld) :: 127 :: e.2.2.1, gw.inWindow r.toNat = true) ∧ e.2.1 ≤ gw.visible)
    ∧ (∃ e ∈ shuffles false 3 127 1, e.2.1 = 96 ∧ (∀ r ∈ (3 : Fld) :: 127 :: e.2.2.1, g96.inWindow r.toNat = true) ∧ e.2.1 ≤ g96.visible)
    ∧ (∃ e ∈ reductions false 3 127 5 1, e.2.2 = 4 ∧ e.2.2 ≤ gw.visible) ∧ ∃ e ∈ reductions false 3 127 5 1, e.2.2 = 96 ∧ e.2.2 ≤ g96.visible :=
  ⟨⟨rfl, by decide, by decide⟩, ⟨_, .head _, rfl, by decide, by decide⟩,
    ⟨_, .tail _ (.tail _ (.tail _ (.tail _ (.tail _ (.head _))))), rfl, by decide, by decide⟩, ⟨_, .head _, rfl, by decide⟩,
    ⟨_, .tail _ (.tail _ (.tail _ (.tail _ (.tail _ (.head _))))), rfl, by decide⟩⟩

theorem witness_control : gw.inWindow 127 = true ∧ (Instr.join false 116).wf = true ∧ (Instr.join false 123).wf = true
    ∧ gw.hasPending [0] = false ∧ gPend.hasPending [0] = true
    ∧ (let one : Machine.Group := { gw with s := [(116, 1)] }
       rejoinE (one.rs 116) &&& (sliceBits [0]).setWidth 24 ≠ 0 ∧ rejoinE (one.rs 116) &&& ~~~(rejoinA (one.rs 116) ||| (sliceBits [0]).setWidth 24) = 0)
    ∧ (let two : Machine.Group := { gw with s := [(116, 3)] }
       rejoinE (two.rs 116) &&& ~~~(rejoinA (two.rs 116) ||| (sliceBits [0]).setWidth 24) ≠ 0)
    ∧ rejoinE (gw.rs 123) &&& (sliceBits [0]).setWidth 24 = 0 := by decide

theorem witness_traps : Issues (swith gTrap) gTrap ∧ gTrap.hasPending [0] = false ∧ gTrap.handling = false ∧ gTrap.tvec.getLsbD 0 = true
    ∧ gTrap.privileged = false ∧ (256 : BitVec 10).toNat = 256 ∧ ({ gTrap with extent := 8 } : Machine.Group).inWindow 127 = false
    ∧ (let h : Machine.Group := { gw with tstat := 1#64 <<< 63 }
       h.handling = true ∧ ∀ i ∈ h.live, (h.slice i).park ≠ .pendingTrap) :=
  ⟨issues_with _, by decide, by decide, by decide, by decide, by decide, by decide, by decide⟩

theorem witness_sleep : (({ gw with slices := [(0, { state := .parked, park := .sleep, deadline := 5 })] } : Machine.Group).slice 0).park = .sleep
    ∧ (sw.tickOf (dieOf gw.core)).toNat < 5
    ∧ (({ sw with pkg := { sw.pkg with tick := [(0, 5)] } } : State).tickOf (dieOf gw.core)).toNat = 5 := by decide

theorem witness_system : (0x000, gw.gid.setWidth 64) ∈ sysReads sw gw ∧ (0x100, (Sparse.get 0 sw.fw.fwctx (dieOf gw.core)).setWidth 64) ∈
      sysReadsPrivileged sw gw ∧ gPriv.privileged = true ∧ (0x020, gw.grant) ∈ sysCaps gw
    ∧ (0x010, { gw with fpcr := ((7 : W64).setWidth 2).setWidth 32 }) ∈ sysWrites gw 7 :=
  ⟨.head _, .head _, rfl, .head _, .head _⟩

theorem witness_barriers : sw.block gw.block = some bw ∧ sw.barrierOf gw (gw.rs 0) = some 0 ∧ (bw.barrier 0).phase = (gw.rs 0).setWidth 16
    ∧ (bw.barrier 0).phase ≠ (gw.rs 3).setWidth 16 := ⟨rfl, by decide, by decide, by decide⟩

theorem witness_small_matrices : (∃ e ∈ smallMatrixForms false true 14 2 4 5 5, e.1 = .xzero false 14)
    ∧ ({ gw with xCount := 16 } : Machine.Group).xIn false 15 = true ∧ ({ gw with xCount := 16 } : Machine.Group).xIn true 14 = true
    ∧ ([95] : List Nat).Nodup ∧ ∀ l ∈ [95], l < 96 := ⟨⟨_, .head _, rfl⟩, by decide, by decide, by decide, by decide⟩

theorem witness_conversions : gw.valIn (typeBits 1 = 64) 126 = true ∧ gw.valIn (typeBits 5 = 64) 127 = true ∧ gw.valIn true 126 = true
    ∧ gw.inWindow 127 = true ∧ gw.isActive [0] 3 = true ∧ gw.isActive [0] 4 = false := by decide

/-- The scalar store of s3 at offset 8 of object 5. -/
def gStore : Machine.Group := { gw with s := [(3, 7), (20, 8), (125, 15)] }

/-- A group with no lane active. -/
def gNone : Machine.Group := { gw with s := [] }

theorem witness_scalar_store : ∃ e g2, (scalarForms (swith gStore) false 2 0 3 0 20)[3]? = some e ∧ Accepted (swith gStore) gStore g2 e.2 := by
  refine ⟨_, _, rfl, ?_, ?_, ?_, ?_, rfl⟩ <;> decide

theorem witness_vector_load : ∃ e g2, (vecForms sw false 2 0 2 0 6)[0]? = some e ∧ Accepted sw gw g2 e.2 := by
  refine ⟨_, _, rfl, ?_, ?_, ?_, ?_, rfl⟩ <;> decide

theorem witness_matrix_load : ∃ e g2, (matrixForms sw false false 7 0 127)[0]? = some e ∧ Accepted sw gw g2 e.2 := by
  refine ⟨_, _, rfl, ?_, ?_, ?_, ?_, rfl⟩ <;> decide

theorem witness_atomics : ∃ g2, Accepted (swith gNone) gNone g2 (atomicForm (swith gNone) false 0 1 2 0 0 0 2) := by
  refine ⟨_, ?_, ?_, ?_, ?_, rfl⟩ <;> decide

/-- The group with a condition vector in s20: c0, 32 bits, equal, at offset 0, and a table index in v7. -/
def gWait : Machine.Group := { gw with s := [(125, 15)] }

theorem witness_wait : ∃ g2, Accepted (swith gWait) gWait g2 (waitForm (swith gWait) gWait 20 22) ∧ gWait.hasPending [0] = false
    ∧ bits (gWait.rs 20) 18 16 ≠ 7 ∧ bits (gWait.rs 20) 15 14 < 2 ∧ bits (gWait.rs 20) 11 0 = 0 := by
  refine ⟨_, ⟨?_, ?_, ?_, ?_, rfl⟩, ?_, ?_, ?_, ?_⟩ <;> decide

/-- The table entries' form of a gather over c0. -/
def gatherEntries : MemForm :=
  { op := { slices := [0], pc := 0x40, y := false, kind := .gatherEntry, size := 16, dst := 0, args := [], pieces := [] }
    lanes := fun g => (g.active [0]).map fun l => { lane := l, cap := g.rc 0, off := 16 * (g.rv 7 l).toNat, size := 16 }
    align := 16
    rights := rR ||| rLC
    log := 0 }

theorem witness_gather : (∀ i ∈ sw.cursor.slices, (gw.slice i).replay ≠ sw.cursor.pc) ∧ gw.valIn true 126 = true ∧ gw.pairIn 6 = true
    ∧ (gw.entries.filter fun e => [0].contains (e.1 / 4)) = [] ∧ gw.active [0] ≠ [] ∧ gNone.active [0] = []
    ∧ ∃ g2, Accepted sw gw g2 gatherEntries := by
  refine ⟨?_, ?_, ?_, ?_, ?_, ?_, _, ?_, ?_, ?_, ?_, rfl⟩ <;> decide

/-- The block without barriers. -/
def bPlain : Block := { bw with barriers := 0 }

theorem witness_map : cap5.tag = true ∧ cap5.has (rR ||| rE) = true ∧ bits (gw.rs 0) 63 22 = 0 ∧ bits (gw.rs 0) 21 0 % 4096 = 0
    ∧ (0x4000 : BitVec 40).toNat % 4096 = 0 ∧ cap5.base.toNat % 128 = 0 ∧ cap5.object ≠ 0 ∧ bits (gw.rs 0) 21 0 + 0x4000 ≤ bPlain.alloc
    ∧ bPlain.overlaps 0 0x4000 = false ∧ (∀ r ∈ bPlain.regions, r.number ≠ 0) := by decide

/-- The block with the object's first 4 KiB mapped at 0. -/
def bMapped : Block := { bw with regions := [{ number := 0, base := 0, length := 4096, cap := cap5 }] }

/-- A region of one page of object 5, and a clean line and a dirty one of it. -/
def rMapped : Region := { number := 0, base := 0, length := 4096, cap := cap5 }

theorem witness_flush : bMapped.regionOf (gw.rs 0) = some rMapped ∧ gw.flushing = [] ∧ gw.refusedOn = [] ∧ bMapped.linesOf rMapped = []
    ∧ ∃ t : State, sw.flushLines 1 rMapped (sw.groupReq 1 gw 2) [] = (t, {}) ∧ t.block 1 = some bw := by
  refine ⟨?_, ?_, ?_, ?_, _, rfl, rfl⟩ <;> decide

/-- The machine whose only active lane is lane 0, with the object's first page mapped to the stash at c1. -/
def gOne : Machine.Group := { gw with s := [(3, 7), (125, 1)] }

theorem witness_prefetch : (let s : State := { swith gOne with disp := { blocks := [(1, some bMapped)] } }
    gOne.active [0] = [0] ∧ (gOne.rc 1).tag = true ∧ (gOne.rc 1).has rR = true ∧ (gOne.rc 1).isStash = true
      ∧ s.block gOne.block = some bMapped ∧ bMapped.regionAt 0 = some rMapped ∧ Sparse.get none bMapped.lines 0 = none
      ∧ rMapped.cap.home = s.fab.self
      ∧ ∃ w e, s.plainPage rMapped.cap.object (rMapped.objectOff 0) = some (w, e) ∧ s.levee (s.groupReq 1 gOne 7) (leafPtag w) = true
        ∧ e.publishing = false ∧ e.isContext = false
        ∧ s.missFull (homeSlice rMapped.cap.object (rMapped.objectOff 0 / 65536)) = false) := by
  refine ⟨?_, ?_, ?_, ?_, ?_, ?_, ?_, ?_, _, _, rfl, ?_, ?_, ?_, ?_⟩ <;> decide

theorem witness_system_fence : (let m : MemState := { mw with hostCached := [(3, some 1), (4, some 2)], hostNew := [(384, some 7)] }
    Sparse.get none m.hostCached 3 = some gw.ctx ∧ Sparse.get none m.hostCached (512 / 128) ≠ some gw.ctx
      ∧ ((384 : Nat), some 7) ∈ m.hostNew) := by decide

theorem witness_yield : sw.blockedEntry gw.core = none := by decide

theorem witness_translation : sw.dieRuns (homeDie 5) = true ∧ (sw.objEntry 5).valid = true ∧ 0xFFFF ≤ (sw.objEntry 5).last
    ∧ sw.walk (sw.objEntry 5).root 0xFFFF = .leaf 24576 0x8000000000000005 ∧ leafMalformed 0x8000000000000005 (homeSlice 5 0) = false
    ∧ sw.cryptoFault 0x8000000000000005 (sw.objEntry 5) = none
    ∧ sw.levee (sw.groupReq 1 gw 0) (leafPtag 0x8000000000000005) = true
    ∧ ((sw.objEntry 5).isContext && sw.contextBusy 5 (sw.groupReq 1 gw 0) true) = false ∧ leafProtected 0x8000000000000005 = false
    ∧ sw.levee { sw.groupReq 1 gw 0 with checked := true } (leafPtag 0x8000000200000005) = false
    ∧ sw.grantUnknown (sw.groupReq 1 gw 0) (leafPtag 0x8000000200000005) = false
    ∧ sw.grantUnknown { sw.groupReq 1 gw 0 with grant := { home := 7, object := 9, length := 131072, rights := rR, tag := true } }
        (leafPtag 0x8000000200000005) = true := by decide

theorem witness_plain_here : PlainHere (swith gStore) gStore (gStore.rc 0) 8 4 2 ∧ PlainHere (swith gStore) gStore (gStore.rc 0) 124 4 1
    ∧ (∃ t leaf e, ((swith gStore).freshGrants gStore.grant.home gStore.grant.object).translate ((swith gStore).groupReq 1 gStore 2) 5 8 true false = (t, .ok leaf e)
        ∧ t.copiesOf 5 8 4 = [] ∧ t.groups = (swith gStore).groups ∧ t.mem.stale = [])
    ∧ ∃ t leaf e, ((swith gStore).freshGrants gStore.grant.home gStore.grant.object).translate ((swith gStore).groupReq 1 gStore 0) 5 8 false false = (t, .ok leaf e)
        ∧ t.copiesOf 5 8 4 = [] ∧ t.framePoisoned (leafFrame leaf) 8 4 = false ∧ t.groups = (swith gStore).groups ∧ t.mem.stale = []
        ∧ ∀ p ∈ gStore.pending, p.serial ≤ gStore.lastIssue := by
  refine ⟨by unfold PlainHere; decide, by unfold PlainHere; decide, ⟨_, _, _, rfl, ?_, rfl, ?_⟩, ⟨_, _, _, rfl, ?_, ?_, rfl, ?_, ?_⟩⟩ <;> decide

theorem witness_denied : ∃ (q : Requester) (t : State), q.checked = true
    ∧ ({ sw with mem := { mw with tables := [(8192, 0x8000000000000002), (16384, 0x8000000000000003), (24576, 0x8000000200000005)] } } : State).translate
        q 5 0 false false = (t, .denied 1) :=
  ⟨{ sw.groupReq 1 gw 0 with checked := true }, _, rfl, rfl⟩

/-! Engine commands: registers of zeros describe a command of no byte. -/

theorem witness_copy : sw.outstanding 1 < 1024 ∧ Names sw gw cap5 rR 0 0 ∧ Names sw gw cap5 rW 0 0x10000 ∧ Names sw gw capStash rR 0 0x1000
    ∧ bits (gw.rs 24) 63 40 = 0 ∧ bits (gw.rs 27) 63 32 = 0 ∧ (gw.rs 27).getLsbD 22 = false ∧ bits (gw.rs 27) 15 0 = 0
    ∧ (gw.rs 27).getLsbD 25 = false ∧ Counts sw gw false 0 ∧ Counts sw gw true 3 := by
  refine ⟨by decide, ⟨by decide, by decide, by decide, by decide⟩, ⟨by decide, by decide, by decide, by decide⟩,
    ⟨by decide, by decide, by decide, by decide⟩, by decide, by decide, by decide, by decide, by decide, by simp [Counts],
    fun _ => ⟨rfl, bw, rfl, by decide⟩⟩

theorem witness_remote_counts : (let v : W64 := 0x4000000002810000
      bits v 63 62 = 1 ∧ bits v 61 58 = 0 ∧ bits v 49 32 = 0 ∧ v.getLsbD 22 = false ∧ bits v 15 0 = 0 ∧ v.getLsbD 24 = false
      ∧ v.getLsbD 25 = true ∧ v.getLsbD 23 = true) ∧ Counts sw gw true (bits (0x4000000002810000 : W64) 21 16)
    ∧ (let v : W64 := 0x0DA10000
      bits v 63 62 = 0 ∧ bits v 49 32 = 0 ∧ v.getLsbD 22 = false ∧ bits v 15 0 = 0 ∧ v.getLsbD 25 = false ∧ v.getLsbD 24 = true
      ∧ v.getLsbD 26 = true ∧ v.getLsbD 23 = true ∧ sw.placeChip gw (v.extractLsb' 50 6) (v.extractLsb' 56 6) = sw.fab.self) :=
  ⟨by decide, fun _ => ⟨rfl, bw, rfl, by decide⟩, by decide⟩

theorem witness_remote_copy : bits ((0x1 : W64) <<< 62) 63 62 = 1 ∧ bits ((0x1 : W64) <<< 62) 61 58 = 0 ∧ capStash.object = 0
    ∧ bits ((0x1 : W64) <<< 62) 49 22 = 0 ∧ bits ((0x1 : W64) <<< 62) 15 0 = 0 ∧ bits (0 : W64) 63 62 = 0 := by decide

theorem witness_collective : reduceOk 1 2 = true ∧ 65536 % reduceSize 2 = 0 ∧ bits ((0x1 : W64) <<< 32) 63 32 ≠ 0
    ∧ bits ((0x1 : W64) <<< 62) 49 13 = 0 := by decide

theorem witness_messages : cap5.has rP = true ∧ cap5.home = sw.fab.self ∧ (sw.objEntry 5).valid = true
    ∧ Sparse.get none ({ mw with peers := [(0, some 1)] } : MemState).peers (bits (gw.rs 26) 15 0) = some gw.ctx
    ∧ bits (gw.rs 24) 63 17 = 0 ∧ bits (gw.rs 26) 63 16 = 0 ∧ bits (gw.rs 27) 63 32 = 0 := by decide

theorem witness_arm : (let v : W64 := 0x100000000; bits v 63 46 = 0 ∧ bits v 45 44 ≤ 1 ∧ 1 ≤ bits v 43 32)
    ∧ (let c : Cap := { cap5 with length := 0x20000 }; c.has (rW ||| rE) = true ∧ c.base.toNat % 65536 = 0 ∧ 65536 * (1 + 1) ≤ c.length.toNat)
    ∧ sw.armed 0 = none ∧ Sparse.get none sw.mem.arms 0 = none ∧ bits (0x200000000000 : W64) 45 44 = 2 := by
  refine ⟨?_, ?_, rfl, rfl, ?_⟩ <;> decide

theorem witness_post : (118 : Fld).toNat % 2 = 0 ∧ gw.inWindow (118 + 9) = true ∧ cap5.has rE = true
    ∧ ∀ l ∈ gw.activeVis [0], (gw.rp 118 l).toNat < cap5.length.toNat := by decide

/-- A submit record of one block of one group: grid dimensions and chips of 1 x 1. -/
def gLaunch : Machine.Group := { gw with s := [(0, 0)] }

theorem witness_batches : gw.hasPending [0] = false ∧ ({ gw with batch := { openNum := 3 } } : Machine.Group).batch.opened 2 = true
    ∧ ({ gw with batch := { openNum := 3, done := [(2, 5)] } } : Machine.Group).batch.find 2 = some 5
    ∧ ({ gw with batch := { openNum := 3, counts := [(2, 1, 0, false, false)] } } : Machine.Group).batch.find 2 = none := by decide

theorem witness_gate : (sw.conf.grid gw.grid.toNat).gated = false ∧ Sparse.get false sw.disp.gateFault gw.grid.toNat = false ∧ gw.task = false
    ∧ ({ sw with conf := { grids := [(0, { gated := true })] } } : State).conf.grid gw.grid.toNat = { gated := true } := by decide

/-- A group with the format word of F32 operands and accumulator in v1. -/
def gFmt : Machine.Group := { gw with v := Sparse.setAll 0 [] [(128, 0x842), (129, 0x842), (130, 0x842), (131, 0x842)] }

theorem witness_matrix : Format (swith gFmt) gFmt 1 0x842 ∧ (1 : Fld).toNat < gw.aCount
    ∧ (∃ t g1 bound, sw.bindTiles 1 gw [1] = some (t, g1, bound)) ∧ dimsOf ((1 : W64) <<< 16 ||| 1 <<< 8 ||| 1) ≠ none := by
  refine ⟨⟨by decide, by decide, by decide, by decide⟩, by decide, ⟨_, _, _, rfl⟩, by decide⟩

/-- A job card: M, N and K as given, pitch 32, five counts of 1, and no flag. -/
def aCard (dim : Byte) : List Byte :=
  (List.range 144).map fun i => if i < 3 then dim else if i = 24 then 32 else if i % 16 = 0 ∧ 64 ≤ i then 1 else 0

/-- The machine with that card in the object's first bytes; c0 names it. -/
def sCard (dim : Byte) : State :=
  { swith gFmt with
    mem := { mw with bytes := ((List.range 144).map fun i => (327680 + i, (aCard dim).getD i 0)).filter fun e => e.2 != 0 },
    trust := { frames := [(5, { bound := true })] } }

/-- The read of a job card at c0. -/
def cardForm : MemForm :=
  { op := { slices := [0], pc := 0x40, y := false, kind := .jobCard, size := 144, dst := 0, args := [0x842, 1, 0, 1], pieces := [] }
    lanes := fun g => [{ lane := g.lowest [0], cap := g.rc 0, off := 0, size := 144 }]
    align := 16
    rights := rR ||| rE
    log := 4 }

set_option maxRecDepth 20000 in
theorem test_card : cardBytes (answered (sCard 1) gFmt cardForm) = aCard 1 ∧ cardBytes (answered (sCard 0) gFmt cardForm) = aCard 0 := by decide

theorem witness_card : ∃ g2, Accepted (sCard 1) gFmt g2 cardForm := by
  refine ⟨_, ?_, ?_, ?_, ?_, rfl⟩ <;> decide

theorem witness_card_fields (s : State) (g : Machine.Group) : CardFields s g (aCard 1) 1 1 1 0 0 32 0 ∧ CardFields s g (aCard 0) 0 0 0 0 0 32 0 := by
  refine ⟨⟨by decide, by decide, by decide, by decide, by decide, by decide, by decide, by decide, fun h => ?_⟩,
    ⟨by decide, by decide, by decide, by decide, by decide, by decide, by decide, by decide, fun h => ?_⟩⟩ <;>
    exact absurd h (by decide)

theorem witness_card_fits : (let ls := (List.range 5).map (jobLevel (aCard 1))
    (∀ l ∈ ls, l.n ≠ 0) ∧ (∀ l ∈ ls, l.s = false) ∧ jobCapCause ls false true 1 1 ((sCard 1).allocOf gFmt) {} 0 0 4 = none
      ∧ jobFits ls 0x842 1 1 1 1 gFmt.aCount 0 0 32 0 ((sCard 1).allocOf gFmt) = true) ∧ (sCard 1).outstanding 1 < 1024
    ∧ ∃ t g4 bound, (sCard 1).bindTiles 1 gFmt [1] = some (t, g4, bound) := by
  refine ⟨by decide, by decide, _, _, _, rfl⟩

theorem witness_firmware : gw.privileged = false ∧ gPriv.privileged = true ∧ sw.wordObject gPriv ((5 : W64) <<< 24) = some 5
    ∧ bits ((5 : W64) <<< 24) 23 0 < 6 ∧ (sw.objEntry 5).valid = true ∧ sw.fwRefuses gPriv (sw.objEntry 5).ctx = false
    ∧ sw.entryKey (sw.objEntry 5).root 0 0 = some 8192 ∧ fwOffsetOk (0 : W64) 96 = true ∧ fwOffsetOk (0 : W64) 64 = true
    ∧ sw.fwQueue 0 = [] := by decide

theorem placeOk_host (w : W64) (n : Nat) (h : w.getLsbD 63 = true) : placeOk w n = true := by simp [placeOk, h]

theorem witness_save : (swith { gw with state := .idle }).group 1 = some { gw with state := .idle } ∧ sw.dieRuns (1 / 2 ^ 26) = true
    ∧ (sw.fwQueue 0).length < 1024 ∧ sw.saving 1 = false ∧ gw.privileged = false ∧ (sw.ctxOf gw.ctx).prot = false
    ∧ placeOk 0x8000000000000000 (sw.imageSize 1 { gw with state := .idle } false (sw.savedStash 1 gw false)) = true ∧ placeOk 0 64 = true
    ∧ GroupState.idle ∉ [GroupState.saved, .done, .halted] := by
  refine ⟨rfl, by decide, by decide, by decide, by decide, by decide, placeOk_host _ _ (by decide), by decide, by decide⟩

/-! Resets, the host, power and heat -/

/-- A host access to eight bytes of the control window through module 0. -/
def h8 (off : Nat) (v : W64) : HostAccess := { hostModule := 0, offset := off, data := leBytes 8 v.toNat }

/-- The small machine with host module 0 trained and context 1 open to the host. -/
def sHost : State :=
  { sw with
    pkg := { running := 1, trained := 1 }
    trust := { ctxs := [(1, { state := .open, hostSubmit := true })] } }

/-- A well-formed submit: version 1, one block of one group, dimensions and chips 1 by 1, kernel object 5. -/
def goodSubmit : List Byte :=
  (List.range 64).map fun k => if [0, 0x18, 0x1C, 0x1D, 0x1E, 0x20].contains k then 1 else 0

/-- The same record in s32 to s39. -/
def gSubmit : Machine.Group :=
  { gw with s := (List.range 8).filterMap fun k =>
      let v := BitVec.ofNat 64 (leNat ((goodSubmit.drop (8 * k)).take 8))
      if v = 0 then none else some (32 + k, v) }

theorem witness_launch : (32 : Fld).toNat ≤ 120 ∧ sw.outstanding 1 < 1024
    ∧ (let r := BitVec.ofNat 512 ((List.range 8).foldl (fun n k => n + (gSubmit.rs (32 + k)).toNat * 2 ^ (64 * k)) 0)
      submitWellFormed r = true ∧ subField r 2 2 ≤ 1023 ∧ subField r 0x1E 2 ≠ 0)
    ∧ (sHost.ctxOf 1).accepts = true ∧ (sw.ctxOf 1).accepts = false := by decide

theorem witness_resets : sHost.windowsOpen (h8 0x10000 1) = true ∧ (h8 0x10000 1).writes8 0x10000 = true ∧ (h8 0x10000 1).value.getLsbD 0 = true
    ∧ (sHost.windowsOpen (h8 0x10000 0) && (h8 0x10000 0).writes8 0x10000 && (h8 0x10000 0).value.getLsbD 0) = false
    ∧ State.reset.pkg.inReset = false ∧ State.reset.pkg.tripped = false ∧ State.reset.fw.state = 0 ∧ sw.fw.state ≠ 0 := by decide

theorem witness_host_registers : sHost.windowsOpen (h8 0x10010 0) = true ∧ (h8 0x10010 0).readsReg 0x10010 = true
    ∧ (h8 0x10030 0).readsReg 0x10030 = true ∧ (h8 0x10028 0).writes8 0x10028 = true ∧ (h8 0x10040 0).writes8 0x10040 = true
    ∧ (h8 0x10018 0).writes8 0x10018 = true ∧ bits (h8 0x10018 127).value 15 0 < 128
    ∧ (sHost.partitions.any fun p => p.id == (h8 0x10018 127).value.extractLsb' 48 16) = true
    ∧ ¬ bits (h8 0x10018 128).value 15 0 < 128
    ∧ 0x4000000 ≤ (h8 0x7FFFFF8 0).offset ∧ (h8 0x7FFFFF8 0).offset + (h8 0x7FFFFF8 0).data.length ≤ 0x8000000
    ∧ 0x8000000 < (h8 0x7FFFFF9 0).offset + (h8 0x7FFFFF9 0).data.length := by decide

/-- A write of a submit record to context 1's place. -/
def hSubmit : HostAccess := { hostModule := 0, offset := 0x10000040, data := goodSubmit }

set_option maxRecDepth 4000 in
theorem witness_submits : sHost.windowsOpen hSubmit = true ∧ 0x10000000 ≤ hSubmit.offset ∧ hSubmit.offset < 0x14000000
    ∧ hSubmit.offset % 64 = 0 ∧ hSubmit.data.length = 64 ∧ sHost.host.subBuf.length < 4096
    ∧ ((sHost.ctxOf 1).accepts && (sHost.ctxOf 1).hostSubmit) = true ∧ ((sw.ctxOf 1).accepts && (sw.ctxOf 1).hostSubmit) = false
    ∧ submitWellFormed (BitVec.ofNat 512 (leNat hSubmit.data)) = true ∧ submitWellFormed 0 = false
    ∧ ({ sHost with host := { subBuf := [(1, 0)] } } : State).host.subBuf = [(1, 0)] ∧ sHost.mayPost = true := by decide

/-- A request to the host's service that waits. -/
def aService : Service := { id := 3, function := 1, part := 0, die := 0, body := [], tick := 0 }

theorem witness_services :
    (let f : HostIf := { svcWaiting := [aService] }; f.svcWaiting = [aService] ∧ f.svcHead - f.svcTail ≠ 256)
    ∧ (let f : HostIf := { svcHead := 256 }; f.svcHead - f.svcTail = 256)
    ∧ ([aService].find? fun q => q.id == 3) = some aService ∧ 10 ^ 9 ≤ ((10 ^ 9 : W64) - aService.tick).toNat
    ∧ (let h : HostAccess := { hostModule := 0, offset := 0x34000, data := leBytes 64 3 }
       sHost.windowsOpen h = true ∧ 0x34000 ≤ h.offset ∧ h.offset < 0x34040 ∧ h.data.length = 64 ∧ bodyNum h.data 8 1 < 2
         ∧ bodyNum h.data 9 7 = 0 ∧ (3 : W64) = BitVec.ofNat 64 (bodyNum h.data 0 8)) := by decide

/-- A host access that writes MBCMD with a code and an argument. -/
def mbc (code arg : Nat) : HostAccess := h8 0x40000 (BitVec.ofNat 64 (2 ^ 56 * code + 2 ^ 48 * arg))

/-- A machine whose boot ROM waits in recovery, and one whose staging window names context 1. -/
def sRecovery : State := { sHost with fw := { state := 2 } }
def sStaged : State := { sHost with host := { staging := [(0, 1)] } }

theorem witness_mailbox_images : sHost.hostReaches (mbc 1 0) = true ∧ MailStarts sHost (mbc 0x01 0) 0x01 0 ∧ MailStarts sHost (mbc 0x10 0) 0x10 0
    ∧ MailStarts sRecovery (mbc 0x02 0) 0x02 0 ∧ MailStarts sHost (mbc 0x03 1) 0x03 1 ∧ MailStarts sHost (mbc 0x04 0) 0x04 0
    ∧ sHost.anyAssisted 5 = false ∧ sHost.fw.image.toNat ≠ 1 + 1 ∧ sRecovery.fw.state = 2 ∧ Sparse.wf 0 sHost.host.staging = true
    ∧ verifyImage sRecovery.host.staging 0 sRecovery.pkg.minVersion ≠ 0
    ∧ (∀ f ∈ mailForms (mbc 0x05 0), bits (mbc 0x05 0).value 63 56 ≠ f.2.1) ∧ bits (h8 0x40000 1).value 47 0 ≠ 0 := by
  unfold MailStarts; decide

/-- The staging window of a CTXOPEN of context 2 with one queue in partition 0, and of a KEYLOAD for context 2, generation 1. -/
def sCtxopen : State := { sHost with host := { staging := Sparse.setAll 0 [] [(0, 2), (0x46, 1)] } }

/-- Contexts 1 and 2 hold key slots: 1 closed, 2 erased and 3 open with an old generation. -/
def sSlots : State :=
  { sHost with
    host := { staging := [(0, 1)] }
    trust := { ctxs := [(1, { state := .closed, slot := 1, gen := 1 }), (3, { state := .open, slot := 3, gen := 2 })]
               slots := [(1, { ctx := 1, gen := 1, key := 7 }), (3, { ctx := 3, gen := 2, key := 7, prev := some (1, 9) })] } }

theorem witness_mailbox_contexts : sCtxopen.fw.state = 1 ∧ MailStarts sCtxopen (mbc 0x11 0) 0x11 0
    ∧ (let control := BitVec.ofNat 64 (sCtxopen.stagedNat 0 8)
       (control.setWidth 20 : BitVec 20) = 2 ∧ bits control 59 20 = 0 ∧ bits control 63 62 = 0 ∧ sCtxopen.stagedNat 0x7A 6 = 0
         ∧ sCtxopen.stagedNat 0x46 2 ≠ 0 ∧ sCtxopen.stagedNat 0x44 2 + sCtxopen.stagedNat 0x46 2 ≤ 1024
         ∧ (∃ p ∈ sCtxopen.partitions, p.id = BitVec.ofNat 16 (sCtxopen.stagedNat 0x78 2)) ∧ (sCtxopen.ctxOf 2).state = .free)
    ∧ MailStarts sStaged (mbc 0x13 0) 0x13 0 ∧ sStaged.mailCtx 0 = some 1 ∧ (sStaged.ctxOf 1).state = .open
    ∧ (sSlots.ctxOf 1).state ≠ .open := by
  unfold MailStarts; decide

theorem witness_mailbox_keys : sSlots.fw.state = 1 ∧ sSlots.mailCtx 0 = some 1 ∧ MailStarts sSlots (mbc 0x14 0) 0x14 0
    ∧ (sSlots.ctxOf 1).state = .closed ∧ ({ sSlots with groups := [] } : State).ctxInUse 1 = false ∧ (sSlots.ctxOf 1).slot ≠ 0
    ∧ (let t : State := { sSlots with
        pkg := { sSlots.pkg with config := { parts := [{ first := 0, count := 160, mode := 16, id := 0 }] } }
        host := { sSlots.host with mode := [(0, 16)] }
        trust := { sSlots.trust with ctxs := [(1, { state := .erased, slot := 1 })], sweeps := [(1, { hosted := true })] } }
       t.scrubHosted 1 = true ∧ t.hostAssisted (t.ctxOf 1).part 4 = true ∧ (t.ctxOf 1).state = .erased ∧ t.stagedNat 8 8 + t.stagedNat 0x10 8 ≤ 2 ^ 31
         ∧ t.boundFrames (t.ctxOf 1).slot = [])
    ∧ (let t : State := { sSlots with host := { staging := [(0, 3)] } }
       t.mailCtx 0 = some 3 ∧ (t.ctxOf 3).state = .open ∧ (t.ctxOf 3).slot ≠ 0 ∧ (t.keySlot (t.ctxOf 3).slot.toNat).prev.isSome = true
         ∧ (t.keySlot (t.ctxOf 3).slot.toNat).destroyed = false
         ∧ MailStarts t (mbc 0x17 0) 0x17 0)
    ∧ (let t : State := { sSlots with fw := { state := 1, busy := true, cmd := some { code := 0x14, ctx := 1, status := 0, hosted := false, nonce := [] } } }
       t.fw.state = 1 ∧ t.mailCtx 0 = some 1 ∧ t.fw.cmd.isSome = true) := by
  unfold MailStarts; decide

theorem witness_power : (let p : Package := { hot95 := true }; p.hot95 = true ∧ 92 ≤ 94) ∧ 95 ≤ 95 ∧ 92 > 91 ∧ 105 ≤ 105 ∧ 115 ≤ 115
    ∧ sw.pkg.hold105 = false ∧ ({ hold105 := true } : Package).hold105 = true
    ∧ (let s : State := { sw with pkg := { sw.pkg with config := { modules := 1 } } }
       s.pkg.config.modules.getLsbD 0 = true ∧ s.dieRuns 0 = true) ∧ sw.dieRuns 2 = false := by decide

/-- A machine whose firmware on die 0 has let its watchdog run out, with a proposal to drop die 1. -/
def sWatch : State :=
  { sw with pkg := { running := 3, config := { modules := 1 } }, fw := { state := 1, watchdog := [(0, 0)], proposals := [{ die := 1, reason := 4, accepted := true }] } }

theorem witness_dies : sWatch.watchdog 0 = 0 ∧ sWatch.dieRuns 0 = true ∧ sWatch.fw.state = 1 ∧ sWatch.watchdog 1 ≠ 0
    ∧ ({ sWatch.fw with diesParked := 1 } : Firmware).diesParked.getLsbD 0 = true
    ∧ (sWatch.fw.proposals.any fun p => p.die == 1 && p.accepted) = true
    ∧ (sWatch.fw.proposals.any fun p => p.accepted && decide (p.die.toNat < 1)) = false
    ∧ sWatch.dieRuns 1 = true ∧ sWatch.canDrop 1 = true := by decide

/-- A check that failed in die 0: of a unit, with an outcome of its repeat. -/
def aCheck (kind check : BitVec 8) (corrected : Bool) (retry : Option Bool) : CheckFail :=
  { die := 0, unitKind := kind, check := check, unitNum := 0, frame := none, sector := 0, corrected := corrected, retry := retry, target := 0 }

theorem witness_checks : (let e := aCheck 0 0 true none; e.corrected = true ∧ e.frame = none)
    ∧ (let e := aCheck 0 0 false (some true); e.corrected = false ∧ e.retry = some true)
    ∧ (let e := aCheck 8 0 false none; e.corrected = false ∧ e.retry ≠ some true ∧ e.check ≠ 2 ∧ (e.unitKind = 7 ∨ e.unitKind = 8))
    ∧ Sparse.get none ({ lastExpiry := [(0, some 5)] } : Firmware).lastExpiry 0 = some 5
    ∧ ((sw.tickOf 0 - (0 : W64)).toNat ≤ 10 ^ 8) := by decide

/-- The small machine with a page whose move has begun, key slot 3 of context 1, and an entry of the firmware queue. -/
def sFw : State :=
  { sw with
    mem := { mw with migrating := [(5, 0)] }
    trust := { slots := [(3, { ctx := 1, gen := 1, key := 7 })] }
    fw := { state := 1, queue := [(0, [{ kind := 2, status := 0, weir := 0, ctx := 1, object := 0, offset := 0, faultKind := 0, op := 1 }])] } }

theorem witness_tables : sFw.mem.migrating.contains ((5 : BitVec 28), 0) = true ∧ leafProtected (0x4000000000000005 : W64) = true
    ∧ leafFrame (0x8000000000000005 : W64) = leafFrame (0x8000000000000005 : W64) ∧ leafProtected (0x8000000000000006 : W64) = false
    ∧ leafFrame (0x8000000000000005 : W64) ≠ leafFrame (0x8000000000000006 : W64)
    ∧ ((sFw.objEntry 5).valid && sFw.fwRefuses gPriv (sFw.objEntry 5).ctx) = false
    ∧ (sFw.keySlot (bits (0x1003 : W64) 11 0)).ctx ≠ 0 ∧ bits (0x1003 : W64) 15 12 = 1 ∧ bits (0x2003 : W64) 15 12 = 2
    ∧ sFw.fwRefuses gPriv (sFw.keySlot 3).ctx = false ∧ (0x1003 : W64).toNat < 65536
    ∧ (sFw.keySlot 4).ctx = 0 ∧ (sFw.keySlot 4).warmLost = false ∧ (sFw.keySlot 4).gen = 0
    ∧ (let blk := sFw.fwBytes 0 0 96; leNat ((blk.drop 0x46).take 26) = 0 ∧ leNat ((blk.drop 0x40).take 4) < 2 ^ 20) := by decide

theorem witness_queues : (∃ e q, sFw.fwQueue 0 = e :: q) ∧ fwOffsetOk (0 : W64) 32 = true ∧ bits (0 : W64) 46 41 ≤ 56
    ∧ leNat ((sFw.fwBytes 0 0 64).take 8) = 0
    ∧ (let r := recordOf (sFw.fwBytes 0 0 64); ((r.typ == 0x01 || r.typ == 0x07) && !(sFw.ctxOf (r.ctx.setWidth 20)).accepts) = false)
    ∧ (let s : State := { sFw with fw := { sFw.fw with region := [(8, 1)] } }
       let r := recordOf (s.fwBytes 0 0 64); ((r.typ == 0x01 || r.typ == 0x07) && !(s.ctxOf (r.ctx.setWidth 20)).accepts) = true) := by
  refine ⟨⟨_, _, rfl⟩, ?_⟩; decide

/-! Links, packets and the Current -/

/-- The small machine with port 0 trained and fabric port 0 to 3 fitted. -/
def sPort : State :=
  { sw with
    pkg := { running := 1, config := { brodug := 1 } }
    fab := { ports := [(0, { state := .trained })] } }

set_option maxRecDepth 20000 in
theorem witness_links : (sPort.port 0).state = .trained ∧ (sPort.port 1).state ≠ .trained
    ∧ (makeFrame 1 0 0 0 []).good = true ∧ (makeFrame 1 0 0 0 []).kind = 1
    ∧ (makeFrame 0 0 0 0 []).good = true ∧ (makeFrame 0 0 0 0 []).kind = 0 ∧ (makeFrame 0 0 0 0 []).seq = (sPort.port 0).rxSeq
    ∧ (makeFrame 2 0 0 0 []).good = true ∧ (makeFrame 2 0 0 0 []).kind = 2
    ∧ ({ makeFrame 1 0 0 0 [] with crc := 0 } : Frame).good = false := by decide

theorem witness_ports : (let p : Port := { state := .trained, retries := 8 }; p.state = .trained ∧ 8 ≤ p.retries)
    ∧ (let s : State := { sPort with fab := { ports := [(0, { state := .training })] } }
       (s.port 0).state = .training ∧ s.dieRuns 0 = true ∧ s.pkg.config.brodug.getLsbD 0 = true
         ∧ 100000 ≤ ((100000 : W64) - (s.port 0).since).toNat) := by decide

/-- A read of the first 32 bytes of object 5 from chip 1, and an acknowledgement of its window. -/
def pRead : Packet := { Packet.zero with opcode := 0x01, src := 1, mask := 1, object := 5 }
def pAck : Packet := { Packet.zero with opcode := 0x0B, cls := 1, src := 1, seq := 1 }

theorem witness_window : wellPacked pRead = true ∧ pRead.dst = sPort.fab.self ∧ sPort.dieRuns pRead.plane.toNat = true
    ∧ (let w := sPort.rxOf { chip := pRead.src, plane := pRead.plane, cls := pRead.cls }
       pRead.epoch = w.epoch ∧ pRead.seq = w.expected ∧ w.pool = [] ∧ ({ pRead with epoch := 2 } : Packet).epoch ≠ w.epoch + 1
         ∧ 512 ≤ (({ pRead with seq := 512 } : Packet).seq - w.expected).toNat)
    ∧ (∃ t, ({ sPort with fab := { sPort.fab with rx := [({ chip := 1, plane := 0, cls := 0 }, { pool := [pRead] })] } } : State).handOver
        pRead = some t) ∧ wellPacked { pRead with mask := 0 } = false := by
  refine ⟨?_, ?_, ?_, ?_, ⟨_, rfl⟩, ?_⟩ <;> decide

theorem witness_hand_over : (∃ core, sPort.taskCore 1 cap5 0 = some core)
    ∧ (let s : State := { sPort with fab := { sPort.fab with asked := [(7, .command 3, { chip := 1, plane := 0, cls := 0 })] } }
       ∃ a at_, (s.fab.asked.find? fun e => e.1 == 7) = some (7, a, at_)) := by
  refine ⟨⟨_, rfl⟩, ⟨_, _, rfl⟩⟩

theorem witness_window_moves : wellPacked pAck = true ∧ pAck.inline0.setWidth 2 = (0 : BitVec 2)
    ∧ (let w : TxWindow := { next := 1, unacked := [pRead] }
       pAck.epoch = w.epoch ∧ pAck.seq ≠ w.oldest ∧ (pAck.seq - w.oldest).toNat ≤ (w.next - w.oldest).toNat ∧ w.unacked ≠ []
         ∧ 50000 ≤ ((50000 : W64) - w.moved).toNat ∧ ∀ e ∈ sPort.fab.asked, ¬ (e.2.2.chip = 1 ∧ e.2.2.plane = 0))
    ∧ (let r : RxWindow := { unacked := 1 }; r.unacked ≠ 0 ∧ 100 ≤ ((100 : W64) - r.since).toNat) := by decide

/-- A multicast write of 32 bytes to group 1, version 0, which this chip maps to object 5. -/
def pMulti : Packet := { Packet.zero with opcode := 0x18, cls := 3, group := 1, mask := 1, flits := 1, payload := List.replicate 32 7 }
def sMulti : State :=
  { sw with fab := { mcMaps := [(2 ^ 28, 5)] }, conf := { chips := [(0, { state := .live })] } }

theorem witness_switches : wellPacked pMulti = true ∧ (sMulti.conf.chip sMulti.fab.self.toNat).state = .live
    ∧ (Sparse.get 0 sMulti.fab.mcMaps (pMulti.group.toNat * 2 ^ 28 + pMulti.object.toNat) : BitVec 28) = 5
    ∧ (sMulti.objEntry 5).publishing = false
    ∧ (∃ t leaf entry, sMulti.translate (sMulti.packetReq pMulti 2) 5 (pMulti.offset.toNat + (packetOffsets pMulti).headD 0) true false
        = (t, .ok leaf entry))
    ∧ wellPacked { Packet.zero with opcode := 0x19, cls := 3, flits := 1, mask := 3, payload := List.replicate 64 0 } = true
    ∧ wellPacked { Packet.zero with opcode := 0x1D, cls := 3 } = true := by
  refine ⟨?_, ?_, ?_, ?_, ⟨_, _, _, rfl⟩, ?_, ?_⟩ <;> decide

theorem witness_weirs : (let s : State := { sw with mem := { mw with requests := [{ packet := pRead }] } }
      s.mem.requests = [{ packet := pRead }] ∧ s.dieRuns (homeDie 5) = true)
    ∧ (sw.objEntry 5).publishing = false
    ∧ (let s : State := { sw with mem := { mw with held := [(3, 1, 0)] } }
       (s.mem.held.find? fun e => e.1 == 3) = some (3, 1, 0) ∧ s.group 1 = some gw ∧ 10000 ≤ ((10000 : W64) - 0).toNat) := by
  refine ⟨⟨rfl, by decide⟩, by decide, rfl, rfl, by decide⟩

/-- A record of chip 0 that posts the completion of the block of grid 1, nominal chip 0. -/
def rBlock (typ : BitVec 8) : CurRec := { seq := 1, typ := typ, version := 1, src := 0, ctx := 0, payload := 1 }

/-- The small machine in a LIVE chip that applies records. -/
def sLive : State :=
  { sw with
    conf := { chips := [(0, { state := .live, free := 1 })]
              grids := [(1, { state := .placed, outstanding := 2, unreleased := 2, width := 1, height := 1, node := 0xFFFFFFFF })]
              places := [(4096, { count := 3, placed := true })] }
    cur := { params := some { every := 1, wait := 1, gap := 100000, expel := 1 } } }

theorem witness_records : sLive.fw.state = 1 ∧ sLive.cur.stopped = false ∧ sLive.cur.holding = false ∧ sLive.cur.hold = []
    ∧ typeAssigned (rBlock 3).typ = true ∧ (∀ q ∈ sLive.cur.queue, typeAssigned q.typ = true) ∧ (rBlock 3).seq = sLive.cur.next
    ∧ sLive.cur.queue.length < 65536 ∧ sLive.ownState = .live
    ∧ (let s : State := { sLive with cur := { sLive.cur with stage := .tail } }; s.cur.holding = true ∧ s.cur.rejoinHold.length < 2 ^ 20) := by
  decide

/-- A transfer under way, asked of chip 1. -/
def aTransfer (snapshot : Bool) : Transfer := { snapshot := snapshot, id := 0, asked := 1, left := [2], first := 1, last := 1, since := 0 }

theorem witness_tails : (let s : State := { sLive with cur := { sLive.cur with hold := [{ rBlock 3 with seq := 2 }], gapSince := some 0 } }
      s.cur.hold = [{ rBlock 3 with seq := 2 }] ∧ s.cur.gapSince = some 0 ∧ s.cur.transfer = none ∧ s.silence ≤ ((100000 : W64) - 0).toNat)
    ∧ (let s : State := { sLive with cur := { sLive.cur with transfer := some (aTransfer false) } }
       s.answered 1 0 false = some (aTransfer false) ∧ tailMatches (aTransfer false) [rBlock 3] = true
         ∧ tailMatches (aTransfer false) [] = false ∧ s.cur.stage ≠ .tail ∧ s.answered 1 0 true = none ∧ s.streaming (aTransfer false) = false
         ∧ s.silence ≤ ((100000 : W64) - (aTransfer false).since).toNat ∧ (aTransfer false).left = [2])
    ∧ (let s : State := { sLive with cur := { sLive.cur with transfer := some (aTransfer true) } }
       s.answered 1 0 true = some (aTransfer true)) := by decide

theorem snapSum_hash (p : SnapStream) (h : BitVec 384) : snapSum { p with hash := h } = snapSum p := rfl

theorem snapGood_hashed (p : SnapStream) (a : p.magic = 0x5046594E) (b : p.version = 1) (c : p.count.toNat = p.rows.length)
    (d : p.digest = digestOf (p.rows.filter fun r => r.table != 7)) : snapGood { p with hash := snapSum p } = true := by
  simp only [snapGood, snapSum_hash p (snapSum p)]
  rw [a, b, c, ← d]
  simp

theorem witness_snapshot : ∃ p : SnapStream, snapGood p = true :=
  ⟨_, snapGood_hashed
    { magic := 0x5046594E, version := 1, opening := 0, params := 0, digest := digestOf [], count := 0, rows := [], hash := 0 } rfl rfl rfl rfl⟩

set_option maxRecDepth 4000 in
theorem witness_timers : (let q : Round := { opening := 1, live := [0], joining := [], since := 0, closePosted := false }
      (sLive.applies && sLive.speaks && sLive.ownState == .live && !q.closePosted && decide (1 ≤ ((1 : W64) - q.since).toNat)) = true)
    ∧ sLive.cur.params = some { every := 1, wait := 1, gap := 100000, expel := 1 } ∧ sLive.cur.stage = .none ∧ sLive.mayRejoin = false
    ∧ ({ sLive with cur := { sLive.cur with stopped := true } } : State).mayRejoin = true
    ∧ ({ sLive with conf := {} } : State).snapCandidates ≠ []
    ∧ (let s : State := { sLive with conf := {}, cur := { sLive.cur with stage := .replay } }
       s.cur.stage = .replay ∧ s.cur.queue = [] ∧ s.cur.hold = [] ∧ s.ownState ≠ .live ∧ s.ownState ≠ .joining)
    ∧ (let c : Current := { stage := .snapshot }; c.transfer = none ∧ c.retryAt = none) := by
  refine ⟨?_, ?_, ?_, ?_, ?_, ?_, ?_, ?_⟩ <;> decide

theorem witness_applied : (∃ e, recordForms[4]? = some e ∧ e.2 (rBlock 3) = true) ∧ sLive.applies = true ∧ recordGood sLive.conf (rBlock 3) = true
    ∧ sLive.graphDiff (rBlock 3) = false ∧ recordGood {} (rBlock 3) = false ∧ sLive.cur.log.length < 2 ^ 20
    ∧ ({ grid := 1, fault := false, answer := some 1, sent := true } : SignalDue).answer = some 1 := by
  refine ⟨⟨_, rfl, ?_⟩, ?_⟩ <;> decide

theorem witness_completions : namedGrid (rBlock 3) = 1 ∧ namedChip (rBlock 3) = 0 ∧ (sLive.conf.grid 1).state = .placed
    ∧ (sLive.conf.place 1 0).placed = true ∧ ((sLive.conf.place 1 0).enacting.setWidth 16 : BitVec 16) = (rBlock 3).src
    ∧ (sLive.conf.place 1 0).parked.toNat < (sLive.conf.place 1 0).count.toNat ∧ (sLive.conf.place 1 0).finished = false
    ∧ (sLive.conf.grid 1).unreleased ≠ 1 ∧ (sLive.conf.grid 1).outstanding ≠ 1 ∧ (sLive.conf.grid 1).signal = 0
    ∧ ({ parked := 1 } : PlaceRow).parked ≠ 0 ∧ ({ released := true } : PlaceRow).released = true := by decide

theorem witness_shares : (sLive.conf.queue 1).tickets = 0 ∧ ({ rBlock 8 with payload := 0x30001 } : CurRec).payload.extractLsb' 16 16 ≠ 0
    ∧ (let t : Tables := { grids := [(1, { state := .done })] }
       (t.grid 1).state = .done ∧ (rBlock 2).src = (t.grid 1).owed.setWidth 16)
    ∧ (let g : GridRow := { width := 1, height := 1 }; sLive.conf.fit g = some (0, 0) ∧ 1 ≤ g.width.toNat ∧ 1 ≤ g.height.toNat) := by decide

/-! Blocks, groups, parks and commands -/

/-- An item of partition 0's queue, and its kernel, whose header came from chip 1. -/
def anItem : QueueItem := { cls := 1, grid := 1, nominal := 0, number := 0, dormant := none }
def sItem : State := { sLive with disp := { blocks := [(1, some { bw with dormant := true })], items := [anItem] } }

theorem witness_block_start : sItem.headItem 0 = some anItem ∧ (∃ core, sItem.chooseCore 0 4 = some core) ∧ sItem.chooseCore 0 641 = none
    ∧ (let i : QueueItem := { anItem with dormant := some 1 }
       ({ sItem with disp := { sItem.disp with items := [i] } } : State).headItem 0 = some i ∧ i.dormant = some 1)
    ∧ sItem.block 1 = some { bw with dormant := true } := by
  refine ⟨?_, ⟨_, rfl⟩, ?_, ?_, ?_⟩ <;> decide

theorem witness_block_end : sw.block 1 = some bw ∧ sw.blockCommands 1 = [] ∧ (∃ s1, sw.flushRegions 1 = (s1, true))
    ∧ (let s : State := { sw with groups := [(1, some { gw with state := .done })] }
       (bw.groups.all fun h => ((s.group h).map fun g => decide (g.state = .done)).getD false) = true) ∧ bw.started = true
    ∧ (let g : Machine.Group := { gw with slices := [(0, { state := .parked, park := .gate })] }
       (swith g).blockParked bw = true) := by
  refine ⟨?_, ?_, ⟨_, rfl⟩, ?_, ?_, ?_⟩ <;> decide

theorem witness_task_groups : (let r : TaskRec := { kernel := 0, ctx := 1, cap := cap5, offset := 0, args := [], tick := 0 }
    let s : State := { sw with cores := [(0, { taskQueue := [r] })] }
    (Sparse.get {} s.cores 0 : Core).taskQueue = [r] ∧ ∃ s1 out, s.image r.kernel r.ctx = (s1, out)
      ∧ (Sparse.get {} s1.cores 0 : Core).taskQueue = [r]) := by
  refine ⟨rfl, _, _, rfl, ?_⟩; decide

theorem witness_activation : (let c : Core := { created := [1] }
    let s : State := { sw with cores := [(0, c)], groups := [(1, some { gw with quota := 1, state := .created })] }
    (Sparse.get {} s.cores 0 : Core).parked = false ∧ c.queue = [1] ∧ s.group 1 = some { gw with quota := 1, state := .created }
      ∧ (Sparse.get {} s.cores 0 : Core).freePort = some 0 ∧ s.belowQuota 0 { gw with quota := 1, state := .created } = true
      ∧ c.tilesFor 1 { gw with quota := 1, state := .created } = true) := by decide

/-- The object of group 1 is mapped to frame 1, where its context lines lie. -/
def sCtx (g : Machine.Group) : State :=
  { swith g with
    mem := { objects := [(1, { root := 0x8000000000000001, sizeKey := 0xFFFF000000, flags := 0x100000001 })]
             tables := [(8192, 0x8000000000000002), (16384, 0x8000000000000003), (24576, 0x8000000000000001)] } }

/-- A group with a waiting line of its spill area, and one with a waiting line of a page that is missing. -/
def gFills : Machine.Group := { gw with present := [(50, .filling)], spilled := [(50, 0)] }
def gMisses : Machine.Group := { gw with present := [(50, .filling)] }

theorem witness_fill : gFills.filling ≠ [] ∧ (sCtx gFills).missingPages 1 gFills = [] ∧ gFills.ctxFault = false
    ∧ (sCtx gFills).linesUsed gFills.core + gFills.filling.length ≤ 6912 ∧ gFills.headerWaits = false
    ∧ (∃ t g', gFills.filling.foldl (State.fillCtxLine 1) (sCtx gFills, gFills, []) = (t, g', []))
    ∧ (swith gMisses).missingPages 1 gMisses ≠ [] ∧ gMisses.ctxFault = false
    ∧ (∃ t pages nw, (swith gMisses).recordPages 1 gMisses ((swith gMisses).missingPages 1 gMisses) = (t, pages, nw) ∧ pages ≠ []) := by
  refine ⟨by decide, by decide, by decide, by decide, by decide, ⟨_, _, rfl⟩, by decide, by decide, _, _, _, rfl, by decide⟩

theorem witness_provided : (let g : Machine.Group := { gw with ctxFault := true, faultedOn := [(1, 0)] }
    g.ctxFault = true ∧ ∃ t, (sCtx g).mapPages 1 (g.faultedOn.map Prod.snd) = (t, []) ∧ t.ctxServed 1 g = true) := by
  refine ⟨rfl, _, rfl, ?_⟩; decide

theorem witness_parks : (let g : Machine.Group := { gw with pending := [{ slices := [0], scalar := some (9, 1) }] }
      (g.live.find? fun i => (g.slice i).park == .switchPoint) = none ∧ g.pending ≠ [] ∧ g.handling = false)
    ∧ (let g : Machine.Group := { gw with slices := [(0, { state := .parked, park := .switchPoint })] }
       (g.live.find? fun i => (g.slice i).park == .switchPoint) = some 0 ∧ g.gang 0 = g.gang (g.slice 0).gang
         ∧ g.smxOf (g.gang 0) = [])
    ∧ (let g : Machine.Group := { gw with slices := [(0, { state := .parked, park := .pendingTrap })] }; g.nextTrap = some [0])
    ∧ (let g : Machine.Group := { gw with slices := [(0, { state := .parked, park := .sleep, deadline := 0 })] }
       (g.slice 0).park = .sleep ∧ (g.slice 0).deadline.toNat ≤ (sw.tickOf (dieOf g.core)).toNat) := by decide

theorem witness_releases : (let g : Machine.Group := { gw with xCount := 8, s := [(116, 0x1000003)], slices := [(0, { state := .parked, park := .join }), (1, { state := .exited })], width := 8 }
      sw.releaseDue g 116 = true ∧ g.state = .resident) := by decide

/-- A group that waits for the word of object 5 at offset 0 to equal 1. -/
def aWait : WaitRec :=
  { slices := [0], cap := cap5, offset := 0, size := 4, compare := 0, operand := 1, dest := 22, grant := {}, scope := 0, logged := false }
def gWaits : Machine.Group := { gw with waits := [aWait], slices := [(0, { state := .parked, park := .wait })] }

theorem witness_waits : gWaits.waitOf 0 = some aWait ∧ (gWaits.slice 0).park = .wait ∧ (∀ o ∈ gWaits.memOps, o.slices ≠ aWait.slices)
    ∧ (swith gWaits).waitOver gWaits aWait = false
    ∧ (let a : LaneReq := { lane := gWaits.lowest aWait.slices, cap := aWait.cap, off := aWait.offset, size := aWait.size }
       ∀ p ∈ ((swith gWaits).access 1 { gWaits with grant := aWait.grant } .waitRead 0 aWait.scope false (splitLane a)).2.1, p.status ≠ 0xFF) := by
  decide

theorem witness_page_faults : (let e : FaultEntry := { object := 5, page := 1, kind := 0, ctx := 1, requesters := [(0, 1)], reported := true }
      ({ sw with mem := { mw with faults := [e] } } : State).faultEntry 5 1 0 = some e)
    ∧ sw.faultEntry 5 1 0 = none
    ∧ (let g : Machine.Group := { gw with faultedOn := [(5, 1)], noWake := true, slices := [(0, { state := .parked, park := .pageFault })] }
       ((5 : BitVec 28), 1) ∈ g.faultedOn ∧ g.ctxFault = false ∧ sw.cmds = []
         ∧ (g.live.filter fun i => (g.slice i).park == .pageFault && decide ((g.slice i).deadline.toNat ≤ 0)) ≠ []) := by decide

/-- A launch command of the group, and a send. -/
def aCommand (w : CmdWork) : Command := { group := 1, block := 1, batch := 1, req := sw.groupReq 1 gw 4, work := w }

theorem witness_commands : (let s : State := { sw with mem := { mw with publishing := [(5, 3)] } }
      (s.mem.publishing.find? fun x => x.1 == 5) = some (5, 3))
    ∧ (∀ w ∈ [CmdWork.launch, .send 0 0 0, .publish 5], let c := aCommand w
        ({ sw with cmds := [(3, some c)] } : State).command 3 = some c ∧ sw.tileBusy 3 c = false ∧ c.faulted = [] ∧ sw.nextHeld c = false)
    ∧ sw.armed 7 = none
    ∧ (let a : ArmEntry := { tag := 7, ctx := 1, fire := false, slots := 1, buffer := cap5, grant := {} }
       ({ sw with mem := { mw with arms := [(0, some a)] } } : State).armed 7 = some (0, a)) := by decide

/-- A save and a restore of the idle group. -/
def aSave (restore stay : Bool) : SaveOp :=
  { op := 1, die := 0, group := 1, compressed := false, stash := false, restore := restore, stay := stay, place := 0, asked := none
    retryAt := none }
def sSave (restore stay : Bool) (st : GroupState) : State :=
  { sw with fw := { state := 1, saves := [aSave restore stay] }, groups := [(1, some { gw with state := st })] }

theorem witness_saves : (sSave false true .idle).saveOp 1 = some (aSave false true)
    ∧ (sSave false true .idle).group 1 = some { gw with state := .idle } ∧ gw.pending = []
    ∧ (sSave false true .idle).stopped 1 { gw with state := .idle } = true
    ∧ ((aSave false true).asked.isSome || (aSave false true).retryAt.isSome || decide (1024 ≤ ((sSave false true .idle).fwQueue 0).length)) = false
    ∧ (let p : SaveOp := { aSave true false with retryAt := some 0 }
       p.retryAt = some 0 ∧ (0 : W64).toNat ≤ ((sSave true false .saved).tickOf p.die).toNat ∧ p.restore = true) := by decide

/-- An image of the group without a region that it marks, and the save's header of it. -/
def anImage : ImageHead :=
  { ctx := 1, sealed := false, compressed := true, withStash := false, counter := 0, object := 1, chip := 0, length := 64, lines := 0, stashBytes := 0 }
def sImage : State :=
  { sSave true false .saved with
    fw := { (sSave true false .saved).fw with region := Sparse.setAll 0 [] ((List.range 64).map fun i => (i, anImage.bytes.getD i 0)) } }

theorem witness_restores : (sSave true true .saved).saveOp 1 = some (aSave true true) ∧ (sSave true false .saved).saveOp 1 = some (aSave true false)
    ∧ parseHead ((sSave true false .saved).placeBytes 0 0 64) = none ∧ parseHead (sImage.placeBytes 0 0 64) = some anImage
    ∧ (anImage.object = 1 ∧ anImage.ctx = gw.ctx.toNat ∧ anImage.sealed = (sImage.ctxOf gw.ctx).prot ∧ 64 ≤ anImage.length
        ∧ placeOk 0 anImage.length = true ∧ anImage.withStash = false) := by decide

/-- The read of chip 1 waits for its Weir, or for the end of a publish. -/
def sAsked : State := { sw with mem := { mw with requests := [{ packet := pRead }] } }
def sPublishing : State :=
  { sw with mem := { sAsked.mem with objects := [(5, { sw.objEntry 5 with flags := 0x500000001 })], waiting := [{ packet := pRead }] } }

/-- An append for a log of 8 slots homed here has arrived. -/
theorem witness_append : (let a : LogAppend := { home := sw.fab.self, object := 5, base := 0, length := 288, entry := [] }
    let log : Machine.Cap := { home := a.home, object := a.object, base := a.base, length := a.length, rights := rR ||| rW }
    ({ sw with mem := { mw with appends := [a] } } : State).mem.appends = [a] ∧ a.home = sw.fab.self ∧ namesLog log = true
      ∧ sAsked.mem.appends = [] ∧ sw.mem.appends = []) := by decide

theorem witness_requests : sAsked.nextRequest = some { packet := pRead } ∧ pRead.opcode ≠ 0x18
    ∧ (∃ t q, ({ sAsked with mem := { sAsked.mem with requests := [] } } : State).servePacket pRead = (t, some q))
    ∧ (∀ w ∈ sAsked.mem.waiting, w.packet.src ≠ pRead.src ∨ w.packet.cls ≠ 0) ∧ sw.nextRequest = none
    ∧ (sPublishing.objEntry 5).publishing = true
    ∧ (sPublishing.mem.waiting.filter fun r => sPublishing.packetObject r.packet == 5 && r.packet.offset.toNat / 65536 == 0)
        = [{ packet := pRead }]
    ∧ (∀ e ∈ sPublishing.mem.held, sPublishing.heldPage e.1 e.2.1 ≠ some (5, 0)) := by
  refine ⟨?_, ?_, ⟨_, _, rfl⟩, ?_, ?_, ?_, ?_⟩ <;> decide

theorem witness_replay : (let s : State := { sLive with cur := { sLive.cur with stage := .replay, rejoinHold := [rBlock 3] } }
    s.fw.state = 1 ∧ s.cur.stage = .replay ∧ s.cur.stopped = false ∧ s.cur.fed = false ∧ s.cur.rejoinHold.length < 2 ^ 20) ∧ (sLive.fab.ports.all fun e => e.2.buffer == []) = true
    ∧ (let d : SignalDue := { grid := 1, fault := false, answer := some 1, sent := true }
       d.answer = some 1 ∧ (1 : BitVec 8) ≠ 2 ∧ d.posted = false) := by decide

/-- The group parked at its gate, and its block, parked for long enough. -/
def gAsleep : Machine.Group := { gw with slices := [(0, { state := .parked, park := .gate })] }
def bAsleep : Block := { bw with parkedSince := some 1 }

theorem witness_dormancy : (let s : State := { sCtx gAsleep with disp := { blocks := [(1, some bAsleep)] } }
    (bAsleep.parkedSince.map fun t => decide (10000 ≤ (s.tickOf (dieOf bAsleep.core) - t).toNat)).getD false = true
      ∧ s.blockParked bAsleep = true ∧ s.toSave bAsleep = [(1, gAsleep)] ∧ s.commandsLet 1 gAsleep = true
      ∧ s.mayStore 1 gAsleep (s.leaveLines 1 gAsleep) = none ∧ ∃ s1, s.flushRegions 1 = (s1, true)) := by
  refine ⟨?_, ?_, ?_, ?_, ?_, _, rfl⟩ <;> decide

/-! Encodings and steps -/

theorem witness_encode : (Instr.sadd false 3 4 5).wf = true ∧ encode (.sadd false 3 4 5) = some 0xC205 ∧ decode 0xC205 = some (.sadd false 3 4 5)
    ∧ gw.inWindow 127 = true := by decide

/-- The machine that is about to run SADD s3, s4, s5 as its first instruction. -/
def sFirst : State := (State.reset.withFetchWord 32 0xC205).fresh

theorem witness_step : sFirst.pkg.tripped = false ∧ sFirst.agenda = [] ∧ sFirst.parksStale = false ∧ sFirst.firstDue sFirst.candidates = none
    ∧ (∃ t g, sFirst.nextTurn = some t ∧ sFirst.group t.group = some g ∧ g.mayFetch (g.cursorOf t).pc = true ∧ g.privileged = true
        ∧ ∃ s1 w g1, ({ sFirst with cursor := g.cursorOf t } : State).fetch t.group g (g.cursorOf t).slices (g.cursorOf t).pc = (s1, some w)
          ∧ s1.group t.group = some g1 ∧ s1.cursor = g.cursorOf t
          ∧ decode w = some (.sadd false 3 4 5) ∧ g1.absent (g1.needs s1.cursor.slices (.sadd false 3 4 5)) = []) := by
  refine ⟨by decide, by decide, by decide, by decide, _, _, rfl, rfl, by decide, by decide, _, _, _, rfl, rfl, rfl, by decide, by decide⟩

theorem witness_order : endsTrip (.walkComplete 0 0) = false ∧ endsTrip (.coldReset 100) = true ∧ ({ State.reset with pkg := { tripped := true } } : State).pkg.tripped = true
    ∧ ({ State.reset with agenda := [.powerOn true] } : State).agenda = [.powerOn true] ∧ State.reset.agenda = []
    ∧ State.reset.parksStale = false ∧ State.reset.nextTurn = none ∧ Memory.wf State.reset.mem.bytes = true := by decide

theorem witness_fetch : (let g : Machine.Group := { gw with code := { cap5 with rights := 0xFF } }
    g.mayFetch 0x40 = true ∧ g.privileged = false ∧ g.fetched = []
      ∧ (let r := ((swith g).access 1 g .fetch 0 0 false (fetchPieces g [0] 0x40 ((swith g).fetchLast g))).2.1
         (∀ p ∈ r, p.status = 0) ∧ ∃ p ps, r = p :: ps ∧ p.length = 4))
    ∧ gw.mayFetch 0x40 = false := by
  refine ⟨⟨by decide, by decide, by decide, by decide, _, _, rfl, by decide⟩, by decide⟩

/-- The hypotheses of SleepRule's park together. -/
theorem witness_sleep_sum : Issues sw gw ∧ gw.hasPending sw.cursor.slices = false
    ∧ (sw.tickOf (dieOf gw.core)).toNat + (gw.rs 4).toNat + 1 < 18446744073709551616 :=
  ⟨test_issues, by decide, by decide⟩

end Sys2Proof.Tests
end

/-! PROOFS. SLEEP and TRAP (15 R272, R278): their words, the drain of an implicit switch point (08 R137 item 5), SLEEP's park
and its deadline, and the entry of a trap handler (13 R231, R234). -/

/-! ### Words of formats R and I -/

namespace Sys2Proof

/-- A format R word written out as one append of its fields. -/
theorem append_eq_packR (y : Bool) (c : BitVec 4) (m : BitVec 6) (d a b : Fld) :
    (BitVec.ofBool y ++ c ++ m ++ d ++ a ++ b : W32) = packR y c m d a b := by
  apply BitVec.eq_of_toNat_eq
  simp only [packR, BitVec.toNat_append, Nat.shiftLeft_or_distrib, ← Nat.shiftLeft_add, Nat.or_assoc]

/-- A format I word written out as one append of its fields. -/
theorem append_eq_packI (y : Bool) (c : BitVec 4) (m : BitVec 3) (d a : Fld) (i : BitVec 10) :
    (BitVec.ofBool y ++ c ++ m ++ (d ++ a : BitVec 14) ++ i : W32) = packI y c m d a i := by
  apply BitVec.eq_of_toNat_eq
  simp only [packI, BitVec.toNat_append, Nat.shiftLeft_or_distrib, ← Nat.shiftLeft_add, Nat.or_assoc]

/-- Bit 26, which tells the formats of class 15 apart, is the top bit of a format I minor (14 R259). -/
theorem getLsbD_packI_formatBit (y : Bool) (c : BitVec 4) (m : BitVec 3) (d a : Fld) (i : BitVec 10) :
    (packI y c m d a i).getLsbD 26 = m.getLsbD 2 := by
  unfold packI
  simp only [BitVec.getLsbD_append]
  rfl

theorem decode_eq_some_of_raw {w : W32} {i : Instr} (h : decodeRaw w = some i) (hwf : i.wf = true) :
    decode w = some i := by
  simp [decode, h, hwf]

theorem decode_eq_none_of_raw {w : W32} (h : decodeRaw w = none) : decode w = none := by
  simp [decode, h]

/-- Class 13 goes to the control map (14 R258). -/
theorem decodeRaw_control (y : Bool) (m : BitVec 6) (d a b : Fld) :
    decodeRaw (packR y 13 m d a b) = decodeControl y m d a b := by
  simp [decodeRaw]

/-- Class 15 with a minor of 4 or more goes to the format I map (14 R259). -/
theorem decodeRaw_systemI (y : Bool) (m : BitVec 3) (d a : Fld) (i : BitVec 10) (h : m.getLsbD 2 = true) :
    decodeRaw (packI y 15 m d a i) = decodeSystemI y m d a i := by
  simp only [decodeRaw, wordClass_packI, getLsbD_packI_formatBit, h, wordY_packI, wordMinor3_packI, wordDI_packI,
    wordAI_packI, wordImm10_packI]
  rfl

theorem decode_sleep (y : Bool) (a : Fld) : decode (packR y 13 9 0 a 0) = some (.sleep y a) :=
  decode_eq_some_of_raw (decodeRaw_control y 9 0 a 0) rfl

/-- The immediate of a TRAP word is its detail, and bits above the detail make the word UND (15 R278). -/
theorem decodeRaw_trap (y : Bool) (n : BitVec 10) :
    decodeRaw (packI y 15 4 0 0 n) = if n.extractLsb' 8 2 = 0 then some (.trap y (n.extractLsb' 0 8)) else none := by
  rw [decodeRaw_systemI _ _ _ _ _ rfl]
  simp [decodeSystemI]

/-- The two bits above a TRAP's detail are clear for a number of at most 255. -/
theorem extractLsb'_eq_zero_iff_lt (n : BitVec 10) : n.extractLsb' 8 2 = 0 ↔ n.toNat < 256 := by
  rw [← BitVec.toNat_inj]
  simp only [BitVec.extractLsb'_toNat, BitVec.ofNat_eq_ofNat, BitVec.toNat_ofNat]
  omega

theorem decode_trap (y : Bool) (i : BitVec 8) : decode (packI y 15 4 0 0 (i.setWidth 10)) = some (.trap y i) := by
  have hnat : (i.setWidth 10).toNat = i.toNat := BitVec.toNat_setWidth_of_le (by decide)
  have hhigh : (i.setWidth 10).extractLsb' 8 2 = 0 := (extractLsb'_eq_zero_iff_lt _).mpr (by omega)
  have hlow : (i.setWidth 10).extractLsb' 0 8 = i := by
    rw [← BitVec.toNat_inj, BitVec.extractLsb'_toNat, hnat]
    exact Nat.mod_eq_of_lt i.isLt
  exact decode_eq_some_of_raw (by rw [decodeRaw_trap, if_pos hhigh, hlow]) rfl

theorem decode_trap_eq_none (y : Bool) (n : BitVec 10) (hn : 256 ≤ n.toNat) :
    decode (packI y 15 4 0 0 n) = none := by
  have hhigh : n.extractLsb' 8 2 ≠ 0 := (extractLsb'_eq_zero_iff_lt n).not.mpr (by omega)
  exact decode_eq_none_of_raw (by rw [decodeRaw_trap, if_neg hhigh])

end Sys2Proof

/-! ### Issue and implicit switch points -/

namespace Sys2Proof.Machine

theorem State.issue_of_group {s : State} {g : Group} (k : Group → Res) (h : s.group s.cursor.group = some g) :
    s.issue k = k g := by
  simp [State.issue, h]

theorem State.switchFirst_of_pending {s : State} {g : Group} (k : Res) (h : g.hasPending s.cursor.slices = true) :
    s.switchFirst g k = .next (s.putGroup s.cursor.group
      (g.mapSlices (fun _ r => r.parkAt .switchPoint 0 0) s.cursor.slices)) := by
  simp [State.switchFirst, h]

theorem State.switchFirst_of_not_pending {s : State} {g : Group} (k : Res) (h : g.hasPending s.cursor.slices = false) :
    s.switchFirst g k = k := by
  simp [State.switchFirst, h]

/-! ### Slices -/

/-- A change of some slices, each named once, seen from every slice. -/
theorem Group.slice_mapSlices (g : Group) (f : Nat → Slice → Slice) (l : List Nat) (j : Nat) (hl : l.Nodup) :
    (g.mapSlices f l).slice j = if j ∈ l then f j (g.slice j) else g.slice j := by
  split
  · next h => exact Group.slice_mapSlices_of_mem g f l j hl h
  · next h => exact Group.slice_mapSlices_of_not_mem g f l j h

/-- A group that differs from `g` in its slices alone still does once some of them are changed. -/
theorem Group.mapSlices_eq_of_eq {g g1 : Group} (f : Nat → Slice → Slice) (l : List Nat)
    (h : g1 = { g with slices := g1.slices }) :
    g1.mapSlices f l = { g with slices := (g1.mapSlices f l).slices } := by
  calc g1.mapSlices f l = { g1 with slices := (g1.mapSlices f l).slices } := Group.mapSlices_eq g1 f l
    _ = { g with slices := (g1.mapSlices f l).slices } := by
      generalize (g1.mapSlices f l).slices = t
      rw [h]

/-! ### SLEEP (15 R272) -/

/-- The group in which a gang sleeps past its SLEEP, until a deadline. -/
def Group.asleep (g : Group) (sl : List Nat) (pc due : W64) : Group :=
  (g.setPc sl pc).mapSlices (fun _ r => r.parkAt .sleep 0 due) sl

theorem Group.asleep_eq (g : Group) (sl : List Nat) (pc due : W64) :
    g.asleep sl pc due = { g with slices := (g.asleep sl pc due).slices } :=
  Group.mapSlices_eq_of_eq _ _ (Group.mapSlices_eq g _ sl)

theorem Group.slice_asleep (g : Group) (sl : List Nat) (pc due : W64) (j : Nat) (hl : sl.Nodup) :
    (g.asleep sl pc due).slice j = if j ∈ sl then
      { g.slice j with pc := pc, state := .parked, park := .sleep, arg := 0, deadline := due } else g.slice j := by
  unfold Group.asleep Group.setPc
  rw [Group.slice_mapSlices _ _ _ _ hl, Group.slice_mapSlices _ _ _ _ hl]
  split <;> rfl

theorem execSleep_of_pending {s : State} {g : Group} (y : Bool) (a : Fld) (hg : s.group s.cursor.group = some g)
    (hp : g.hasPending s.cursor.slices = true) :
    execSleep y a s = .next (s.putGroup s.cursor.group
      (g.mapSlices (fun _ r => r.parkAt .switchPoint 0 0) s.cursor.slices)) := by
  rw [execSleep, State.issue_of_group _ hg, State.switchFirst_of_pending _ hp]

theorem execSleep_of_not_pending {s : State} {g : Group} (y : Bool) (a : Fld) (hg : s.group s.cursor.group = some g)
    (hp : g.hasPending s.cursor.slices = false) :
    execSleep y a s = .next (s.putGroup s.cursor.group (g.asleep s.cursor.slices (s.cursor.pc + 4)
      (s.tickOf (dieOf g.core) + (if g.rs a.toNat = 0 then 1 else g.rs a.toNat)))) := by
  rw [execSleep, State.issue_of_group _ hg, State.switchFirst_of_not_pending _ hp]
  rfl

/-- Before its deadline, and for a slice that does not sleep, SLEEP_DEADLINE changes nothing. -/
theorem execSleepDeadline_of_not_due {s : State} {h i : Nat} {g : Group} (hg : s.group h = some g)
    (hd : ¬ ((g.slice i).park = .sleep ∧ (g.slice i).deadline.toNat ≤ (s.tickOf (dieOf g.core)).toNat)) :
    execSleepDeadline h i s = .next s := by
  simp only [execSleepDeadline, hg, if_neg hd]

/-- At its deadline the sleeping slices of the gang go on. -/
theorem execSleepDeadline_of_due {s : State} {h i : Nat} {g : Group} (hg : s.group h = some g)
    (hp : (g.slice i).park = .sleep) (hd : (g.slice i).deadline.toNat ≤ (s.tickOf (dieOf g.core)).toNat) :
    execSleepDeadline h i s = .next (s.putGroup h (g.mapSlices (fun _ r => r.ready)
      ((g.gang (g.slice i).gang).filter fun k => (g.slice k).park == .sleep))) := by
  simp only [execSleepDeadline, hg, if_pos (And.intro hp hd)]

/-! ### Traps (13 R231, R234) -/

/-- Results of other gangs stay pending, in their order. -/
theorem Group.flushFrom_of_none_of (g : Group) (sl : List Nat) (older ps : List Pending)
    (h : ps.any (fun p => p.of sl) = false) : g.flushFrom sl older ps = { g with pending := older ++ ps } := by
  induction ps generalizing older with
  | nil => simp [Group.flushFrom]
  | cons p ps ih =>
    simp only [List.any_cons, Bool.or_eq_false_iff] at h
    simp [Group.flushFrom, h.1, ih _ h.2]

theorem Group.flush_of_not_pending {g : Group} {sl : List Nat} (h : g.hasPending sl = false) : g.flush sl = g :=
  Group.flushFrom_of_none_of g sl [] g.pending h

theorem Group.smxOf_of_not_pending {g : Group} {sl : List Nat} (h : g.hasPending sl = false) : g.smxOf sl = [] := by
  have hnone : g.pending.filter (fun p => p.of sl) = [] := by
    rw [List.filter_eq_nil_iff]
    simpa [Group.hasPending] using h
  simp [Group.smxOf, hnone]

/-- A gang without pending results, outside a handler and with a handler to go to, enters it. -/
theorem State.raise_eq_enterHandler (s : State) (h : Nat) {g : Group} {sl : List Nat} (pc : W64) (t : TrapInfo)
    (hp : g.hasPending sl = false) (hh : g.handling = false) (hv : g.tvec.getLsbD 0 = true) :
    s.raise h g sl pc t = s.putGroup h (g.enterHandler sl t) := by
  simp only [State.raise, Group.smxOf_of_not_pending hp, Group.flush_of_not_pending hp, if_true]
  simp [State.deliver, hh, hv]

theorem execTrap_of_pending {s : State} {g : Group} (y : Bool) (i : BitVec 8) (hg : s.group s.cursor.group = some g)
    (hp : g.hasPending s.cursor.slices = true) :
    execTrap y i s = .next (s.putGroup s.cursor.group
      (g.mapSlices (fun _ r => r.parkAt .switchPoint 0 0) s.cursor.slices)) := by
  rw [execTrap, State.issue_of_group _ hg, State.switchFirst_of_pending _ hp]

theorem execTrap_of_handler {s : State} {g : Group} (y : Bool) (i : BitVec 8) (hg : s.group s.cursor.group = some g)
    (hp : g.hasPending s.cursor.slices = false) (hh : g.handling = false) (hv : g.tvec.getLsbD 0 = true) :
    execTrap y i s = .next (s.putGroup s.cursor.group (g.enterHandler s.cursor.slices
      (g.gangTrap s.cursor.slices Cause.trap.code i (s.cursor.pc + 4)))) := by
  rw [execTrap, State.issue_of_group _ hg, State.switchFirst_of_not_pending _ hp,
    State.raise_eq_enterHandler _ _ _ _ hp hh hv]

/-! ### Mask triples, bit by bit -/

/-- Lane l of a triple is bit l mod 32 of its register l / 32. -/
theorem Group.getLsbD_triple (g : Group) (k j b : Nat) (hj : j < 3) (hb : b < 32) :
    (g.triple k).getLsbD (32 * j + b) = (g.rs (k + j)).getLsbD b := by
  unfold Group.triple
  simp only [BitVec.getLsbD_append, BitVec.getLsbD_setWidth]
  obtain rfl | rfl | rfl : j = 0 ∨ j = 1 ∨ j = 2 := by omega
  · simp [hb]
  · simp [hb, show ¬ 32 + b < 32 by omega]
  · simp [hb, show ¬ 64 + b < 32 by omega, show ¬ 64 + b - 32 < 32 by omega, show 64 + b - 32 - 32 = b by omega]

/-- A register of a destination triple outside the gang-owned ones: the bits of the slices' lanes take the value. -/
theorem Group.getLsbD_tripleWord (g : Group) (sl : List Nat) (r j b : Nat) (v : BitVec 96) (h0 : 0 < r) (hr : r < 116)
    (hb : b < 32) : (g.tripleWord sl r j v).getLsbD b =
      if (g.ownBits sl).getLsbD (32 * j + b) then v.getLsbD (32 * j + b) else (g.rs r).getLsbD b := by
  have hw : g.writable sl r = BitVec.allOnes 64 := by
    simp only [Group.writable, if_neg (show ¬ r = 0 by omega), if_neg (show ¬ (116 ≤ r ∧ r ≤ 123) by omega),
      if_neg (show ¬ 125 ≤ r by omega)]
  simp only [Group.tripleWord, hw, BitVec.getLsbD_or, BitVec.getLsbD_and, BitVec.getLsbD_not, BitVec.getLsbD_setWidth,
    BitVec.getLsbD_extractLsb', BitVec.getLsbD_allOnes, hb, show b < 64 by omega, decide_true, Bool.true_and, Bool.not_true,
    Bool.and_false, Bool.false_or, Bool.and_true]
  cases (g.ownBits sl).getLsbD (32 * j + b) <;> simp

/-- A triple write outside the gang-owned registers: the bits of the slices' lanes take the value, the others stay. -/
theorem Group.getLsbD_triple_writeTriple (g : Group) (sl : List Nat) (d l : Nat) (v : BitVec 96) (h0 : 0 < d)
    (hd : d + 2 < 116) (hl : l < 96) : ((g.writeTriple sl d v).triple d).getLsbD l =
      if (g.ownBits sl).getLsbD l then v.getLsbD l else (g.triple d).getLsbD l := by
  obtain ⟨j, b, hj, hb, rfl⟩ : ∃ j b, j < 3 ∧ b < 32 ∧ l = 32 * j + b :=
    ⟨l / 32, l % 32, by omega, by omega, by omega⟩
  rw [Group.getLsbD_triple _ _ _ _ hj hb, Group.getLsbD_triple _ _ _ _ hj hb, Group.writeTriple_rs _ _ _ _ _ (.inl hd),
    if_pos (by omega), Nat.add_sub_cancel_left, Group.getLsbD_tripleWord _ _ _ _ _ _ (by omega) (by omega) hb]

/-- The visible lane bits of a list of physical lanes. -/
theorem Group.getLsbD_visBits (g : Group) (lanes : List Nat) (l : Nat) (hl : l < 96) :
    (g.visBits lanes).getLsbD l = lanes.any fun p => g.visLane p == l := by
  have oneBit (n : Nat) : (1#96 <<< n).getLsbD l = (n == l) := by
    rw [Bool.eq_iff_iff]
    simp only [BitVec.getLsbD_shiftLeft, BitVec.getLsbD_one, Bool.and_eq_true, Bool.not_eq_true', decide_eq_true_eq,
      decide_eq_false_iff_not, beq_iff_eq]
    omega
  have step (w : BitVec 96) : (lanes.foldl (fun w p => w ||| (1#96 <<< g.visLane p)) w).getLsbD l
      = (w.getLsbD l || lanes.any fun p => g.visLane p == l) := by
    induction lanes generalizing w with
    | nil => simp
    | cons p lanes ih => rw [List.foldl_cons, ih, BitVec.getLsbD_or, oneBit, List.any_cons, Bool.or_assoc]
  simpa [Group.visBits] using step 0

/-! ### A group that takes a trap (13 R231, R234) -/

/-- The group with a trap in TPC, TSTAT and s113-s115, before its gang moves to the handler. -/
def Group.recordTrap (g : Group) (sl : List Nat) (t : TrapInfo) : Group :=
  ({ g with tpc := t.resume, tstat := tstatOf true t.cause t.detail t.lane sl } : Group).writeTriple sl 113
    (g.visBits (t.lanes ++ g.unfinishedOf sl))

/-- Recording a trap changes TPC, TSTAT and scalar registers, and drops older results of those registers. -/
theorem Group.recordTrap_eq (g : Group) (sl : List Nat) (t : TrapInfo) :
    g.recordTrap sl t = { g with tpc := t.resume, tstat := tstatOf true t.cause t.detail t.lane sl,
                                 s := (g.recordTrap sl t).s, pending := (g.recordTrap sl t).pending,
                                 memOps := (g.recordTrap sl t).memOps } := by
  unfold Group.recordTrap
  rw [Group.writeTriple_eq _ _ _ _ (.inl (by decide))]

theorem Group.rs_recordTrap (g : Group) (sl : List Nat) (t : TrapInfo) (r : Nat) (h : r < 113 ∨ 115 < r) :
    (g.recordTrap sl t).rs r = g.rs r := by
  rw [Group.recordTrap, Group.writeTriple_rs _ _ _ _ _ (.inl (by decide)), if_neg (by omega)]
  rfl

theorem Group.getLsbD_triple_recordTrap (g : Group) (sl : List Nat) (t : TrapInfo) (l : Nat) (hl : l < 96) :
    ((g.recordTrap sl t).triple 113).getLsbD l =
      if (g.ownBits sl).getLsbD l then (t.lanes ++ g.unfinishedOf sl).any fun p => g.visLane p == l
      else (g.triple 113).getLsbD l := by
  rw [Group.recordTrap, Group.getLsbD_triple_writeTriple _ _ _ _ _ (by decide) (by decide) hl,
    Group.getLsbD_visBits _ _ _ hl]
  rfl

/-- The handler's gang starts at TVEC once the trap is recorded. -/
theorem Group.enterHandler_eq_mapSlices (g : Group) (sl : List Nat) (t : TrapInfo) :
    g.enterHandler sl t = (g.recordTrap sl t).mapSlices
      (fun _ r => { r.ready with pc := (g.tvec >>> 2) <<< 2, trapped := 0 }) sl := by
  have htvec : (g.recordTrap sl t).tvec = g.tvec := by rw [Group.recordTrap_eq]
  rw [← htvec]
  rfl

theorem Group.enterHandler_eq (g : Group) (sl : List Nat) (t : TrapInfo) :
    g.enterHandler sl t = { g with tpc := t.resume, tstat := tstatOf true t.cause t.detail t.lane sl,
                                   s := (g.enterHandler sl t).s, pending := (g.enterHandler sl t).pending,
                                   memOps := (g.enterHandler sl t).memOps, slices := (g.enterHandler sl t).slices } := by
  rw [Group.enterHandler_eq_mapSlices, Group.mapSlices_eq, Group.recordTrap_eq]

theorem Group.s_enterHandler (g : Group) (sl : List Nat) (t : TrapInfo) :
    (g.enterHandler sl t).s = (g.recordTrap sl t).s := by
  rw [Group.enterHandler_eq_mapSlices, Group.mapSlices_s]

theorem Group.slice_enterHandler (g : Group) (sl : List Nat) (t : TrapInfo) (i : Nat) (hl : sl.Nodup) :
    (g.enterHandler sl t).slice i = if i ∈ sl then
      { (g.slice i).ready with pc := (g.tvec >>> 2) <<< 2, trapped := 0 } else g.slice i := by
  have hslices : (g.recordTrap sl t).slices = g.slices := by rw [Group.recordTrap_eq]
  have hslice : (g.recordTrap sl t).slice i = g.slice i := by rw [Group.slice, Group.slice, hslices]
  rw [Group.enterHandler_eq_mapSlices, Group.slice_mapSlices _ _ _ _ hl, hslice]

end Sys2Proof.Machine

/-! ### The handler's entry -/

namespace Sys2Proof.Claims

open Sys2Proof Sys2Proof.Machine

/-- TSTAT of a trap that a handler takes (13 R231). -/
theorem tstatOf_eq_trapStatus (c d : BitVec 8) (lane : Nat) (sl : List Nat) :
    tstatOf true c d lane sl = trapStatus c d lane sl := by
  have hlane : (BitVec.ofNat 8 lane).setWidth 64 = BitVec.ofNat 64 (lane % 256) := by
    apply BitVec.eq_of_toNat_eq
    simp
  simp only [tstatOf, trapStatus, hlane, if_true]

/-- A trap with the lanes of Active(), lowest first, enters the handler as 13 R234 says. -/
theorem entered_enterHandler (g : Group) (sl : List Nat) (t : TrapInfo) (hl : sl.Nodup) (hlane : t.lane = g.lowest sl)
    (hlanes : t.lanes = g.active sl) : Entered g (g.enterHandler sl t) sl t.cause t.detail t.resume := by
  have hrs (r : Nat) : (g.enterHandler sl t).rs r = (g.recordTrap sl t).rs r := by
    simp only [Group.rs, Group.s_enterHandler]
  have htriple : (g.enterHandler sl t).triple 113 = (g.recordTrap sl t).triple 113 := by
    simp only [Group.triple, hrs]
  have htpc : (g.enterHandler sl t).tpc = t.resume := by rw [Group.enterHandler_eq]
  have htstat : (g.enterHandler sl t).tstat = tstatOf true t.cause t.detail t.lane sl := by rw [Group.enterHandler_eq]
  refine ⟨htpc, ?tstat, fun i hi => ?gang, fun i hi => ?others, fun r hr => ?scalars, fun l hl96 => ?triple, ?frame⟩
  case tstat =>
    rw [htstat, hlane, tstatOf_eq_trapStatus]
  case gang =>
    rw [Group.slice_enterHandler _ _ _ _ hl, if_pos hi]
    exact ⟨rfl, rfl, rfl⟩
  case others =>
    rw [Group.slice_enterHandler _ _ _ _ hl, if_neg hi]
  case scalars =>
    rw [hrs, Group.rs_recordTrap _ _ _ _ hr]
  case triple =>
    rw [htriple, Group.getLsbD_triple_recordTrap _ _ _ _ hl96, hlanes]
  case frame =>
    rw [htpc, htstat]
    exact Group.enterHandler_eq g sl t

/-! ### The obligations -/

/-- Settles O11: SLEEP's park is the group of `Group.asleep`, and its deadline readies the gang's sleeping slices. -/
theorem sleepRule : Obligations.SleepRule := by
  unfold Obligations.SleepRule
  rintro s g y a ⟨hg, hnodup, -⟩
  refine ⟨?word, fun hp => ?drain, fun hp _ => ?park, fun h i g1 hg1 hsleep => ⟨fun hlt => ?early, fun hle => ?due⟩⟩
  case word =>
    rw [append_eq_packR]
    exact decode_sleep y a
  case drain =>
    rw [exec_sleep, execSleep_of_pending y a hg hp]
  case park =>
    rw [exec_sleep, execSleep_of_not_pending y a hg hp]
    exact ⟨_, s.cursor.pc + 4, rfl, Group.asleep_eq _ _ _ _, fun i => Group.slice_asleep _ _ _ _ i hnodup⟩
  case early =>
    rw [exec_sleepDeadline, execSleepDeadline_of_not_due hg1 (by omega)]
  case due =>
    rw [exec_sleepDeadline, execSleepDeadline_of_due hg1 hsleep hle]
    refine ⟨_, rfl, Group.mapSlices_eq _ _ _, fun k => ?_⟩
    rw [Group.slice_mapSlices _ _ _ _ ((g1.gang_nodup _).filter _)]
    simp only [List.mem_filter, beq_iff_eq, Slice.ready]

/-- Settles O15: TRAP's group is the one that `Group.enterHandler` gives, with cause TRAP and the next instruction's PC. -/
theorem trapRule : Obligations.TrapRule := by
  unfold Obligations.TrapRule
  rintro s g y i n ⟨hg, hnodup, -⟩ word
  have hword (m : BitVec 10) : word m = packI y 15 4 0 0 m := append_eq_packI y 15 4 0 0 m
  refine ⟨?word, fun hn => ?und, fun hp => ?drain, fun hp hh hv => ?enter⟩
  case word =>
    rw [hword]
    exact decode_trap y i
  case und =>
    rw [hword]
    exact decode_trap_eq_none y n hn
  case drain =>
    rw [exec_trap, execTrap_of_pending y i hg hp]
  case enter =>
    rw [exec_trap, execTrap_of_handler y i hg hp hh hv]
    exact ⟨_, rfl, entered_enterHandler g _ _ hnodup rfl rfl⟩

end Sys2Proof.Claims

/-! PROOFS. The immediate forms of class 3 (16 R289): their words, and what an interlocked lane form writes. -/

/-! ### Words of class 3 -/

namespace Sys2Proof

/-- A format I word with its fields appended from the left. -/
theorem append_left_eq_packI (y : Bool) (c : BitVec 4) (m : BitVec 3) (d a : Fld) (i : BitVec 10) :
    (BitVec.ofBool y ++ c ++ m ++ d ++ a ++ i : W32) = packI y c m d a i := by
  rw [← append_eq_packI]
  apply BitVec.eq_of_toNat_eq
  simp only [BitVec.toNat_append, Nat.shiftLeft_or_distrib, ← Nat.shiftLeft_add, Nat.or_assoc]

/-- Class 3 goes to the map of vector immediates (14 R249). -/
theorem decodeRaw_vectorI (y : Bool) (m : BitVec 3) (d a : Fld) (i : BitVec 10) :
    decodeRaw (packI y 3 m d a i) = decodeVectorI y m d a i := by
  simp [decodeRaw]

theorem decode_vectorI {y : Bool} {m : BitVec 3} {d a : Fld} {i : BitVec 10} {e : Instr}
    (h : decodeVectorI y m d a i = some e) (hwf : e.wf = true) : decode (packI y 3 m d a i) = some e :=
  decode_eq_some_of_raw (by rw [decodeRaw_vectorI, h]) hwf

/-- What the map of class 3 holds for a shift: the amount is imm[4:0], and the bits above it are reserved (16 R289). -/
def IsLaneShift (y : Bool) (m : BitVec 3) (d a : Fld) (e : BitVec 5 → Instr) : Prop :=
  ∀ i : BitVec 10, decodeVectorI y m d a i =
    if i.extractLsb' 5 5 == 0 then some (e (i.extractLsb' 0 5)) else none

theorem isLaneShift_vshli (y : Bool) (d a : Fld) : IsLaneShift y 4 d a (.vshli y d a) := fun _ => rfl
theorem isLaneShift_vshriN (y : Bool) (d a : Fld) : IsLaneShift y 5 d a (.vshriN y d a) := fun _ => rfl
theorem isLaneShift_vshriI (y : Bool) (d a : Fld) : IsLaneShift y 6 d a (.vshriI y d a) := fun _ => rfl

theorem IsLaneShift.decode_amount {y : Bool} {m : BitVec 3} {d a : Fld} {e : BitVec 5 → Instr}
    (h : IsLaneShift y m d a e) (c : BitVec 5) (hwf : (e c).wf = true) :
    decode (packI y 3 m d a ((0 : BitVec 5) ++ c)) = some (e c) := by
  have hhigh : ((0 : BitVec 5) ++ c).extractLsb' 5 5 = 0 :=
    (extract_high 0 c 5 0 rfl 5).trans BitVec.extractLsb'_eq_self
  have hlow : ((0 : BitVec 5) ++ c).extractLsb' 0 5 = c :=
    (extract_low 0 c 0 5 (by decide)).trans BitVec.extractLsb'_eq_self
  refine decode_vectorI ?_ hwf
  rw [h, hhigh, hlow]
  rfl

theorem IsLaneShift.decode_reserved {y : Bool} {m : BitVec 3} {d a : Fld} {e : BitVec 5 → Instr}
    (h : IsLaneShift y m d a e) (i : BitVec 10) (hi : i.extractLsb' 5 5 ≠ 0) :
    decode (packI y 3 m d a i) = none :=
  decode_eq_none_of_raw (by rw [decodeRaw_vectorI, h, if_neg (by simpa using hi)])

end Sys2Proof

/-! ### Interlocked lane forms -/

namespace Sys2Proof.Claims

open Sys2Proof Sys2Proof.Machine

/-- The writes of a lane form change the register at d in the active lanes, and drop older results of it (16 R285). -/
theorem laneWrite_writeV (g : Group) (sl : List Nat) (d : Nat) (f : Nat → W32) :
    LaneWrite g (g.writeV (g.laneWrites sl d f)) sl d f := by
  refine ⟨fun l hl => g.rv_laneWrites sl d f l hl, fun k hk => ?other, ?frame⟩
  case other => rw [Group.get_laneWrites, if_neg hk]
  case frame =>
    rw [← Group.map_fst_laneWrites g sl d f]
    exact Group.writeV_eq g _

/-- A lane form whose operands lie in the window writes its register and goes on. -/
theorem lanes1_laneWrite {s : State} {g : Group} {d : Fld} {ok : Group → Bool} (y : Bool) (f : Group → Nat → W32)
    (hg : s.group s.cursor.group = some g) (hd : g.inWindow d.toNat = true) (hok : ok g = true) :
    ∃ g' : Group, s.lanes1 y d ok f = .next (after s y g') ∧ LaneWrite g g' s.cursor.slices d.toNat (f g) :=
  ⟨_, State.plain_next s g y _ _ hg (by rw [hd, hok]; rfl), laneWrite_writeV g _ _ _⟩

/-- A lane form of one source register. -/
theorem vec2_laneWrite {s : State} {g : Group} {d a : Fld} (y : Bool) (f : W32 → W32)
    (hg : s.group s.cursor.group = some g) (hd : g.inWindow d.toNat = true) (ha : g.inWindow a.toNat = true) :
    ∃ g' : Group, s.vec2 y d a f = .next (after s y g')
      ∧ LaneWrite g g' s.cursor.slices d.toNat fun l => f (g.rv a.toNat l) :=
  lanes1_laneWrite y _ hg hd ha

/-! ### The obligation -/

/-- Settles O50: each word by the map of class 3, each result by the write of its lane form. -/
theorem laneImmediateRule : Obligations.LaneImmediateRule := by
  unfold Obligations.LaneImmediateRule
  rintro s g y d a i c ⟨hg, -⟩ word n
  have hword (m : BitVec 3) (a : Fld) (i : BitVec 10) : word m a i = packI y 3 m d a i :=
    append_left_eq_packI y 3 m d a i
  simp only [hword, List.forall_mem_cons, List.not_mem_nil, false_implies, implies_true, and_true]
  refine ⟨⟨?vaddi, ?vandi, ?vori, ?vxori⟩, ⟨?vshli, ?vshriN, ?vshriI⟩, ?vmoviWord, ?vmoviWrite⟩
  case vaddi =>
    rw [exec_vaddi]
    exact ⟨decode_vectorI rfl rfl, vec2_laneWrite y (· + imm32 i) hg⟩
  case vandi =>
    rw [exec_vandi]
    exact ⟨decode_vectorI rfl rfl, vec2_laneWrite y (· &&& imm32 i) hg⟩
  case vori =>
    rw [exec_vori]
    exact ⟨decode_vectorI rfl rfl, vec2_laneWrite y (· ||| imm32 i) hg⟩
  case vxori =>
    rw [exec_vxori]
    exact ⟨decode_vectorI rfl rfl, vec2_laneWrite y (· ^^^ imm32 i) hg⟩
  case vshli =>
    have hmap := isLaneShift_vshli y d a
    rw [exec_vshli]
    exact ⟨hmap.decode_amount c rfl, hmap.decode_reserved i, vec2_laneWrite y (· <<< c.toNat) hg⟩
  case vshriN =>
    have hmap := isLaneShift_vshriN y d a
    rw [exec_vshriN]
    exact ⟨hmap.decode_amount c rfl, hmap.decode_reserved i, vec2_laneWrite y (· >>> c.toNat) hg⟩
  case vshriI =>
    have hmap := isLaneShift_vshriI y d a
    rw [exec_vshriI]
    exact ⟨hmap.decode_amount c rfl, hmap.decode_reserved i, vec2_laneWrite y (·.sshiftRight c.toNat) hg⟩
  case vmoviWord => exact decode_vectorI rfl rfl
  case vmoviWrite =>
    rw [exec_vmovi]
    exact fun hd => lanes1_laneWrite y (fun _ _ => imm32 i) hg hd rfl

end Sys2Proof.Claims

/-! PROOFS. The decoder and the encoder of words are inverse to each other (14 R246-R260): a word of each format is the append
of its fields, and each class's map reads what the encoder writes and nothing else. -/

namespace Sys2Proof

/-- The high part of an append, read back. -/
theorem extract_append_high {v w : Nat} (x : BitVec v) (y : BitVec w) (n : Nat) (h : n = w) :
    (x ++ y).extractLsb' n v = x :=
  (extract_high x y n 0 (by omega) v).trans BitVec.extractLsb'_eq_self

/-- The low part of an append, read back. -/
theorem extract_append_low {v w : Nat} (x : BitVec v) (y : BitVec w) : (x ++ y).extractLsb' 0 w = y :=
  (extract_low x y 0 w (by omega)).trans BitVec.extractLsb'_eq_self

/-- Adjacent fields of a word, appended, are one field. -/
theorem extract_append_extract {n : Nat} (x : BitVec n) (s l m k : Nat) (h : k = s + l) :
    x.extractLsb' k m ++ x.extractLsb' s l = x.extractLsb' s (m + l) := by
  subst h
  ext i hi
  simp only [BitVec.getElem_append, BitVec.getElem_extractLsb']
  split
  · rfl
  · congr 1; omega

/-- One bit of a word as a field. -/
theorem ofBool_getLsbD {n : Nat} (x : BitVec n) (k : Nat) : BitVec.ofBool (x.getLsbD k) = x.extractLsb' k 1 := by
  ext i hi
  obtain rfl : i = 0 := by omega
  simp

/-- A word cut in two. -/
theorem extract_append_rest {v w : Nat} (x : BitVec (v + w)) : x.extractLsb' w v ++ x.extractLsb' 0 w = x :=
  (extract_append_extract x 0 w v w (by omega)).trans BitVec.extractLsb'_eq_self

/-- A word whose high part is clear is its low part. -/
theorem zero_append_extract {v w : Nat} (x : BitVec (v + w)) (h : x.extractLsb' w v = 0) :
    (0 : BitVec v) ++ x.extractLsb' 0 w = x := by
  rw [← h, extract_append_rest]

/-- A field cut in three. -/
theorem extract_append_rest3 {u v w : Nat} (x : BitVec (u + (v + w))) :
    x.extractLsb' (v + w) u ++ (x.extractLsb' w v ++ x.extractLsb' 0 w) = x := by
  rw [extract_append_extract x 0 w v w (by omega), extract_append_rest]

theorem eq_packR (w : W32) : w = packR (wordY w) (wordClass w) (wordMinor w) (wordD w) (wordA w) (wordB w) := by
  simp only [packR, wordY, wordClass, wordMinor, wordD, wordA, wordB, ofBool_getLsbD]
  simp (disch := rfl) only [extract_append_extract]
  exact BitVec.extractLsb'_eq_self.symm

theorem eq_packI (w : W32) : w = packI (wordY w) (wordClass w) (wordMinor3 w) (wordDI w) (wordAI w) (wordImm10 w) := by
  simp only [packI, wordY, wordClass, wordMinor3, wordDI, wordAI, wordImm10, ofBool_getLsbD]
  simp (disch := rfl) only [extract_append_extract]
  exact BitVec.extractLsb'_eq_self.symm


theorem decodeRaw_scalarR (y m d a b) : decodeRaw (packR y 0 m d a b) = decodeScalarR y m d a b := by simp [decodeRaw]
theorem decodeRaw_scalarI (y m d a i) : decodeRaw (packI y 1 m d a i) = decodeScalarI y m d a i := by simp [decodeRaw]
theorem decodeRaw_vectorR (y m d a b) : decodeRaw (packR y 2 m d a b) = decodeVectorR y m d a b := by simp [decodeRaw]
theorem decodeRaw_float (y m d a b) : decodeRaw (packR y 4 m d a b) = decodeFloat y m d a b := by simp [decodeRaw]
theorem decodeRaw_convert (y m d a b) : decodeRaw (packR y 5 m d a b) = decodeConvert y m d a b := by simp [decodeRaw]
theorem decodeRaw_smallMatrix (y m d a b) : decodeRaw (packR y 6 m d a b) = decodeSmallMatrix y m d a b := by
  simp [decodeRaw]
theorem decodeRaw_lane (y m d a b) : decodeRaw (packR y 7 m d a b) = decodeLane y m d a b := by simp [decodeRaw]
theorem decodeRaw_load (y w o d a b) : decodeRaw (packM y 8 w o d a b) = decodeLoad y w o d a b := by
  simp [decodeRaw, packM, width_of_minor, op_of_minor]
theorem decodeRaw_store (y w o d a b) : decodeRaw (packM y 9 w o d a b) = decodeStore y w o d a b := by
  simp [decodeRaw, packM, width_of_minor, op_of_minor]
theorem decodeRaw_cap (y m d a b) : decodeRaw (packR y 10 m d a b) = decodeCap y m d a b := by simp [decodeRaw]
theorem decodeRaw_engine (y m d a b) : decodeRaw (packR y 11 m d a b) = decodeEngine y m d a b := by simp [decodeRaw]
theorem decodeRaw_branch (y m c o) : decodeRaw (packB y 12 m c o) = decodeBranch y m c o := by simp [decodeRaw]
theorem decodeRaw_long (y m d i) : decodeRaw (packU y 14 m d i) = decodeLong y m d i := by simp [decodeRaw]

/-- Bit 26 is the top bit of a format R minor too (14 R259). -/
theorem getLsbD_packR_formatBit (y : Bool) (c : BitVec 4) (m : BitVec 6) (d a b : Fld) :
    (packR y c m d a b).getLsbD 26 = m.getLsbD 5 := by
  unfold packR
  simp only [BitVec.getLsbD_append]
  rfl

/-- Class 15 with a minor below 32 goes to the format R map (14 R259). -/
theorem decodeRaw_systemR (y : Bool) (m : BitVec 6) (d a b : Fld) (h : m.getLsbD 5 = false) :
    decodeRaw (packR y 15 m d a b) = decodeSystemR y m d a b := by
  simp [decodeRaw, getLsbD_packR_formatBit, h, -BitVec.getLsbD_eq_getElem]

theorem getLsbD_append_low {v w : Nat} (x : BitVec v) (y : BitVec w) (k : Nat) (h : k < w) :
    (x ++ y).getLsbD k = y.getLsbD k := by
  simp [BitVec.getLsbD_append, h, -BitVec.getLsbD_eq_getElem]

/-- Minors of class 5 from 32 on are the conversions (14 R251). -/
theorem decodeConvert_of_ge (y : Bool) (m : BitVec 6) (d a b : Fld) (h : 32 ≤ m.toNat) : decodeConvert y m d a b =
    some (.fcvt y (m.extractLsb' 0 5) d a (b.getLsbD 6) (b.getLsbD 5) (b.extractLsb' 0 5)) := by
  unfold decodeConvert
  split
  case h_14 => rw [if_pos h]
  all_goals omega

theorem decodeRaw_of_encode {i : Instr} {w : W32} (h : encode i = some w) : decodeRaw w = some i := by
  cases i <;> cases h
  all_goals simp (disch := decide) only [decodeRaw_scalarR, decodeRaw_scalarI, decodeRaw_vectorR, decodeRaw_vectorI,
    decodeRaw_float, decodeRaw_convert, decodeRaw_smallMatrix, decodeRaw_lane, decodeRaw_load, decodeRaw_store,
    decodeRaw_cap, decodeRaw_engine, decodeRaw_branch, decodeRaw_control, decodeRaw_long, decodeRaw_systemI,
    decodeRaw_systemR]
  case fadd y f d a b | fsub y f d a b | fmul y f d a b | ffma y f d a b | ffms y f d a b | fmin y f d a b | fmax y f d
    a b | fceq y f d a b | fclt y f d a b | fcle y f d a b | fcun y f d a b | fdiv y f d a b | faddRn y f d a b | fsubRn
    y f d a b | fmulRn y f d a b | ffmaRn y f d a b | xld y f d a b | xst y f d a b | xadd y f d a b | xsub y f d a b |
    xscl y f d a b | xmul y f d a b | xmad y f d a b | xmult y f d a b | xmv y f d a b | xsolv y f d a b =>
    cases f <;> rfl
  case fabs y f d a | fneg y f d a | fsqrt y f d a | frnd y f d a | xmov y f d a | xtrn y f d a | xchol y f d a | xlup y
    f d a | xinv y f d a | xdet y f d a =>
    cases f <;> rfl
  case sshli | sshriN | sshriI | vshli | vshriN | vshriI | trap =>
    simp [decodeScalarI, decodeVectorI, decodeSystemI]
    exact ⟨extract_append_high _ _ _ rfl, extract_append_low _ _⟩
  case xget y f d a i j | xput y f d a i j =>
    have hreserved : ((0 : BitVec 1) ++ (i ++ j)).getLsbD 6 = false := top_of_append false (i ++ j)
    cases f <;> simp [decodeSmallMatrix, -BitVec.getLsbD_eq_getElem]
    all_goals
    exact ⟨hreserved, (extract_low _ _ 3 3 (by omega)).trans (extract_append_high _ _ _ rfl),
      (extract_low _ _ 0 3 (by omega)).trans (extract_append_low _ _)⟩
  case ldAcq y w s d a b | sldAcq y w s d a b | stRel y w s d a b =>
    obtain rfl | rfl | rfl | rfl : s = 0 ∨ s = 1 ∨ s = 2 ∨ s = 3 := by decide +revert
    all_goals rfl
  case vredW4 | vredW8 | vredW16 | vredW32 | vredW64 | vredW96 | vscanW4 | vscanW8 | vscanW16 | vscanW32 | vscanW64 |
      vscanW96 =>
    simp [decodeLane]
    exact ⟨(extract_low _ _ 0 2 (by omega)).trans (extract_append_low _ _), extract_append_high _ _ _ rfl,
      (extract_low _ _ 2 2 (by omega)).trans (extract_append_high _ _ _ rfl)⟩
  case atomAdd | atomAnd | atomOr | atomXor | atomSwap | atomCas | atomMin | atomMax =>
    simp [decodeStore]
    exact ⟨extract_append_high _ _ _ rfl, (extract_low _ _ 3 2 (by omega)).trans (extract_append_high _ _ _ rfl),
      (extract_low _ _ 0 3 (by omega)).trans (extract_append_low _ _)⟩
  case fcvt =>
    rw [decodeConvert_of_ge _ _ _ _ _ (BitVec.toNat_append _ _ ▸ Nat.left_le_or), extract_append_low]
    rename_i n s c
    have hs : (BitVec.ofBool n ++ (BitVec.ofBool s ++ c)).getLsbD 5 = s :=
      (getLsbD_append_low _ _ 5 (by omega)).trans (top_of_append s c)
    have hc : (BitVec.ofBool n ++ (BitVec.ofBool s ++ c)).extractLsb' 0 5 = c :=
      (extract_low _ _ 0 5 (by omega)).trans (extract_append_low _ _)
    rw [top_of_append, hs, hc]
  all_goals rfl


/-- A map's entry holds nothing, or an instruction whose word is `w`. -/
def Reads (o : Option Instr) (w : W32) : Prop := ∀ i, o = some i → encode i = some w

theorem reads_none (w : W32) : Reads none w := nofun

theorem reads_some (i : Instr) (w : W32) : Reads (some i) w ↔ encode i = some w := by simp [Reads]

/-- An entry with reserved fields holds an instruction only when they are clear. -/
theorem reads_guard (c : Prop) [Decidable c] (i : Instr) (w : W32) :
    Reads (if c then some i else none) w ↔ (c → encode i = some w) := by
  by_cases h : c <;> simp [h, reads_some, reads_none]

theorem eq_ofNat_of_toNat {n k : Nat} {m : BitVec n} (h : m.toNat = k) : m = BitVec.ofNat n k := by
  rw [← h, BitVec.ofNat_toNat, BitVec.setWidth_eq]

theorem fields_of_clear_low (b : Fld) (h : b.extractLsb' 0 2 = 0) :
    b.extractLsb' 4 3 ++ (b.extractLsb' 2 2 ++ (0 : BitVec 2)) = b := by
  rw [← h]
  exact extract_append_rest3 (u := 3) (v := 2) (w := 2) b

theorem fields_of_clear_top (b : Fld) (h : b.getLsbD 6 = false) :
    (0 : BitVec 1) ++ (b.extractLsb' 3 3 ++ b.extractLsb' 0 3) = b := by
  have htop : (0 : BitVec 1) = b.extractLsb' 6 1 := by rw [← ofBool_getLsbD, h]; rfl
  rw [htop]
  exact extract_append_rest3 (u := 1) (v := 3) (w := 3) b

theorem reads_scalarR (y m d a b) : Reads (decodeScalarR y m d a b) (packR y 0 m d a b) := by
  unfold decodeScalarR
  split <;> rename_i hm
  case h_33 => exact reads_none _
  all_goals
    obtain rfl := eq_ofNat_of_toNat hm
    simp only [reads_guard, reads_some, beq_iff_eq]
    intros
    subst_vars
    rfl

theorem reads_vectorR (y m d a b) : Reads (decodeVectorR y m d a b) (packR y 2 m d a b) := by
  unfold decodeVectorR
  split <;> rename_i hm
  case h_38 => exact reads_none _
  all_goals
    obtain rfl := eq_ofNat_of_toNat hm
    simp only [reads_guard, reads_some, beq_iff_eq]
    intros
    subst_vars
    rfl

theorem reads_float (y m d a b) : Reads (decodeFloat y m d a b) (packR y 4 m d a b) := by
  unfold decodeFloat
  split <;> rename_i hm
  case h_41 => exact reads_none _
  all_goals
    obtain rfl := eq_ofNat_of_toNat hm
    simp only [reads_guard, reads_some, beq_iff_eq]
    intros
    subst_vars
    rfl

theorem reads_engine (y m d a b) : Reads (decodeEngine y m d a b) (packR y 11 m d a b) := by
  unfold decodeEngine
  split <;> rename_i hm
  case h_19 => exact reads_none _
  all_goals
    obtain rfl := eq_ofNat_of_toNat hm
    simp only [reads_guard, reads_some, beq_iff_eq, Bool.and_eq_true, and_imp]
    intros
    subst_vars
    rfl

theorem reads_control (y m d a b) : Reads (decodeControl y m d a b) (packR y 13 m d a b) := by
  unfold decodeControl
  split <;> rename_i hm
  case h_13 => exact reads_none _
  all_goals
    obtain rfl := eq_ofNat_of_toNat hm
    simp only [reads_guard, beq_iff_eq, Bool.and_eq_true, and_imp]
    intros
    subst_vars
    rfl

theorem reads_systemR (y m d a b) : Reads (decodeSystemR y m d a b) (packR y 15 m d a b) := by
  unfold decodeSystemR
  split <;> rename_i hm
  case h_11 => exact reads_none _
  all_goals
    obtain rfl := eq_ofNat_of_toNat hm
    simp only [reads_guard, reads_some, beq_iff_eq, Bool.and_eq_true, and_imp]
    intros
    subst_vars
    rfl

theorem reads_cap (y m d a b) : Reads (decodeCap y m d a b) (packR y 10 m d a b) := by
  unfold decodeCap
  split <;> rename_i hm
  case h_31 => exact reads_none _
  all_goals
    obtain rfl := eq_ofNat_of_toNat hm
    simp only [reads_guard, reads_some, beq_iff_eq, Bool.and_eq_true, and_imp]
    intros
    subst_vars
    rfl

theorem reads_lane (y m d a b) : Reads (decodeLane y m d a b) (packR y 7 m d a b) := by
  unfold decodeLane
  split <;> rename_i hm
  case h_57 => exact reads_none _
  all_goals
    obtain rfl := eq_ofNat_of_toNat hm
    simp only [reads_guard, reads_some, beq_iff_eq]
    intros
    subst_vars
  case h_45 | h_46 | h_47 | h_48 | h_49 | h_50 | h_51 | h_52 | h_53 | h_54 | h_55 | h_56 =>
    exact congrArg (fun f => some (packR y 7 _ d a f)) (fields_of_clear_low b ‹_›)
  all_goals rfl

theorem reads_smallMatrix (y m d a b) : Reads (decodeSmallMatrix y m d a b) (packR y 6 m d a b) := by
  unfold decodeSmallMatrix
  split <;> rename_i hm
  case h_41 => exact reads_none _
  all_goals
    obtain rfl := eq_ofNat_of_toNat hm
    simp only [reads_guard, reads_some, beq_iff_eq, Bool.and_eq_true, and_imp]
    intros
    subst_vars
  case h_8 | h_9 | h_10 | h_11 =>
    exact congrArg (fun f => some (packR y 6 _ d a f)) (fields_of_clear_top b ‹_›)
  all_goals rfl

theorem reads_load (y w o d a b) : Reads (decodeLoad y w o d a b) (packM y 8 w o d a b) := by
  unfold decodeLoad
  split <;> rename_i hm
  case h_17 => exact reads_none _
  all_goals
    obtain rfl := eq_ofNat_of_toNat hm
    simp only [reads_guard, reads_some, beq_iff_eq]
    intros
    subst_vars
    rfl

theorem reads_store (y w o d a b) : Reads (decodeStore y w o d a b) (packM y 9 w o d a b) := by
  unfold decodeStore
  split <;> rename_i hm
  case h_17 => exact reads_none _
  all_goals
    obtain rfl := eq_ofNat_of_toNat hm
    simp only [reads_guard, reads_some, beq_iff_eq]
    intros
    subst_vars
  case h_9 | h_10 | h_11 | h_12 | h_13 | h_14 | h_15 | h_16 =>
    exact congrArg (fun f => some (packM y 9 w _ d f b)) (extract_append_rest3 (u := 2) (v := 2) (w := 3) a)
  all_goals rfl

theorem reads_systemI (y m d a i) : Reads (decodeSystemI y m d a i) (packI y 15 m d a i) := by
  unfold decodeSystemI
  split <;> rename_i hm
  case h_4 => exact reads_none _
  all_goals
    obtain rfl := eq_ofNat_of_toNat hm
    simp only [reads_guard, beq_iff_eq, Bool.and_eq_true, and_imp]
    intros
    subst_vars
  case h_1 =>
    exact congrArg (fun f => some (packI y 15 _ 0 0 f)) (zero_append_extract (v := 2) (w := 8) i ‹_›)
  all_goals rfl

theorem reads_scalarI (y m d a i) : Reads (decodeScalarI y m d a i) (packI y 1 m d a i) := by
  unfold decodeScalarI
  split <;> rename_i hm
  case h_8 =>
    obtain rfl := eq_ofNat_of_toNat (show m.toNat = 7 by have := m.isLt; grind)
    exact (reads_some _ _).mpr rfl
  all_goals
    obtain rfl := eq_ofNat_of_toNat hm
    simp only [reads_guard, reads_some, beq_iff_eq]
    intros
  case h_5 | h_6 | h_7 =>
    exact congrArg (fun f => some (packI y 1 _ d a f)) (zero_append_extract (v := 4) (w := 6) i ‹_›)
  all_goals rfl

theorem reads_vectorI (y m d a i) : Reads (decodeVectorI y m d a i) (packI y 3 m d a i) := by
  unfold decodeVectorI
  split <;> rename_i hm
  case h_8 =>
    obtain rfl := eq_ofNat_of_toNat (show m.toNat = 7 by have := m.isLt; grind)
    exact (reads_guard _ _ _).mpr fun ha => by rw [beq_iff_eq.mp ha]; rfl
  all_goals
    obtain rfl := eq_ofNat_of_toNat hm
    simp only [reads_guard, reads_some, beq_iff_eq]
    intros
  case h_5 | h_6 | h_7 =>
    exact congrArg (fun f => some (packI y 3 _ d a f)) (zero_append_extract (v := 5) (w := 5) i ‹_›)
  all_goals rfl

theorem reads_branch (y m c o) : Reads (decodeBranch y m c o) (packB y 12 m c o) := by
  unfold decodeBranch
  split <;> rename_i hm
  case h_8 =>
    obtain rfl := eq_ofNat_of_toNat (show m.toNat = 7 by have := m.isLt; grind)
    exact (reads_some _ _).mpr rfl
  all_goals
    obtain rfl := eq_ofNat_of_toNat hm
    simp only [reads_guard, reads_some, beq_iff_eq]
    intros
    subst_vars
    rfl

theorem reads_long (y m d i) : Reads (decodeLong y m d i) (packU y 14 m d i) := by
  unfold decodeLong
  split <;> rename_i hm
  case h_4 =>
    obtain rfl := eq_ofNat_of_toNat (show m.toNat = 3 by have := m.isLt; grind)
    exact (reads_some _ _).mpr rfl
  all_goals
    obtain rfl := eq_ofNat_of_toNat hm
    exact (reads_some _ _).mpr rfl

theorem reads_convert (y m d a b) : Reads (decodeConvert y m d a b) (packR y 5 m d a b) := by
  unfold decodeConvert
  split <;> rename_i hm
  case h_14 =>
    refine (reads_guard _ _ _).mpr fun hge => ?_
    have hhigh : (1 : BitVec 1) = m.extractLsb' 5 1 := by
      clear * - hge
      decide +revert
    have hm1 : (1 : BitVec 1) ++ m.extractLsb' 0 5 = m := by
      rw [hhigh]
      exact extract_append_rest (v := 1) (w := 5) m
    have hb : BitVec.ofBool (b.getLsbD 6) ++ (BitVec.ofBool (b.getLsbD 5) ++ b.extractLsb' 0 5) = b := by
      rw [ofBool_getLsbD, ofBool_getLsbD]
      exact extract_append_rest3 (u := 1) (v := 1) (w := 5) b
    exact congrArg₂ (fun c f => some (packR y 5 c d a f)) hm1 hb
  all_goals
    obtain rfl := eq_ofNat_of_toNat hm
    simp only [reads_guard, reads_some, beq_iff_eq]
    intros
    subst_vars
    rfl

theorem eq_packB (w : W32) : w = packB (wordY w) (wordClass w) (wordMinor3 w) (wordDI w) (wordOff w) := by
  simp only [packB, wordY, wordClass, wordMinor3, wordDI, wordOff, ofBool_getLsbD]
  simp (disch := rfl) only [extract_append_extract]
  exact BitVec.extractLsb'_eq_self.symm

theorem eq_packU (w : W32) : w = packU (wordY w) (wordClass w) (wordMinor2 w) (wordDU w) (wordImm18 w) := by
  simp only [packU, wordY, wordClass, wordMinor2, wordDU, wordImm18, ofBool_getLsbD]
  simp (disch := rfl) only [extract_append_extract]
  exact BitVec.extractLsb'_eq_self.symm

theorem eq_packM (w : W32) :
    w = packM (wordY w) (wordClass w) ((wordMinor w).extractLsb' 4 2) ((wordMinor w).extractLsb' 0 4) (wordD w) (wordA
      w) (wordB w) := by
  have hminor : (wordMinor w).extractLsb' 4 2 ++ (wordMinor w).extractLsb' 0 4 = wordMinor w :=
    extract_append_rest (v := 2) (w := 4) (wordMinor w)
  rw [packM, hminor]
  exact eq_packR w

theorem reads_of_packR {o : Option Instr} {w : W32} {k : Nat} (hc : (wordClass w).toNat = k)
    (h : Reads o (packR (wordY w) (BitVec.ofNat 4 k) (wordMinor w) (wordD w) (wordA w) (wordB w))) : Reads o w := by
  rwa [← eq_ofNat_of_toNat hc, ← eq_packR] at h

theorem reads_of_packI {o : Option Instr} {w : W32} {k : Nat} (hc : (wordClass w).toNat = k)
    (h : Reads o (packI (wordY w) (BitVec.ofNat 4 k) (wordMinor3 w) (wordDI w) (wordAI w) (wordImm10 w))) : Reads o w :=
      by
  rwa [← eq_ofNat_of_toNat hc, ← eq_packI] at h

theorem reads_of_packB {o : Option Instr} {w : W32} {k : Nat} (hc : (wordClass w).toNat = k)
    (h : Reads o (packB (wordY w) (BitVec.ofNat 4 k) (wordMinor3 w) (wordDI w) (wordOff w))) : Reads o w := by
  rwa [← eq_ofNat_of_toNat hc, ← eq_packB] at h

theorem reads_of_packU {o : Option Instr} {w : W32} {k : Nat} (hc : (wordClass w).toNat = k)
    (h : Reads o (packU (wordY w) (BitVec.ofNat 4 k) (wordMinor2 w) (wordDU w) (wordImm18 w))) : Reads o w := by
  rwa [← eq_ofNat_of_toNat hc, ← eq_packU] at h

theorem reads_of_packM {o : Option Instr} {w : W32} {k : Nat} (hc : (wordClass w).toNat = k)
    (h : Reads o (packM (wordY w) (BitVec.ofNat 4 k) ((wordMinor w).extractLsb' 4 2) ((wordMinor w).extractLsb' 0 4)
      (wordD w) (wordA w) (wordB w))) : Reads o w := by
  rwa [← eq_ofNat_of_toNat hc, ← eq_packM] at h

/-- Each class reads its words by its own map (14 R247-R259). -/
theorem reads_decodeRaw (w : W32) : Reads (decodeRaw w) w := by
  unfold decodeRaw
  simp only
  split <;> rename_i hc
  case h_1 => exact reads_of_packR hc (reads_scalarR _ _ _ _ _)
  case h_2 => exact reads_of_packI hc (reads_scalarI _ _ _ _ _)
  case h_3 => exact reads_of_packR hc (reads_vectorR _ _ _ _ _)
  case h_4 => exact reads_of_packI hc (reads_vectorI _ _ _ _ _)
  case h_5 => exact reads_of_packR hc (reads_float _ _ _ _ _)
  case h_6 => exact reads_of_packR hc (reads_convert _ _ _ _ _)
  case h_7 => exact reads_of_packR hc (reads_smallMatrix _ _ _ _ _)
  case h_8 => exact reads_of_packR hc (reads_lane _ _ _ _ _)
  case h_9 => exact reads_of_packM hc (reads_load _ _ _ _ _ _)
  case h_10 => exact reads_of_packM hc (reads_store _ _ _ _ _ _)
  case h_11 => exact reads_of_packR hc (reads_cap _ _ _ _ _)
  case h_12 => exact reads_of_packR hc (reads_engine _ _ _ _ _)
  case h_13 => exact reads_of_packB hc (reads_branch _ _ _ _)
  case h_14 => exact reads_of_packR hc (reads_control _ _ _ _ _)
  case h_15 => exact reads_of_packU hc (reads_long _ _ _ _)
  case h_16 =>
    have hsystem : (wordClass w).toNat = 15 := by have := (wordClass w).isLt; grind
    split
    · exact reads_of_packI hsystem (reads_systemI _ _ _ _ _)
    · exact reads_of_packR hsystem (reads_systemR _ _ _ _ _)

theorem decode_eq_some_iff {w : W32} {i : Instr} : decode w = some i ↔ decodeRaw w = some i ∧ i.wf = true := by
  unfold decode
  cases decodeRaw w with
  | none => simp
  | some j =>
    by_cases hj : j.wf = true
    · simp only [if_pos hj, Option.some.injEq]
      exact ⟨fun h => ⟨h, h ▸ hj⟩, And.left⟩
    · simp only [if_neg hj, Option.some.injEq, reduceCtorEq, false_iff]
      rintro ⟨rfl, h⟩
      exact hj h

end Sys2Proof

namespace Sys2Proof.Claims

open Sys2Proof Sys2Proof.Machine

/-- Settles O51: every constructor's word goes to its class's map, which reads its fields back. -/
theorem encodeThenDecode : Obligations.EncodeThenDecode :=
  fun _ _ hwf h => decode_eq_some_iff.mpr ⟨decodeRaw_of_encode h, hwf⟩

/-- Settles O52: every entry of every map holds the instruction whose word has the entry's fields. -/
theorem decodeThenEncode : Obligations.DecodeThenEncode := by
  intro i w h
  obtain ⟨hraw, hwf⟩ := decode_eq_some_iff.mp h
  exact ⟨hwf, reads_decodeRaw w i hraw⟩

/-- Settles O53: each word is a closed term, so the decoder computes. -/
theorem writtenWordsDecode : Obligations.WrittenWordsDecode := by
  unfold Obligations.WrittenWordsDecode
  decide

end Sys2Proof.Claims

/-! PROOFS. What the operations on the state keep: each leaves memory in its canonical form, and each meaning of an
instruction or a happening gives a next state. One lemma per operation, in the order in which the model defines them, each
from those of the operations it calls (the model's own order makes this an induction over its definitions).
These goals need case splits and the lemmas named, no arithmetic, so `grind` runs without its arithmetic solvers. -/

namespace Sys2Proof.Machine

-- Each proof waits for those before it: elaborated in order, they hold few threads, and the text stays within its memory.
set_option Elab.async false

/-- Memory is in canonical form. -/
abbrev State.Canonical (s : State) : Prop := Memory.wf s.mem.bytes = true

/-- A meaning gives a next state, whose memory is canonical when `p` holds. -/
def Yields (P : Prop) (r : Res) : Prop := ∃ t, r = .next t ∧ (P → t.Canonical)

/-- An instruction gives a next state, or has no gang to issue it. -/
def Answers (P : Prop) (s : State) (r : Res) : Prop :=
  (r = .refused .noIssuer ∧ s.group s.cursor.group = none) ∨ Yields P r

theorem Answers.yields {P : Prop} {s : State} {r : Res} {g : Group} (h : Answers P s r)
    (hg : s.group s.cursor.group = some g) : Yields P r := by
  rcases h with ⟨-, hnone⟩ | h
  · rw [hg] at hnone
    contradiction
  · exact h

theorem yields_next {P : Prop} {t : State} (h : P → t.Canonical) : Yields P (.next t) := ⟨t, rfl, h⟩

theorem Memory.wf_setAll {m : Memory} (w : List (Nat × Byte)) (h : Memory.wf m = true) :
    Memory.wf (Sparse.setAll 0 m w) = true := Sparse.wf_setAll _ _ _ h
theorem Memory.wf_clearRange {m : Memory} (lo hi : Nat) (h : Memory.wf m = true) :
    Memory.wf (Sparse.clearRange m lo hi) = true := Sparse.wf_clearRange _ _ _ _ h
theorem Memory.wf_filter {m : Memory} (p : Nat × Byte → Bool) (h : Memory.wf m = true) :
    Memory.wf (m.filter p) = true := Sparse.wf_filter _ _ _ h

theorem foldl_canonical {α : Type} (f : State → α → State) (hf : ∀ s a, s.Canonical → (f s a).Canonical) (l : List α)
    (s : State)
  (hs : s.Canonical) : (l.foldl f s).Canonical := by
  induction l generalizing s with
  | nil => exact hs
  | cons a l ih => exact ih _ (hf _ _ hs)

theorem foldl_fst_canonical {α β : Type} (f : State × β → α → State × β)
    (hf : ∀ s a, s.1.Canonical → (f s a).1.Canonical) (l : List α) (s : State × β)
  (hs : s.1.Canonical) : (l.foldl f s).1.Canonical := by
  induction l generalizing s with
  | nil => exact hs
  | cons a l ih => exact ih _ (hf _ _ hs)

theorem foldl_wf {α : Type} (f : MemState → α → MemState)
    (hf : ∀ m a, Memory.wf m.bytes = true → Memory.wf (f m a).bytes = true) (l : List α) (s : MemState)
  (hs : Memory.wf s.bytes = true) : Memory.wf (l.foldl f s).bytes = true := by
  induction l generalizing s with
  | nil => exact hs
  | cons a l ih => exact ih _ (hf _ _ hs)

theorem yields_ite {P : Prop} {c : Prop} [Decidable c] {a b : Res} (ha : Yields P a) (hb : Yields P b) :
    Yields P (if c then a else b) := by
  split
  · exact ha
  · exact hb

theorem canonical_ite {c : Prop} [Decidable c] {a b : State} (ha : a.Canonical) (hb : b.Canonical) :
    (if c then a else b).Canonical := by
  split
  · exact ha
  · exact hb

theorem fst_canonical_ite {β : Type} {c : Prop} [Decidable c] {a b : State × β} (ha : a.1.Canonical) (hb : b.1.Canonical) :
    (if c then a else b).1.Canonical := by
  split
  · exact ha
  · exact hb

/-! ### Flit -/

theorem State.putPort_canonical (s : State) (i p) (hs : s.Canonical) :
    (State.putPort s i p).Canonical := by
  grind -ring -linarith -lia -order [State.putPort]

theorem State.emitFrames_canonical (s : State) (i kind es) (hs : s.Canonical) :
    (State.emitFrames s i kind es).Canonical := by
  grind -ring -linarith -lia -order [State.emitFrames, State.putPort_canonical]

theorem State.idlePort_canonical (s : State) (i) (hs : s.Canonical) :
    (State.idlePort s i).Canonical := by
  grind -ring -linarith -lia -order [State.idlePort, State.emitFrames_canonical]

theorem State.idleAll_canonical (s : State) (hs : s.Canonical) :
    (State.idleAll s).Canonical := by
  grind -ring -linarith -lia -order [State.idleAll, State.idlePort_canonical, foldl_canonical, foldl_fst_canonical]

theorem State.setStops_canonical (s : State) (hs : s.Canonical) :
    (State.setStops s).Canonical := by
  grind -ring -linarith -lia -order [State.setStops, State.idleAll_canonical]

theorem State.emitOn_canonical (s : State) (i p) (hs : s.Canonical) :
    (State.emitOn s i p).Canonical := by
  grind -ring -linarith -lia -order [State.emitOn, State.putPort_canonical, State.emitFrames_canonical]

theorem State.emit_canonical (s : State) (p) (hs : s.Canonical)
    {u} (hu : State.emit s p = some u) : u.Canonical := by
  obtain ⟨i, -, rfl⟩ := Option.map_eq_some_iff.mp hu
  exact State.emitOn_canonical s i p hs

theorem State.emitLoose_canonical (s : State) (p) (hs : s.Canonical) :
    (State.emitLoose s p).Canonical := by
  grind -ring -linarith -lia -order [State.emitLoose, State.emit_canonical]

theorem State.drainLoose_canonical (s : State) (hs : s.Canonical) :
    (State.drainLoose s).Canonical := by
  grind -ring -linarith -lia -order [State.drainLoose, State.emitLoose_canonical, foldl_canonical,
    foldl_fst_canonical]

theorem State.sendEvent_canonical (s : State) (r) (hs : s.Canonical) :
    (State.sendEvent s r).Canonical := by
  grind -ring -linarith -lia -order [State.sendEvent, State.emitLoose_canonical]

theorem State.sendSync_canonical (s : State) (chip oper id b) (hs : s.Canonical) :
    (State.sendSync s chip oper id b).Canonical := by
  grind -ring -linarith -lia -order [State.sendSync, State.emitLoose_canonical, foldl_canonical, foldl_fst_canonical]

/-! ### Ops -/

theorem State.queueReleased_canonical (s : State) (old h g) (hs : s.Canonical) :
    (State.queueReleased s old h g).Canonical := by
  grind -ring -linarith -lia -order [State.queueReleased]

theorem State.putGroup_canonical (s : State) (h g) (hs : s.Canonical) :
    (State.putGroup s h g).Canonical := by
  grind -ring -linarith -lia -order [State.putGroup, State.queueReleased_canonical]

theorem State.issue_answers {P : Prop} (s : State) (k : Group → Res)
    (hk : ∀ g, s.group s.cursor.group = some g → Yields P (k g)) : Answers P s (s.issue k) := by
  unfold State.issue
  split
  · next hnone => exact .inl ⟨rfl, hnone⟩
  · next g hg => exact .inr (hk g hg)

theorem State.errorRecord_canonical (s : State) (die unit code severity detail) (hs : s.Canonical) :
    (State.errorRecord s die unit code severity detail).Canonical := by
  grind -ring -linarith -lia -order [State.errorRecord]

theorem State.contain_canonical (s : State) (die code severity unitKind check unitNum frame sector grid ctx gid pc
  tstat peer) (hs : s.Canonical) :
    (State.contain s die code severity unitKind check unitNum frame sector grid ctx gid pc tstat peer).Canonical := by
  grind -ring -linarith -lia -order [State.contain, State.errorRecord_canonical]

theorem State.post_canonical (s : State) (r) (hs : s.Canonical) :
    (State.post s r).Canonical := by
  grind -ring -linarith -lia -order [State.post, State.sendEvent_canonical]

theorem State.postFault_canonical (s : State) (grid nominal code) (hs : s.Canonical) :
    (State.postFault s grid nominal code).Canonical := by
  grind -ring -linarith -lia -order [State.postFault, State.post_canonical]

theorem State.halt_canonical (s : State) (h g code pc tstat) (hs : s.Canonical) :
    (State.halt s h g code pc tstat).Canonical := by
  grind -ring -linarith -lia -order [State.halt, State.putGroup_canonical, State.contain_canonical,
    State.postFault_canonical]

theorem State.deliver_canonical (s : State) (h g slices t) (hs : s.Canonical) :
    (State.deliver s h g slices t).Canonical := by
  grind -ring -linarith -lia -order [State.deliver, State.halt_canonical, State.putGroup_canonical]

theorem State.raise_canonical (s : State) (h g slices pc t) (hs : s.Canonical) :
    (State.raise s h g slices pc t).Canonical := by
  grind -ring -linarith -lia -order [State.raise, State.deliver_canonical]

theorem State.trapHere_yields {P : Prop} (s : State) (g c) (hs : P → s.Canonical) :
    Yields P (State.trapHere s g c) := by
  grind -ring -linarith -lia -order [State.trapHere, State.raise_canonical, yields_next]

theorem State.trapLanes_yields {P : Prop} (s : State) (g c lanes) (hs : P → s.Canonical) :
    Yields P (State.trapLanes s g c lanes) := by
  grind -ring -linarith -lia -order [State.trapLanes, State.raise_canonical, yields_next]

theorem State.deliverPending_canonical (s : State) (h g) (hs : s.Canonical) :
    (State.deliverPending s h g).Canonical := by
  grind -ring -linarith -lia -order [State.deliverPending, State.deliver_canonical]

theorem State.repeatPassed_canonical (s : State) (g pcs kinds) (hs : s.Canonical) :
    (State.repeatPassed s g pcs kinds).Canonical := by
  grind -ring -linarith -lia -order [State.repeatPassed, State.contain_canonical, foldl_canonical,
    foldl_fst_canonical]

theorem State.retire_yields {P : Prop} (s : State) (y g) (hs : P → s.Canonical) :
    Yields P (State.retire s y g) := by
  grind -ring -linarith -lia -order [State.retire, State.putGroup_canonical, yields_next]

theorem State.need_yields {P : Prop} (s : State) (g ok) (k : Res) (hs : P → s.Canonical) (hk : Yields P k) : Yields P
  (s.need g ok k) := by
  grind -ring -linarith -lia -order [State.need, State.trapHere_yields]

theorem State.switchFirst_yields {P : Prop} (s : State) (g) (k : Res) (hs : P → s.Canonical) (hk : Yields P k) :
  Yields P (s.switchFirst g k) := by
  grind -ring -linarith -lia -order [State.switchFirst, State.putGroup_canonical, yields_next]

theorem State.plain_answers {P : Prop} (s : State) (y ok f) (hs : P → s.Canonical) :
    Answers P s (State.plain s y ok f) := by
  grind -ring -linarith -lia -order [State.plain, State.retire_yields, State.issue_answers, State.need_yields,
    Answers]

/-! ### Operands -/

theorem State.scalar3_answers {P : Prop} (s : State) (y d a b f) (hs : P → s.Canonical) :
    Answers P s (State.scalar3 s y d a b f) := by
  grind -ring -linarith -lia -order [State.scalar3, State.plain_answers, Answers]

theorem State.scalar2_answers {P : Prop} (s : State) (y d a f) (hs : P → s.Canonical) :
    Answers P s (State.scalar2 s y d a f) := by
  grind -ring -linarith -lia -order [State.scalar2, State.plain_answers, Answers]

theorem State.lanes1_answers {P : Prop} (s : State) (y d ok f) (hs : P → s.Canonical) :
    Answers P s (State.lanes1 s y d ok f) := by
  grind -ring -linarith -lia -order [State.lanes1, State.plain_answers, Answers]

theorem State.vec2_answers {P : Prop} (s : State) (y d a f) (hs : P → s.Canonical) :
    Answers P s (State.vec2 s y d a f) := by
  grind -ring -linarith -lia -order [State.vec2, State.lanes1_answers, Answers]

theorem State.vec3_answers {P : Prop} (s : State) (y d a b f) (hs : P → s.Canonical) :
    Answers P s (State.vec3 s y d a b f) := by
  grind -ring -linarith -lia -order [State.vec3, State.lanes1_answers, Answers]

theorem State.vecAcc_answers {P : Prop} (s : State) (y d a b f) (hs : P → s.Canonical) :
    Answers P s (State.vecAcc s y d a b f) := by
  grind -ring -linarith -lia -order [State.vecAcc, State.lanes1_answers, Answers]

theorem State.vecFlags_answers {P : Prop} (s : State) (y d ok f) (hs : P → s.Canonical) :
    Answers P s (State.vecFlags s y d ok f) := by
  grind -ring -linarith -lia -order [State.vecFlags, State.plain_answers, Answers]

theorem State.vec3Flags_answers {P : Prop} (s : State) (y d a b f) (hs : P → s.Canonical) :
    Answers P s (State.vec3Flags s y d a b f) := by
  grind -ring -linarith -lia -order [State.vec3Flags, State.vecFlags_answers, Answers]

theorem State.pairs1_answers {P : Prop} (s : State) (y d ok f) (hs : P → s.Canonical) :
    Answers P s (State.pairs1 s y d ok f) := by
  grind -ring -linarith -lia -order [State.pairs1, State.plain_answers, Answers]

theorem State.fpLanes_answers {P : Prop} (s : State) (y wide d srcs f) (hs : P → s.Canonical) :
    Answers P s (State.fpLanes s y wide d srcs f) := by
  grind -ring -linarith -lia -order [State.fpLanes, State.plain_answers, Answers]

theorem State.fp3_answers {P : Prop} (s : State) (y wide d a b rm op) (hs : P → s.Canonical) :
    Answers P s (State.fp3 s y wide d a b rm op) := by
  grind -ring -linarith -lia -order [State.fp3, State.fpLanes_answers, Answers]

theorem State.fpFma_answers {P : Prop} (s : State) (y wide sub d a b rm) (hs : P → s.Canonical) :
    Answers P s (State.fpFma s y wide sub d a b rm) := by
  grind -ring -linarith -lia -order [State.fpFma, State.fpLanes_answers, Answers]

theorem State.compare_answers {P : Prop} (s : State) (y d ok p) (hs : P → s.Canonical) :
    Answers P s (State.compare s y d ok p) := by
  grind -ring -linarith -lia -order [State.compare, State.plain_answers, Answers]

theorem State.vecCompare_answers {P : Prop} (s : State) (y d a b p) (hs : P → s.Canonical) :
    Answers P s (State.vecCompare s y d a b p) := by
  grind -ring -linarith -lia -order [State.vecCompare, State.compare_answers, Answers]

theorem State.fpCompare_answers {P : Prop} (s : State) (y wide d a b p) (hs : P → s.Canonical) :
    Answers P s (State.fpCompare s y wide d a b p) := by
  grind -ring -linarith -lia -order [State.fpCompare, State.compare_answers, Answers]

theorem State.pendLanes_answers {P : Prop} (s : State) (y ok f) (hs : P → s.Canonical) :
    Answers P s (State.pendLanes s y ok f) := by
  grind -ring -linarith -lia -order [State.pendLanes, State.plain_answers, Answers]

theorem State.fpPend_answers {P : Prop} (s : State) (y wide d srcs f) (hs : P → s.Canonical) :
    Answers P s (State.fpPend s y wide d srcs f) := by
  grind -ring -linarith -lia -order [State.fpPend, State.pendLanes_answers, Answers]

/-! ### Control -/

theorem State.move_yields {P : Prop} (s : State) (y g pc) (hs : P → s.Canonical) :
    Yields P (State.move s y g pc) := by
  grind -ring -linarith -lia -order [State.move, State.putGroup_canonical, yields_next]

theorem State.branchOn_answers {P : Prop} (s : State) (y c o p) (hs : P → s.Canonical) :
    Answers P s (State.branchOn s y c o p) := by
  grind -ring -linarith -lia -order [State.branchOn, State.move_yields, State.issue_answers, Answers]

theorem State.branchSlices_answers {P : Prop} (s : State) (y c o onAny) (hs : P → s.Canonical) :
    Answers P s (State.branchSlices s y c o onAny) := by
  grind -ring -linarith -lia -order [State.branchSlices, State.putGroup_canonical, State.issue_answers, yields_next,
    Answers]

theorem execBr_answers {P : Prop} (y o) (s : State) (hs : P → s.Canonical) :
    Answers P s (execBr y o s) := by
  grind -ring -linarith -lia -order [execBr, State.move_yields, State.issue_answers, Answers]

theorem State.callTo_answers {P : Prop} (s : State) (y target) (hs : P → s.Canonical) :
    Answers P s (State.callTo s y target) := by
  grind -ring -linarith -lia -order [State.callTo, State.move_yields, State.issue_answers, State.need_yields, Answers]

theorem execJmp_answers {P : Prop} (y a) (s : State) (hs : P → s.Canonical) :
    Answers P s (execJmp y a s) := by
  grind -ring -linarith -lia -order [execJmp, State.move_yields, State.issue_answers, Answers]

theorem execRet_answers {P : Prop} (y) (s : State) (hs : P → s.Canonical) :
    Answers P s (execRet y s) := by
  grind -ring -linarith -lia -order [execRet, State.putGroup_canonical, State.issue_answers, State.need_yields,
    yields_next, Answers]

theorem execJoin_answers {P : Prop} (y j) (s : State) (hs : P → s.Canonical) :
    Answers P s (execJoin y j s) := by
  grind -ring -linarith -lia -order [execJoin, State.retire_yields, State.putGroup_canonical, State.issue_answers,
    State.switchFirst_yields, yields_next, Answers]

theorem State.freeSlot_canonical (s : State) (h g) (hs : s.Canonical) :
    (State.freeSlot s h g).Canonical := by
  grind -ring -linarith -lia -order [State.freeSlot]

theorem execExit_answers {P : Prop} (n) (s : State) (hs : P → s.Canonical) :
    Answers P s (execExit n s) := by
  grind -ring -linarith -lia -order [execExit, State.putGroup_canonical, State.freeSlot_canonical,
    State.issue_answers, State.switchFirst_yields, yields_next, Answers]

theorem execSleep_answers {P : Prop} (n a) (s : State) (hs : P → s.Canonical) :
    Answers P s (execSleep n a s) := by
  grind -ring -linarith -lia -order [execSleep, State.putGroup_canonical, State.issue_answers,
    State.switchFirst_yields, yields_next, Answers]

theorem execVdead_answers {P : Prop} (y a b) (s : State) (hs : P → s.Canonical) :
    Answers P s (execVdead y a b s) := by
  grind -ring -linarith -lia -order [execVdead, State.retire_yields, State.issue_answers, State.need_yields,
    foldl_canonical, foldl_fst_canonical, Answers]

/-! ### Frames -/

theorem MemState.clearFrame_canonical (m : MemState) (f) (hm : Memory.wf m.bytes = true) :
    Memory.wf (MemState.clearFrame m f).bytes = true := by
  grind -ring -linarith -lia -order [MemState.clearFrame, foldl_wf, Memory.wf_setAll, Memory.wf_clearRange,
    Memory.wf_filter]

theorem MemState.treeStep_canonical (m : MemState) (f region) (hm : Memory.wf m.bytes = true) :
    Memory.wf (MemState.treeStep m f region).bytes = true := by
  grind -ring -linarith -lia -order [MemState.treeStep, foldl_canonical, foldl_fst_canonical, foldl_wf]

theorem MemState.countWrite_canonical (m : MemState) (f k) (hm : Memory.wf m.bytes = true) :
    Memory.wf (MemState.countWrite m f k).bytes = true := by
  grind -ring -linarith -lia -order [MemState.countWrite, MemState.treeStep_canonical, foldl_wf]

theorem MemState.rebuildRoots_canonical (m : MemState) (hm : Memory.wf m.bytes = true) :
    Memory.wf (MemState.rebuildRoots m).bytes = true := by
  grind -ring -linarith -lia -order [MemState.rebuildRoots, foldl_canonical, foldl_fst_canonical, foldl_wf]

theorem State.tellHost_canonical (s : State) (f offs) (hs : s.Canonical) :
    (State.tellHost s f offs).Canonical := by
  grind -ring -linarith -lia -order [State.tellHost, Memory.wf_setAll, Memory.wf_clearRange, Memory.wf_filter]

theorem State.checkStale_canonical (s : State) (f hit) (hs : s.Canonical) :
    (State.checkStale s f hit).Canonical := by
  grind -ring -linarith -lia -order [State.checkStale, State.contain_canonical, foldl_canonical, foldl_fst_canonical]

theorem State.storeForms_canonical (s : State) (f offs) (hs : s.Canonical) :
    (State.storeForms s f offs).Canonical := by
  grind -ring -linarith -lia -order [State.storeForms]

theorem State.writeFrame_canonical (s : State) (f w) (hs : s.Canonical) :
    (State.writeFrame s f w).Canonical := by
  grind -ring -linarith -lia -order [State.writeFrame, State.checkStale_canonical, MemState.countWrite_canonical,
    State.tellHost_canonical, State.storeForms_canonical, foldl_canonical, foldl_fst_canonical, foldl_wf,
    Memory.wf_setAll, Memory.wf_clearRange, Memory.wf_filter]

theorem State.cacheHost_canonical (s : State) (ctx f off n) (hs : s.Canonical) :
    (State.cacheHost s ctx f off n).Canonical := by
  grind -ring -linarith -lia -order [State.cacheHost]

theorem MemState.discardHost_canonical (m : MemState) (ctx) (hm : Memory.wf m.bytes = true) :
    Memory.wf (MemState.discardHost m ctx).bytes = true := by
  grind -ring -linarith -lia -order [MemState.discardHost, foldl_wf, Memory.wf_setAll, Memory.wf_clearRange,
    Memory.wf_filter]

theorem State.hostStore_canonical (s : State) (f w) (hs : s.Canonical) :
    (State.hostStore s f w).Canonical := by
  grind -ring -linarith -lia -order [State.hostStore, Memory.wf_setAll, Memory.wf_clearRange, Memory.wf_filter]

/-! ### Gateway -/

theorem State.putTx_canonical (s : State) (k w) (hs : s.Canonical) :
    (State.putTx s k w).Canonical := by
  grind -ring -linarith -lia -order [State.putTx]

theorem State.sendNow_canonical (s : State) (k w p) (hs : s.Canonical)
    {u} (hu : State.sendNow s k w p = some u) : u.1.Canonical := by
  unfold State.sendNow at hu
  split at hu
  · obtain ⟨t, ht, rfl⟩ := Option.map_eq_some_iff.mp hu
    exact State.emit_canonical s _ hs ht
  · contradiction

theorem State.pump_canonical (s : State) (die k w p) (hs : s.Canonical) :
    (State.pump s die k w p).Canonical := by
  unfold State.pump
  split
  · next t w' h =>
    split at h
    · exact State.putTx_canonical _ _ _ (State.sendNow_canonical s k w p hs h)
    · contradiction
  · exact State.putTx_canonical _ _ _ hs

theorem State.drainPair_canonical (s : State) (k w l) (hs : s.Canonical) :
    (State.drainPair s k w l).Canonical := by
  induction l generalizing s w with
  | nil => exact State.putTx_canonical _ _ _ hs
  | cons p l ih =>
    simp only [State.drainPair]
    split
    · next hsent => exact ih _ _ (State.sendNow_canonical s k w p hs hsent)
    · exact State.putTx_canonical _ _ _ hs

theorem State.restartPair_canonical (s : State) (chip plane) (hs : s.Canonical) :
    (State.restartPair s chip plane).Canonical := by
  grind -ring -linarith -lia -order [State.restartPair, State.putTx_canonical]

theorem State.moveClass_canonical (s : State) (die chip old new cls) (hs : s.Canonical) :
    (State.moveClass s die chip old new cls).Canonical := by
  grind -ring -linarith -lia -order [State.moveClass, State.putTx_canonical]

theorem State.takePlane_canonical (s : State) (die chip new) (hs : s.Canonical) :
    (State.takePlane s die chip new).Canonical := by
  grind -ring -linarith -lia -order [State.takePlane, State.moveClass_canonical]

theorem State.movePair_canonical (s : State) (k) (hs : s.Canonical) :
    (State.movePair s k).Canonical := by
  grind -ring -linarith -lia -order [State.movePair, State.drainPair_canonical, State.restartPair_canonical]

theorem State.replane_canonical (s : State) (hs : s.Canonical) :
    (State.replane s).Canonical := by
  grind -ring -linarith -lia -order [State.replane, State.takePlane_canonical, foldl_canonical, foldl_fst_canonical]

theorem State.movePairs_canonical (s : State) (hs : s.Canonical) :
    (State.movePairs s).Canonical := by
  grind -ring -linarith -lia -order [State.movePairs, State.replane_canonical, State.movePair_canonical,
    State.drainLoose_canonical, foldl_canonical, foldl_fst_canonical]

theorem State.noPlaneRecord_canonical (s : State) (die chip) (hs : s.Canonical) :
    (State.noPlaneRecord s die chip).Canonical := by
  grind -ring -linarith -lia -order [State.noPlaneRecord, State.contain_canonical]

theorem State.send_canonical (s : State) (die p) (hs : s.Canonical) :
    (State.send s die p).1.Canonical := by
  grind -ring -linarith -lia -order [State.send, State.noPlaneRecord_canonical, State.takePlane_canonical,
    State.pump_canonical]

theorem State.newTag_canonical (s : State) (a k) (hs : s.Canonical) :
    (State.newTag s a k).1.Canonical := by
  grind -ring -linarith -lia -order [State.newTag]

theorem State.ask_canonical (s : State) (die a p) (hs : s.Canonical) :
    (State.ask s die a p).1.Canonical := by
  grind -ring -linarith -lia -order [State.ask, State.noPlaneRecord_canonical, State.newTag_canonical,
    State.takePlane_canonical, State.pump_canonical]

/-! ### Weir -/

theorem State.serviceRequest_canonical (s : State) (fn die part body) (hs : s.Canonical) :
    (State.serviceRequest s fn die part body).Canonical := by
  grind -ring -linarith -lia -order [State.serviceRequest, Memory.wf_setAll, Memory.wf_clearRange, Memory.wf_filter]

theorem State.bindFrame_canonical (s : State) (w t) (hs : s.Canonical) :
    (State.bindFrame s w t).Canonical := by
  grind -ring -linarith -lia -order [State.bindFrame]

theorem State.writeLineBack_canonical (s : State) (b line f off) (hs : s.Canonical) :
    (State.writeLineBack s b line f off).Canonical := by
  grind -ring -linarith -lia -order [State.writeLineBack, State.writeFrame_canonical]

theorem State.putBlock_canonical (s : State) (k b) (hs : s.Canonical) :
    (State.putBlock s k b).Canonical := by
  grind -ring -linarith -lia -order [State.putBlock]

theorem State.recallLine_canonical (s : State) (f drop c) (hs : s.Canonical) :
    (State.recallLine s f drop c).Canonical := by
  grind -ring -linarith -lia -order [State.recallLine, State.writeLineBack_canonical, State.putBlock_canonical]

theorem State.recall_canonical (s : State) (o off n f drop own) (hs : s.Canonical) :
    (State.recall s o off n f drop own).Canonical := by
  grind -ring -linarith -lia -order [State.recall, State.recallLine_canonical, foldl_canonical, foldl_fst_canonical]

theorem State.askGrant_canonical (s : State) (q ptag) (hs : s.Canonical) :
    (State.askGrant s q ptag).Canonical := by
  grind -ring -linarith -lia -order [State.askGrant, State.ask_canonical]

theorem State.useGrant_canonical (s : State) (q ptag) (hs : s.Canonical) :
    (State.useGrant s q ptag).Canonical := by
  grind -ring -linarith -lia -order [State.useGrant]

theorem State.freshGrants_canonical (s : State) (home object) (hs : s.Canonical) :
    (State.freshGrants s home object).Canonical := by
  grind -ring -linarith -lia -order [State.freshGrants]

theorem State.dropGrants_canonical (s : State) (hs : s.Canonical) :
    (State.dropGrants s).Canonical := by
  grind -ring -linarith -lia -order [State.dropGrants]

theorem State.cryptoRecord_canonical (s : State) (q o off frame c) (hs : s.Canonical) :
    (State.cryptoRecord s q o off frame c).Canonical := by
  fun_cases State.cryptoRecord s q o off frame c <;> grind -ring -linarith -lia -order [State.errorRecord_canonical]

theorem State.refusePrefetch_canonical (s : State) (q o off) (hs : s.Canonical) :
    (State.refusePrefetch s q o off).Canonical := by
  grind -ring -linarith -lia -order [State.refusePrefetch, State.cryptoRecord_canonical]

theorem State.pageWritten_canonical (s : State) (t off) (hs : s.Canonical) :
    (State.pageWritten s t off).Canonical := by
  grind -ring -linarith -lia -order [State.pageWritten]

theorem State.appendHere_canonical (s : State) (log entry) (hs : s.Canonical) :
    (State.appendHere s log entry).Canonical := by
  grind -ring -linarith -lia -order [State.appendHere, State.recall_canonical, State.writeFrame_canonical,
    State.bindFrame_canonical, State.pageWritten_canonical]

theorem State.logDenial_canonical (s : State) (q o off ptag kind) (hs : s.Canonical) :
    (State.logDenial s q o off ptag kind).Canonical := by
  grind -ring -linarith -lia -order [State.logDenial, State.appendHere_canonical]

theorem State.reportFault_canonical (s : State) (e) (hs : s.Canonical) :
    (State.reportFault s e).1.Canonical := by
  grind -ring -linarith -lia -order [State.reportFault, State.serviceRequest_canonical]

theorem State.reportFaults_canonical (s : State) (hs : s.Canonical) :
    (State.reportFaults s).Canonical := by
  grind -ring -linarith -lia -order [State.reportFaults, State.reportFault_canonical, foldl_canonical,
    foldl_fst_canonical]

theorem State.recordFault_canonical (s : State) (q o page kind) (hs : s.Canonical)
    {u} (hu : State.recordFault s q o page kind = some u) : u.1.Canonical := by
  grind -ring -linarith -lia -order [State.recordFault, State.reportFaults_canonical]

theorem State.copyPage_canonical (s : State) (src dst) (hs : s.Canonical) :
    (State.copyPage s src dst).Canonical := by
  grind -ring -linarith -lia -order [State.copyPage, State.checkStale_canonical, MemState.clearFrame_canonical,
    State.storeForms_canonical, State.tellHost_canonical, Memory.wf_setAll, Memory.wf_clearRange, Memory.wf_filter]

theorem State.copyOnWrite_canonical (s : State) (t o off) (hs : s.Canonical) :
    (State.copyOnWrite s t o off).1.Canonical := by
  grind -ring -linarith -lia -order [State.copyOnWrite, State.copyPage_canonical, State.recall_canonical]

theorem State.findLeaf_canonical (s : State) (t o off shadow) (hs : s.Canonical) :
    (State.findLeaf s t o off shadow).1.Canonical := by
  grind -ring -linarith -lia -order [State.findLeaf, State.copyOnWrite_canonical]

theorem State.faultOf_canonical (s : State) (q o off kind) (hs : s.Canonical) :
    (State.faultOf s q o off kind).1.Canonical := by
  unfold State.faultOf
  split
  · next h => exact State.recordFault_canonical s q o _ kind hs h
  · exact hs

theorem State.translate_canonical (s : State) (q o off writes shadow) (hs : s.Canonical) :
    (State.translate s q o off writes shadow).1.Canonical := by
  fun_cases State.translate s q o off writes shadow <;> grind -ring -linarith -lia -order [State.faultOf_canonical,
    State.findLeaf_canonical, State.errorRecord_canonical, State.cryptoRecord_canonical, State.askGrant_canonical,
    State.useGrant_canonical, State.bindFrame_canonical]

theorem State.reach_canonical (s : State) (o off n leaf t drop own) (hs : s.Canonical) :
    (State.reach s o off n leaf t drop own).Canonical := by
  grind -ring -linarith -lia -order [State.reach, State.recall_canonical, State.cacheHost_canonical,
    State.checkStale_canonical]

/-! ### Stash -/

theorem State.wakeGroup_canonical (s : State) (k p h) (hs : s.Canonical) :
    (State.wakeGroup s k p h).Canonical := by
  grind -ring -linarith -lia -order [State.wakeGroup, State.putGroup_canonical]

theorem State.stashTouched_canonical (s : State) (blk off n) (hs : s.Canonical) :
    (State.stashTouched s blk off n).Canonical := by
  grind -ring -linarith -lia -order [State.stashTouched, Memory.wf_setAll, Memory.wf_clearRange, Memory.wf_filter]

theorem State.barrierUpdate_canonical (s : State) (blk k) (hs : s.Canonical) :
    (State.barrierUpdate s blk k).Canonical := by
  grind -ring -linarith -lia -order [State.barrierUpdate, State.stashTouched_canonical, State.putBlock_canonical,
    State.wakeGroup_canonical, foldl_canonical, foldl_fst_canonical]

theorem State.barriersTouched_canonical (s : State) (blk off n) (hs : s.Canonical) :
    (State.barriersTouched s blk off n).Canonical := by
  grind -ring -linarith -lia -order [State.barriersTouched, State.barrierUpdate_canonical,
    State.stashTouched_canonical, foldl_canonical, foldl_fst_canonical]

theorem State.countBytes_canonical (s : State) (blk k n) (hs : s.Canonical) :
    (State.countBytes s blk k n).Canonical := by
  grind -ring -linarith -lia -order [State.countBytes, State.barrierUpdate_canonical, State.putBlock_canonical,
    Memory.wf_setAll, Memory.wf_clearRange, Memory.wf_filter]

theorem State.useHit_canonical (s : State) (blk line q) (hs : s.Canonical) :
    (State.useHit s blk line q).Canonical := by
  grind -ring -linarith -lia -order [State.useHit, State.useGrant_canonical]

theorem State.fillLine_canonical (s : State) (blk line r q writes low) (hs : s.Canonical) :
    (State.fillLine s blk line r q writes low).1.Canonical := by
  grind -ring -linarith -lia -order [State.fillLine, State.askGrant_canonical, State.useHit_canonical,
    State.logDenial_canonical, State.translate_canonical, State.reach_canonical, State.putBlock_canonical]

theorem State.flushLine_canonical (s : State) (blk line r q) (hs : s.Canonical) :
    (State.flushLine s blk line r q).1.Canonical := by
  grind -ring -linarith -lia -order [State.flushLine, State.translate_canonical, State.putBlock_canonical,
    State.writeLineBack_canonical, State.cacheHost_canonical, State.logDenial_canonical]

theorem State.discardHost_canonical (s : State) (ctx) (hs : s.Canonical) :
    (State.discardHost s ctx).Canonical := by
  grind -ring -linarith -lia -order [State.discardHost, MemState.discardHost_canonical]

/-! ### Access -/

theorem State.atFrame_canonical (s : State) (kind f p) (hs : s.Canonical) :
    (State.atFrame s kind f p).1.Canonical := by
  fun_cases State.atFrame s kind f p <;> grind -ring -linarith -lia -order [State.writeFrame_canonical,
    foldl_canonical, foldl_fst_canonical]

theorem State.allAtFrame_canonical (s : State) (kind f l) (hs : s.Canonical) :
    (State.allAtFrame s kind f l).1.Canonical := by
  fun_induction State.allAtFrame s kind f l <;> grind -ring -linarith -lia -order [State.atFrame_canonical]

theorem State.clearCovered_canonical (s : State) (f ps) (hs : s.Canonical) :
    (State.clearCovered s f ps).Canonical := by
  grind -ring -linarith -lia -order [State.clearCovered]

theorem State.serve_canonical (s : State) (q kind ps) (hs : s.Canonical) :
    (State.serve s q kind ps).1.Canonical := by
  fun_cases State.serve s q kind ps <;> grind -ring -linarith -lia -order [State.translate_canonical,
    State.reach_canonical, State.allAtFrame_canonical, State.clearCovered_canonical, State.logDenial_canonical,
    foldl_canonical, foldl_fst_canonical]

theorem State.inStash_canonical (s : State) (blk b kind p) (hs : s.Canonical) :
    (State.inStash s blk b kind p).1.Canonical := by
  fun_cases State.inStash s blk b kind p <;> grind -ring -linarith -lia -order [State.barriersTouched_canonical,
    State.putBlock_canonical]

theorem State.passThrough_canonical (s : State) (blk off n) (hs : s.Canonical) :
    (State.passThrough s blk off n).Canonical := by
  grind -ring -linarith -lia -order [State.passThrough, State.writeFrame_canonical, State.putBlock_canonical]

theorem State.clearStash_canonical (s : State) (blk b sectors) (hs : s.Canonical) :
    (State.clearStash s blk b sectors).Canonical := by
  grind -ring -linarith -lia -order [State.clearStash, State.putBlock_canonical]

theorem State.atStash_canonical (s : State) (blk q kind low p) (hs : s.Canonical) :
    (State.atStash s blk q kind low p).1.Canonical := by
  grind -ring -linarith -lia -order [State.atStash, State.fillLine_canonical, State.inStash_canonical,
    State.passThrough_canonical]

theorem State.stashPieces_canonical (s : State) (blk q kind all l l') (hs : s.Canonical) :
    (State.stashPieces s blk q kind all l l').1.Canonical := by
  fun_induction State.stashPieces s blk q kind all l l' <;> grind -ring -linarith -lia -order
    [State.atStash_canonical, foldl_canonical, foldl_fst_canonical]

theorem State.denyHits_canonical (s : State) (blk q ps) (hs : s.Canonical) :
    (State.denyHits s blk q ps).1.Canonical := by
  grind [State.denyHits, State.useHit_canonical, State.logDenial_canonical, foldl_canonical, foldl_fst_canonical]

theorem State.allAtStash_canonical (s : State) (blk q kind ps) (hs : s.Canonical) :
    (State.allAtStash s blk q kind ps).1.Canonical := by
  grind -ring -linarith -lia -order [State.allAtStash, State.askGrant_canonical, State.denyHits_canonical,
    State.stashPieces_canonical, State.clearStash_canonical, foldl_canonical, foldl_fst_canonical]

theorem State.sendPieces_canonical (s : State) (h q kind scope release ps) (hs : s.Canonical) :
    (State.sendPieces s h q kind scope release ps).1.Canonical := by
  grind -ring -linarith -lia -order [State.sendPieces, State.ask_canonical]

theorem State.sendEach_canonical (s : State) (h q kind scope release l) (hs : s.Canonical) :
    (State.sendEach s h q kind scope release l).1.Canonical := by
  fun_induction State.sendEach s h q kind scope release l <;> grind -ring -linarith -lia -order
    [State.sendPieces_canonical]

theorem State.hold_canonical (s : State) (h core ps) (hs : s.Canonical) :
    (State.hold s h core ps).1.Canonical := by
  grind -ring -linarith -lia -order [State.hold]

theorem State.serveHere_canonical (s : State) (q kind ps) (hs : s.Canonical) :
    (State.serveHere s q kind ps).1.Canonical := by
  grind -ring -linarith -lia -order [State.serveHere, State.serve_canonical]

theorem State.serveKeys_canonical (s : State) (h q kind scope release ps l) (hs : s.Canonical) :
    (State.serveKeys s h q kind scope release ps l).1.Canonical := by
  fun_induction State.serveKeys s h q kind scope release ps l <;> grind -ring -linarith -lia -order
    [State.serveHere_canonical, State.hold_canonical, State.sendEach_canonical, State.sendPieces_canonical]

theorem State.acquireSys_canonical (s : State) (g acquires scope) (hs : s.Canonical) :
    (State.acquireSys s g acquires scope).Canonical := by
  grind -ring -linarith -lia -order [State.acquireSys, State.discardHost_canonical]

theorem State.access_canonical (s : State) (h g kind log scope release ps) (hs : s.Canonical) :
    (State.access s h g kind log scope release ps).1.Canonical := by
  grind -ring -linarith -lia -order [State.access, State.freshGrants_canonical, State.acquireSys_canonical,
    State.allAtStash_canonical, State.hold_canonical, State.serveKeys_canonical]

theorem State.dropPoisonCopies_canonical (s : State) (blk ps) (hs : s.Canonical) :
    (State.dropPoisonCopies s blk ps).Canonical := by
  grind -ring -linarith -lia -order [State.dropPoisonCopies, State.putBlock_canonical, foldl_canonical,
    foldl_fst_canonical]

theorem State.parkFault_canonical (s : State) (h g slices places writes noWake) (hs : s.Canonical) :
    (State.parkFault s h g slices places writes noWake).Canonical := by
  grind -ring -linarith -lia -order [State.parkFault, State.putGroup_canonical]

theorem State.settleMem_canonical (s : State) (h o noWake) (hs : s.Canonical) :
    (State.settleMem s h o noWake).1.Canonical := by
  grind -ring -linarith -lia -order [State.settleMem, State.raise_canonical, State.dropPoisonCopies_canonical,
    State.putGroup_canonical, State.parkFault_canonical, State.repeatPassed_canonical, foldl_canonical,
    foldl_fst_canonical]

theorem State.afterAccess_yields {P : Prop} (s : State) (h o noWake) (k : MemOp → State → Group → Res) (hs : P →
  s.Canonical)
    (hk : ∀ o t g, (P → t.Canonical) → Yields P (k o t g)) : Yields P (s.afterAccess h o noWake k) := by
  grind -ring -linarith -lia -order [State.afterAccess, State.putGroup_canonical, State.settleMem_canonical,
    yields_next]

theorem State.runLanes_yields {P : Prop} (s : State) (h g o log scope release as) (k : MemOp → State → Group → Res)
  (hs : P → s.Canonical)
    (hk : ∀ o t g, (P → t.Canonical) → Yields P (k o t g)) : Yields P (s.runLanes h g o log scope release as k) :=
  State.afterAccess_yields _ _ _ _ _ (fun hp => State.access_canonical _ _ _ _ _ _ _ _ (hs hp)) hk

theorem State.memDone_yields {P : Prop} (h o) (s : State) (g) (hs : P → s.Canonical) :
    Yields P (State.memDone h o s g) := by
  grind -ring -linarith -lia -order [State.memDone, State.putGroup_canonical, yields_next]

theorem State.mismatch_canonical (s : State) (g lane) (hs : s.Canonical) :
    (State.mismatch s g lane).Canonical := by
  grind -ring -linarith -lia -order [State.mismatch, State.putGroup_canonical, State.halt_canonical]

theorem State.checkRun_yields {P : Prop} (s : State) (g o scalar align rights log scope release as) (k : MemOp → State
  → Group → Res) (hs : P → s.Canonical)
    (hk : ∀ o t g, (P → t.Canonical) → Yields P (k o t g)) : Yields P (s.checkRun g o scalar align rights log scope
      release as k) := by
  grind -ring -linarith -lia -order [State.checkRun, State.trapHere_yields, State.trapLanes_yields,
    State.mismatch_canonical, State.runLanes_yields, yields_next]

/-! ### Memory -/

theorem State.vecLoad_answers {P : Prop} (s : State) (y sext long w scope d a b) (hs : P → s.Canonical) :
    Answers P s (State.vecLoad s y sext long w scope d a b) := by
  grind -ring -linarith -lia -order [State.vecLoad, State.memDone_yields, State.issue_answers, State.need_yields,
    State.checkRun_yields, Answers]

theorem State.scalarLoad_answers {P : Prop} (s : State) (y sext w scope d a b) (hs : P → s.Canonical) :
    Answers P s (State.scalarLoad s y sext w scope d a b) := by
  grind -ring -linarith -lia -order [State.scalarLoad, State.memDone_yields, State.issue_answers,
    State.checkRun_yields, Answers]

theorem State.vecStore_answers {P : Prop} (s : State) (y long w scope release d a b) (hs : P → s.Canonical) :
    Answers P s (State.vecStore s y long w scope release d a b) := by
  grind -ring -linarith -lia -order [State.vecStore, State.memDone_yields, State.issue_answers, State.need_yields,
    State.checkRun_yields, Answers]

theorem State.atom_answers {P : Prop} (s : State) (y op t d fl sc c b) (hs : P → s.Canonical) :
    Answers P s (State.atom s y op t d fl sc c b) :=
  State.issue_answers _ _ fun g _ => State.need_yields _ _ _ _ hs
    (State.checkRun_yields _ _ _ _ _ _ _ _ _ _ _ (fun hp => State.acquireSys_canonical _ _ _ _ (hs hp))
      fun o t g ht => State.memDone_yields _ o t g ht)

theorem execLdx_answers {P : Prop} (y w d a b) (s : State) (hs : P → s.Canonical) :
    Answers P s (execLdx y w d a b s) := by
  grind -ring -linarith -lia -order [execLdx, State.retire_yields, State.putGroup_canonical, State.memDone_yields,
    State.issue_answers, State.need_yields, State.checkRun_yields, yields_next, Answers]

theorem execSstN_answers {P : Prop} (y w d a b) (s : State) (hs : P → s.Canonical) :
    Answers P s (execSstN y w d a b s) := by
  grind -ring -linarith -lia -order [execSstN, State.memDone_yields, State.issue_answers, State.checkRun_yields,
    Answers]

theorem execCld_answers {P : Prop} (y d a b) (s : State) (hs : P → s.Canonical) :
    Answers P s (execCld y d a b s) := by
  grind -ring -linarith -lia -order [execCld, State.memDone_yields, State.issue_answers, State.checkRun_yields,
    Answers]

theorem execCst_answers {P : Prop} (y d a b) (s : State) (hs : P → s.Canonical) :
    Answers P s (execCst y d a b s) := by
  grind -ring -linarith -lia -order [execCst, State.memDone_yields, State.issue_answers, State.checkRun_yields,
    Answers]

theorem State.prefetch_canonical (s : State) (g c off) (hs : s.Canonical) :
    (State.prefetch s g c off).Canonical := by
  grind -ring -linarith -lia -order [State.prefetch, State.refusePrefetch_canonical, State.translate_canonical,
    State.reach_canonical, State.fillLine_canonical]

theorem execPref_answers {P : Prop} (y a b) (s : State) (hs : P → s.Canonical) :
    Answers P s (execPref y a b s) := by
  grind -ring -linarith -lia -order [execPref, State.prefetch_canonical, State.retire_yields, State.issue_answers,
    State.need_yields, foldl_canonical, foldl_fst_canonical, Answers]

theorem State.fence_answers {P : Prop} (s : State) (y) (hs : P → s.Canonical) :
    Answers P s (State.fence s y) := by
  grind -ring -linarith -lia -order [State.fence, State.retire_yields, State.issue_answers, Answers]

theorem State.fenceSys_answers {P : Prop} (s : State) (y) (hs : P → s.Canonical) :
    Answers P s (State.fenceSys s y) := by
  grind -ring -linarith -lia -order [State.fenceSys, State.retire_yields, State.discardHost_canonical,
    State.issue_answers, Answers]

theorem State.waitRead_yields {P : Prop} (h o) (s : State) (g) (hs : P → s.Canonical) :
    Yields P (State.waitRead h o s g) := by
  grind -ring -linarith -lia -order [State.waitRead, State.putGroup_canonical, yields_next]

theorem execWait_answers {P : Prop} (n a b) (s : State) (hs : P → s.Canonical) :
    Answers P s (execWait n a b s) := by
  grind -ring -linarith -lia -order [execWait, State.trapHere_yields, State.waitRead_yields, State.issue_answers,
    State.switchFirst_yields, State.runLanes_yields, Answers]

/-! ### Cap -/

theorem State.derive_answers {P : Prop} (s : State) (y d a f) (hs : P → s.Canonical) :
    Answers P s (State.derive s y d a f) := by
  grind -ring -linarith -lia -order [State.derive, State.plain_answers, Answers]

theorem execSmap_answers {P : Prop} (y d a b) (s : State) (hs : P → s.Canonical) :
    Answers P s (execSmap y d a b s) := by
  grind -ring -linarith -lia -order [execSmap, State.trapHere_yields, State.putBlock_canonical, State.retire_yields,
    State.issue_answers, Answers]

theorem State.flushLines_canonical (s : State) (blk r q l) (hs : s.Canonical) :
    (State.flushLines s blk r q l).1.Canonical := by
  fun_induction State.flushLines s blk r q l <;> grind -ring -linarith -lia -order [State.flushLine_canonical]

theorem State.flushRegion_answers {P : Prop} (s : State) (y a after) (hs : P → s.Canonical) :
    Answers P s (State.flushRegion s y a after) := by
  fun_cases State.flushRegion s y a after <;> grind -ring -linarith -lia -order [State.trapHere_yields,
    State.raise_canonical, State.flushLines_canonical, State.retire_yields, State.putBlock_canonical,
    State.parkFault_canonical, State.issue_answers, yields_next, Answers]

/-! ### Barrier -/

theorem State.changeBarrier_canonical (s : State) (g k f) (hs : s.Canonical) :
    (State.changeBarrier s g k f).Canonical := by
  grind -ring -linarith -lia -order [State.changeBarrier, State.barrierUpdate_canonical, State.putBlock_canonical]

theorem State.barrierForm_answers {P : Prop} (s : State) (y a b f) (hs : P → s.Canonical) :
    Answers P s (State.barrierForm s y a b f) := by
  grind -ring -linarith -lia -order [State.barrierForm, State.trapHere_yields, State.changeBarrier_canonical,
    State.retire_yields, State.issue_answers, yields_next, Answers]

theorem State.barrierPark_yields {P : Prop} (s : State) (k p) (hs : P → s.Canonical) :
    Yields P (State.barrierPark s k p) := by
  grind -ring -linarith -lia -order [State.barrierPark, State.putGroup_canonical, State.retire_yields, yields_next]

theorem execBarWait_answers {P : Prop} (n a b) (s : State) (hs : P → s.Canonical) :
    Answers P s (execBarWait n a b s) := by
  grind -ring -linarith -lia -order [execBarWait, State.trapHere_yields, State.barrierPark_yields,
    State.issue_answers, State.switchFirst_yields, Answers]

theorem execBarArriveW_answers {P : Prop} (n a b) (s : State) (hs : P → s.Canonical) :
    Answers P s (execBarArriveW n a b s) := by
  grind -ring -linarith -lia -order [execBarArriveW, State.trapHere_yields, State.barrierPark_yields,
    State.changeBarrier_canonical, State.issue_answers, State.switchFirst_yields, Answers]

/-! ### Engine -/

theorem State.settleBatches_canonical (s : State) (h) (hs : s.Canonical) :
    (State.settleBatches s h).Canonical := by
  grind -ring -linarith -lia -order [State.settleBatches, State.putGroup_canonical]

theorem State.issueCommand_canonical (s : State) (h g c) (hs : s.Canonical) :
    (State.issueCommand s h g c).1.Canonical := by
  grind -ring -linarith -lia -order [State.issueCommand]

theorem State.issueIf_yields {P : Prop} (s : State) (g y c fin) (hs : P → s.Canonical) :
    Yields P (State.issueIf s g y c fin) := by
  grind -ring -linarith -lia -order [State.issueIf, State.issueCommand_canonical, State.retire_yields, yields_next]

theorem State.freeTiles_canonical (s : State) (k c) (hs : s.Canonical) :
    (State.freeTiles s k c).Canonical := by
  grind -ring -linarith -lia -order [State.freeTiles]

theorem State.makeCounts_canonical (s : State) (c) (hs : s.Canonical) :
    (State.makeCounts s c).1.Canonical := by
  grind -ring -linarith -lia -order [State.makeCounts, State.countBytes_canonical]

theorem State.completeCommand_canonical (s : State) (k c) (hs : s.Canonical) :
    (State.completeCommand s k c).Canonical := by
  grind -ring -linarith -lia -order [State.completeCommand, State.makeCounts_canonical, State.freeTiles_canonical,
    State.settleBatches_canonical, State.putGroup_canonical]

theorem State.putCommand_canonical (s : State) (k c) (hs : s.Canonical) :
    (State.putCommand s k c).Canonical := by
  grind -ring -linarith -lia -order [State.putCommand]

theorem State.readHere_canonical (s : State) (c p n) (hs : s.Canonical) :
    (State.readHere s c p n).1.Canonical := by
  grind -ring -linarith -lia -order [State.readHere, State.translate_canonical, State.reach_canonical,
    State.logDenial_canonical]

theorem State.readStash_canonical (s : State) (c p n) (hs : s.Canonical) :
    (State.readStash s c p n).1.Canonical := by
  fun_cases State.readStash s c p n <;> grind -ring -linarith -lia -order [State.fillLine_canonical]

theorem State.sendPiece_canonical (s : State) (k c p n pk) (hs : s.Canonical) :
    (State.sendPiece s k c p n pk).1.Canonical := by
  grind -ring -linarith -lia -order [State.sendPiece, State.ask_canonical]

theorem State.readPiece_canonical (s : State) (k c p0) (hs : s.Canonical) :
    (State.readPiece s k c p0).1.Canonical := by
  grind -ring -linarith -lia -order [State.readPiece, State.readStash_canonical, State.readHere_canonical,
    State.sendPiece_canonical]

theorem State.writeHere_canonical (s : State) (c p n) (hs : s.Canonical) :
    (State.writeHere s c p n).1.Canonical := by
  grind -ring -linarith -lia -order [State.writeHere, State.translate_canonical, State.reach_canonical,
    State.writeFrame_canonical, State.logDenial_canonical, Memory.wf_setAll, Memory.wf_clearRange, Memory.wf_filter]

theorem State.passWritten_canonical (s : State) (blk offs) (hs : s.Canonical) :
    (State.passWritten s blk offs).Canonical := by
  grind -ring -linarith -lia -order [State.passWritten, State.passThrough_canonical, foldl_canonical,
    foldl_fst_canonical]

theorem State.writeStash_canonical (s : State) (c p n) (hs : s.Canonical) :
    (State.writeStash s c p n).1.Canonical := by
  fun_cases State.writeStash s c p n <;> grind -ring -linarith -lia -order [State.fillLine_canonical,
    State.passWritten_canonical, State.barriersTouched_canonical, State.putBlock_canonical, Memory.wf_setAll,
    Memory.wf_clearRange, Memory.wf_filter]

theorem State.writePiece_canonical (s : State) (k c p0) (hs : s.Canonical) :
    (State.writePiece s k c p0).1.Canonical := by
  grind -ring -linarith -lia -order [State.writePiece, State.writeStash_canonical, State.writeHere_canonical,
    State.sendPiece_canonical]

theorem State.readStep_canonical (s : State) (k c p) (hs : s.Canonical) :
    (State.readStep s k c p).Canonical := by
  grind -ring -linarith -lia -order [State.readStep, State.readPiece_canonical, State.putCommand_canonical]

theorem State.writeStep_canonical (s : State) (k c p) (hs : s.Canonical) :
    (State.writeStep s k c p).Canonical := by
  grind -ring -linarith -lia -order [State.writeStep, State.putCommand_canonical, State.writePiece_canonical]

theorem State.signalStep_canonical (s : State) (k c sig) (hs : s.Canonical) :
    (State.signalStep s k c sig).Canonical := by
  grind -ring -linarith -lia -order [State.signalStep, State.putCommand_canonical, State.allAtStash_canonical,
    State.serve_canonical, State.sendPiece_canonical]

/-! ### Context -/

theorem State.takeFrame_canonical (s : State) (slice) (hs : s.Canonical) :
    (State.takeFrame s slice).1.Canonical := by
  grind -ring -linarith -lia -order [State.takeFrame]

theorem State.returnFrame_canonical (s : State) (f) (hs : s.Canonical) :
    (State.returnFrame s f).Canonical := by
  grind -ring -linarith -lia -order [State.returnFrame, MemState.clearFrame_canonical]

theorem State.mapPage_canonical (s : State) (o page) (hs : s.Canonical) :
    (State.mapPage s o page).1.Canonical := by
  grind -ring -linarith -lia -order [State.mapPage, State.takeFrame_canonical]

theorem State.mapPages_canonical (s : State) (o l) (hs : s.Canonical) :
    (State.mapPages s o l).1.Canonical := by
  fun_induction State.mapPages s o l <;> grind -ring -linarith -lia -order [State.mapPage_canonical]

theorem State.storeLines_canonical (s : State) (h g l) (hs : s.Canonical) :
    (State.storeLines s h g l).Canonical := by
  fun_induction State.storeLines s h g l <;> grind -ring -linarith -lia -order [State.translate_canonical,
    State.writeFrame_canonical, State.reach_canonical, State.logDenial_canonical, Memory.wf_setAll,
    Memory.wf_clearRange, Memory.wf_filter]

theorem State.readLine_canonical (s : State) (h g n) (hs : s.Canonical) :
    (State.readLine s h g n).1.Canonical := by
  grind -ring -linarith -lia -order [State.readLine, State.translate_canonical, State.reach_canonical,
    State.logDenial_canonical]

theorem State.recordPages_canonical (s : State) (h g l) (hs : s.Canonical) :
    (State.recordPages s h g l).1.Canonical := by
  induction l generalizing s with
  | nil => exact hs
  | cons e l ih =>
    simp only [State.recordPages]
    split
    · exact ih s hs
    · next hsome => exact ih _ (State.recordFault_canonical s _ _ _ _ hs hsome)

theorem State.faultContext_canonical (s : State) (h g pages slices) (hs : s.Canonical) :
    (State.faultContext s h g pages slices).Canonical := by
  grind -ring -linarith -lia -order [State.faultContext, State.recordPages_canonical, State.putGroup_canonical]

theorem State.mayStore_canonical (s : State) (h g lines) (hs : s.Canonical)
    {u} (hu : State.mayStore s h g lines = some u) : u.Canonical := by
  grind -ring -linarith -lia -order [State.mayStore, State.faultContext_canonical]

theorem State.storeHeader_canonical (s : State) (h g) (hs : s.Canonical) :
    (State.storeHeader s h g).Canonical := by
  grind -ring -linarith -lia -order [State.storeHeader, State.putGroup_canonical, State.storeLines_canonical]

theorem State.syncHeaders_canonical (s : State) (hs : s.Canonical) :
    (State.syncHeaders s).Canonical := by
  grind -ring -linarith -lia -order [State.syncHeaders, State.storeHeader_canonical, foldl_canonical,
    foldl_fst_canonical]

theorem State.createContext_canonical (s : State) (die g) (hs : s.Canonical) :
    (State.createContext s die g).1.Canonical := by
  grind -ring -linarith -lia -order [State.createContext, State.takeFrame_canonical, State.putGroup_canonical,
    State.mapPages_canonical, State.storeLines_canonical]

theorem State.freeContext_canonical (s : State) (h) (hs : s.Canonical) :
    (State.freeContext s h).Canonical := by
  grind -ring -linarith -lia -order [State.freeContext, State.returnFrame_canonical, foldl_canonical,
    foldl_fst_canonical]

theorem State.takeLines_canonical (s : State) (h g n) (hs : s.Canonical)
    {u} (hu : State.takeLines s h g n = some u) : u.Canonical := by
  grind -ring -linarith -lia -order [State.takeLines]

theorem State.fillCtxLine_canonical (h) (a : State × Group × List (ℕ × BitVec 8)) (n) (ha : a.1.Canonical) :
    (State.fillCtxLine h a n).1.Canonical := by
  grind -ring -linarith -lia -order [State.fillCtxLine, State.readLine_canonical]

theorem State.leaveCore_canonical (s : State) (h g st) (hs : s.Canonical) :
    (State.leaveCore s h g st).1.Canonical := by
  grind -ring -linarith -lia -order [State.leaveCore, State.mayStore_canonical, State.storeLines_canonical,
    State.putGroup_canonical]

theorem State.evict_canonical (s : State) (h) (hs : s.Canonical) :
    (State.evict s h).1.Canonical := by
  grind -ring -linarith -lia -order [State.evict, State.leaveCore_canonical]

theorem State.lateTiles_canonical (s : State) (h) (hs : s.Canonical) :
    (State.lateTiles s h).Canonical := by
  grind -ring -linarith -lia -order [State.lateTiles, State.mayStore_canonical, State.putGroup_canonical,
    State.storeLines_canonical]

theorem State.restoreTiles_canonical (s : State) (h g) (hs : s.Canonical) :
    (State.restoreTiles s h g).1.Canonical := by
  grind -ring -linarith -lia -order [State.restoreTiles, foldl_canonical, foldl_fst_canonical]

theorem State.activate_canonical (s : State) (h p) (hs : s.Canonical) :
    (State.activate s h p).Canonical := by
  grind -ring -linarith -lia -order [State.activate, State.restoreTiles_canonical, State.putGroup_canonical]

theorem State.activateFirst_canonical (s : State) (core l) (hs : s.Canonical) :
    (State.activateFirst s core l).Canonical := by
  fun_induction State.activateFirst s core l <;> grind -ring -linarith -lia -order [State.activate_canonical,
    State.evict_canonical]

theorem execActivation_yields {P : Prop} (core) (s : State) (hs : P → s.Canonical) :
    Yields P (execActivation core s) := by
  grind -ring -linarith -lia -order [execActivation, State.activateFirst_canonical, yields_next]

theorem State.spillLinesOut_canonical (s : State) (h lines) (hs : s.Canonical) :
    (State.spillLinesOut s h lines).Canonical := by
  grind -ring -linarith -lia -order [State.spillLinesOut, State.mayStore_canonical, State.putGroup_canonical,
    State.storeLines_canonical]

theorem State.spillOut_canonical (s : State) (core n) (hs : s.Canonical) :
    (State.spillOut s core n).Canonical := by
  grind -ring -linarith -lia -order [State.spillOut, State.spillLinesOut_canonical, foldl_canonical,
    foldl_fst_canonical]

theorem State.reclaim_canonical (s : State) (v) (hs : s.Canonical) :
    (State.reclaim s v).Canonical := by
  grind -ring -linarith -lia -order [State.reclaim, State.putGroup_canonical, State.spillOut_canonical,
    foldl_canonical, foldl_fst_canonical]

theorem State.claim_canonical (s : State) (h) (hs : s.Canonical) :
    (State.claim s h).Canonical := by
  grind -ring -linarith -lia -order [State.claim, State.mayStore_canonical, State.putGroup_canonical,
    State.storeLines_canonical]

theorem State.makeRoom_canonical (s : State) (h core) (hs : s.Canonical)
    {u} (hu : State.makeRoom s h core = some u) : u.Canonical := by
  unfold State.makeRoom at hu
  split at hu
  · exact Option.some.inj hu ▸ State.claim_canonical _ _ hs
  · obtain ⟨k, -, rfl⟩ := Option.map_eq_some_iff.mp hu
    exact State.reclaim_canonical _ _ hs

theorem State.badLines_canonical (s : State) (h slices bad) (hs : s.Canonical) :
    (State.badLines s h slices bad).Canonical := by
  grind -ring -linarith -lia -order [State.badLines, State.raise_canonical, State.putGroup_canonical, foldl_canonical,
    foldl_fst_canonical]

theorem State.fillNow_canonical (s : State) (h g) (hs : s.Canonical) :
    (State.fillNow s h g).Canonical := by
  grind -ring -linarith -lia -order [State.fillNow, State.fillCtxLine_canonical, State.repeatPassed_canonical,
    State.badLines_canonical, State.putGroup_canonical, foldl_canonical, foldl_fst_canonical]

theorem execRegisterFill_yields {P : Prop} (grp) (s : State) (hs : P → s.Canonical) :
    Yields P (execRegisterFill grp s) := by
  grind -ring -linarith -lia -order [execRegisterFill, State.makeRoom_canonical, State.takeLines_canonical,
    State.fillNow_canonical, yields_next]

theorem execContextFault_yields {P : Prop} (grp stage) (s : State) (hs : P → s.Canonical) :
    Yields P (execContextFault grp stage s) := by
  grind -ring -linarith -lia -order [execContextFault, State.faultContext_canonical, State.mapPages_canonical,
    State.putGroup_canonical, State.halt_canonical, yields_next]

theorem State.drainGang_canonical (s : State) (h i) (hs : s.Canonical) :
    (State.drainGang s h i).Canonical := by
  grind -ring -linarith -lia -order [State.drainGang, State.putGroup_canonical, State.deliver_canonical]

theorem State.drain_canonical (s : State) (h) (hs : s.Canonical) :
    (State.drain s h).Canonical := by
  grind -ring -linarith -lia -order [State.drain, State.drainGang_canonical, foldl_canonical, foldl_fst_canonical]

theorem execYieldc_answers {P : Prop} (y) (s : State) (hs : P → s.Canonical) :
    Answers P s (execYieldc y s) := by
  fun_cases execYieldc y s <;> grind -ring -linarith -lia -order [State.retire_yields, State.drain_canonical,
    State.putGroup_canonical, State.leaveCore_canonical, State.activateFirst_canonical, State.issue_answers,
    yields_next, Answers]

/-! ### Convert -/

theorem State.sfu_answers {P : Prop} (s : State) (y d a f) (hs : P → s.Canonical) :
    Answers P s (State.sfu s y d a f) := by
  grind -ring -linarith -lia -order [State.sfu, State.pendLanes_answers, Answers]

theorem State.half_answers {P : Prop} (s : State) (y t d a b f) (hs : P → s.Canonical) :
    Answers P s (State.half s y t d a b f) := by
  grind -ring -linarith -lia -order [State.half, State.vecFlags_answers, Answers]

theorem execFcvt_answers {P : Prop} (y t d a n q c) (s : State) (hs : P → s.Canonical) :
    Answers P s (execFcvt y t d a n q c s) := by
  grind -ring -linarith -lia -order [execFcvt, State.pendLanes_answers, Answers]

/-! ### SmallMatrix -/

theorem State.smu_answers {P : Prop} (s : State) (y ok f) (hs : P → s.Canonical) :
    Answers P s (State.smu s y ok f) := by
  grind -ring -linarith -lia -order [State.smu, State.plain_answers, Answers]

theorem execXld_answers {P : Prop} (y f d a b) (s : State) (hs : P → s.Canonical) :
    Answers P s (execXld y f d a b s) := by
  grind -ring -linarith -lia -order [execXld, State.memDone_yields, State.issue_answers, State.need_yields,
    State.checkRun_yields, Answers]

theorem execXst_answers {P : Prop} (y f d a b) (s : State) (hs : P → s.Canonical) :
    Answers P s (execXst y f d a b s) := by
  grind -ring -linarith -lia -order [execXst, State.memDone_yields, State.issue_answers, State.need_yields,
    State.checkRun_yields, foldl_canonical, foldl_fst_canonical, Answers]

theorem State.smu3_answers {P : Prop} (s : State) (y f d a b k) (hs : P → s.Canonical) :
    Answers P s (State.smu3 s y f d a b k) := by
  grind -ring -linarith -lia -order [State.smu3, State.smu_answers, Answers]

theorem State.xElementwise_answers {P : Prop} (s : State) (y f d a b op) (hs : P → s.Canonical) :
    Answers P s (State.xElementwise s y f d a b op) := by
  grind -ring -linarith -lia -order [State.xElementwise, State.smu3_answers, Answers]

theorem execXlup_answers {P : Prop} (y f d a) (s : State) (hs : P → s.Canonical) :
    Answers P s (execXlup y f d a s) := by
  grind -ring -linarith -lia -order [execXlup, State.smu_answers, Answers]

/-! ### Matrix -/

theorem State.withFormat_yields {P : Prop} (s : State) (g n) (k : W32 → Res) (hs : P → s.Canonical) (hk : ∀ w, Yields
  P (k w)) : Yields P (s.withFormat g n k) := by
  grind -ring -linarith -lia -order [State.withFormat, State.trapHere_yields, State.need_yields]

theorem State.writeTile_canonical (s : State) (core w) (hs : s.Canonical) :
    (State.writeTile s core w).Canonical := by
  grind -ring -linarith -lia -order [State.writeTile]

theorem State.bindTile_canonical (s : State) (h g a) (hs : s.Canonical)
    {u} (hu : State.bindTile s h g a = some u) : u.1.Canonical := by
  grind -ring -linarith -lia -order [State.bindTile]

theorem State.bindTiles_canonical (s : State) (h g l) (hs : s.Canonical)
    {u} (hu : State.bindTiles s h g l = some u) : u.1.Canonical := by
  induction l generalizing s g u with
  | nil => exact Option.some.inj hu ▸ hs
  | cons a l ih =>
    simp only [State.bindTiles] at hu
    split at hu
    · contradiction
    · next hone =>
      obtain ⟨v, hv, rfl⟩ := Option.map_eq_some_iff.mp hu
      have hv1 : v.1.Canonical := ih _ _ (State.bindTile_canonical s h g a hs hone) hv
      exact hv1

theorem State.touchLines_canonical (s : State) (c l l') (hs : s.Canonical) :
    (State.touchLines s c l l').1.Canonical := by
  fun_induction State.touchLines s c l l' <;> grind -ring -linarith -lia -order [State.fillLine_canonical]

theorem State.mulStep_canonical (s : State) (c t w m n k zf a b) (hs : s.Canonical) :
    (State.mulStep s c t w m n k zf a b).1.Canonical := by
  grind -ring -linarith -lia -order [State.mulStep, State.touchLines_canonical, State.writeTile_canonical]

theorem State.mxLoad_canonical (s : State) (c t w m n) (hs : s.Canonical) :
    (State.mxLoad s c t w m n).1.Canonical := by
  grind -ring -linarith -lia -order [State.mxLoad, State.writeTile_canonical, foldl_canonical, foldl_fst_canonical]

theorem State.mxMove_canonical (s : State) (k c) (hs : s.Canonical) :
    (State.mxMove s k c).Canonical := by
  grind -ring -linarith -lia -order [State.mxMove, State.readStep_canonical, State.writeStep_canonical,
    State.completeCommand_canonical, State.putCommand_canonical, State.writeTile_canonical, State.mulStep_canonical,
    State.mxLoad_canonical]

theorem State.mxIssue_yields {P : Prop} (s : State) (h g slices pc y handles unbind mk) (hs : P → s.Canonical) :
    Yields P (State.mxIssue s h g slices pc y handles unbind mk) := by
  unfold State.mxIssue
  split
  · exact yields_next hs
  · split
    · refine yields_next fun hp => ?_
      split
      · exact hs hp
      · exact State.evict_canonical _ _ (hs hp)
    · next hbound =>
      exact yields_next fun hp => State.putGroup_canonical _ _ _
        (State.issueCommand_canonical _ _ _ _ (State.bindTiles_canonical s h g handles (hs hp) hbound))

theorem State.mxMul_answers {P : Prop} (s : State) (y d a b regs) (hs : P → s.Canonical) :
    Answers P s (State.mxMul s y d a b regs) := by
  fun_cases State.mxMul s y d a b regs <;> grind -ring -linarith -lia -order [State.trapHere_yields,
    State.mxIssue_yields, State.issue_answers, State.need_yields, State.withFormat_yields, Answers]

theorem execMxza_answers {P : Prop} (y d) (s : State) (hs : P → s.Canonical) :
    Answers P s (execMxza y d s) := by
  grind -ring -linarith -lia -order [execMxza, State.mxIssue_yields, State.issue_answers, State.need_yields, Answers]

theorem execMxlda_answers {P : Prop} (y d a b) (s : State) (hs : P → s.Canonical) :
    Answers P s (execMxlda y d a b s) := by
  grind -ring -linarith -lia -order [execMxlda, State.trapHere_yields, State.mxIssue_yields, State.issue_answers,
    State.need_yields, State.withFormat_yields, Answers]

theorem execMxst_answers {P : Prop} (y d a b) (s : State) (hs : P → s.Canonical) :
    Answers P s (execMxst y d a b s) := by
  grind -ring -linarith -lia -order [execMxst, State.trapHere_yields, State.mxIssue_yields, State.issue_answers,
    State.need_yields, State.withFormat_yields, Answers]

theorem State.trapAt_yields {P : Prop} (s : State) (h g o c) (hs : P → s.Canonical) :
    Yields P (State.trapAt s h g o c) := by
  grind -ring -linarith -lia -order [State.trapAt, State.raise_canonical, yields_next]

theorem State.jobRead_yields {P : Prop} (h o) (s : State) (g) (hs : P → s.Canonical) :
    Yields P (State.jobRead h o s g) := by
  have htrap (c : Cause) : Yields P (s.trapAt h g o c) := State.trapAt_yields s h g o c hs
  have hissue (hs' ub mk) : Yields P (s.mxIssue h g o.slices o.pc o.y hs' ub mk) := State.mxIssue_yields _ _ _ _ _ _ _
    _ _ hs
  unfold State.jobRead
  simp only
  split
  · exact htrap _
  · split
    · exact yields_ite (htrap _) (yields_ite (hissue _ _ _) (yields_ite (htrap _) (yields_ite (htrap _) (hissue _ _
      _))))
    · exact htrap _

theorem execMxjob_answers {P : Prop} (y d a b) (s : State) (hs : P → s.Canonical) :
    Answers P s (execMxjob y d a b s) := by
  grind -ring -linarith -lia -order [execMxjob, State.trapHere_yields, State.jobRead_yields, State.issue_answers,
    State.need_yields, State.withFormat_yields, State.runLanes_yields, Answers]

/-! ### Dispatcher -/

theorem State.keepImage_canonical (s : State) (r) (hs : s.Canonical) :
    (State.keepImage s r).Canonical := by
  grind -ring -linarith -lia -order [State.keepImage]

theorem State.dropImage_canonical (s : State) (kernel ctx) (hs : s.Canonical) :
    (State.dropImage s kernel ctx).Canonical := by
  grind -ring -linarith -lia -order [State.dropImage]

theorem State.imagePage_canonical (s : State) (kernel ctx off n) (hs : s.Canonical) :
    (State.imagePage s kernel ctx off n).1.Canonical := by
  grind -ring -linarith -lia -order [State.imagePage, State.translate_canonical, State.reach_canonical,
    State.logDenial_canonical, State.keepImage_canonical]

theorem State.imagePages_canonical (s : State) (kernel ctx l) (hs : s.Canonical) :
    (State.imagePages s kernel ctx l).1.Canonical := by
  fun_induction State.imagePages s kernel ctx l <;> grind -ring -linarith -lia -order [State.imagePage_canonical]

theorem State.imageHere_canonical (s : State) (kernel ctx) (hs : s.Canonical) :
    (State.imageHere s kernel ctx).1.Canonical := by
  grind -ring -linarith -lia -order [State.imageHere, State.imagePage_canonical, State.imagePages_canonical]

theorem State.imageThere_canonical (s : State) (r off n) (hs : s.Canonical) :
    (State.imageThere s r off n).1.Canonical := by
  grind -ring -linarith -lia -order [State.imageThere, State.ask_canonical, State.keepImage_canonical]

theorem State.askImage_canonical (s : State) (kernel ctx) (hs : s.Canonical) :
    (State.askImage s kernel ctx).1.Canonical := by
  grind -ring -linarith -lia -order [State.askImage, State.imageHere_canonical, State.imageThere_canonical]

theorem State.imageRest_canonical (s : State) (r) (hs : s.Canonical) :
    (State.imageRest s r).1.Canonical := by
  unfold State.imageRest
  simp only
  split
  · exact hs
  · split
    · exact hs
    · exact State.imageThere_canonical _ _ _ _ hs

theorem State.image_canonical (s : State) (kernel ctx) (hs : s.Canonical) :
    (State.image s kernel ctx).1.Canonical := by
  grind -ring -linarith -lia -order [State.image, State.dropImage_canonical, State.imageRest_canonical,
    State.askImage_canonical]

theorem State.dropItem_canonical (s : State) (i) (hs : s.Canonical) :
    (State.dropItem s i).Canonical := by
  grind -ring -linarith -lia -order [State.dropItem]

theorem State.dropGridItems_canonical (s : State) (grid) (hs : s.Canonical) :
    (State.dropGridItems s grid).Canonical := by
  grind -ring -linarith -lia -order [State.dropGridItems]

theorem State.rotate_canonical (s : State) (part core) (hs : s.Canonical) :
    (State.rotate s part core).Canonical := by
  grind -ring -linarith -lia -order [State.rotate]

theorem State.pages_canonical (s : State) (core f) (hs : s.Canonical) :
    (State.pages s core f).Canonical := by
  grind -ring -linarith -lia -order [State.pages]

theorem State.makeGroups_canonical (s : State) (k row item blk core l) (hs : s.Canonical) :
    (State.makeGroups s k row item blk core l).1.Canonical := by
  fun_induction State.makeGroups s k row item blk core l <;> grind -ring -linarith -lia -order
    [State.createContext_canonical]

theorem State.startBlock_canonical (s : State) (k row item part core) (hs : s.Canonical) :
    (State.startBlock s k row item part core).Canonical := by
  grind -ring -linarith -lia -order [State.startBlock, State.pages_canonical, State.rotate_canonical,
    State.makeGroups_canonical, State.putBlock_canonical]

theorem State.wakeBlock_canonical (s : State) (blk b part core) (hs : s.Canonical) :
    (State.wakeBlock s blk b part core).Canonical := by
  grind -ring -linarith -lia -order [State.wakeBlock, State.pages_canonical, State.rotate_canonical,
    State.putBlock_canonical, State.putGroup_canonical, foldl_canonical, foldl_fst_canonical]

theorem execBlockStart_yields {P : Prop} (part) (s : State) (hs : P → s.Canonical) :
    Yields P (execBlockStart part s) := by
  fun_cases execBlockStart part s <;> grind -ring -linarith -lia -order [State.dropItem_canonical,
    State.wakeBlock_canonical, State.image_canonical, State.postFault_canonical, State.dropGridItems_canonical,
    State.startBlock_canonical, State.discardHost_canonical, yields_next]

theorem State.rowEvents_canonical (s : State) (grid nominal) (hs : s.Canonical) :
    (State.rowEvents s grid nominal).Canonical := by
  grind -ring -linarith -lia -order [State.rowEvents, State.post_canonical]

theorem State.releaseBlock_canonical (s : State) (blk) (hs : s.Canonical) :
    (State.releaseBlock s blk).Canonical := by
  grind -ring -linarith -lia -order [State.releaseBlock, State.putBlock_canonical]

theorem State.dropGroup_canonical (s : State) (h) (hs : s.Canonical) :
    (State.dropGroup s h).Canonical := by
  grind -ring -linarith -lia -order [State.dropGroup, State.freeContext_canonical]

theorem State.flushRegions_canonical (s : State) (blk) (hs : s.Canonical) :
    (State.flushRegions s blk).1.Canonical := by
  grind -ring -linarith -lia -order [State.flushRegions, State.flushLine_canonical, foldl_canonical,
    foldl_fst_canonical]

theorem State.removeBlock_canonical (s : State) (blk b) (hs : s.Canonical) :
    (State.removeBlock s blk b).Canonical := by
  grind -ring -linarith -lia -order [State.removeBlock, State.dropGroup_canonical, State.pages_canonical,
    foldl_canonical, foldl_fst_canonical]

theorem execBlockEnd_yields {P : Prop} (blk) (s : State) (hs : P → s.Canonical) :
    Yields P (execBlockEnd blk s) := by
  grind -ring -linarith -lia -order [execBlockEnd, State.flushRegions_canonical, State.releaseBlock_canonical,
    State.removeBlock_canonical, State.rowEvents_canonical, yields_next]

theorem State.dropUnsent_canonical (s : State) (c) (hs : s.Canonical) :
    (State.dropUnsent s c).Canonical := by
  grind -ring -linarith -lia -order [State.dropUnsent]

theorem State.dropCommands_canonical (s : State) (blk) (hs : s.Canonical) :
    (State.dropCommands s blk).Canonical := by
  grind -ring -linarith -lia -order [State.dropCommands, State.dropUnsent_canonical, foldl_canonical,
    foldl_fst_canonical]

theorem State.abortBlock_canonical (s : State) (blk) (hs : s.Canonical) :
    (State.abortBlock s blk).Canonical := by
  grind -ring -linarith -lia -order [State.abortBlock, State.removeBlock_canonical, State.dropCommands_canonical]

theorem State.loseTaskWork_canonical (s : State) (hs : s.Canonical) :
    (State.loseTaskWork s).Canonical := by
  grind -ring -linarith -lia -order [State.loseTaskWork, State.dropGroup_canonical, foldl_canonical,
    foldl_fst_canonical]

theorem State.abortLost_canonical (s : State) (old) (hs : s.Canonical) :
    (State.abortLost s old).Canonical := by
  grind -ring -linarith -lia -order [State.abortLost, State.abortBlock_canonical, State.loseTaskWork_canonical,
    foldl_canonical, foldl_fst_canonical]

theorem State.enact_canonical (s : State) (old) (hs : s.Canonical) :
    (State.enact s old).Canonical := by
  grind -ring -linarith -lia -order [State.enact, foldl_canonical, foldl_fst_canonical]

theorem State.trackParks_canonical (s : State) (hs : s.Canonical) :
    (State.trackParks s).Canonical := by
  grind -ring -linarith -lia -order [State.trackParks, State.putBlock_canonical, foldl_canonical, foldl_fst_canonical]

theorem State.saveGroup_canonical (s : State) (h stay) (hs : s.Canonical) :
    (State.saveGroup s h stay).1.Canonical := by
  grind -ring -linarith -lia -order [State.saveGroup, State.mayStore_canonical, State.storeLines_canonical,
    State.putGroup_canonical, State.leaveCore_canonical, State.storeHeader_canonical]

theorem execDormancy_yields {P : Prop} (blk) (s : State) (hs : P → s.Canonical) :
    Yields P (execDormancy blk s) := by
  unfold execDormancy
  split
  · exact yields_next hs
  · refine yields_ite (yields_next hs) ?_
    split
    · next hstore =>
      obtain ⟨e, -, he⟩ := List.exists_of_findSome?_eq_some hstore
      exact yields_next fun hp => State.mayStore_canonical s _ _ _ (hs hp) he
    · have hflush := fun hp => State.flushRegions_canonical s blk (hs hp)
      generalize s.flushRegions blk = r at hflush
      obtain ⟨t, done⟩ := r
      cases done
      · exact yields_next hflush
      · exact yields_next fun hp => State.post_canonical _ _ (State.putBlock_canonical _ _ _ (State.pages_canonical _
        _ _
          (foldl_canonical _ (fun t e ht => State.saveGroup_canonical t _ _ ht) _ _ (hflush hp))))

theorem State.wakeDormant_canonical (s : State) (blk) (hs : s.Canonical) :
    (State.wakeDormant s blk).Canonical := by
  grind -ring -linarith -lia -order [State.wakeDormant, State.putBlock_canonical, State.post_canonical]

theorem State.appliedBlock_canonical (s : State) (r) (hs : s.Canonical) :
    (State.appliedBlock s r).Canonical := by
  grind -ring -linarith -lia -order [State.appliedBlock, State.post_canonical, State.putBlock_canonical]

theorem State.wakePosts_canonical (s : State) (hs : s.Canonical) :
    (State.wakePosts s).Canonical := by
  grind -ring -linarith -lia -order [State.wakePosts, State.putGroup_canonical, foldl_canonical, foldl_fst_canonical]

theorem State.setTasks_canonical (s : State) (core q) (hs : s.Canonical) :
    (State.setTasks s core q).Canonical := by
  grind -ring -linarith -lia -order [State.setTasks]

theorem State.startTask_canonical (s : State) (core k r n) (hs : s.Canonical) :
    (State.startTask s core k r n).Canonical := by
  grind -ring -linarith -lia -order [State.startTask, State.createContext_canonical, State.wakePosts_canonical,
    State.setTasks_canonical]

theorem State.refuseTask_canonical (s : State) (core r) (hs : s.Canonical) :
    (State.refuseTask s core r).Canonical := by
  grind -ring -linarith -lia -order [State.refuseTask, State.wakePosts_canonical, State.setTasks_canonical,
    State.contain_canonical]

theorem State.formTask_canonical (s : State) (core l) (hs : s.Canonical) :
    (State.formTask s core l).Canonical := by
  fun_induction State.formTask s core l <;> grind -ring -linarith -lia -order [State.image_canonical,
    State.refuseTask_canonical, State.startTask_canonical]

theorem State.dropTasks_canonical (s : State) (hs : s.Canonical) :
    (State.dropTasks s).Canonical := by
  grind -ring -linarith -lia -order [State.dropTasks, State.dropGroup_canonical, foldl_canonical, foldl_fst_canonical]

/-! ### Engines -/

theorem State.tested_yields {P : Prop} (s : State) (g sig fail ok) (k : Res) (hs : P → s.Canonical) (hk : Yields P k)
  : Yields P (s.tested g sig fail ok k) := by
  have htrap (c : Cause) : Yields P (s.trapHere g c) := State.trapHere_yields s g c hs
  unfold State.tested
  refine yields_ite (htrap _) ?_
  split
  · exact htrap _
  · exact yields_ite hk (htrap _)

theorem State.copy_answers {P : Prop} (s : State) (y remote d a b) (hs : P → s.Canonical) :
    Answers P s (State.copy s y remote d a b) := by
  grind -ring -linarith -lia -order [State.copy, State.issueIf_yields, State.issue_answers, State.need_yields,
    State.tested_yields, Answers]

theorem execColl_answers {P : Prop} (y d a b) (s : State) (hs : P → s.Canonical) :
    Answers P s (execColl y d a b s) := by
  grind -ring -linarith -lia -order [execColl, State.issueIf_yields, State.issue_answers, State.need_yields,
    State.tested_yields, Answers]

theorem execPub_answers {P : Prop} (y a) (s : State) (hs : P → s.Canonical) :
    Answers P s (execPub y a s) := by
  grind -ring -linarith -lia -order [execPub, State.issueIf_yields, State.issue_answers, State.tested_yields, Answers]

theorem execNsend_answers {P : Prop} (y a b) (s : State) (hs : P → s.Canonical) :
    Answers P s (execNsend y a b s) := by
  grind -ring -linarith -lia -order [execNsend, State.issueIf_yields, State.issue_answers, State.need_yields,
    State.tested_yields, Answers]

theorem execBclose_answers {P : Prop} (y d) (s : State) (hs : P → s.Canonical) :
    Answers P s (execBclose y d s) := by
  grind -ring -linarith -lia -order [execBclose, State.settleBatches_canonical, State.putGroup_canonical,
    State.issue_answers, yields_next, Answers]

theorem execWaitb_answers {P : Prop} (n a) (s : State) (hs : P → s.Canonical) :
    Answers P s (execWaitb n a s) := by
  grind -ring -linarith -lia -order [execWaitb, State.trapHere_yields, State.retire_yields, State.putGroup_canonical,
    State.issue_answers, State.switchFirst_yields, yields_next, Answers]

theorem execArm_answers {P : Prop} (y d a b) (s : State) (hs : P → s.Canonical) :
    Answers P s (execArm y d a b s) := by
  grind -ring -linarith -lia -order [execArm, State.retire_yields, State.issue_answers, State.need_yields,
    State.tested_yields, Answers]

theorem State.queueTask_canonical (s : State) (core r) (hs : s.Canonical)
    {u} (hu : State.queueTask s core r = some u) : u.Canonical := by
  grind -ring -linarith -lia -order [State.queueTask, State.setTasks_canonical]

theorem State.postOne_canonical (s : State) (g r) (hs : s.Canonical)
    {u} (hu : State.postOne s g r = some u) : u.Canonical := by
  grind -ring -linarith -lia -order [State.postOne, State.queueTask_canonical, State.noPlaneRecord_canonical,
    State.takePlane_canonical, State.pump_canonical]

theorem State.postAll_canonical (s : State) (g l) (hs : s.Canonical)
    {u} (hu : State.postAll s g l = some u) : u.Canonical := by
  induction l generalizing s with
  | nil => exact Option.some.inj hu ▸ hs
  | cons r l ih =>
    obtain ⟨t, ht, hu⟩ := Option.bind_eq_some_iff.mp hu
    exact ih t (State.postOne_canonical s g r hs ht) hu

theorem execPost_answers {P : Prop} (y d a b) (s : State) (hs : P → s.Canonical) :
    Answers P s (execPost y d a b s) := by
  grind -ring -linarith -lia -order [execPost, State.trapHere_yields, State.trapLanes_yields, State.postAll_canonical,
    State.retire_yields, State.putGroup_canonical, State.issue_answers, State.need_yields, yields_next, Answers]

theorem execLaunch_answers {P : Prop} (y d b) (s : State) (hs : P → s.Canonical) :
    Answers P s (execLaunch y d b s) := by
  refine State.issue_answers _ _ fun g _ => State.need_yields _ _ _ _ hs ?_
  simp only
  split
  · exact State.trapHere_yields _ _ _ hs
  · split
    · exact yields_next hs
    · split
      · exact State.issueIf_yields _ _ _ _ _ fun hp => State.post_canonical _ _ (hs hp)
      · exact State.issueIf_yields _ _ _ _ _ hs

theorem execGate_answers {P : Prop} (n) (s : State) (hs : P → s.Canonical) :
    Answers P s (execGate n s) := by
  grind -ring -linarith -lia -order [execGate, State.putGroup_canonical, State.freeSlot_canonical,
    State.retire_yields, State.issue_answers, State.switchFirst_yields, yields_next, Answers]

theorem execRlse_answers {P : Prop} (y) (s : State) (hs : P → s.Canonical) :
    Answers P s (execRlse y s) := by
  grind -ring -linarith -lia -order [execRlse, State.retire_yields, State.rowEvents_canonical,
    State.releaseBlock_canonical, State.issue_answers, Answers]

theorem State.sendOut_canonical (s : State) (k c pos len p) (hs : s.Canonical) :
    (State.sendOut s k c pos len p).1.Canonical := by
  grind -ring -linarith -lia -order [State.sendOut, State.newTag_canonical, State.emitLoose_canonical]

theorem State.sendReduce_canonical (s : State) (k c id len oper etype contributors timeout) (hs : s.Canonical) :
    (State.sendReduce s k c id len oper etype contributors timeout).Canonical := by
  grind -ring -linarith -lia -order [State.sendReduce, State.sendOut_canonical, State.putCommand_canonical,
    foldl_canonical, foldl_fst_canonical]

theorem State.sendMcast_canonical (s : State) (k c grp object p) (hs : s.Canonical) :
    (State.sendMcast s k c grp object p).Canonical := by
  grind -ring -linarith -lia -order [State.sendMcast, State.putCommand_canonical, State.sendOut_canonical]

theorem State.leaveMigration_canonical (s : State) (o page w) (hs : s.Canonical) :
    (State.leaveMigration s o page w).Canonical := by
  grind -ring -linarith -lia -order [State.leaveMigration]

theorem State.tableAt_canonical (s : State) (o ptr) (hs : s.Canonical) :
    (State.tableAt s o ptr).1.Canonical := by
  grind -ring -linarith -lia -order [State.tableAt, State.takeFrame_canonical]

theorem State.setEntry_canonical (s : State) (key w) (hs : s.Canonical) :
    (State.setEntry s key w).Canonical := by
  grind -ring -linarith -lia -order [State.setEntry]

theorem State.installLeaf_canonical (s : State) (o page shadow w) (hs : s.Canonical) :
    (State.installLeaf s o page shadow w).1.Canonical := by
  grind -ring -linarith -lia -order [State.installLeaf, State.tableAt_canonical, State.setEntry_canonical,
    State.leaveMigration_canonical]

theorem State.freeAgain_canonical (s : State) (f) (hs : s.Canonical) :
    (State.freeAgain s f).Canonical := by
  grind -ring -linarith -lia -order [State.freeAgain]

theorem State.mergePage_canonical (s : State) (o page) (hs : s.Canonical) :
    (State.mergePage s o page).Canonical := by
  fun_cases State.mergePage s o page <;> grind -ring -linarith -lia -order [State.freeAgain_canonical,
    State.recall_canonical, State.setEntry_canonical, State.installLeaf_canonical]

theorem execPublishComplete_yields {P : Prop} (object) (s : State) (hs : P → s.Canonical) :
    Yields P (execPublishComplete object s) := by
  grind -ring -linarith -lia -order [execPublishComplete, State.mergePage_canonical, State.putCommand_canonical,
    foldl_canonical, foldl_fst_canonical, yields_next]

theorem State.beginPublish_canonical (s : State) (k object) (hs : s.Canonical) :
    (State.beginPublish s k object).Canonical := by
  grind -ring -linarith -lia -order [State.beginPublish]

theorem State.endArrive_canonical (s : State) (k o) (hs : s.Canonical) :
    (State.endArrive s k o).Canonical := by
  grind -ring -linarith -lia -order [State.endArrive]

theorem State.fire_canonical (s : State) (e template slot) (hs : s.Canonical) :
    (State.fire s e template slot).Canonical := by
  grind -ring -linarith -lia -order [State.fire, State.post_canonical, State.errorRecord_canonical]

theorem State.arriveMove_canonical (s : State) (k c tag payload) (hs : s.Canonical) :
    (State.arriveMove s k c tag payload).Canonical := by
  grind -ring -linarith -lia -order [State.arriveMove, State.endArrive_canonical, State.readStep_canonical,
    State.writeStep_canonical, State.putCommand_canonical, State.signalStep_canonical, State.fire_canonical,
    Memory.wf_setAll, Memory.wf_clearRange, Memory.wf_filter]

theorem execMessageArrival_yields {P : Prop} (tag payload) (s : State) (hs : P → s.Canonical) :
    Yields P (execMessageArrival tag payload s) := by
  grind -ring -linarith -lia -order [execMessageArrival, yields_next]

theorem State.lastMove_canonical (s : State) (k c) (hs : s.Canonical) :
    (State.lastMove s k c).Canonical := by
  grind -ring -linarith -lia -order [State.lastMove, State.makeCounts_canonical, State.signalStep_canonical,
    State.putCommand_canonical, State.completeCommand_canonical]

theorem State.rangeMove_canonical (s : State) (k c) (hs : s.Canonical) :
    (State.rangeMove s k c).Canonical := by
  grind -ring -linarith -lia -order [State.rangeMove, State.readStep_canonical, State.lastMove_canonical,
    State.writeStep_canonical]

theorem State.commandMove_canonical (s : State) (k c ended) (hs : s.Canonical) :
    (State.commandMove s k c ended).Canonical := by
  fun_cases State.commandMove s k c ended <;> grind -ring -linarith -lia -order [State.rangeMove_canonical,
    State.sendReduce_canonical, State.sendMcast_canonical, State.completeCommand_canonical, State.putCommand_canonical,
    State.beginPublish_canonical, State.arriveMove_canonical, State.mxMove_canonical]

theorem execEngineComplete_yields {P : Prop} (cmd ended) (s : State) (hs : P → s.Canonical) :
    Yields P (execEngineComplete cmd ended s) := by
  grind -ring -linarith -lia -order [execEngineComplete, State.lateTiles_canonical, State.commandMove_canonical,
    yields_next]

/-! ### System -/

theorem execTrap_answers {P : Prop} (n i) (s : State) (hs : P → s.Canonical) :
    Answers P s (execTrap n i s) := by
  grind -ring -linarith -lia -order [execTrap, State.raise_canonical, State.issue_answers, State.switchFirst_yields,
    yields_next, Answers]

theorem execTret_answers {P : Prop} (y) (s : State) (hs : P → s.Canonical) :
    Answers P s (execTret y s) := by
  grind -ring -linarith -lia -order [execTret, State.deliverPending_canonical, State.putGroup_canonical,
    State.issue_answers, State.need_yields, yields_next, Answers]

theorem execSysr_answers {P : Prop} (y d n) (s : State) (hs : P → s.Canonical) :
    Answers P s (execSysr y d n s) := by
  refine State.issue_answers _ _ fun g hg => ?_
  split
  · exact State.trapHere_yields _ _ _ hs
  · split
    · exact State.trapHere_yields _ _ _ hs
    · split
      · exact (State.lanes1_answers _ _ _ _ _ hs).yields hg
      all_goals exact State.retire_yields _ _ _ hs

theorem execSysw_answers {P : Prop} (y a n) (s : State) (hs : P → s.Canonical) :
    Answers P s (execSysw y a n s) := by
  grind -ring -linarith -lia -order [execSysw, State.trapHere_yields, State.retire_yields, State.issue_answers,
    State.need_yields, Answers]

/-! ### Firmware -/

theorem State.putFwBytes_canonical (s : State) (die off b) (hs : s.Canonical) :
    (State.putFwBytes s die off b).Canonical := by
  grind -ring -linarith -lia -order [State.putFwBytes]

theorem State.pushFw_canonical (s : State) (die e) (hs : s.Canonical) :
    (State.pushFw s die e).Canonical := by
  grind -ring -linarith -lia -order [State.pushFw]

theorem State.firmware_answers {P : Prop} (s : State) (y d) (f : Group → State × W64) (hs : P → s.Canonical) (hf : ∀
  g, P → (f g).1.Canonical) : Answers P s (s.firmware y d f) := by
  grind -ring -linarith -lia -order [State.firmware, State.trapHere_yields, State.retire_yields, State.issue_answers,
    Answers]

theorem State.moveLeaf_canonical (s : State) (o page old new) (hs : s.Canonical) :
    (State.moveLeaf s o page old new).1.Canonical := by
  grind -ring -linarith -lia -order [State.moveLeaf, State.copyPage_canonical, State.recall_canonical,
    State.leaveMigration_canonical]

theorem State.writeLeaf_canonical (s : State) (g entry word off) (hs : s.Canonical) :
    (State.writeLeaf s g entry word off).1.Canonical := by
  grind -ring -linarith -lia -order [State.writeLeaf, State.moveLeaf_canonical, State.setEntry_canonical]

theorem execPwleaf_answers {P : Prop} (y d a b) (s : State) (hs : P → s.Canonical) :
    Answers P s (execPwleaf y d a b s) := by
  grind -ring -linarith -lia -order [execPwleaf, State.writeLeaf_canonical, State.firmware_answers, Answers]

theorem State.writeObject_canonical (s : State) (g v word) (hs : s.Canonical) :
    (State.writeObject s g v word).1.Canonical := by
  grind -ring -linarith -lia -order [State.writeObject]

theorem execPobj_answers {P : Prop} (y d a n) (s : State) (hs : P → s.Canonical) :
    Answers P s (execPobj y d a n s) := by
  grind -ring -linarith -lia -order [execPobj, State.writeObject_canonical, State.firmware_answers, Answers]

theorem State.putSlot_canonical (s : State) (n k) (hs : s.Canonical) :
    (State.putSlot s n k).Canonical := by
  grind -ring -linarith -lia -order [State.putSlot]

theorem State.remakeFrames_canonical (s : State) (slot old new) (hs : s.Canonical) :
    (State.remakeFrames s slot old new).Canonical := by
  grind -ring -linarith -lia -order [State.remakeFrames, foldl_canonical, foldl_fst_canonical, Memory.wf_setAll,
    Memory.wf_clearRange, Memory.wf_filter]

theorem State.loadSlot_canonical (s : State) (n new) (hs : s.Canonical) :
    (State.loadSlot s n new).Canonical := by
  grind -ring -linarith -lia -order [State.loadSlot, State.remakeFrames_canonical, MemState.rebuildRoots_canonical,
    State.putSlot_canonical]

theorem State.actKey_canonical (s : State) (g word off) (hs : s.Canonical) :
    (State.actKey s g word off).1.Canonical := by
  grind -ring -linarith -lia -order [State.actKey, State.loadSlot_canonical, State.putSlot_canonical]

theorem execPkey_answers {P : Prop} (y d a b) (s : State) (hs : P → s.Canonical) :
    Answers P s (execPkey y d a b s) := by
  grind -ring -linarith -lia -order [execPkey, State.actKey_canonical, State.firmware_answers, Answers]

theorem State.restartWatchdog_canonical (s : State) (die) (hs : s.Canonical) :
    (State.restartWatchdog s die).Canonical := by
  grind -ring -linarith -lia -order [State.restartWatchdog]

theorem execPwdog_answers {P : Prop} (y d n n') (s : State) (hs : P → s.Canonical) :
    Answers P s (execPwdog y d n n' s) := by
  grind -ring -linarith -lia -order [execPwdog, State.restartWatchdog_canonical, State.firmware_answers, Answers]

theorem State.sendMcset_canonical (s : State) (die slice ps) (hs : s.Canonical) :
    (State.sendMcset s die slice ps).Canonical := by
  grind -ring -linarith -lia -order [State.sendMcset, State.emitLoose_canonical, foldl_canonical, foldl_fst_canonical]

theorem execPmcset_answers {P : Prop} (y d a b) (s : State) (hs : P → s.Canonical) :
    Answers P s (execPmcset y d a b s) := by
  grind -ring -linarith -lia -order [execPmcset, State.trapHere_yields, State.retire_yields,
    State.sendMcset_canonical, State.issue_answers, yields_next, Answers]

theorem execPevent_answers {P : Prop} (y d a n) (s : State) (hs : P → s.Canonical) :
    Answers P s (execPevent y d a n s) := by
  grind -ring -linarith -lia -order [execPevent, State.errorRecord_canonical, State.post_canonical,
    State.firmware_answers, Answers]

theorem execPfq_answers {P : Prop} (y d a n) (s : State) (hs : P → s.Canonical) :
    Answers P s (execPfq y d a n s) := by
  grind -ring -linarith -lia -order [execPfq, State.putFwBytes_canonical, State.reportFaults_canonical,
    State.firmware_answers, Answers]

theorem State.startSave_canonical (s : State) (o) (hs : s.Canonical) :
    (State.startSave s o).1.Canonical := by
  grind -ring -linarith -lia -order [State.startSave]

theorem State.save_canonical (s : State) (g opts word place) (hs : s.Canonical) :
    (State.save s g opts word place).1.Canonical := by
  grind -ring -linarith -lia -order [State.save, State.errorRecord_canonical, State.startSave_canonical]

theorem execPsave_answers {P : Prop} (y d a b) (s : State) (hs : P → s.Canonical) :
    Answers P s (execPsave y d a b s) := by
  grind -ring -linarith -lia -order [execPsave, State.save_canonical, State.firmware_answers, Answers]

theorem State.putPlace_canonical (s : State) (die place b) (hs : s.Canonical) :
    (State.putPlace s die place b).Canonical := by
  grind -ring -linarith -lia -order [State.putPlace, State.putFwBytes_canonical]

theorem State.askPlace_canonical (s : State) (o g) (hs : s.Canonical) :
    (State.askPlace s o g).Canonical := by
  grind -ring -linarith -lia -order [State.askPlace, State.serviceRequest_canonical]

theorem State.restore_canonical (s : State) (g opts word place) (hs : s.Canonical) :
    (State.restore s g opts word place).1.Canonical := by
  grind -ring -linarith -lia -order [State.restore, State.startSave_canonical]

theorem execPrest_answers {P : Prop} (y d a b) (s : State) (hs : P → s.Canonical) :
    Answers P s (execPrest y d a b s) := by
  grind -ring -linarith -lia -order [execPrest, State.restore_canonical, State.firmware_answers, Answers]

theorem State.endSave_canonical (s : State) (o status ctx length) (hs : s.Canonical) :
    (State.endSave s o status ctx length).Canonical := by
  grind -ring -linarith -lia -order [State.endSave, State.pushFw_canonical]

theorem execSaveRetry_yields {P : Prop} (grp) (s : State) (hs : P → s.Canonical) :
    Yields P (execSaveRetry grp s) := by
  grind -ring -linarith -lia -order [execSaveRetry, State.drain_canonical, State.askPlace_canonical, yields_next]

theorem State.writeImage_canonical (s : State) (o g) (hs : s.Canonical) :
    (State.writeImage s o g).Canonical := by
  grind -ring -linarith -lia -order [State.writeImage, State.saveGroup_canonical, State.endSave_canonical,
    State.putPlace_canonical]

theorem execSaveDone_yields {P : Prop} (op) (s : State) (hs : P → s.Canonical) :
    Yields P (execSaveDone op s) := by
  grind -ring -linarith -lia -order [execSaveDone, State.endSave_canonical, State.drain_canonical,
    State.writeImage_canonical, yields_next]

theorem State.refuseImage_canonical (s : State) (o g code) (hs : s.Canonical) :
    (State.refuseImage s o g code).Canonical := by
  grind -ring -linarith -lia -order [State.refuseImage, State.errorRecord_canonical, State.endSave_canonical]

theorem State.reinstate_canonical (s : State) (o live i lines stash) (hs : s.Canonical) :
    (State.reinstate s o live i lines stash).Canonical := by
  grind -ring -linarith -lia -order [State.reinstate, State.mayStore_canonical, State.putBlock_canonical,
    State.storeLines_canonical, State.endSave_canonical, State.putGroup_canonical]

theorem State.resume_canonical (s : State) (o g) (hs : s.Canonical) :
    (State.resume s o g).Canonical := by
  grind -ring -linarith -lia -order [State.resume, State.endSave_canonical, State.putGroup_canonical]

theorem execRestoreDone_yields {P : Prop} (op) (s : State) (hs : P → s.Canonical) :
    Yields P (execRestoreDone op s) := by
  fun_cases execRestoreDone op s <;> grind -ring -linarith -lia -order [State.endSave_canonical,
    State.resume_canonical, State.refuseImage_canonical, State.reinstate_canonical, yields_next]

/-! ### Waits -/

theorem execResultWrite_yields {P : Prop} (grp) (s : State) (hs : P → s.Canonical) :
    Yields P (execResultWrite grp s) := by
  grind -ring -linarith -lia -order [execResultWrite, State.drainGang_canonical, State.putGroup_canonical,
    yields_next]

theorem execTrapDelivery_yields {P : Prop} (grp) (s : State) (hs : P → s.Canonical) :
    Yields P (execTrapDelivery grp s) := by
  grind -ring -linarith -lia -order [execTrapDelivery, State.deliverPending_canonical, yields_next]

theorem execQuiescenceRelease_yields {P : Prop} (grp j) (s : State) (hs : P → s.Canonical) :
    Yields P (execQuiescenceRelease grp j s) := by
  grind -ring -linarith -lia -order [execQuiescenceRelease, State.putGroup_canonical, yields_next]

theorem State.wakeBlockOf_canonical (s : State) (g) (hs : s.Canonical) :
    (State.wakeBlockOf s g).Canonical := by
  grind -ring -linarith -lia -order [State.wakeBlockOf, State.wakeDormant_canonical]

theorem State.noteWrites_canonical (s : State) (hs : s.Canonical) :
    (State.noteWrites s).Canonical := by
  grind -ring -linarith -lia -order [State.noteWrites]

theorem State.rereadDone_canonical (s : State) (h o noWake) (hs : s.Canonical) :
    (State.rereadDone s h o noWake).Canonical := by
  grind -ring -linarith -lia -order [State.rereadDone, State.wakeBlockOf_canonical, State.putGroup_canonical,
    State.settleMem_canonical]

theorem State.reread_canonical (s : State) (h i) (hs : s.Canonical) :
    (State.reread s h i).Canonical := by
  grind -ring -linarith -lia -order [State.reread, State.access_canonical, State.putGroup_canonical,
    State.rereadDone_canonical]

theorem execWaitReread_yields {P : Prop} (grp slice) (s : State) (hs : P → s.Canonical) :
    Yields P (execWaitReread grp slice s) := by
  grind -ring -linarith -lia -order [execWaitReread, State.reread_canonical, yields_next]

theorem execWaitDeadline_yields {P : Prop} (grp slice) (s : State) (hs : P → s.Canonical) :
    Yields P (execWaitDeadline grp slice s) := by
  grind -ring -linarith -lia -order [execWaitDeadline, State.reread_canonical, yields_next]

theorem execSleepDeadline_yields {P : Prop} (grp slice) (s : State) (hs : P → s.Canonical) :
    Yields P (execSleepDeadline grp slice s) := by
  grind -ring -linarith -lia -order [execSleepDeadline, State.putGroup_canonical, yields_next]

/-! ### Fetch -/

theorem State.ifetch_canonical (s : State) (h g slices pc) (hs : s.Canonical) :
    (State.ifetch s h g slices pc).Canonical := by
  grind -ring -linarith -lia -order [State.ifetch, State.raise_canonical]

theorem State.fetchFailed_canonical (s : State) (h g o noWake) (hs : s.Canonical) :
    (State.fetchFailed s h g o noWake).Canonical := by
  grind -ring -linarith -lia -order [State.fetchFailed, State.parkFault_canonical, State.ifetch_canonical]

theorem State.fetchDone_canonical (s : State) (h o noWake) (hs : s.Canonical) :
    (State.fetchDone s h o noWake).Canonical := by
  grind -ring -linarith -lia -order [State.fetchDone, State.putGroup_canonical, State.fetchFailed_canonical]

theorem State.fetch_canonical (s : State) (h g slices pc) (hs : s.Canonical) :
    (State.fetch s h g slices pc).1.Canonical := by
  grind -ring -linarith -lia -order [State.fetch, State.ifetch_canonical, State.putGroup_canonical,
    State.access_canonical, State.fetchFailed_canonical]

/-! ### Package -/

theorem State.hostImage_wf (s : State) (hs : s.Canonical) : Memory.wf s.hostImage = true :=
  Memory.wf_setAll _ (Memory.wf_setAll _ (Memory.wf_filter _ hs))

theorem State.cleared_canonical (s : State) (hs : s.Canonical) :
    (State.cleared s).Canonical := State.hostImage_wf s hs

theorem execPowerOn_yields {P : Prop} (railsOk) (s : State) (hs : P → s.Canonical) :
    Yields P (execPowerOn railsOk s) := by
  grind -ring -linarith -lia -order [execPowerOn, State.cleared_canonical, yields_next]

theorem execColdReset_yields {P : Prop} (heldTicks) (s : State) (hs : P → s.Canonical) :
    Yields P (execColdReset heldTicks s) := by
  grind -ring -linarith -lia -order [execColdReset, State.cleared_canonical, yields_next]

theorem State.destroyKeys_canonical (s : State) (hs : s.Canonical) :
    (State.destroyKeys s).Canonical := by
  grind -ring -linarith -lia -order [State.destroyKeys]

theorem State.warmMem_canonical (s : State) (hs : s.Canonical) :
    Memory.wf (State.warmMem s).bytes = true := by
  grind -ring -linarith -lia -order [State.warmMem, Memory.wf_setAll, Memory.wf_clearRange, Memory.wf_filter]

theorem State.warmed_canonical (s : State) (hs : s.Canonical) :
    (State.warmed s).Canonical := by
  grind -ring -linarith -lia -order [State.warmed, State.cleared_canonical, State.warmMem_canonical,
    State.destroyKeys_canonical]

theorem execWarmReset_yields {P : Prop} (h) (s : State) (hs : P → s.Canonical) :
    Yields P (execWarmReset h s) := by
  grind -ring -linarith -lia -order [execWarmReset, State.warmed_canonical, yields_next]

theorem State.startFwc_canonical (s : State) (die) (hs : s.Canonical) :
    (State.startFwc s die).Canonical := by
  grind -ring -linarith -lia -order [State.startFwc, State.putGroup_canonical, State.putBlock_canonical,
    State.restartWatchdog_canonical]

theorem State.stopFwc_canonical (s : State) (die) (hs : s.Canonical) :
    (State.stopFwc s die).Canonical := by
  grind -ring -linarith -lia -order [State.stopFwc]

theorem State.runImage_canonical (s : State) (m base image) (hs : s.Canonical) :
    (State.runImage s m base image).Canonical := by
  grind -ring -linarith -lia -order [State.runImage, State.startFwc_canonical, foldl_canonical, foldl_fst_canonical]

theorem State.selfTest_canonical (s : State) (failed) (hs : s.Canonical) :
    (State.selfTest s failed).Canonical := by
  grind -ring -linarith -lia -order [State.selfTest]

theorem State.takeConfig_canonical (s : State) (failed r) (hs : s.Canonical) :
    (State.takeConfig s failed r).Canonical := by
  grind -ring -linarith -lia -order [State.takeConfig, foldl_canonical, foldl_fst_canonical]

theorem State.startUnits_canonical (s : State) (trains) (hs : s.Canonical) :
    (State.startUnits s trains).Canonical := by
  grind -ring -linarith -lia -order [State.startUnits]

theorem State.chooseSlot_canonical (s : State) (reached) (hs : s.Canonical) :
    (State.chooseSlot s reached).Canonical := by
  grind -ring -linarith -lia -order [State.chooseSlot, State.runImage_canonical]

theorem execBootRomStart_yields {P : Prop} (failed) (s : State) (hs : P → s.Canonical) :
    Yields P (execBootRomStart failed s) := by
  grind -ring -linarith -lia -order [execBootRomStart, State.selfTest_canonical, State.takeConfig_canonical,
    State.chooseSlot_canonical, State.startUnits_canonical, yields_next]

theorem execHostModuleTraining_yields {P : Prop} (m) (s : State) (hs : P → s.Canonical) :
    Yields P (execHostModuleTraining m s) := by
  grind -ring -linarith -lia -order [execHostModuleTraining, yields_next]

theorem execPowerWindow_yields {P : Prop} (watts) (s : State) (hs : P → s.Canonical) :
    Yields P (execPowerWindow watts s) := by
  grind -ring -linarith -lia -order [execPowerWindow, yields_next]

theorem execThermalStep_yields {P : Prop} (celsius) (s : State) (hs : P → s.Canonical) :
    Yields P (execThermalStep celsius s) := by
  grind -ring -linarith -lia -order [execThermalStep, yields_next]

theorem execThermalHold_yields {P : Prop} (sensor celsius) (s : State) (hs : P → s.Canonical) :
    Yields P (execThermalHold sensor celsius s) := by
  grind -ring -linarith -lia -order [execThermalHold, State.contain_canonical, yields_next]

theorem execThermalHoldEnd_yields {P : Prop} (celsius) (s : State) (hs : P → s.Canonical) :
    Yields P (execThermalHoldEnd celsius s) := by
  grind -ring -linarith -lia -order [execThermalHoldEnd, yields_next]

theorem execThermtrip_yields {P : Prop} (celsius) (s : State) (hs : P → s.Canonical) :
    Yields P (execThermtrip celsius s) := by
  grind -ring -linarith -lia -order [execThermtrip, yields_next]

theorem State.recover_canonical (s : State) (hs : s.Canonical) :
    (State.recover s).Canonical := by
  grind -ring -linarith -lia -order [State.recover, State.stopFwc_canonical, State.abortBlock_canonical,
    State.dropGroup_canonical, State.errorRecord_canonical, State.destroyKeys_canonical, foldl_canonical,
    foldl_fst_canonical]

theorem State.loseGateway_canonical (s : State) (d) (hs : s.Canonical) :
    (State.loseGateway s d).Canonical := by
  grind -ring -linarith -lia -order [State.loseGateway]

theorem State.loseUnits_canonical (s : State) (d) (hs : s.Canonical) :
    (State.loseUnits s d).Canonical := by
  grind -ring -linarith -lia -order [State.loseUnits, State.stopFwc_canonical, State.loseGateway_canonical,
    foldl_canonical, foldl_fst_canonical]

theorem State.loseBlocks_canonical (s : State) (d) (hs : s.Canonical) :
    (State.loseBlocks s d).1.Canonical := by
  grind -ring -linarith -lia -order [State.loseBlocks, State.abortBlock_canonical, foldl_canonical,
    foldl_fst_canonical]

theorem State.loseTasks_canonical (s : State) (d) (hs : s.Canonical) :
    (State.loseTasks s d).Canonical := by
  grind -ring -linarith -lia -order [State.loseTasks, State.dropGroup_canonical, State.setTasks_canonical,
    foldl_canonical, foldl_fst_canonical]

theorem State.loseCommands_canonical (s : State) (d) (hs : s.Canonical) :
    (State.loseCommands s d).Canonical := by
  grind -ring -linarith -lia -order [State.loseCommands]

theorem State.dropDie_canonical (s : State) (d) (hs : s.Canonical) :
    (State.dropDie s d).Canonical := by
  grind -ring -linarith -lia -order [State.dropDie, State.recover_canonical, State.loseBlocks_canonical,
    State.loseUnits_canonical, State.loseTasks_canonical, State.loseCommands_canonical, State.post_canonical,
    State.contain_canonical, State.postFault_canonical, foldl_canonical, foldl_fst_canonical]

theorem State.propose_canonical (s : State) (die reason) (hs : s.Canonical) :
    (State.propose s die reason).Canonical := by
  grind -ring -linarith -lia -order [State.propose, State.contain_canonical, State.serviceRequest_canonical]

theorem State.parkDie_canonical (s : State) (die on) (hs : s.Canonical) :
    (State.parkDie s die on).Canonical := by
  grind -ring -linarith -lia -order [State.parkDie]

theorem execFwdog_yields {P : Prop} (die) (s : State) (hs : P → s.Canonical) :
    Yields P (execFwdog die s) := by
  grind -ring -linarith -lia -order [execFwdog, State.startFwc_canonical, State.stopFwc_canonical,
    State.parkDie_canonical, State.errorRecord_canonical, State.propose_canonical, yields_next]

theorem execFirmwareReadiness_yields {P : Prop} (die) (s : State) (hs : P → s.Canonical) :
    Yields P (execFirmwareReadiness die s) := by
  grind -ring -linarith -lia -order [execFirmwareReadiness, State.parkDie_canonical, yields_next]

theorem State.checkRecord_canonical (s : State) (e code severity) (hs : s.Canonical) :
    (State.checkRecord s e code severity).Canonical := by
  grind -ring -linarith -lia -order [State.checkRecord, State.contain_canonical]

theorem State.poisonSectors_canonical (s : State) (f k) (hs : s.Canonical) :
    (State.poisonSectors s f k).Canonical := by
  grind -ring -linarith -lia -order [State.poisonSectors]

theorem State.beginMoves_canonical (s : State) (refs) (hs : s.Canonical) :
    (State.beginMoves s refs).Canonical := by
  grind -ring -linarith -lia -order [State.beginMoves, foldl_canonical, foldl_fst_canonical]

theorem MemState.arrived_canonical (m : MemState) (e) (hm : Memory.wf m.bytes = true) :
    Memory.wf (MemState.arrived m e).bytes = true := by
  grind -ring -linarith -lia -order [MemState.arrived, foldl_wf]

theorem State.movePage_canonical (s : State) (e) (hs : s.Canonical) :
    (State.movePage s e).1.Canonical := by
  grind -ring -linarith -lia -order [State.movePage, State.takeFrame_canonical, State.copyPage_canonical,
    State.recall_canonical, MemState.arrived_canonical]

theorem State.endMove_canonical (s : State) (e) (hs : s.Canonical) :
    (State.endMove s e).1.Canonical := by
  grind -ring -linarith -lia -order [State.endMove, State.movePage_canonical, State.returnFrame_canonical]

theorem State.endMoves_canonical (s : State) (refs) (hs : s.Canonical) :
    (State.endMoves s refs).1.Canonical := by
  grind -ring -linarith -lia -order [State.endMoves, State.endMove_canonical, foldl_canonical, foldl_fst_canonical]

theorem State.leaveOnFrame_canonical (s : State) (f refs) (hs : s.Canonical) :
    (State.leaveOnFrame s f refs).Canonical := by
  grind -ring -linarith -lia -order [State.leaveOnFrame, MemState.arrived_canonical, State.poisonSectors_canonical,
    foldl_canonical, foldl_fst_canonical, foldl_wf]

theorem State.retireStep_canonical (s : State) (hs : s.Canonical) :
    (State.retireStep s).Canonical := by
  grind -ring -linarith -lia -order [State.retireStep, State.endMoves_canonical, State.leaveOnFrame_canonical,
    State.beginMoves_canonical]

theorem State.retireFrame_canonical (s : State) (k) (hs : s.Canonical) :
    (State.retireFrame s k).Canonical := by
  grind -ring -linarith -lia -order [State.retireFrame, State.propose_canonical, State.beginMoves_canonical,
    State.contain_canonical]

theorem State.countFrame_canonical (s : State) (f now) (hs : s.Canonical) :
    (State.countFrame s f now).Canonical := by
  grind -ring -linarith -lia -order [State.countFrame, State.retireFrame_canonical]

theorem State.corrected_canonical (s : State) (e) (hs : s.Canonical) :
    (State.corrected s e).Canonical := by
  grind -ring -linarith -lia -order [State.corrected, State.checkRecord_canonical, State.countFrame_canonical]

theorem State.poisonLine_canonical (s : State) (h n) (hs : s.Canonical) :
    (State.poisonLine s h n).Canonical := by
  grind -ring -linarith -lia -order [State.poisonLine, State.putGroup_canonical]

theorem State.poisonStash_canonical (s : State) (k n) (hs : s.Canonical) :
    (State.poisonStash s k n).Canonical := by
  grind -ring -linarith -lia -order [State.poisonStash, State.putBlock_canonical]

theorem State.poisonPacket_canonical (s : State) (plane n m) (hs : s.Canonical) :
    (State.poisonPacket s plane n m).Canonical := by
  grind -ring -linarith -lia -order [State.poisonPacket]

theorem State.fetchFails_canonical (s : State) (h) (hs : s.Canonical) :
    (State.fetchFails s h).Canonical := by
  grind -ring -linarith -lia -order [State.fetchFails, State.raise_canonical]

theorem State.lastingError_canonical (s : State) (e) (hs : s.Canonical) :
    (State.lastingError s e).Canonical := by
  grind -ring -linarith -lia -order [State.lastingError, State.poisonSectors_canonical, State.countFrame_canonical,
    State.checkRecord_canonical, State.retireFrame_canonical, State.poisonStash_canonical, State.propose_canonical,
    State.poisonLine_canonical, State.fetchFails_canonical, State.poisonPacket_canonical, State.putPort_canonical]

theorem execErrorRetry_yields {P : Prop} (e) (s : State) (hs : P → s.Canonical) :
    Yields P (execErrorRetry e s) := by
  grind -ring -linarith -lia -order [execErrorRetry, State.corrected_canonical, State.checkRecord_canonical,
    State.lastingError_canonical, yields_next]

/-! ### Wake -/

theorem State.wakeFaulted_canonical (s : State) (place kind core refused h) (hs : s.Canonical) :
    (State.wakeFaulted s place kind core refused h).Canonical := by
  grind -ring -linarith -lia -order [State.wakeFaulted, State.putGroup_canonical]

theorem State.wakePage_canonical (s : State) (place kind core refused) (hs : s.Canonical) :
    (State.wakePage s place kind core refused).Canonical := by
  grind -ring -linarith -lia -order [State.wakePage, State.wakeFaulted_canonical, foldl_canonical,
    foldl_fst_canonical]

theorem State.refuseContext_canonical (s : State) (e) (hs : s.Canonical) :
    (State.refuseContext s e).Canonical := by
  unfold State.refuseContext
  split
  · exact hs
  · split
    · exact hs
    · obtain ⟨t, ht, hcan⟩ := execContextFault_yields e.object.toNat .refused s fun _ : True => hs
      rw [ht]
      exact hcan trivial

theorem State.tellFault_canonical (s : State) (e refused who) (hs : s.Canonical) :
    (State.tellFault s e refused who).Canonical := by
  grind -ring -linarith -lia -order [State.tellFault, State.wakePage_canonical]

theorem State.endFault_canonical (s : State) (e refused) (hs : s.Canonical) :
    (State.endFault s e refused).Canonical := by
  grind -ring -linarith -lia -order [State.endFault, State.tellFault_canonical, State.reportFaults_canonical,
    State.refuseContext_canonical, foldl_canonical, foldl_fst_canonical]

theorem State.makeShadow_canonical (s : State) (o) (hs : s.Canonical) :
    (State.makeShadow s o).Canonical := by
  grind -ring -linarith -lia -order [State.makeShadow, State.tableAt_canonical, State.setEntry_canonical,
    foldl_canonical, foldl_fst_canonical]

theorem State.serveShadow_canonical (s : State) (e) (hs : s.Canonical) :
    (State.serveShadow s e).Canonical := by
  grind -ring -linarith -lia -order [State.serveShadow, State.makeShadow_canonical, State.takeFrame_canonical,
    State.freeAgain_canonical]

theorem execPageFaultWake_yields {P : Prop} (object page kind) (s : State) (hs : P → s.Canonical) :
    Yields P (execPageFaultWake object page kind s) := by
  grind -ring -linarith -lia -order [execPageFaultWake, State.wakePage_canonical, State.serveShadow_canonical,
    State.endFault_canonical, yields_next]

theorem execPageFaultRefusal_yields {P : Prop} (object page kind) (s : State) (hs : P → s.Canonical) :
    Yields P (execPageFaultRefusal object page kind s) := by
  grind -ring -linarith -lia -order [execPageFaultRefusal, State.wakePage_canonical, State.endFault_canonical,
    yields_next]

theorem execNoWakeReplay_yields {P : Prop} (grp) (s : State) (hs : P → s.Canonical) :
    Yields P (execNoWakeReplay grp s) := by
  grind -ring -linarith -lia -order [execNoWakeReplay, State.putGroup_canonical, yields_next]

theorem State.zeroFrame_canonical (s : State) (f) (hs : s.Canonical) :
    (State.zeroFrame s f).Canonical := by
  grind -ring -linarith -lia -order [State.zeroFrame, MemState.clearFrame_canonical]

theorem State.serveFault_canonical (s : State) (o page kind leaf) (hs : s.Canonical) :
    (State.serveFault s o page kind leaf).Canonical := by
  fun_cases State.serveFault s o page kind leaf <;> grind -ring -linarith -lia -order [State.zeroFrame_canonical,
    State.endFault_canonical, State.installLeaf_canonical]

/-! ### HostIface -/

theorem State.answerRead_canonical (s : State) (h) (hs : s.Canonical) :
    (State.answerRead s h).Canonical := by
  grind -ring -linarith -lia -order [State.answerRead]

theorem execSubdropRead_yields {P : Prop} (h) (s : State) (hs : P → s.Canonical) :
    Yields P (execSubdropRead h s) := by
  grind -ring -linarith -lia -order [execSubdropRead, State.answerRead_canonical, yields_next]

theorem execErrlostRead_yields {P : Prop} (h) (s : State) (hs : P → s.Canonical) :
    Yields P (execErrlostRead h s) := by
  grind -ring -linarith -lia -order [execErrlostRead, State.answerRead_canonical, yields_next]

theorem execErrtailWrite_yields {P : Prop} (h) (s : State) (hs : P → s.Canonical) :
    Yields P (execErrtailWrite h s) := by
  grind -ring -linarith -lia -order [execErrtailWrite, yields_next]

theorem execSvctailWrite_yields {P : Prop} (h) (s : State) (hs : P → s.Canonical) :
    Yields P (execSvctailWrite h s) := by
  grind -ring -linarith -lia -order [execSvctailWrite, yields_next]

theorem execServiceRequest_yields {P : Prop} (s : State) (hs : P → s.Canonical) :
    Yields P (execServiceRequest s) := by
  grind -ring -linarith -lia -order [execServiceRequest, yields_next]

theorem State.dropSubmit_canonical (s : State) (code ctx) (hs : s.Canonical) :
    (State.dropSubmit s code ctx).Canonical := by
  grind -ring -linarith -lia -order [State.dropSubmit, State.errorRecord_canonical]

theorem execSubmitWrite_yields {P : Prop} (h) (s : State) (hs : P → s.Canonical) :
    Yields P (execSubmitWrite h s) := by
  refine yields_next fun hp => ?_
  have hdrop (c n) : (s.dropSubmit c n).Canonical := State.dropSubmit_canonical s c n (hs hp)
  exact canonical_ite (hs hp) (canonical_ite (hdrop _ _) (canonical_ite (hdrop _ _) (canonical_ite (hdrop _ _)
    (canonical_ite (hdrop _ _) (hs hp)))))

theorem execSubmitBufferDrain_yields {P : Prop} (s : State) (hs : P → s.Canonical) :
    Yields P (execSubmitBufferDrain s) := by
  grind -ring -linarith -lia -order [execSubmitBufferDrain, State.post_canonical, State.dropSubmit_canonical,
    yields_next]

theorem execPmodeWrite_yields {P : Prop} (h) (s : State) (hs : P → s.Canonical) :
    Yields P (execPmodeWrite h s) := by
  grind -ring -linarith -lia -order [execPmodeWrite, State.errorRecord_canonical, yields_next]

theorem State.hostPageWrite_canonical (s : State) (h) (hs : s.Canonical) :
    (State.hostPageWrite s h).Canonical := by
  grind -ring -linarith -lia -order [State.hostPageWrite, State.hostStore_canonical]

theorem execHostRegisterWrite_yields {P : Prop} (h) (s : State) (hs : P → s.Canonical) :
    Yields P (execHostRegisterWrite h s) := by
  grind -ring -linarith -lia -order [execHostRegisterWrite, State.hostPageWrite_canonical, yields_next]

theorem State.postVerdict_canonical (s : State) (o digest) (hs : s.Canonical) :
    (State.postVerdict s o digest).Canonical := by
  grind -ring -linarith -lia -order [State.postVerdict, State.post_canonical]

theorem State.resolveSplit_canonical (s : State) (r) (hs : s.Canonical) :
    (State.resolveSplit s r).Canonical := by
  grind -ring -linarith -lia -order [State.resolveSplit, State.postVerdict_canonical]

theorem State.placeReply_canonical (s : State) (id place) (hs : s.Canonical) :
    (State.placeReply s id place).Canonical := by
  grind -ring -linarith -lia -order [State.placeReply]

theorem State.replied_canonical (s : State) (r body) (hs : s.Canonical) :
    (State.replied s r body).Canonical := by
  grind -ring -linarith -lia -order [State.replied, State.serveFault_canonical, State.placeReply_canonical,
    State.postVerdict_canonical, State.resolveSplit_canonical]

theorem State.closeService_canonical (s : State) (id) (hs : s.Canonical) :
    (State.closeService s id).Canonical := by
  grind -ring -linarith -lia -order [State.closeService]

theorem execServiceReply_yields {P : Prop} (h) (s : State) (hs : P → s.Canonical) :
    Yields P (execServiceReply h s) := by
  grind -ring -linarith -lia -order [execServiceReply, State.errorRecord_canonical, State.replied_canonical,
    State.closeService_canonical, yields_next]

theorem execSvclate_yields {P : Prop} (id) (s : State) (hs : P → s.Canonical) :
    Yields P (execSvclate id s) := by
  grind -ring -linarith -lia -order [execSvclate, State.replied_canonical, State.errorRecord_canonical,
    State.closeService_canonical, yields_next]

/-! ### Fabric -/

theorem State.discard_canonical (s : State) (p) (hs : s.Canonical) :
    (State.discard s p).Canonical := by
  grind -ring -linarith -lia -order [State.discard]

theorem State.afterAnswers_canonical (s : State) (h o noWake) (hs : s.Canonical) :
    (State.afterAnswers s h o noWake).Canonical := by
  unfold State.afterAnswers
  refine canonical_ite (State.rereadDone_canonical s h o noWake hs) (canonical_ite (State.fetchDone_canonical s h o
    noWake hs) ?_)
  have hset := State.settleMem_canonical s h o noWake hs
  generalize s.settleMem h o noWake = r at hset
  obtain ⟨t, og⟩ := r
  cases og with
  | none => exact hset
  | some g =>
    have ht : True → t.Canonical := fun _ => hset
    simp only
    split
    · next u hr =>
      have hall : Yields True (.next u) := by
        rw [← hr]
        split
        · exact State.waitRead_yields h o t g ht
        · exact State.jobRead_yields h o t g ht
        · exact yields_next fun _ => State.putGroup_canonical t h g hset
        · exact State.memDone_yields h o t g ht
      obtain ⟨v, hv, hcan⟩ := hall
      cases hv
      exact hcan trivial
    · exact hset

theorem State.answerPieces_canonical (s : State) (h tag noWake f) (hs : s.Canonical) :
    (State.answerPieces s h tag noWake f).Canonical := by
  grind -ring -linarith -lia -order [State.answerPieces, State.putGroup_canonical, State.afterAnswers_canonical]

theorem State.keepRead_canonical (s : State) (blk a r off n) (hs : s.Canonical) :
    (State.keepRead s blk a r off n).Canonical := by
  grind -ring -linarith -lia -order [State.keepRead, State.putBlock_canonical]

theorem State.keepWrite_canonical (s : State) (blk w tags) (hs : s.Canonical) :
    (State.keepWrite s blk w tags).Canonical := by
  unfold State.keepWrite
  split
  · split
    · exact hs
    · exact State.putBlock_canonical _ _ _ hs
  · exact hs

theorem State.keepPiece_canonical (s : State) (blk kind r p) (hs : s.Canonical) :
    (State.keepPiece s blk kind r p).Canonical := by
  grind -ring -linarith -lia -order [State.keepPiece, State.keepWrite_canonical, State.keepRead_canonical]

theorem State.keepLanes_canonical (s : State) (g r) (hs : s.Canonical) :
    (State.keepLanes s g r).Canonical := by
  grind -ring -linarith -lia -order [State.keepLanes, State.keepPiece_canonical, foldl_canonical, foldl_fst_canonical]

theorem State.keepCommand_canonical (s : State) (c e read r) (hs : s.Canonical) :
    (State.keepCommand s c e read r).Canonical := by
  grind -ring -linarith -lia -order [State.keepCommand, State.keepRead_canonical, State.keepWrite_canonical]

theorem State.finishAsk_canonical (s : State) (a r broken) (hs : s.Canonical) :
    (State.finishAsk s a r broken).Canonical := by
  fun_cases State.finishAsk s a r broken <;> grind -ring -linarith -lia -order [State.answerPieces_canonical,
    State.keepLanes_canonical, State.putCommand_canonical, State.keepCommand_canonical, State.dropImage_canonical,
    Memory.wf_setAll, Memory.wf_clearRange, Memory.wf_filter]

theorem State.takeAnswer_canonical (s : State) (r) (hs : s.Canonical) :
    (State.takeAnswer s r).Canonical := by
  grind -ring -linarith -lia -order [State.takeAnswer, State.discard_canonical, State.finishAsk_canonical]

theorem State.storePage_canonical (s : State) (p page f) (hs : s.Canonical) :
    (State.storePage s p page f).Canonical := by
  grind -ring -linarith -lia -order [State.storePage, State.writeFrame_canonical]

theorem State.servePacket_canonical (s : State) (p) (hs : s.Canonical) :
    (State.servePacket s p).1.Canonical := by
  grind -ring -linarith -lia -order [State.servePacket, State.translate_canonical, State.reach_canonical,
    State.atFrame_canonical, State.storePage_canonical, State.logDenial_canonical]

theorem State.mcastAnswer_canonical (s : State) (p ok) (hs : s.Canonical) :
    (State.mcastAnswer s p ok).Canonical := by
  grind -ring -linarith -lia -order [State.mcastAnswer, State.emitLoose_canonical]

theorem State.keepWaiting_canonical (s : State) (p) (hs : s.Canonical) :
    (State.keepWaiting s p).Canonical := by
  grind -ring -linarith -lia -order [State.keepWaiting]

theorem State.storePages_canonical (s : State) (p o done l) (n : State) (hs : s.Canonical) (hn : n.Canonical) :
    (State.storePages s p o done l n).Canonical := by
  fun_induction State.storePages s p o done l n <;> grind -ring -linarith -lia -order [State.mcastAnswer_canonical,
    State.storePage_canonical, State.translate_canonical, State.reach_canonical, State.logDenial_canonical,
    State.keepWaiting_canonical, foldl_canonical, foldl_fst_canonical]

theorem State.serveMcast_canonical (s : State) (p) (hs : s.Canonical) :
    (State.serveMcast s p).Canonical := by
  grind -ring -linarith -lia -order [State.serveMcast, State.mcastAnswer_canonical, State.storePages_canonical]

theorem State.serveRemote_canonical (s : State) (p) (hs : s.Canonical) :
    (State.serveRemote s p).Canonical := by
  grind -ring -linarith -lia -order [State.serveRemote, State.serveMcast_canonical, State.servePacket_canonical,
    State.send_canonical, State.keepWaiting_canonical]

theorem State.cutOff_canonical (s : State) (chip) (hs : s.Canonical) :
    (State.cutOff s chip).Canonical := by
  grind -ring -linarith -lia -order [State.cutOff, State.noPlaneRecord_canonical, State.wakePosts_canonical,
    State.finishAsk_canonical, foldl_canonical, foldl_fst_canonical]

theorem State.moveAll_canonical (s : State) (hs : s.Canonical) :
    (State.moveAll s).Canonical := by
  grind -ring -linarith -lia -order [State.moveAll, State.movePairs_canonical, State.wakePosts_canonical,
    State.cutOff_canonical, foldl_canonical, foldl_fst_canonical]

theorem State.putRx_canonical (s : State) (k w) (hs : s.Canonical) :
    (State.putRx s k w).Canonical := by
  grind -ring -linarith -lia -order [State.putRx]

theorem State.sendSeqack_canonical (s : State) (k) (hs : s.Canonical) :
    (State.sendSeqack s k).Canonical := by
  grind -ring -linarith -lia -order [State.sendSeqack, State.putRx_canonical, State.emitLoose_canonical]

theorem State.handOver_canonical (s : State) (p) (hs : s.Canonical)
    {u} (hu : State.handOver s p = some u) : u.Canonical := by
  grind -ring -linarith -lia -order [State.handOver, State.queueTask_canonical, State.takeAnswer_canonical]

theorem State.releasePair_canonical (k n) (n' : State) (hn' : n'.Canonical) :
    (State.releasePair k n n').Canonical := by
  fun_induction State.releasePair k n n' <;> grind -ring -linarith -lia -order [State.handOver_canonical,
    State.putRx_canonical, State.sendSeqack_canonical]

theorem State.heard_canonical (s : State) (chip id) (hs : s.Canonical) :
    (State.heard s chip id).Canonical := by
  grind -ring -linarith -lia -order [State.heard]

theorem State.streamPiece_canonical (s : State) (p) (hs : s.Canonical) :
    (State.streamPiece s p).1.Canonical := by
  grind -ring -linarith -lia -order [State.streamPiece, State.heard_canonical]

theorem State.happen_canonical (s : State) (i) (hs : s.Canonical) :
    (State.happen s i).Canonical := by
  grind -ring -linarith -lia -order [State.happen]

theorem State.packetArrived_canonical (s : State) (p) (hs : s.Canonical) :
    (State.packetArrived s p).Canonical := by
  grind -ring -linarith -lia -order [State.packetArrived, State.happen_canonical, State.discard_canonical,
    State.streamPiece_canonical]

theorem State.takeBuffered_canonical (s : State) (i l) (hs : s.Canonical) :
    (State.takeBuffered s i l).Canonical := by
  fun_induction State.takeBuffered s i l <;> grind -ring -linarith -lia -order [State.putPort_canonical,
    State.packetArrived_canonical]

theorem State.takePorts_canonical (s : State) (hs : s.Canonical) :
    (State.takePorts s).Canonical := by
  grind -ring -linarith -lia -order [State.takePorts, State.takeBuffered_canonical, State.putPort_canonical,
    foldl_canonical, foldl_fst_canonical]

theorem State.releaseAll_canonical (s : State) (hs : s.Canonical) :
    (State.releaseAll s).Canonical := by
  grind -ring -linarith -lia -order [State.releaseAll, State.setStops_canonical, State.takePorts_canonical,
    State.releasePair_canonical, foldl_canonical, foldl_fst_canonical]

theorem execTaskGroupTimeout_yields {P : Prop} (core) (s : State) (hs : P → s.Canonical) :
    Yields P (execTaskGroupTimeout core s) := by
  grind -ring -linarith -lia -order [execTaskGroupTimeout, State.formTask_canonical, State.releaseAll_canonical,
    yields_next]

theorem execDieDrop_yields {P : Prop} (die) (s : State) (hs : P → s.Canonical) :
    Yields P (execDieDrop die s) := by
  grind -ring -linarith -lia -order [execDieDrop, State.releaseAll_canonical, State.wakePosts_canonical,
    State.moveAll_canonical, State.dropDie_canonical, yields_next]

theorem State.restartRx_canonical (s : State) (k epoch) (hs : s.Canonical) :
    (State.restartRx s k epoch).Canonical := by
  grind -ring -linarith -lia -order [State.restartRx, State.putRx_canonical]

theorem State.receive_canonical (s : State) (opcode p) (hs : s.Canonical) :
    (State.receive s opcode p).Canonical := by
  grind -ring -linarith -lia -order [State.receive, State.discard_canonical, State.restartRx_canonical,
    State.putRx_canonical, State.setStops_canonical, State.releasePair_canonical]

theorem execRead_yields {P : Prop} (p) (s : State) (hs : P → s.Canonical) :
    Yields P (execRead p s) := by
  grind -ring -linarith -lia -order [execRead, State.receive_canonical, yields_next]

theorem execWrite_yields {P : Prop} (p) (s : State) (hs : P → s.Canonical) :
    Yields P (execWrite p s) := by
  grind -ring -linarith -lia -order [execWrite, State.receive_canonical, yields_next]

theorem execAtomic_yields {P : Prop} (p) (s : State) (hs : P → s.Canonical) :
    Yields P (execAtomic p s) := by
  grind -ring -linarith -lia -order [execAtomic, State.receive_canonical, yields_next]

theorem execCpyput_yields {P : Prop} (p) (s : State) (hs : P → s.Canonical) :
    Yields P (execCpyput p s) := by
  grind -ring -linarith -lia -order [execCpyput, State.receive_canonical, yields_next]

theorem execTask_yields {P : Prop} (p) (s : State) (hs : P → s.Canonical) :
    Yields P (execTask p s) := by
  grind -ring -linarith -lia -order [execTask, State.receive_canonical, yields_next]

theorem execReadresp_yields {P : Prop} (p) (s : State) (hs : P → s.Canonical) :
    Yields P (execReadresp p s) := by
  grind -ring -linarith -lia -order [execReadresp, State.receive_canonical, yields_next]

theorem execWriteack_yields {P : Prop} (p) (s : State) (hs : P → s.Canonical) :
    Yields P (execWriteack p s) := by
  grind -ring -linarith -lia -order [execWriteack, State.receive_canonical, yields_next]

theorem execAtomresp_yields {P : Prop} (p) (s : State) (hs : P → s.Canonical) :
    Yields P (execAtomresp p s) := by
  grind -ring -linarith -lia -order [execAtomresp, State.receive_canonical, yields_next]

theorem execWeirRequest_yields {P : Prop} (s : State) (hs : P → s.Canonical) :
    Yields P (execWeirRequest s) := by
  grind -ring -linarith -lia -order [execWeirRequest, State.appendHere_canonical, State.releaseAll_canonical,
    State.serveRemote_canonical, State.freshGrants_canonical, yields_next]

theorem State.resumeHeld_canonical (s : State) (tag h) (hs : s.Canonical) :
    (State.resumeHeld s tag h).Canonical := by
  grind -ring -linarith -lia -order [State.resumeHeld, State.allAtStash_canonical, State.serveHere_canonical,
    State.answerPieces_canonical]

theorem State.retryWaiting_canonical (s : State) (r) (hs : s.Canonical) :
    (State.retryWaiting s r).Canonical := by
  grind -ring -linarith -lia -order [State.retryWaiting, State.serveRemote_canonical]

theorem execWalkComplete_yields {P : Prop} (object page) (s : State) (hs : P → s.Canonical) :
    Yields P (execWalkComplete object page s) := by
  grind -ring -linarith -lia -order [execWalkComplete, State.retryWaiting_canonical, State.resumeHeld_canonical,
    State.releaseAll_canonical, foldl_canonical, foldl_fst_canonical, yields_next]

theorem execLocaltimeout_yields {P : Prop} (tag) (s : State) (hs : P → s.Canonical) :
    Yields P (execLocaltimeout tag s) := by
  grind -ring -linarith -lia -order [execLocaltimeout, State.contain_canonical, State.answerPieces_canonical,
    yields_next]

theorem execSeqack_yields {P : Prop} (p) (s : State) (hs : P → s.Canonical) :
    Yields P (execSeqack p s) := by
  grind -ring -linarith -lia -order [execSeqack, State.discard_canonical, State.wakePosts_canonical,
    State.moveAll_canonical, State.putTx_canonical, yields_next]

theorem execSeqackTimer_yields {P : Prop} (k) (s : State) (hs : P → s.Canonical) :
    Yields P (execSeqackTimer k s) := by
  grind -ring -linarith -lia -order [execSeqackTimer, State.sendSeqack_canonical, yields_next]

theorem execPairBreak_yields {P : Prop} (k) (s : State) (hs : P → s.Canonical) :
    Yields P (execPairBreak k s) := by
  grind -ring -linarith -lia -order [execPairBreak, State.restartPair_canonical, State.putTx_canonical,
    State.contain_canonical, State.finishAsk_canonical, State.wakePosts_canonical, State.moveAll_canonical,
    State.post_canonical, foldl_canonical, foldl_fst_canonical, yields_next]

theorem execMcwrite_yields {P : Prop} (p) (s : State) (hs : P → s.Canonical) :
    Yields P (execMcwrite p s) := by
  grind -ring -linarith -lia -order [execMcwrite, State.discard_canonical, State.serveMcast_canonical,
    State.freshGrants_canonical, yields_next]

theorem execMcreply_yields {P : Prop} (p) (s : State) (hs : P → s.Canonical) :
    Yields P (execMcreply p s) := by
  grind -ring -linarith -lia -order [execMcreply, State.discard_canonical, State.takeAnswer_canonical, yields_next]

theorem execRedresult_yields {P : Prop} (p) (s : State) (hs : P → s.Canonical) :
    Yields P (execRedresult p s) := by
  grind -ring -linarith -lia -order [execRedresult, State.discard_canonical, State.putCommand_canonical,
    foldl_canonical, foldl_fst_canonical, yields_next]

theorem State.querySwitches_canonical (s : State) (plane) (hs : s.Canonical) :
    (State.querySwitches s plane).Canonical := by
  grind -ring -linarith -lia -order [State.querySwitches, State.emitLoose_canonical, foldl_canonical,
    foldl_fst_canonical]

theorem State.queryAll_canonical (s : State) (hs : s.Canonical) :
    (State.queryAll s).Canonical := by
  grind -ring -linarith -lia -order [State.queryAll, State.querySwitches_canonical, foldl_canonical,
    foldl_fst_canonical]

theorem State.sendSwitchKey_canonical (s : State) (r ctx d) (hs : s.Canonical) :
    (State.sendSwitchKey s r ctx d).Canonical := by
  grind -ring -linarith -lia -order [State.sendSwitchKey, State.emitLoose_canonical, foldl_canonical,
    foldl_fst_canonical]

theorem execSwattest_yields {P : Prop} (r) (s : State) (hs : P → s.Canonical) :
    Yields P (execSwattest r s) := by
  grind -ring -linarith -lia -order [execSwattest, State.sendSwitchKey_canonical, foldl_canonical,
    foldl_fst_canonical, yields_next]

theorem State.requestRetry_canonical (s : State) (i) (hs : s.Canonical) :
    (State.requestRetry s i).Canonical := by
  grind -ring -linarith -lia -order [State.requestRetry, State.emitFrames_canonical, State.putPort_canonical]

theorem State.retryPassed_canonical (s : State) (i) (hs : s.Canonical) :
    (State.retryPassed s i).Canonical := by
  grind -ring -linarith -lia -order [State.retryPassed, State.contain_canonical, State.putPort_canonical]

theorem State.takeFlit_canonical (s : State) (i flit) (hs : s.Canonical) :
    (State.takeFlit s i flit).Canonical := by
  grind -ring -linarith -lia -order [State.takeFlit, State.takeBuffered_canonical, State.putPort_canonical]

theorem execDataFrame_yields {P : Prop} (port f) (s : State) (hs : P → s.Canonical) :
    Yields P (execDataFrame port f s) := by
  grind -ring -linarith -lia -order [execDataFrame, State.requestRetry_canonical, State.retryPassed_canonical,
    State.setStops_canonical, State.moveAll_canonical, State.takeFlit_canonical, State.putPort_canonical, yields_next]

theorem execIdleFrame_yields {P : Prop} (port f) (s : State) (hs : P → s.Canonical) :
    Yields P (execIdleFrame port f s) := by
  grind -ring -linarith -lia -order [execIdleFrame, State.requestRetry_canonical, State.moveAll_canonical,
    State.putPort_canonical, yields_next]

theorem execRetryRequest_yields {P : Prop} (port f) (s : State) (hs : P → s.Canonical) :
    Yields P (execRetryRequest port f s) := by
  grind -ring -linarith -lia -order [execRetryRequest, State.requestRetry_canonical, State.moveAll_canonical,
    State.emitFrames_canonical, State.putPort_canonical, yields_next]

theorem execPortRetrain_yields {P : Prop} (port) (s : State) (hs : P → s.Canonical) :
    Yields P (execPortRetrain port s) := by
  grind -ring -linarith -lia -order [execPortRetrain, State.putPort_canonical, yields_next]

theorem execPortDown_yields {P : Prop} (port) (s : State) (hs : P → s.Canonical) :
    Yields P (execPortDown port s) := by
  grind -ring -linarith -lia -order [execPortDown, State.moveAll_canonical, State.contain_canonical,
    State.putPort_canonical, yields_next]

theorem execPortTrained_yields {P : Prop} (port) (s : State) (hs : P → s.Canonical) :
    Yields P (execPortTrained port s) := by
  grind -ring -linarith -lia -order [execPortTrained, State.idlePort_canonical, State.emitFrames_canonical,
    State.putPort_canonical, State.moveAll_canonical, State.queryAll_canonical, yields_next]

/-! ### Apply -/

theorem State.fabricError_canonical (s : State) (code detail) (hs : s.Canonical) :
    (State.fabricError s code detail).Canonical := by
  grind -ring -linarith -lia -order [State.fabricError, State.errorRecord_canonical]

theorem State.emptied_canonical (s : State) (hs : s.Canonical) :
    (State.emptied s).Canonical := by
  grind -ring -linarith -lia -order [State.emptied, State.setStops_canonical, State.takePorts_canonical]

theorem State.stopApplying_canonical (s : State) (hs : s.Canonical) :
    (State.stopApplying s).Canonical := by
  grind -ring -linarith -lia -order [State.stopApplying, State.emptied_canonical]

theorem State.openRound_canonical (s : State) (o p) (hs : s.Canonical) :
    (State.openRound s o p).Canonical := by
  grind -ring -linarith -lia -order [State.openRound, State.post_canonical]

theorem State.openRounds_canonical (s : State) (o loss wasOpen) (hs : s.Canonical) :
    (State.openRounds s o loss wasOpen).Canonical := by
  grind -ring -linarith -lia -order [State.openRounds, State.openRound_canonical]

theorem State.expel_canonical (s : State) (o majority out) (hs : s.Canonical) :
    (State.expel s o majority out).Canonical := by
  grind -ring -linarith -lia -order [State.expel, State.post_canonical, foldl_canonical, foldl_fst_canonical]

theorem State.settleSelf_canonical (s : State) (before) (hs : s.Canonical) :
    (State.settleSelf s before).Canonical := by
  grind -ring -linarith -lia -order [State.settleSelf, State.stopApplying_canonical]

theorem State.settleRound_canonical (s : State) (q w snap) (hs : s.Canonical) :
    (State.settleRound s q w snap).Canonical := by
  fun_cases State.settleRound s q w snap <;> grind -ring -linarith -lia -order [State.settleSelf_canonical,
    State.expel_canonical, State.recover_canonical, foldl_canonical, foldl_fst_canonical]

theorem State.startVerdict_canonical (s : State) (q) (hs : s.Canonical) :
    (State.startVerdict s q).Canonical := by
  grind -ring -linarith -lia -order [State.startVerdict, State.serviceRequest_canonical, State.resolveSplit_canonical]

theorem State.closeRound_canonical (s : State) (q) (hs : s.Canonical) :
    (State.closeRound s q).Canonical := by
  grind -ring -linarith -lia -order [State.closeRound, State.settleRound_canonical, State.startVerdict_canonical]

theorem State.takeDigest_canonical (s : State) (r) (hs : s.Canonical) :
    (State.takeDigest s r).Canonical := by
  grind -ring -linarith -lia -order [State.takeDigest, State.closeRound_canonical]

theorem State.takeClose_canonical (s : State) (r) (hs : s.Canonical) :
    (State.takeClose s r).Canonical := by
  grind -ring -linarith -lia -order [State.takeClose, State.closeRound_canonical]

theorem State.takeVerdict_canonical (s : State) (r) (hs : s.Canonical) :
    (State.takeVerdict s r).Canonical := by
  grind -ring -linarith -lia -order [State.takeVerdict, State.settleRound_canonical]

theorem State.launchDone_canonical (s : State) (r code) (hs : s.Canonical) :
    (State.launchDone s r code).Canonical := by
  grind -ring -linarith -lia -order [State.launchDone, State.putCommand_canonical]

theorem State.takeSubmit_canonical (s : State) (r) (hs : s.Canonical) :
    (State.takeSubmit s r).Canonical := by
  grind -ring -linarith -lia -order [State.takeSubmit, State.launchDone_canonical, State.fabricError_canonical]

theorem State.takeAdmit_canonical (s : State) (r) (hs : s.Canonical) :
    (State.takeAdmit s r).Canonical := by
  grind -ring -linarith -lia -order [State.takeAdmit]

theorem State.takeCapacity_canonical (s : State) (r) (hs : s.Canonical) :
    (State.takeCapacity s r).Canonical := by
  grind -ring -linarith -lia -order [State.takeCapacity]

theorem State.takeExpel_canonical (s : State) (r) (hs : s.Canonical) :
    (State.takeExpel s r).Canonical := by
  grind -ring -linarith -lia -order [State.takeExpel]

theorem State.effect_canonical (s : State) (r) (hs : s.Canonical) :
    (State.effect s r).Canonical := by
  grind -ring -linarith -lia -order [State.effect, State.takeSubmit_canonical, State.takeAdmit_canonical,
    State.takeExpel_canonical, State.takeCapacity_canonical, State.takeDigest_canonical, State.takeClose_canonical,
    State.takeVerdict_canonical]

theorem State.openGate_canonical (s : State) (g) (hs : s.Canonical) :
    (State.openGate s g).Canonical := by
  grind -ring -linarith -lia -order [State.openGate, State.wakeBlockOf_canonical, State.putGroup_canonical,
    foldl_canonical, foldl_fst_canonical]

theorem State.latchGates_canonical (s : State) (old faulted) (hs : s.Canonical) :
    (State.latchGates s old faulted).Canonical := by
  grind -ring -linarith -lia -order [State.latchGates]

theorem State.openGates_canonical (s : State) (old) (hs : s.Canonical) :
    (State.openGates s old).Canonical := by
  grind -ring -linarith -lia -order [State.openGates, State.openGate_canonical, foldl_canonical, foldl_fst_canonical]

theorem State.noteSignal_canonical (s : State) (grid answer sent) (hs : s.Canonical) :
    (State.noteSignal s grid answer sent).Canonical := by
  grind -ring -linarith -lia -order [State.noteSignal]

theorem State.trySignal_canonical (s : State) (grid) (hs : s.Canonical) :
    (State.trySignal s grid).Canonical := by
  grind -ring -linarith -lia -order [State.trySignal, State.serve_canonical, State.noteSignal_canonical,
    State.ask_canonical]

theorem State.oweSignals_canonical (s : State) (hs : s.Canonical) :
    (State.oweSignals s).Canonical := by
  grind -ring -linarith -lia -order [State.oweSignals, State.trySignal_canonical, foldl_canonical,
    foldl_fst_canonical]

theorem State.launchNode_canonical (s : State) (k) (hs : s.Canonical) :
    (State.launchNode s k).Canonical := by
  grind -ring -linarith -lia -order [State.launchNode, State.post_canonical, State.fabricError_canonical]

theorem State.launchNodes_canonical (s : State) (old) (hs : s.Canonical) :
    (State.launchNodes s old).Canonical := by
  grind -ring -linarith -lia -order [State.launchNodes, State.launchNode_canonical, foldl_canonical,
    foldl_fst_canonical]

theorem State.remapped_canonical (s : State) (old) (hs : s.Canonical) :
    (State.remapped s old).Canonical := by
  grind -ring -linarith -lia -order [State.remapped]

theorem State.dieMaps_canonical (s : State) (old r) (hs : s.Canonical) :
    (State.dieMaps s old r).Canonical := by
  grind -ring -linarith -lia -order [State.dieMaps, State.moveAll_canonical, State.remapped_canonical]

theorem State.react_canonical (s : State) (old r) (hs : s.Canonical) :
    (State.react s old r).Canonical := by
  grind -ring -linarith -lia -order [State.react, State.latchGates_canonical, State.dieMaps_canonical,
    State.abortLost_canonical, State.releaseAll_canonical, State.wakePosts_canonical, State.openGates_canonical,
    State.enact_canonical, State.launchNodes_canonical, State.oweSignals_canonical, State.appliedBlock_canonical]

theorem State.logRecord_canonical (s : State) (r) (hs : s.Canonical) :
    (State.logRecord s r).Canonical := by
  grind -ring -linarith -lia -order [State.logRecord]

theorem State.applyRecord_canonical (s : State) (r) (hs : s.Canonical) :
    (State.applyRecord s r).Canonical := by
  grind -ring -linarith -lia -order [State.applyRecord, State.openRounds_canonical, State.logRecord_canonical,
    State.fabricError_canonical, State.launchDone_canonical, State.stopApplying_canonical, State.effect_canonical,
    State.react_canonical]

theorem State.applyHead_canonical (s : State) (mine) (hs : s.Canonical) :
    (State.applyHead s mine).Canonical := by
  grind -ring -linarith -lia -order [State.applyHead, State.applyRecord_canonical]

theorem State.passUnassigned_canonical (n) (n' : State) (hn' : n'.Canonical) :
    (State.passUnassigned n n').Canonical := by
  fun_induction State.passUnassigned n n' <;> grind -ring -linarith -lia -order [State.applyHead_canonical]

theorem State.queued_canonical (s : State) (hs : s.Canonical) :
    (State.queued s).Canonical := by
  grind -ring -linarith -lia -order [State.queued, State.setStops_canonical, State.takePorts_canonical,
    State.passUnassigned_canonical]

theorem State.applyNext_yields {P : Prop} (s : State) (mine) (hs : P → s.Canonical) :
    Yields P (State.applyNext s mine) := by
  grind -ring -linarith -lia -order [State.applyNext, State.queued_canonical, State.applyHead_canonical, yields_next]

theorem execSignalOrDone_yields {P : Prop} (grid) (s : State) (hs : P → s.Canonical) :
    Yields P (execSignalOrDone grid s) := by
  grind -ring -linarith -lia -order [execSignalOrDone, State.trySignal_canonical, State.fabricError_canonical,
    State.post_canonical, yields_next]

/-! ### Current -/

theorem State.askNext_canonical (s : State) (snapshot first last l) (hs : s.Canonical) :
    (State.askNext s snapshot first last l).Canonical := by
  fun_cases State.askNext s snapshot first last l <;> grind -ring -linarith -lia -order [State.sendSync_canonical]

theorem State.beginRejoin_canonical (s : State) (hs : s.Canonical) :
    (State.beginRejoin s).Canonical := by
  grind -ring -linarith -lia -order [State.beginRejoin, State.emptied_canonical, State.emitLoose_canonical,
    State.askNext_canonical, foldl_canonical, foldl_fst_canonical]

theorem State.nextCandidate_canonical (s : State) (hs : s.Canonical) :
    (State.nextCandidate s).Canonical := by
  grind -ring -linarith -lia -order [State.nextCandidate, State.askNext_canonical, State.beginRejoin_canonical,
    State.stopApplying_canonical]

theorem execEvent_yields {P : Prop} (r) (s : State) (hs : P → s.Canonical) :
    Yields P (execEvent r s) := by
  grind -ring -linarith -lia -order [execEvent, State.beginRejoin_canonical, State.queued_canonical, yields_next]

theorem execTailFetch_yields {P : Prop} (s : State) (hs : P → s.Canonical) :
    Yields P (execTailFetch s) := by
  grind -ring -linarith -lia -order [execTailFetch, State.askNext_canonical, yields_next]

theorem execTailRequest_yields {P : Prop} (chip id first last) (s : State) (hs : P → s.Canonical) :
    Yields P (execTailRequest chip id first last s) := by
  grind -ring -linarith -lia -order [execTailRequest, State.sendSync_canonical, yields_next]

theorem State.replay_canonical (s : State) (tail) (hs : s.Canonical) :
    (State.replay s tail).Canonical := by
  grind -ring -linarith -lia -order [State.replay, State.queued_canonical]

theorem execTailData_yields {P : Prop} (chip id recs) (s : State) (hs : P → s.Canonical) :
    Yields P (execTailData chip id recs s) := by
  grind -ring -linarith -lia -order [execTailData, State.nextCandidate_canonical, State.replay_canonical,
    State.queued_canonical, foldl_canonical, foldl_fst_canonical, yields_next]

theorem execSnapshotRequest_yields {P : Prop} (chip id opening) (s : State) (hs : P → s.Canonical) :
    Yields P (execSnapshotRequest chip id opening s) := by
  grind -ring -linarith -lia -order [execSnapshotRequest, State.sendSync_canonical, yields_next]

theorem execSnapshotData_yields {P : Prop} (chip id stream) (s : State) (hs : P → s.Canonical) :
    Yields P (execSnapshotData chip id stream s) := by
  grind -ring -linarith -lia -order [execSnapshotData, State.nextCandidate_canonical, State.remapped_canonical,
    yields_next]

theorem execNotHeld_yields {P : Prop} (chip id) (s : State) (hs : P → s.Canonical) :
    Yields P (execNotHeld chip id s) := by
  grind -ring -linarith -lia -order [execNotHeld, State.nextCandidate_canonical, yields_next]

theorem execTransferTimeout_yields {P : Prop} (s : State) (hs : P → s.Canonical) :
    Yields P (execTransferTimeout s) := by
  grind -ring -linarith -lia -order [execTransferTimeout, State.nextCandidate_canonical, yields_next]

theorem execCandidateSilence_yields {P : Prop} (s : State) (hs : P → s.Canonical) :
    Yields P (execCandidateSilence s) := by
  grind -ring -linarith -lia -order [execCandidateSilence, State.nextCandidate_canonical, yields_next]

theorem execSoundwaitExpiry_yields {P : Prop} (s : State) (hs : P → s.Canonical) :
    Yields P (execSoundwaitExpiry s) := by
  grind -ring -linarith -lia -order [execSoundwaitExpiry, State.post_canonical, yields_next]

theorem execExpelwaitExpiry_yields {P : Prop} (chip) (s : State) (hs : P → s.Canonical) :
    Yields P (execExpelwaitExpiry chip s) := by
  grind -ring -linarith -lia -order [execExpelwaitExpiry, State.post_canonical, yields_next]

theorem State.fetchRejoinTail_canonical (s : State) (hs : s.Canonical) :
    (State.fetchRejoinTail s).Canonical := by
  grind -ring -linarith -lia -order [State.fetchRejoinTail, State.replay_canonical, State.askNext_canonical]

theorem State.endReplay_canonical (s : State) (hs : s.Canonical) :
    (State.endReplay s).Canonical := by
  grind -ring -linarith -lia -order [State.endReplay, State.post_canonical]

theorem execRejoin_yields {P : Prop} (s : State) (hs : P → s.Canonical) :
    Yields P (execRejoin s) := by
  grind -ring -linarith -lia -order [execRejoin, State.beginRejoin_canonical, State.fetchRejoinTail_canonical,
    State.endReplay_canonical, yields_next]

theorem execNosnapshot_yields {P : Prop} (s : State) (hs : P → s.Canonical) :
    Yields P (execNosnapshot s) := by
  grind -ring -linarith -lia -order [execNosnapshot, State.fabricError_canonical, yields_next]

/-! ### Lane -/

theorem State.shuffle_answers {P : Prop} (s : State) (y n d a ok j) (hs : P → s.Canonical) :
    Answers P s (State.shuffle s y n d a ok j) := by
  grind -ring -linarith -lia -order [State.shuffle, State.retire_yields, State.issue_answers, State.need_yields,
    Answers]

theorem State.shflIdx_answers {P : Prop} (s : State) (y n d a b) (hs : P → s.Canonical) :
    Answers P s (State.shflIdx s y n d a b) := by
  grind -ring -linarith -lia -order [State.shflIdx, State.shuffle_answers, Answers]

theorem State.shflXor_answers {P : Prop} (s : State) (y n d a b) (hs : P → s.Canonical) :
    Answers P s (State.shflXor s y n d a b) := by
  grind -ring -linarith -lia -order [State.shflXor, State.shuffle_answers, Answers]

theorem State.shflUp_answers {P : Prop} (s : State) (y n d a b) (hs : P → s.Canonical) :
    Answers P s (State.shflUp s y n d a b) := by
  grind -ring -linarith -lia -order [State.shflUp, State.shuffle_answers, Answers]

theorem State.shflDn_answers {P : Prop} (s : State) (y n d a b) (hs : P → s.Canonical) :
    Answers P s (State.shflDn s y n d a b) := by
  grind -ring -linarith -lia -order [State.shflDn, State.shuffle_answers, Answers]

theorem State.vbcast_answers {P : Prop} (s : State) (y n d a b) (hs : P → s.Canonical) :
    Answers P s (State.vbcast s y n d a b) := by
  grind -ring -linarith -lia -order [State.vbcast, State.shuffle_answers, Answers]

theorem State.reduce_answers {P : Prop} (s : State) (y scan n d a o t) (hs : P → s.Canonical) :
    Answers P s (State.reduce s y scan n d a o t) := by
  grind -ring -linarith -lia -order [State.reduce, State.retire_yields, State.issue_answers, State.need_yields,
    Answers]

/-! ### Mailbox -/

theorem State.stage_canonical (s : State) (off bs) (hs : s.Canonical) :
    (State.stage s off bs).Canonical := by
  grind -ring -linarith -lia -order [State.stage]

theorem State.mailEnds_canonical (s : State) (status) (hs : s.Canonical) :
    (State.mailEnds s status).Canonical := by
  grind -ring -linarith -lia -order [State.mailEnds]

theorem State.mail_yields {P : Prop} (s : State) (h code) (k : Nat → State × Nat) (hs : P → s.Canonical) (hk : ∀ n, P
  → (k n).1.Canonical) : Yields P (s.mail h code k) := by
  grind -ring -linarith -lia -order [State.mail, State.mailEnds_canonical, yields_next]

theorem State.fwMail_yields {P : Prop} (s : State) (h code) (k : State × Nat) (hs : P → s.Canonical) (hk : P →
  k.1.Canonical) : Yields P (s.fwMail h code k) := by
  grind -ring -linarith -lia -order [State.fwMail, State.mail_yields]

theorem execAttest_yields {P : Prop} (h) (s : State) (hs : P → s.Canonical) :
    Yields P (execAttest h s) := by
  grind -ring -linarith -lia -order [execAttest, State.stage_canonical, State.mail_yields]

theorem execKemkey_yields {P : Prop} (h) (s : State) (hs : P → s.Canonical) :
    Yields P (execKemkey h s) := by
  grind -ring -linarith -lia -order [execKemkey, State.stage_canonical, State.fwMail_yields]

theorem State.rebooted_canonical (s : State) (hs : s.Canonical) :
    (State.rebooted s).Canonical := by
  grind -ring -linarith -lia -order [State.rebooted, State.takeConfig_canonical, State.selfTest_canonical,
    State.warmed_canonical, State.startUnits_canonical]

theorem execLoadrun_yields {P : Prop} (h) (s : State) (hs : P → s.Canonical) :
    Yields P (execLoadrun h s) := by
  grind -ring -linarith -lia -order [execLoadrun, State.rebooted_canonical, State.runImage_canonical,
    State.mail_yields]

theorem State.writeSlot_canonical (s : State) (slot) (hs : s.Canonical) :
    (State.writeSlot s slot).Canonical := by
  grind -ring -linarith -lia -order [State.writeSlot]

theorem execUpdate_yields {P : Prop} (h) (s : State) (hs : P → s.Canonical) :
    Yields P (execUpdate h s) := by
  grind -ring -linarith -lia -order [execUpdate, State.writeSlot_canonical, State.mail_yields]

theorem execRaisemin_yields {P : Prop} (h) (s : State) (hs : P → s.Canonical) :
    Yields P (execRaisemin h s) := by
  grind -ring -linarith -lia -order [execRaisemin, State.mail_yields]

theorem execBadCommand_yields {P : Prop} (h) (s : State) (hs : P → s.Canonical) :
    Yields P (execBadCommand h s) := by
  grind -ring -linarith -lia -order [execBadCommand, State.mailEnds_canonical, yields_next]

theorem State.putCtx_canonical (s : State) (n d) (hs : s.Canonical) :
    (State.putCtx s n d).Canonical := by
  grind -ring -linarith -lia -order [State.putCtx]

theorem execCtxopen_yields {P : Prop} (h) (s : State) (hs : P → s.Canonical) :
    Yields P (execCtxopen h s) := by
  grind -ring -linarith -lia -order [execCtxopen, State.putCtx_canonical, State.fwMail_yields]

theorem execKeyload_yields {P : Prop} (h) (s : State) (hs : P → s.Canonical) :
    Yields P (execKeyload h s) := by
  refine State.fwMail_yields _ _ _ _ hs fun hp => ?_
  have hcan := hs hp
  split
  · exact hcan
  · refine fst_canonical_ite hcan (fst_canonical_ite hcan (fst_canonical_ite hcan ?_))
    split
    · exact hcan
    · exact hcan
    · refine canonical_ite (State.queryAll_canonical _ ?_) ?_
      all_goals exact State.putCtx_canonical _ _ _ (State.loadSlot_canonical _ _ _ hcan)

theorem State.disarm_canonical (s : State) (n) (hs : s.Canonical) :
    (State.disarm s n).Canonical := by
  grind -ring -linarith -lia -order [State.disarm]

theorem execCtxclose_yields {P : Prop} (h) (s : State) (hs : P → s.Canonical) :
    Yields P (execCtxclose h s) := by
  grind -ring -linarith -lia -order [execCtxclose, State.putCtx_canonical, State.disarm_canonical,
    State.fwMail_yields]

theorem State.dropSlotLines_canonical (s : State) (slot) (hs : s.Canonical) :
    (State.dropSlotLines s slot).Canonical := by
  grind -ring -linarith -lia -order [State.dropSlotLines, State.putBlock_canonical, foldl_canonical,
    foldl_fst_canonical]

theorem State.putSweep_canonical (s : State) (n w) (hs : s.Canonical) :
    (State.putSweep s n w).Canonical := by
  grind -ring -linarith -lia -order [State.putSweep]

theorem State.listFrame_canonical (s : State) (n f kind) (hs : s.Canonical) :
    (State.listFrame s n f kind).Canonical := by
  grind -ring -linarith -lia -order [State.listFrame, State.putSweep_canonical]

theorem State.sweepFrame_canonical (s : State) (n f) (hs : s.Canonical) :
    (State.sweepFrame s n f).Canonical := by
  grind -ring -linarith -lia -order [State.sweepFrame, State.listFrame_canonical, State.tellHost_canonical,
    MemState.clearFrame_canonical, State.putSweep_canonical, State.retireFrame_canonical]

theorem State.sweepAll_canonical (s : State) (n fs) (hs : s.Canonical) :
    (State.sweepAll s n fs).Canonical := by
  grind -ring -linarith -lia -order [State.sweepAll, State.sweepFrame_canonical, State.putSweep_canonical,
    foldl_canonical, foldl_fst_canonical]

theorem State.giveReceipt_canonical (s : State) (n nonce) (hs : s.Canonical) :
    (State.giveReceipt s n nonce).Canonical := by
  grind -ring -linarith -lia -order [State.giveReceipt, State.stage_canonical]

theorem execErase_yields {P : Prop} (h) (s : State) (hs : P → s.Canonical) :
    Yields P (execErase h s) := by
  grind -ring -linarith -lia -order [execErase, State.putSlot_canonical, State.dropSlotLines_canonical,
    State.putCtx_canonical, State.putSweep_canonical, State.fwMail_yields]

theorem execSweep_yields {P : Prop} (h) (s : State) (hs : P → s.Canonical) :
    Yields P (execSweep h s) := by
  grind -ring -linarith -lia -order [execSweep, State.sweepAll_canonical, State.fwMail_yields]

theorem execReceipt_yields {P : Prop} (h) (s : State) (hs : P → s.Canonical) :
    Yields P (execReceipt h s) := by
  grind -ring -linarith -lia -order [execReceipt, State.giveReceipt_canonical, State.fwMail_yields]

theorem State.rebindLoose_canonical (s : State) (slot) (hs : s.Canonical) :
    (State.rebindLoose s slot).Canonical := by
  grind -ring -linarith -lia -order [State.rebindLoose, foldl_canonical, foldl_fst_canonical]

theorem execRekey_yields {P : Prop} (h) (s : State) (hs : P → s.Canonical) :
    Yields P (execRekey h s) := by
  grind -ring -linarith -lia -order [execRekey, State.beginMoves_canonical, State.fwMail_yields]

theorem State.mailDone_canonical (s : State) (status) (hs : s.Canonical) :
    (State.mailDone s status).Canonical := by
  grind -ring -linarith -lia -order [State.mailDone]

theorem State.rekeyRound_canonical (s : State) (slot) (hs : s.Canonical) :
    (State.rekeyRound s slot).Canonical := by
  grind -ring -linarith -lia -order [State.rekeyRound, State.endMoves_canonical, State.beginMoves_canonical]

theorem execMailboxComplete_yields {P : Prop} (s : State) (hs : P → s.Canonical) :
    Yields P (execMailboxComplete s) := by
  grind -ring -linarith -lia -order [execMailboxComplete, State.dropSlotLines_canonical, State.mailDone_canonical,
    State.giveReceipt_canonical, State.sweepAll_canonical, State.rekeyRound_canonical, State.rebindLoose_canonical,
    State.putSlot_canonical, yields_next]

/-! ### Mask -/

theorem State.mask3_answers {P : Prop} (s : State) (y d a b f) (hs : P → s.Canonical) :
    Answers P s (State.mask3 s y d a b f) := by
  grind -ring -linarith -lia -order [State.mask3, State.plain_answers, Answers]

/-! ### Schedule -/

theorem State.tidy_canonical (s : State) (hs : s.Canonical) :
    (State.tidy s).Canonical := by
  grind -ring -linarith -lia -order [State.tidy, State.putSlot_canonical, State.cutOff_canonical,
    State.dropGrants_canonical, State.noteWrites_canonical, State.trackParks_canonical, State.syncHeaders_canonical,
    State.dropTasks_canonical, State.retireStep_canonical, foldl_canonical, foldl_fst_canonical]

theorem State.ticked_canonical (s : State) (hs : s.Canonical) :
    (State.ticked s).Canonical := by
  grind -ring -linarith -lia -order [State.ticked, foldl_canonical, foldl_fst_canonical]

theorem State.starts_canonical (s : State) (t) (hs : s.Canonical) :
    (State.starts s t).Canonical := by
  grind -ring -linarith -lia -order [State.starts, State.ticked_canonical]

theorem State.fresh_canonical (s : State) (hs : s.Canonical) :
    (State.fresh s).Canonical := by
  grind -ring -linarith -lia -order [State.fresh]

end Sys2Proof.Machine

/-! PROOFS. Every instruction and happening answers with a next state that keeps memory canonical, and so does every step:
the obligations O59 and O60. -/

namespace Sys2Proof.Machine

set_option Elab.async false

/-! ### What a memory access leaves of the cursor -/

theorem foldl_cursor {α : Type} (f : State → α → State) (hf : ∀ s a, (f s a).cursor = s.cursor) (l : List α) (s : State) :
    (l.foldl f s).cursor = s.cursor := by
  induction l generalizing s with
  | nil => rfl
  | cons a l ih => exact (ih _).trans (hf s a)

theorem foldl_fst_cursor {α β : Type} (f : State × β → α → State × β) (hf : ∀ s a, (f s a).1.cursor = s.1.cursor)
    (l : List α) (s : State × β) : (l.foldl f s).1.cursor = s.1.cursor := by
  induction l generalizing s with
  | nil => rfl
  | cons a l ih => exact (ih _).trans (hf s a)

@[simp] theorem State.freshGrants_cursor (s : State) (home object) :
    (State.freshGrants s home object).cursor = s.cursor := by
  grind [State.freshGrants]

@[simp] theorem State.discardHost_cursor (s : State) (ctx) : (State.discardHost s ctx).cursor = s.cursor := by
  grind [State.discardHost]

@[simp] theorem State.acquireSys_cursor (s : State) (g acquires scope) :
    (State.acquireSys s g acquires scope).cursor = s.cursor := by
  grind [State.acquireSys, State.discardHost_cursor]

@[simp] theorem State.contain_cursor (s : State) (die code severity unitKind check unitNum frame sector grid ctx gid pc tstat peer) :
    (State.contain s die code severity unitKind check unitNum frame sector grid ctx gid pc tstat peer).cursor = s.cursor := by
  grind [State.contain, State.errorRecord_cursor]

@[simp] theorem State.noPlaneRecord_cursor (s : State) (die chip) :
    (State.noPlaneRecord s die chip).cursor = s.cursor := by
  grind [State.noPlaneRecord, State.contain_cursor]

@[simp] theorem State.newTag_cursor (s : State) (a k) : (State.newTag s a k).1.cursor = s.cursor := by
  grind [State.newTag]

@[simp] theorem State.moveClass_cursor (s : State) (die chip old new cls) :
    (State.moveClass s die chip old new cls).cursor = s.cursor := by
  grind [State.moveClass, State.putTx_cursor]

@[simp] theorem State.takePlane_cursor (s : State) (die chip new) :
    (State.takePlane s die chip new).cursor = s.cursor := by
  grind [State.takePlane, State.moveClass_cursor]

@[simp] theorem State.putPort_cursor (s : State) (i p) : (State.putPort s i p).cursor = s.cursor := by
  grind [State.putPort]

@[simp] theorem State.emitFrames_cursor (s : State) (i kind es) :
    (State.emitFrames s i kind es).cursor = s.cursor := by
  grind [State.emitFrames, State.putPort_cursor]

@[simp] theorem State.emitOn_cursor (s : State) (i p) : (State.emitOn s i p).cursor = s.cursor := by
  grind [State.emitOn, State.putPort_cursor, State.emitFrames_cursor]

theorem State.emit_cursor (s : State) (p) {u} (hu : State.emit s p = some u) : u.cursor = s.cursor := by
  obtain ⟨i, -, rfl⟩ := Option.map_eq_some_iff.mp hu
  exact State.emitOn_cursor s i p

theorem State.sendNow_cursor (s : State) (k w p) {u} (hu : State.sendNow s k w p = some u) : u.1.cursor = s.cursor := by
  unfold State.sendNow at hu
  split at hu
  · obtain ⟨t, ht, rfl⟩ := Option.map_eq_some_iff.mp hu
    exact State.emit_cursor s _ ht
  · contradiction

@[simp] theorem State.pump_cursor (s : State) (die k w p) : (State.pump s die k w p).cursor = s.cursor := by
  unfold State.pump
  split
  · next t w' h =>
    split at h
    · exact (State.putTx_cursor _ _ _).trans (State.sendNow_cursor s k w p h)
    · contradiction
  · exact State.putTx_cursor _ _ _

@[simp] theorem State.ask_cursor (s : State) (die a p) : (State.ask s die a p).1.cursor = s.cursor := by
  grind [State.ask, State.noPlaneRecord_cursor, State.newTag_cursor, State.takePlane_cursor, State.pump_cursor]

@[simp] theorem State.askGrant_cursor (s : State) (q ptag) : (State.askGrant s q ptag).cursor = s.cursor := by
  grind [State.askGrant, State.ask_cursor]

@[simp] theorem State.useGrant_cursor (s : State) (q ptag) : (State.useGrant s q ptag).cursor = s.cursor := by
  grind [State.useGrant]

@[simp] theorem State.useHit_cursor (s : State) (blk line q) : (State.useHit s blk line q).cursor = s.cursor := by
  grind [State.useHit, State.useGrant_cursor]

@[simp] theorem State.checkStale_cursor (s : State) (f hit) : (State.checkStale s f hit).cursor = s.cursor := by
  grind [State.checkStale, State.contain_cursor, foldl_cursor, foldl_fst_cursor]

@[simp] theorem State.tellHost_cursor (s : State) (f offs) : (State.tellHost s f offs).cursor = s.cursor := by
  grind [State.tellHost]

@[simp] theorem State.storeForms_cursor (s : State) (f offs) : (State.storeForms s f offs).cursor = s.cursor := by
  grind [State.storeForms]

@[simp] theorem State.writeFrame_cursor (s : State) (f w) : (State.writeFrame s f w).cursor = s.cursor := by
  grind [State.writeFrame, State.checkStale_cursor, State.tellHost_cursor, State.storeForms_cursor, foldl_cursor,
    foldl_fst_cursor]

@[simp] theorem State.writeLineBack_cursor (s : State) (b line f off) :
    (State.writeLineBack s b line f off).cursor = s.cursor := by
  grind [State.writeLineBack, State.writeFrame_cursor]

@[simp] theorem State.recallLine_cursor (s : State) (f drop c) : (State.recallLine s f drop c).cursor = s.cursor := by
  grind [State.recallLine, State.writeLineBack_cursor, State.putBlock_cursor]

@[simp] theorem State.recall_cursor (s : State) (o off n f drop own) :
    (State.recall s o off n f drop own).cursor = s.cursor := by
  grind [State.recall, State.recallLine_cursor, foldl_cursor, foldl_fst_cursor]

@[simp] theorem State.bindFrame_cursor (s : State) (w t) : (State.bindFrame s w t).cursor = s.cursor := by
  grind [State.bindFrame]

@[simp] theorem State.pageWritten_cursor (s : State) (t off) : (State.pageWritten s t off).cursor = s.cursor := by
  grind [State.pageWritten]

@[simp] theorem State.appendHere_cursor (s : State) (log entry) :
    (State.appendHere s log entry).cursor = s.cursor := by
  grind [State.appendHere, State.recall_cursor, State.writeFrame_cursor, State.bindFrame_cursor,
    State.pageWritten_cursor]

@[simp] theorem State.logDenial_cursor (s : State) (q o off ptag kind) :
    (State.logDenial s q o off ptag kind).cursor = s.cursor := by
  grind [State.logDenial, State.appendHere_cursor]

@[simp] theorem State.denyHits_cursor (s : State) (blk q ps) : (State.denyHits s blk q ps).1.cursor = s.cursor := by
  grind [State.denyHits, State.useHit_cursor, State.logDenial_cursor, foldl_cursor, foldl_fst_cursor]

@[simp] theorem State.serviceRequest_cursor (s : State) (fn die part body) :
    (State.serviceRequest s fn die part body).cursor = s.cursor := by
  grind [State.serviceRequest]

@[simp] theorem State.reportFault_cursor (s : State) (e) : (State.reportFault s e).1.cursor = s.cursor := by
  grind [State.reportFault, State.serviceRequest_cursor]

@[simp] theorem State.reportFaults_cursor (s : State) : (State.reportFaults s).cursor = s.cursor := by
  grind [State.reportFaults, State.reportFault_cursor, foldl_cursor, foldl_fst_cursor]

theorem State.recordFault_cursor (s : State) (q o page kind) {u} (hu : State.recordFault s q o page kind = some u) :
    u.1.cursor = s.cursor := by
  grind [State.recordFault, State.reportFaults_cursor]

@[simp] theorem State.faultOf_cursor (s : State) (q o off kind) : (State.faultOf s q o off kind).1.cursor = s.cursor := by
  unfold State.faultOf
  split
  · next h => exact State.recordFault_cursor s q o _ kind h
  · rfl

@[simp] theorem State.copyPage_cursor (s : State) (src dst) : (State.copyPage s src dst).cursor = s.cursor := by
  grind [State.copyPage, State.checkStale_cursor, State.storeForms_cursor, State.tellHost_cursor]

@[simp] theorem State.copyOnWrite_cursor (s : State) (t o off) :
    (State.copyOnWrite s t o off).1.cursor = s.cursor := by
  grind [State.copyOnWrite, State.copyPage_cursor, State.recall_cursor]

@[simp] theorem State.findLeaf_cursor (s : State) (t o off shadow) :
    (State.findLeaf s t o off shadow).1.cursor = s.cursor := by
  grind [State.findLeaf, State.copyOnWrite_cursor]

@[simp] theorem State.cryptoRecord_cursor (s : State) (q o off frame c) : (State.cryptoRecord s q o off frame c).cursor = s.cursor :=
  State.errorRecord_cursor _ _ _ _ _ _

@[simp] theorem State.translate_cursor (s : State) (q o off writes shadow) :
    (State.translate s q o off writes shadow).1.cursor = s.cursor := by
  have hf := State.findLeaf_cursor s (s.objEntry o) o off shadow
  fun_cases State.translate s q o off writes shadow <;> grind [State.faultOf_cursor, State.errorRecord_cursor,
    State.cryptoRecord_cursor, State.askGrant_cursor, State.useGrant_cursor, State.bindFrame_cursor]

@[simp] theorem State.cacheHost_cursor (s : State) (ctx f off n) :
    (State.cacheHost s ctx f off n).cursor = s.cursor := by
  grind [State.cacheHost]

@[simp] theorem State.reach_cursor (s : State) (o off n leaf t drop own) :
    (State.reach s o off n leaf t drop own).cursor = s.cursor := by
  grind [State.reach, State.recall_cursor, State.cacheHost_cursor, State.checkStale_cursor]

@[simp] theorem State.fillLine_cursor (s : State) (blk line r q writes low) :
    (State.fillLine s blk line r q writes low).1.cursor = s.cursor := by
  grind [State.fillLine, State.askGrant_cursor, State.useHit_cursor, State.logDenial_cursor, State.translate_cursor,
    State.reach_cursor, State.putBlock_cursor]

@[simp] theorem State.stashTouched_cursor (s : State) (blk off n) :
    (State.stashTouched s blk off n).cursor = s.cursor := by
  grind [State.stashTouched]

@[simp] theorem State.wakeGroup_cursor (s : State) (k p h) : (State.wakeGroup s k p h).cursor = s.cursor := by
  grind [State.wakeGroup, State.putGroup_cursor]

@[simp] theorem State.barrierUpdate_cursor (s : State) (blk k) : (State.barrierUpdate s blk k).cursor = s.cursor := by
  grind [State.barrierUpdate, State.stashTouched_cursor, State.putBlock_cursor, State.wakeGroup_cursor, foldl_cursor,
    foldl_fst_cursor]

@[simp] theorem State.barriersTouched_cursor (s : State) (blk off n) :
    (State.barriersTouched s blk off n).cursor = s.cursor := by
  grind [State.barriersTouched, State.barrierUpdate_cursor, State.stashTouched_cursor, foldl_cursor, foldl_fst_cursor]

@[simp] theorem State.inStash_cursor (s : State) (blk b kind p) : (State.inStash s blk b kind p).1.cursor = s.cursor := by
  cases kind <;> grind [State.inStash, State.putBlock_cursor, State.barriersTouched_cursor]

@[simp] theorem State.passThrough_cursor (s : State) (blk off n) :
    (State.passThrough s blk off n).cursor = s.cursor := by
  grind [State.passThrough, State.writeFrame_cursor, State.putBlock_cursor]

@[simp] theorem State.atStash_cursor (s : State) (blk q kind low p) :
    (State.atStash s blk q kind low p).1.cursor = s.cursor := by
  grind [State.atStash, State.fillLine_cursor, State.inStash_cursor, State.passThrough_cursor]

@[simp] theorem State.stashPieces_cursor (s : State) (blk q kind all l l') :
    (State.stashPieces s blk q kind all l l').1.cursor = s.cursor := by
  induction l' generalizing s l with
  | nil => rfl
  | cons p ps ih => grind [State.stashPieces, State.atStash_cursor]

@[simp] theorem State.clearStash_cursor (s : State) (blk b sectors) :
    (State.clearStash s blk b sectors).cursor = s.cursor := by
  grind [State.clearStash, State.putBlock_cursor]

@[simp] theorem State.allAtStash_cursor (s : State) (blk q kind ps) :
    (State.allAtStash s blk q kind ps).1.cursor = s.cursor := by
  grind [State.allAtStash, State.askGrant_cursor, State.denyHits_cursor, State.stashPieces_cursor,
    State.clearStash_cursor, foldl_cursor, foldl_fst_cursor]

@[simp] theorem State.hold_cursor (s : State) (h core ps) : (State.hold s h core ps).1.cursor = s.cursor := by
  grind [State.hold]

@[simp] theorem State.atFrame_cursor (s : State) (kind f p) : (State.atFrame s kind f p).1.cursor = s.cursor := by
  cases kind <;> grind [State.atFrame, State.writeFrame_cursor]

@[simp] theorem State.allAtFrame_cursor (s : State) (kind f l) : (State.allAtFrame s kind f l).1.cursor = s.cursor := by
  induction l generalizing s with
  | nil => rfl
  | cons p ps ih => exact (ih _).trans (State.atFrame_cursor s kind f p)

@[simp] theorem State.clearCovered_cursor (s : State) (f ps) : (State.clearCovered s f ps).cursor = s.cursor := by
  grind [State.clearCovered]

@[simp] theorem State.serve_cursor (s : State) (q kind ps) : (State.serve s q kind ps).1.cursor = s.cursor := by
  have ht := State.translate_cursor s q
  cases ps <;> grind [State.serve, State.reach_cursor, State.allAtFrame_cursor, State.clearCovered_cursor,
    State.logDenial_cursor]

@[simp] theorem State.serveHere_cursor (s : State) (q kind ps) :
    (State.serveHere s q kind ps).1.cursor = s.cursor := by
  grind [State.serveHere, State.serve_cursor]

@[simp] theorem State.sendPieces_cursor (s : State) (h q kind scope release ps) :
    (State.sendPieces s h q kind scope release ps).1.cursor = s.cursor := by
  grind [State.sendPieces, State.ask_cursor]

@[simp] theorem State.sendEach_cursor (s : State) (h q kind scope release l) :
    (State.sendEach s h q kind scope release l).1.cursor = s.cursor := by
  induction l generalizing s with
  | nil => rfl
  | cons p ps ih => exact (ih _).trans (State.sendPieces_cursor s h q kind scope release [p])

@[simp] theorem State.serveKeys_cursor (s : State) (h q kind scope release ps l) :
    (State.serveKeys s h q kind scope release ps l).1.cursor = s.cursor := by
  induction l generalizing s with
  | nil => rfl
  | cons k ks ih =>
    refine (ih _).trans ?_
    grind [State.serveHere_cursor, State.hold_cursor, State.sendEach_cursor, State.sendPieces_cursor]

@[simp] theorem State.access_cursor (s : State) (h g kind log scope release ps) :
    (State.access s h g kind log scope release ps).1.cursor = s.cursor := by
  grind [State.access, State.freshGrants_cursor, State.acquireSys_cursor, State.allAtStash_cursor, State.hold_cursor,
    State.serveKeys_cursor]

/-! ### Every instruction and happening -/

/-- Every instruction and happening gives a next state with memory canonical as before, unless the cursor names no group. -/
theorem exec_answers {P : Prop} (i : Instr) (s : State) (hs : P → s.Canonical) : Answers P s (exec i s) := by
  cases i
  case submit | fire | finishBlocksEnded | finishSignalWritten | block | resume | release | fault | share | loss |
      admitChip | expel | capacity | soundDigest | soundClose | soundVerdict =>
    unfold exec
    exact .inr (State.applyNext_yields _ _ hs)
  case sadd | ssub | smul | smulhI | smulhN | sdivI | sdivN | sremI | sremN | sand | sor | sxor | sandn | sshl | sshrN
      | sshrI | sror | sminI | sminN | smaxI | smaxN | sseq | ssne | ssltI | ssltN | ssleI | ssleN | slea4 | slea8 =>
    unfold exec
    exact State.scalar3_answers _ _ _ _ _ _ hs
  case spopc | sclz | sctz | saddi | sandi | sori | sxori | sshli | sshriN | sshriI | ssltiI | sli | slis =>
    unfold exec
    exact State.scalar2_answers _ _ _ _ _ hs
  case vadd | vsub | vmul | vmulhI | vmulhN | vand | vor | vxor | vandn | vshl | vshrN | vshrI | vminI | vminN | vmaxI
      | vmaxN =>
    unfold exec
    exact State.vec3_answers _ _ _ _ _ _ hs
  case vaddsI | vaddsN | vsubsI | vsubsN =>
    unfold exec
    exact State.vec3Flags_answers _ _ _ _ _ _ hs
  case vdot4I8 | vdot4N8 =>
    unfold exec
    exact State.vecAcc_answers _ _ _ _ _ _ hs
  case vpopc | vclz | vmov | vaddi | vandi | vori | vxori | vshli | vshriN | vshriI | vlih =>
    unfold exec
    exact State.vec2_answers _ _ _ _ _ hs
  case vceq | vcne | vcltI | vcltN | vcleI | vcleN =>
    unfold exec
    exact State.vecCompare_answers _ _ _ _ _ _ hs
  case vdup | vmovi | mtov | vli =>
    unfold exec
    exact State.lanes1_answers _ _ _ _ _ hs
  case vaddI64 | vsubI64 | vshlI64 | vshrN64 | vshrI64 =>
    unfold exec
    exact State.pairs1_answers _ _ _ _ _ hs
  case fadd | fsub | fmul | faddRn | fsubRn | fmulRn =>
    unfold exec
    exact State.fp3_answers _ _ _ _ _ _ _ _ hs
  case ffma | ffms | ffmaRn =>
    unfold exec
    exact State.fpFma_answers _ _ _ _ _ _ _ _ hs
  case fmin | fmax | fabs | fneg | frnd =>
    unfold exec
    exact State.fpLanes_answers _ _ _ _ _ _ hs
  case fceq | fclt | fcle | fcun =>
    unfold exec
    exact State.fpCompare_answers _ _ _ _ _ _ _ hs
  case fdiv | fsqrt =>
    unfold exec
    exact State.fpPend_answers _ _ _ _ _ _ hs
  case frcp | frsq | fexp2 | flog2 | fsin | fcos | ftanh =>
    unfold exec
    exact State.sfu_answers _ _ _ _ _ hs
  case hadd2F16 | hmul2F16 | hfma2F16 | hadd2Bf16 | hmul2Bf16 | hfma2Bf16 =>
    unfold exec
    exact State.half_answers _ _ _ _ _ _ _ hs
  case xshp | xflag | mpopc | mfirst | mswap | voteAny | voteAll | voteBal | cget | cstash | winb | rgn | rgnx =>
    unfold exec
    exact State.plain_answers _ _ _ _ hs
  case xzero | xidn | xget | xput | xmov | xtrn | xscl | xchol | xsolv | xinv | xdet =>
    unfold exec
    exact State.smu_answers _ _ _ _ hs
  case xadd | xsub =>
    unfold exec
    exact State.xElementwise_answers _ _ _ _ _ _ _ hs
  case xmul | xmad | xmult | xmv =>
    unfold exec
    exact State.smu3_answers _ _ _ _ _ _ _ hs
  case mand | mor | mxor | mandn | mnot | mmov =>
    unfold exec
    exact State.mask3_answers _ _ _ _ _ _ hs
  case mfromv =>
    unfold exec
    exact State.compare_answers _ _ _ _ _ hs
  case shflIdxW4 | shflIdxW8 | shflIdxW16 | shflIdxW32 | shflIdxW64 | shflIdxW96 =>
    unfold exec
    exact State.shflIdx_answers _ _ _ _ _ _ hs
  case shflXorW4 | shflXorW8 | shflXorW16 | shflXorW32 | shflXorW64 | shflXorW96 =>
    unfold exec
    exact State.shflXor_answers _ _ _ _ _ _ hs
  case shflUpW4 | shflUpW8 | shflUpW16 | shflUpW32 | shflUpW64 | shflUpW96 =>
    unfold exec
    exact State.shflUp_answers _ _ _ _ _ _ hs
  case shflDnW4 | shflDnW8 | shflDnW16 | shflDnW32 | shflDnW64 | shflDnW96 =>
    unfold exec
    exact State.shflDn_answers _ _ _ _ _ _ hs
  case vbcastW4 | vbcastW8 | vbcastW16 | vbcastW32 | vbcastW64 | vbcastW96 =>
    unfold exec
    exact State.vbcast_answers _ _ _ _ _ _ hs
  case vredW4 | vredW8 | vredW16 | vredW32 | vredW64 | vredW96 | vscanW4 | vscanW8 | vscanW16 | vscanW32 | vscanW64 |
      vscanW96 =>
    unfold exec
    exact State.reduce_answers _ _ _ _ _ _ _ _ hs
  case ldI | ldN | ldLI | ldLN | ldAcq =>
    unfold exec
    exact State.vecLoad_answers _ _ _ _ _ _ _ _ _ hs
  case sldI | sldN | sldAcq =>
    unfold exec
    exact State.scalarLoad_answers _ _ _ _ _ _ _ _ hs
  case stN | stLN | stRel =>
    unfold exec
    exact State.vecStore_answers _ _ _ _ _ _ _ _ _ hs
  case atomAdd | atomAnd | atomOr | atomXor | atomSwap | atomCas | atomMin | atomMax =>
    unfold exec
    exact State.atom_answers _ _ _ _ _ _ _ _ _ hs
  case csub | crgt | cmov | cclr =>
    unfold exec
    exact State.derive_answers _ _ _ _ _ hs
  case sunmap | sflush =>
    unfold exec
    exact State.flushRegion_answers _ _ _ _ hs
  case fenceAcqGroup | fenceAcqBlock | fenceAcqChip | fenceAcqPod | fenceRelGroup | fenceRelBlock | fenceRelChip |
      fenceRelPod | fenceRelSys | fenceFullGroup | fenceFullBlock | fenceFullChip | fenceFullPod =>
    unfold exec
    exact State.fence_answers _ _ hs
  case fenceAcqSys | fenceFullSys =>
    unfold exec
    exact State.fenceSys_answers _ _ hs
  case barInit | barArrive | barExpect =>
    unfold exec
    exact State.barrierForm_answers _ _ _ _ _ hs
  case mxR | mxS =>
    unfold exec
    exact State.mxMul_answers _ _ _ _ _ _ hs
  case cpy | cpyR =>
    unfold exec
    exact State.copy_answers _ _ _ _ _ _ hs
  case bsr | call =>
    unfold exec
    exact State.callTo_answers _ _ _ hs
  case brcZ | brcNz | brcLt | brcGe =>
    unfold exec
    exact State.branchOn_answers _ _ _ _ _ hs
  case brmZ | brmNz =>
    unfold exec
    exact State.branchSlices_answers _ _ _ _ _ hs
  case contextFault => exact .inr (execContextFault_yields _ _ _ hs)
  case powerOn => exact .inr (execPowerOn_yields _ _ hs)
  case coldReset => exact .inr (execColdReset_yields _ _ hs)
  case warmReset => exact .inr (execWarmReset_yields _ _ hs)
  case bootRomStart => exact .inr (execBootRomStart_yields _ _ hs)
  case powerWindow => exact .inr (execPowerWindow_yields _ _ hs)
  case thermalStep => exact .inr (execThermalStep_yields _ _ hs)
  case thermalHold => exact .inr (execThermalHold_yields _ _ _ hs)
  case thermtrip => exact .inr (execThermtrip_yields _ _ hs)
  case hostModuleTraining => exact .inr (execHostModuleTraining_yields _ _ hs)
  case submitWrite => exact .inr (execSubmitWrite_yields _ _ hs)
  case submitBufferDrain => exact .inr (execSubmitBufferDrain_yields _ hs)
  case subdropRead => exact .inr (execSubdropRead_yields _ _ hs)
  case errlostRead => exact .inr (execErrlostRead_yields _ _ hs)
  case errtailWrite => exact .inr (execErrtailWrite_yields _ _ hs)
  case svctailWrite => exact .inr (execSvctailWrite_yields _ _ hs)
  case pmodeWrite => exact .inr (execPmodeWrite_yields _ _ hs)
  case hostRegisterWrite => exact .inr (execHostRegisterWrite_yields _ _ hs)
  case serviceReply => exact .inr (execServiceReply_yields _ _ hs)
  case serviceRequest => exact .inr (execServiceRequest_yields _ hs)
  case svclate => exact .inr (execSvclate_yields _ _ hs)
  case attest => exact .inr (execAttest_yields _ _ hs)
  case loadrun => exact .inr (execLoadrun_yields _ _ hs)
  case update => exact .inr (execUpdate_yields _ _ hs)
  case raisemin => exact .inr (execRaisemin_yields _ _ hs)
  case badCommand => exact .inr (execBadCommand_yields _ _ hs)
  case kemkey => exact .inr (execKemkey_yields _ _ hs)
  case ctxopen => exact .inr (execCtxopen_yields _ _ hs)
  case keyload => exact .inr (execKeyload_yields _ _ hs)
  case ctxclose => exact .inr (execCtxclose_yields _ _ hs)
  case erase => exact .inr (execErase_yields _ _ hs)
  case sweep => exact .inr (execSweep_yields _ _ hs)
  case receipt => exact .inr (execReceipt_yields _ _ hs)
  case rekey => exact .inr (execRekey_yields _ _ hs)
  case mailboxComplete => exact .inr (execMailboxComplete_yields _ hs)
  case fwdog => exact .inr (execFwdog_yields _ _ hs)
  case dieDrop => exact .inr (execDieDrop_yields _ _ hs)
  case errorRetry => exact .inr (execErrorRetry_yields _ _ hs)
  case dataFrame => exact .inr (execDataFrame_yields _ _ _ hs)
  case idleFrame => exact .inr (execIdleFrame_yields _ _ _ hs)
  case retryRequest => exact .inr (execRetryRequest_yields _ _ _ hs)
  case portRetrain => exact .inr (execPortRetrain_yields _ _ hs)
  case portDown => exact .inr (execPortDown_yields _ _ hs)
  case portTrained => exact .inr (execPortTrained_yields _ _ hs)
  case read => exact .inr (execRead_yields _ _ hs)
  case write => exact .inr (execWrite_yields _ _ hs)
  case atomic => exact .inr (execAtomic_yields _ _ hs)
  case cpyput => exact .inr (execCpyput_yields _ _ hs)
  case task => exact .inr (execTask_yields _ _ hs)
  case readresp => exact .inr (execReadresp_yields _ _ hs)
  case writeack => exact .inr (execWriteack_yields _ _ hs)
  case atomresp => exact .inr (execAtomresp_yields _ _ hs)
  case seqack => exact .inr (execSeqack_yields _ _ hs)
  case seqackTimer => exact .inr (execSeqackTimer_yields _ _ hs)
  case pairBreak => exact .inr (execPairBreak_yields _ _ hs)
  case mcwrite => exact .inr (execMcwrite_yields _ _ hs)
  case mcreply => exact .inr (execMcreply_yields _ _ hs)
  case redresult => exact .inr (execRedresult_yields _ _ hs)
  case swattest => exact .inr (execSwattest_yields _ _ hs)
  case event => exact .inr (execEvent_yields _ _ hs)
  case tailFetch => exact .inr (execTailFetch_yields _ hs)
  case tailRequest => exact .inr (execTailRequest_yields _ _ _ _ _ hs)
  case tailData => exact .inr (execTailData_yields _ _ _ _ hs)
  case snapshotRequest => exact .inr (execSnapshotRequest_yields _ _ _ _ hs)
  case snapshotData => exact .inr (execSnapshotData_yields _ _ _ _ hs)
  case notHeld => exact .inr (execNotHeld_yields _ _ _ hs)
  case transferTimeout => exact .inr (execTransferTimeout_yields _ hs)
  case signalOrDone => exact .inr (execSignalOrDone_yields _ _ hs)
  case soundwaitExpiry => exact .inr (execSoundwaitExpiry_yields _ hs)
  case expelwaitExpiry => exact .inr (execExpelwaitExpiry_yields _ _ hs)
  case rejoin => exact .inr (execRejoin_yields _ hs)
  case nosnapshot => exact .inr (execNosnapshot_yields _ hs)
  case blockStart => exact .inr (execBlockStart_yields _ _ hs)
  case dormancy => exact .inr (execDormancy_yields _ _ hs)
  case blockEnd => exact .inr (execBlockEnd_yields _ _ hs)
  case taskGroupTimeout => exact .inr (execTaskGroupTimeout_yields _ _ hs)
  case activation => exact .inr (execActivation_yields _ _ hs)
  case registerFill => exact .inr (execRegisterFill_yields _ _ hs)
  case resultWrite => exact .inr (execResultWrite_yields _ _ hs)
  case trapDelivery => exact .inr (execTrapDelivery_yields _ _ hs)
  case quiescenceRelease => exact .inr (execQuiescenceRelease_yields _ _ _ hs)
  case waitReread => exact .inr (execWaitReread_yields _ _ _ hs)
  case waitDeadline => exact .inr (execWaitDeadline_yields _ _ _ hs)
  case sleepDeadline => exact .inr (execSleepDeadline_yields _ _ _ hs)
  case weirRequest => exact .inr (execWeirRequest_yields _ hs)
  case walkComplete => exact .inr (execWalkComplete_yields _ _ _ hs)
  case pageFaultWake => exact .inr (execPageFaultWake_yields _ _ _ _ hs)
  case pageFaultRefusal => exact .inr (execPageFaultRefusal_yields _ _ _ _ hs)
  case noWakeReplay => exact .inr (execNoWakeReplay_yields _ _ hs)
  case localtimeout => exact .inr (execLocaltimeout_yields _ _ hs)
  case publishComplete => exact .inr (execPublishComplete_yields _ _ hs)
  case engineComplete => exact .inr (execEngineComplete_yields _ _ _ hs)
  case messageArrival => exact .inr (execMessageArrival_yields _ _ _ hs)
  case saveDone => exact .inr (execSaveDone_yields _ _ hs)
  case restoreDone => exact .inr (execRestoreDone_yields _ _ hs)
  case saveRetry => exact .inr (execSaveRetry_yields _ _ hs)
  case thermalHoldEnd => exact .inr (execThermalHoldEnd_yields _ _ hs)
  case candidateSilence => exact .inr (execCandidateSilence_yields _ hs)
  case firmwareReadiness => exact .inr (execFirmwareReadiness_yields _ _ hs)
  case fcvt => exact execFcvt_answers _ _ _ _ _ _ _ _ hs
  case xld => exact execXld_answers _ _ _ _ _ _ hs
  case xst => exact execXst_answers _ _ _ _ _ _ hs
  case xlup => exact execXlup_answers _ _ _ _ _ hs
  case ldx => exact execLdx_answers _ _ _ _ _ _ hs
  case cld => exact execCld_answers _ _ _ _ _ hs
  case sstN => exact execSstN_answers _ _ _ _ _ _ hs
  case cst => exact execCst_answers _ _ _ _ _ hs
  case pref => exact execPref_answers _ _ _ _ hs
  case smap => exact execSmap_answers _ _ _ _ _ hs
  case barWait y a b =>
    rw [exec_barWait]
    exact execBarWait_answers y a b s hs
  case barArriveW y a b =>
    rw [exec_barArriveW]
    exact execBarArriveW_answers y a b s hs
  case mxjob => exact execMxjob_answers _ _ _ _ _ hs
  case mxza => exact execMxza_answers _ _ _ hs
  case mxlda => exact execMxlda_answers _ _ _ _ _ hs
  case mxst => exact execMxst_answers _ _ _ _ _ hs
  case coll => exact execColl_answers _ _ _ _ _ hs
  case nsend => exact execNsend_answers _ _ _ _ hs
  case pub => exact execPub_answers _ _ _ hs
  case post => exact execPost_answers _ _ _ _ _ hs
  case launch => exact execLaunch_answers _ _ _ _ hs
  case gate =>
    rw [exec_gate]
    exact execGate_answers _ _ hs
  case rlse => exact execRlse_answers _ _ hs
  case bclose => exact execBclose_answers _ _ _ hs
  case waitb =>
    rw [exec_waitb]
    exact execWaitb_answers _ _ _ hs
  case arm =>
    rw [exec_arm]
    exact execArm_answers _ _ _ _ _ hs
  case br => exact execBr_answers _ _ _ hs
  case join => exact execJoin_answers _ _ _ hs
  case wait =>
    rw [exec_wait]
    exact execWait_answers _ _ _ _ hs
  case ret => exact execRet_answers _ _ hs
  case exit =>
    rw [exec_exit]
    exact execExit_answers _ _ hs
  case yieldc => exact execYieldc_answers _ _ hs
  case sleep =>
    rw [exec_sleep]
    exact execSleep_answers _ _ _ hs
  case vdead => exact execVdead_answers _ _ _ _ hs
  case jmp => exact execJmp_answers _ _ _ hs
  case tret => exact execTret_answers _ _ hs
  case pwleaf => exact execPwleaf_answers _ _ _ _ _ hs
  case pobj =>
    rw [exec_pobj]
    exact execPobj_answers _ _ _ _ _ hs
  case pkey => exact execPkey_answers _ _ _ _ _ hs
  case pwdog =>
    rw [exec_pwdog]
    exact execPwdog_answers _ _ _ _ _ hs
  case pmcset => exact execPmcset_answers _ _ _ _ _ hs
  case pevent =>
    rw [exec_pevent]
    exact execPevent_answers _ _ _ _ _ hs
  case psave => exact execPsave_answers _ _ _ _ _ hs
  case prest => exact execPrest_answers _ _ _ _ _ hs
  case pfq =>
    rw [exec_pfq]
    exact execPfq_answers _ _ _ _ _ hs
  case trap =>
    rw [exec_trap]
    exact execTrap_answers _ _ _ hs
  case sysr => exact execSysr_answers _ _ _ _ hs
  case sysw => exact execSysw_answers _ _ _ _ hs

/-! ### What a gang's start leaves in the group -/

theorem Sparse.get_map_some {α : Type} (f : α → α) (m : Sparse (Option α)) (x : Nat) :
    Sparse.get none (m.map fun e => (e.1, e.2.map f)) x = (Sparse.get none m x).map f := by
  induction m with
  | nil => rfl
  | cons e m ih =>
    obtain ⟨k, v⟩ := e
    simp only [List.map_cons, Sparse.get]
    split
    · rfl
    · exact ih

/-- The group of a turn once its gang has started an instruction: its pointers have gone past the gang (R128 item 3). -/
def Group.started (g : Group) (t : Turn) (serial : Nat) (now : W64) : Group :=
  ({ g with gangPtr := (t.gang + 1) % 24, lastIssue := serial, issued := true } : Group).stampJoins now

theorem State.ticked_group (s : State) (h : Nat) :
    s.ticked.group h = (s.group h).map fun g => g.stampJoins (s.tickOf (dieOf g.core)) :=
  Sparse.get_map_some _ _ _

theorem State.starts_group {s : State} {t : Turn} {g : Group} (hg : s.group t.group = some g) :
    (s.starts t).group t.group = some (g.started t (s.serial + 1) (s.tickOf (dieOf g.core))) := by
  unfold State.starts
  simp only [State.group] at hg ⊢
  simp only [hg]
  exact (State.ticked_group _ _).trans (by simp only [State.group, Sparse.get_set_self]; rfl)

@[simp] theorem State.starts_cursor (s : State) (t : Turn) : (s.starts t).cursor = s.cursor := by
  unfold State.starts
  simp only
  split <;> rfl

/-! ### Fetches -/

/-- A fetch that gives a word leaves the cursor: it issues no other gang. -/
theorem State.fetch_cursor {s t : State} {h : Nat} {g : Group} {sl : List Nat} {pc : W64} {w : W32}
    (ht : s.fetch h g sl pc = (t, some w)) : t.cursor = s.cursor := by
  unfold State.fetch at ht
  grind [State.access_cursor, State.putGroup_cursor]

/-! ### Steps -/

theorem Answers.canonical {s t : State} {r : Res} (h : Answers True s r) (ht : r = .next t) : t.Canonical := by
  obtain ⟨hr, -⟩ | ⟨v, hv, hcan⟩ := h
  · rw [ht] at hr
    contradiction
  · rw [ht] at hv
    cases hv
    exact hcan trivial

theorem exec_canonical {i : Instr} {s t : State} (hs : s.Canonical) (ht : exec i s = .next t) : t.Canonical :=
  (exec_answers i s fun _ => hs).canonical ht

theorem State.firstDue_canonical {s : State} (hs : s.Canonical) (l : List Instr) {u : State} (hu : s.firstDue l = some u) :
    u.Canonical := by
  induction l with
  | nil => contradiction
  | cons i l ih =>
    simp only [State.firstDue] at hu
    split at hu
    · next t ht =>
      split at hu
      · exact ih hu
      · cases hu
        exact exec_canonical hs ht
    · exact ih hu

/-- A fetched word is run: with no gang missing, a next state comes of it, whatever the word is. -/
theorem State.runWord_answers {P : Prop} (s : State) (t : Turn) (w : W32) (hc : s.cursor.group = t.group)
    (hs : P → s.Canonical) : Yields P (s.runWord t w) := by
  unfold State.runWord
  split
  · exact yields_next fun hp => State.ticked_canonical s (hs hp)
  · next g hg =>
    have hstart : (s.starts t).group (s.starts t).cursor.group
        = some (g.started t (s.serial + 1) (s.tickOf (dieOf g.core))) := by
      rw [State.starts_cursor, hc]
      exact State.starts_group hg
    have hcan : P → (s.starts t).Canonical := fun hp => State.starts_canonical s t (hs hp)
    split
    · exact (State.issue_answers _ _ fun g' _ => State.trapHere_yields _ g' _ hcan).yields hstart
    · exact yields_ite ((exec_answers _ _ hcan).yields hstart) (yields_next fun hp => State.putGroup_canonical _ _ _ (hs hp))

theorem State.issueTurn_yields {P : Prop} (s : State) (t : Turn) (hs : P → s.Canonical) : Yields P (s.issueTurn t) := by
  unfold State.issueTurn
  split
  · exact yields_next fun hp => State.ticked_canonical s (hs hp)
  · next g hg =>
    have hfetch (hp : P) : (({ s with cursor := g.cursorOf t } : State).fetch t.group g (g.cursorOf t).slices
        (g.cursorOf t).pc).1.Canonical := State.fetch_canonical _ _ _ _ _ (hs hp)
    simp only
    split
    · next u hu => exact yields_next fun hp => by rw [hu] at hfetch; exact hfetch hp
    · next u w hu =>
      exact State.runWord_answers u t w (by rw [State.fetch_cursor hu]; rfl) fun hp => by rw [hu] at hfetch; exact hfetch hp

theorem State.proceed_yields {P : Prop} (s : State) (hs : P → s.Canonical) : Yields P s.proceed := by
  unfold State.proceed
  split
  · next t ht => exact yields_next fun hp => State.firstDue_canonical (hs hp) _ ht
  · split
    · exact State.issueTurn_yields s _ hs
    · exact yields_next fun hp => State.ticked_canonical s (hs hp)

/-- With nothing from outside, a chip that is not tripped goes on. -/
theorem step_yields {P : Prop} (s : State) (htrip : s.pkg.tripped = false) (hagenda : s.agenda = [])
    (hs : P → s.Canonical) : Yields P (step s) := by
  have ht : s.fresh.pkg.tripped = false := htrip
  have ha : s.fresh.agenda = [] := hagenda
  simp only [step, ha, ht, Bool.false_eq_true, if_false]
  exact yields_ite (yields_next fun hp => State.tidy_canonical _ (hs hp)) (State.proceed_yields _ hs)

end Sys2Proof.Machine

namespace Sys2Proof.Claims

open Sys2Proof.Machine

/-- Settles O59: every operation on the state keeps memory canonical, hence so does each kind of step. -/
theorem stepsKeepMemoryCanonical : Obligations.StepsKeepMemoryCanonical := by
  unfold Obligations.StepsKeepMemoryCanonical
  intro s t hs ht
  cases ha : s.fresh.agenda with
  | nil =>
    by_cases hp : s.fresh.pkg.tripped = true
    · simp [step, ha, hp] at ht
    · obtain ⟨u, hu, hcan⟩ := step_yields (P := True) s (Bool.eq_false_iff.mpr hp) ha fun _ => hs
      rw [ht] at hu
      cases hu
      exact hcan trivial
  | cons i rest =>
    simp only [step, ha] at ht
    split at ht
    · cases ht
      exact hs
    · exact exec_canonical (s := { s.fresh with agenda := rest }) hs ht

/-- Settles O60: every operation answers with a next state, and `exec` refuses only where the cursor names no group. -/
theorem theChipGoesOn : Obligations.TheChipGoesOn := by
  unfold Obligations.TheChipGoesOn
  refine ⟨fun i s g hg => ?_, fun s hp ha => ?_⟩
  · obtain ⟨t, ht, -⟩ := (exec_answers (P := False) i s False.elim).yields hg
    exact ⟨t, ht⟩
  · obtain ⟨t, ht, -⟩ := step_yields (P := False) s hp ha False.elim
    exact ⟨t, ht⟩

end Sys2Proof.Claims

/-! PROOFS. The order of a step, the instruction that it runs and the reset: the obligations O54, O55 and O58. -/

namespace Sys2Proof.Machine

/-- A step in which neither an agenda, a trip nor an untidy state comes first is `proceed` of the fresh state. -/
theorem step_eq_proceed {s : State} (htrip : s.pkg.tripped = false) (hagenda : s.agenda = [])
    (htidy : s.fresh.untidy = false) : step s = s.fresh.proceed := by
  have ht : s.fresh.pkg.tripped = false := htrip
  have ha : s.fresh.agenda = [] := hagenda
  simp [step, ha, ht, htidy]

theorem State.proceed_of_due {s t : State} (h : s.firstDue s.candidates = some t) : s.proceed = .next t := by
  simp [State.proceed, h]

theorem State.proceed_of_turn {s : State} {t : Turn} (hdue : s.firstDue s.candidates = none) (ht : s.nextTurn = some t) :
    s.proceed = s.issueTurn t := by
  simp [State.proceed, hdue, ht]

theorem State.proceed_of_quiet {s : State} (hdue : s.firstDue s.candidates = none) (ht : s.nextTurn = none) :
    s.proceed = .next s.ticked := by
  simp [State.proceed, hdue, ht]

/-- Counting up once at each index of a list without repetitions. -/
theorem Sparse.get_foldl_count (l : List Nat) (hl : l.Nodup) (m : Sparse W64) (x : Nat) :
    Sparse.get 0 (l.foldl (fun (m : Sparse W64) d => Sparse.set 0 m d (Sparse.get 0 m d + 1)) m) x
      = if x ∈ l then Sparse.get 0 m x + 1 else Sparse.get 0 m x := by
  induction l generalizing m with
  | nil => simp
  | cons d l ih =>
    obtain ⟨hd, hl⟩ := List.nodup_cons.mp hl
    rw [List.foldl_cons, ih hl]
    by_cases hx : x = d
    · subst hx
      simp [hd]
    · rw [Sparse.get_set_of_ne 0 m _ hx]
      simp [hx]

/-- One tick counts up TICK of every running die. -/
theorem State.ticked_tickOf (s : State) {d : Nat} (hd : d < 4) :
    s.ticked.tickOf d = if s.dieRuns d then s.tickOf d + 1 else s.tickOf d := by
  have h := Sparse.get_foldl_count ((List.range 4).filter s.dieRuns) (List.nodup_range.filter _) s.pkg.tick d
  simpa [State.tickOf, State.ticked, hd] using h

/-- The gang of a turn whose fetch gives a word runs it. -/
theorem State.issueTurn_of_fetch {s s1 : State} {t : Turn} {g : Group} {w : W32} (hg : s.group t.group = some g)
    (hf : ({ s with cursor := g.cursorOf t } : State).fetch t.group g (g.cursorOf t).slices (g.cursorOf t).pc
      = (s1, some w)) : s.issueTurn t = s1.runWord t w := by
  simp only [State.issueTurn, hg, hf]

end Sys2Proof.Machine

namespace Sys2Proof.Claims

open Sys2Proof.Machine

/-- Settles O54: the step is the turn of its gang, whose fetched word `runWord` takes apart by its decoding. -/
theorem stepRunsTheDecodedInstruction : Obligations.StepRunsTheDecodedInstruction := by
  unfold Obligations.StepRunsTheDecodedInstruction
  intro s s1 g g1 t w u htrip hagenda htidy hdue hturn hg hfetch hg1 hcursor
  have hstep : step s = s1.runWord t w := by
    rw [step_eq_proceed (s := s) htrip hagenda htidy, State.proceed_of_turn hdue hturn, State.issueTurn_of_fetch hg hfetch]
  rw [hstep]
  simp only [State.runWord, hg1]
  refine ⟨fun i hi hlines => ?_, fun i hi hlines => ?_, fun hi => ?_⟩
  · simp [hi, hlines]
  · simp [hi, hlines]
  · have hstart := State.starts_group (t := t) hg1
    have hcur : (s1.starts t).cursor.group = t.group := by
      rw [State.starts_cursor, hcursor]
      rfl
    refine ⟨_, hstart, ?_⟩
    simp only [hi]
    exact State.issue_of_group _ (hcur ▸ hstart)

/-- Settles O55: the cases of `step` in their order, and the counts of a quiet tick. -/
theorem stepOrder : Obligations.StepOrder := by
  unfold Obligations.StepOrder
  intro s
  refine ⟨rfl, fun htrip ha => ?_, fun i rest ha => ⟨fun htrip hi => ?_, fun hor => ?_⟩, fun htrip ha =>
    ⟨fun htidy => ?_, fun htidy => ⟨fun t ht => ?_, fun hdue hturn => ⟨?_, fun d hd => ?_⟩⟩⟩⟩
  · simp [step, State.fresh, ha, htrip]
  · simp [step, State.fresh, ha, htrip, hi]
  · rcases hor with htrip | hi
    · simp [step, State.fresh, ha, htrip]
    · simp [step, State.fresh, ha, hi]
  · have hp : s.fresh.pkg.tripped = false := htrip
    have hag : s.fresh.agenda = [] := ha
    simp [step, hag, hp, htidy]
  · rw [step_eq_proceed htrip ha htidy, State.proceed_of_due ht]
  · rw [step_eq_proceed htrip ha htidy, State.proceed_of_quiet hdue hturn]
  · exact State.ticked_tickOf s.fresh hd

/-- Settles O58: the fields of the reset state, and a step of a chip that is not tripped. -/
theorem resetLeavesNothing : Obligations.ResetLeavesNothing := by
  unfold Obligations.ResetLeavesNothing
  refine ⟨rfl, rfl, fun _ => rfl, fun _ => rfl, by decide, rfl, rfl, ?_⟩
  obtain ⟨t, ht, -⟩ := step_yields (P := False) State.reset rfl rfl False.elim
  exact ⟨t, ht⟩

end Sys2Proof.Claims

/-! PROOFS. What a fetch gives: the obligation O57. -/

namespace Sys2Proof.Machine

theorem Group.mayFetch_iff (g : Group) (pc : W64) :
    g.mayFetch pc = true ↔ g.code.tag = true ∧ g.code.has rX = true ∧ pc.toNat % 4 = 0
      ∧ g.code.base.toNat ≤ pc.toNat ∧ pc.toNat + 4 ≤ g.code.base.toNat + g.code.length.toNat := by
  simp [Group.mayFetch, and_assoc]

theorem State.fetch_of_not_mayFetch {s : State} {h : Nat} {g : Group} {sl : List Nat} {pc : W64}
    (hmay : ¬g.mayFetch pc = true) : s.fetch h g sl pc = (s.ifetch h g sl pc, none) := by
  simp [State.fetch, hmay]

theorem State.fetch_of_firmware {s : State} {h : Nat} {g : Group} {sl : List Nat} {pc : W64}
    (hmay : g.mayFetch pc = true) (hpriv : g.privileged = true) :
    s.fetch h g sl pc = (s, some (BitVec.ofNat 32 (leNat (s.fwBytes (dieOf g.core) pc.toNat 4)))) := by
  simp [State.fetch, hmay, hpriv]

/-- The pieces that a group's fetch asks for, as they are answered. -/
def State.fetchAccess (s : State) (h : Nat) (g : Group) (sl : List Nat) (pc : W64) : State × List Piece × Bool :=
  s.access h g .fetch 0 0 false (fetchPieces g sl pc (s.fetchLast g))

section

variable {s : State} {h : Nat} {g : Group} {sl : List Nat} {pc : W64} (hmay : g.mayFetch pc = true)
  (hpriv : g.privileged = false) (hkept : g.fetched = [])

include hmay hpriv hkept

theorem State.fetch_of_held (hheld : ∃ p ∈ (s.fetchAccess h g sl pc).2.1, p.status = 0xFF) :
    s.fetch h g sl pc = ((s.fetchAccess h g sl pc).1.putGroup h { g with memOps := g.memOps
      ++ [{ fetchOp sl pc with pieces := (s.fetchAccess h g sl pc).2.1 }] }, none) := by
  have hany : ((s.fetchAccess h g sl pc).2.1.any fun p => p.status == 0xFF) = true := by simpa using hheld
  unfold State.fetchAccess at hany
  simp only [State.fetch, hmay, hpriv, hkept, List.find?_nil, hany, State.fetchAccess]
  rfl

theorem State.fetch_of_word {w : W32} (hheld : ∀ p ∈ (s.fetchAccess h g sl pc).2.1, p.status ≠ 0xFF)
    (hw : ({ fetchOp sl pc with pieces := (s.fetchAccess h g sl pc).2.1 } : MemOp).fetchWord = some w) :
    s.fetch h g sl pc = ((s.fetchAccess h g sl pc).1, some w) := by
  have hany : ((s.fetchAccess h g sl pc).2.1.any fun p => p.status == 0xFF) = false := by simpa using hheld
  unfold State.fetchAccess at hany hw
  simp only [State.fetch, hmay, hpriv, hkept, List.find?_nil, hany, hw, State.fetchAccess]
  rfl

theorem State.fetch_of_failed (hheld : ∀ p ∈ (s.fetchAccess h g sl pc).2.1, p.status ≠ 0xFF)
    (hw : ({ fetchOp sl pc with pieces := (s.fetchAccess h g sl pc).2.1 } : MemOp).fetchWord = none) :
    s.fetch h g sl pc = ((s.fetchAccess h g sl pc).1.fetchFailed h g
      { fetchOp sl pc with pieces := (s.fetchAccess h g sl pc).2.1 } (s.fetchAccess h g sl pc).2.2, none) := by
  have hany : ((s.fetchAccess h g sl pc).2.1.any fun p => p.status == 0xFF) = false := by simpa using hheld
  unfold State.fetchAccess at hany hw
  simp only [State.fetch, hmay, hpriv, hkept, List.find?_nil, hany, hw, State.fetchAccess]
  rfl

end

/-- The word of pieces that were all answered alike, the first of them the four bytes of the word. -/
theorem MemOp.fetchWord_of_answered {o : MemOp} {p : Piece} {ps : List Piece} {st : BitVec 8} (hst : st = 0 ∨ st = 1)
    (hall : ∀ p ∈ o.pieces, p.status = st) (ho : o.pieces = p :: ps) (hlen : p.length = 4) :
    o.fetchWord = some (if st = 0 then BitVec.ofNat 32 p.value else 0) := by
  have hans : (o.pieces.all fun p => p.status == 0 || p.status == 1) = true := by
    simp only [List.all_eq_true, Bool.or_eq_true, beq_iff_eq]
    exact fun q hq => hall q hq ▸ hst
  have hp : p.status = st := hall p (ho ▸ List.mem_cons_self)
  rw [MemOp.fetchWord, if_pos hans]
  simp [ho, hlen, hp]

theorem MemOp.fetchWord_of_bad {o : MemOp} {p : Piece} (hp : p ∈ o.pieces) (hst : p.status = 3) : o.fetchWord = none := by
  have hans : (o.pieces.all fun p => p.status == 0 || p.status == 1) = false := by
    rw [List.all_eq_false]
    exact ⟨p, hp, by simp [hst]⟩
  rw [MemOp.fetchWord, hans]
  rfl

/-- A fetch that fails without a page fault raises IFETCH for the gang, whose refusal ends. -/
theorem State.fetchFailed_of_no_fault {s : State} {h : Nat} {g : Group} {o : MemOp} {noWake : Bool}
    (hst : ∀ p ∈ o.pieces, p.status ≠ 2) :
    s.fetchFailed h g o noWake = s.raise h (g.endRefusal o.slices) o.slices o.pc
      ((g.endRefusal o.slices).gangTrap o.slices Cause.ifetch.code 0 o.pc) := by
  have hany : (o.pieces.any fun p => p.status == 2) = false := by simpa using hst
  rw [State.fetchFailed, hany]
  rfl

end Sys2Proof.Machine

namespace Sys2Proof.Claims

open Sys2Proof.Machine

/-- Settles O57, by the branches of `fetch`: no right to fetch, firmware, and a group's pieces as they are answered. -/
theorem fetchReadsTheWord : Obligations.FetchReadsTheWord := by
  unfold Obligations.FetchReadsTheWord
  intro s h g sl pc
  refine ⟨fun hno => State.fetch_of_not_mayFetch ((Group.mayFetch_iff g pc).not.mpr hno), State.fetch_of_firmware,
    fun hmay hpriv hkept => ⟨fun hall p ps hr hlen => ?_, fun hall p ps hr hlen => ?_, fun hheld => ?_, ?_⟩⟩
  · refine State.fetch_of_word hmay hpriv hkept (fun q hq => ?_) (MemOp.fetchWord_of_answered (.inl rfl) hall hr hlen)
    rw [hall q hq]
    decide
  · refine State.fetch_of_word hmay hpriv hkept (fun q hq => ?_) (MemOp.fetchWord_of_answered (.inr rfl) hall hr hlen)
    rw [hall q hq]
    decide
  · exact ⟨_, State.fetch_of_held hmay hpriv hkept hheld, rfl, rfl, rfl⟩
  · rintro ⟨p, hp, hst⟩ hother
    refine ⟨_, rfl, ?_⟩
    rw [State.fetch_of_failed hmay hpriv hkept (fun q hq => (hother q hq).1) (MemOp.fetchWord_of_bad hp hst),
      State.fetchFailed_of_no_fault fun q hq => (hother q hq).2]
    rfl

end Sys2Proof.Claims

/-! PROOFS. Whose turn it is: the obligation O56. -/

namespace Sys2Proof.Machine

/-! ### Ascending keys -/

theorem mem_insertKey {k x : Nat} {l : List Nat} : x ∈ insertKey k l ↔ x = k ∨ x ∈ l := by
  induction l with
  | nil => simp [insertKey]
  | cons y l ih =>
    unfold insertKey
    split
    · simp
    · split
      · next h => simp [h]
      · simp only [List.mem_cons, ih]
        tauto

theorem pairwise_insertKey {k : Nat} {l : List Nat} (hl : l.Pairwise (· < ·)) : (insertKey k l).Pairwise (· < ·) := by
  induction l with
  | nil => simp [insertKey]
  | cons y l ih =>
    obtain ⟨hy, hl⟩ := List.pairwise_cons.mp hl
    unfold insertKey
    split
    · next h =>
      refine List.pairwise_cons.mpr ⟨fun z hz => ?_, List.pairwise_cons.mpr ⟨hy, hl⟩⟩
      rcases List.mem_cons.mp hz with rfl | hz
      · exact h
      · exact h.trans (hy z hz)
    · split
      · exact List.pairwise_cons.mpr ⟨hy, hl⟩
      · refine List.pairwise_cons.mpr ⟨fun z hz => ?_, ih hl⟩
        rcases mem_insertKey.mp hz with rfl | hz
        · omega
        · exact hy z hz

theorem mem_sortKeys {x : Nat} {l : List Nat} : x ∈ sortKeys l ↔ x ∈ l := by
  induction l with
  | nil => simp [sortKeys]
  | cons k l ih =>
    rw [sortKeys, List.foldr_cons, mem_insertKey, List.mem_cons, ← ih]
    rfl

theorem pairwise_sortKeys (l : List Nat) : (sortKeys l).Pairwise (· < ·) := by
  induction l with
  | nil => exact List.Pairwise.nil
  | cons k l ih => exact pairwise_insertKey ih

/-- In an ascending list, the first element that is at least `p`, or else the first of all. -/
theorem first_from_with_wrap {l : List Nat} {p x : Nat} (hl : l.Pairwise (· < ·))
    (hx : (l.find? fun i => decide (p ≤ i)).or l.head? = some x) :
    x ∈ l ∧ ∀ y ∈ l, if p ≤ x then y < p ∨ x ≤ y else y < p ∧ x ≤ y := by
  cases hf : l.find? fun i => decide (p ≤ i) with
  | some z =>
    rw [hf] at hx
    cases hx
    obtain ⟨hpx, as, bs, rfl, has⟩ := List.find?_eq_some_iff_append.mp hf
    have hpx : p ≤ x := of_decide_eq_true hpx
    refine ⟨by simp, fun y hy => ?_⟩
    rw [if_pos hpx]
    obtain ⟨-, hxbs, -⟩ := List.pairwise_append.mp hl
    rcases List.mem_append.mp hy with hy | hy
    · exact .inl (by simpa using has y hy)
    · rcases List.mem_cons.mp hy with rfl | hy
      · exact .inr le_rfl
      · exact .inr ((List.pairwise_cons.mp hxbs).1 y hy).le
  | none =>
    rw [hf] at hx
    have hlt : ∀ y ∈ l, y < p := by simpa using hf
    cases l with
    | nil => contradiction
    | cons z l =>
      cases hx
      refine ⟨by simp, fun y hy => ?_⟩
      have hx := hlt x (by simp)
      rw [if_neg (by omega)]
      rcases List.mem_cons.mp hy with rfl | hmem
      · exact ⟨hx, le_rfl⟩
      · exact ⟨hlt y hy, ((List.pairwise_cons.mp hl).1 y hmem).le⟩

/-! ### The gangs of a group -/

theorem Group.sliceCount_le (g : Group) : g.sliceCount ≤ 24 := by
  unfold Group.sliceCount Group.lanes
  omega

theorem Group.lt_of_mem_live {g : Group} {i : Nat} (hi : i ∈ g.live) : i < 24 := by
  have := g.sliceCount_le
  simp only [Group.live, List.mem_filter, List.mem_range] at hi
  omega

theorem Group.nodup_gang (g : Group) (id : Nat) : (g.gang id).Nodup := (List.nodup_range.filter _).filter _

theorem Group.mem_gang {g : Group} {id i : Nat} : i ∈ g.gang id ↔ i ∈ g.live ∧ (g.slice i).gang = id := by
  simp [Group.gang]

theorem Group.mem_gangIds {g : Group} {id : Nat} : id ∈ g.gangIds ↔ ∃ i ∈ g.live, (g.slice i).gang = id := by
  simp [Group.gangIds, mem_sortKeys]

theorem Group.ready_of_gangReady {g : Group} {id i : Nat} (hr : g.gangReady id = true) (hi : i ∈ g.gang id) :
    (g.slice i).state = .ready := by
  simp only [Group.gangReady, Bool.and_eq_true, List.all_eq_true, decide_eq_true_eq] at hr
  exact hr.1.1.1 i hi

/-- The ready gang of a group: it has slices and is ready, and no other ready gang lies between the pointer and it. -/
theorem Group.readyGang_spec {g : Group} {id : Nat} (h : g.readyGang = some id) :
    g.gang id ≠ [] ∧ g.gangReady id = true ∧ ∀ i ∈ g.live, g.gangReady (g.slice i).gang = true →
      if g.gangPtr ≤ id then (g.slice i).gang < g.gangPtr ∨ id ≤ (g.slice i).gang
      else (g.slice i).gang < g.gangPtr ∧ id ≤ (g.slice i).gang := by
  obtain ⟨hmem, hfirst⟩ := first_from_with_wrap ((pairwise_sortKeys _).filter _) h
  obtain ⟨hid, hready⟩ := List.mem_filter.mp hmem
  obtain ⟨i, hi, hgang⟩ := Group.mem_gangIds.mp hid
  refine ⟨List.ne_nil_of_mem (Group.mem_gang.mpr ⟨hi, hgang⟩), hready, fun j hj hjr => ?_⟩
  exact hfirst _ (List.mem_filter.mpr ⟨Group.mem_gangIds.mpr ⟨j, hj, rfl⟩, hjr⟩)

/-- Noting the joins changes `joinSince` alone. -/
theorem Group.stampJoins_eq (g : Group) (now : W64) : ∃ js, g.stampJoins now = { g with joinSince := js } := by
  refine List.foldlRecOn (motive := fun u : Group => ∃ js, u = { g with joinSince := js }) _ _ ⟨g.joinSince, rfl⟩ ?_
  rintro _ ⟨js, rfl⟩ r -
  exact ⟨_, rfl⟩

/-! ### The turns of the ports -/

theorem State.slotTurn_spec {s : State} {core : Nat} {e : Nat × Option Nat} {t : Turn} (h : s.slotTurn core e = some t) :
    ∃ g, e = (32 * t.port + t.slot, some t.group) ∧ t.core = core ∧ s.group t.group = some g ∧ g.state = .resident
      ∧ s.saving t.group = false ∧ g.readyGang = some t.gang := by
  obtain ⟨k, o⟩ := e
  simp only [State.slotTurn, Option.bind_eq_some_iff] at h
  obtain ⟨k', rfl, g, hg, h⟩ := h
  split at h
  · next hcond =>
    obtain ⟨id, hid, rfl⟩ := Option.map_eq_some_iff.mp h
    obtain ⟨hres, hsaving⟩ := hcond
    exact ⟨g, by simp [Nat.div_add_mod], rfl, hg, hres, by simpa using hsaving, hid⟩
  · contradiction

theorem State.portTurn_spec {s : State} {core port : Nat} {c : Core} {t : Turn} (h : s.portTurn core c port = some t) :
    ∃ e ∈ c.slots, s.slotTurn core e = some t := by
  obtain ⟨e, he, ht⟩ := List.exists_of_findSome?_eq_some h
  refine ⟨e, ?_, ht⟩
  rcases List.mem_append.mp he with he | he
  · exact List.mem_of_mem_filter (List.mem_of_mem_filter he)
  · exact List.mem_of_mem_filter (List.mem_of_mem_filter he)

theorem State.coreTurns_spec {s : State} {e : Nat × Core} {t : Turn} (h : t ∈ s.coreTurns e) :
    e.2.parked = false ∧ s.dieRuns (dieOf e.1) = true ∧ ∃ x ∈ e.2.slots, s.slotTurn e.1 x = some t := by
  unfold State.coreTurns at h
  split at h
  · contradiction
  · next hcond =>
    simp only [Bool.or_eq_true, Bool.not_eq_true', not_or, Bool.not_eq_true, Bool.not_eq_false] at hcond
    obtain ⟨p, -, hp⟩ := List.mem_filterMap.mp h
    exact ⟨hcond.1, hcond.2, State.portTurn_spec hp⟩

theorem State.nextTurn_spec {s : State} {t : Turn} (h : s.nextTurn = some t) :
    ∃ e ∈ s.cores, t ∈ s.coreTurns e := by
  have hmem : t ∈ s.cores.flatMap s.coreTurns := by
    unfold State.nextTurn at h
    rcases Option.or_eq_some_iff.mp h with h | ⟨-, h⟩
    · exact List.mem_of_find?_eq_some h
    · exact List.mem_of_head? h
  exact List.mem_flatMap.mp hmem

end Sys2Proof.Machine

namespace Sys2Proof.Claims

open Sys2Proof.Machine

/-- Settles O56: a turn comes from a slot of a core (`nextTurn_spec`), and its gang is the group's ready gang. -/
theorem readyGangsTakeTurns : Obligations.ReadyGangsTakeTurns := by
  unfold Obligations.ReadyGangsTakeTurns
  intro s t ht
  obtain ⟨⟨core, c⟩, hc, hturn⟩ := State.nextTurn_spec ht
  obtain ⟨hparked, hruns, x, hx, hslot⟩ := State.coreTurns_spec hturn
  obtain ⟨g, rfl, rfl, hg, hres, hsaving, hready⟩ := State.slotTurn_spec hslot
  obtain ⟨hne, hgang, hfirst⟩ := Group.readyGang_spec hready
  obtain ⟨js, hjs⟩ := Group.stampJoins_eq ({ g with
    gangPtr := (t.gang + 1) % 24, lastIssue := s.serial + 1, issued := true } : Group) (s.tickOf (dieOf g.core))
  refine ⟨g, c, hg, hc, hx, hparked, hruns, hres, hsaving, hne, g.nodup_gang _, hgang, fun i hi =>
    ⟨Group.lt_of_mem_live (Group.mem_gang.mp hi).1, Group.ready_of_gangReady hgang hi⟩, hfirst, _, State.starts_group hg, ?_⟩
  rw [Group.started, hjs]
  exact ⟨rfl, rfl⟩

end Sys2Proof.Claims

/-! PROOFS. Scalar results: the values of the class 0, immediate, mask-count, vote and capability-field forms, and the write of
s_d: the obligation O1. -/

namespace Sys2Proof.Machine

/-! ### Values of integer operations, at every width -/

theorem slt_iff_toInt_lt {n : Nat} (x z : BitVec n) : x.slt z = decide (x.toInt < z.toInt) := rfl

theorem ult_iff_toNat_lt {n : Nat} (x z : BitVec n) : x.ult z = decide (x.toNat < z.toNat) := rfl

theorem not_slt_swap {n : Nat} (x z : BitVec n) : (!z.slt x) = decide (x.toInt ≤ z.toInt) := by
  rw [slt_iff_toInt_lt, Bool.eq_iff_iff]
  simp

theorem not_ult_swap {n : Nat} (x z : BitVec n) : (!z.ult x) = decide (x.toNat ≤ z.toNat) := by
  rw [ult_iff_toNat_lt, Bool.eq_iff_iff]
  simp

/-- The choice between two words by a strict test is that by the weak one: the words are equal where the tests differ. -/
theorem ite_slt_eq_ite_toInt_le {n : Nat} {α : Type} (x z : BitVec n) (f : BitVec n → BitVec n → α) :
    (if x.slt z then f x z else f z x) = if x.toInt ≤ z.toInt then f x z else f z x := by
  rw [slt_iff_toInt_lt]
  rcases lt_trichotomy x.toInt z.toInt with h | h | h
  · simp [h, h.le]
  · simp [BitVec.eq_of_toInt_eq h]
  · simp [h.not_gt, h.not_ge]

theorem ite_ult_eq_ite_toNat_le {n : Nat} {α : Type} (x z : BitVec n) (f : BitVec n → BitVec n → α) :
    (if x.ult z then f x z else f z x) = if x.toNat ≤ z.toNat then f x z else f z x := by
  rw [ult_iff_toNat_lt]
  rcases lt_trichotomy x.toNat z.toNat with h | h | h
  · simp [h, h.le]
  · simp [BitVec.eq_of_toNat_eq h]
  · simp [h.not_gt, h.not_ge]

theorem popCount_eq_countP {n : Nat} (w : BitVec n) : popCount w = (List.range n).countP w.getLsbD := by
  have step (l : List Nat) (c : Nat) :
      l.foldl (fun c i => if w.getLsbD i then c + 1 else c) c = c + l.countP w.getLsbD := by
    induction l generalizing c with
    | nil => rfl
    | cons i l ih =>
      rw [List.foldl_cons, ih, List.countP_cons]
      split <;> omega
  simpa [popCount] using step (List.range n) 0

theorem find?_getLsbD_eq_none {n : Nat} (w : BitVec n) : (List.range n).find? w.getLsbD = none ↔ w = 0 := by
  rw [List.find?_eq_none]
  constructor
  · intro h
    exact BitVec.eq_of_getLsbD_eq fun i hi => by simpa using h i (List.mem_range.mpr hi)
  · rintro rfl i -
    simp

theorem sdiv64_of_ne_zero {x z : W64} (h : z ≠ 0) : sdiv64 x z = BitVec.ofInt 64 (Int.tdiv x.toInt z.toInt) := if_neg h

theorem srem64_eq (x z : W64) : (if z = 0 then x else x - z * sdiv64 x z)
    = if z = 0 then x else BitVec.ofInt 64 (Int.tmod x.toInt z.toInt) := by
  split
  · rfl
  · next h =>
    rw [sdiv64_of_ne_zero h, Int.tmod_def, Int.sub_eq_add_neg, BitVec.ofInt_add, BitVec.ofInt_neg, BitVec.ofInt_mul,
      BitVec.ofInt_toInt, BitVec.ofInt_toInt, BitVec.sub_eq_add_neg]

theorem udiv64_eq (x z : W64) : udiv64 x z = if z = 0 then BitVec.allOnes 64 else x / z := by
  have h : BitVec.ofNat 64 (x.toNat / z.toNat) = x / z := by
    apply BitVec.eq_of_toNat_eq
    rw [BitVec.toNat_udiv, BitVec.toNat_ofNat, Nat.mod_eq_of_lt ((Nat.div_le_self _ _).trans_lt x.isLt)]
  rw [udiv64, h]

theorem urem64_eq (x z : W64) : (if z = 0 then x else BitVec.ofNat 64 (x.toNat % z.toNat)) = if z = 0 then x else x % z := by
  have h : BitVec.ofNat 64 (x.toNat % z.toNat) = x % z := by
    apply BitVec.eq_of_toNat_eq
    rw [BitVec.toNat_umod, BitVec.toNat_ofNat, Nat.mod_eq_of_lt ((Nat.mod_le _ _).trans_lt x.isLt)]
  rw [h]

/-! ### A write of a scalar register -/

/-- The group after a write of a scalar register, before its join test. -/
def Group.wroteS (g : Group) (sl : List Nat) (r : Nat) (v : W64) : Group :=
  { g.putS sl r v with pending := g.pending.map (Pending.dropS r (g.takes sl r)),
                       memOps := g.memOps.map (MemOp.dropS r (g.takes sl r)) }

theorem Group.writeS_eq_recheckJoin (g : Group) (sl : List Nat) (r : Nat) (v : W64) :
    g.writeS sl r v = (g.wroteS sl r v).recheckJoin sl r := rfl

end Sys2Proof.Machine

namespace Sys2Proof.Claims

open Sys2Proof Sys2Proof.Machine

theorem flag64_eq_bit (p : Bool) : flag64 p = bit p := rfl

theorem scalarWrite_wroteS (g : Group) (sl : List Nat) (d : Nat) (v : W64) : ScalarWrite g (g.wroteS sl d v) sl d v := by
  refine ⟨fun r => ?_, rfl⟩
  have h : (g.wroteS sl d v).rs r = (g.putS sl d v).rs r := rfl
  rw [h, Group.rs_putS]
  rfl

/-- A form that writes one scalar register goes on with it written. -/
theorem plain_scalarWrite {s : State} {g : Group} (y : Bool) (d : Fld) (f : Group → List Nat → W64)
    (hg : s.group s.cursor.group = some g) :
    ∃ g' : Group, s.plain y (fun _ => true) (fun g sl => g.writeS sl d.toNat (f g sl))
        = .next (after s y (g'.recheckJoin s.cursor.slices d.toNat))
      ∧ ScalarWrite g g' s.cursor.slices d.toNat (f g s.cursor.slices) :=
  ⟨_, State.plain_next s g y _ _ hg rfl, scalarWrite_wroteS g _ _ _⟩

/-- Every class 0 form is the three-operand form of its value. -/
theorem exec_class0 (y : Bool) (d a b : Fld) (s : State) :
    ∀ e ∈ class0 y d a b, exec e.1 s = s.scalar3 y d a b e.2 := by
  have lift {f f' : W64 → W64 → W64} (h : ∀ x z, f x z = f' x z) : s.scalar3 y d a b f = s.scalar3 y d a b f' := by
    rw [funext fun x => funext (h x)]
  have lift2 {f f' : W64 → W64} (h : ∀ x, f x = f' x) : s.scalar2 y d a f = s.scalar3 y d a b fun x _ => f' x := by
    rw [funext h]
    rfl
  simp only [class0, List.forall_mem_append, List.forall_mem_cons, List.not_mem_nil, false_implies, implies_true, and_true]
  refine ⟨⟨exec_sadd y d a b s, exec_ssub y d a b s, exec_smul y d a b s, exec_smulhI y d a b s, exec_smulhN y d a b s,
    exec_sdivI y d a b s, ?sdivN, ?sremI, ?sremN, exec_sand y d a b s, exec_sor y d a b s, exec_sxor y d a b s,
    exec_sandn y d a b s, exec_sshl y d a b s, exec_sshrN y d a b s, exec_sshrI y d a b s, exec_sror y d a b s⟩,
    ?sminI, ?sminN, ?smaxI, ?smaxN, exec_sseq y d a b s, exec_ssne y d a b s, exec_ssltI y d a b s, exec_ssltN y d a b s,
    ?ssleI, ?ssleN, ?spopc, ?sclz, ?sctz, exec_slea4 y d a b s, exec_slea8 y d a b s⟩
  case sdivN => exact (exec_sdivN y d a b s).trans (lift udiv64_eq)
  case sremI => exact (exec_sremI y d a b s).trans (lift srem64_eq)
  case sremN => exact (exec_sremN y d a b s).trans (lift urem64_eq)
  case sminI => exact (exec_sminI y d a b s).trans (lift fun x z => ite_slt_eq_ite_toInt_le x z fun u _ => u)
  case sminN => exact (exec_sminN y d a b s).trans (lift fun x z => ite_ult_eq_ite_toNat_le x z fun u _ => u)
  case smaxI => exact (exec_smaxI y d a b s).trans (lift fun x z => ite_slt_eq_ite_toInt_le x z fun _ v => v)
  case smaxN => exact (exec_smaxN y d a b s).trans (lift fun x z => ite_ult_eq_ite_toNat_le x z fun _ v => v)
  case ssleI => exact (exec_ssleI y d a b s).trans (lift fun x z => congrArg bit (not_slt_swap x z))
  case ssleN => exact (exec_ssleN y d a b s).trans (lift fun x z => congrArg bit (not_ult_swap x z))
  case spopc => exact (exec_spopc y d a s).trans (lift2 fun x => congrArg (BitVec.ofNat 64) (popCount_eq_countP x))
  case sclz => exact (exec_sclz y d a s).trans (lift2 fun x => apply_ite (BitVec.ofNat 64) _ _ _)
  case sctz => exact exec_sctz y d a s

/-- Every immediate form writes its value to s_d. -/
theorem exec_scalarImm (y : Bool) (d a : Fld) (i : BitVec 10) (n : BitVec 6) (w : BitVec 18) (s : State) :
    ∀ e ∈ scalarImm y d a i n w, exec e.1 s
      = s.plain y (fun _ => true) fun g sl => g.writeS sl d.toNat (e.2 (g.rs d.toNat) (g.rs a.toNat)) := by
  have hlt (x : W64) : flag64 (x.slt (imm64 i)) = bit (decide (x.toInt < i.toInt)) := by
    rw [slt_iff_toInt_lt, imm64, BitVec.toInt_signExtend_of_le (by decide)]
    rfl
  simp only [scalarImm, List.forall_mem_cons, List.not_mem_nil, false_implies, implies_true, and_true]
  refine ⟨exec_saddi y d a i s, exec_sandi y d a i s, exec_sori y d a i s, exec_sxori y d a i s, ?_, exec_sshli y d a n s,
    exec_sshriN y d a n s, exec_sshriI y d a n s, exec_sli y d w s, exec_slis y d w s⟩
  simp only [exec_ssltiI, execSsltiI, State.scalar2, hlt]

theorem maskFirst_eq (w : BitVec 96) :
    (if w = 0 then BitVec.allOnes 64 else BitVec.ofNat 64 (trailZeros w) : W64)
      = match (List.range 96).find? w.getLsbD with
        | some l => BitVec.ofNat 64 l
        | none => BitVec.allOnes 64 := by
  cases hfind : (List.range 96).find? w.getLsbD with
  | none => exact if_pos ((find?_getLsbD_eq_none w).mp hfind)
  | some l =>
    have hw : w ≠ 0 := fun h => by simp [(find?_getLsbD_eq_none w).mpr h] at hfind
    rw [if_neg hw, trailZeros, hfind]
    rfl

theorem any_getLsbD_eq {n : Nat} (w : BitVec n) : (List.range n).any w.getLsbD = decide (w ≠ 0) := by
  rw [Bool.eq_iff_iff, decide_eq_true_eq, Ne, ← find?_getLsbD_eq_none, List.find?_eq_none]
  simp

/-- Mask counts, votes and capability fields write their value to s_d. -/
theorem exec_scalarFromMasks (y : Bool) (d a k : Fld) (hk : k.toNat ≤ 5) (s : State) :
    ∀ e ∈ scalarFromMasks y d a k, exec e.1 s = s.plain y (fun _ => true) fun g sl => g.writeS sl d.toNat (e.2 g sl) := by
  have lift {f f' : Group → List Nat → W64} (h : ∀ g sl, f g sl = f' g sl) :
      s.plain y (fun _ => true) (fun g sl => g.writeS sl d.toNat (f g sl))
        = s.plain y (fun _ => true) fun g sl => g.writeS sl d.toNat (f' g sl) := by
    rw [funext fun g => funext (h g)]
  simp only [scalarFromMasks, List.forall_mem_cons, List.not_mem_nil, false_implies, implies_true, and_true]
  refine ⟨?mpopc, ?mfirst, ?any, ?all, ?cget⟩
  case mpopc => exact (exec_mpopc y d a s).trans (lift fun g sl => congrArg (BitVec.ofNat 64) (popCount_eq_countP _))
  case mfirst => exact (exec_mfirst y d a s).trans (lift fun g sl => maskFirst_eq _)
  case any =>
    refine (exec_voteAny y d a s).trans (lift fun g sl => ?_)
    rw [any_getLsbD_eq, bit]
    split <;> simp_all
  case all =>
    refine (exec_voteAll y d a s).trans (lift fun g sl => ?_)
    have hany := any_getLsbD_eq (~~~(g.triple a.toNat) &&& g.activeBits sl)
    have hall : ((List.range 96).all fun l => !(g.activeBits sl).getLsbD l || (g.triple a.toNat).getLsbD l)
        = !(List.range 96).any (~~~(g.triple a.toNat) &&& g.activeBits sl).getLsbD := by
      rw [List.not_any_eq_all_not]
      refine List.all_congr rfl fun l => ?_
      by_cases hl : l < 96
      · simp [hl, Bool.or_comm]
      · simp [BitVec.getLsbD_of_ge _ l (Nat.le_of_not_lt hl)]
    rw [hall, hany, bit]
    split <;> simp_all
  case cget =>
    refine (exec_cget y d a k s).trans (lift fun g sl => ?_)
    have hcases : k = 0 ∨ k = 1 ∨ k = 2 ∨ k = 3 ∨ k = 4 ∨ k = 5 := by bv_omega
    rcases hcases with rfl | rfl | rfl | rfl | rfl | rfl <;> rfl

/-- Settles O1: each form is a write of one scalar register, of the value that its list names. -/
theorem scalarResults : Obligations.ScalarResults := by
  unfold Obligations.ScalarResults
  refine ⟨?_, ?_, ?_⟩
  · rintro s g y d a b ⟨hg, -⟩ e he
    rw [exec_class0 y d a b s e he]
    exact plain_scalarWrite y d (fun g _ => e.2 (g.rs a.toNat) (g.rs b.toNat)) hg
  · rintro s g y d a i n w ⟨hg, -⟩ e he
    rw [exec_scalarImm y d a i n w s e he]
    exact plain_scalarWrite y d (fun g _ => e.2 (g.rs d.toNat) (g.rs a.toNat)) hg
  · rintro s g y d a k ⟨hg, -⟩ hk e he
    rw [exec_scalarFromMasks y d a k hk s e he]
    exact plain_scalarWrite y d e.2 hg

end Sys2Proof.Claims

/-! PROOFS. Lane results: the integer, saturating and pair forms, the interlocked and the pending floating-point forms: the
obligations O2, O3 and O4. -/

namespace Sys2Proof.Machine

/-! ### Values -/

theorem setWidth_14_eq_and (x : W32) : (x.setWidth 14).setWidth 32 = x &&& 0x3FFF#32 := by
  apply BitVec.eq_of_toNat_eq
  have h : x.toNat &&& (2 ^ 14 - 1) = x.toNat % 2 ^ 14 := Nat.and_two_pow_sub_one_eq_mod _ _
  have hlt : x.toNat % 2 ^ 14 < 2 ^ 32 := (Nat.mod_lt _ (by decide)).trans (by decide)
  rw [BitVec.toNat_setWidth, BitVec.toNat_setWidth, BitVec.toNat_and, Nat.mod_eq_of_lt hlt]
  exact h.symm

theorem sat_eq_max_min {lo hi : Int} (h : lo ≤ hi) (t : Int) : sat t lo hi = max lo (min hi t) := by
  unfold sat
  split
  · omega
  · split <;> omega

/-- Adding the top power of two below a bound flips that bit. -/
theorem add_two_pow_mod_eq_xor {x k : Nat} (hx : x < 2 * 2 ^ k) : (x + 2 ^ k) % (2 * 2 ^ k) = x ^^^ 2 ^ k := by
  apply Nat.eq_of_testBit_eq
  intro i
  rw [← Nat.pow_succ', Nat.testBit_mod_two_pow, Nat.testBit_xor, Nat.testBit_two_pow, Nat.add_comm x]
  rcases lt_trichotomy i k with h | rfl | h
  · rw [Nat.testBit_two_pow_add_gt h]
    simp [show i < k + 1 by omega, show ¬k = i by omega]
  · rw [Nat.testBit_two_pow_add_eq]
    simp
  · have hlt : x < 2 ^ i := hx.trans_le (by rw [← Nat.pow_succ']; exact Nat.pow_le_pow_right (by decide) h)
    simp [show ¬i < k + 1 by omega, show ¬k = i by omega, Nat.testBit_lt_two_pow hlt]

/-- A value is below twice the sign bit of its format. -/
theorem Group.val_lt (g : Group) (wide : Bool) (n l : Nat) : g.val wide n l < 2 * (fmtW wide).signBit := by
  cases wide with
  | false => exact (g.rv n l).isLt
  | true => exact (g.rp n l).isLt

/-- FNEG inverts the sign bit. -/
theorem Group.val_add_signBit (g : Group) (wide : Bool) (n l : Nat) :
    (g.val wide n l + (fmtW wide).signBit) % (2 * (fmtW wide).signBit) = g.val wide n l ^^^ (fmtW wide).signBit :=
  add_two_pow_mod_eq_xor (g.val_lt wide n l)

/-- One flag raised by the lanes in which a condition holds. -/
theorem flAll_map_flIf {α : Type} (l : List α) (p : α → Bool) (f : BitVec 6) :
    flAll (l.map fun x => flIf (p x) f) = flIf (l.any p) f := by
  have step (l : List α) (w : BitVec 6) :
      (l.map fun x => flIf (p x) f).foldl (fun a b => a ||| b) w = w ||| flIf (l.any p) f := by
    induction l generalizing w with
    | nil => simp [flIf]
    | cons x l ih =>
      rw [List.map_cons, List.foldl_cons, ih, List.any_cons, BitVec.or_assoc]
      cases p x <;> cases l.any p <;> simp [flIf]
  simpa [flAll] using step l 0

end Sys2Proof.Machine

namespace Sys2Proof.Claims

open Sys2Proof Sys2Proof.Machine

/-! ### What the write of a lane form leaves -/

theorem pairWrite_writeV (g : Group) (sl : List Nat) (d : Nat) (f : Nat → W64) :
    PairWrite g (g.writeV (g.pairLaneWrites sl d f)) sl d f := by
  refine ⟨fun l hl => g.rp_pairLaneWrites sl d f l hl, fun k hk => ?other, ?frame⟩
  case other => rw [Group.get_pairLaneWrites, if_neg hk]
  case frame =>
    rw [← Group.map_fst_pairLaneWrites g sl d f]
    exact Group.writeV_eq g _

theorem formWrite_writeV (wide : Bool) (g : Group) (sl : List Nat) (d : Nat) (f : Nat → Nat) :
    FormWrite wide g (g.writeV ((g.active sl).flatMap fun l => g.valWrites wide d l (f l))) sl d f := by
  rw [Group.valWrites_eq]
  cases wide with
  | false => exact laneWrite_writeV g sl d _
  | true => exact pairWrite_writeV g sl d _

/-! ### Integer forms -/

section

variable (y : Bool) (d a b : Fld) (s : State)

/-- The operands that a lane form checks. -/
def operandsIn (rs : List Fld) (g : Group) : Bool := rs.all fun r => g.inWindow r.toNat

theorem operandsIn_one : operandsIn [a] = fun g => g.inWindow a.toNat :=
  funext fun g => by simp only [operandsIn, List.all_cons, List.all_nil, Bool.and_true]

theorem operandsIn_two : operandsIn [a, b] = fun g => g.inWindow a.toNat && g.inWindow b.toNat :=
  funext fun g => by simp only [operandsIn, List.all_cons, List.all_nil, Bool.and_true]

theorem lanes1_congr {f f' : Group → Nat → W32} {ok : Group → Bool} (h : ∀ g l, f g l = f' g l) :
    s.lanes1 y d ok f = s.lanes1 y d ok f' := by
  rw [funext fun g => funext (h g)]

theorem vec3_eq_lanes1 (f : W32 → W32 → W32) :
    s.vec3 y d a b f = s.lanes1 y d (operandsIn [a, b]) fun g l => f (g.rv a.toNat l) (g.rv b.toNat l) := by
  rw [operandsIn_two]
  rfl

theorem vec2_eq_lanes1 (f : W32 → W32) : s.vec2 y d a f = s.lanes1 y d (operandsIn [a]) fun g l => f (g.rv a.toNat l) := by
  rw [operandsIn_one]
  rfl

theorem vecAcc_eq_lanes1 (f : W32 → W32 → W32 → W32) : s.vecAcc y d a b f
    = s.lanes1 y d (operandsIn [a, b]) fun g l => f (g.rv d.toNat l) (g.rv a.toNat l) (g.rv b.toNat l) := by
  rw [operandsIn_two]
  rfl

theorem dot4_eq_sum (f : BitVec 8 → Int) (x z : W32) :
    dot4 (fun x k => f (x.extractLsb' (8 * k) 8)) x z
      = ((List.range 4).map fun k => f (x.extractLsb' (8 * k) 8) * f (z.extractLsb' (8 * k) 8)).sum := by
  simp [dot4, List.range_succ, Int.add_assoc]

/-- Every 32-bit lane form is the interlocked form of its value, and checks its operands. -/
theorem exec_laneForms (i : BitVec 10) (n : BitVec 5) (w : BitVec 18) :
    ∀ e ∈ laneForms y d a b i n w, exec e.1 s = s.lanes1 y d (operandsIn e.2.1) e.2.2 := by
  have two := vec3_eq_lanes1 y d a b s
  have one := vec2_eq_lanes1 y d a s
  have acc := vecAcc_eq_lanes1 y d a b s
  simp only [laneForms, List.forall_mem_append, List.forall_mem_cons, List.not_mem_nil, false_implies, implies_true, and_true]
  refine ⟨⟨(exec_vadd y d a b s).trans (two _), (exec_vsub y d a b s).trans (two _), (exec_vmul y d a b s).trans (two _),
    (exec_vmulhI y d a b s).trans (two _), (exec_vmulhN y d a b s).trans (two _), (exec_vand y d a b s).trans (two _),
    (exec_vor y d a b s).trans (two _), (exec_vxor y d a b s).trans (two _), (exec_vandn y d a b s).trans (two _),
    (exec_vshl y d a b s).trans (two _), (exec_vshrN y d a b s).trans (two _), (exec_vshrI y d a b s).trans (two _),
    ?vminI, ?vminN, ?vmaxI, ?vmaxN⟩, ?vdot4I8, ?vdot4N8, ?vpopc, ?vclz, (exec_vmov y d a s).trans (one _),
    exec_vdup y d a s, (exec_vaddi y d a i s).trans (one _), (exec_vandi y d a i s).trans (one _),
    (exec_vori y d a i s).trans (one _), (exec_vxori y d a i s).trans (one _), (exec_vshli y d a n s).trans (one _),
    (exec_vshriN y d a n s).trans (one _), (exec_vshriI y d a n s).trans (one _), exec_vmovi y d i s, exec_vli y d w s,
    ?vlih, exec_mtov y d a s⟩
  case vminI =>
    exact ((exec_vminI y d a b s).trans (two _)).trans
      (lanes1_congr y d s fun g l => ite_slt_eq_ite_toInt_le _ _ fun u _ => u)
  case vminN =>
    exact ((exec_vminN y d a b s).trans (two _)).trans
      (lanes1_congr y d s fun g l => ite_ult_eq_ite_toNat_le _ _ fun u _ => u)
  case vmaxI =>
    exact ((exec_vmaxI y d a b s).trans (two _)).trans
      (lanes1_congr y d s fun g l => ite_slt_eq_ite_toInt_le _ _ fun _ v => v)
  case vmaxN =>
    exact ((exec_vmaxN y d a b s).trans (two _)).trans
      (lanes1_congr y d s fun g l => ite_ult_eq_ite_toNat_le _ _ fun _ v => v)
  case vdot4I8 =>
    exact ((exec_vdot4I8 y d a b s).trans (acc _)).trans (lanes1_congr y d s fun g l =>
      congrArg (fun t => g.rv d.toNat l + BitVec.ofInt 32 t) (dot4_eq_sum BitVec.toInt _ _))
  case vdot4N8 =>
    exact ((exec_vdot4N8 y d a b s).trans (acc _)).trans (lanes1_congr y d s fun g l =>
      congrArg (fun t => g.rv d.toNat l + BitVec.ofInt 32 t) (dot4_eq_sum (fun c => (c.toNat : Int)) _ _))
  case vpopc =>
    exact ((exec_vpopc y d a s).trans (one _)).trans
      (lanes1_congr y d s fun g l => congrArg (BitVec.ofNat 32) (popCount_eq_countP _))
  case vclz =>
    exact ((exec_vclz y d a s).trans (one _)).trans
      (lanes1_congr y d s fun g l => apply_ite (BitVec.ofNat 32) _ _ _)
  case vlih =>
    exact ((exec_vlih y d w s).trans (vec2_eq_lanes1 y d d s _)).trans
      (lanes1_congr y d s fun g l => by rw [setWidth_14_eq_and])

end

/-- A 32-bit lane form with flags whose operands lie in the window writes its register and ORs its flags. -/
theorem vecFlags_laneWrite {s : State} {g : Group} (y : Bool) {d : Fld} {ok : Group → Bool}
    (f : Group → Nat → W32 × BitVec 6) (hg : s.group s.cursor.group = some g) (hd : g.inWindow d.toNat = true)
    (hok : ok g = true) :
    ∃ g' : Group, s.vecFlags y d ok f
        = .next (after s y (g'.orFlags (g.laneFlags s.cursor.slices fun l => (f g l).2)))
      ∧ LaneWrite g g' s.cursor.slices d.toNat fun l => (f g l).1 := by
  refine ⟨_, ?_, laneWrite_writeV g s.cursor.slices d.toNat fun l => (f g l).1⟩
  rw [State.vecFlags, State.plain_next s g y _ _ hg (by rw [hd, hok]; rfl)]
  rfl

/-- A saturating form whose operands lie in the window writes its clamped results and raises SAT if one was clamped. -/
theorem vec3Flags_satResult {s : State} {g : Group} (y : Bool) {d a b : Fld} {lo hi : Int} (hle : lo ≤ hi)
    (t : W32 → W32 → Int) (hg : s.group s.cursor.group = some g) (hin : ∀ r ∈ [d, a, b], g.inWindow r.toNat) :
    let u : Nat → Int := fun l => t (g.rv a.toNat l) (g.rv b.toNat l)
    ∃ g' : Group, s.vec3Flags y d a b (fun x z => satResult (t x z) lo hi) = .next (after s y { g' with
        fpsr := g.fpsr ||| (if (g.active s.cursor.slices).any fun l => clamp (u l) lo hi != u l then 32 else 0) })
      ∧ LaneWrite g g' s.cursor.slices d.toNat fun l => BitVec.ofInt 32 (clamp (u l) lo hi) := by
  intro u
  simp only [List.forall_mem_cons, List.not_mem_nil, false_implies, implies_true, and_true] at hin
  obtain ⟨hd, ha, hb⟩ := hin
  have hsat (t : Int) : satResult t lo hi = (BitVec.ofInt 32 (clamp t lo hi), flIf (clamp t lo hi != t) flSat) := by
    rw [satResult, sat_eq_max_min hle]
    rfl
  have hvalues : (fun l => (satResult (u l) lo hi).1) = fun l => BitVec.ofInt 32 (clamp (u l) lo hi) :=
    funext fun l => by rw [hsat]
  have hflags : (g.laneFlags s.cursor.slices fun l => (satResult (u l) lo hi).2).setWidth 32
      = if (g.active s.cursor.slices).any fun l => clamp (u l) lo hi != u l then 32 else (0 : W32) := by
    simp only [hsat, Group.laneFlags]
    rw [flAll_map_flIf]
    cases (g.active s.cursor.slices).any fun l => clamp (u l) lo hi != u l <;> rfl
  obtain ⟨g', hexec, hwrite⟩ := vecFlags_laneWrite (d := d) (ok := fun g => g.inWindow a.toNat && g.inWindow b.toNat) y
    (fun g l => satResult (t (g.rv a.toNat l) (g.rv b.toNat l)) lo hi) hg hd (by rw [ha, hb]; rfl)
  have hfpsr : g'.fpsr = g.fpsr := by
    obtain ⟨-, -, hframe⟩ := hwrite
    rw [hframe]
  refine ⟨g', ?_, hvalues ▸ hwrite⟩
  rw [State.vec3Flags, hexec, Group.orFlags, hflags, hfpsr]

/-- A pair form whose operands lie in the window writes its pair and goes on. -/
theorem pairs1_pairWrite {s : State} {g : Group} {d : Fld} {ok : Group → Bool} (y : Bool) (f : Group → Nat → W64)
    (hg : s.group s.cursor.group = some g) (hd : g.pairIn d.toNat = true) (hok : ok g = true) :
    ∃ g' : Group, s.pairs1 y d ok f = .next (after s y g') ∧ PairWrite g g' s.cursor.slices d.toNat (f g) :=
  ⟨_, State.plain_next s g y _ _ hg (by rw [hd, hok]; rfl), pairWrite_writeV g _ _ _⟩

theorem exec_pairForms (y : Bool) (d a b : Fld) (s : State) : ∀ e ∈ pairForms y d a b,
    exec e.1 s = s.pairs1 y d (fun g => g.pairIn a.toNat && g.valIn e.2.1 b.toNat) e.2.2 := by
  simp only [pairForms, List.forall_mem_cons, List.not_mem_nil, false_implies, implies_true, and_true]
  exact ⟨exec_vaddI64 y d a b s, exec_vsubI64 y d a b s, exec_vshlI64 y d a b s, exec_vshrN64 y d a b s,
    exec_vshrI64 y d a b s⟩

/-- Settles O2: each form is an interlocked lane form of the value that its list names. -/
theorem integerLaneResults : Obligations.IntegerLaneResults := by
  unfold Obligations.IntegerLaneResults
  refine ⟨?lanes, ?saturating, ?pairs⟩
  case lanes =>
    rintro s g y d a b i n w ⟨hg, -⟩ e he hin
    rw [exec_laneForms y d a b s i n w e he]
    obtain ⟨hd, hsrc⟩ := List.forall_mem_cons.mp hin
    exact lanes1_laneWrite y e.2.2 hg hd (by rw [operandsIn]; exact List.all_eq_true.mpr hsrc)
  case saturating =>
    rintro s g y d a b ⟨hg, -⟩ hin
    simp only [saturatingForms, List.forall_mem_cons, List.not_mem_nil, false_implies, implies_true, and_true]
    rw [exec_vaddsI, exec_vsubsI, exec_vaddsN, exec_vsubsN]
    exact ⟨vec3Flags_satResult y (by decide) (fun x z => x.toInt + z.toInt) hg hin,
      vec3Flags_satResult y (by decide) (fun x z => x.toInt - z.toInt) hg hin,
      vec3Flags_satResult y (by decide) (fun x z => (x.toNat : Int) + z.toNat) hg hin,
      vec3Flags_satResult y (by decide) (fun x z => (x.toNat : Int) - z.toNat) hg hin⟩
  case pairs =>
    rintro s g y d a b ⟨hg, -⟩ e he hd ha hb
    rw [exec_pairForms y d a b s e he]
    exact pairs1_pairWrite y e.2.2 hg hd (by rw [ha, hb]; rfl)

/-! ### Floating-point forms -/

/-- Every interlocked form of class 4 is the floating-point lane form of its value. -/
theorem exec_floatForms (y f : Bool) (d a b : Fld) (s : State) : ∀ e ∈ floatForms y f d a b,
    ∃ srcs, e.2.1 = d :: srcs ∧ exec e.1 s = s.fpLanes y f d srcs e.2.2 := by
  simp only [floatForms, List.forall_mem_cons, List.not_mem_nil, false_implies, implies_true, and_true]
  have hneg : exec (.fneg y f d a) s
      = s.fpLanes y f d [a] fun g l => (g.val f a.toNat l ^^^ (fmtW f).signBit, 0) := by
    simp only [exec_fneg, execFneg, Group.val_add_signBit]
  exact ⟨⟨_, rfl, exec_fadd y f d a b s⟩, ⟨_, rfl, exec_fsub y f d a b s⟩, ⟨_, rfl, exec_fmul y f d a b s⟩,
    ⟨_, rfl, exec_ffma y f d a b s⟩, ⟨_, rfl, exec_ffms y f d a b s⟩, ⟨_, rfl, exec_faddRn y f d a b s⟩,
    ⟨_, rfl, exec_fsubRn y f d a b s⟩, ⟨_, rfl, exec_fmulRn y f d a b s⟩, ⟨_, rfl, exec_ffmaRn y f d a b s⟩,
    ⟨_, rfl, exec_fmin y f d a b s⟩, ⟨_, rfl, exec_fmax y f d a b s⟩, ⟨_, rfl, exec_fabs y f d a s⟩,
    ⟨_, rfl, hneg⟩, ⟨_, rfl, exec_frnd y f d a s⟩⟩

theorem exec_halfForms (y : Bool) (d a b : Fld) (s : State) : ∀ e ∈ halfForms y d a b,
    exec e.1 s = s.half y e.2.1 d a b e.2.2 := by
  simp only [halfForms, List.forall_mem_cons, List.not_mem_nil, false_implies, implies_true, and_true]
  exact ⟨exec_hadd2F16 y d a b s, exec_hmul2F16 y d a b s, exec_hfma2F16 y d a b s, exec_hadd2Bf16 y d a b s,
    exec_hmul2Bf16 y d a b s, exec_hfma2Bf16 y d a b s⟩

/-- A floating-point lane form whose operands lie in the window writes its register or pair and ORs its flags. -/
theorem fpLanes_formWrite {s : State} {g : Group} (y wide : Bool) {d : Fld} {srcs : List Fld}
    (f : Group → Nat → Nat × BitVec 6) (hg : s.group s.cursor.group = some g)
    (hin : ∀ r ∈ d :: srcs, g.valIn wide r.toNat = true) :
    ∃ g' : Group, s.fpLanes y wide d srcs f
        = .next (after s y (g'.orFlags (g.laneFlags s.cursor.slices fun l => (f g l).2)))
      ∧ FormWrite wide g g' s.cursor.slices d.toNat fun l => (f g l).1 := by
  refine ⟨_, ?_, formWrite_writeV wide g s.cursor.slices d.toNat fun l => (f g l).1⟩
  rw [State.fpLanes, State.plain_next s g y _ _ hg (List.all_eq_true.mpr hin)]
  rfl

/-- Settles O3: each form writes its lanes and ORs the flags that they raise. -/
theorem floatLaneResults : Obligations.FloatLaneResults := by
  unfold Obligations.FloatLaneResults
  refine ⟨?wide, ?halves⟩
  case wide =>
    rintro s g y f d a b ⟨hg, -⟩ e he hin
    obtain ⟨srcs, hsrcs, hexec⟩ := exec_floatForms y f d a b s e he
    rw [hexec]
    exact fpLanes_formWrite y f e.2.2 hg (hsrcs ▸ hin)
  case halves =>
    rintro s g y d a b ⟨hg, -⟩ hin e he
    simp only [List.forall_mem_cons, List.not_mem_nil, false_implies, implies_true, and_true] at hin
    obtain ⟨hd, ha, hb⟩ := hin
    rw [exec_halfForms y d a b s e he]
    exact vecFlags_laneWrite y _ hg hd (by rw [ha, hb]; rfl)

theorem exec_slowFloatForms (y f : Bool) (d a b : Fld) (s : State) : ∀ e ∈ slowFloatForms y f d a b,
    ∃ srcs, e.2.1 = d :: srcs ∧ exec e.1 s = s.fpPend y f d srcs e.2.2 := by
  simp only [slowFloatForms, List.forall_mem_cons, List.not_mem_nil, false_implies, implies_true, and_true]
  exact ⟨⟨_, rfl, exec_fdiv y f d a b s⟩, ⟨_, rfl, exec_fsqrt y f d a s⟩⟩

theorem exec_sfuForms (y : Bool) (d a : Fld) (s : State) : ∀ e ∈ sfuForms y d a, exec e.1 s = s.sfu y d a e.2 := by
  simp only [sfuForms, List.forall_mem_cons, List.not_mem_nil, false_implies, implies_true, and_true]
  exact ⟨exec_frcp y d a s, exec_frsq y d a s, exec_fexp2 y d a s, exec_flog2 y d a s, exec_fsin y d a s, exec_fcos y d a s,
    exec_ftanh y d a s⟩

/-- A form with a pending result adds it and goes on. -/
theorem pendLanes_next {s : State} {g : Group} (y : Bool) {ok : Group → Bool}
    (f : Group → List Nat → List (Nat × W32) × BitVec 6) (hg : s.group s.cursor.group = some g) (hok : ok g = true) :
    s.pendLanes y ok f = .next (after s y (g.addPending
      { slices := s.cursor.slices, vecs := (f g s.cursor.slices).1, flags := (f g s.cursor.slices).2 })) := by
  rw [State.pendLanes, State.plain_next s g y _ _ hg hok]
  rfl

/-- Settles O4: each form adds one pending result, with its writes and flags, and goes on. -/
theorem pendingFloatResults : Obligations.PendingFloatResults := by
  unfold Obligations.PendingFloatResults
  refine ⟨?slow, ?special⟩
  case slow =>
    rintro s g y f d a b ⟨hg, -⟩ e he hin
    obtain ⟨srcs, hsrcs, hexec⟩ := exec_slowFloatForms y f d a b s e he
    rw [hexec]
    exact pendLanes_next y _ hg (List.all_eq_true.mpr (hsrcs ▸ hin))
  case special =>
    rintro s g y d a ⟨hg, -⟩ hd ha e he
    rw [exec_sfuForms y d a s e he]
    exact pendLanes_next y _ hg (by rw [hd, ha]; rfl)

end Sys2Proof.Claims

/-! PROOFS. Mask triples and capability registers: the obligations O5 and O7. -/

namespace Sys2Proof.Claims

open Sys2Proof Sys2Proof.Machine

/-! ### Triples -/

theorem triple_free_of_isTripleDest {d : Fld} (h : isTripleDest d = true) : d.toNat + 2 < 116 ∨ 123 < d.toNat := by
  simp only [isTripleDest, Bool.and_eq_true, Bool.or_eq_true, decide_eq_true_eq] at h
  exact h.2

/-- A triple write outside the rejoin registers changes the gang's bits of the three registers. -/
theorem tripleWrite_writeTriple (g : Group) (sl : List Nat) {d : Fld} (v : BitVec 96) (h : isTripleDest d = true) :
    TripleWrite g (g.writeTriple sl d.toNat v) sl d.toNat v := by
  have hfree := triple_free_of_isTripleDest h
  refine ⟨fun r => ?_, Group.writeTriple_eq g sl d.toNat v hfree⟩
  rw [Group.writeTriple_rs g sl d.toNat r v hfree]
  rfl

/-- A form that writes a triple goes on with it written. -/
theorem plain_tripleWrite {s : State} {g : Group} (y : Bool) {d : Fld} {ok : Group → Bool}
    (f : Group → List Nat → BitVec 96) (hg : s.group s.cursor.group = some g) (hd : isTripleDest d = true)
    (hok : ok g = true) :
    ∃ g' : Group, s.plain y ok (fun g sl => g.writeTriple sl d.toNat (f g sl)) = .next (after s y g')
      ∧ TripleWrite g g' s.cursor.slices d.toNat (f g s.cursor.slices) :=
  ⟨_, State.plain_next s g y _ _ hg hok, tripleWrite_writeTriple g _ _ hd⟩

/-- Every compare is the triple form of its condition, and its word names a triple destination. -/
theorem exec_compareForms (y f : Bool) (d a b : Fld) (s : State) : ∀ e ∈ compareForms y f d a b,
    exec e.1 s = s.compare y d e.2.1 e.2.2 ∧ (e.1.wf = true → isTripleDest d = true) := by
  have ints {e : Instr} {p p' : W32 → W32 → Bool} (he : exec e s = s.vecCompare y d a b p) (h : ∀ x z, p x z = p' x z)
      (hwf : e.wf = isTripleDest d) :
      exec e s = s.compare y d (fun g => g.inWindow a.toNat && g.inWindow b.toNat)
        (fun g l => p' (g.rv a.toNat l) (g.rv b.toNat l)) ∧ (e.wf = true → isTripleDest d = true) := by
    rw [he, funext fun x => funext (h x), hwf]
    exact ⟨rfl, id⟩
  have floats (u v : Bool) : (isTripleDest d && u && v) = true → isTripleDest d = true := by
    simp only [Bool.and_eq_true]
    exact fun h => h.1.1
  simp only [compareForms, List.forall_mem_cons, List.not_mem_nil, false_implies, implies_true, and_true]
  refine ⟨ints (exec_vceq y d a b s) (p' := fun x z => decide (x = z)) (fun x z => ?_) rfl,
    ints (exec_vcne y d a b s) (p' := fun x z => decide (x ≠ z)) (fun x z => ?_) rfl,
    ints (exec_vcltI y d a b s) (p' := fun x z => decide (x.toInt < z.toInt)) (fun x z => rfl) rfl,
    ints (exec_vcltN y d a b s) (p' := fun x z => decide (x.toNat < z.toNat)) (fun x z => rfl) rfl,
    ints (exec_vcleI y d a b s) (p' := fun x z => decide (x.toInt ≤ z.toInt)) not_slt_swap rfl,
    ints (exec_vcleN y d a b s) (p' := fun x z => decide (x.toNat ≤ z.toNat)) not_ult_swap rfl,
    ⟨exec_fceq y f d a b s, floats _ _⟩, ⟨exec_fclt y f d a b s, floats _ _⟩, ⟨exec_fcle y f d a b s, floats _ _⟩,
    ⟨exec_fcun y f d a b s, floats _ _⟩, ?_, id⟩
  · rfl
  · rw [Bool.eq_iff_iff, bne_iff_ne, decide_eq_true_eq]
  · rw [exec_mfromv, execMfromv]
    congr 1
    funext g l
    rw [Bool.eq_iff_iff, bne_iff_ne, decide_eq_true_eq]

theorem exec_maskForms (y : Bool) (d a b : Fld) (s : State) : ∀ e ∈ maskForms y d a b,
    exec e.1 s = s.plain y (fun _ => true) (fun g sl => g.writeTriple sl d.toNat (e.2 g sl))
      ∧ (e.1.wf = true → isTripleDest d = true) := by
  have two (u v : Bool) : (isTripleDest d && u && v) = true → isTripleDest d = true := by
    simp only [Bool.and_eq_true]
    exact fun h => h.1.1
  have one (u : Bool) : (isTripleDest d && u) = true → isTripleDest d = true := by
    simp only [Bool.and_eq_true]
    exact fun h => h.1
  simp only [maskForms, List.forall_mem_cons, List.not_mem_nil, false_implies, implies_true, and_true]
  exact ⟨⟨exec_mand y d a b s, two _ _⟩, ⟨exec_mor y d a b s, two _ _⟩, ⟨exec_mxor y d a b s, two _ _⟩,
    ⟨exec_mandn y d a b s, two _ _⟩, ⟨exec_mnot y d a s, one _⟩, ⟨exec_mmov y d a s, one _⟩, ⟨exec_voteBal y d a s, one _⟩⟩

/-- Settles O5: each form is a triple write; the bits of a compare are `laneBits` of its condition. -/
theorem maskTripleResults : Obligations.MaskTripleResults := by
  unfold Obligations.MaskTripleResults
  refine ⟨?compares, ?masks, ?swap⟩
  case compares =>
    rintro s g y f d a b ⟨hg, -⟩ e he hwf hok
    obtain ⟨hexec, hdest⟩ := exec_compareForms y f d a b s e he
    obtain ⟨g', hnext, hwrite⟩ :=
      plain_tripleWrite y (fun g sl => g.laneBits sl (e.2.2 g)) hg (hdest hwf) hok
    exact ⟨g', _, hexec.trans hnext, hwrite, fun l => Group.getLsbD_laneBits g _ _ l⟩
  case masks =>
    rintro s g y d a b ⟨hg, -⟩ e he hwf
    obtain ⟨hexec, hdest⟩ := exec_maskForms y d a b s e he
    rw [hexec]
    exact plain_tripleWrite y e.2 hg (hdest hwf) rfl
  case swap =>
    rintro s g y d a ⟨hg, -⟩ hwf
    have hdests : isTripleDest d = true ∧ isTripleDest a = true := by
      have h : (isTripleDest d && isTripleDest a && swapOk d a) = true := hwf
      simp only [Bool.and_eq_true] at h
      exact h.1
    exact ⟨_, _, (exec_mswap y d a s).trans (State.plain_next s g y _ _ hg rfl),
      tripleWrite_writeTriple g _ _ hdests.1, tripleWrite_writeTriple _ _ _ hdests.2⟩

/-! ### Capability registers -/

theorem capWrite_writeC (g : Group) (d : Nat) (c : Cap) : CapWrite g (g.writeC d c) d c :=
  ⟨fun r => Group.rc_writeC g d r c, rfl⟩

theorem exec_capForms (y : Bool) (d a b : Fld) (s : State) : ∀ e ∈ capForms y d a b,
    exec e.1 s = s.plain y (fun _ => true) fun g _ => g.writeC d.toNat (e.2 s g) := by
  simp only [capForms, List.forall_mem_cons, List.not_mem_nil, false_implies, implies_true, and_true]
  refine ⟨exec_csub y d a b s, exec_crgt y d a b s, exec_cmov y d a s, exec_cclr y d s, ?_⟩
  rw [exec_cstash, execCstash]
  congr 1
  funext g _
  simp only [Bool.decide_and]

/-- Settles O7: each form is a write of one capability register. -/
theorem capabilityResults : Obligations.CapabilityResults := by
  unfold Obligations.CapabilityResults
  rintro s g y d a b ⟨hg, -⟩ e he
  rw [exec_capForms y d a b s e he]
  exact ⟨_, State.plain_next s g y _ _ hg rfl, capWrite_writeC g _ _⟩

end Sys2Proof.Claims

/-! PROOFS. Lane crossings: shuffles, broadcasts, reductions and scans: the obligation O6. -/

namespace Sys2Proof.Machine

/-! ### Ascending lists -/

/-- In an ascending list, the elements up to the one at a place are those before it, and it. -/
theorem filter_le_getElem_eq_take {l : List Nat} (hl : l.Pairwise (· < ·)) {i : Nat} (hi : i < l.length) :
    (l.filter fun m => decide (m ≤ l[i])) = l.take (i + 1) := by
  have hmono := List.pairwise_iff_getElem.mp hl
  refine List.Pairwise.eq_of_mem_iff (hl.filter _) hl.take fun m => ?_
  simp only [List.mem_filter, decide_eq_true_eq, List.mem_take_iff_getElem]
  constructor
  · rintro ⟨hm, hle⟩
    obtain ⟨j, hj, rfl⟩ := List.getElem_of_mem hm
    have hji : j ≤ i := by
      by_contra hlt
      have := hmono i j hi hj (by omega)
      omega
    exact ⟨j, by omega, rfl⟩
  · rintro ⟨j, hj, rfl⟩
    refine ⟨List.getElem_mem _, ?_⟩
    rcases Nat.lt_or_ge j i with hlt | hge
    · exact (hmono j i (by omega) hi hlt).le
    · have : j = i := by omega
      subst this
      exact le_rfl

/-! ### Flag sets -/

theorem getLsbD_flAll (l : List (BitVec 6)) (i : Nat) : (flAll l).getLsbD i = l.any fun w => w.getLsbD i := by
  have step (l : List (BitVec 6)) (w : BitVec 6) :
      (l.foldl (fun a b => a ||| b) w).getLsbD i = (w.getLsbD i || l.any fun w => w.getLsbD i) := by
    induction l generalizing w with
    | nil => simp
    | cons x l ih => rw [List.foldl_cons, ih, BitVec.getLsbD_or, List.any_cons, Bool.or_assoc]
  simpa [flAll] using step l 0

/-- Two lists of flag sets have one OR when each set of one is in the other or empty. -/
theorem flAll_eq_of_mem {l l' : List (BitVec 6)} (h : ∀ w ∈ l, w = 0 ∨ w ∈ l') (h' : ∀ w ∈ l', w = 0 ∨ w ∈ l) :
    flAll l = flAll l' := by
  have sub {l l' : List (BitVec 6)} (h : ∀ w ∈ l, w = 0 ∨ w ∈ l') (i : Nat)
      (hi : (l.any fun w => w.getLsbD i) = true) : (l'.any fun w => w.getLsbD i) = true := by
    obtain ⟨w, hw, hbit⟩ := List.any_eq_true.mp hi
    rcases h w hw with rfl | hmem
    · simp at hbit
    · exact List.any_eq_true.mpr ⟨w, hmem, hbit⟩
  refine BitVec.eq_of_getLsbD_eq fun i _ => ?_
  rw [getLsbD_flAll, getLsbD_flAll, Bool.eq_iff_iff]
  exact ⟨sub h i, sub h' i⟩

/-! ### Folds with running values -/

/-- One step of a fold with flags. -/
def foldStep (f : W32 → W32 → W32 × BitVec 6) (p : W32 × BitVec 6) (x : W32) : W32 × BitVec 6 :=
  ((f p.1 x).1, p.2 ||| (f p.1 x).2)

theorem headD_redFold (f : W32 → W32 → W32 × BitVec 6) (p z : W32 × BitVec 6) (acc : List (W32 × BitVec 6))
    (xs : List W32) : (redFold f (p :: acc) xs).headD z = xs.foldl (foldStep f) p := by
  induction xs generalizing p acc with
  | nil => rfl
  | cons x xs ih => exact ih (foldStep f p x) (p :: acc)

theorem redFold_eq_append (f : W32 → W32 → W32 × BitVec 6) (p : W32 × BitVec 6) (acc : List (W32 × BitVec 6))
    (xs : List W32) : redFold f (p :: acc) xs
      = ((List.range xs.length).map fun i => (xs.take (i + 1)).foldl (foldStep f) p).reverse ++ p :: acc := by
  induction xs generalizing p acc with
  | nil => rfl
  | cons x xs ih =>
    refine (ih (foldStep f p x) (p :: acc)).trans ?_
    rw [List.length_cons, List.range_succ_eq_map, List.map_cons, List.reverse_cons, List.map_map, List.append_assoc]
    rfl

/-- The running values of a fold, oldest first: those of the prefixes. -/
theorem reverse_redFold (f : W32 → W32 → W32 × BitVec 6) (p : W32 × BitVec 6) (xs : List W32) :
    (redFold f [p] xs).reverse = (List.range (xs.length + 1)).map fun i => (xs.take i).foldl (foldStep f) p := by
  rw [redFold_eq_append, List.reverse_append, List.reverse_reverse, List.range_succ_eq_map, List.map_cons, List.map_map]
  rfl

end Sys2Proof.Machine

namespace Sys2Proof.Claims

open Sys2Proof Sys2Proof.Machine

/-! ### One sub-group -/

theorem reduced_eq_foldStep (rm : RMode) (o t : Nat) (x : W32) (xs : List W32) :
    reduced rm o t (x :: xs) = xs.foldl (foldStep (redOp rm o t)) (redFirst t x) := rfl

theorem reduceSet_flags (g : Group) (scan : Bool) (o t d a : Nat) {lanes : List Nat} (hne : lanes ≠ []) :
    (g.reduceSet scan o t d a lanes).2 = (reduced g.rm o t (lanes.map (g.rv a))).2 := by
  cases lanes with
  | nil => contradiction
  | cons l0 rest =>
    rw [List.map_cons, reduced_eq_foldStep, ← headD_redFold (redOp g.rm o t) _ (0, 0) []]
    cases scan <;> rfl

/-- The writes of a sub-group: each of its lanes takes the fold of all of them, in a scan of those up to it. -/
theorem mem_reduceSet (g : Group) (scan : Bool) (o t d a : Nat) {lanes : List Nat} (hl : lanes.Pairwise (· < ·))
    (e : Nat × W32) : e ∈ (g.reduceSet scan o t d a lanes).1 ↔ ∃ l ∈ lanes,
      e = (g.vkey d l, (reduced g.rm o t ((lanes.filter fun m => !scan || decide (m ≤ l)).map (g.rv a))).1) := by
  cases lanes with
  | nil => simp [Group.reduceSet]
  | cons l0 rest =>
    cases scan with
    | false =>
      have hall : ((l0 :: rest).filter fun _ => true) = l0 :: rest := List.filter_eq_self.mpr fun _ _ => rfl
      simp only [Group.reduceSet, Bool.false_eq_true, if_false, Bool.not_false, Bool.true_or, hall, List.map_cons,
        reduced_eq_foldStep, headD_redFold]
      rw [← List.map_cons (f := fun l => (g.vkey d l, _)), List.mem_map]
      simp only [eq_comm]
    | true =>
      have hvalue (i : Nat) (hi : i < (l0 :: rest).length) :
          reduced g.rm o t (((l0 :: rest).filter fun m => !true || decide (m ≤ (l0 :: rest)[i])).map (g.rv a))
            = ((rest.map (g.rv a)).take i).foldl (foldStep (redOp g.rm o t)) (redFirst t (g.rv a l0)) := by
        simp only [Bool.not_true, Bool.false_or]
        rw [filter_le_getElem_eq_take hl hi, List.take_succ_cons, List.map_cons, reduced_eq_foldStep, List.map_take]
      simp only [Group.reduceSet, if_true, reverse_redFold, List.length_map]
      rw [List.mem_map]
      constructor
      · rintro ⟨u, hu, rfl⟩
        obtain ⟨i, hi, rfl⟩ := List.getElem_of_mem hu
        have hi : i < (l0 :: rest).length := by simpa using hi
        refine ⟨_, List.getElem_mem hi, ?_⟩
        rw [hvalue i hi, List.getElem_zip, List.getElem_map, List.getElem_range]
      · rintro ⟨l, hl, rfl⟩
        obtain ⟨i, hi, rfl⟩ := List.getElem_of_mem hl
        refine ⟨_, List.getElem_mem (n := i) (by simpa using hi), ?_⟩
        rw [hvalue i hi, List.getElem_zip, List.getElem_map, List.getElem_range]

/-! ### The sub-groups of a gang -/

/-- The active lanes of a sub-group in one copy, as `reduce` lists them. -/
def setLanes (g : Group) (sl : List Nat) (n k p : Nat) : List Nat :=
  ((List.range n).filterMap fun i => if g.isActive sl (n * k + i) then some (n * k + i) else none).map
    fun l => g.physLane l + p

theorem setLanes_eq (g : Group) (sl : List Nat) (n k p : Nat) : setLanes g sl n k p
    = ((List.range n).filter fun i => g.isActive sl (n * k + i)).map fun i => g.physLane (n * k + i) + p := by
  rw [setLanes, List.map_filterMap, ← List.filterMap_eq_map, List.filterMap_filter]
  congr 1
  funext i
  split <;> simp_all

theorem pairwise_setLanes (g : Group) (sl : List Nat) (n k p : Nat) : (setLanes g sl n k p).Pairwise (· < ·) := by
  rw [setLanes_eq, List.pairwise_map]
  refine (List.pairwise_lt_range.filter _).imp fun {i j} hij => ?_
  unfold Group.physLane
  split <;> omega

theorem mem_active {g : Group} {sl : List Nat} {l : Nat} :
    l ∈ g.active sl ↔ l < g.lanes ∧ g.isActive sl (g.visLane l) = true := by
  simp [Group.active, Group.isActive]

theorem mem_copies {g : Group} {p : Nat} : p ∈ g.copies ↔ p < if g.prot then 2 else 1 := by
  unfold Group.copies
  cases g.prot
  · simp
  · simp only [if_true, List.mem_cons, List.not_mem_nil, or_false]
    omega

/-- A lane of a copy of a sub-group is an active lane of the sub-group and the copy. -/
theorem mem_setLanes {g : Group} {sl : List Nat} {n k p : Nat} (hn : 0 < n) (hp : p ∈ g.copies) {m : Nat} :
    m ∈ setLanes g sl n k p ↔ m ∈ g.active sl ∧ g.visLane m / n = k ∧ (g.prot = true → m % 2 = p) := by
  have hcopies := mem_copies.mp hp
  rw [setLanes_eq, mem_active]
  simp only [List.mem_map, List.mem_filter, List.mem_range]
  constructor
  · rintro ⟨i, ⟨hi, hact⟩, rfl⟩
    have hvis : g.visLane (g.physLane (n * k + i) + p) = n * k + i := by
      unfold Group.visLane Group.physLane
      split_ifs at hcopies ⊢ <;> omega
    have hlt : n * k + i < g.visible := by
      simp only [Group.isActive, Bool.and_eq_true, decide_eq_true_eq] at hact
      exact hact.1
    rw [hvis]
    refine ⟨⟨?_, hact⟩, ?_, fun hprot => ?_⟩
    · unfold Group.visible at hlt
      unfold Group.physLane
      split_ifs at hcopies hlt ⊢ <;> omega
    · rw [Nat.mul_add_div hn, Nat.div_eq_of_lt hi, Nat.add_zero]
    · rw [if_pos hprot] at hcopies
      rw [Group.physLane, if_pos hprot]
      omega
  · rintro ⟨⟨-, hact⟩, rfl, hpar⟩
    have hdiv := Nat.div_add_mod (g.visLane m) n
    refine ⟨g.visLane m % n, ⟨Nat.mod_lt _ hn, by rwa [hdiv]⟩, ?_⟩
    rw [hdiv]
    unfold Group.visLane Group.physLane
    split_ifs at hcopies ⊢ with hprot
    · have := hpar hprot
      omega
    · omega

/-- The sub-group and the copy of an active lane. -/
theorem exists_setLanes {g : Group} {sl : List Nat} {n l : Nat} (hn : 0 < n) (hl : l ∈ g.active sl) :
    ∃ k < (g.visible + n - 1) / n, ∃ p ∈ g.copies, l ∈ setLanes g sl n k p := by
  have hvis : g.visLane l < g.visible := by
    have := (mem_active.mp hl).2
    simp only [Group.isActive, Bool.and_eq_true, decide_eq_true_eq] at this
    exact this.1
  have hp : (if g.prot then l % 2 else 0) ∈ g.copies := by
    rw [mem_copies]
    split <;> omega
  refine ⟨g.visLane l / n, ?_, _, hp, (mem_setLanes hn hp).mpr ⟨hl, rfl, fun hprot => by rw [if_pos hprot]⟩⟩
  rw [Nat.div_lt_iff_lt_mul hn]
  have := Nat.div_add_mod (g.visible + n - 1) n
  have := Nat.mod_lt (g.visible + n - 1) hn
  rw [Nat.mul_comm]
  omega

/-- The partners of a lane are the lanes of its copy of its sub-group, in a scan those up to it. -/
theorem partners_eq_filter {g : Group} {sl : List Nat} {n k p l : Nat} (hn : 0 < n) (hp : p ∈ g.copies)
    (hl : l ∈ setLanes g sl n k p) (scan : Bool) :
    partners g sl scan n l = (setLanes g sl n k p).filter fun m => !scan || decide (m ≤ l) := by
  obtain ⟨-, hk, hpar⟩ := (mem_setLanes hn hp).mp hl
  refine List.Pairwise.eq_of_mem_iff ((List.pairwise_lt_range.filter _).filter _)
    ((pairwise_setLanes g sl n k p).filter _) fun m => ?_
  simp only [partners, List.mem_filter, mem_setLanes hn hp, hk, Bool.and_eq_true, Bool.or_eq_true, Bool.not_eq_true',
    beq_iff_eq]
  rw [and_assoc, and_assoc, and_assoc]
  refine and_congr_right fun _ => and_congr_right fun _ => and_congr_left fun _ => ?_
  cases hprot : g.prot with
  | false => simp
  | true => simp [hpar hprot]

/-! ### Reductions and scans -/

/-- The value and flags of a lane of a reduction or scan. -/
def laneReduced (g : Group) (sl : List Nat) (n o t a : Nat) (scan : Bool) (l : Nat) : W32 × BitVec 6 :=
  reduced g.rm o t ((partners g sl scan n l).map (g.rv a))

/-- The sub-groups in their copies, as `reduce` lists them. -/
def reduceParts (g : Group) (sl : List Nat) (scan : Bool) (n o t d a : Nat) : List (List (Nat × W32) × BitVec 6) :=
  (List.range ((g.visible + n - 1) / n)).flatMap fun k => g.copies.map fun p =>
    g.reduceSet scan o t d a (setLanes g sl n k p)

theorem mem_reduceParts {g : Group} {sl : List Nat} {scan : Bool} {n o t d a : Nat}
    {r : List (Nat × W32) × BitVec 6} : r ∈ reduceParts g sl scan n o t d a ↔
      ∃ k < (g.visible + n - 1) / n, ∃ p ∈ g.copies, g.reduceSet scan o t d a (setLanes g sl n k p) = r := by
  simp [reduceParts]

section

variable {g : Group} {sl : List Nat} {scan : Bool} {n o t d a : Nat} (hn : 0 < n)

include hn

/-- The writes of a reduction or scan: each active lane takes its value. -/
theorem mem_reduceParts_writes {e : Nat × W32} : e ∈ (reduceParts g sl scan n o t d a).flatMap Prod.fst ↔
    ∃ l ∈ g.active sl, e = (g.vkey d l, (laneReduced g sl n o t a scan l).1) := by
  rw [List.mem_flatMap]
  constructor
  · rintro ⟨r, hr, he⟩
    obtain ⟨k, -, p, hp, rfl⟩ := mem_reduceParts.mp hr
    obtain ⟨l, hl, rfl⟩ := (mem_reduceSet g scan o t d a (pairwise_setLanes g sl n k p) e).mp he
    exact ⟨l, ((mem_setLanes hn hp).mp hl).1, by rw [laneReduced, partners_eq_filter hn hp hl]⟩
  · rintro ⟨l, hl, rfl⟩
    obtain ⟨k, hk, p, hp, hmem⟩ := exists_setLanes hn hl
    exact ⟨_, mem_reduceParts.mpr ⟨k, hk, p, hp, rfl⟩,
      (mem_reduceSet g scan o t d a (pairwise_setLanes g sl n k p) _).mpr
        ⟨l, hmem, by rw [laneReduced, partners_eq_filter hn hp hmem]⟩⟩

/-- The flags of a reduction or scan: those of the folds of all the lanes' sub-groups. -/
theorem flAll_reduceParts : flAll ((reduceParts g sl scan n o t d a).map Prod.snd)
    = g.laneFlags sl fun l => (laneReduced g sl n o t a false l).2 := by
  have hflags {k p l : Nat} (hp : p ∈ g.copies) (hl : l ∈ setLanes g sl n k p) :
      (g.reduceSet scan o t d a (setLanes g sl n k p)).2 = (laneReduced g sl n o t a false l).2 := by
    rw [reduceSet_flags g scan o t d a (List.ne_nil_of_mem hl), laneReduced, partners_eq_filter hn hp hl]
    congr 3
    exact (List.filter_eq_self.mpr fun _ _ => rfl).symm
  refine flAll_eq_of_mem (fun w hw => ?_) fun w hw => .inr ?_
  · obtain ⟨r, hr, rfl⟩ := List.mem_map.mp hw
    obtain ⟨k, -, p, hp, rfl⟩ := mem_reduceParts.mp hr
    rcases List.eq_nil_or_concat (setLanes g sl n k p) with hnil | ⟨ls, l, hcons⟩
    · exact .inl (by rw [hnil]; rfl)
    · have hl : l ∈ setLanes g sl n k p := by simp [hcons]
      exact .inr (List.mem_map.mpr ⟨l, ((mem_setLanes hn hp).mp hl).1, (hflags hp hl).symm⟩)
  · obtain ⟨l, hl, rfl⟩ := List.mem_map.mp hw
    obtain ⟨k, hk, p, hp, hmem⟩ := exists_setLanes hn hl
    exact List.mem_map.mpr ⟨_, mem_reduceParts.mpr ⟨k, hk, p, hp, rfl⟩, hflags hp hmem⟩

end

/-- Writes that cover a lane form's keys with its values are that lane form's write, whatever their order. -/
theorem laneWrite_writeV_of_mem {g : Group} {sl : List Nat} {d : Nat} {f : Nat → W32} {w : List (Nat × W32)}
    (hw : ∀ e, e ∈ w ↔ ∃ l ∈ g.active sl, e = (g.vkey d l, f l)) : LaneWrite g (g.writeV w) sl d f := by
  have hvalue : ∀ e ∈ w, e.2 = f (e.1 % 128) := by
    intro e he
    obtain ⟨l, hl, rfl⟩ := (hw e).mp he
    have := g.mem_active_lt sl hl
    rw [Group.vkey_mod _ _ _ (by omega)]
  have hkeys (k : Nat) : k ∈ w.map Prod.fst ↔ k ∈ (g.active sl).map (g.vkey d) := by
    simp only [List.mem_map]
    constructor
    · rintro ⟨e, he, rfl⟩
      obtain ⟨l, hl, rfl⟩ := (hw e).mp he
      exact ⟨l, hl, rfl⟩
    · rintro ⟨l, hl, rfl⟩
      exact ⟨_, (hw _).mpr ⟨l, hl, rfl⟩, rfl⟩
  have hget := Group.get_writeV g w (fun k => f (k % 128)) hvalue
  refine ⟨fun l hl => ?_, fun k hk => ?_, ?_⟩
  · have hlt := g.mem_active_lt sl hl
    show Sparse.get 0 (g.writeV w).v (g.vkey d l) = f l
    rw [hget, if_pos ((hkeys _).mpr (List.mem_map.mpr ⟨l, hl, rfl⟩)), Group.vkey_mod _ _ _ (by omega)]
  · rw [hget, if_neg ((hkeys k).not.mpr hk)]
  · have hdrop : Pending.dropV (w.map Prod.fst) = Pending.dropV ((g.active sl).map (g.vkey d)) := by
      funext p
      have hcontains (e : Nat × W32) : (w.map Prod.fst).contains e.1 = ((g.active sl).map (g.vkey d)).contains e.1 := by
        rw [Bool.eq_iff_iff, List.contains_iff_mem, List.contains_iff_mem]
        exact hkeys e.1
      simp only [Pending.dropV, hcontains]
    rw [← hdrop]
    exact Group.writeV_eq g w

/-! ### The obligation -/

theorem exec_reductions (y : Bool) (d a : Fld) (o : BitVec 3) (t : BitVec 2) (s : State) : ∀ e ∈ reductions y d a o t,
    exec e.1 s = s.reduce y e.2.1 e.2.2 d a o t ∧ 0 < e.2.2 := by
  simp only [reductions, List.forall_mem_cons, List.not_mem_nil, false_implies, implies_true, and_true]
  exact ⟨⟨exec_vredW4 y d a o t s, by decide⟩, ⟨exec_vredW8 y d a o t s, by decide⟩,
    ⟨exec_vredW16 y d a o t s, by decide⟩, ⟨exec_vredW32 y d a o t s, by decide⟩,
    ⟨exec_vredW64 y d a o t s, by decide⟩, ⟨exec_vredW96 y d a o t s, by decide⟩,
    ⟨exec_vscanW4 y d a o t s, by decide⟩, ⟨exec_vscanW8 y d a o t s, by decide⟩,
    ⟨exec_vscanW16 y d a o t s, by decide⟩, ⟨exec_vscanW32 y d a o t s, by decide⟩,
    ⟨exec_vscanW64 y d a o t s, by decide⟩, ⟨exec_vscanW96 y d a o t s, by decide⟩⟩

/-- The index function and operand check of each shuffle. -/
theorem exec_shuffles (y : Bool) (d a b : Fld) (s : State) : ∀ e ∈ shuffles y d a b,
    ∃ ok : Group → Bool, (∀ g : Group, operandsIn e.2.2.1 g = true → ok g = true)
      ∧ exec e.1 s = s.shuffle y e.2.1 d a ok e.2.2.2 := by
  have idx : ∀ g : Group, operandsIn [b] g = true → g.inWindow b.toNat = true :=
    fun g h => by rwa [operandsIn_one] at h
  have plain : ∀ g : Group, operandsIn [] g = true → true = true := fun _ _ => rfl
  simp only [shuffles, List.forall_mem_append, List.forall_mem_cons, List.not_mem_nil, false_implies, implies_true, and_true]
  exact ⟨⟨⟨⟨⟨⟨_, idx, exec_shflIdxW4 y d a b s⟩, ⟨_, idx, exec_shflIdxW8 y d a b s⟩, ⟨_, idx, exec_shflIdxW16 y d a b s⟩,
      ⟨_, idx, exec_shflIdxW32 y d a b s⟩, ⟨_, idx, exec_shflIdxW64 y d a b s⟩, ⟨_, idx, exec_shflIdxW96 y d a b s⟩⟩,
      ⟨_, plain, exec_shflXorW4 y d a b s⟩, ⟨_, plain, exec_shflXorW8 y d a b s⟩, ⟨_, plain, exec_shflXorW16 y d a b s⟩,
      ⟨_, plain, exec_shflXorW32 y d a b s⟩, ⟨_, plain, exec_shflXorW64 y d a b s⟩, ⟨_, plain, exec_shflXorW96 y d a b s⟩⟩,
      ⟨_, plain, exec_shflUpW4 y d a b s⟩, ⟨_, plain, exec_shflUpW8 y d a b s⟩, ⟨_, plain, exec_shflUpW16 y d a b s⟩,
      ⟨_, plain, exec_shflUpW32 y d a b s⟩, ⟨_, plain, exec_shflUpW64 y d a b s⟩, ⟨_, plain, exec_shflUpW96 y d a b s⟩⟩,
      ⟨_, plain, exec_shflDnW4 y d a b s⟩, ⟨_, plain, exec_shflDnW8 y d a b s⟩, ⟨_, plain, exec_shflDnW16 y d a b s⟩,
      ⟨_, plain, exec_shflDnW32 y d a b s⟩, ⟨_, plain, exec_shflDnW64 y d a b s⟩, ⟨_, plain, exec_shflDnW96 y d a b s⟩⟩,
      ⟨_, plain, exec_vbcastW4 y d a b s⟩, ⟨_, plain, exec_vbcastW8 y d a b s⟩, ⟨_, plain, exec_vbcastW16 y d a b s⟩,
      ⟨_, plain, exec_vbcastW32 y d a b s⟩, ⟨_, plain, exec_vbcastW64 y d a b s⟩, ⟨_, plain, exec_vbcastW96 y d a b s⟩⟩

/-- What a lane takes is `taken`: the source lane of its own copy. -/
theorem take_eq_taken (g : Group) (sl : List Nat) (a src l : Nat) : g.take sl a src l = taken g sl a src l := by
  unfold Group.take taken Group.physLane
  by_cases hsrc : src < g.visible ∧ (g.activeBits sl).getLsbD src = true
  · rw [if_pos hsrc, if_pos (by simpa using hsrc)]
    cases g.prot <;> simp
  · rw [if_neg hsrc, if_neg (by simpa using hsrc)]

theorem shuffle_next {s : State} {g : Group} (y : Bool) {n : Nat} {d a : Fld} {ok : Group → Bool}
    (j : Group → Nat → Nat → Nat) (hg : s.group s.cursor.group = some g) (hd : g.inWindow d.toNat = true)
    (ha : g.inWindow a.toNat = true) (hok : ok g = true) (hn : n ≤ g.visible) :
    let w := g.laneWrites s.cursor.slices d.toNat fun l =>
      taken g s.cursor.slices a.toNat (n * (g.visLane l / n) + j g l (g.visLane l % n)) l
    s.shuffle y n d a ok j = .next (after s y
      (if n ≤ 32 then g.writeV w else g.addPending { slices := s.cursor.slices, vecs := w })) := by
  simp only [State.shuffle, State.issue_of_group _ hg, hd, ha, hok, hn, State.need, decide_true, Bool.and_true, if_true,
    State.retire, after, take_eq_taken]

theorem reduce_next {s : State} {g : Group} (y scan : Bool) {n : Nat} {d a : Fld} (o : BitVec 3) (t : BitVec 2)
    (hg : s.group s.cursor.group = some g) (hd : g.inWindow d.toNat = true) (ha : g.inWindow a.toNat = true)
    (hn : n ≤ g.visible) :
    let parts := reduceParts g s.cursor.slices scan n o.toNat t.toNat d.toNat a.toNat
    s.reduce y scan n d a o t = .next (after s y
      (if n ≤ 32 then (g.writeV (parts.flatMap Prod.fst)).orFlags (flAll (parts.map Prod.snd))
       else g.addPending { slices := s.cursor.slices, vecs := parts.flatMap Prod.fst, flags := flAll (parts.map Prod.snd) })) := by
  simp only [State.reduce, State.issue_of_group _ hg, hd, ha, hn, State.need, decide_true, Bool.and_true, if_true,
    State.retire, after]
  rfl

/-- Settles O6: a shuffle's value is `taken`; a reduction's writes and flags are those of the lanes' partners. -/
theorem laneCrossingResults : Obligations.LaneCrossingResults := by
  unfold Obligations.LaneCrossingResults
  refine ⟨?shuffles, ?reductions⟩
  case shuffles =>
    rintro s g y d a b ⟨hg, -⟩ e he hin hle
    obtain ⟨ok, hok, hexec⟩ := exec_shuffles y d a b s e he
    obtain ⟨hd, hin⟩ := List.forall_mem_cons.mp hin
    obtain ⟨ha, hin⟩ := List.forall_mem_cons.mp hin
    refine ⟨_, hexec.trans (shuffle_next y e.2.2.2 hg hd ha (hok g (List.all_eq_true.mpr hin)) hle), ?_⟩
    split
    · exact laneWrite_writeV g _ _ _
    · rfl
  case reductions =>
    rintro s g y d a o t ⟨hg, -⟩ e he hd ha hle
    obtain ⟨hexec, hn⟩ := exec_reductions y d a o t s e he
    refine ⟨_, hexec.trans (reduce_next y e.2.1 o t hg hd ha hle), ?_⟩
    rw [flAll_reduceParts hn]
    split
    · exact ⟨_, laneWrite_writeV_of_mem fun _ => mem_reduceParts_writes hn, rfl⟩
    · exact ⟨_, rfl, rfl, fun l hl => (mem_reduceParts_writes hn).mpr ⟨l, hl, rfl⟩,
        fun w hw => (mem_reduceParts_writes hn).mp hw⟩

end Sys2Proof.Claims

/-! PROOFS. Control: branches, calls and returns, switch points and EXIT: the obligations O8, O9 and O12. -/

namespace Sys2Proof.Machine

/-! ### A gang that goes to a PC -/

/-- The record of a slice of a gang that goes to a PC: it parks there when the instruction carries the switch bit and the gang
has pending results. -/
def Slice.wentTo (r : Slice) (pc : W64) (parks : Bool) : Slice :=
  if parks then ({ r with pc := pc } : Slice).parkAt .switchPoint 0 0 else { r with pc := pc }

theorem Group.setPc_eq (g : Group) (sl : List Nat) (pc : W64) : g.setPc sl pc = { g with slices := (g.setPc sl pc).slices } :=
  Group.mapSlices_eq _ _ _

theorem Group.switchPark_eq (g : Group) (sl : List Nat) :
    g.switchPark sl = { g with slices := (g.switchPark sl).slices } := by
  unfold Group.switchPark
  split
  · exact Group.mapSlices_eq _ _ _
  · rfl

theorem Group.goTo_eq (g : Group) (sl : List Nat) (pc : W64) (y : Bool) :
    g.goTo sl pc y = { g with slices := (g.goTo sl pc y).slices } := by
  unfold Group.goTo
  cases y with
  | false => exact Group.setPc_eq _ _ _
  | true =>
    simp only [if_true]
    rw [Group.switchPark_eq, Group.setPc_eq]

theorem Group.hasPending_eq (g g' : Group) (sl : List Nat) (h : g'.pending = g.pending) :
    g'.hasPending sl = g.hasPending sl := by
  unfold Group.hasPending
  rw [h]

/-- The slices of a gang that goes to a PC, and the others. -/
theorem Group.slice_goTo (g : Group) {sl : List Nat} (pc : W64) (y : Bool) (i : Nat) (hl : sl.Nodup) :
    (g.goTo sl pc y).slice i = if i ∈ sl then (g.slice i).wentTo pc (y && g.hasPending sl) else g.slice i := by
  have hset (i : Nat) : (g.setPc sl pc).slice i = if i ∈ sl then { g.slice i with pc := pc } else g.slice i :=
    Group.slice_mapSlices _ _ _ _ hl
  have hpend : (g.setPc sl pc).hasPending sl = g.hasPending sl :=
    Group.hasPending_eq _ _ _ (by rw [Group.setPc_eq])
  unfold Group.goTo
  cases y with
  | false =>
    simp only [Bool.false_eq_true, if_false, hset, Bool.false_and]
    rfl
  | true =>
    simp only [if_true, Group.switchPark, hpend, Bool.true_and]
    cases g.hasPending sl with
    | false =>
      simp only [Bool.false_eq_true, if_false, hset]
      rfl
    | true =>
      simp only [if_true, Group.slice_mapSlices _ _ _ _ hl, hset]
      split <;> rfl

theorem Group.regang_eq (g : Group) (sl : List Nat) : g.regang sl = { g with slices := (g.regang sl).slices } :=
  Group.mapSlices_eq _ _ _

theorem Group.slice_regang (g : Group) {sl : List Nat} (i : Nat) (hl : sl.Nodup) :
    (g.regang sl).slice i = if i ∈ sl then { g.slice i with gang := sl.headD 0 } else g.slice i :=
  Group.slice_mapSlices _ _ _ _ hl

/-- Two parts of a gang go to PCs of their own, as gangs of their own. -/
def Group.partedTo (g : Group) (taken rest : List Nat) (target next : W64) (y : Bool) : Group :=
  (((g.regang taken).regang rest).goTo taken target y).goTo rest next y

theorem Group.partedTo_eq (g : Group) (taken rest : List Nat) (target next : W64) (y : Bool) :
    g.partedTo taken rest target next y = { g with slices := (g.partedTo taken rest target next y).slices } := by
  unfold Group.partedTo
  rw [Group.goTo_eq, Group.goTo_eq _ taken, Group.regang_eq, Group.regang_eq g]

theorem BitVec.shiftLeft_two_eq_mul (x : W64) : x <<< 2 = 4 * x := by
  apply BitVec.eq_of_toNat_eq
  rw [BitVec.toNat_shiftLeft, BitVec.toNat_mul, Nat.shiftLeft_eq, Nat.mul_comm]
  rfl

end Sys2Proof.Machine

namespace Sys2Proof.Claims

open Sys2Proof Sys2Proof.Machine

/-! ### Branches -/

theorem target_eq_branchTarget (s : State) (o : BitVec 17) : s.target o = branchTarget s o := by
  rw [State.target, BitVec.shiftLeft_two_eq_mul]
  rfl

theorem slt_zero_eq (x : W64) : x.slt 0 = decide (x.toInt < 0) := rfl

theorem not_slt_zero_eq (x : W64) : (!x.slt 0) = decide (0 ≤ x.toInt) := not_slt_swap 0 x

/-- Every whole-gang branch moves the gang to the PC that the list names. -/
theorem exec_jumps (y : Bool) (a : Fld) (o : BitVec 17) (s : State) : ∀ e ∈ jumps y a o,
    exec e.1 s = s.issue fun g => s.move y g (e.2 s g) := by
  have on {e : Instr} {p p' : W64 → Bool} (he : exec e s = s.branchOn y a o p) (h : ∀ x, p x = p' x) :
      exec e s = s.issue fun g => s.move y g (if p' (g.rs a.toNat) then branchTarget s o else s.cursor.pc + 4) := by
    rw [he, funext h, ← target_eq_branchTarget]
    rfl
  have hbr : exec (.br y o) s = s.issue fun g => s.move y g (branchTarget s o) := by
    rw [← target_eq_branchTarget]
    exact exec_br y o s
  simp only [jumps, List.forall_mem_cons, List.not_mem_nil, false_implies, implies_true, and_true]
  exact ⟨hbr, on (exec_brcZ y a o s) (p' := fun x => x == 0) fun _ => rfl,
    on (exec_brcNz y a o s) (p' := fun x => x != 0) fun _ => rfl,
    on (exec_brcLt y a o s) (p' := fun x => decide (x.toInt < 0)) slt_zero_eq,
    on (exec_brcGe y a o s) (p' := fun x => decide (0 ≤ x.toInt)) not_slt_zero_eq, exec_jmp y a s⟩

/-- The slices of the two parts of a gang, and the others. -/
theorem slice_partedTo (g : Group) (sl : List Nat) (p : Nat → Bool) (target next : W64) (y : Bool) (i : Nat)
    (hl : sl.Nodup) :
    let taken := sl.filter fun i => p i
    let rest := sl.filter fun i => !p i
    (g.partedTo taken rest target next y).slice i = if i ∈ taken then parted g taken target y (g.slice i)
      else if i ∈ rest then parted g rest next y (g.slice i) else g.slice i := by
  intro taken rest
  have ht : taken.Nodup := hl.filter _
  have hr : rest.Nodup := hl.filter _
  have hboth : i ∈ taken → i ∉ rest := by
    intro hi hi'
    simp only [taken, rest, List.mem_filter, Bool.not_eq_true'] at hi hi'
    rw [hi.2] at hi'
    exact absurd hi'.2 (by decide)
  have hpend (part : List Nat) (u : Group) (hu : u.pending = g.pending) : u.hasPending part = g.hasPending part :=
    Group.hasPending_eq _ _ _ hu
  rw [Group.partedTo, Group.slice_goTo _ _ _ _ hr, Group.slice_goTo _ _ _ _ ht, Group.slice_regang _ _ hr,
    Group.slice_regang _ _ ht, hpend rest _ (by rw [Group.goTo_eq, Group.regang_eq, Group.regang_eq g]),
    hpend taken _ (by rw [Group.regang_eq, Group.regang_eq g])]
  by_cases hi : i ∈ taken
  · rw [if_neg (hboth hi), if_pos hi, if_pos hi, if_neg (hboth hi), if_pos hi]
    unfold Slice.wentTo parted
    split <;> rfl
  · rw [if_neg hi, if_neg hi, if_neg hi]
    by_cases hi' : i ∈ rest
    · rw [if_pos hi', if_pos hi', if_pos hi']
      unfold Slice.wentTo parted
      split <;> rfl
    · rw [if_neg hi', if_neg hi', if_neg hi']

theorem tested_eq (g : Group) (k i : Nat) : (g.triple k &&& g.triple 125 &&& g.ownBits [i] != 0) = tested g k i := by
  rw [tested, any_getLsbD_eq, Bool.eq_iff_iff, bne_iff_ne, decide_eq_true_eq]

/-- A branch per slice sends the slices whose test agrees with the form to the target, the others on. -/
theorem branchSlices_next {s : State} {g : Group} (y : Bool) (a : Fld) (o : BitVec 17) (b : Bool)
    (hg : s.group s.cursor.group = some g) (hl : s.cursor.slices.Nodup) :
    let taken := s.cursor.slices.filter fun i => tested g a.toNat i == b
    let rest := s.cursor.slices.filter fun i => tested g a.toNat i != b
    ∃ g' : Group, s.branchSlices y a o b = .next (s.putGroup s.cursor.group g') ∧ g' = { g with slices := g'.slices }
      ∧ ∀ i, g'.slice i = if i ∈ taken then parted g taken (branchTarget s o) y (g.slice i)
          else if i ∈ rest then parted g rest (s.cursor.pc + 4) y (g.slice i) else g.slice i := by
  intro taken rest
  refine ⟨g.partedTo taken rest (branchTarget s o) (s.cursor.pc + 4) y, ?_, Group.partedTo_eq _ _ _ _ _ _, fun i => ?_⟩
  · rw [State.branchSlices, State.issue_of_group _ hg, ← target_eq_branchTarget]
    simp only [tested_eq]
    rfl
  · exact slice_partedTo g s.cursor.slices (fun i => tested g a.toNat i == b) _ _ y i hl

/-- Settles O8: whole-gang branches are moves, BRM parts the gang by its slices' tests. -/
theorem branchesMoveThePc : Obligations.BranchesMoveThePc := by
  unfold Obligations.BranchesMoveThePc
  refine ⟨?whole, ?slices⟩
  case whole =>
    rintro s g y a o ⟨hg, -⟩ e he
    rw [exec_jumps y a o s e he, State.issue_of_group _ hg]
    rfl
  case slices =>
    rintro s g y a o ⟨hg, hl, -⟩
    simp only [List.forall_mem_cons, List.not_mem_nil, false_implies, implies_true, and_true]
    rw [exec_brmNz, exec_brmZ]
    exact ⟨branchSlices_next y a o true hg hl, branchSlices_next y a o false hg hl⟩

end Sys2Proof.Claims

namespace Sys2Proof.Machine

/-! ### Calls and returns -/

/-- The two halves of a 64-bit value. -/
theorem append_halves (x : W64) : (x.extractLsb' 32 32 ++ x.setWidth 32 : BitVec (32 + 32)) = x := by
  refine BitVec.eq_of_getLsbD_eq fun i hi => ?_
  rw [BitVec.getLsbD_append]
  split
  · simp [*]
  · rw [BitVec.getLsbD_extractLsb']
    simp only [show i - 32 < 32 by omega, decide_true, Bool.true_and, show 32 + (i - 32) = i by omega]

/-- The writes by which a call saves the link words of its slices. -/
def Group.linkWrites (g : Group) (sl : List Nat) : List (Nat × W32) :=
  sl.flatMap fun i => (List.range 4).flatMap fun q => g.pairWrites 126 (4 * i + q) (g.slice i).link

theorem Group.mem_linkWrites {g : Group} {sl : List Nat} {e : Nat × W32} : e ∈ g.linkWrites sl ↔
    ∃ i ∈ sl, ∃ q < 4, e = (g.vkey 126 (4 * i + q), (g.slice i).link.setWidth 32)
      ∨ e = (g.vkey 127 (4 * i + q), (g.slice i).link.extractLsb' 32 32) := by
  simp [Group.linkWrites, Group.pairWrites]

/-- The value that a call's saves give a register lane. -/
def Group.savedLink (g : Group) (k : Nat) : W32 :=
  let link := (g.slice (k % 128 / 4)).link
  if k / 128 = g.winb + 126 then link.setWidth 32 else link.extractLsb' 32 32

theorem Group.savedLink_low {g : Group} {i q : Nat} (hi : i < 24) (hq : q < 4) :
    g.savedLink (g.vkey 126 (4 * i + q)) = (g.slice i).link.setWidth 32 := by
  have hlane : g.vkey 126 (4 * i + q) % 128 / 4 = i := by rw [Group.vkey_mod _ _ _ (by omega)]; omega
  have hrow : g.vkey 126 (4 * i + q) / 128 = g.winb + 126 := by unfold Group.vkey; omega
  rw [Group.savedLink, hlane, hrow, if_pos rfl]

theorem Group.savedLink_high {g : Group} {i q : Nat} (hi : i < 24) (hq : q < 4) :
    g.savedLink (g.vkey 127 (4 * i + q)) = (g.slice i).link.extractLsb' 32 32 := by
  have hlane : g.vkey 127 (4 * i + q) % 128 / 4 = i := by rw [Group.vkey_mod _ _ _ (by omega)]; omega
  have hrow : g.vkey 127 (4 * i + q) / 128 ≠ g.winb + 126 := by unfold Group.vkey; omega
  rw [Group.savedLink, hlane, if_neg hrow]

theorem Group.get_writeV_linkWrites (g : Group) {sl : List Nat} (hsl : ∀ i ∈ sl, i < 24) (k : Nat) :
    Sparse.get 0 (g.writeV (g.linkWrites sl)).v k
      = if k ∈ (g.linkWrites sl).map Prod.fst then g.savedLink k else Sparse.get 0 g.v k := by
  refine Group.get_writeV g _ g.savedLink (fun e he => ?_) k
  obtain ⟨i, hi, q, hq, rfl | rfl⟩ := Group.mem_linkWrites.mp he
  · exact (Group.savedLink_low (hsl i hi) hq).symm
  · exact (Group.savedLink_high (hsl i hi) hq).symm

/-- After the saves of a call, the pair at 126 of each lane of its slices is the slice's link word. -/
theorem Group.rp_linkWrites (g : Group) {sl : List Nat} (hsl : ∀ i ∈ sl, i < 24) {i q : Nat} (hi : i ∈ sl) (hq : q < 4) :
    (g.writeV (g.linkWrites sl)).rp 126 (4 * i + q) = (g.slice i).link := by
  have hlow : g.vkey 126 (4 * i + q) ∈ (g.linkWrites sl).map Prod.fst :=
    List.mem_map.mpr ⟨_, Group.mem_linkWrites.mpr ⟨i, hi, q, hq, .inl rfl⟩, rfl⟩
  have hhigh : g.vkey 127 (4 * i + q) ∈ (g.linkWrites sl).map Prod.fst :=
    List.mem_map.mpr ⟨_, Group.mem_linkWrites.mpr ⟨i, hi, q, hq, .inr rfl⟩, rfl⟩
  show (Sparse.get 0 (g.writeV (g.linkWrites sl)).v (g.vkey 127 (4 * i + q))
    ++ Sparse.get 0 (g.writeV (g.linkWrites sl)).v (g.vkey 126 (4 * i + q)) : BitVec (32 + 32)) = _
  rw [g.get_writeV_linkWrites hsl, g.get_writeV_linkWrites hsl, if_pos hlow, if_pos hhigh,
    Group.savedLink_low (hsl i hi) hq, Group.savedLink_high (hsl i hi) hq]
  exact append_halves _

/-- The saves of a call reach window positions 126 and 127 of its slices' lanes alone. -/
theorem Group.rv_linkWrites_of_other (g : Group) {sl : List Nat} (hsl : ∀ i ∈ sl, i < 24) {n l : Nat} (hl : l < 128)
    (h : (n ≠ 126 ∧ n ≠ 127) ∨ l / 4 ∉ sl) : (g.writeV (g.linkWrites sl)).rv n l = g.rv n l := by
  show Sparse.get 0 (g.writeV (g.linkWrites sl)).v (g.vkey n l) = Sparse.get 0 g.v (g.vkey n l)
  rw [g.get_writeV_linkWrites hsl, if_neg]
  intro hmem
  obtain ⟨e, he, hkey⟩ := List.mem_map.mp hmem
  obtain ⟨i, hi, q, hq, rfl | rfl⟩ := Group.mem_linkWrites.mp he
  all_goals
    have hi24 := hsl i hi
    obtain ⟨rfl, rfl⟩ := g.vkey_inj (by omega) hl hkey
    have hdiv : (4 * i + q) / 4 = i := by omega
    rw [hdiv] at h
    simp [hi] at h

/-- The group of a call, before its gang goes to the target. -/
def Group.called (g : Group) (sl : List Nat) (ret : W64) : Group :=
  (g.writeV (g.linkWrites sl)).mapSlices (fun _ r => { r with link := ret }) sl

theorem State.callTo_next {s : State} {g : Group} (y : Bool) (target : Group → W64)
    (hg : s.group s.cursor.group = some g) (hin : g.inWindow 127 = true) :
    s.callTo y target = .next (s.putGroup s.cursor.group
      ((g.called s.cursor.slices (s.cursor.pc + 4)).goTo s.cursor.slices (target g) y)) := by
  rw [State.callTo, State.issue_of_group _ hg, State.need, if_pos hin]
  rfl

/-- The group of a return, before a switch park: each slice at its link word, with the saved one, parted by PC. -/
def Group.returned (g : Group) (sl : List Nat) : Group :=
  (g.mapSlices (fun i r => { r with pc := r.link, link := g.rp 126 (4 * i) }) sl).partByPc sl

theorem State.ret_next {s : State} {g : Group} (y : Bool) (hg : s.group s.cursor.group = some g)
    (hin : g.inWindow 127 = true) : execRet y s = .next (s.putGroup s.cursor.group
      (if y then (g.returned s.cursor.slices).switchPark s.cursor.slices else g.returned s.cursor.slices)) := by
  rw [execRet, State.issue_of_group _ hg, State.need, if_pos hin]
  rfl

theorem Group.slice_returned (g : Group) {sl : List Nat} (hl : sl.Nodup) (i : Nat) :
    (g.returned sl).slice i = if i ∈ sl then
      { g.slice i with pc := (g.slice i).link, link := g.rp 126 (4 * i),
                       gang := (sl.filter fun j => (g.slice j).link == (g.slice i).link).headD i }
      else g.slice i := by
  have hmoved (j : Nat) : (g.mapSlices (fun i r => { r with pc := r.link, link := g.rp 126 (4 * i) }) sl).slice j
      = if j ∈ sl then { g.slice j with pc := (g.slice j).link, link := g.rp 126 (4 * j) } else g.slice j :=
    Group.slice_mapSlices _ _ _ _ hl
  rw [Group.returned, Group.partByPc, Group.slice_mapSlices _ _ _ _ hl]
  by_cases hi : i ∈ sl
  · have hfilter : (sl.filter fun j =>
        ((g.mapSlices (fun i r => { r with pc := r.link, link := g.rp 126 (4 * i) }) sl).slice j).pc
          == ((g.mapSlices (fun i r => { r with pc := r.link, link := g.rp 126 (4 * i) }) sl).slice i).pc)
        = sl.filter fun j => (g.slice j).link == (g.slice i).link := by
      refine List.filter_congr fun j hj => ?_
      rw [hmoved, hmoved, if_pos hj, if_pos hi]
    rw [if_pos hi, if_pos hi, hfilter, hmoved, if_pos hi]
  · rw [if_neg hi, if_neg hi, hmoved, if_neg hi]

end Sys2Proof.Machine

namespace Sys2Proof.Claims

open Sys2Proof Sys2Proof.Machine

/-- What a call leaves of the group, whatever its target. -/
theorem callTo_called {s : State} {g : Group} (y : Bool) (target : Group → W64) (h : Issues s g)
    (hin : g.inWindow 127 = true) :
    ∃ g' : Group, s.callTo y target = .next (s.putGroup s.cursor.group (g'.goTo s.cursor.slices (target g) y))
      ∧ (∀ i, g'.slice i = if i ∈ s.cursor.slices then { g.slice i with link := s.cursor.pc + 4 } else g.slice i)
      ∧ (∀ i ∈ s.cursor.slices, ∀ q < 4, g'.rp 126 (4 * i + q) = (g.slice i).link)
      ∧ (∀ n l, l < 128 → (n ≠ 126 ∧ n ≠ 127) ∨ l / 4 ∉ s.cursor.slices → g'.rv n l = g.rv n l)
      ∧ g' = { g with slices := g'.slices, v := g'.v, pending := g'.pending } := by
  obtain ⟨hg, hl, hsl⟩ := h
  have hv : (g.called s.cursor.slices (s.cursor.pc + 4)).v = (g.writeV (g.linkWrites s.cursor.slices)).v :=
    Group.mapSlices_v _ _ _
  have hw : (g.called s.cursor.slices (s.cursor.pc + 4)).winb = g.winb := by
    rw [Group.called, Group.mapSlices_eq]
    rfl
  have hrv (n l : Nat) : (g.called s.cursor.slices (s.cursor.pc + 4)).rv n l
      = (g.writeV (g.linkWrites s.cursor.slices)).rv n l := by
    unfold Group.rv Group.vkey
    rw [hv, hw]
    rfl
  refine ⟨_, State.callTo_next y target hg hin, fun i => Group.slice_mapSlices _ _ _ _ hl, fun i hi q hq => ?_,
    fun n l hlt hother => (hrv n l).trans (g.rv_linkWrites_of_other hsl hlt hother), ?_⟩
  · rw [Group.rp, hrv, hrv]
    exact g.rp_linkWrites hsl hi hq
  · rw [Group.called, Group.mapSlices_eq]
    rfl

/-- Settles O9: calls are `callTo`, whose saves are those of `linkWrites`; RET is `returned`. -/
theorem callsAndReturns : Obligations.CallsAndReturns := by
  unfold Obligations.CallsAndReturns
  refine ⟨?calls, ?returns⟩
  case calls =>
    intro s g y a o h hin
    simp only [List.forall_mem_cons, List.not_mem_nil, false_implies, implies_true, and_true]
    rw [exec_bsr, exec_call, execBsr, execCall, target_eq_branchTarget]
    exact ⟨callTo_called y (fun _ => branchTarget s o) h hin, callTo_called y (fun g => g.rs a.toNat) h hin⟩
  case returns =>
    rintro s g y ⟨hg, hl, -⟩ hin
    rw [exec_ret]
    refine ⟨_, State.ret_next y hg hin, ?_, fun i hi => ?_, fun i hi => ?_⟩
    · rw [Group.returned, Group.partByPc, Group.mapSlices_eq, Group.mapSlices_eq g]
    · rw [Group.slice_returned g hl, if_pos hi]
    · rw [Group.slice_returned g hl, if_neg hi]

/-! ### Switch points and EXIT -/

/-- An implicit switch point with results pending parks its gang at its own PC. -/
theorem issue_switchFirst_of_pending {s : State} {g : Group} (k : Group → Res) (hg : s.group s.cursor.group = some g)
    (hp : g.hasPending s.cursor.slices = true) : (s.issue fun g => s.switchFirst g (k g))
      = .next (s.putGroup s.cursor.group (g.mapSlices (fun _ r => r.parkAt .switchPoint 0 0) s.cursor.slices)) := by
  rw [State.issue_of_group _ hg, State.switchFirst_of_pending _ hp]

/-- Settles O12: each listed instruction begins with `switchFirst`; EXIT marks its slices and tests whether one is left. -/
theorem switchPointsAndExit : Obligations.SwitchPointsAndExit := by
  unfold Obligations.SwitchPointsAndExit
  refine ⟨?parks, ?exits⟩
  case parks =>
    rintro s g y a b i ⟨hg, -⟩ hp
    simp only [List.forall_mem_cons, List.not_mem_nil, false_implies, implies_true, and_true]
    rw [exec_join, exec_sleep, exec_exit, exec_trap, exec_wait, exec_barWait, exec_barArriveW]
    exact ⟨issue_switchFirst_of_pending _ hg hp, issue_switchFirst_of_pending _ hg hp, issue_switchFirst_of_pending _ hg hp,
      issue_switchFirst_of_pending _ hg hp, issue_switchFirst_of_pending _ hg hp, issue_switchFirst_of_pending _ hg hp,
      issue_switchFirst_of_pending _ hg hp⟩
  case exits =>
    rintro s g y ⟨hg, hl, -⟩ hp
    refine ⟨g.mapSlices (fun _ r => { r with state := .exited, park := .none }) s.cursor.slices,
      Group.mapSlices_eq g _ _, fun i => Group.slice_mapSlices _ _ _ _ hl, ?_⟩
    rw [exec_exit, execExit, State.issue_of_group _ hg, State.switchFirst_of_not_pending _ hp]
    simp only [State.putGroup_cursor]

end Sys2Proof.Claims

/-! PROOFS. JOIN, windows and dead registers: the obligations O10 and O13. -/

namespace Sys2Proof.Machine

/-! ### Rejoin registers, bit by bit -/

theorem getLsbD_sliceBits (sl : List Nat) (i : Nat) : (sliceBits sl).getLsbD i = (decide (i < 64) && sl.contains i) := by
  have step (l : List Nat) (w : W64) :
      (l.foldl (fun w i => w ||| (1#64 <<< i)) w).getLsbD i = (w.getLsbD i || (decide (i < 64) && l.contains i)) := by
    induction l generalizing w with
    | nil => simp
    | cons k l ih =>
      rw [List.foldl_cons, ih, BitVec.getLsbD_or, BitVec.getLsbD_shiftLeft, BitVec.getLsbD_one, List.contains_cons]
      rcases lt_trichotomy i k with h | rfl | h
      · simp [h, show (i == k) = false from beq_eq_false_iff_ne.mpr (by omega)]
      · by_cases h64 : i < 64 <;> simp [h64]
      · simp [show ¬i < k by omega, show (i == k) = false from beq_eq_false_iff_ne.mpr (by omega),
          show ¬i - k = 0 by omega]
  simpa [sliceBits] using step sl 0

/-- A rejoin register whose A takes the bits of some slices. -/
def arriveBits (w : W64) (sl : List Nat) : W64 := w ||| (sliceBits sl <<< 24)

theorem rejoinE_arriveBits (w : W64) (sl : List Nat) : rejoinE (arriveBits w sl) = rejoinE w := by
  refine BitVec.eq_of_getLsbD_eq fun i hi => ?_
  simp [rejoinE, arriveBits, hi]

theorem rejoinA_arriveBits (w : W64) (sl : List Nat) :
    rejoinA (arriveBits w sl) = rejoinA w ||| (sliceBits sl).setWidth 24 := by
  refine BitVec.eq_of_getLsbD_eq fun i hi => ?_
  simp only [rejoinA, arriveBits, BitVec.getLsbD_extractLsb', BitVec.getLsbD_or, BitVec.getLsbD_shiftLeft,
    BitVec.getLsbD_setWidth, hi, show 24 + i < 64 by omega, show ¬24 + i < 24 by omega, show 24 + i - 24 = i by omega,
    decide_true, decide_false, Bool.not_false, Bool.true_and]

/-- Slices below 24 leave the count of a rejoin register. -/
theorem count_arriveBits (w : W64) {sl : List Nat} (hsl : ∀ i ∈ sl, i < 24) :
    (arriveBits w sl).extractLsb' 48 15 = w.extractLsb' 48 15 := by
  refine BitVec.eq_of_getLsbD_eq fun i hi => ?_
  have hno : (sliceBits sl).getLsbD (48 + i - 24) = false := by
    rw [getLsbD_sliceBits]
    have hmem : 48 + i - 24 ∉ sl := fun h => by have := hsl _ h; omega
    simp [hmem]
  simp [arriveBits, BitVec.getLsbD_extractLsb', BitVec.getLsbD_shiftLeft, hno]

/-- A rejoin register once its join is complete: A empty, the count one further. -/
def completedBits (w : W64) : W64 :=
  (w &&& 0x8000000000FFFFFF#64) ||| ((w.extractLsb' 48 15 + 1 : BitVec 15).setWidth 64 <<< 48)

theorem rejoinE_completedBits (w : W64) : rejoinE (completedBits w) = rejoinE w := by
  have hmask : ∀ i < 24, (0x8000000000FFFFFF#64).getLsbD i = true := by decide
  refine BitVec.eq_of_getLsbD_eq fun i hi => ?_
  simp only [rejoinE, completedBits, BitVec.getLsbD_setWidth, BitVec.getLsbD_or, BitVec.getLsbD_and, hmask i hi,
    BitVec.getLsbD_shiftLeft, show i < 48 by omega]
  simp

theorem rejoinA_completedBits (w : W64) : rejoinA (completedBits w) = 0 := by
  have hmask : ∀ i < 24, (0x8000000000FFFFFF#64).getLsbD (24 + i) = false := by decide
  refine BitVec.eq_of_getLsbD_eq fun i hi => ?_
  simp only [rejoinA, completedBits, BitVec.getLsbD_extractLsb', BitVec.getLsbD_or, BitVec.getLsbD_and, hmask i hi,
    BitVec.getLsbD_shiftLeft, show 24 + i < 48 by omega]
  simp

theorem count_completedBits (w : W64) : (completedBits w).extractLsb' 48 15 = w.extractLsb' 48 15 + 1 := by
  have hmask : ∀ i < 15, (0x8000000000FFFFFF#64).getLsbD (48 + i) = false := by decide
  refine BitVec.eq_of_getLsbD_eq fun i hi => ?_
  simp only [completedBits, BitVec.getLsbD_extractLsb', BitVec.getLsbD_or, BitVec.getLsbD_and, hmask i hi,
    BitVec.getLsbD_shiftLeft, BitVec.getLsbD_setWidth, show ¬48 + i < 48 by omega, show 48 + i < 64 by omega,
    show 48 + i - 48 = i by omega, hi]
  simp [show i < 64 by omega]

/-! ### Arrivals at a JOIN -/

/-- The group whose gang has arrived at a rejoin register and parks there. -/
def Group.joinParked (g : Group) (sl : List Nat) (r : Nat) (since : W64) : Group :=
  ({ g with s := Sparse.set 0 g.s r (arriveBits (g.rs r) sl), joinSince := Sparse.set 0 g.joinSince r since } : Group).mapSlices
    (fun _ t => t.parkAt .join (BitVec.ofNat 32 r) 0) sl

theorem Group.rs_of_s_eq {g g' : Group} (h : g'.s = g.s) (k : Nat) : g'.rs k = g.rs k := by
  rw [Group.rs, Group.rs, h]

theorem Group.rs_set (g : Group) {r : Nat} (hr : r ≠ 0) (v : W64) (js : Sparse W64) (k : Nat) :
    ({ g with s := Sparse.set 0 g.s r v, joinSince := js } : Group).rs k = if k = r then v else g.rs k := by
  unfold Group.rs
  by_cases hk : k = r
  · subst hk
    simp [hr]
  · simp [hk, Sparse.get_set_of_ne]

theorem Group.rs_joinParked (g : Group) (sl : List Nat) {r : Nat} (hr : r ≠ 0) (since : W64) (k : Nat) :
    (g.joinParked sl r since).rs k = if k = r then arriveBits (g.rs r) sl else g.rs k :=
  (Group.rs_of_s_eq (Group.mapSlices_s _ _ _) k).trans (Group.rs_set g hr _ _ k)

theorem Group.slice_joinParked (g : Group) {sl : List Nat} (r : Nat) (since : W64) (i : Nat) (hl : sl.Nodup) :
    (g.joinParked sl r since).slice i
      = if i ∈ sl then (g.slice i).parkAt .join (BitVec.ofNat 32 r) 0 else g.slice i :=
  Group.slice_mapSlices _ _ _ _ hl

theorem Group.mem_live {g : Group} {i : Nat} : i ∈ g.live ↔ i < g.sliceCount ∧ (g.slice i).state ≠ .exited := by
  simp [Group.live]

/-- The live slices stay so when live slices park. -/
theorem Group.live_joinParked (g : Group) {sl : List Nat} (r : Nat) (since : W64) (hl : sl.Nodup)
    (hlive : ∀ i ∈ sl, i ∈ g.live) : (g.joinParked sl r since).live = g.live := by
  have hcount : (g.joinParked sl r since).sliceCount = g.sliceCount := by
    unfold Group.sliceCount Group.lanes
    rw [Group.joinParked, Group.mapSlices_width]
  unfold Group.live
  rw [hcount]
  refine List.filter_congr fun i _ => ?_
  rw [Group.slice_joinParked g r since i hl]
  by_cases hi : i ∈ sl
  · rw [if_pos hi, decide_eq_true (Group.mem_live.mp (hlive i hi)).2]
    rfl
  · rw [if_neg hi]

/-- The group whose join of a register is complete, before its slices change. -/
def Group.joinDone (g : Group) (r : Nat) : Group :=
  { g with s := Sparse.set 0 g.s r (completedBits (g.rs r)), joinSince := Sparse.set 0 g.joinSince r 0 }

/-- What a completed join makes of a slice. -/
def Group.afterJoin (g : Group) (arrived : List Nat) (pc : W64) (i : Nat) (t : Slice) : Slice :=
  if arrived.contains i then { t.ready with pc := pc, gang := arrived.headD 0 }
  else { t with gang := g.gangLess arrived i }

theorem Group.completeJoin_eq_mapSlices (g : Group) (r : Nat) (arrived : List Nat) (pc : W64) :
    g.completeJoin r arrived pc = (g.joinDone r).mapSlices ((g.joinDone r).afterJoin arrived pc) (g.joinDone r).live := rfl

theorem Group.rs_completeJoin (g : Group) {r : Nat} (hr : r ≠ 0) (arrived : List Nat) (pc : W64) (k : Nat) :
    (g.completeJoin r arrived pc).rs k = if k = r then completedBits (g.rs r) else g.rs k :=
  (Group.rs_of_s_eq (Group.mapSlices_s _ _ _) k).trans (Group.rs_set g hr _ _ k)

/-- Completing a join: the slices of A form one gang at the PC, the others keep all but the name of their gang. -/
theorem Group.slice_completeJoin (g : Group) (r : Nat) (arrived : List Nat) (pc : W64) (i : Nat) :
    (g.completeJoin r arrived pc).slice i
      = if i ∈ g.live then (g.joinDone r).afterJoin arrived pc i (g.slice i) else g.slice i := by
  have hlive : (g.joinDone r).live.Nodup := List.nodup_range.filter _
  rw [Group.completeJoin_eq_mapSlices]
  exact Group.slice_mapSlices _ _ _ i hlive

theorem Group.afterJoin_of_mem (g : Group) {arrived : List Nat} (pc : W64) {i : Nat} (t : Slice) (h : i ∈ arrived) :
    g.afterJoin arrived pc i t = { t.ready with pc := pc, gang := arrived.headD 0 } := by
  rw [Group.afterJoin, List.contains_iff_mem.mpr h, if_pos rfl]

theorem Group.afterJoin_of_not_mem (g : Group) {arrived : List Nat} (pc : W64) {i : Nat} (t : Slice) (h : i ∉ arrived) :
    g.afterJoin arrived pc i t = { t with gang := g.gangLess arrived i } := by
  rw [Group.afterJoin, if_neg (fun hc => h (List.contains_iff_mem.mp hc))]

/-- A JOIN of a gang without pending results that its register does not expect goes on. -/
theorem execJoin_of_unexpected {s : State} {g : Group} (y : Bool) (j : Fld) (hg : s.group s.cursor.group = some g)
    (hp : g.hasPending s.cursor.slices = false)
    (he : rejoinE (g.rs j.toNat) &&& (sliceBits s.cursor.slices).setWidth 24 = 0) :
    execJoin y j s = s.retire y g := by
  rw [execJoin, State.issue_of_group _ hg, State.switchFirst_of_not_pending _ hp]
  simp only [he, if_true]

/-- A JOIN of a gang that its register expects parks it, and completes when no other arrival is expected. -/
theorem execJoin_of_expected {s : State} {g : Group} (y : Bool) (j : Fld) (hg : s.group s.cursor.group = some g)
    (hp : g.hasPending s.cursor.slices = false) (hr : j.toNat ≠ 0)
    (he : rejoinE (g.rs j.toNat) &&& (sliceBits s.cursor.slices).setWidth 24 ≠ 0) :
    ∃ since : W64,
      let u := g.joinParked s.cursor.slices j.toNat since
      execJoin y j s = .next (s.putGroup s.cursor.group
        (if rejoinE (g.rs j.toNat) &&& ~~~(rejoinA (g.rs j.toNat) ||| (sliceBits s.cursor.slices).setWidth 24) = 0 then
          u.completeJoin j.toNat (u.arrived j.toNat) (s.cursor.pc + 4) else u)) := by
  refine ⟨if rejoinA (g.rs j.toNat) = 0 then s.tickOf (dieOf g.core) else Sparse.get 0 g.joinSince j.toNat, ?_⟩
  intro u
  have hword : u.rs j.toNat = arriveBits (g.rs j.toNat) s.cursor.slices := by
    rw [Group.rs_joinParked _ _ hr, if_pos rfl]
  rw [execJoin, State.issue_of_group _ hg, State.switchFirst_of_not_pending _ hp, ← rejoinA_arriveBits,
    ← rejoinE_arriveBits _ s.cursor.slices, ← hword]
  simp only [he, if_false]
  rfl

end Sys2Proof.Machine

namespace Sys2Proof.Claims

open Sys2Proof Sys2Proof.Machine

/-- Settles O10: unexpected slices go on; arrivals are `joinParked`, and the last of them completes the join. -/
theorem joinParksUntilAllArrive : Obligations.JoinParksUntilAllArrive := by
  unfold Obligations.JoinParksUntilAllArrive
  rintro s g y j ⟨hg, hl, hsl⟩ hwf hp r w mine
  have hr : r ≠ 0 := by
    have h : isRejoin j = true := hwf
    simp only [isRejoin, Bool.and_eq_true, decide_eq_true_eq] at h
    omega
  rw [exec_join]
  split
  · next he => exact execJoin_of_unexpected y j hg hp he
  · next he =>
    obtain ⟨since, hexec⟩ := execJoin_of_expected y j hg hp hr he
    refine ⟨_, hexec, fun k hk => ?scalars, fun hmore => ?parks, fun hdone => ?completes⟩
    case scalars =>
      split
      · rw [Group.rs_completeJoin _ hr, if_neg hk, Group.rs_joinParked _ _ hr, if_neg hk]
      · rw [Group.rs_joinParked _ _ hr, if_neg hk]
    case parks =>
      rw [if_neg hmore, Group.rs_joinParked _ _ hr, if_pos rfl]
      refine ⟨rejoinA_arriveBits _ _, rejoinE_arriveBits _ _, fun i hi => ?_⟩
      rw [Group.slice_joinParked _ _ _ _ hl, if_pos hi]
      exact ⟨rfl, rfl⟩
    case completes =>
      rw [if_pos hdone, Group.rs_completeJoin _ hr, if_pos rfl, Group.rs_joinParked _ _ hr, if_pos rfl]
      refine ⟨rejoinA_completedBits _, (rejoinE_completedBits _).trans (rejoinE_arriveBits _ _),
        (count_completedBits _).trans (by rw [count_arriveBits _ hsl]), fun hlive => ?_⟩
      have hlives := Group.live_joinParked g r since hl hlive
      have harrived : (g.joinParked s.cursor.slices r since).arrived r
          = g.live.filter fun i => (rejoinA w ||| mine).getLsbD i := by
        rw [Group.arrived, hlives, Group.rs_joinParked _ _ hr, if_pos rfl, rejoinA_arriveBits]
      intro all
      rw [harrived]
      refine ⟨fun i hi => ?_, fun i hi => ?_⟩
      · have hi' : i ∈ g.live := (List.mem_filter.mp hi).1
        rw [Group.slice_completeJoin, hlives, if_pos hi', Group.afterJoin_of_mem _ _ _ hi, Group.slice_joinParked _ _ _ _ hl]
        split <;> rfl
      · have hsame : (g.joinParked s.cursor.slices r since).slice i = g.slice i := by
          rw [Group.slice_joinParked _ _ _ _ hl, if_neg]
          intro hmem
          refine hi (List.mem_filter.mpr ⟨hlive i hmem, ?_⟩)
          have hlt := hsl i hmem
          simp [mine, getLsbD_sliceBits, hmem, hlt, show i < 64 by omega]
        rw [Group.slice_completeJoin, hlives, hsame]
        split
        · rw [Group.afterJoin_of_not_mem _ _ _ hi]
        · rfl

end Sys2Proof.Claims

namespace Sys2Proof.Machine

/-! ### Dead registers -/

theorem mem_lineKeys {k i n : Nat} (hi : i < 32) (h : n ∈ lineKeys k i) : n / 128 / 4 = k ∧ n % 128 / 4 = i := by
  simp only [lineKeys, List.mem_flatMap, List.mem_map, List.mem_range] at h
  obtain ⟨r, hr, q, hq, rfl⟩ := h
  omega

/-- What dead lines may leave of a group: each register keeps its value or, in one of the lines, reads zero. -/
def DeadLines (g u : Group) (sl : List Nat) (lo hi : Nat) : Prop :=
  (∀ k, Sparse.get 0 u.v k = Sparse.get 0 g.v k
      ∨ (Sparse.get 0 u.v k = 0 ∧ k % 128 / 4 ∈ sl ∧ lo ≤ k / 128 / 4 ∧ k / 128 / 4 < hi))
    ∧ u = { g with v := u.v, present := u.present, spilled := u.spilled }

theorem Group.dropLine_eq (g : Group) (free k i : Nat) : g.dropLine free k i = { g with
    v := (g.dropLine free k i).v, present := (g.dropLine free k i).present, spilled := (g.dropLine free k i).spilled } := by
  unfold Group.dropLine
  split
  · rfl
  · simp only
    split <;> rfl

theorem Group.get_dropLine (g : Group) (free k i n : Nat) (hi : i < 32) :
    Sparse.get 0 (g.dropLine free k i).v n = Sparse.get 0 g.v n
      ∨ (Sparse.get 0 (g.dropLine free k i).v n = 0 ∧ n % 128 / 4 = i ∧ n / 128 / 4 = k) := by
  unfold Group.dropLine
  split
  · exact .inl rfl
  · simp only
    split
    · by_cases hn : n ∈ lineKeys k i
      · obtain ⟨hk, hi⟩ := mem_lineKeys hi hn
        refine .inr ⟨?_, hi, hk⟩
        exact Sparse.get_setAll_of_mem 0 (fun _ => 0) _ _ n (by simp) ⟨(n, 0), by simp [hn], rfl⟩
      · refine .inl (Sparse.get_setAll_of_not_mem 0 _ _ n fun e he heq => hn ?_)
        obtain ⟨m, hm, rfl⟩ := List.mem_map.mp he
        exact heq ▸ hm
    · exact .inl rfl

theorem DeadLines.refl (g : Group) (sl : List Nat) (lo hi : Nat) : DeadLines g g sl lo hi := ⟨fun _ => .inl rfl, rfl⟩

theorem DeadLines.dropLine {g u : Group} {sl : List Nat} {lo hi k i : Nat} (h : DeadLines g u sl lo hi) (free : Nat)
    (hk : lo ≤ k ∧ k < hi) (hmem : i ∈ sl) (hi24 : i < 24) : DeadLines g (u.dropLine free k i) sl lo hi := by
  obtain ⟨hv, hframe⟩ := h
  refine ⟨fun n => ?_, ?_⟩
  · rcases u.get_dropLine free k i n (by omega) with hsame | ⟨hzero, rfl, rfl⟩
    · rw [hsame]
      exact hv n
    · exact .inr ⟨hzero, hmem, hk.1, hk.2⟩
  · rw [Group.dropLine_eq, hframe]

/-- Dropping the lines of a range in the slices of a gang. -/
theorem deadLines_foldl (g : Group) {sl : List Nat} (free lo hi : Nat) (hsl : ∀ i ∈ sl, i < 24) :
    DeadLines g (((List.range (hi - lo)).flatMap fun k => sl.map fun i => (lo + k, i)).foldl
      (fun g e => g.dropLine free e.1 e.2) g) sl lo hi := by
  refine List.foldlRecOn (motive := fun u => DeadLines g u sl lo hi) _ _ (DeadLines.refl g sl lo hi) fun u hu e he => ?_
  simp only [List.mem_flatMap, List.mem_range, List.mem_map] at he
  obtain ⟨k, hk, i, hmem, rfl⟩ := he
  exact hu.dropLine free ⟨by omega, by omega⟩ hmem (hsl i hmem)

end Sys2Proof.Machine

namespace Sys2Proof.Claims

open Sys2Proof Sys2Proof.Machine

/-- Settles O13: WINB and the region forms are plain forms; VDEAD's lines are those of `deadLines_foldl`. -/
theorem windowsAndDeadRegisters : Obligations.WindowsAndDeadRegisters := by
  unfold Obligations.WindowsAndDeadRegisters
  refine ⟨?plain, ?dead⟩
  case plain =>
    rintro s g y n ⟨hg, -⟩
    rw [exec_winb, exec_rgn, exec_rgnx]
    refine ⟨?_, State.plain_next s g y _ _ hg rfl, State.plain_next s g y _ _ hg rfl⟩
    split
    · next h => exact State.plain_next s g y _ _ hg (decide_eq_true h)
    · next h => exact State.plain_und s g y _ _ hg (decide_eq_false h)
  case dead =>
    rintro s g y a b ⟨hg, -, hsl⟩ hb hab
    obtain ⟨hv, hframe⟩ := deadLines_foldl g s.free ((g.winb + a.toNat + 3) / 4) ((g.winb + b.toNat + 1) / 4) hsl
    refine ⟨_, s.free + 8192, ?_, fun n l hlt => ?_, hframe⟩
    · rw [exec_vdead, execVdead, State.issue_of_group _ hg, State.need, hb, decide_eq_true hab]
      rfl
    · have hlane : g.vkey n l % 128 = l := Group.vkey_mod g n l hlt
      have hrow : g.vkey n l / 128 = g.winb + n := by unfold Group.vkey; omega
      have h := hv (g.vkey n l)
      rw [hlane, hrow] at h
      have hrv : ∀ u : Group, u = { g with v := u.v, present := u.present, spilled := u.spilled } →
          u.rv n l = Sparse.get 0 u.v (g.vkey n l) := by
        intro u hu
        rw [hu]
        rfl
      rw [hrv _ hframe]
      exact h

end Sys2Proof.Claims

/-! PROOFS. System registers: the obligation O14. -/

namespace Sys2Proof.Claims

open Sys2Proof Sys2Proof.Machine

/-- The registers that SYSR writes to a scalar register. -/
def isScalarKind : SysReg → Bool
  | .xflags | .grant | .root | .kconst | .kdata => false
  | _ => true

theorem sysReads_register (s : State) (g : Group) : ∀ e ∈ sysReads s g,
    ∃ r, sysRegOf e.1 = some r ∧ isScalarKind r = true ∧ r.priv = false ∧ s.sysScalar g r = e.2 := by
  simp only [sysReads, List.forall_mem_cons, List.not_mem_nil, false_implies, implies_true, and_true]
  exact ⟨⟨.gid, rfl, rfl, rfl, rfl⟩, ⟨.bid, rfl, rfl, rfl, rfl⟩, ⟨.gridid, rfl, rfl, rfl, rfl⟩,
    ⟨.lanebase, rfl, rfl, rfl, rfl⟩, ⟨.width, rfl, rfl, rfl, rfl⟩, ⟨.chipx, rfl, rfl, rfl, rfl⟩, ⟨.chipy, rfl, rfl, rfl, rfl⟩,
    ⟨.core, rfl, rfl, rfl, rfl⟩, ⟨.tick, rfl, rfl, rfl, rfl⟩, ⟨.ctxnum, rfl, rfl, rfl, rfl⟩, ⟨.winb, rfl, rfl, rfl, rfl⟩,
    ⟨.fpcr, rfl, rfl, rfl, rfl⟩, ⟨.fpsr, rfl, rfl, rfl, rfl⟩, ⟨.xpiv, rfl, rfl, rfl, rfl⟩, ⟨.tvec, rfl, rfl, rfl, rfl⟩,
    ⟨.tstat, rfl, rfl, rfl, rfl⟩, ⟨.tpc, rfl, rfl, rfl, rfl⟩, ⟨.repc, rfl, rfl, rfl, rfl⟩, ⟨.jointo, rfl, rfl, rfl, rfl⟩⟩

theorem sysReadsPrivileged_register (s : State) (g : Group) : ∀ e ∈ sysReadsPrivileged s g,
    ∃ r, sysRegOf e.1 = some r ∧ isScalarKind r = true ∧ s.sysScalar g r = e.2 := by
  simp only [sysReadsPrivileged, List.forall_mem_cons, List.not_mem_nil, false_implies, implies_true, and_true]
  exact ⟨⟨.fwctx, rfl, rfl, rfl⟩, ⟨.wdog, rfl, rfl, rfl⟩, ⟨.fqhead, rfl, rfl, rfl⟩⟩

/-- What SYSR does with a register once it has privilege for it. -/
def sysrOf (s : State) (y : Bool) (d : Fld) (g : Group) : SysReg → Res
  | .xflags => s.lanes1 y d (fun _ => true) fun g l => g.xflagWord l
  | .grant => s.retire y (g.writeC d.toNat g.grant)
  | .root => s.retire y (g.writeC d.toNat g.root)
  | .kconst => s.retire y (g.writeC d.toNat g.const)
  | .kdata => s.retire y (g.writeC d.toNat g.data)
  | r => s.retire y (g.writeS s.cursor.slices d.toNat (s.sysScalar g r))

theorem execSysr_of_register {s : State} {g : Group} {r : SysReg} {n : BitVec 10} (y : Bool) (d : Fld)
    (hg : s.group s.cursor.group = some g) (hr : sysRegOf n.toNat = some r) (hp : (r.priv && !g.privileged) = false) :
    execSysr y d n s = sysrOf s y d g r := by
  rw [execSysr, State.issue_of_group _ hg]
  simp only [hr, hp, Bool.false_eq_true, if_false]
  cases r <;> rfl

theorem execSysr_of_scalar {s : State} {g : Group} {r : SysReg} {n : BitVec 10} (y : Bool) (d : Fld)
    (hg : s.group s.cursor.group = some g) (hr : sysRegOf n.toNat = some r) (hp : (r.priv && !g.privileged) = false)
    (hk : isScalarKind r = true) :
    execSysr y d n s = s.retire y (g.writeS s.cursor.slices d.toNat (s.sysScalar g r)) := by
  rw [execSysr_of_register y d hg hr hp]
  cases r with
  | xflags | grant | root | kconst | kdata => contradiction
  | _ => rfl

theorem sysCaps_register (g : Group) : ∀ e ∈ sysCaps g, ∃ r, sysRegOf e.1 = some r ∧ r.priv = false ∧ g.sysCap r = e.2
    ∧ (r = .grant ∨ r = .root ∨ r = .kconst ∨ r = .kdata) := by
  simp only [sysCaps, List.forall_mem_cons, List.not_mem_nil, false_implies, implies_true, and_true]
  exact ⟨⟨.grant, rfl, rfl, rfl, by decide⟩, ⟨.root, rfl, rfl, rfl, by decide⟩, ⟨.kconst, rfl, rfl, rfl, by decide⟩,
    ⟨.kdata, rfl, rfl, rfl, by decide⟩⟩

/-! ### Writes -/

/-- Keeping the low bits of a register is the `and` with their mask. -/
theorem setWidth_setWidth_eq_and (k : Nat) (x : W64) :
    (x.setWidth k).setWidth 32 = x.setWidth 32 &&& BitVec.ofNat 32 (2 ^ k - 1) := by
  refine BitVec.eq_of_getLsbD_eq fun i hi => ?_
  simp only [BitVec.getLsbD_setWidth, BitVec.getLsbD_and, BitVec.getLsbD_ofNat, Nat.testBit_two_pow_sub_one, hi,
    decide_true, Bool.true_and]
  exact Bool.and_comm _ _

/-- The registers of the group that SYSW writes, with what `sysWrite` does to them. -/
theorem sysWrites_register (g : Group) (v : W64) : ∀ e ∈ sysWrites g v, ∃ r, sysRegOf e.1 = some r ∧ r.writable = true
    ∧ r.priv = false ∧ r ≠ .xflags ∧ r ≠ .grant ∧ g.sysWrite r v = e.2 := by
  simp only [sysWrites, List.forall_mem_cons, List.not_mem_nil, false_implies, implies_true, and_true]
  refine ⟨⟨.fpcr, rfl, rfl, rfl, by decide, by decide, ?_⟩, ⟨.fpsr, rfl, rfl, rfl, by decide, by decide, ?_⟩,
    ⟨.xpiv, rfl, rfl, rfl, by decide, by decide, rfl⟩, ⟨.tvec, rfl, rfl, rfl, by decide, by decide, rfl⟩,
    ⟨.tstat, rfl, rfl, rfl, by decide, by decide, rfl⟩, ⟨.tpc, rfl, rfl, rfl, by decide, by decide, rfl⟩,
    ⟨.repc, rfl, rfl, rfl, by decide, by decide, rfl⟩, ⟨.jointo, rfl, rfl, rfl, by decide, by decide, rfl⟩⟩
  · rw [setWidth_setWidth_eq_and]
    rfl
  · rw [setWidth_setWidth_eq_and]
    rfl

/-- What SYSW does with a register that it may name. -/
def syswOf (s : State) (y : Bool) (a : Fld) (g : Group) : SysReg → Res
  | .xflags => s.need g (g.inWindow a.toNat) (s.retire y (g.writeXflags s.cursor.slices a.toNat))
  | .grant => s.retire y { g with grant := g.rc a.toNat }
  | .fwctx => ({ s with fw := { s.fw with
      fwctx := Sparse.set 0 s.fw.fwctx (dieOf g.core) ((g.rs a.toNat).setWidth 20) } } : State).retire y g
  | r => s.retire y (g.sysWrite r (g.rs a.toNat))

theorem execSysw_of_register {s : State} {g : Group} {r : SysReg} {n : BitVec 10} (y : Bool) (a : Fld)
    (hg : s.group s.cursor.group = some g) (hr : sysRegOf n.toNat = some r) (hw : r.writable = true)
    (hp : (r.priv && !g.privileged) = false) : execSysw y a n s = syswOf s y a g r := by
  rw [execSysw, State.issue_of_group _ hg]
  simp only [hr, hw, hp, Bool.not_true, Bool.false_eq_true, if_false]
  cases r <;> rfl

theorem execSysw_of_scalar {s : State} {g : Group} {r : SysReg} {n : BitVec 10} (y : Bool) (a : Fld)
    (hg : s.group s.cursor.group = some g) (hr : sysRegOf n.toNat = some r) (hw : r.writable = true)
    (hp : r.priv = false) (hx : r ≠ .xflags) (hgr : r ≠ .grant) :
    execSysw y a n s = s.retire y (g.sysWrite r (g.rs a.toNat)) := by
  rw [execSysw_of_register y a hg hr hw (by rw [hp]; rfl)]
  cases r with
  | xflags | grant | fwctx => contradiction
  | _ => rfl

theorem Group.get_writeXflags (g : Machine.Group) (sl : List Nat) (n l : Nat) :
    Sparse.get 0 (g.writeXflags sl n).xflags l
      = if l ∈ g.active sl then (g.rv n l).setWidth 8 else Sparse.get 0 g.xflags l := by
  rw [Group.writeXflags]
  split
  · next h =>
    exact Sparse.get_setAll_of_mem 0 (fun l => (g.rv n l).setWidth 8) _ _ l (by simp)
      ⟨(l, (g.rv n l).setWidth 8), by simp [h], rfl⟩
  · next h =>
    refine Sparse.get_setAll_of_not_mem 0 _ _ l fun e he heq => h ?_
    obtain ⟨m, hm, rfl⟩ := List.mem_map.mp he
    exact heq ▸ hm

/-- Settles O14: the lists of the statement are the model's registers by number. -/
theorem systemRegisters : Obligations.SystemRegisters := by
  unfold Obligations.SystemRegisters
  refine ⟨fun s g y d n hi => ⟨fun v hv => ?scalar, fun c hc => ?cap, fun hn hd => ?flags⟩,
    fun s g y a n hi => ⟨fun g' hmem => ?write, fun hn => ?grant, fun hn ha => ?writeFlags, fun hn hp => ?fwctx⟩⟩
  all_goals obtain ⟨hg, -⟩ := hi
  case scalar =>
    obtain ⟨r, hr, hk, hp, rfl⟩ : ∃ r, sysRegOf n.toNat = some r ∧ isScalarKind r = true
        ∧ (r.priv && !g.privileged) = false ∧ s.sysScalar g r = v := by
      rcases hv with hv | ⟨hp, hv⟩
      · obtain ⟨r, hr, hk, hp, hv⟩ := sysReads_register s g _ hv
        exact ⟨r, hr, hk, by rw [hp]; rfl, hv⟩
      · obtain ⟨r, hr, hk, hv⟩ := sysReadsPrivileged_register s g _ hv
        exact ⟨r, hr, hk, by rw [hp, Bool.not_true, Bool.and_false], hv⟩
    refine ⟨g.wroteS s.cursor.slices d.toNat (s.sysScalar g r), ?_, scalarWrite_wroteS g _ _ _⟩
    rw [exec_sysr, execSysr_of_scalar y d hg hr hp hk, Group.writeS_eq_recheckJoin]
    rfl
  case cap =>
    obtain ⟨r, hr, hp, rfl, hk⟩ := sysCaps_register g _ hc
    refine ⟨_, ?_, capWrite_writeC g _ _⟩
    rw [exec_sysr, execSysr_of_register y d hg hr (by rw [hp]; rfl)]
    rcases hk with rfl | rfl | rfl | rfl <;> rfl
  case flags =>
    rw [exec_sysr, execSysr_of_register (r := .xflags) y d hg (by rw [hn]; rfl) rfl]
    exact lanes1_laneWrite y _ hg hd rfl
  case write =>
    obtain ⟨r, hr, hw, hp, hx, hgr, rfl⟩ := sysWrites_register g _ _ hmem
    rw [exec_sysw, execSysw_of_scalar y a hg hr hw hp hx hgr]
    rfl
  case grant =>
    rw [exec_sysw, execSysw_of_register (r := .grant) y a hg (by rw [hn]; rfl) rfl rfl]
    rfl
  case writeFlags =>
    refine ⟨g.writeXflags s.cursor.slices a.toNat, ?_, Group.get_writeXflags g _ _, rfl⟩
    rw [exec_sysw, execSysw_of_register (r := .xflags) y a hg (by rw [hn]; rfl) rfl rfl]
    rw [syswOf, State.need, ha]
    rfl
  case fwctx =>
    refine ⟨{ s.fw with fwctx := Sparse.set 0 s.fw.fwctx (dieOf g.core) ((g.rs a.toNat).setWidth 20) }, rfl,
      Sparse.get_set_self .., ?_⟩
    rw [exec_sysw, execSysw_of_register (r := .fwctx) y a hg (by rw [hn]; rfl) rfl (by rw [hp]; rfl)]
    rfl

end Sys2Proof.Claims

/-! PROOFS. Entering and leaving trap handlers, and barriers: the obligations O16 and O17. -/

namespace Sys2Proof.Machine

/-! ### The handler -/

/-- A trap of the issuing gang, at its own PC. -/
theorem State.trapHere_entered {s : State} {g : Group} (c : Cause) (hl : s.cursor.slices.Nodup)
    (hp : g.hasPending s.cursor.slices = false) (hh : g.handling = false) (hv : g.tvec.getLsbD 0 = true) :
    ∃ g' : Group, s.trapHere g c = .next (s.putGroup s.cursor.group g')
      ∧ Claims.Entered g g' s.cursor.slices c.code 0 s.cursor.pc := by
  refine ⟨_, ?_, Claims.entered_enterHandler g _ (g.gangTrap s.cursor.slices c.code 0 s.cursor.pc) hl rfl rfl⟩
  rw [State.trapHere, State.raise_eq_enterHandler s _ _ _ hp hh hv]

/-- The group after TRET has left the handler (13 R234). -/
def Group.handlerLeft (g : Group) (sl : List Nat) : Group :=
  if (g.leaveHandler sl).unfinishedOf sl = [] then { g.leaveHandler sl with entries := [] } else g.leaveHandler sl

theorem Group.leaveHandler_eq (g : Group) (sl : List Nat) :
    g.leaveHandler sl = { g with tstat := g.tstat &&& 0x7FFFFFFFFFFFFFFF#64, slices := (g.leaveHandler sl).slices } :=
  Group.mapSlices_eq _ _ _

theorem Group.handlerLeft_eq (g : Group) (sl : List Nat) :
    g.handlerLeft sl = { g with tstat := g.tstat &&& 0x7FFFFFFFFFFFFFFF#64, slices := (g.leaveHandler sl).slices,
                                entries := (g.handlerLeft sl).entries } := by
  unfold Group.handlerLeft
  split <;> rw [Group.leaveHandler_eq]

theorem Group.slice_eq_of_slices {g g' : Group} (h : g'.slices = g.slices) (i : Nat) : g'.slice i = g.slice i := by
  rw [Group.slice, Group.slice, h]

theorem Group.slice_handlerLeft (g : Group) {sl : List Nat} (i : Nat) (hl : sl.Nodup) :
    (g.handlerLeft sl).slice i = if i ∈ sl then { g.slice i with
      pc := g.tpc, unfinished := if (g.slice i).replay = g.tpc then (g.slice i).unfinished else 0 } else g.slice i := by
  have hslices : (g.handlerLeft sl).slices = (g.leaveHandler sl).slices := by rw [Group.handlerLeft_eq]
  rw [Group.slice_eq_of_slices hslices]
  exact Group.slice_mapSlices _ _ _ _ hl

theorem Group.slice_switchPark (g : Group) {sl : List Nat} (i : Nat) (hl : sl.Nodup) :
    (g.switchPark sl).slice i = if g.hasPending sl = true ∧ i ∈ sl then (g.slice i).parkAt .switchPoint 0 0 else g.slice i := by
  unfold Group.switchPark
  cases g.hasPending sl with
  | false => simp
  | true => simpa using Group.slice_mapSlices g _ sl i hl

theorem Group.sliceCount_of_width_eq {g g' : Group} (h : g'.width = g.width) : g'.sliceCount = g.sliceCount := by
  unfold Group.sliceCount Group.lanes
  rw [h]

theorem Group.nextTrap_eq_none {g : Group} (h : ∀ i ∈ g.live, (g.slice i).park ≠ .pendingTrap) : g.nextTrap = none := by
  have hids : (g.live.filter fun i => (g.slice i).park == .pendingTrap && (g.slice i).gang == i) = [] := by
    rw [List.filter_eq_nil_iff]
    intro i hi
    simp [h i hi]
  rw [Group.nextTrap, hids]
  rfl

theorem Group.nextTrap_handlerLeft {g : Group} {sl : List Nat} (hl : sl.Nodup)
    (h : ∀ i ∈ g.live, (g.slice i).park ≠ .pendingTrap) : (g.handlerLeft sl).nextTrap = none := by
  have hcount : (g.handlerLeft sl).sliceCount = g.sliceCount :=
    Group.sliceCount_of_width_eq (by rw [Group.handlerLeft_eq])
  refine Group.nextTrap_eq_none fun i hi => ?_
  rw [Group.mem_live, hcount, Group.slice_handlerLeft g i hl] at hi
  rw [Group.slice_handlerLeft g i hl]
  split at hi <;> simpa [*] using h i (Group.mem_live.mpr hi)

theorem Group.nextTrap_switchPark {g : Group} {sl : List Nat} (hl : sl.Nodup)
    (h : ∀ i ∈ g.live, (g.slice i).park ≠ .pendingTrap) : (g.switchPark sl).nextTrap = none := by
  have hcount : (g.switchPark sl).sliceCount = g.sliceCount :=
    Group.sliceCount_of_width_eq (by rw [Group.switchPark_eq])
  refine Group.nextTrap_eq_none fun i hi => ?_
  rw [Group.mem_live, hcount, Group.slice_switchPark g i hl] at hi
  rw [Group.slice_switchPark g i hl]
  split at hi
  · next hc =>
    rw [if_pos hc]
    exact Park.noConfusion
  · next hc =>
    rw [if_neg hc]
    exact h i (Group.mem_live.mpr hi)

theorem State.deliverPending_of_none (s : State) (h : Nat) {g : Group} (hn : g.nextTrap = none) :
    s.deliverPending h g = s := by
  unfold State.deliverPending
  rw [hn]
  split <;> rfl

theorem execTret_of_handling {s : State} {g : Group} (y : Bool) (hg : s.group s.cursor.group = some g)
    (hh : g.handling = true) (u : Group) (hu : u = if y then (g.handlerLeft s.cursor.slices).switchPark s.cursor.slices
      else g.handlerLeft s.cursor.slices) :
    execTret y s = .next ((s.putGroup s.cursor.group u).deliverPending s.cursor.group u) := by
  rw [execTret, State.issue_of_group _ hg, State.need, hh, hu]
  rfl

end Sys2Proof.Machine

namespace Sys2Proof.Claims

open Sys2Proof Sys2Proof.Machine

/-- The privileged numbers are those of privileged registers. -/
theorem sysRegOf_privileged {n : Nat} (h : n ∈ [0x100, 0x101, 0x102]) : ∃ r, sysRegOf n = some r ∧ r.priv = true := by
  simp only [List.mem_cons, List.not_mem_nil, or_false] at h
  rcases h with rfl | rfl | rfl
  · exact ⟨.fwctx, rfl, rfl⟩
  · exact ⟨.wdog, rfl, rfl⟩
  · exact ⟨.fqhead, rfl, rfl⟩

/-- The numbers that SYSW may not name. -/
theorem sysRegOf_readOnly {n : Nat} (h : n ∈ [0x000, 0x008, 0x00A, 0x021, 0x022, 0x023]) :
    ∃ r, sysRegOf n = some r ∧ r.writable = false := by
  simp only [List.mem_cons, List.not_mem_nil, or_false] at h
  rcases h with rfl | rfl | rfl | rfl | rfl | rfl
  · exact ⟨.gid, rfl, rfl⟩
  · exact ⟨.tick, rfl, rfl⟩
  · exact ⟨.winb, rfl, rfl⟩
  · exact ⟨.root, rfl, rfl⟩
  · exact ⟨.kconst, rfl, rfl⟩
  · exact ⟨.kdata, rfl, rfl⟩

theorem lanes1_und {s : State} {g : Group} {d : Fld} (y : Bool) (ok : Group → Bool) (f : Group → Nat → W32)
    (hg : s.group s.cursor.group = some g) (hd : g.inWindow d.toNat = false) : s.lanes1 y d ok f = s.trapHere g .und := by
  rw [State.lanes1, State.plain_und s g y _ _ hg (by rw [hd]; rfl)]

/-- Settles O16: each refused form is `trapHere`; TRET in a handler is `handlerLeft`, after which no trap is pending. -/
theorem trapsAndTheirReturn : Obligations.TrapsAndTheirReturn := by
  unfold Obligations.TrapsAndTheirReturn
  refine ⟨?enters, ?returns⟩
  case enters =>
    rintro s g y a d n ⟨hg, hl, -⟩ hp hh hv
    have trap (c : Cause) := State.trapHere_entered (s := s) (g := g) c hl hp hh hv
    refine ⟨?_, fun hn hpriv => ?_, fun hn => ?_, fun hd => ?_⟩
    · rw [exec_tret, execTret, State.issue_of_group _ hg, State.need, hh]
      exact trap .und
    · obtain ⟨r, hr, hrp⟩ := sysRegOf_privileged hn
      rw [exec_sysr, execSysr, State.issue_of_group _ hg]
      simp only [hr, hrp, hpriv, Bool.not_false, Bool.and_self, if_true]
      exact trap .priv
    · obtain ⟨r, hr, hrw⟩ := sysRegOf_readOnly hn
      rw [exec_sysw, execSysw, State.issue_of_group _ hg]
      simp only [hr, hrw, Bool.not_false, if_true]
      exact trap .und
    · rw [exec_vmov, execVmov, State.vec2, lanes1_und y _ _ hg hd]
      exact trap .und
  case returns =>
    rintro s g y ⟨hg, hl, -⟩ hh hpark
    have hnone := Group.nextTrap_handlerLeft (g := g) hl hpark
    have hparks : ∀ i ∈ (g.handlerLeft s.cursor.slices).live, ((g.handlerLeft s.cursor.slices).slice i).park ≠ .pendingTrap := by
      intro i hi
      have hcount : (g.handlerLeft s.cursor.slices).sliceCount = g.sliceCount :=
        Group.sliceCount_of_width_eq (by rw [Group.handlerLeft_eq])
      rw [Group.mem_live, hcount, Group.slice_handlerLeft g i hl] at hi
      rw [Group.slice_handlerLeft g i hl]
      split at hi <;> simpa [*] using hpark i (Group.mem_live.mpr hi)
    refine ⟨g.handlerLeft s.cursor.slices, ?_, ?_, fun i hi => ?_, fun i hi => ?_, ?_⟩
    · rw [exec_tret, execTret_of_handling y hg hh _ rfl, State.deliverPending_of_none]
      split
      · exact Group.nextTrap_switchPark hl hparks
      · exact Group.nextTrap_eq_none hparks
    · rw [Group.handlerLeft_eq]
    · rw [Group.slice_handlerLeft g i hl, if_pos hi]
    · rw [Group.slice_handlerLeft g i hl, if_neg hi]
    · rw [Group.handlerLeft_eq]

end Sys2Proof.Claims

namespace Sys2Proof.Machine

/-! ### Barriers -/

/-- A group handle still names a group, of the same block. -/
def State.KeepsBlock (s : State) (h : Nat) (blk : Nat) : Prop := ∃ g, s.group h = some g ∧ g.block = blk

theorem State.keepsBlock_putGroup {s : State} {h k blk : Nat} {g : Group} (hs : s.KeepsBlock h blk)
    (hg : h = k → g.block = blk) : (s.putGroup k g).KeepsBlock h blk := by
  rw [State.KeepsBlock, State.group_putGroup]
  split
  · next heq => exact ⟨_, rfl, by rw [Group.settle_eq]; exact hg heq⟩
  · exact hs

theorem State.keepsBlock_wakeGroup {s : State} {h blk : Nat} (k : Nat) (p : BitVec 16) (h' : Nat)
    (hs : s.KeepsBlock h blk) : (s.wakeGroup k p h').KeepsBlock h blk := by
  unfold State.wakeGroup
  split
  · exact hs
  · next g hg =>
    simp only
    split
    · exact hs
    · refine State.keepsBlock_putGroup hs fun heq => ?_
      obtain ⟨g1, hg1, hblk⟩ := hs
      rw [heq, hg] at hg1
      obtain rfl := Option.some.inj hg1
      rw [Group.mapSlices_eq]
      exact hblk

theorem State.keepsBlock_of_groups {s t : State} {h blk : Nat} (hs : s.KeepsBlock h blk) (ht : t.groups = s.groups) :
    t.KeepsBlock h blk := by
  rwa [State.KeepsBlock, State.group, ht]

theorem State.keepsBlock_barrierUpdate {s : State} {h blk : Nat} (b k : Nat) (hs : s.KeepsBlock h blk) :
    (s.barrierUpdate b k).KeepsBlock h blk := by
  unfold State.barrierUpdate
  split
  · exact hs
  · refine List.foldlRecOn (motive := fun t : State => t.KeepsBlock h blk) _ _ ?_ fun t ht h' _ =>
      State.keepsBlock_wakeGroup _ _ _ ht
    refine State.keepsBlock_of_groups hs ?_
    split <;> rfl

theorem State.changeBarrier_of_block {s : State} {g : Group} {b : Block} (k : Nat) (f : Barrier → Barrier)
    (hb : s.block g.block = some b) :
    s.changeBarrier g k f = (s.putBlock g.block (b.putBarrier k (f (b.barrier k)))).barrierUpdate g.block k := by
  simp only [State.changeBarrier, hb]

theorem State.group_changedBarrier {s : State} {g : Group} {h : Nat} (b : Block) (k : Nat) (w : Barrier)
    (hg : s.group h = some g) :
    ∃ g2, ((s.putBlock g.block (b.putBarrier k w)).barrierUpdate g.block k).group h = some g2 ∧ g2.block = g.block :=
  State.keepsBlock_barrierUpdate g.block k ⟨g, hg, rfl⟩

/-- The group whose gang has parked at a barrier, past its instruction. -/
def Group.atBarrier (g : Group) (sl : List Nat) (pc : W64) (k : Nat) (p : BitVec 16) : Group :=
  (g.setPc sl pc).mapSlices (fun _ r => { r.parkAt .barrier (BitVec.ofNat 32 k) 0 with phase := p }) sl

theorem Group.atBarrier_eq (g : Group) (sl : List Nat) (pc : W64) (k : Nat) (p : BitVec 16) :
    g.atBarrier sl pc k p = { g with slices := (g.atBarrier sl pc k p).slices } :=
  Group.mapSlices_eq_of_eq _ _ (Group.mapSlices_eq g _ sl)

theorem Group.slice_atBarrier (g : Group) {sl : List Nat} (pc : W64) (k : Nat) (p : BitVec 16) (i : Nat) (hl : sl.Nodup) :
    (g.atBarrier sl pc k p).slice i = if i ∈ sl then
      { g.slice i with pc := pc, state := .parked, park := .barrier, arg := BitVec.ofNat 32 k, deadline := 0, phase := p }
    else g.slice i := by
  unfold Group.atBarrier Group.setPc
  rw [Group.slice_mapSlices _ _ _ _ hl, Group.slice_mapSlices _ _ _ _ hl]
  split <;> rfl

theorem State.barrierPark_of_group {s : State} {g : Group} (k : Nat) (p : BitVec 16)
    (hg : s.group s.cursor.group = some g) : s.barrierPark k p = if s.phaseOf g.block k = p then
      .next (s.putGroup s.cursor.group (g.atBarrier s.cursor.slices (s.cursor.pc + 4) k p)) else s.retire false g := by
  simp only [State.barrierPark, hg]
  rfl

theorem State.barrierForm_next {s : State} {g : Group} {blk : Block} {k : Nat} (y : Bool) (a b : Fld)
    (f : W64 → Barrier → Barrier) (hg : s.group s.cursor.group = some g) (hb : s.block g.block = some blk)
    (hk : s.barrierOf g (g.rs a.toNat) = some k) :
    ∃ g2, ((s.putBlock g.block (blk.putBarrier k (f (g.rs b.toNat) (blk.barrier k)))).barrierUpdate g.block k).group
        s.cursor.group = some g2
      ∧ s.barrierForm y a b f = .next (Claims.after
          ((s.putBlock g.block (blk.putBarrier k (f (g.rs b.toNat) (blk.barrier k)))).barrierUpdate g.block k) y g2) := by
  obtain ⟨g2, hg2, -⟩ := State.group_changedBarrier blk k (f (g.rs b.toNat) (blk.barrier k)) hg
  refine ⟨g2, hg2, ?_⟩
  rw [State.barrierForm, State.issue_of_group _ hg]
  simp only [hk, State.changeBarrier_of_block k _ hb, hg2]
  rfl

end Sys2Proof.Machine

namespace Sys2Proof.Claims

open Sys2Proof Sys2Proof.Machine

theorem exec_barrierForms (y : Bool) (a b : Fld) (g : Group) (s : State) : ∀ e ∈ barrierForms y a b g,
    ∃ f, exec e.1 s = s.barrierForm y a b f ∧ e.2 = f (g.rs b.toNat) := by
  simp only [barrierForms, List.forall_mem_cons, List.not_mem_nil, false_implies, implies_true, and_true]
  exact ⟨⟨_, exec_barInit y a b s, rfl⟩, ⟨_, exec_barArrive y a b s, rfl⟩, ⟨_, exec_barExpect y a b s, rfl⟩⟩

/-- Settles O17: the forms are `barrierForm_next` and `barrierPark_of_group` at the barrier that the scalar names. -/
theorem barrierResults : Obligations.BarrierResults := by
  unfold Obligations.BarrierResults
  refine ⟨?updates, ?waits, ?arrives⟩
  case updates =>
    rintro s g blk y a b k ⟨hg, -⟩ hb hk
    intro e he
    obtain ⟨f, hexec, hf⟩ := exec_barrierForms y a b g s e he
    rw [hexec, hf]
    exact State.barrierForm_next y a b f hg hb hk
  case waits =>
    rintro s g blk y a b k ⟨hg, hl, -⟩ hb hk hp
    have hphase : s.phaseOf g.block k = (blk.barrier k).phase := by rw [State.phaseOf, hb]; rfl
    have hexec : exec (.barWait y a b) s = s.barrierPark k ((g.rs b.toNat).setWidth 16) := by
      rw [exec_barWait, execBarWait, State.issue_of_group _ hg, State.switchFirst_of_not_pending _ hp]
      simp only [hk]
    rw [hexec, State.barrierPark_of_group k _ hg, hphase, ite_prop_iff_and]
    refine ⟨fun heq => ?_, fun heq => ?_⟩
    · rw [if_pos heq, heq]
      exact ⟨_, rfl, Group.atBarrier_eq _ _ _ _ _, fun i => Group.slice_atBarrier _ _ _ _ _ hl⟩
    · rw [if_neg heq]
      rfl
  case arrives =>
    rintro s g blk y a b k ⟨hg, hl, -⟩ hb hk hp p w t
    obtain ⟨g2, hg2, hblk⟩ := State.group_changedBarrier blk k w hg
    have hphase : s.phaseOf g.block k = p := by rw [State.phaseOf, hb]; rfl
    have hcursor : t.cursor = s.cursor := State.barrierUpdate_cursor _ _ _
    have hg2' : t.group t.cursor.group = some g2 := by rw [hcursor]; exact hg2
    have hexec : exec (.barArriveW y a b) s = t.barrierPark k p := by
      rw [exec_barArriveW, execBarArriveW, State.issue_of_group _ hg, State.switchFirst_of_not_pending _ hp]
      simp only [hk, State.changeBarrier_of_block k _ hb, hphase]
      rfl
    refine ⟨g2, hg2, ?_⟩
    have hpark : t.barrierPark k p = if t.phaseOf g.block k = p then
        .next (t.putGroup s.cursor.group (g2.atBarrier s.cursor.slices (s.cursor.pc + 4) k p)) else t.retire false g2 := by
      rw [State.barrierPark_of_group k p hg2', hblk, hcursor]
    rw [hexec, hpark, ite_prop_iff_and]
    refine ⟨fun heq => ?_, fun heq => ?_⟩
    · rw [if_pos heq]
      exact ⟨_, rfl, Group.atBarrier_eq _ _ _ _ _, fun i => Group.slice_atBarrier _ _ _ _ _ hl⟩
    · rw [if_neg heq, State.retire, hcursor]

end Sys2Proof.Claims

/-! PROOFS. Conversions: the obligation O49. -/

namespace Sys2Proof.Machine

/-! ### Type codes -/

/-- A type code that is no format of this list. -/
theorem plain_of_not_mem {t : BitVec 5} : t ∉ [8, 9, 10, 12, 13] →
    (t.toNat == 8 || t.toNat == 9 || t.toNat == 10) = false ∧ (t.toNat == 12 || t.toNat == 13) = false := by
  revert t
  decide

theorem block_of_mem {t : BitVec 5} : t ∈ [8, 9, 10] →
    (t.toNat == 8 || t.toNat == 9 || t.toNat == 10) = true ∧ (t.toNat == 12 || t.toNat == 13) = false
      ∧ (typeBits t.toNat == 64) = false := by
  revert t
  decide

theorem affine_of_mem {t : BitVec 5} : t ∈ [12, 13] →
    (t.toNat == 8 || t.toNat == 9 || t.toNat == 10) = false ∧ (t.toNat == 12 || t.toNat == 13) = true
      ∧ (typeBits t.toNat == 64) = false := by
  revert t
  decide

theorem elements_of_mem {t : BitVec 5} : t ∈ [2, 3, 4] →
    (t.toNat == 8 || t.toNat == 9 || t.toNat == 10) = false ∧ (t.toNat == 12 || t.toNat == 13) = false
      ∧ (typeBits t.toNat == 64) = false := by
  revert t
  decide

theorem blockWords_le (t : Nat) : (blockBytes t + 3) / 4 ≤ 5 := by
  unfold blockBytes
  split
  · decide
  · split <;> decide

/-! ### Two's complement -/

theorem twos_eq_toInt (n v : Nat) (hn : 0 < n) : twos n v = (BitVec.ofNat n v).toInt := by
  have hpow : 2 ^ n = 2 * 2 ^ (n - 1) := by rw [← Nat.pow_succ', Nat.succ_eq_add_one, Nat.sub_add_cancel hn]
  have hcond : 2 ^ (n - 1) ≤ v % 2 ^ n ↔ ¬2 * (v % 2 ^ n) < 2 ^ n := by omega
  rw [twos, BitVec.toInt_eq_toNat_cond, BitVec.toNat_ofNat, ite_congr (propext hcond) (fun _ => rfl) (fun _ => rfl), ite_not]
  push_cast
  rfl

theorem ofNat_shiftRight_eq_extractLsb' (x : W32) (i n : Nat) : BitVec.ofNat n (x.toNat / 2 ^ i) = x.extractLsb' i n := by
  apply BitVec.eq_of_toNat_eq
  rw [BitVec.toNat_ofNat, BitVec.extractLsb'_toNat, Nat.shiftRight_eq_div_pow]

theorem twos_zeroPoint (x : W32) : twos 8 (x.toNat / 256) = (x.extractLsb' 8 8).toInt := by
  rw [twos_eq_toInt _ _ (by decide), ← ofNat_shiftRight_eq_extractLsb' x 8 8]
  rfl

theorem twos_low (x : W32) {n : Nat} (hn : 0 < n) : twos n x.toNat = (x.extractLsb' 0 n).toInt := by
  rw [twos_eq_toInt _ _ hn, ← ofNat_shiftRight_eq_extractLsb' x 0 n, pow_zero, Nat.div_one]

/-! ### Blocks of sixteen lanes -/

theorem Group.mem_blockSets {g : Group} {sl : List Nat} {k : Nat} :
    k ∈ g.blockSets sl ↔ ∃ i < 16, g.isActive sl (16 * k + i) = true := by
  simp only [Group.blockSets, List.mem_filter, List.mem_range, List.any_eq_true]
  refine ⟨fun h => h.2, fun h => ⟨?_, h⟩⟩
  obtain ⟨i, hi, hact⟩ := h
  simp only [Group.isActive, Bool.and_eq_true, decide_eq_true_eq] at hact
  omega

theorem sum_map_eq_foldl (f : Nat → Nat) (l : List Nat) : l.foldl (fun x j => x + f j) 0 = (l.map f).sum := by
  rw [List.sum_eq_foldl, List.foldl_map]

end Sys2Proof.Machine

namespace Sys2Proof.Claims

open Sys2Proof Sys2Proof.Machine

theorem Group.mem_packBlocks {g : Machine.Group} {sl : List Nat} {t c d a : Nat} {e : Nat × W32} :
    e ∈ (g.packBlocks sl t c d a).1 ↔ ∃ p ∈ g.copies, ∃ k, ∃ j < (blockBytes t + 3) / 4, g.isActive sl (16 * k + j) = true
      ∧ e = (g.vkey d (g.physLane (16 * k + j) + p), BitVec.ofNat 32 ((formed g sl t c a p k).1 / 2 ^ (32 * j))) := by
  have hmem : e ∈ (g.packBlocks sl t c d a).1 ↔ ∃ k ∈ g.blockSets sl, ∃ p ∈ g.copies, ∃ j < (blockBytes t + 3) / 4,
      (if g.isActive sl (16 * k + j) = true then
        some (g.vkey d (g.physLane (16 * k + j) + p), BitVec.ofNat 32 ((formed g sl t c a p k).1 / 2 ^ (32 * j)))
       else none) = some e := by
    simp only [Group.packBlocks, List.mem_flatMap, List.mem_map]
    constructor
    · rintro ⟨_, ⟨k, hk, p, hp, rfl⟩, he⟩
      obtain ⟨j, hj, he⟩ := List.mem_filterMap.mp he
      exact ⟨k, hk, p, hp, j, List.mem_range.mp hj, he⟩
    · rintro ⟨k, hk, p, hp, j, hj, he⟩
      exact ⟨_, ⟨k, hk, p, hp, rfl⟩, List.mem_filterMap.mpr ⟨j, List.mem_range.mpr hj, he⟩⟩
  rw [hmem]
  constructor
  · rintro ⟨k, -, p, hp, j, hj, he⟩
    split at he
    · next hact => exact ⟨p, hp, k, j, hj, hact, (Option.some.inj he).symm⟩
    · contradiction
  · rintro ⟨p, hp, k, j, hj, hact, rfl⟩
    have hwords := blockWords_le t
    exact ⟨k, Group.mem_blockSets.mpr ⟨j, by omega, hact⟩, p, hp, j, hj, if_pos hact⟩

theorem Group.flags_packBlocks {g : Machine.Group} {sl : List Nat} {t c d a b : Nat} :
    (g.packBlocks sl t c d a).2.getLsbD b = true ↔ ∃ p ∈ g.copies, ∃ k, (∃ i < 16, g.isActive sl (16 * k + i) = true)
      ∧ (formed g sl t c a p k).2.getLsbD b = true := by
  simp only [Group.packBlocks, getLsbD_flAll, List.any_eq_true, List.mem_map, List.mem_flatMap]
  constructor
  · rintro ⟨_, ⟨_, ⟨k, hk, p, hp, rfl⟩, rfl⟩, hb⟩
    exact ⟨p, hp, k, Group.mem_blockSets.mp hk, hb⟩
  · rintro ⟨p, hp, k, hk, hb⟩
    exact ⟨_, ⟨_, ⟨k, Group.mem_blockSets.mpr hk, p, hp, rfl⟩, rfl⟩, hb⟩

theorem Group.mem_unpackBlocks {g : Machine.Group} {sl : List Nat} {c d a : Nat} {e : Nat × W32} :
    e ∈ g.unpackBlocks sl c d a ↔ ∃ p ∈ g.copies, ∃ k, ∃ i < 16, g.isActive sl (16 * k + i) = true
      ∧ e = (g.vkey d (g.physLane (16 * k + i) + p), BitVec.ofNat 32 (fromBlock (held g sl c a p k) (blockM c) i)) := by
  simp only [Group.unpackBlocks, sum_map_eq_foldl, List.mem_flatMap, List.mem_filterMap, List.mem_range]
  constructor
  · rintro ⟨k, -, p, hp, i, hi, he⟩
    split at he
    · next hact => exact ⟨p, hp, k, i, hi, hact, (Option.some.inj he).symm⟩
    · contradiction
  · rintro ⟨p, hp, k, i, hi, hact, rfl⟩
    exact ⟨k, Group.mem_blockSets.mpr ⟨i, hi, hact⟩, p, hp, i, hi, if_pos hact⟩

/-! ### FCVT by the kinds of its types -/

section
variable {s : State} {g : Group} {t c : BitVec 5} {d a : Fld} (y n q : Bool)

theorem execFcvt_plain (hg : s.group s.cursor.group = some g) (ht : t ∉ [8, 9, 10, 12, 13]) (hc : c ∉ [8, 9, 10, 12, 13])
    (hd : g.valIn (typeBits t.toNat == 64) d.toNat = true) (ha : g.valIn (typeBits c.toNat == 64) a.toNat = true) :
    let r := g.convertLanes s.cursor.slices t.toNat c.toNat d.toNat a.toNat (if n then .rne else g.rm) q
    execFcvt y t d a n q c s = .next (after s y (pends g s.cursor.slices r.1 r.2)) := by
  obtain ⟨htb, hta⟩ := plain_of_not_mem ht
  obtain ⟨hcb, hca⟩ := plain_of_not_mem hc
  unfold execFcvt
  simp only [htb, hta, hcb, hca, Bool.not_false, Bool.and_true, Bool.or_false, Bool.false_eq_true, if_false]
  exact pendLanes_next y _ hg (by rw [hd, ha]; rfl)

theorem execFcvt_toAffine (hg : s.group s.cursor.group = some g) (ht : t ∈ [12, 13]) (hd : g.inWindow d.toNat = true)
    (ha : g.valIn true a.toNat = true) :
    let r := g.quantizeLanes s.cursor.slices t.toNat d.toNat a.toNat
    execFcvt y t d a n q 2 s = .next (after s y (pends g s.cursor.slices r.1 r.2)) := by
  obtain ⟨htb, hta, htw⟩ := affine_of_mem ht
  obtain ⟨hcb, hca, hcw⟩ := elements_of_mem (t := 2) (by decide)
  unfold execFcvt
  simp only [htb, hta, htw, hcb, hca, hcw, Bool.not_false, Bool.and_true, Bool.and_false, Bool.or_false,
    Bool.or_true, Bool.not_true, Bool.false_eq_true, if_false, if_true]
  exact pendLanes_next y _ hg (by rw [ha, Group.valIn, hd]; rfl)

theorem execFcvt_fromAffine (hg : s.group s.cursor.group = some g) (hc : c ∈ [12, 13]) (hd : g.inWindow d.toNat = true)
    (ha : g.valIn true a.toNat = true) : execFcvt y 2 d a n q c s
      = .next (after s y (pends g s.cursor.slices (g.dequantizeLanes s.cursor.slices c.toNat d.toNat a.toNat) 0)) := by
  obtain ⟨hcb, hca, hcw⟩ := affine_of_mem hc
  obtain ⟨htb, hta, htw⟩ := elements_of_mem (t := 2) (by decide)
  unfold execFcvt
  simp only [htb, hta, htw, hcb, hca, hcw, Bool.not_false, Bool.and_true, Bool.or_false,
    Bool.or_true, Bool.false_eq_true, if_false, if_true]
  exact pendLanes_next y _ hg (by rw [ha, Group.valIn, hd]; rfl)

theorem execFcvt_toBlocks (hg : s.group s.cursor.group = some g) (ht : t ∈ [8, 9, 10]) (hc : c ∈ [2, 3, 4])
    (hd : g.inWindow d.toNat = true) (ha : g.inWindow a.toNat = true) :
    let r := g.packBlocks s.cursor.slices t.toNat c.toNat d.toNat a.toNat
    execFcvt y t d a n q c s = .next (after s y (pends g s.cursor.slices r.1 r.2)) := by
  obtain ⟨htb, hta, htw⟩ := block_of_mem ht
  obtain ⟨hcb, hca, hcw⟩ := elements_of_mem hc
  unfold execFcvt
  simp only [htb, hta, htw, hcb, hca, hcw, Bool.not_false, Bool.and_true, Bool.and_false, Bool.or_false,
    Bool.not_true, Bool.false_eq_true, if_false, if_true]
  exact pendLanes_next y _ hg (by rw [Group.valIn, Group.valIn, hd, ha]; rfl)

theorem execFcvt_fromBlocks (hg : s.group s.cursor.group = some g) (hc : c ∈ [8, 9, 10])
    (hd : g.inWindow d.toNat = true) (ha : g.inWindow a.toNat = true) : execFcvt y 2 d a n q c s
      = .next (after s y (pends g s.cursor.slices (g.unpackBlocks s.cursor.slices c.toNat d.toNat a.toNat) 0)) := by
  obtain ⟨hcb, hca, hcw⟩ := block_of_mem hc
  obtain ⟨htb, hta, htw⟩ := elements_of_mem (t := 2) (by decide)
  unfold execFcvt
  simp only [htb, hta, htw, hcb, hca, hcw, Bool.not_false, Bool.and_true, Bool.and_false, Bool.or_false,
    Bool.not_true, Bool.false_eq_true, if_false, if_true]
  exact pendLanes_next y _ hg (by rw [Group.valIn, Group.valIn, hd, ha]; rfl)

end

/-- What lane l gives when it is quantized to A8 or A4. -/
def quantized (g : Group) (t : BitVec 5) (a l : Nat) : Int × BitVec 6 :=
  quantize (fF32.unpack (g.rv a l).toNat) (quantOf g a l).1 (quantOf g a l).2 (if t = 12 then -128 else -8)
    (if t = 12 then 127 else 7)

theorem quantizeLanes_eq (g : Group) (sl : List Nat) {t : BitVec 5} (d a : Nat) : g.quantizeLanes sl t.toNat d a
    = ((g.active sl).map fun l => (g.vkey d l, BitVec.ofInt 32 (quantized g t a l).1),
       g.laneFlags sl fun l => (quantized g t a l).2) := by
  have ht : t.toNat = 12 ↔ t = 12 := by rw [← BitVec.toNat_inj]; rfl
  simp only [Group.quantizeLanes, Group.laneWrites, quantized, quantOf, twos_zeroPoint, ht]

theorem twos_code {c : BitVec 5} (hc : c ∈ [12, 13]) (x : W32) : twos (typeBits c.toNat) x.toNat
    = if c = 12 then (x.extractLsb' 0 8).toInt else (x.extractLsb' 0 4).toInt := by
  simp only [List.mem_cons, List.not_mem_nil, or_false] at hc
  rcases hc with rfl | rfl
  · exact twos_low x (n := 8) (by decide)
  · exact twos_low x (n := 4) (by decide)

theorem dequantizeLanes_eq (g : Group) (sl : List Nat) {c : BitVec 5} (hc : c ∈ [12, 13]) (d a : Nat) :
    g.dequantizeLanes sl c.toNat d a = (g.active sl).map fun l =>
      let code : Int := if c = 12 then ((g.rv a l).extractLsb' 0 8).toInt else ((g.rv a l).extractLsb' 0 4).toInt
      let k : Int := code - (quantOf g a l).2
      (g.vkey d l, BitVec.ofNat 32 (fF32.roundTo .rne (decide (k < 0)) ((quantOf g a l).1.1 * k.natAbs)
        (quantOf g a l).1.2 false false).1) := by
  simp only [Group.dequantizeLanes, Group.laneWrites, quantOf, twos_zeroPoint, twos_code hc]
  rfl

/-- Settles O49: FCVT by the kinds of its types, each with one pending result. -/
theorem conversionResults : Obligations.ConversionResults := by
  unfold Obligations.ConversionResults
  refine ⟨?lanes, ?blocks⟩
  case lanes =>
    rintro s g y t c d a n q ⟨hg, -⟩ sl lane
    simp only [exec_fcvt]
    refine ⟨fun ht hc hd ha => ?plain, fun ht hd ha => ?toAffine, fun hc hd ha => ?fromAffine⟩
    case plain => exact execFcvt_plain y n q hg ht hc hd ha
    case toAffine =>
      have h := execFcvt_toAffine y n q hg ht hd ha
      rw [quantizeLanes_eq] at h
      exact h
    case fromAffine => exact ⟨_, execFcvt_fromAffine y n q hg hc hd ha, dequantizeLanes_eq g _ hc _ _⟩
  case blocks =>
    rintro s g y t c d a n q ⟨hg, -⟩ hd ha sl
    simp only [exec_fcvt]
    exact ⟨fun ht hc => ⟨_, _, execFcvt_toBlocks y n q hg ht hc hd ha, fun e => Group.mem_packBlocks,
      fun b => Group.flags_packBlocks⟩, fun hc => ⟨_, execFcvt_fromBlocks y n q hg hc hd ha, fun e => Group.mem_unpackBlocks⟩⟩

end Sys2Proof.Claims

/-! PROOFS. The small-matrix unit: the obligation O18. -/

namespace Sys2Proof.Machine

/-- A list of writes whose writes to one index agree. -/
theorem Sparse.get_setAll_of_agree {α : Type} [DecidableEq α] (d : α) (w : List (Nat × α)) (m : Sparse α) (y : Nat) (v : α)
    (hv : ∀ e ∈ w, e.1 = y → e.2 = v) (h : ∃ e ∈ w, e.1 = y) : Sparse.get d (Sparse.setAll d m w) y = v := by
  induction w generalizing m with
  | nil => simp at h
  | cons e w ih =>
    obtain ⟨k, u⟩ := e
    rw [Sparse.setAll]
    by_cases hw : ∃ e ∈ w, e.1 = y
    · exact ih _ (fun e he => hv e (List.mem_cons_of_mem _ he)) hw
    · have hk : k = y := by
        obtain ⟨e, he, hy⟩ := h
        rcases List.mem_cons.mp he with rfl | he
        · exact hy
        · exact absurd ⟨e, he, hy⟩ hw
      subst hk
      rw [Sparse.get_setAll_of_not_mem d w _ k fun e he hy => hw ⟨e, he, hy⟩, Sparse.get_set_self]
      exact hv (k, u) List.mem_cons_self rfl

/-! ### What a matrix result writes -/

theorem xKey_inj {k l i j k' l' i' j' : Nat} (hl : l < 96) (hl' : l' < 96) (hi : i < 6) (hi' : i' < 6) (hj : j < 6)
    (hj' : j' < 6) (h : xKey k l i j = xKey k' l' i' j') : k = k' ∧ l = l' ∧ i = i' ∧ j = j' := by
  unfold xKey at h
  omega

/-- The bits that a matrix result puts into element (i, j). -/
def matElem (m : List Nat) (r c i j : Nat) : Nat := if i < r ∧ j < c then at6 m i j else 0

theorem mem_xMatrix {wide : Bool} {k l r c : Nat} {m : List Nat} {e : Nat × W32} : e ∈ xMatrix wide k l r c m ↔
    ∃ i < 6, ∃ j < 6, e = (xKey k l i j, BitVec.ofNat 32 (matElem m r c i j))
      ∨ (wide = true ∧ e = (xKey (k + 1) l i j, BitVec.ofNat 32 (matElem m r c i j / 2 ^ 32))) := by
  have hcell : e ∈ xMatrix wide k l r c m ↔ ∃ n < 36, e = (xKey k l (n / 6) (n % 6), BitVec.ofNat 32 (matElem m r c (n / 6) (n % 6)))
      ∨ (wide = true ∧ e = (xKey (k + 1) l (n / 6) (n % 6), BitVec.ofNat 32 (matElem m r c (n / 6) (n % 6) / 2 ^ 32))) := by
    simp only [xMatrix, xElem, matElem, List.mem_flatMap, List.mem_range, List.mem_cons]
    cases wide <;> simp
  rw [hcell]
  constructor
  · rintro ⟨n, hn, he⟩
    exact ⟨n / 6, by omega, n % 6, by omega, he⟩
  · rintro ⟨i, hi, j, hj, he⟩
    refine ⟨6 * i + j, by omega, ?_⟩
    rwa [show (6 * i + j) / 6 = i by omega, show (6 * i + j) % 6 = j by omega]

theorem mem_xShape {wide : Bool} {k l r c : Nat} {e : Nat × (Nat × Nat)} : e ∈ xShape wide k l r c ↔
    e = (k * 96 + l, (r, c)) ∨ (wide = true ∧ e = ((k + 1) * 96 + l, (r, c))) := by
  cases wide <;> simp [xShape]

theorem flIf_false (f : BitVec 6) : flIf false f = 0 := rfl

/-- The XFLAGS bits that a lane's result sets: its events, and bit 4 for an inexact result. -/
def SmuOut.events (o : SmuOut) : BitVec 8 := if o.fl &&& flInexact != 0 then o.ev ||| 16 else o.ev

theorem and_inexact_ne_zero (f : BitVec 6) : (f &&& flInexact != 0) = f.getLsbD 4 := by
  revert f
  decide

theorem SmuOut.events_eq (o : SmuOut) : o.events = o.ev ||| (if o.fl.getLsbD 4 then 16 else 0) := by
  rw [SmuOut.events, and_inexact_ne_zero]
  split <;> simp

/-- The lanes whose results set a bit of XFLAGS, each with what the unit then holds. -/
def Group.smuFlagged (g : Group) (outs : List (Nat × SmuOut)) : List (Nat × BitVec 8) :=
  (outs.filter fun e => e.2.events != 0).map fun e => (e.1, Sparse.get 0 g.smuFlags e.1 ||| e.2.events)

/-- What the results of some lanes leave pending. -/
def Group.smuPending (g : Group) (sl : List Nat) (outs : List (Nat × SmuOut)) : Pending :=
  { slices := sl, vecs := outs.flatMap fun e => e.2.vs, xfl := g.smuFlagged outs, flags := flAll (outs.map fun e => e.2.fl)
    smx := (outs.filter fun e => e.2.events != 0).flatMap fun e =>
      (smxBits (Sparse.get 0 g.smuFlags e.1) e.2.events).map fun b => (e.1, b) }

/-- The unit's writes of the results of some lanes. -/
theorem Group.smuApply_eq (g : Group) (sl : List Nat) (outs : List (Nat × SmuOut)) : g.smuApply sl outs = { g with
    x := Sparse.setAll 0 g.x (outs.flatMap fun e => e.2.xs)
    shape := Sparse.setAll (1, 1) g.shape (outs.flatMap fun e => e.2.shapes)
    smuFlags := Sparse.setAll 0 g.smuFlags (g.smuFlagged outs)
    pending := g.pending ++ [g.smuPending sl outs] } := rfl

/-- XFLAGS of the unit after the results of some lanes. -/
theorem Group.smuFlags_smuApply (g : Group) (sl : List Nat) {lanes : List Nat} (out : Nat → SmuOut) {l : Nat} (hl : l ∈ lanes) :
    Sparse.get 0 (g.smuApply sl (lanes.map fun l => (l, out l))).smuFlags l
      = Sparse.get 0 g.smuFlags l ||| (out l).events := by
  rw [Group.smuApply_eq]
  show Sparse.get 0 (Sparse.setAll 0 g.smuFlags (g.smuFlagged _)) l = _
  unfold Group.smuFlagged
  by_cases hev : (out l).events = 0
  · rw [hev, Sparse.get_setAll_of_not_mem]
    · exact BitVec.or_zero.symm
    intro e he heq
    simp only [List.mem_map, List.mem_filter, bne_iff_ne] at he
    obtain ⟨_, ⟨⟨k, -, rfl⟩, hne⟩, rfl⟩ := he
    exact hne ((show k = l from heq) ▸ hev)
  · refine Sparse.get_setAll_of_agree _ _ _ _ _ (fun e he heq => ?_) ⟨(l, Sparse.get 0 g.smuFlags l ||| (out l).events), ?_, rfl⟩
    · simp only [List.mem_map, List.mem_filter] at he
      obtain ⟨_, ⟨⟨k, -, rfl⟩, -⟩, rfl⟩ := he
      exact heq ▸ rfl
    · simp only [List.mem_map, List.mem_filter, bne_iff_ne]
      exact ⟨(l, out l), ⟨⟨l, hl, rfl⟩, hev⟩, rfl⟩

section
variable {wide : Bool} {d : Nat} {lanes : List Nat} (x : Sparse W32) (r c : Nat → Nat) (m : Nat → List Nat)

/-- The low word of an element that a matrix result writes. -/
theorem get_xMatrix_low (hlanes : ∀ l ∈ lanes, l < 96) {l i j : Nat} (hl : l ∈ lanes) (hi : i < 6) (hj : j < 6) :
    Sparse.get 0 (Sparse.setAll 0 x (lanes.flatMap fun l => xMatrix wide d l (r l) (c l) (m l))) (xKey d l i j)
      = BitVec.ofNat 32 (matElem (m l) (r l) (c l) i j) := by
  refine Sparse.get_setAll_of_agree _ _ _ _ _ (fun e he heq => ?_)
    ⟨_, List.mem_flatMap.mpr ⟨l, hl, mem_xMatrix.mpr ⟨i, hi, j, hj, .inl rfl⟩⟩, rfl⟩
  obtain ⟨l', hl', he⟩ := List.mem_flatMap.mp he
  obtain ⟨i', hi', j', hj', rfl | ⟨-, rfl⟩⟩ := mem_xMatrix.mp he
  · obtain ⟨-, rfl, rfl, rfl⟩ := xKey_inj (hlanes _ hl') (hlanes _ hl) hi' hi hj' hj heq
    rfl
  · have := (xKey_inj (hlanes _ hl') (hlanes _ hl) hi' hi hj' hj heq).1
    omega

/-- The high word of an element that a 64-bit matrix result writes. -/
theorem get_xMatrix_high (hlanes : ∀ l ∈ lanes, l < 96) {l i j : Nat} (hl : l ∈ lanes) (hi : i < 6) (hj : j < 6) :
    Sparse.get 0 (Sparse.setAll 0 x (lanes.flatMap fun l => xMatrix true d l (r l) (c l) (m l))) (xKey (d + 1) l i j)
      = BitVec.ofNat 32 (matElem (m l) (r l) (c l) i j / 2 ^ 32) := by
  refine Sparse.get_setAll_of_agree _ _ _ _ _ (fun e he heq => ?_)
    ⟨_, List.mem_flatMap.mpr ⟨l, hl, mem_xMatrix.mpr ⟨i, hi, j, hj, .inr ⟨rfl, rfl⟩⟩⟩, rfl⟩
  obtain ⟨l', hl', he⟩ := List.mem_flatMap.mp he
  obtain ⟨i', hi', j', hj', rfl | ⟨-, rfl⟩⟩ := mem_xMatrix.mp he
  · have := (xKey_inj (hlanes _ hl') (hlanes _ hl) hi' hi hj' hj heq).1
    omega
  · obtain ⟨-, rfl, rfl, rfl⟩ := xKey_inj (hlanes _ hl') (hlanes _ hl) hi' hi hj' hj heq
    rfl

/-- A matrix result leaves the elements of other registers and lanes. -/
theorem get_xMatrix_other (hlanes : ∀ l ∈ lanes, l < 96) {k l i j : Nat} (hl : l < 96) (hi : i < 6) (hj : j < 6)
    (h : (k ≠ d ∧ ¬(wide = true ∧ k = d + 1)) ∨ l ∉ lanes) :
    Sparse.get 0 (Sparse.setAll 0 x (lanes.flatMap fun l => xMatrix wide d l (r l) (c l) (m l))) (xKey k l i j)
      = Sparse.get 0 x (xKey k l i j) := by
  refine Sparse.get_setAll_of_not_mem _ _ _ _ fun e he heq => ?_
  obtain ⟨l', hl', he⟩ := List.mem_flatMap.mp he
  obtain ⟨i', hi', j', hj', rfl | ⟨hwide, rfl⟩⟩ := mem_xMatrix.mp he
  · obtain ⟨rfl, rfl, -, -⟩ := xKey_inj (hlanes _ hl') hl hi' hi hj' hj heq
    exact h.elim (fun h => h.1 rfl) fun h => h hl'
  · obtain ⟨rfl, rfl, -, -⟩ := xKey_inj (hlanes _ hl') hl hi' hi hj' hj heq
    exact h.elim (fun h => h.2 ⟨hwide, rfl⟩) fun h => h hl'

variable (sh : Sparse (Nat × Nat))

theorem get_xShape (hlanes : ∀ l ∈ lanes, l < 96) {l : Nat} (hl : l ∈ lanes) :
    Sparse.get (1, 1) (Sparse.setAll (1, 1) sh (lanes.flatMap fun l => xShape wide d l (r l) (c l))) (d * 96 + l)
      = (r l, c l) := by
  refine Sparse.get_setAll_of_agree _ _ _ _ _ (fun e he heq => ?_)
    ⟨_, List.mem_flatMap.mpr ⟨l, hl, mem_xShape.mpr (.inl rfl)⟩, rfl⟩
  obtain ⟨l', hl', he⟩ := List.mem_flatMap.mp he
  have hlt := hlanes _ hl
  have hlt' := hlanes _ hl'
  rcases mem_xShape.mp he with rfl | ⟨-, rfl⟩
  · obtain rfl : l' = l := by simp only at heq; omega
    rfl
  · simp only at heq
    omega

theorem get_xShape_other (hlanes : ∀ l ∈ lanes, l < 96) {k l : Nat} (hl : l < 96)
    (h : (k ≠ d ∧ ¬(wide = true ∧ k = d + 1)) ∨ l ∉ lanes) :
    Sparse.get (1, 1) (Sparse.setAll (1, 1) sh (lanes.flatMap fun l => xShape wide d l (r l) (c l))) (k * 96 + l)
      = Sparse.get (1, 1) sh (k * 96 + l) := by
  refine Sparse.get_setAll_of_not_mem _ _ _ _ fun e he heq => ?_
  obtain ⟨l', hl', he⟩ := List.mem_flatMap.mp he
  have hlt' := hlanes _ hl'
  rcases mem_xShape.mp he with rfl | ⟨hwide, rfl⟩
  · obtain ⟨rfl, rfl⟩ : k = d ∧ l = l' := by simp only at heq; omega
    exact h.elim (fun h => h.1 rfl) fun h => h hl'
  · obtain ⟨rfl, rfl⟩ : k = d + 1 ∧ l = l' := by simp only at heq; omega
    exact h.elim (fun h => h.2 ⟨hwide, rfl⟩) fun h => h hl'

end

/-! ### Results, or only SHAPE -/

/-- A register result, or SHAPE alone when the operands do not conform. -/
def smuOr (f : Bool) (d l : Nat) : Option (Nat × Nat × List Nat × BitVec 6) → SmuOut
  | none => smuShape
  | some (r, c, m, fl) => smuMat f d l r c m fl 0

theorem State.smu3_eq (s : State) (y f : Bool) (d a b : Fld)
    (k : Group → Nat → Nat × Nat → Nat × Nat → Option (Nat × Nat × List Nat × BitVec 6)) : s.smu3 y f d a b k
      = s.smu y (fun g => g.xIn f d.toNat && g.xIn f a.toNat && g.xIn f b.toNat) fun g l =>
          smuOr f d.toNat l (k g l (g.shapeOf a.toNat l) (g.shapeOf b.toNat l)) := by
  unfold State.smu3
  congr 1

theorem smuOr_ite (f : Bool) (d l : Nat) (p : Prop) [Decidable p] (r c : Nat) (m : List Nat) (fl : BitVec 6) :
    smuOr f d l (if p then none else some (r, c, m, fl)) = if p then { ev := 1 } else smuMat f d l r c m fl 0 :=
  apply_ite (smuOr f d l) p _ _

theorem State.smu_next {s : State} {g : Group} (y : Bool) {ok : Group → Bool} (f : Group → Nat → SmuOut)
    (hg : s.group s.cursor.group = some g) (hok : ok g = true) : s.smu y ok f
      = .next (Claims.after s y (g.smuApply s.cursor.slices ((g.active s.cursor.slices).map fun l => (l, f g l)))) := by
  rw [State.smu, State.plain_next s g y _ _ hg hok]
  rfl

/-- The group after XFLAG: the unit's flags are read into v_d and their low bits cleared, both pending. -/
def Group.flagsRead (g : Group) (sl : List Nat) (d : Nat) : Group :=
  { g with
    smuFlags := Sparse.setAll 0 g.smuFlags ((g.active sl).map fun l => (l, Sparse.get 0 g.smuFlags l &&& 0xE0))
    pending := g.pending ++ [{
      slices := sl
      vecs := (g.active sl).map fun l => (g.vkey d l, (Sparse.get 0 g.smuFlags l).setWidth 32)
      xfl := (g.active sl).map fun l => (l, Sparse.get 0 g.smuFlags l &&& 0xE0) }] }

/-- An element of a matrix result, in 32 or 64 bits. -/
theorem Group.xe_eq_matElem {g : Group} {f : Bool} {d : Nat} {lanes : List Nat} {x : Sparse W32} {r c : Nat → Nat}
    {m : Nat → List Nat} (hx : g.x = Sparse.setAll 0 x (lanes.flatMap fun l => xMatrix f d l (r l) (c l) (m l)))
    (hlanes : ∀ l ∈ lanes, l < 96) {l i j : Nat} (hl : l ∈ lanes) (hi : i < 6) (hj : j < 6) :
    g.xe f d l i j = matElem (m l) (r l) (c l) i j % 2 ^ (if f then 64 else 32) := by
  cases f with
  | false =>
    simp only [Group.xe, hx, get_xMatrix_low _ _ _ _ hlanes hl hi hj, BitVec.toNat_ofNat, Bool.false_eq_true, if_false]
  | true =>
    simp only [Group.xe, hx, get_xMatrix_low _ _ _ _ hlanes hl hi hj, get_xMatrix_high _ _ _ _ hlanes hl hi hj,
      BitVec.toNat_ofNat, if_true]
    omega

end Sys2Proof.Machine

namespace Sys2Proof.Claims

open Sys2Proof Sys2Proof.Machine

theorem nanOf_ite_fst (t : Fmt) (x : Machine.Num) (v : Nat) :
    (if x.isNan then t.nanOf [x] else (v, 0)).1 = if x.isNan then t.nan else v := by
  rw [apply_ite Prod.fst]
  rfl

theorem nanOf_ite_snd (t : Fmt) (x : Machine.Num) (v : Nat) :
    (if x.isNan then t.nanOf [x] else (v, 0)).2 = flIf x.isSnan flInvalid := by
  cases x with
  | nan sg => simp [Num.isNan, Fmt.nanOf]
  | inf n => rfl
  | fin n m e => rfl

theorem exec_smallMatrixForms (y f : Bool) (d a b : Fld) (i j : BitVec 3) (s : State) :
    ∀ e ∈ smallMatrixForms y f d a b i j, exec e.1 s = s.smu y e.2.1 e.2.2 := by
  simp only [smallMatrixForms, List.forall_mem_append, List.forall_mem_cons, List.not_mem_nil, false_implies, implies_true,
    and_true]
  refine ⟨⟨⟨exec_xzero y d s, exec_xidn y d s, exec_xget y f d a i j s, exec_xput y f d a i j s, exec_xmov y f d a s,
    exec_xtrn y f d a s⟩, ?xadd, ?xsub, exec_xscl y f d a b s, ?xmul, ?xmad, ?xmult, ?xmv⟩, exec_xchol y f d a s,
    exec_xinv y f d a s, ?xdet⟩
  case xadd => simp only [exec_xadd, execXadd, State.xElementwise, State.smu3_eq, smuOr_ite, matOf]
  case xsub => simp only [exec_xsub, execXsub, State.xElementwise, State.smu3_eq, smuOr_ite, matOf]
  case xmul => simp only [exec_xmul, execXmul, State.smu3_eq, smuOr_ite, matOf]
  case xmad => simp only [exec_xmad, execXmad, State.smu3_eq, smuOr_ite, matOf]
  case xmult => simp only [exec_xmult, execXmult, State.smu3_eq, smuOr_ite, matOf]
  case xmv => simp only [exec_xmv, execXmv, State.smu3_eq, smuOr_ite, matOf]
  case xdet =>
    rw [exec_xdet, execXdet]
    congr 1
    funext g l
    simp only [nanOf_ite_fst, nanOf_ite_snd]
    rfl

/-- Settles O18: the forms are `smu` with the functions of the list; a matrix result is `get_xMatrix_low` and its kin. -/
theorem smallMatrixForms_hold : Obligations.SmallMatrixForms := by
  unfold Obligations.SmallMatrixForms
  refine ⟨?forms, ?results, ?others⟩
  case forms =>
    rintro s g y f d a b i j ⟨hg, -⟩
    refine ⟨fun e he hok => ?_, fun hd ha hp => ?_, fun hd ha hb => ?_⟩
    · rw [exec_smallMatrixForms y f d a b i j s e he]
      exact State.smu_next y _ hg hok
    · rw [exec_xlup, execXlup]
      exact State.smu_next y _ hg (by rw [hd, ha, hp]; rfl)
    · rw [exec_xsolv, execXsolv]
      exact State.smu_next y _ hg (by rw [hd, ha, hb]; rfl)
  case results =>
    intro g sl lanes f d r c m fl ev _ hlanes g'
    have hx : g'.x = Sparse.setAll 0 g.x (lanes.flatMap fun l => xMatrix f d l (r l) (c l) (m l)) := by
      show Sparse.setAll 0 g.x ((lanes.map _).flatMap _) = _
      rw [List.flatMap_map]
      rfl
    have hshape : g'.shape = Sparse.setAll (1, 1) g.shape (lanes.flatMap fun l => xShape f d l (r l) (c l)) := by
      show Sparse.setAll (1, 1) g.shape ((lanes.map _).flatMap _) = _
      rw [List.flatMap_map]
      rfl
    have hvecs : (g.smuPending sl (lanes.map fun l => (l, smuMat f d l (r l) (c l) (m l) (fl l) (ev l)))).vecs = [] := by
      simp [Group.smuPending, smuMat]
    have hflags : (g.smuPending sl (lanes.map fun l => (l, smuMat f d l (r l) (c l) (m l) (fl l) (ev l)))).flags
        = flAll (lanes.map fl) := by
      rw [Group.smuPending, List.map_map]
      rfl
    refine ⟨fun l hl => ⟨?_, fun i hi j hj => ?_⟩, fun k l i j hl hi hj h => ⟨?_, ?_⟩, fun l hl => ?_,
      _, Group.smuApply_eq _ _ _, hvecs, rfl, rfl, hflags⟩
    · rw [Group.shapeOf, hshape]
      exact get_xShape r c _ hlanes hl
    · rw [Group.xe_eq_matElem hx hlanes hl hi hj, matElem]
      split <;> simp
    · simp only [Group.xe, hx, get_xMatrix_other _ _ _ _ hlanes hl hi hj h, Bool.false_eq_true, if_false]
    · rw [Group.shapeOf, hshape]
      exact get_xShape_other r c _ hlanes hl h
    · rw [Group.smuFlags_smuApply g sl (fun l => smuMat f d l (r l) (c l) (m l) (fl l) (ev l)) hl, SmuOut.events_eq]
      exact (BitVec.or_assoc _ _ _).symm
  case others =>
    rintro s g y d r c ⟨hg, -⟩
    refine ⟨fun hd => ⟨{ g with shape := Sparse.setAll (1, 1) g.shape ((g.active s.cursor.slices).flatMap fun l =>
      xShape false d.toNat l r.toNat c.toNat) }, ?_, fun k => ?_, rfl⟩, fun hd => ⟨g.flagsRead s.cursor.slices d.toNat, _, ?_,
      rfl, fun l => ?_, rfl⟩⟩
    · rw [exec_xshp, execXshp, State.plain_next s g y _ _ hg hd]
      rfl
    · split
      · next h =>
        obtain ⟨l, hl, rfl⟩ := h
        refine Sparse.get_setAll_of_agree _ _ _ _ _ (fun e he heq => ?_)
          ⟨_, List.mem_flatMap.mpr ⟨l, hl, List.mem_singleton.mpr rfl⟩, rfl⟩
        obtain ⟨l', -, he⟩ := List.mem_flatMap.mp he
        exact List.mem_singleton.mp he ▸ rfl
      · next h =>
        refine Sparse.get_setAll_of_not_mem _ _ _ _ fun e he heq => h ?_
        obtain ⟨l', hl', he⟩ := List.mem_flatMap.mp he
        exact ⟨l', hl', heq ▸ List.mem_singleton.mp he ▸ rfl⟩
    · rw [exec_xflag, execXflag, State.plain_next s g y _ _ hg hd]
      rfl
    · show Sparse.get 0 (Sparse.setAll 0 g.smuFlags _) l = _
      split
      · next h =>
        exact Sparse.get_setAll_of_mem 0 (fun l => Sparse.get 0 g.smuFlags l &&& 0xE0) _ _ l (by simp)
          ⟨_, List.mem_map.mpr ⟨l, h, rfl⟩, rfl⟩
      · next h =>
        refine Sparse.get_setAll_of_not_mem 0 _ _ l fun e he heq => h ?_
        obtain ⟨m, hm, rfl⟩ := List.mem_map.mp he
        exact heq ▸ hm

end Sys2Proof.Claims

/-! PROOFS. A scalar load keeps the serial of its issue: the obligation O19 fails. -/

namespace Sys2Proof.Claims

open Sys2Proof Sys2Proof.Machine

/-- A group whose gang loads the word at offset 8 of object 5, with issue number 5. -/
def gSerial : Machine.Group :=
  { ctx := 1, width := 4, extent := 128, state := .resident, block := 1, s := [(20, 8), (125, 15)], lastIssue := 5
    c := [(0, { object := 5, length := 0x1000, rights := 1, tag := true })] }

/-- A machine with that group, where object 5 is one page, mapped to frame 5 and readable by everyone. -/
def sSerial : State :=
  { State.reset with
    cursor := { core := 0, group := 1, slices := [0], pc := 0x40 }
    pkg := { running := 1 }, fw := { state := 1 }, groups := [(1, some gSerial)]
    mem := { objects := [(5, { root := 0x8000000000000001, sizeKey := 0xFFFF000000, flags := 0x100000001 })]
             tables := [(8192, 0x8000000000000002), (16384, 0x8000000000000003), (24576, 0x8000000000000005)] } }

/-- The serials of the pending results of the group with handle 1 after a step. -/
def serialsAfter (r : Res) : Option (List Nat) :=
  match r with
  | .next t => (t.group 1).map fun g => g.pending.map Pending.serial
  | _ => none

/-- The model numbers the load's result with its issue. -/
theorem serialsAfter_scalarLoad : serialsAfter (exec (.sldN false 2 6 0 20) sSerial) = some [5] := by decide

theorem accepted_scalarLoad :
    ∃ m, (Instr.sldN false 2 6 0 20, m) ∈ scalarForms sSerial false 2 0 6 0 20 ∧ m.op.kind = .loadScalar false
      ∧ m.op.serial = 0 ∧ Accepted sSerial gSerial gSerial m := by
  refine ⟨_, .tail _ (.head _), rfl, rfl, ?_, ?_, ?_, ?_, rfl⟩ <;> decide

theorem serialsAfter_next (t : State) (g : Group) (sl : List Nat) (pc : W64) (y : Bool) :
    serialsAfter (.next (t.putGroup 1 (g.goTo sl pc y))) = some (g.pending.map Pending.serial) := by
  rw [serialsAfter, State.group_putGroup_self, Option.map_some, Group.settle_eq, Group.goTo_eq]

/-- A group without pending results gets the one that a load of a scalar register leaves. -/
theorem serials_of_resolved {g2 g3 : Group} {o : MemOp} {sext : Bool} (h : Resolved g2 g3 o) (hk : o.kind = .loadScalar sext)
    (hp : g2.pending = []) : g3.pending.map Pending.serial = [o.serial] := by
  have hpend : g3.pending = (g2.addInOrder (o.result g2 o.lanes)).pending := by
    unfold Resolved at h
    simp only [hk] at h
    exact h.2.2.2.2
  have hserial : (o.result g2 o.lanes).serial = o.serial := by
    unfold MemOp.result
    simp only [hk]
  rw [hpend, ← hserial, Group.addInOrder, hp]
  rfl

/-- What the statement would have a scalar load leave pending: a result with serial 0. -/
theorem serials_of_memoryFormsComplete (h : Obligations.MemoryFormsComplete) {s : State} {g : Group} {m : MemForm}
    (hi : Issues s g) (hmem : (Instr.sldN false 2 6 0 20, m) ∈ scalarForms s false 2 0 6 0 20)
    (hkind : m.op.kind = .loadScalar false) (hserial : m.op.serial = 0) (hacc : Accepted s g g m) (hp : g.pending = [])
    (hgroup : s.cursor.group = 1) : serialsAfter (exec (.sldN false 2 6 0 20) s) = some [0] := by
  have hforms := List.mem_append_left (matrixForms s false false 6 0 20)
    (List.mem_append_right (vecForms s false 2 0 6 0 20) hmem)
  obtain ⟨g3, hres, hexec⟩ := h.1 s g g false false 2 0 6 0 20 hi _ hforms hacc
  rw [hexec, hgroup, serialsAfter_next, serials_of_resolved hres hkind hp]
  exact congrArg (fun n => some [n]) hserial

/-- Refutes O19: the result of a scalar load carries the serial of its issue, here 5; the statement's has serial 0. -/
theorem not_memoryFormsComplete : ¬ Obligations.MemoryFormsComplete := by
  intro h
  obtain ⟨m, hmem, hkind, hserial, hacc⟩ := accepted_scalarLoad
  have hzero := serials_of_memoryFormsComplete h ⟨rfl, by decide, by decide⟩ hmem hkind hserial hacc rfl rfl
  rw [serialsAfter_scalarLoad] at hzero
  exact absurd hzero (by decide)

end Sys2Proof.Claims

/-! PROOFS. Memory instructions whose accesses are all accepted. -/

namespace Sys2Proof.Machine

/-! ### Statuses -/

theorem MemOp.statusOf_of_accepted {o : MemOp} (h : ∀ p ∈ o.pieces, p.status = 0) (l : Nat) : o.statusOf l = 0 := by
  have hzero : ∀ st ∈ (o.of l).map Piece.status, st = 0 := by
    intro st hst
    obtain ⟨p, hp, rfl⟩ := List.mem_map.mp hst
    exact h p (List.mem_of_mem_filter hp)
  have htraps : ((o.of l).map Piece.status).filter statusTraps = [] := by
    rw [List.filter_eq_nil_iff]
    intro st hst
    rw [hzero st hst]
    decide
  have hnot (b : BitVec 8) (hb : b ≠ 0) : ((o.of l).map Piece.status).contains b = false := by
    rw [← Bool.not_eq_true, List.contains_iff_mem]
    exact fun hmem => hb (hzero b hmem)
  unfold MemOp.statusOf
  simp only [htraps, hnot 3 (by decide), hnot 2 (by decide), Bool.false_eq_true, if_false]

/-! ### The group after accepted accesses -/

/-- The group whose memory instruction has been accepted in every lane, before its result is added. -/
def Group.acceptedIn (g : Group) (o : MemOp) : Group :=
  let u : Group := ({ g.endRefusal o.slices with x := Sparse.setAll 0 g.x (o.matrixWrites g o.lanes) } : Group).setUnfinished
    o.slices o.pc []
  if o.kind = .gatherEntry then { u with entries := u.entries ++ o.lanes.map fun l => (l, capOf (o.valueOf l)) } else u

/-- That group once the records of a repeat are gone. -/
def Group.settledBy (g : Group) (o : MemOp) : Group := (g.acceptedIn o).repeatPassed [o.pc] [true, false]

theorem Group.endRefusal_eq (g : Group) (sl : List Nat) : g.endRefusal sl = { g with
    refusedOn := (g.endRefusal sl).refusedOn, refusedFor := (g.endRefusal sl).refusedFor } := by
  unfold Group.endRefusal
  split <;> rfl

theorem Group.setUnfinished_eq (g : Group) (sl : List Nat) (pc : W64) (lanes : List Nat) :
    g.setUnfinished sl pc lanes = { g with slices := (g.setUnfinished sl pc lanes).slices } := Group.mapSlices_eq _ _ _

/-- The entries that an instruction leaves: of the first phase of a gather, with those that it read. -/
def Group.entriesAfter (g : Group) (o : MemOp) : List (Nat × Cap) :=
  if o.kind = .gatherEntry then g.entries ++ o.lanes.map fun l => (l, capOf (o.valueOf l)) else g.entries

theorem Group.acceptedIn_eq (g : Group) (o : MemOp) : g.acceptedIn o = { g.endRefusal o.slices with
    x := Sparse.setAll 0 g.x (o.matrixWrites g o.lanes), slices := (g.acceptedIn o).slices, entries := g.entriesAfter o } := by
  unfold Group.acceptedIn Group.entriesAfter
  simp only
  rw [Group.setUnfinished_eq, Group.endRefusal_eq]
  split <;> rfl

theorem Group.settledBy_eq (g : Group) (o : MemOp) : g.settledBy o = { (g.endRefusal o.slices).repeatPassed [o.pc] [true, false]
    with x := Sparse.setAll 0 g.x (o.matrixWrites g o.lanes), slices := (g.settledBy o).slices, entries := g.entriesAfter o } := by
  unfold Group.settledBy
  rw [Group.acceptedIn_eq]
  rfl

theorem laneSet_nil (i : Nat) : laneSet i [] = 0 := by
  simp [laneSet]

theorem Group.slice_settledBy (g : Group) (o : MemOp) (i : Nat) (hl : o.slices.Nodup) : (g.settledBy o).slice i =
    if i ∈ o.slices then (if (g.slice i).replay = o.pc then { g.slice i with unfinished := 0 } else g.slice i)
    else g.slice i := by
  let u : Group := { g.endRefusal o.slices with x := Sparse.setAll 0 g.x (o.matrixWrites g o.lanes) }
  have hu : u.slices = g.slices := by
    show (g.endRefusal o.slices).slices = g.slices
    rw [Group.endRefusal_eq]
  have hslices : (g.settledBy o).slices = (u.setUnfinished o.slices o.pc []).slices := by
    unfold Group.settledBy Group.acceptedIn Group.repeatPassed
    simp only
    split <;> rfl
  have hslice : u.slice i = g.slice i := Group.slice_eq_of_slices hu i
  rw [Group.slice_eq_of_slices hslices, Group.setUnfinished, Group.slice_mapSlices _ _ _ _ hl, hslice]
  refine if_congr Iff.rfl ?_ rfl
  by_cases hr : (g.slice i).replay = o.pc
  · rw [if_pos hr, if_neg (fun h => h.2 hr), laneSet_nil, ← hr]
  · rw [if_neg hr, if_pos ⟨rfl, hr⟩]

theorem MemOp.result_congr (o : MemOp) {g g' : Group} (h : g.prot = g'.prot) (l : List Nat) : o.result g l = o.result g' l := by
  unfold MemOp.result
  rw [h]

theorem State.repeatPassed_congr (s : State) {g g' : Group} (pcs : List W64) (kinds : List Bool)
    (hrep : g.repeating = g'.repeating) (hcore : g.core = g'.core) (htask : g.task = g'.task) (hgrid : g.grid = g'.grid)
    (hctx : g.ctx = g'.ctx) (hgid : g.gid = g'.gid) : s.repeatPassed g pcs kinds = s.repeatPassed g' pcs kinds := by
  unfold State.repeatPassed
  rw [hrep, hcore, htask, hgrid, hctx, hgid]

theorem State.settleMem_of_accepted {s : State} {h : Nat} {g : Group} {o : MemOp} (noWake : Bool)
    (hg : s.group h = some g) (hp : ∀ p ∈ o.pieces, p.status = 0) : s.settleMem h o noWake
      = (Claims.settled s g o.pc, some ((g.settledBy o).addPendingIf o (o.result g o.lanes))) := by
  have hstatus := MemOp.statusOf_of_accepted hp
  have haccepted : (o.lanes.filter fun l => o.statusOf l == 0) = o.lanes := by
    rw [List.filter_eq_self]
    simp [hstatus]
  have hrest : (o.lanes.filter fun l => o.statusOf l != 0) = [] := by
    rw [List.filter_eq_nil_iff]
    simp [hstatus]
  have hfaulted : (o.pieces.filter fun p => p.status == 2) = [] := by
    rw [List.filter_eq_nil_iff]
    intro p hmem
    rw [hp p hmem]
    decide
  have hsettled : s.repeatPassed (g.acceptedIn o) [o.pc] [true, false] = Claims.settled s g o.pc := by
    rw [Group.acceptedIn_eq, Group.endRefusal_eq]
    exact State.repeatPassed_congr s _ _ rfl rfl rfl rfl rfl rfl
  have hresult : o.result (g.acceptedIn o) o.lanes = o.result g o.lanes :=
    MemOp.result_congr o (by rw [Group.acceptedIn_eq, Group.endRefusal_eq]) _
  rw [Group.settledBy, ← hsettled, ← hresult]
  unfold State.settleMem
  simp only [hg, haccepted, hrest, hfaulted, List.filter_nil, List.map_nil, ne_eq, not_true_eq_false, or_self, and_false, if_false]
  rfl

/-! ### Runs whose pieces are all accepted -/

/-- The group after an accepted instruction, with its result. -/
def Group.completed (g : Group) (o : MemOp) : Group := (g.settledBy o).addPendingIf o (o.result g o.lanes)

theorem State.afterAccess_of_accepted {s : State} {h : Nat} {g : Group} {o : MemOp} (noWake : Bool)
    (k : MemOp → State → Group → Res) (hg : s.group h = some g) (hp : ∀ p ∈ o.pieces, p.status = 0) :
    s.afterAccess h o noWake k = k o (Claims.settled s g o.pc) (g.completed o) := by
  have hnone : (o.pieces.any fun p => p.status == 0xFF) = false := by
    rw [List.any_eq_false]
    intro p hmem
    rw [hp p hmem]
    decide
  rw [State.afterAccess, hnone, State.settleMem_of_accepted noWake hg hp]
  rfl

/-- The pieces that an instruction sends for some lanes. -/
def Group.sent (g : Group) (o : MemOp) (as : List LaneReq) : List Piece :=
  if o.kind = .store then (survivors (as.flatMap splitLane)).filter fun p => (g.memLanes o.slices o.pc).contains p.lane
  else as.flatMap splitLane

theorem State.runLanes_of_accepted {s : State} {h : Nat} {g g2 : Group} {o : MemOp} {log : Nat} {scope : BitVec 2}
    {release : Bool} {as : List LaneReq} (k : MemOp → State → Group → Res) (r : State × List Piece × Bool)
    (hr : s.access h g o.kind log scope release (g.sent o as) = r) (hp : ∀ p ∈ r.2.1, p.status = 0)
    (hg : r.1.group h = some g2) : s.runLanes h g o log scope release as k
      = k { o with pieces := r.2.1 } (Claims.settled r.1 g2 o.pc) (g2.completed { o with pieces := r.2.1 }) := by
  subst hr
  exact State.afterAccess_of_accepted (o := { o with pieces := _ }) _ k hg hp

/-- A form that is checked and accepted finishes; `serial` is the number of its issue. -/
theorem State.checkRun_of_accepted {s : State} {g g2 : Group} {m : Claims.MemForm} (serial : Nat)
    (k : MemOp → State → Group → Res) (h : Claims.Accepted s g g2 m) :
    s.checkRun g { m.op with serial := serial } m.scalar m.align m.rights m.log m.scope m.release (m.lanes g) k
      = k { Claims.answered s g m with serial := serial } (Claims.settled (Claims.accessed s g m).1 g2 m.op.pc)
          (g2.completed { Claims.answered s g m with serial := serial }) := by
  obtain ⟨-, hcheck, hmism, hp, hg⟩ := h
  have hrun := State.runLanes_of_accepted (s := s) (g := g) (o := { m.op with serial := serial }) (log := m.log)
    (scope := m.scope) (release := m.release) (as := Claims.performed g m) k (Claims.accessed s g m) rfl hp hg
  unfold State.checkRun
  simp only [hcheck]
  unfold Claims.performed at hrun
  split
  · next hw =>
    rw [hmism hw]
    rw [if_pos hw] at hrun
    exact hrun
  · next hw =>
    rw [if_neg hw] at hrun
    exact hrun

end Sys2Proof.Machine

/-! PROOFS. WAIT: the obligation O20. -/

namespace Sys2Proof.Machine

/-- An instruction that leaves no register result and no entry: the group is settled. -/
theorem settled_settledBy (g : Group) (o : MemOp) (hl : o.slices.Nodup) (hx : o.matrixWrites g o.lanes = [])
    (hk : o.kind ≠ .gatherEntry) : Claims.Settled g (g.settledBy o) o.slices o.pc := by
  refine ⟨?_, fun i hi => ?_, fun i hi => ?_⟩
  · rw [Group.settledBy_eq, hx, Group.entriesAfter, if_neg hk, Group.endRefusal_eq]
    rfl
  · rw [Group.slice_settledBy g o i hl, if_pos hi]
  · rw [Group.slice_settledBy g o i hl, if_neg hi]

/-- The group whose gang has parked at a WAIT with its condition. -/
def Group.atWait (g : Group) (sl : List Nat) (deadline : W64) (r : WaitRec) : Group :=
  ({ g with waits := (g.waits.filter fun x => !x.slices.any fun i => sl.contains i) ++ [r] } : Group).mapSlices
    (fun _ t => t.parkAt .wait 0 deadline) sl

theorem Group.atWait_eq (g : Group) (sl : List Nat) (deadline : W64) (r : WaitRec) : g.atWait sl deadline r = { g with
    waits := (g.waits.filter fun x => !x.slices.any fun i => sl.contains i) ++ [r]
    slices := (g.atWait sl deadline r).slices } := Group.mapSlices_eq _ _ _

theorem Group.slice_atWait (g : Group) {sl : List Nat} (deadline : W64) (r : WaitRec) (i : Nat) (hl : sl.Nodup) :
    (g.atWait sl deadline r).slice i = if i ∈ sl then
      { g.slice i with state := .parked, park := .wait, arg := 0, deadline := deadline } else g.slice i :=
  Group.slice_mapSlices _ _ _ _ hl

end Sys2Proof.Machine

namespace Sys2Proof.Claims

open Sys2Proof Sys2Proof.Machine

/-- The read of a WAIT, with the number of its issue. -/
def waitOp (s : State) (g : Group) (a b : Fld) : MemOp :=
  { answered s g (waitForm s g a b) with serial := ((s.group s.cursor.group).map Group.lastIssue).getD 0 }

theorem accessed_waitForm (s : State) (g : Group) (a b : Fld) : accessed s g (waitForm s g a b)
    = s.access s.cursor.group g .waitRead 0 (wireScope ((g.rs a.toNat).extractLsb' 12 2)) false
        (((waitForm s g a b).lanes g).flatMap splitLane) := by
  have hprot : (g.prot && (waitForm s g a b).op.kind.writes && !(waitForm s g a b).scalar) = false := by
    show (g.prot && false && _) = false
    rw [Bool.and_false, Bool.false_and]
  unfold accessed issued performed
  rw [hprot]
  rfl

theorem runLanes_waitForm {s : State} {g g2 : Group} {a b : Fld} (h : Accepted s g g2 (waitForm s g a b)) :
    s.runLanes s.cursor.group g { (waitForm s g a b).op with serial := ((s.group s.cursor.group).map Group.lastIssue).getD 0 }
        0 (wireScope ((g.rs a.toNat).extractLsb' 12 2)) false ((waitForm s g a b).lanes g) (State.waitRead s.cursor.group)
      = State.waitRead s.cursor.group (waitOp s g a b)
      (settled (accessed s g (waitForm s g a b)).1 g2 s.cursor.pc) (g2.completed (waitOp s g a b)) := by
  obtain ⟨-, -, -, hpieces, hg2⟩ := h
  rw [accessed_waitForm] at hpieces hg2 ⊢
  rw [waitOp, answered, accessed_waitForm]
  exact State.runLanes_of_accepted _ _ rfl hpieces hg2

theorem execWait_of_accepted {s : State} {g g2 : Group} (y : Bool) {a b : Fld} (hg : s.group s.cursor.group = some g)
    (hp : g.hasPending s.cursor.slices = false) (h : Accepted s g g2 (waitForm s g a b))
    (hcmp : bits (g.rs a.toNat) 18 16 ≠ 7) (hwidth : bits (g.rs a.toNat) 15 14 < 2) (hzero : bits (g.rs a.toNat) 11 0 = 0) :
    execWait y a b s = State.waitRead s.cursor.group (waitOp s g a b)
      (settled (accessed s g (waitForm s g a b)).1 g2 s.cursor.pc) (g2.completed (waitOp s g a b)) := by
  have hcheck : s.checkFail g .waitRead (if bits (g.rs a.toNat) 15 14 = 1 then 8 else 4) rR ((waitForm s g a b).lanes g) = none :=
    h.2.1
  have hlegal : ¬(bits (g.rs a.toNat) 18 16 = 7 ∨ 2 ≤ bits (g.rs a.toNat) 15 14 ∨ bits (g.rs a.toNat) 11 0 ≠ 0) := by omega
  rw [← runLanes_waitForm h, execWait, State.issue_of_group _ hg, State.switchFirst_of_not_pending _ hp]
  unfold waitForm at hcheck
  simp only [hcheck, hlegal, if_false]
  rfl

theorem ofNat_toNat_64 (x : W64) : BitVec.ofNat 64 x.toNat = x := by
  rw [BitVec.ofNat_toNat, BitVec.setWidth_eq]

/-- The condition that a WAIT leaves with its gang. -/
def waitRecOf (s : State) (g : Group) (a b : Fld) : WaitRec :=
  let o := waitOp s g a b
  { slices := s.cursor.slices, cap := capOf (o.args.getD 3 0), offset := bits (g.rs a.toNat) 63 24, size := o.size
    compare := bits (g.rs a.toNat) 18 16, operand := g.rs (a.toNat + 1), dest := a.toNat + 1, grant := capOf g.grant.toNat
    scope := BitVec.ofNat 2 (o.args.getD 5 0), logged := o.pieces.any fun p => p.status == 1 }

/-- What a WAIT does with its word. -/
theorem waitRead_waitOp (s t : State) (g g3 : Group) (a b : Fld) :
    State.waitRead s.cursor.group (waitOp s g a b) t g3 =
      let o := waitOp s g a b
      let w := o.valueOf (o.lanes.headD 0) % 256 ^ o.size
      if waitHolds o.size (bits (g.rs a.toNat) 18 16) w (g.rs (a.toNat + 1)).toNat then
        .next (t.putGroup s.cursor.group
          ((g3.writeS s.cursor.slices (a.toNat + 1) (BitVec.ofNat 64 w)).goTo s.cursor.slices (s.cursor.pc + 4) false))
      else .next (t.putGroup s.cursor.group (g3.atWait s.cursor.slices
        (if g.rs b.toNat = 0 then 0 else t.tickOf (dieOf g3.core) + g.rs b.toNat) (waitRecOf s g a b))) := by
  have harg : BitVec.ofNat 64 ((waitOp s g a b).args.getD 2 0) = g.rs b.toNat := ofNat_toNat_64 _
  have hoperand : BitVec.ofNat 64 ((waitOp s g a b).args.getD 1 0) = g.rs (a.toNat + 1) := ofNat_toNat_64 _
  unfold State.waitRead
  simp only [harg, hoperand]
  rfl

/-- Settles O20: the accepted read reaches `State.waitRead` with the settled group. -/
theorem waitReadsItsWord : Obligations.WaitReadsItsWord := by
  unfold Obligations.WaitReadsItsWord
  rintro s g g2 y a b ⟨hg, hl, -⟩ hp m v hacc hcmp hwidth hzero t w
  have hsettled := settled_settledBy g2 (waitOp s g a b) hl rfl (by rintro ⟨⟩)
  refine ⟨g2.settledBy (waitOp s g a b), hsettled, ?_⟩
  have hexec : exec (.wait y a b) s = State.waitRead s.cursor.group (waitOp s g a b) t (g2.settledBy (waitOp s g a b)) := by
    rw [exec_wait]
    exact execWait_of_accepted y hg hp hacc hcmp hwidth hzero
  rw [hexec, waitRead_waitOp, ite_prop_iff_and]
  refine ⟨fun hh => if_pos hh, fun hh => ?_⟩
  exact ⟨waitRecOf s g a b, _, if_neg hh, Group.atWait_eq _ _ _ _, rfl, rfl, rfl, rfl, rfl, rfl, rfl, rfl,
    fun i => Group.slice_atWait _ _ _ i hl⟩

end Sys2Proof.Claims

/-! PROOFS. Gathers: the obligation O21. -/

namespace Sys2Proof.Claims

open Sys2Proof Sys2Proof.Machine

/-- The table entries that a gang's gather has read. -/
def readEntries (s : State) (g : Group) : List (Nat × Cap) := g.entries.filter fun e => s.cursor.slices.contains (e.1 / 4)

/-- The first phase of a gather: the reads of its table entries. -/
def gatherEntryForm (s : State) (y : Bool) (a b : Fld) : MemForm :=
  { op := { slices := s.cursor.slices, pc := s.cursor.pc, y := y, kind := .gatherEntry, size := 16, dst := 0, args := []
            pieces := [] }
    lanes := fun g => (g.active s.cursor.slices).map fun l =>
      { lane := l, cap := g.rc a.toNat, off := 16 * (g.rv (b.toNat + 1) l).toNat, size := 16 }
    align := 16
    rights := rR ||| rLC
    log := 0 }

/-- The second phase of a gather: the reads of its data. -/
def gatherDataForm (s : State) (g : Group) (y : Bool) (w : BitVec 2) (d b : Fld) : MemForm :=
  { op := { slices := s.cursor.slices, pc := s.cursor.pc, y := y, kind := .gatherData, size := 2 ^ w.toNat
            dst := g.winb + d.toNat, args := [], pieces := [] }
    lanes := fun g' => (sortKeys ((readEntries s g).map Prod.fst)).map fun l =>
      { lane := l, cap := (((readEntries s g).find? fun e => e.1 == l).map Prod.snd).getD {}
        off := (g'.rv b.toNat l).toNat, size := 2 ^ w.toNat }
    rights := 1
    log := 1 }

section
variable {s : State} {g g2 : Group} (y : Bool) (w : BitVec 2) (d a b : Fld)

theorem noReplay_of (h : ∀ i ∈ s.cursor.slices, (g.slice i).replay ≠ s.cursor.pc) :
    g.unfinishedOf (s.cursor.slices.filter fun i => (g.slice i).replay == s.cursor.pc) = [] := by
  have hnone : (s.cursor.slices.filter fun i => (g.slice i).replay == s.cursor.pc) = [] := by
    rw [List.filter_eq_nil_iff]
    intro i hi
    simp [h i hi]
  rw [hnone]
  rfl

theorem memLanes_of_noReplay (h : ∀ i ∈ s.cursor.slices, (g.slice i).replay ≠ s.cursor.pc) :
    g.memLanes s.cursor.slices s.cursor.pc = g.active s.cursor.slices := by
  have hunf : g.unfinishedOf (s.cursor.slices.filter fun i => decide ((g.slice i).replay = s.cursor.pc)) = [] := noReplay_of h
  unfold Group.memLanes
  simp only [hunf, if_true]

/-- The number of the issuing gang's issue. -/
def issueSerial (s : State) : Nat := ((s.group s.cursor.group).map Group.lastIssue).getD 0

theorem execLdx_of_none (hg : s.group s.cursor.group = some g) (hr : ∀ i ∈ s.cursor.slices, (g.slice i).replay ≠ s.cursor.pc)
    (hd : g.valIn (w == 3) d.toNat = true) (hb : g.pairIn b.toNat = true) (hm : readEntries s g = [])
    (hact : g.active s.cursor.slices = []) : execLdx y w d a b s = s.retire y g := by
  have hfilter : (g.entries.filter fun e => s.cursor.slices.contains (e.1 / 4)) = [] := hm
  rw [execLdx, State.issue_of_group _ hg, State.need, hd, hb]
  simp only [hfilter, memLanes_of_noReplay hr, hact, List.filter_nil, true_or, Bool.and_self, if_true]

theorem execLdx_of_entries (hg : s.group s.cursor.group = some g)
    (hr : ∀ i ∈ s.cursor.slices, (g.slice i).replay ≠ s.cursor.pc) (hd : g.valIn (w == 3) d.toNat = true)
    (hb : g.pairIn b.toNat = true) (hm : readEntries s g = []) (hact : g.active s.cursor.slices ≠ []) :
    execLdx y w d a b s = s.checkRun g { (gatherEntryForm s y a b).op with serial := issueSerial s } false 16 (rR ||| rLC) 0 0
      false ((gatherEntryForm s y a b).lanes g) fun _ s' g' => .next (s'.putGroup s'.cursor.group g') := by
  have hfilter : (g.entries.filter fun e => s.cursor.slices.contains (e.1 / 4)) = [] := hm
  rw [execLdx, State.issue_of_group _ hg, State.need, hd, hb]
  simp only [hfilter, memLanes_of_noReplay hr, hact, List.any_nil, Bool.not_false, List.filter_true, true_or, Bool.and_self,
    if_true, if_false, gatherEntryForm, issueSerial, State.memOp]

theorem execLdx_of_data (hg : s.group s.cursor.group = some g)
    (hr : ∀ i ∈ s.cursor.slices, (g.slice i).replay ≠ s.cursor.pc) (hd : g.valIn (w == 3) d.toNat = true)
    (hb : g.pairIn b.toNat = true) (hm : readEntries s g ≠ []) :
    execLdx y w d a b s = s.checkRun (g.dropEntries s.cursor.slices)
      { (gatherDataForm s g y w d b).op with serial := issueSerial s } false 1 rR 1 0 false
      ((gatherDataForm s g y w d b).lanes (g.dropEntries s.cursor.slices)) (State.memDone s.cursor.group) := by
  have hfilter : (g.entries.filter fun e => s.cursor.slices.contains (e.1 / 4)) ≠ [] := hm
  rw [execLdx, State.issue_of_group _ hg, State.need, hd, hb]
  simp only [hfilter, noReplay_of hr, ne_eq, not_true_eq_false, false_and, or_self, Bool.and_self, if_true, if_false,
    gatherDataForm, readEntries, issueSerial, State.memOp, Machine.sizeOf]
  rfl

end

theorem State.repeatPassed_cursor (s : State) (g : Machine.Group) (pcs : List W64) (kinds : List Bool) :
    (s.repeatPassed g pcs kinds).cursor = s.cursor :=
  foldl_cursor _ (fun _ _ => State.contain_cursor ..) _ _

theorem settled_accessed_cursor (s : State) (g g2 : Group) (m : MemForm) (pc : W64) :
    (settled (accessed s g m).1 g2 pc).cursor = s.cursor := by
  rw [settled, Claims.State.repeatPassed_cursor]
  exact State.access_cursor ..

/-- The group after the first phase of a gather: the entries that it read are kept. -/
theorem Group.settledBy_eq_of_entries (g : Machine.Group) (o : MemOp) (hk : o.kind = .gatherEntry) : g.settledBy o
    = { (g.endRefusal o.slices).repeatPassed [o.pc] [true, false] with
        slices := (g.settledBy o).slices, entries := g.entries ++ o.lanes.map fun l => (l, capOf (o.valueOf l)) } := by
  have hx : o.matrixWrites g o.lanes = [] := by rw [MemOp.matrixWrites, hk]
  rw [Group.settledBy_eq, hx, Group.entriesAfter, if_pos hk, Group.endRefusal_eq]
  rfl

theorem Group.pc_settledBy (g : Machine.Group) (o : MemOp) (i : Nat) (hl : o.slices.Nodup) :
    ((g.settledBy o).slice i).pc = (g.slice i).pc := by
  rw [Group.slice_settledBy g o i hl]
  split
  · split <;> rfl
  · rfl

/-- The data of a gather leave a pending result, and no register changes at once. -/
theorem completed_gatherData (g : Machine.Group) (o : MemOp) (hk : o.kind = .gatherData) :
    (g.completed o).pending = g.pending ++ [o.result g o.lanes] ∧ (g.completed o).s = g.s ∧ (g.completed o).v = g.v
      ∧ (g.completed o).c = g.c ∧ (g.completed o).x = g.x := by
  have hx : o.matrixWrites g o.lanes = [] := by rw [MemOp.matrixWrites, hk]
  have hadd : g.completed o = (g.settledBy o).addPending (o.result g o.lanes) := by
    rw [Group.completed, Group.addPendingIf, hk]
  rw [hadd, Group.settledBy_eq, hx, Group.endRefusal_eq]
  exact ⟨rfl, rfl, rfl, rfl, rfl⟩

/-- Settles O21: each phase is a checked run of its form, with the settled group of `checkRun_of_accepted`. -/
theorem gatherRunsInTwoPhases : Obligations.GatherRunsInTwoPhases := by
  unfold Obligations.GatherRunsInTwoPhases
  rintro s g g2 y w d a b ⟨hg, hl, -⟩ hr hd hb sl mine entry data
  refine ⟨fun hm hact => ?none, fun hm hact hacc => ?entries, ?data⟩
  case none => exact (execLdx_of_none y w d a b hg hr hd hb hm hact).trans rfl
  case entries =>
    have hrun := State.checkRun_of_accepted (issueSerial s) (fun _ s' g' => .next (s'.putGroup s'.cursor.group g')) hacc
    have hcursor : (settled (accessed s g entry).1 g2 s.cursor.pc).cursor = s.cursor := settled_accessed_cursor s g g2 entry _
    refine ⟨_, (execLdx_of_entries y w d a b hg hr hd hb hm hact).trans (hrun.trans (by rw [hcursor])), ?_, fun i => ?_⟩
    · exact Group.settledBy_eq_of_entries g2 _ rfl
    · exact Group.pc_settledBy g2 _ i hl
  case data =>
    intro hm hcheck g1 hp hg2
    have hacc : Accepted s g1 g2 data := ⟨rfl, hcheck, fun h => absurd h (by simp [data, AccKind.writes]), hp, hg2⟩
    have hrun := State.checkRun_of_accepted (issueSerial s) (State.memDone s.cursor.group) hacc
    obtain ⟨hpend, hs, hv, hc, hx⟩ := completed_gatherData g2 { answered s g1 data with serial := issueSerial s } rfl
    exact ⟨_, (execLdx_of_data y w d a b hg hr hd hb hm).trans hrun, hpend, hs, hv, hc, hx⟩

end Sys2Proof.Claims

/-! PROOFS. Regions of the stash: the obligation O22. -/

namespace Sys2Proof.Machine

/-! ### Mapping -/

theorem Block.freeRegion_eq {k : Block} {n : Nat} (hn : n < 16) (hfree : ∀ r ∈ k.regions, r.number ≠ n)
    (hused : ∀ m < n, ∃ r ∈ k.regions, r.number = m) : k.freeRegion = some n := by
  rw [Block.freeRegion, List.find?_range_eq_some]
  refine ⟨by simpa using hfree, List.mem_range.mpr hn, fun m hm => ?_⟩
  obtain ⟨r, hr, rfl⟩ := hused m hm
  simpa using ⟨r, hr, rfl⟩

/-- SMAP with operands that pass its tests. -/
theorem execSmap_of_free {s : State} {g : Group} {k : Block} {n : Nat} (y : Bool) (d a b : Fld)
    (hg : s.group s.cursor.group = some g) (hk : s.block g.block = some k) (htag : (g.rc a.toNat).tag = true)
    (hright : (g.rc a.toNat).has (rR ||| rE) = true)
    (hoperand : ¬(bits (g.rs b.toNat) 63 22 ≠ 0 ∨ bits (g.rs b.toNat) 21 0 % 4096 ≠ 0 ∨ (g.rc a.toNat).length.toNat % 4096 ≠ 0
      ∨ (g.rc a.toNat).base.toNat % 128 ≠ 0 ∨ (g.rc a.toNat).isStash = true))
    (hroom : ¬(k.alloc < bits (g.rs b.toNat) 21 0 + (g.rc a.toNat).length.toNat
      ∨ k.overlaps (bits (g.rs b.toNat) 21 0) (g.rc a.toNat).length.toNat = true))
    (hfree : k.freeRegion = some n) : execSmap y d a b s = (s.putBlock g.block { k with regions := k.regions ++
        [{ number := n, base := bits (g.rs b.toNat) 21 0, length := (g.rc a.toNat).length.toNat, cap := g.rc a.toNat }] }).retire y
        (g.writeS s.cursor.slices d.toNat (BitVec.ofNat 64 n)) := by
  rw [execSmap, State.issue_of_group _ hg]
  simp only [htag, hright, hk, hfree, Bool.not_true, Bool.false_eq_true, if_false, if_neg hoperand, if_neg hroom]

/-! ### Write-backs -/

theorem State.flushLine_of_clean {s : State} {blk line : Nat} (r : Region) (q : Requester) {k : Block}
    (hk : s.block blk = some k) (hclean : ∀ l, Sparse.get none k.lines line = some l → l.dirty = false) :
    s.flushLine blk line r q = (s, .done) := by
  unfold State.flushLine
  rw [hk, Option.bind_some]
  cases hl : Sparse.get none k.lines line with
  | none => rfl
  | some l =>
    simp only [Option.map_some, hclean l hl, Bool.not_false, if_true]

theorem State.flushLines_of_clean {s : State} {blk : Nat} (r : Region) (q : Requester) {k : Block} (hk : s.block blk = some k)
    (ls : List Nat) (hclean : ∀ n ∈ ls, ∀ l, Sparse.get none k.lines n = some l → l.dirty = false) :
    s.flushLines blk r q ls = (s, {}) := by
  induction ls with
  | nil => rfl
  | cons n ls ih =>
    rw [State.flushLines, State.flushLine_of_clean r q hk (hclean n List.mem_cons_self),
      ih fun m hm => hclean m (List.mem_cons_of_mem _ hm)]

/-- SFLUSH and SUNMAP of a region whose write-backs all end at once. -/
theorem State.flushRegion_of_done {s t : State} {g : Group} {k k2 : Block} {r : Region} (y : Bool) (a : Fld)
    (change : Block → Region → Block) (hg : s.group s.cursor.group = some g) (hk : s.block g.block = some k)
    (hr : k.regionOf (g.rs a.toNat) = some r) (hflush : g.flushing = []) (hrefused : g.refusedOn = [])
    (hlines : s.flushLines g.block r (s.groupReq s.cursor.group g 2) (k.linesOf r) = (t, {}))
    (hk2 : t.block g.block = some k2) : s.flushRegion y a change = (t.putBlock g.block (change k2 r)).retire y g := by
  have hsame : ({ g with flushing := [] } : Group) = g := by rw [← hflush]
  have hnot : ((s.cursor.slices.any fun i => g.refusedFor.contains i) &&
      (k.linesOf r).any fun l => g.refusedOn.contains (r.pageOf l)) = false := by
    rw [hrefused]
    simp
  rw [State.flushRegion, State.issue_of_group _ hg]
  simp only [hk, hr, hflush, hnot, hlines, hk2, hsame, List.filter_nil, List.map_nil, Bool.false_eq_true, and_false, if_true,
    if_false]

end Sys2Proof.Machine

namespace Sys2Proof.Claims

open Sys2Proof Sys2Proof.Machine

/-- Settles O22: SMAP passes its tests in order; clean lines have nothing to write back. -/
theorem stashMappings : Obligations.StashMappings := by
  unfold Obligations.StashMappings
  refine ⟨?maps, ?flushes⟩
  case maps =>
    rintro s g k n y d a b ⟨hg, -⟩ hk c v htag hright hhigh hbase hlen hcbase hobj hroom hover hn hfree hused
    have hstash : ¬(c.isStash = true) := by simpa [Cap.isStash] using hobj
    refine ⟨g.wroteS s.cursor.slices d.toNat (BitVec.ofNat 64 n), scalarWrite_wroteS g _ _ _, ?_⟩
    rw [exec_smap, execSmap_of_free y d a b hg hk htag hright (by tauto) (by rw [hover]; simpa using hroom)
      (Block.freeRegion_eq hn hfree hused), Group.writeS_eq_recheckJoin]
    rfl
  case flushes =>
    rintro s g k r y a ⟨hg, -⟩ hk hr hflush hrefused unmapped
    have ends {t : State} {k2 : Block}
        (hlines : s.flushLines g.block r (s.groupReq s.cursor.group g 2) (k.linesOf r) = (t, {}))
        (hk2 : t.block g.block = some k2) :
        exec (.sflush y a) s = .next (after (t.putBlock g.block k2) y g)
          ∧ exec (.sunmap y a) s = .next (after (t.putBlock g.block (unmapped k2)) y g) :=
      ⟨State.flushRegion_of_done y a (fun b _ => b) hg hk hr hflush hrefused hlines hk2,
        State.flushRegion_of_done y a (fun b r => b.dropRegion r) hg hk hr hflush hrefused hlines hk2⟩
    exact ⟨fun hclean => ends (State.flushLines_of_clean r _ hk _ hclean) hk, fun t k2 hlines hk2 => ends hlines hk2⟩

end Sys2Proof.Claims

/-! PROOFS. Batches, GATE and RLSE: the obligation O29. -/

namespace Sys2Proof.Machine

/-! ### Batches -/

theorem Batches.close_openNum (b : Batches) :
    b.close.openNum = if b.openNum = 0xFFFFFFFF then 1 else b.openNum + 1 := rfl

theorem Batches.close_done (b : Batches) : b.close.done = b.done := rfl

theorem Batches.find_of_unknown {b : Batches} {n : BitVec 32} (hd : ∀ e ∈ b.done, e.1 ≠ n) (hc : ∀ e ∈ b.counts, e.1 ≠ n) :
    b.find n = some (BitVec.ofNat 64 (2 ^ 32 * n.toNat + 2 ^ 24 * 0x0E)) := by
  have hdone : b.done.find? (fun e => e.1 == n) = none := List.find?_eq_none.mpr fun e he => by simpa using hd e he
  have hcounts : b.counts.any (fun e => e.1 == n) = false := List.any_eq_false.mpr fun e he => by simpa using hc e he
  rw [Batches.find, hdone, hcounts]
  rfl

theorem Batches.find_of_counted {b : Batches} {n : BitVec 32} {e : BitVec 32 × Nat × Nat × Bool × Bool} (he : e ∈ b.counts)
    (hn : e.1 = n) (hd : ∀ d ∈ b.done, d.1 ≠ n) : b.find n = none := by
  have hdone : b.done.find? (fun e => e.1 == n) = none := List.find?_eq_none.mpr fun e he => by simpa using hd e he
  have hcounts : b.counts.any (fun e => e.1 == n) = true := List.any_eq_true.mpr ⟨e, he, by simpa using hn⟩
  rw [Batches.find, hdone, hcounts]
  rfl

/-! ### WAITB -/

/-- The group whose gang has parked at a WAITB of a batch. -/
def Group.atBatch (g : Group) (sl : List Nat) (n : BitVec 32) (a : Nat) : Group :=
  g.mapSlices (fun _ t => { t.parkAt .waitb n 0 with phase := BitVec.ofNat 16 a }) sl

theorem Group.atBatch_eq (g : Group) (sl : List Nat) (n : BitVec 32) (a : Nat) :
    g.atBatch sl n a = { g with slices := (g.atBatch sl n a).slices } := Group.mapSlices_eq _ _ _

theorem Group.slice_atBatch (g : Group) {sl : List Nat} (n : BitVec 32) (a : Nat) {i : Nat} (hl : sl.Nodup) (hi : i ∈ sl) :
    (g.atBatch sl n a).slice i = { (g.slice i).parkAt .waitb n 0 with phase := BitVec.ofNat 16 a } := by
  rw [Group.atBatch, Group.slice_mapSlices _ _ _ _ hl, if_pos hi]

section
variable {s : State} {g : Group}

/-- WAITB of a batch that was opened, with nothing pending. -/
theorem execWaitb_of_opened (y : Bool) {a : Fld} (hg : s.group s.cursor.group = some g)
    (hp : g.hasPending s.cursor.slices = false) (ho : g.batch.opened ((g.rs a.toNat).setWidth 32) = true) :
    execWaitb y a s = (g.batch.find ((g.rs a.toNat).setWidth 32)).elim
      (.next (s.putGroup s.cursor.group (g.atBatch s.cursor.slices ((g.rs a.toNat).setWidth 32) a.toNat)))
      (fun w => s.retire false (g.writeS s.cursor.slices a.toNat w)) := by
  rw [execWaitb, State.issue_of_group _ hg, State.switchFirst_of_not_pending _ hp]
  simp only [ho, Bool.not_true, Bool.false_eq_true, if_false]
  cases g.batch.find ((g.rs a.toNat).setWidth 32) <;> rfl

/-! ### GATE and RLSE -/

/-- GATE through an open gate, with nothing pending. -/
theorem execGate_of_open (y : Bool) (hg : s.group s.cursor.group = some g) (hp : g.hasPending s.cursor.slices = false)
    (hopen : g.task = true ∨ (s.conf.grid g.grid.toNat).gated = false)
    (hfault : g.task = true ∨ Sparse.get false s.disp.gateFault g.grid.toNat = false) :
    execGate y s = s.retire false g := by
  have hopen' : (!g.task && (s.conf.grid g.grid.toNat).gated) = false := by
    rcases hopen with h | h <;> simp [h]
  have hfault' : (!g.task && Sparse.get false s.disp.gateFault g.grid.toNat) = false := by
    rcases hfault with h | h <;> simp [h]
  rw [execGate, State.issue_of_group _ hg, State.switchFirst_of_not_pending _ hp, hopen', hfault']
  rfl

/-- GATE at a closed gate, with nothing pending. -/
theorem execGate_of_closed (y : Bool) (hg : s.group s.cursor.group = some g) (hp : g.hasPending s.cursor.slices = false)
    (htask : g.task = false) (hgated : (s.conf.grid g.grid.toNat).gated = true) :
    execGate y s = .next (s.putGroup s.cursor.group (g.mapSlices (fun _ r => r.parkAt .gate 0 0) s.cursor.slices)) := by
  rw [execGate, State.issue_of_group _ hg, State.switchFirst_of_not_pending _ hp, htask, hgated]
  rfl

theorem execRlse_of_block (y : Bool) {b : Block} (hg : s.group s.cursor.group = some g) (hb : s.block g.block = some b) :
    execRlse y s = ((s.releaseBlock g.block).rowEvents b.grid b.nominal).retire y g := by
  rw [execRlse, State.issue_of_group _ hg]
  simp only [hb]

theorem execRlse_of_no_block (y : Bool) (hg : s.group s.cursor.group = some g) (hb : s.block g.block = none) :
    execRlse y s = s.retire y g := by
  rw [execRlse, State.issue_of_group _ hg]
  simp only [hb]

end

end Sys2Proof.Machine

namespace Sys2Proof.Claims

open Sys2Proof Sys2Proof.Machine

/-- The group whose open batch a BCLOSE has closed, before its gang goes on. -/
def closedBatch (g : Group) (sl : List Nat) (d : Nat) : Group :=
  { (g.wroteS sl d (g.batch.openNum.setWidth 64)).recheckJoin sl d with batch := g.batch.close }

theorem execBclose_of_group {s : State} {g : Group} (y : Bool) (d : Fld) (hg : s.group s.cursor.group = some g) :
    execBclose y d s = .next ((s.putGroup s.cursor.group
      ((closedBatch g s.cursor.slices d.toNat).goTo s.cursor.slices (s.cursor.pc + 4) y)).settleBatches s.cursor.group) := by
  rw [execBclose, State.issue_of_group _ hg]
  simp only [Group.writeS_eq_recheckJoin]
  have hb : ((g.wroteS s.cursor.slices d.toNat (g.batch.openNum.setWidth 64)).recheckJoin s.cursor.slices d.toNat).batch
      = g.batch := by
    rw [Group.recheckJoin_eq]
    rfl
  rw [hb, closedBatch]

/-- Settles O29: WAITB by what `Batches.find` gives, GATE by its two tests, RLSE by the block. -/
theorem batchesAndTheGate : Obligations.BatchesAndTheGate := by
  unfold Obligations.BatchesAndTheGate
  refine ⟨fun s g y a d h => ⟨?_, ?_⟩, ?_⟩
  · obtain ⟨hg, -, -⟩ := h
    exact ⟨g.wroteS s.cursor.slices d.toNat (g.batch.openNum.setWidth 64), closedBatch g s.cursor.slices d.toNat,
      (exec_bclose y d s).trans (execBclose_of_group y d hg), scalarWrite_wroteS g _ _ _, rfl, g.batch.close_openNum, rfl⟩
  · intro hp ho n
    obtain ⟨hg, hl, -⟩ := h
    have hexec := (exec_waitb y a s).trans (execWaitb_of_opened y hg hp ho)
    refine ⟨fun hd hc => Batches.find_of_unknown hd hc, fun e he hn hd => Batches.find_of_counted he hn hd, fun w hw => ?_,
      fun hw => ?_⟩
    · rw [hw] at hexec
      exact ⟨_, hexec, scalarWrite_wroteS g _ _ _⟩
    · rw [hw] at hexec
      refine ⟨g.atBatch s.cursor.slices n a.toNat, hexec, Group.atBatch_eq _ _ _ _, fun i hi => ?_⟩
      rw [Group.slice_atBatch g n _ hl hi]
      exact ⟨rfl, rfl, rfl, rfl⟩
  · rintro s g y ⟨hg, -, -⟩
    rw [exec_gate, exec_rlse]
    exact ⟨execGate_of_open y hg, execGate_of_closed y hg, fun b hb => execRlse_of_block y hg hb, execRlse_of_no_block y hg⟩

end Sys2Proof.Claims

/-! PROOFS. Issue of engine commands, POST and LAUNCH: the obligation O28. -/

namespace Sys2Proof.Machine

/-! ### Issue -/

theorem Batches.count_openNum (b : Batches) : b.count.openNum = b.openNum := by
  unfold Batches.count
  split <;> rfl

/-- The state with a command added. -/
def State.addCommand (s : State) (c : Command) : State :=
  { s with cmds := Sparse.set none s.cmds s.nextCmd (some c), nextCmd := s.nextCmd + 1 }

/-- A command that has room is added, and its gang goes on. -/
theorem State.issueIf_of_room {s : State} (g : Group) (y : Bool) {c : Command} (fin : Group → Group)
    (hroom : s.outstanding s.cursor.group < 1024) (hc : c.group = s.cursor.group) :
    s.issueIf g y c fin = .next (Claims.after (s.addCommand c) y (fin { g with batch := g.batch.count })) := by
  have hcmd : { c with group := s.cursor.group, batch := c.batch } = c := by rw [← hc]
  rw [State.issueIf, if_neg (by omega)]
  simp only [State.issueCommand, hcmd]
  rfl

/-- Tests that pass let the command issue. -/
theorem State.tested_of_ok (s : State) (g : Group) {sig : Option Cap} {fail : Option Cause} {ok : Bool} (k : Res)
    (hsig : ∀ c ∈ sig, c.base.toNat % 8 = 0) (hfail : fail = none) (hok : ok = true) : s.tested g sig fail ok k = k := by
  subst hfail hok
  cases sig with
  | none => rfl
  | some c => simp [State.tested, hsig c rfl]

/-- No named capability fails when each holds its tag, its rights and its range. -/
theorem namedFail_eq_none {alloc : Option Nat} {ns : List Named}
    (h : ∀ n ∈ ns, n.cap.tag = true ∧ n.cap.has n.rights = true ∧ n.inside alloc = true) : namedFail alloc ns = none := by
  have htag : (ns.any fun n => !n.cap.tag) = false := List.any_eq_false.mpr fun n hn => by simpa using (h n hn).1
  have hright : (ns.any fun n => !n.cap.has n.rights) = false := List.any_eq_false.mpr fun n hn => by simpa using (h n hn).2.1
  have hin : (ns.any fun n => !n.inside alloc) = false := List.any_eq_false.mpr fun n hn => by simpa using (h n hn).2.2
  rw [namedFail, htag, hright, hin]
  rfl

/-! ### POST -/

/-- POST whose capability and offsets pass their tests. -/
theorem execPost_of_checked {s : State} {g : Group} (y : Bool) {d a b : Fld} (hg : s.group s.cursor.group = some g)
    (heven : b.toNat % 2 = 0) (hb : b.toNat ≤ 118) (hwin : g.inWindow (b.toNat + 9) = true)
    (htag : (g.rc a.toNat).tag = true) (hright : (g.rc a.toNat).has rE = true)
    (hnear : ∀ l ∈ g.postLanes s.cursor.slices, (g.rp b.toNat l).toNat < (g.rc a.toNat).length.toNat) :
    execPost y d a b s = (s.postAll g ((g.postLanes s.cursor.slices).map fun l =>
        { kernel := g.rs d.toNat, ctx := g.ctx, cap := g.rc a.toNat, offset := g.rp b.toNat l
          args := (List.range 8).map fun j => g.rv (b.toNat + 2 + j) l, tick := 0 })).elim
      (.next (s.putGroup s.cursor.group (g.mapSlices (fun _ r => r.parkAt .post 0 0) s.cursor.slices))) fun t => t.retire y g := by
  have hok : (b.toNat % 2 == 0 && decide (b.toNat ≤ 118) && g.inWindow (b.toNat + 9)) = true := by simp [heven, hb, hwin]
  have hfar : (g.postLanes s.cursor.slices).filter (fun l => decide ((g.rc a.toNat).length.toNat ≤ (g.rp b.toNat l).toNat)) = [] :=
    List.filter_eq_nil_iff.mpr fun l hl => by simpa using hnear l hl
  rw [execPost, State.issue_of_group _ hg, hok]
  simp only [State.need, if_true, htag, hright, hfar, Bool.not_true, Bool.false_eq_true, if_false, ne_eq, not_true]
  cases s.postAll g _ <;> rfl

/-! ### LAUNCH -/

/-- The submit record that LAUNCH posts. -/
def State.launched (s : State) (g : Group) (b : Nat) : CurRec :=
  let r := BitVec.ofNat 512 ((List.range 8).foldl (fun n k => n + (g.rs (b + k)).toNat * 2 ^ (64 * k)) 0)
  s.record 0x01 g.ctx (packSubmit r 1 (s.submitDigest r))

/-- The state in which the record of a LAUNCH has left. -/
def State.sentLaunch (s : State) (r : CurRec) : State :=
  { s.post r with disp := { (s.post r).disp with launches := (s.post r).disp.launches ++ [((s.post r).nextCmd, r)] } }

theorem State.outstanding_sentLaunch (s : State) (r : CurRec) (h : Nat) : (s.sentLaunch r).outstanding h = s.outstanding h := by
  unfold State.outstanding
  rw [State.sentLaunch, State.post_cmds]

/-- LAUNCH of a well-formed record, with room for its command. -/
theorem execLaunch_of_wellFormed {s : State} {g : Group} (y : Bool) {d b : Fld} (hg : s.group s.cursor.group = some g)
    (hb : b.toNat ≤ 120) (hroom : s.outstanding s.cursor.group < 1024)
    (hok : (let r := BitVec.ofNat 512 ((List.range 8).foldl (fun n k => n + (g.rs (b.toNat + k)).toNat * 2 ^ (64 * k)) 0)
      submitWellFormed r && decide (subField r 2 2 ≤ 1023) && subField r 0x1E 2 != 0) = true) :
    execLaunch y d b s = if (s.ctxOf g.ctx).accepts then
        (s.sentLaunch (s.launched g b.toNat)).issueIf g y (s.newCommand s.cursor.group g .launch)
          fun g => g.writeS s.cursor.slices d.toNat (g.batch.openNum.setWidth 64)
      else s.issueIf g y { s.newCommand s.cursor.group g .launch with status := 0x10, ended := some 0 }
          fun g => g.writeS s.cursor.slices d.toNat (g.batch.openNum.setWidth 64) := by
  rw [execLaunch, State.issue_of_group _ hg, decide_eq_true hb]
  simp only [State.need, if_true]
  simp only at hok
  rw [hok]
  simp only [Bool.not_true, Bool.false_eq_true, if_false]
  rw [if_neg (by omega)]
  rfl

end Sys2Proof.Machine

namespace Sys2Proof.Claims

open Sys2Proof Sys2Proof.Machine

/-- Settles O28: POST by what `State.postAll` gives, LAUNCH by whether the context accepts. -/
theorem postsAndLaunches : Obligations.PostsAndLaunches := by
  unfold Obligations.PostsAndLaunches
  refine ⟨?_, ?_⟩
  · rintro s g y d a b ⟨hg, -, -⟩ heven hb hwin c lanes recs htag hright hnear
    have hexec := (exec_post y d a b s).trans (execPost_of_checked y hg heven hb hwin htag hright hnear)
    refine ⟨fun t ht => ?_, fun hn => ?_⟩
    · rw [hexec]
      change (s.postAll g recs).elim _ _ = _
      rw [ht]
      rfl
    · rw [hexec]
      change (s.postAll g recs).elim _ _ = _
      rw [hn]
      rfl
  · rintro s g y d b ⟨hg, -, -⟩ hb hroom r rec_ posted hwf hlow hkind
    have hok : (submitWellFormed r && decide (subField r 2 2 ≤ 1023) && subField r 0x1E 2 != 0) = true := by
      simp [hwf, hlow, hkind]
    have hexec := (exec_launch y d b s).trans (execLaunch_of_wellFormed (d := d) y hg hb hroom hok)
    refine ⟨({ g with batch := g.batch.count } : Group).wroteS s.cursor.slices d.toNat (g.batch.openNum.setWidth 64),
      scalarWrite_wroteS _ _ _ _, fun hacc => ?_, fun hacc => ?_⟩
    · have hroom' : (s.sentLaunch rec_).outstanding (s.sentLaunch rec_).cursor.group < 1024 := by
        rw [State.outstanding_sentLaunch]
        simpa [State.sentLaunch] using hroom
      rw [hexec, if_pos hacc]
      change (s.sentLaunch rec_).issueIf g y _ _ = _
      rw [State.issueIf_of_room (c := s.newCommand s.cursor.group g .launch) g y _ hroom' (by simp [State.sentLaunch, State.newCommand])]
      simp only [Batches.count_openNum, Group.writeS_eq_recheckJoin, State.addCommand, State.sentLaunch, State.post_cmds, State.post_nextCmd]
      rfl
    · rw [hexec, if_neg (by simp [hacc]), State.issueIf_of_room g y _ hroom rfl]
      simp only [Batches.count_openNum, Group.writeS_eq_recheckJoin]
      rfl

end Sys2Proof.Claims

/-! PROOFS. ARM: the obligation O27. -/

namespace Sys2Proof.Machine

/-- The state with an entry of the arm table set or cleared. -/
def State.withArm (s : State) (k : Nat) (e : Option ArmEntry) : State :=
  { s with mem := { s.mem with arms := Sparse.set none s.mem.arms k e } }

/-- The lowest index of the arm table without an entry. -/
def State.freeArm (s : State) : Option Nat := (List.range 1024).find? fun k => Sparse.get none s.mem.arms k == none

theorem State.freeArm_eq_none {s : State} (h : ∀ k < 1024, Sparse.get none s.mem.arms k ≠ none) : s.freeArm = none :=
  List.find?_eq_none.mpr fun k hk => by simpa using h k (List.mem_range.mp hk)

theorem State.freeArm_eq_some {s : State} {k : Nat} (hk : k < 1024) (hfree : Sparse.get none s.mem.arms k = none)
    (hused : ∀ j < k, Sparse.get none s.mem.arms j ≠ none) : s.freeArm = some k := by
  rw [State.freeArm, List.find?_range_eq_some]
  exact ⟨by simpa using hfree, List.mem_range.mpr hk, fun j hj => by simpa [Option.isSome_iff_ne_none] using hused j hj⟩

/-- The answer of an ARM: its word in s_d. -/
def State.armAnswer (s : State) (g : Group) (y : Bool) (d : Fld) (w : W64) : Res :=
  s.retire y (g.writeS s.cursor.slices d.toNat w)

/-- The entry that an ARM makes. -/
def Group.armEntry (g : Group) (a b : Fld) : ArmEntry :=
  { tag := (g.rs b.toNat).setWidth 32, ctx := g.ctx, fire := decide (bits (g.rs b.toNat) 45 44 = 1)
    slots := bits (g.rs b.toNat) 43 32, buffer := g.rc a.toNat, grant := g.grant }

/-- The rights that the buffer of an ARM of a mode needs. -/
def armRights (mode : Nat) : BitVec 8 := if mode = 1 then rR ||| rW ||| rE else rW ||| rE

section
variable {s : State} {g : Group} (y : Bool) {d a b : Fld} (hg : s.group s.cursor.group = some g) (hb : b.toNat ≤ 126)
  (hzero : bits (g.rs b.toNat) 63 46 = 0)
include hg hb hzero

/-- ARM of mode 0 or 1 whose buffer passes its tests. -/
theorem execArm_of_arming (hmode : bits (g.rs b.toNat) 45 44 ≤ 1) (htag : (g.rc a.toNat).tag = true)
    (hright : (g.rc a.toNat).has (armRights (bits (g.rs b.toNat) 45 44)) = true)
    (hslots : 1 ≤ bits (g.rs b.toNat) 43 32) (hbase : (g.rc a.toNat).base.toNat % 65536 = 0)
    (hlen : 65536 * (1 + bits (g.rs b.toNat) 43 32) ≤ (g.rc a.toNat).length.toNat)
    (hend : (g.rc a.toNat).base.toNat + (g.rc a.toNat).length.toNat ≤ 2 ^ 28) (hobj : (g.rc a.toNat).object ≠ 0) :
    execArm y d a b s = if (s.armed ((g.rs b.toNat).setWidth 32)).isSome then s.armAnswer g y d (BitVec.ofNat 64 (2 ^ 63 + 2))
      else s.freeArm.elim (s.armAnswer g y d (BitVec.ofNat 64 (2 ^ 63 + 1)))
        fun k => (s.withArm k (some (g.armEntry a b))).armAnswer g y d (BitVec.ofNat 64 k) := by
  have hfail : namedFail none [⟨g.rc a.toNat, armRights (bits (g.rs b.toNat) 45 44), 0, 0⟩] = none :=
    namedFail_eq_none (by simp [htag, hright, Named.inside])
  have hok : (bits (g.rs b.toNat) 63 46 == 0 && bits (g.rs b.toNat) 45 44 != 3
      && (decide (1 ≤ bits (g.rs b.toNat) 43 32) && (g.rc a.toNat).base.toNat % 65536 == 0
        && decide (65536 * (1 + bits (g.rs b.toNat) 43 32) ≤ (g.rc a.toNat).length.toNat)
        && decide ((g.rc a.toNat).base.toNat + (g.rc a.toNat).length.toNat ≤ 2 ^ 28) && !(g.rc a.toNat).isStash)) = true := by
    have h3 : (bits (g.rs b.toNat) 45 44 != 3) = true := bne_iff_ne.mpr (by omega)
    have hstash : (g.rc a.toNat).isStash = false := beq_eq_false_iff_ne.mpr hobj
    simp only [hzero, h3, decide_eq_true hslots, hbase, decide_eq_true hlen, decide_eq_true hend, hstash, beq_self_eq_true,
      Bool.and_true, Bool.not_false]
  rw [execArm, State.issue_of_group _ hg, decide_eq_true hb]
  simp only [State.need, if_true, decide_eq_true hmode]
  unfold armRights at hfail
  rw [State.tested_of_ok _ _ _ (by simp) hfail hok]
  unfold State.freeArm
  by_cases ha : (s.armed ((g.rs b.toNat).setWidth 32)).isSome = true
  · rw [if_pos ha, if_pos ha]
    rfl
  · rw [if_neg ha, if_neg ha]
    cases (List.range 1024).find? fun k => Sparse.get none s.mem.arms k == none <;> rfl

/-- ARM of mode 2. -/
theorem execArm_of_ending (hmode : bits (g.rs b.toNat) 45 44 = 2) (hzero1 : bits (g.rs (b.toNat + 1)) 63 10 = 0) :
    execArm y d a b s = (Sparse.get none s.mem.arms (bits (g.rs (b.toNat + 1)) 9 0)).elim
      (s.armAnswer g y d (BitVec.ofNat 64 (2 ^ 63 + 3))) fun e =>
        if e.ctx = g.ctx then (s.withArm (bits (g.rs (b.toNat + 1)) 9 0) none).armAnswer g y d
            (BitVec.ofNat 64 (bits (g.rs (b.toNat + 1)) 9 0))
        else s.armAnswer g y d (BitVec.ofNat 64 (2 ^ 63 + 3)) := by
  have hmode1 : ¬ bits (g.rs b.toNat) 45 44 ≤ 1 := by omega
  have hok : (bits (g.rs b.toNat) 63 46 == 0 && bits (g.rs b.toNat) 45 44 != 3 && bits (g.rs (b.toNat + 1)) 63 10 == 0) = true := by
    simp [hzero, hmode, hzero1]
  rw [execArm, State.issue_of_group _ hg, decide_eq_true hb]
  simp only [State.need, if_true, decide_eq_false hmode1, Bool.false_eq_true, if_false]
  rw [State.tested_of_ok _ _ _ (by simp) rfl hok]
  cases Sparse.get none s.mem.arms (bits (g.rs (b.toNat + 1)) 9 0) with
  | none => rfl
  | some e =>
    simp only [Option.elim_some, beq_iff_eq]
    rfl

end

end Sys2Proof.Machine

namespace Sys2Proof.Claims

open Sys2Proof Sys2Proof.Machine

/-- The answer of an ARM writes its scalar register, whatever the arm table has become. -/
theorem armAnswer_next (s : State) (g : Group) (y : Bool) (d : Fld) (w : W64) :
    ∃ g' : Group, s.armAnswer g y d w = .next (after s y (g'.recheckJoin s.cursor.slices d.toNat))
      ∧ ScalarWrite g g' s.cursor.slices d.toNat w :=
  ⟨g.wroteS s.cursor.slices d.toNat w, rfl, scalarWrite_wroteS g _ _ _⟩

/-- Settles O27: modes 0 and 1 by whether the tag is armed and an index is free, mode 2 by whose entry the index names. -/
theorem armAnswersItsEntry : Obligations.ArmAnswersItsEntry := by
  unfold Obligations.ArmAnswersItsEntry
  rintro s g y d a b ⟨hg, -, -⟩ hb v c answers with_ hzero
  refine ⟨fun hmode htag hright hslots hbase hlen hend hobj => ?_, fun hmode hzero1 => ?_⟩
  · have hexec := (exec_arm y d a b s).trans
      (execArm_of_arming (d := d) y hg hb hzero hmode htag hright hslots hbase hlen hend hobj)
    rw [ite_prop_iff_and]
    refine ⟨fun ha => ?_, fun ha => ⟨fun hfull => ?_, fun k hk hfree hused => ?_⟩⟩
    · rw [if_pos ha] at hexec
      change ∃ _, _
      rw [hexec]
      exact armAnswer_next s g y d _
    · rw [if_neg ha, State.freeArm_eq_none hfull] at hexec
      change ∃ _, _
      rw [hexec]
      exact armAnswer_next s g y d _
    · rw [if_neg ha, State.freeArm_eq_some hk hfree hused] at hexec
      change ∃ _, _
      rw [hexec]
      exact armAnswer_next (s.withArm k (some (g.armEntry a b))) g y d _
  · intro k
    have hexec := (exec_arm y d a b s).trans (execArm_of_ending (d := d) (a := a) y hg hb hzero hmode hzero1)
    refine ⟨fun e he hctx => ?_, fun hother => ?_⟩
    · rw [he, Option.elim_some, if_pos hctx] at hexec
      change ∃ _, _
      rw [hexec]
      exact armAnswer_next (s.withArm k none) g y d _
    · change ∃ _, _
      rw [hexec]
      cases he : Sparse.get none s.mem.arms k with
      | none => exact armAnswer_next s g y d _
      | some e =>
        rw [Option.elim_some, if_neg (hother e he)]
        exact armAnswer_next s g y d _

end Sys2Proof.Claims

/-! PROOFS. Collectives, publish, messages and copies: the obligation O26. -/

namespace Sys2Proof.Claims

open Sys2Proof Sys2Proof.Machine

/-! ### The tests before issue -/

theorem spansOf_eq_rangeOf (c : Cap) (blk off len : Nat) (shadow : Bool) : spansOf c blk off len shadow = rangeOf c blk off len shadow :=
  rfl

/-- A capability that is named with its range passes the tests of R230, whether the allocation counts or not. -/
theorem Names.passes {s : State} {g : Group} {c : Cap} {need : BitVec 8} {off len : Nat} (h : Names s g c need off len)
    {alloc : Option Nat} (halloc : ∀ n ∈ alloc, n = s.allocOf g) :
    c.tag = true ∧ c.has (need ||| rE) = true ∧ (⟨c, need ||| rE, off, len⟩ : Named).inside alloc = true := by
  obtain ⟨htag, hright, hlen, hstash⟩ := h
  refine ⟨htag, hright, ?_⟩
  cases alloc with
  | none => simpa [Named.inside] using hlen
  | some n =>
    obtain rfl := halloc n rfl
    by_cases ho : c.object = 0
    · simp [Named.inside, hlen, hstash ho]
    · have hs : c.isStash = false := beq_eq_false_iff_ne.mpr ho
      simp [Named.inside, hlen, hs]

theorem Names.namedFail₁ {s : State} {g : Group} {c : Cap} {need : BitVec 8} {off len : Nat} (h : Names s g c need off len) :
    namedFail (some (s.allocOf g)) [⟨c, need ||| rE, off, len⟩] = none :=
  namedFail_eq_none fun n hn => by
    rw [List.mem_singleton.mp hn]
    exact h.passes (by simp)

theorem Counts.countField {s : State} {g : Group} {bit : Bool} {n : Nat} (h : Counts s g bit n) :
    s.countField g bit n = some (if bit then some n else none) := by
  cases bit with
  | false => rfl
  | true =>
    obtain ⟨htask, k, hk, hn⟩ := h rfl
    simp [State.countField, htask, hk, hn]

/-! ### Issue of each form -/

section
variable {s : State} {g : Group} (y : Bool) {d a b : Fld}

/-- A command of the issuing group with room for it: its gang goes on. -/
theorem issueIf_commanded (hroom : s.outstanding s.cursor.group < 1024) {c : Command} (hc : c.group = s.cursor.group) :
    s.issueIf g y c id = .next (commanded s g s.cursor.slices (s.cursor.pc + 4) y c) := State.issueIf_of_room g y id hroom hc

variable (hg : s.group s.cursor.group = some g) (hroom : s.outstanding s.cursor.group < 1024)
include hg hroom

/-- PUB of an object that may be published. -/
theorem execPub_next (htag : (g.rc a.toNat).tag = true) (hright : (g.rc a.toNat).has rP = true)
    (hobj : (g.rc a.toNat).object ≠ 0) (hhome : (g.rc a.toNat).home = s.fab.self)
    (hdie : s.dieRuns (homeDie (g.rc a.toNat).object) = true) (hvalid : (s.objEntry (g.rc a.toNat).object).valid = true) :
    execPub y a s = .next (commanded s g s.cursor.slices (s.cursor.pc + 4) y (fresh s g (.publish (g.rc a.toNat).object))) := by
  have hfail : namedFail none [⟨g.rc a.toNat, rP, 0, 0⟩] = none :=
    namedFail_eq_none (by simp [htag, hright, Named.inside])
  have hok : (!(g.rc a.toNat).isStash && (g.rc a.toNat).home == s.fab.self) = true := by
    rw [Cap.isStash, beq_eq_false_iff_ne.mpr hobj, hhome]
    simp
  rw [execPub, State.issue_of_group _ hg]
  simp only
  rw [State.tested_of_ok _ _ _ (by simp) hfail hok, hdie, hvalid, issueIf_commanded y hroom rfl]
  rfl

/-- NSEND of a message that passes its tests. -/
theorem execNsend_next (hb : b.toNat ≤ 124)
    (hnames : Names s g (g.rc a.toNat) rR (bits (g.rs (b.toNat + 1)) 39 0) (bits (g.rs b.toNat) 16 0))
    (h0 : bits (g.rs b.toNat) 63 17 = 0) (hlen : bits (g.rs b.toNat) 16 0 ≤ 65536) (h1 : bits (g.rs (b.toNat + 1)) 63 40 = 0)
    (h2 : bits (g.rs (b.toNat + 2)) 63 16 = 0) (h3 : bits (g.rs (b.toNat + 3)) 63 32 = 0)
    (hpeer : Sparse.get none s.mem.peers (bits (g.rs (b.toNat + 2)) 15 0) = some g.ctx) :
    execNsend y a b s = .next (commanded s g s.cursor.slices (s.cursor.pc + 4) y
      { fresh s g (.send (bits (g.rs (b.toNat + 2)) 15 0) ((g.rs (b.toNat + 3)).setWidth 32) (bits (g.rs b.toNat) 16 0)) with
        reads := rangeOf (g.rc a.toNat) g.block (bits (g.rs (b.toNat + 1)) 39 0) (bits (g.rs b.toNat) 16 0) false }) := by
  have hok : (bits (g.rs b.toNat) 63 17 == 0 && decide (bits (g.rs b.toNat) 16 0 ≤ 65536) && bits (g.rs (b.toNat + 1)) 63 40 == 0
      && bits (g.rs (b.toNat + 2)) 63 16 == 0 && bits (g.rs (b.toNat + 3)) 63 32 == 0
      && Sparse.get none s.mem.peers (bits (g.rs (b.toNat + 2)) 15 0) == some g.ctx) = true := by
    simp [h0, hlen, h1, h2, h3, hpeer]
  rw [execNsend, State.issue_of_group _ hg, decide_eq_true hb]
  simp only [State.need, if_true]
  rw [State.tested_of_ok _ _ _ (by simp) hnames.namedFail₁ hok, issueIf_commanded y hroom rfl]
  rfl

/-- The count of a COLL. -/
def collCount (g : Group) (b : Fld) : Option Nat :=
  if (g.rs (b.toNat + 3)).getLsbD 12 then some (bits (g.rs (b.toNat + 3)) 11 6) else none

omit hroom in
/-- COLL whose capabilities and common fields pass their tests issues the command of its kind. -/
theorem execColl_of_tests (hb : b.toNat ≤ 124)
    (hsrc : Names s g (g.rc a.toNat) rR (bits (g.rs (b.toNat + 2)) 39 0) (bits (g.rs b.toNat) 31 0))
    (hdst : Names s g (g.rc d.toNat) rW (bits (g.rs (b.toNat + 1)) 39 0) (bits (g.rs b.toNat) 31 0))
    (h1 : bits (g.rs (b.toNat + 1)) 63 40 = 0) (h2 : bits (g.rs (b.toNat + 2)) 63 40 = 0)
    (h3 : bits (g.rs (b.toNat + 3)) 5 0 = 0)
    (hcount : Counts s g ((g.rs (b.toNat + 3)).getLsbD 12) (bits (g.rs (b.toNat + 3)) 11 6))
    (hkind : (let v0 := g.rs b.toNat
      let v3 := g.rs (b.toNat + 3)
      let len := bits v0 31 0
      (bits v3 63 62 == 0 && (decide (len ≤ 65536) && reduceOk (bits v3 25 18) (bits v3 17 13)
          && len % reduceSize (bits v3 17 13) == 0 && bits v0 63 32 != 0))
        || (bits v3 63 62 == 1 && (decide (len ≤ 2 ^ 24) && bits v0 63 32 == 0 && bits v3 49 13 == 0
          && !(g.rc a.toNat).isStash && !(g.rc d.toNat).isStash))) = true) :
    execColl y d a b s =
      let v0 := g.rs b.toNat
      let v3 := g.rs (b.toNat + 3)
      let len := bits v0 31 0
      let off := bits (g.rs (b.toNat + 1)) 39 0
      let c := fresh s g (if bits v3 63 62 = 0 then .reduce (g.rc d.toNat) off (v3.extractLsb' 26 24) len
          (BitVec.ofNat 8 (bits v3 25 18)) (BitVec.ofNat 8 (bits v3 17 13)) (v3.extractLsb' 50 12) (v0.extractLsb' 32 32)
        else .mcast (v3.extractLsb' 50 12) (g.rc d.toNat).object)
      s.issueIf g y { c with
        reads := rangeOf (g.rc a.toNat) g.block (bits (g.rs (b.toNat + 2)) 39 0) len false
        writes := if bits v3 63 62 = 0 then [] else rangeOf (g.rc d.toNat) g.block off len false
        count := collCount g b } id := by
  have hfail : namedFail (some (s.allocOf g))
      [⟨g.rc a.toNat, rR ||| rE, bits (g.rs (b.toNat + 2)) 39 0, bits (g.rs b.toNat) 31 0⟩,
        ⟨g.rc d.toNat, rW ||| rE, bits (g.rs (b.toNat + 1)) 39 0, bits (g.rs b.toNat) 31 0⟩] = none :=
    namedFail_eq_none (by
      rintro n hn
      rcases List.mem_cons.mp hn with rfl | hn
      · exact hsrc.passes (by simp)
      · rw [List.mem_singleton.mp hn]
        exact hdst.passes (by simp))
  simp only at hkind
  rw [execColl, State.issue_of_group _ hg, decide_eq_true hb]
  simp only [State.need, if_true, hcount.countField, h1, h2, h3, beq_self_eq_true, Option.isSome_some, Bool.and_true, Bool.true_and]
  rw [State.tested_of_ok _ _ _ (by simp) hfail hkind]
  rfl

end

/-- Settles O26: each form passes its tests and issues its command. -/
theorem collectivesAndMessagesIssue : Obligations.CollectivesAndMessagesIssue := by
  unfold Obligations.CollectivesAndMessagesIssue
  refine ⟨?_, ?_⟩
  · rintro s g y d a b ⟨hg, -, -⟩ hb hroom v0 v3 len to_ from_ src dst count hsrc hdst h1 h2 h3 hcount
    refine ⟨fun hk hlen hred hmod htime => ?_, fun hk hlen hhi hmid hs hd => ?_⟩
    · rw [exec_coll, execColl_of_tests y hg hb hsrc hdst h1 h2 h3 hcount (by
        simp only
        rw [hk, decide_eq_true hlen, hred, hmod, bne_iff_ne.mpr htime]
        rfl)]
      simp only
      rw [if_pos hk, if_pos hk, issueIf_commanded y hroom rfl]
      rfl
    · have hs' : src.isStash = false := beq_eq_false_iff_ne.mpr hs
      have hd' : dst.isStash = false := beq_eq_false_iff_ne.mpr hd
      have hk0 : bits v3 63 62 ≠ 0 := by omega
      rw [exec_coll, execColl_of_tests y hg hb hsrc hdst h1 h2 h3 hcount (by
        simp only
        rw [hk, decide_eq_true hlen, hhi, hmid, hs', hd']
        rfl)]
      simp only
      rw [if_neg hk0, if_neg hk0, issueIf_commanded y hroom rfl]
      rfl
  · rintro s g y a b ⟨hg, -, -⟩ hroom c
    rw [exec_pub, exec_nsend]
    exact ⟨execPub_next y hg hroom, execNsend_next y hg hroom⟩

end Sys2Proof.Claims

/-! PROOFS. Copies: the obligation O25. -/

namespace Sys2Proof.Machine

/-- A field within a field of zeros is zero. -/
theorem bits_eq_zero_of_within {n : Nat} {w : BitVec n} {hi lo hi' lo' : Nat} (h : bits w hi lo = 0) (hlo : lo ≤ lo')
    (hhi : hi' ≤ hi) : bits w hi' lo' = 0 := by
  refine Nat.eq_of_testBit_eq fun i => ?_
  have hbit : (bits w hi lo).testBit (lo' - lo + i) = false := by rw [h, Nat.zero_testBit]
  rw [bits, Nat.testBit_mod_two_pow, Nat.testBit_shiftRight] at hbit
  rw [bits, Nat.testBit_mod_two_pow, Nat.testBit_shiftRight, Nat.zero_testBit]
  by_cases hi1 : i < hi' + 1 - lo'
  · have hi2 : lo' - lo + i < hi + 1 - lo := by omega
    have hi3 : lo + (lo' - lo + i) = lo' + i := by omega
    simpa [hi1, hi2, hi3] using hbit
  · simp [hi1]

end Sys2Proof.Machine

namespace Sys2Proof.Claims

open Sys2Proof Sys2Proof.Machine

section
variable (s : State) (g : Machine.Group) (remote : Bool) (d b : Fld)

/-- Whether a copy goes into the stash of another block. -/
def copyFree : Bool := decide (remote = true ∧ bits (g.rs (b.toNat + 3)) 63 62 = 1)

/-- The chip that a copy writes at. -/
def copyChip : BitVec 12 :=
  let v := g.rs (b.toNat + 3)
  if remote && bits v 63 62 == 0 then s.placeChip g (v.extractLsb' 50 6) (v.extractLsb' 56 6) else (g.rc d.toNat).home

/-- The block whose stash a copy writes, when it is another's. -/
def copyPeer : Option (Nat × Block) :=
  if copyFree g remote b then s.peerBlock g ((g.rs (b.toNat + 3)).extractLsb' 50 8) else none

/-- Whether the range that a copy writes is there. -/
def copyReaches : Bool :=
  !copyFree g remote b || (copyPeer s g remote b).any fun p =>
    decide ((g.rc d.toNat).base.toNat + bits (g.rs (b.toNat + 1)) 39 0 + bits (g.rs b.toNat) 39 0 ≤ p.2.alloc)

/-- The signal capability of a copy. -/
def copySignal : Option Cap :=
  let v := g.rs (b.toNat + 3)
  if v.getLsbD 26 then some (g.rc (bits v 31 27)) else none

/-- The command of a copy. -/
def copied (a : Fld) : Command :=
  let v := g.rs (b.toNat + 3)
  let len := bits (g.rs b.toNat) 39 0
  let blk := if copyFree g remote b then ((copyPeer s g remote b).map Prod.fst).getD 0 else g.block
  { fresh s g (.copy ((g.rc a.toNat).has rLC && (g.rc d.toNat).has rSC)) with
    reads := rangeOf (g.rc a.toNat) g.block (bits (g.rs (b.toNat + 2)) 39 0) len false
    writes := if copyReaches s g remote d b then
        rangeOf { g.rc d.toNat with home := copyChip s g remote d b } blk (bits (g.rs (b.toNat + 1)) 39 0) len (v.getLsbD 24) else []
    status := if copyReaches s g remote d b then 0 else 5
    count := if v.getLsbD 23 then some (bits v 21 16) else none
    remoteCount := if v.getLsbD 25 && copyReaches s g remote d b then some (blk, bits v 21 16) else none
    signal := copySignal g b }

/-- The range that a copy writes, as it is named. -/
def copyTarget : Named := ⟨g.rc d.toNat, rW ||| rE, bits (g.rs (b.toNat + 1)) 39 0, bits (g.rs b.toNat) 39 0⟩

/-- Whether the mode, the counts and the shadow bit of a copy pass their tests. -/
def copyModeOk : Bool :=
  let v := g.rs (b.toNat + 3)
  let mode := bits v 63 62
  let dst := g.rc d.toNat
  !(decide (2 ≤ mode) || (!remote && (mode != 0 || bits v 61 50 != 0)) || (remote && mode == 0 && dst.isStash)
      || (remote && mode == 1 && (!dst.isStash || bits v 61 58 != 0)))
    && !(v.getLsbD 25 && mode != 1) && !(v.getLsbD 24 && (dst.isStash || copyChip s g remote d b != s.fab.self))

end

section
variable {s : State} {g : Machine.Group} (y : Bool) {remote : Bool} {d a b : Fld}

/-- The signal capability that a copy names. -/
def copySignals (g : Machine.Group) (b : Fld) : List Named :=
  match copySignal g b with
  | none => []
  | some c => [⟨c, rW ||| rE, 0, 8⟩]

theorem copySignals_eq (g : Machine.Group) (b : Fld) : copySignals g b = if (g.rs (b.toNat + 3)).getLsbD 26 = true then
    [⟨g.rc (bits (g.rs (b.toNat + 3)) 31 27), rW ||| rE, 0, 8⟩] else [] := by
  unfold copySignals copySignal
  simp only
  by_cases h : (g.rs (b.toNat + 3)).getLsbD 26 = true
  · rw [if_pos h, if_pos h]
  · rw [if_neg h, if_neg h]

theorem copySignals_pass (hsig : (g.rs (b.toNat + 3)).getLsbD 26 = true →
      Names s g (g.rc (bits (g.rs (b.toNat + 3)) 31 27)) rW 0 8) {alloc : Option Nat} (halloc : ∀ n ∈ alloc, n = s.allocOf g) :
    ∀ n ∈ copySignals g b, n.cap.tag = true ∧ n.cap.has n.rights = true ∧ n.inside alloc = true := by
  intro n hn
  rw [copySignals_eq] at hn
  by_cases h : (g.rs (b.toNat + 3)).getLsbD 26 = true
  · rw [if_pos h, List.mem_singleton] at hn
    rw [hn]
    exact (hsig h).passes halloc
  · rw [if_neg h] at hn
    exact absurd hn List.not_mem_nil

theorem copySignal_aligned (hsig : (g.rs (b.toNat + 3)).getLsbD 26 = true →
      (g.rc (bits (g.rs (b.toNat + 3)) 31 27)).base.toNat % 8 = 0) : ∀ c ∈ copySignal g b, c.base.toNat % 8 = 0 := by
  intro c hc
  unfold copySignal at hc
  simp only [Option.mem_def, Option.ite_none_right_eq_some, Option.some.injEq] at hc
  obtain ⟨h, rfl⟩ := hc
  exact hsig h

/-- A copy whose tests pass issues its command. -/
theorem copy_of_tests (hg : s.group s.cursor.group = some g) (hb : b.toNat ≤ 124)
    (hsrc : Names s g (g.rc a.toNat) rR (bits (g.rs (b.toNat + 2)) 39 0) (bits (g.rs b.toNat) 39 0))
    (htag : (g.rc d.toNat).tag = true) (hright : (g.rc d.toNat).has (rW ||| rE) = true)
    (hlen : bits (g.rs (b.toNat + 1)) 39 0 + bits (g.rs b.toNat) 39 0 ≤ (g.rc d.toNat).length.toNat)
    (hstash : copyFree g remote b = false → (g.rc d.toNat).object = 0 →
      (g.rc d.toNat).base.toNat + bits (g.rs (b.toNat + 1)) 39 0 + bits (g.rs b.toNat) 39 0 ≤ s.allocOf g)
    (h0 : bits (g.rs b.toNat) 63 40 = 0) (h1 : bits (g.rs (b.toNat + 1)) 63 40 = 0) (h2 : bits (g.rs (b.toNat + 2)) 63 40 = 0)
    (h3 : bits (g.rs (b.toNat + 3)) 49 32 = 0) (h22 : (g.rs (b.toNat + 3)).getLsbD 22 = false)
    (hlow : bits (g.rs (b.toNat + 3)) 15 0 = 0)
    (hcount : Counts s g ((g.rs (b.toNat + 3)).getLsbD 23 || (g.rs (b.toNat + 3)).getLsbD 25) (bits (g.rs (b.toNat + 3)) 21 16))
    (hsig : (g.rs (b.toNat + 3)).getLsbD 26 = true → (g.rc (bits (g.rs (b.toNat + 3)) 31 27)).base.toNat % 8 = 0
      ∧ Names s g (g.rc (bits (g.rs (b.toNat + 3)) 31 27)) rW 0 8)
    (hmode : copyModeOk s g remote d b = true) :
    s.copy y remote d a b = s.issueIf g y (copied s g remote d b a) id := by
  have hany : namedFail none ([⟨g.rc a.toNat, rR ||| rE, bits (g.rs (b.toNat + 2)) 39 0, bits (g.rs b.toNat) 39 0⟩]
      ++ copyTarget g d b :: copySignals g b) = none := by
    refine namedFail_eq_none fun n hn => ?_
    rw [List.mem_append, List.mem_singleton, List.mem_cons] at hn
    rcases hn with rfl | rfl | hn
    · exact hsrc.passes (by simp)
    · exact ⟨htag, hright, by simp [Named.inside, copyTarget, hlen]⟩
    · exact copySignals_pass (fun h => (hsig h).2) (by simp) n hn
  have hhere : namedFail (some (s.allocOf g))
      ([⟨g.rc a.toNat, rR ||| rE, bits (g.rs (b.toNat + 2)) 39 0, bits (g.rs b.toNat) 39 0⟩]
        ++ (if copyFree g remote b then [] else [copyTarget g d b]) ++ copySignals g b) = none := by
    refine namedFail_eq_none fun n hn => ?_
    rw [List.mem_append, List.mem_append, List.mem_singleton] at hn
    rcases hn with (rfl | hn) | hn
    · exact hsrc.passes (by simp)
    · cases hf : copyFree g remote b with
      | true => simp [hf] at hn
      | false =>
        simp only [hf, Bool.false_eq_true, if_false, List.mem_singleton] at hn
        rw [hn]
        exact Names.passes (need := rW) ⟨htag, hright, hlen, hstash hf⟩ (by simp)
    · exact copySignals_pass (fun h => (hsig h).2) (by simp) n hn
  have hfail : (match namedFail none ([⟨g.rc a.toNat, rR ||| rE, bits (g.rs (b.toNat + 2)) 39 0, bits (g.rs b.toNat) 39 0⟩]
        ++ copyTarget g d b :: copySignals g b) with
      | some c => some c
      | none => namedFail (some (s.allocOf g))
        ([⟨g.rc a.toNat, rR ||| rE, bits (g.rs (b.toNat + 2)) 39 0, bits (g.rs b.toNat) 39 0⟩]
          ++ (if copyFree g remote b then [] else [copyTarget g d b]) ++ copySignals g b)) = none := by
    rw [hany]
    exact hhere
  rw [State.copy, State.issue_of_group _ hg, decide_eq_true hb]
  simp only [State.need, if_true, hcount.countField]
  refine (State.tested_of_ok s g (sig := copySignal g b) _ (copySignal_aligned fun h => (hsig h).1) hfail ?_).trans ?_
  · simp only [h0, h1, h2, h3, h22, hlow, Option.isSome_some, Bool.and_true]
    exact hmode
  · have hreach : (!copyFree g remote b || match copyPeer s g remote b with
        | none => false
        | some p => decide ((g.rc d.toNat).base.toNat + bits (g.rs (b.toNat + 1)) 39 0 + bits (g.rs b.toNat) 39 0 ≤ p.2.alloc))
        = copyReaches s g remote d b := by
      unfold copyReaches
      cases copyPeer s g remote b <;> rfl
    refine congrArg (fun c => s.issueIf g y c id) ?_
    unfold copied
    rw [← hreach]
    congr 1
    · cases (g.rs (b.toNat + 3)).getLsbD 23 <;> rfl
    · cases (g.rs (b.toNat + 3)).getLsbD 25 with
      | false => rfl
      | true => simp only [Bool.or_true, if_true, Option.getD_some]; rfl

end

section
variable (s : State) (g : Machine.Group) {remote : Bool} (d a b : Fld)

/-- The command of a copy that does not go into another block's stash. -/
theorem copied_of_not_free (hfree : copyFree g remote b = false) (h25 : (g.rs (b.toNat + 3)).getLsbD 25 = false) :
    copied s g remote d b a = { fresh s g (.copy ((g.rc a.toNat).has rLC && (g.rc d.toNat).has rSC)) with
      reads := rangeOf (g.rc a.toNat) g.block (bits (g.rs (b.toNat + 2)) 39 0) (bits (g.rs b.toNat) 39 0) false
      writes := rangeOf { g.rc d.toNat with home := copyChip s g remote d b } g.block (bits (g.rs (b.toNat + 1)) 39 0)
        (bits (g.rs b.toNat) 39 0) ((g.rs (b.toNat + 3)).getLsbD 24)
      count := if (g.rs (b.toNat + 3)).getLsbD 23 then some (bits (g.rs (b.toNat + 3)) 21 16) else none
      signal := copySignal g b } := by
  unfold copied copyReaches
  simp only [hfree, h25, Bool.not_false, Bool.true_or, Bool.false_and, Bool.false_eq_true, if_true, if_false]
  rfl

/-- The command of a copy into the stash of another block, or its end with status 5. -/
theorem copied_of_free (hfree : copyFree g remote b = true) (hchip : copyChip s g remote d b = (g.rc d.toNat).home)
    (h24 : (g.rs (b.toNat + 3)).getLsbD 24 = false) :
    copied s g remote d b a =
      let v := g.rs (b.toNat + 3)
      let c : Command := { fresh s g (.copy ((g.rc a.toNat).has rLC && (g.rc d.toNat).has rSC)) with
        reads := rangeOf (g.rc a.toNat) g.block (bits (g.rs (b.toNat + 2)) 39 0) (bits (g.rs b.toNat) 39 0) false
        count := if v.getLsbD 23 then some (bits v 21 16) else none
        signal := copySignal g b }
      (s.peerBlock g (v.extractLsb' 50 8)).elim { c with status := 5 } fun p =>
        if (g.rc d.toNat).base.toNat + bits (g.rs (b.toNat + 1)) 39 0 + bits (g.rs b.toNat) 39 0 ≤ p.2.alloc then
          { c with writes := rangeOf (g.rc d.toNat) p.1 (bits (g.rs (b.toNat + 1)) 39 0) (bits (g.rs b.toNat) 39 0) false
                   remoteCount := if v.getLsbD 25 then some (p.1, bits v 21 16) else none }
        else { c with status := 5 } := by
  unfold copied copyReaches copyPeer
  simp only [hfree, hchip, h24, if_true, Bool.not_true, Bool.false_or]
  cases s.peerBlock g ((g.rs (b.toNat + 3)).extractLsb' 50 8) with
  | none =>
    simp only [Option.any_none, Bool.and_false, Bool.false_eq_true, if_false, Option.elim_none]
    rfl
  | some p =>
    simp only [Option.any_some, Option.elim_some]
    by_cases hp : (g.rc d.toNat).base.toNat + bits (g.rs (b.toNat + 1)) 39 0 + bits (g.rs b.toNat) 39 0 ≤ p.2.alloc
    · simp only [hp, decide_true, if_true, Bool.and_true]
      rfl
    · simp only [hp, decide_false, Bool.false_eq_true, if_false, Bool.and_false]
      rfl

variable {s g d b}

/-- The mode test of a copy that does not count remotely and does not go into another block's stash. -/
theorem copyModeOk_of_not_free (h25 : (g.rs (b.toNat + 3)).getLsbD 25 = false) (hmode : bits (g.rs (b.toNat + 3)) 63 62 = 0)
    (hplace : remote = false → bits (g.rs (b.toNat + 3)) 61 50 = 0) (hobj : remote = true → (g.rc d.toNat).object ≠ 0)
    (hshadow : (g.rs (b.toNat + 3)).getLsbD 24 = true →
      (g.rc d.toNat).object ≠ 0 ∧ copyChip s g remote d b = s.fab.self) :
    copyModeOk s g remote d b = true := by
  have hsh : ((g.rs (b.toNat + 3)).getLsbD 24
      && ((g.rc d.toNat).isStash || copyChip s g remote d b != s.fab.self)) = false := by
    cases hv : (g.rs (b.toNat + 3)).getLsbD 24 with
    | false => rfl
    | true =>
      obtain ⟨hne, hchip⟩ := hshadow hv
      rw [Cap.isStash, beq_eq_false_iff_ne.mpr hne, hchip, bne_self_eq_false]
      rfl
  unfold copyModeOk
  simp only [hsh, hmode, h25]
  cases remote with
  | false =>
    rw [hplace rfl]
    rfl
  | true =>
    rw [Cap.isStash, beq_eq_false_iff_ne.mpr (hobj rfl)]
    rfl

/-- The mode test of a copy into another block's stash. -/
theorem copyModeOk_of_free (hmode : bits (g.rs (b.toNat + 3)) 63 62 = 1) (hzero : bits (g.rs (b.toNat + 3)) 61 58 = 0)
    (hobj : (g.rc d.toNat).object = 0) (h24 : (g.rs (b.toNat + 3)).getLsbD 24 = false) : copyModeOk s g true d b = true := by
  have hs : (g.rc d.toNat).isStash = true := beq_iff_eq.mpr hobj
  unfold copyModeOk
  simp only [hmode, hzero, h24, hs]
  cases (g.rs (b.toNat + 3)).getLsbD 25 <;> rfl

end

/-- Settles O25: each form passes its tests; a CPY.R of mode 1 by the block that its place names. -/
theorem copiesIssueOneCommand : Obligations.CopiesIssueOneCommand := by
  unfold Obligations.CopiesIssueOneCommand
  refine ⟨?_, ?_⟩
  · rintro s g y d a b ⟨hg, -, -⟩ hb hroom len to_ from_ v src dst sig hsrc hdst h0 h1 h2 h3 h22 hlow h25 hshadow hcount hsig
    obtain ⟨htag, hright, hlen, hstash⟩ := hdst
    have hmode : bits v 63 62 = 0 := bits_eq_zero_of_within h3 (by omega) (by omega)
    have hplace : bits v 61 50 = 0 := bits_eq_zero_of_within h3 (by omega) (by omega)
    have hmid : bits v 49 32 = 0 := bits_eq_zero_of_within h3 (by omega) (by omega)
    have hcount' : Counts s g (v.getLsbD 23 || v.getLsbD 25) (bits v 21 16) := by
      rw [h25, Bool.or_false]
      exact hcount
    rw [exec_cpy, execCpy, copy_of_tests y hg hb hsrc htag hright hlen (fun _ => hstash) h0 h1 h2 hmid h22 hlow hcount' hsig
      (copyModeOk_of_not_free (remote := false) h25 hmode (fun _ => hplace) (by rintro ⟨⟩) hshadow), issueIf_commanded y hroom rfl,
      copied_of_not_free s g d a b rfl h25]
    rfl
  · rintro s g y d a b ⟨hg, -, -⟩ hb hroom len to_ from_ v src dst sig place c hsrc htag hright hlen h0 h1 h2 h3 h22 hlow hcount hsig
    refine ⟨fun hmode hobj h25 hshadow => ?_, fun hmode hzero hobj h24 => ?_⟩
    · have hmode' : (bits v 63 62 == 0) = true := beq_iff_eq.mpr hmode
      have hchip : copyChip s g true d b = place := if_pos hmode'
      have hfree : copyFree g true b = false := decide_eq_false fun h => absurd h.2 (by change ¬ bits v 63 62 = 1; omega)
      rw [exec_cpyR, execCpyR, copy_of_tests y hg hb hsrc htag hright hlen (fun _ ho => absurd ho hobj) h0 h1 h2 h3 h22 hlow hcount
        hsig (copyModeOk_of_not_free h25 hmode (by rintro ⟨⟩) (fun _ => hobj) fun h => ⟨hobj, hchip.trans (hshadow h)⟩),
        issueIf_commanded y hroom rfl, copied_of_not_free s g d a b hfree h25, hchip]
      rfl
    · have hmode' : ¬ (bits v 63 62 == 0) = true := by simp [hmode]
      have hchip : copyChip s g true d b = dst.home := if_neg hmode'
      have hfree : copyFree g true b = true := decide_eq_true ⟨rfl, hmode⟩
      rw [exec_cpyR, execCpyR, copy_of_tests y hg hb hsrc htag hright hlen (fun hf => by rw [hfree] at hf; cases hf) h0 h1 h2 h3 h22
        hlow hcount hsig (copyModeOk_of_free hmode hzero hobj h24), issueIf_commanded y hroom rfl,
        copied_of_free s g d a b hfree hchip h24]
      simp only
      cases s.peerBlock g (v.extractLsb' 50 8) <;> rfl

end Sys2Proof.Claims

/-! PROOFS. Issue of matrix work: lemmas for the obligation O30. -/

namespace Sys2Proof.Machine

/-! ### Tiles -/

theorem State.bindTile_cursor {s t : State} {h a k : Nat} {g g1 : Group} (hb : s.bindTile h g a = some (t, g1, k)) :
    t.cursor = s.cursor := by
  unfold State.bindTile at hb
  split at hb
  · cases hb
    rfl
  · simp only at hb
    split at hb
    · cases hb
    · cases hb
      rfl

theorem State.bindTiles_cursor {h : Nat} {as : List Nat} {s t : State} {g g1 : Group} {bound : List (Nat × Nat)}
    (hb : s.bindTiles h g as = some (t, g1, bound)) : t.cursor = s.cursor := by
  induction as generalizing s g bound with
  | nil =>
    cases hb
    rfl
  | cons a as ih =>
    rw [State.bindTiles] at hb
    split at hb
    · cases hb
    · next u g2 k hu =>
      obtain ⟨r, hr, he⟩ := Option.map_eq_some_iff.mp hb
      cases he
      exact (ih hr).trans (State.bindTile_cursor hu)

/-- The tile that a handle of a list is bound to. -/
def boundTile (bound : List (Nat × Nat)) (a : Nat) : Nat := ((bound.find? fun e => e.1 == a).map Prod.snd).getD 0

/-- A group whose handles are unbound again when its command frees them. -/
def Group.unbound (g : Group) (bound : List (Nat × Nat)) (unbind : Bool) : Group :=
  if unbind then { g with handle := Sparse.setAll none g.handle (bound.map fun e => (e.1, none)) } else g

theorem Group.unbound_eq (g : Group) (bound : List (Nat × Nat)) (unbind : Bool) :
    g.unbound bound unbind = { g with handle := (g.unbound bound unbind).handle } := by
  unfold Group.unbound
  split <;> rfl

/-- A matrix command whose handles are bound issues, and its gang goes on. -/
theorem State.mxIssue_of_bound {s t : State} {h : Nat} {g g1 : Group} {handles : List Nat} {bound : List (Nat × Nat)}
    (sl : List Nat) (pc : W64) (y unbind : Bool) {mk : (Nat → Nat) → Command → Command} (hroom : s.outstanding h < 1024)
    (hb : s.bindTiles h g handles = some (t, g1, bound)) (hc : s.cursor.group = h)
    (hmk : ∀ tile c, (mk tile c).group = c.group) :
    s.mxIssue h g sl pc y handles unbind mk = .next (Claims.commanded t (g1.unbound bound unbind) sl (pc + 4) y
      (mk (boundTile bound) (Claims.mxCommand t g1 bound unbind none []))) := by
  have ht : t.cursor.group = h := by rw [State.bindTiles_cursor hb, hc]
  have hcmd : ∀ c : Command, c.group = h → { c with group := h, batch := c.batch } = c := by
    rintro c rfl
    rfl
  unfold State.mxIssue
  rw [if_neg (by omega), hb]
  simp only [State.issueCommand]
  rw [hcmd _ (hmk _ _)]
  subst ht
  rfl

/-! ### Format words and operands -/

theorem State.withFormat_of_format {s : State} {g : Group} {a : Fld} {w : W32} (k : W32 → Res) (hf : Claims.Format s g a w) :
    s.withFormat g a.toNat k = k w := by
  obtain ⟨hwin, hw, hall, hok⟩ := hf
  have hvote : ((g.active s.cursor.slices).any fun l => g.rv a.toNat l != w) = false :=
    List.any_eq_false.mpr fun l hl => by simp [hall l hl]
  rw [State.withFormat, hwin]
  simp only [State.need, if_true, ← hw, hvote, hok, Bool.not_true, Bool.false_eq_true, if_false]

theorem Group.mem_activeVis {g : Group} {sl : List Nat} {i : Nat} :
    i ∈ g.activeVis sl ↔ i < g.visible ∧ (g.activeBits sl).getLsbD i = true := by
  rw [Group.activeVis, List.mem_filter, List.mem_range]

/-- A corner that its capability covers passes its tests. -/
theorem cornerFail_eq_none {s : State} {g : Group} {cap : Cap} {need : BitVec 8} {m n z off pitch : Nat}
    (h : Claims.Names s g cap need off ((m - 1) * pitch + n * z)) :
    cornerFail cap (need ||| rE) m n z off pitch (s.allocOf g) = none := by
  obtain ⟨htag, hright, hlen, hstash⟩ := h
  have hbound : ¬(m ≠ 0 ∧ n ≠ 0 ∧ (cap.length.toNat < off + (m - 1) * pitch + n * z
      ∨ (cap.isStash = true ∧ s.allocOf g < cap.base.toNat + (off + (m - 1) * pitch + n * z)))) := by
    rintro ⟨-, -, h | ⟨hs, h⟩⟩
    · omega
    · have := hstash (beq_iff_eq.mp hs)
      omega
  rw [cornerFail, htag, hright]
  simp only [Bool.not_true, Bool.false_eq_true, if_false]
  rw [if_neg hbound]

end Sys2Proof.Machine

namespace Sys2Proof.Claims

open Sys2Proof Sys2Proof.Machine

/-! ### The matrix instructions -/

section
variable {s t : State} {g g1 : Machine.Group} (y : Bool) {d a b : Fld} {w : W32} {bound : List (Nat × Nat)}
  (hg : s.group s.cursor.group = some g) (hroom : s.outstanding s.cursor.group < 1024) (hd : d.toNat < g.aCount)
  (hb : s.bindTiles s.cursor.group g [d.toNat] = some (t, g1, bound))
include hg hroom hd hb

theorem execMxza_next : execMxza y d s = .next (commanded t g1 s.cursor.slices (s.cursor.pc + 4) y
    (mxCommand t g1 bound false none [.zero (boundTile bound d.toNat) 96 96])) := by
  rw [execMxza, State.issue_of_group _ hg, decide_eq_true hd, State.need, if_pos rfl]
  exact State.mxIssue_of_bound _ _ y false hroom hb rfl fun _ _ => rfl

/-- MX.S of dimensions that are not zero, whose operands lie in the stash. -/
theorem execMxS_next (hf : Format s g a w) {m n k ab bb pitch rot : Nat} {zf : Bool}
    (hdims : dimsOf (g.rs (b.toNat + 0)) = some (m, n, k, zf)) (hab : baseOf (g.rs (b.toNat + 1)) = some ab)
    (hbb : baseOf (g.rs (b.toNat + 2)) = some bb) (hpitch : pitchOf (g.rs (b.toNat + 3)) = some (pitch, rot))
    (hm : m ≠ 0) (hn : n ≠ 0) (hk : k ≠ 0) (hfa : stashFits ab pitch rot m (rowBytes w (fmtA w) k) (s.allocOf g) = true)
    (hfb : stashFits bb pitch rot n (rowBytes w (fmtB w) k) (s.allocOf g) = true) :
    execMxS y d a b s = .next (commanded t g1 s.cursor.slices (s.cursor.pc + 4) y (mxCommand t g1 bound false none
      [.mul (boundTile bound d.toNat) w m n k zf (.stash ab pitch rot) (.stash bb pitch rot)])) := by
  rw [execMxS, State.mxMul, State.issue_of_group _ hg, decide_eq_true hd, State.need, if_pos rfl, State.withFormat_of_format _ hf]
  simp only [hdims, hab, hbb, hpitch, hfa, hfb, Bool.false_eq_true, if_false, if_true, Bool.not_true]
  rw [if_neg (by omega)]
  exact State.mxIssue_of_bound _ _ y false hroom hb rfl fun _ _ => rfl

/-- MX.R of dimensions that are not zero, whose A operand is a run of registers. -/
theorem execMxR_next (hf : Format s g a w) {m n k bb pitch rot : Nat} {zf : Bool}
    (hdims : dimsOf (g.rs (b.toNat + 0)) = some (m, n, k, zf)) (hzero : bits (g.rs (b.toNat + 1)) 63 7 = 0)
    (hbb : baseOf (g.rs (b.toNat + 2)) = some bb) (hpitch : pitchOf (g.rs (b.toNat + 3)) = some (pitch, rot))
    (hm : m ≠ 0) (hn : n ≠ 0) (hk : k ≠ 0) (hvis : m ≤ g.visible)
    (hrun : bits (g.rs (b.toNat + 1)) 6 0 + (rowBytes w (fmtA w) k + 3) / 4 ≤ 128)
    (hwin : g.winb + bits (g.rs (b.toNat + 1)) 6 0 + (rowBytes w (fmtA w) k + 3) / 4 ≤ g.extent)
    (hfb : stashFits bb pitch rot n (rowBytes w (fmtB w) k) (s.allocOf g) = true) :
    execMxR y d a b s = .next (commanded t g1 s.cursor.slices (s.cursor.pc + 4) y (mxCommand t g1 bound false none
      [.mul (boundTile bound d.toNat) w m n k zf
        (.rows ((List.range m).map fun i => (List.range (rowBytes w (fmtA w) k)).map fun q =>
          if i < g.visible ∧ (g.activeBits s.cursor.slices).getLsbD i then
            (g.rv (bits (g.rs (b.toNat + 1)) 6 0 + q / 4) (if g.prot then 2 * i else i)).extractLsb' (8 * (q % 4)) 8 else 0))
        (.stash bb pitch rot)])) := by
  have hrows : ¬(bits (g.rs (b.toNat + 1)) 63 7 ≠ 0 ∨ g.visible < m
      ∨ 128 < bits (g.rs (b.toNat + 1)) 6 0 + (rowBytes w (fmtA w) k + 3) / 4
      ∨ g.extent < g.winb + bits (g.rs (b.toNat + 1)) 6 0 + (rowBytes w (fmtA w) k + 3) / 4) := by omega
  rw [execMxR, State.mxMul, State.issue_of_group _ hg, decide_eq_true hd, State.need, if_pos rfl, State.withFormat_of_format _ hf]
  simp only [hdims, hbb, hpitch, hfb, if_neg hrows, Bool.false_eq_true, if_false, if_true, Bool.not_true,
    List.contains_iff_mem, Group.mem_activeVis]
  rw [if_neg (by omega)]
  exact State.mxIssue_of_bound _ _ y false hroom hb rfl fun _ _ => rfl

/-- MXLDA of a corner that is not empty. -/
theorem execMxlda_next (hf : Format s g a w) (hzero : bits (g.rs (b.toNat + 0)) 63 40 = 0)
    (h7 : (g.rs (b.toNat + 0)).getLsbD 7 = false) (hm : 1 ≤ bits (g.rs (b.toNat + 0)) 6 0) (hm' : bits (g.rs (b.toNat + 0)) 6 0 ≤ 96)
    (hn : 1 ≤ bits (g.rs (b.toNat + 0)) 14 8) (hn' : bits (g.rs (b.toNat + 0)) 14 8 ≤ 96)
    (hoff : (g.rs (b.toNat + 1)).toNat % accBytes w = 0) (hpitch : bits (g.rs (b.toNat + 0)) 39 20 % accBytes w = 0)
    (hnames : Names s g (g.rc (bits (g.rs (b.toNat + 0)) 19 15)) rR (g.rs (b.toNat + 1)).toNat
      ((bits (g.rs (b.toNat + 0)) 6 0 - 1) * bits (g.rs (b.toNat + 0)) 39 20 + bits (g.rs (b.toNat + 0)) 14 8 * accBytes w)) :
    execMxlda y d a b s = .next (commanded t g1 s.cursor.slices (s.cursor.pc + 4) y (mxCommand t g1 bound false none
      [.load (boundTile bound d.toNat) w (bits (g.rs (b.toNat + 0)) 6 0) (bits (g.rs (b.toNat + 0)) 14 8)
        (g.rc (bits (g.rs (b.toNat + 0)) 19 15)) (g.rs (b.toNat + 1)).toNat (bits (g.rs (b.toNat + 0)) 39 20)])) := by
  rw [Nat.add_zero] at *
  have hoperand : ¬(bits (g.rs b.toNat) 63 40 ≠ 0 ∨ (g.rs b.toNat).getLsbD 7 = true ∨ 96 < bits (g.rs b.toNat) 6 0
      ∨ 96 < bits (g.rs b.toNat) 14 8 ∨ (g.rs (b.toNat + 1)).toNat % accBytes w ≠ 0
      ∨ bits (g.rs b.toNat) 39 20 % accBytes w ≠ 0) := by
    simp only [hzero, h7, hoff, hpitch, ne_eq, not_true, Bool.false_eq_true, or_false, false_or]
    omega
  rw [execMxlda, State.issue_of_group _ hg, decide_eq_true hd, State.need, if_pos rfl, State.withFormat_of_format _ hf]
  simp only [cornerFail_eq_none hnames, if_neg hoperand]
  rw [if_neg (by omega)]
  exact State.mxIssue_of_bound _ _ y false hroom hb rfl fun _ _ => rfl

/-- MXST of a corner that is not empty. -/
theorem execMxst_next (hf : Format s g a w) (hhi : bits (g.rs (b.toNat + 0)) 63 40 = 0)
    (hmid : bits (g.rs (b.toNat + 0)) 39 22 = 0) (h7 : (g.rs (b.toNat + 0)).getLsbD 7 = false)
    (hp : bits (g.rs (b.toNat + 2)) 63 20 = 0) (hbar : bits (g.rs (b.toNat + 3)) 63 8 = 0)
    (h6 : (g.rs (b.toNat + 3)).getLsbD 6 = false)
    (hcount : Counts s g ((g.rs (b.toNat + 3)).getLsbD 7) (bits (g.rs (b.toNat + 3)) 5 0))
    (hm : 1 ≤ bits (g.rs (b.toNat + 0)) 6 0) (hm' : bits (g.rs (b.toNat + 0)) 6 0 ≤ 96)
    (hn : 1 ≤ bits (g.rs (b.toNat + 0)) 14 8) (hn' : bits (g.rs (b.toNat + 0)) 14 8 ≤ 96)
    (hoff : (g.rs (b.toNat + 1)).toNat % accBytes w = 0) (hpitch : bits (g.rs (b.toNat + 2)) 19 0 % accBytes w = 0)
    (hnames : Names s g (g.rc (bits (g.rs (b.toNat + 0)) 19 15)) rW (g.rs (b.toNat + 1)).toNat
      ((bits (g.rs (b.toNat + 0)) 6 0 - 1) * bits (g.rs (b.toNat + 2)) 19 0 + bits (g.rs (b.toNat + 0)) 14 8 * accBytes w))
    (hshadow : (g.rs (b.toNat + 0)).getLsbD 20 = true → (g.rc (bits (g.rs (b.toNat + 0)) 19 15)).object ≠ 0
      ∧ (g.rc (bits (g.rs (b.toNat + 0)) 19 15)).home = s.fab.self) :
    execMxst y d a b s = .next (commanded t (g1.unbound bound ((g.rs (b.toNat + 0)).getLsbD 21)) s.cursor.slices (s.cursor.pc + 4) y
      (mxCommand t g1 bound ((g.rs (b.toNat + 0)).getLsbD 21)
        (if (g.rs (b.toNat + 3)).getLsbD 7 then some (bits (g.rs (b.toNat + 3)) 5 0) else none)
        [.store (boundTile bound d.toNat) w (g.roundCode w) (bits (g.rs (b.toNat + 0)) 6 0) (bits (g.rs (b.toNat + 0)) 14 8)
          (g.rc (bits (g.rs (b.toNat + 0)) 19 15)) (g.rs (b.toNat + 1)).toNat (bits (g.rs (b.toNat + 2)) 19 0)
          ((g.rs (b.toNat + 0)).getLsbD 20)])) := by
  rw [Nat.add_zero] at *
  have hsh : ¬((g.rs b.toNat).getLsbD 20 = true ∧ ((g.rc (bits (g.rs b.toNat) 19 15)).isStash = true
      ∨ (g.rc (bits (g.rs b.toNat) 19 15)).home ≠ s.fab.self)) := by
    rintro ⟨h, hs | hh⟩
    · exact (hshadow h).1 (beq_iff_eq.mp hs)
    · exact hh (hshadow h).2
  have hoperand : ¬(bits (g.rs b.toNat) 63 40 ≠ 0 ∨ bits (g.rs b.toNat) 39 22 ≠ 0 ∨ (g.rs b.toNat).getLsbD 7 = true
      ∨ 96 < bits (g.rs b.toNat) 6 0 ∨ 96 < bits (g.rs b.toNat) 14 8 ∨ bits (g.rs (b.toNat + 2)) 63 20 ≠ 0
      ∨ bits (g.rs (b.toNat + 3)) 63 8 ≠ 0 ∨ (g.rs (b.toNat + 3)).getLsbD 6 = true
      ∨ (g.rs (b.toNat + 1)).toNat % accBytes w ≠ 0 ∨ bits (g.rs (b.toNat + 2)) 19 0 % accBytes w ≠ 0
      ∨ ((g.rs b.toNat).getLsbD 20 = true ∧ ((g.rc (bits (g.rs b.toNat) 19 15)).isStash = true
        ∨ (g.rc (bits (g.rs b.toNat) 19 15)).home ≠ s.fab.self))) := by
    simp only [hhi, hmid, h7, hp, hbar, h6, hoff, hpitch, hsh, ne_eq, not_true, Bool.false_eq_true, or_false, false_or]
    omega
  have hempty : ¬(bits (g.rs b.toNat) 6 0 = 0 ∨ bits (g.rs b.toNat) 14 8 = 0) := by omega
  rw [execMxst, State.issue_of_group _ hg, decide_eq_true hd, State.need, if_pos rfl, State.withFormat_of_format _ hf]
  simp only [cornerFail_eq_none hnames, hcount.countField, if_neg hoperand, if_neg hempty]
  exact State.mxIssue_of_bound _ _ y _ hroom hb rfl fun _ _ => rfl

end

end Sys2Proof.Claims

/-! PROOFS. Job cards: the obligation O30. -/

namespace Sys2Proof.Machine

/-! ### Fields of a card -/

theorem rowNat_lt (row : List Byte) (off n : Nat) : rowNat row off n < 256 ^ n := by
  induction n generalizing off with
  | zero => exact Nat.one_pos
  | succ n ih =>
    have hbyte : (row.getD off 0).toNat < 256 := (row.getD off 0).isLt
    have hrest := ih (off + 1)
    rw [rowNat, Nat.pow_succ]
    omega

theorem toNat_ofNat_rowNat (row : List Byte) (off : Nat) {n : Nat} (hn : n ≤ 8) :
    (BitVec.ofNat 64 (rowNat row off n)).toNat = rowNat row off n := by
  rw [BitVec.toNat_ofNat, Nat.mod_eq_of_lt]
  calc rowNat row off n < 256 ^ n := rowNat_lt _ _ _
    _ ≤ 256 ^ 8 := Nat.pow_le_pow_right (by decide) hn
    _ = 2 ^ 64 := by decide

theorem getLsbD_ofNat_rowNat (row : List Byte) (off : Nat) {n : Nat} (hn : n ≤ 8) (i : Nat) :
    (BitVec.ofNat 64 (rowNat row off n)).getLsbD i = decide (rowNat row off n / 2 ^ i % 2 = 1) := by
  rw [BitVec.getLsbD, toNat_ofNat_rowNat row off hn, Nat.testBit_eq_decide_div_mod_eq]

theorem bits_ofNat_rowNat (row : List Byte) (off : Nat) {n : Nat} (hn : n ≤ 8) (hi lo : Nat) :
    bits (BitVec.ofNat 64 (rowNat row off n)) hi lo = rowNat row off n / 2 ^ lo % 2 ^ (hi + 1 - lo) := by
  rw [bits, toNat_ofNat_rowNat row off hn, Nat.shiftRight_eq_div_pow]

theorem dimsOf_eq_some {v : W64} {m n k : Nat} {zf : Bool} (h : dimsOf v = some (m, n, k, zf)) :
    bits v 6 0 = m ∧ bits v 14 8 = n ∧ bits v 39 16 = k := by
  unfold dimsOf at h
  split at h
  · cases h
  · cases h
    exact ⟨rfl, rfl, rfl⟩

/-- A job with no steps tests the right LC alone. -/
theorem jobCapCause_empty {ls : List JobLevel} {lc : Bool} (m n alloc : Nat) (out : Cap) (offset outPitch z : Nat)
    (hlc : (∃ l ∈ ls, l.s = true) → lc = true) : jobCapCause ls true lc m n alloc out offset outPitch z = none := by
  unfold jobCapCause
  by_cases h : ls.any JobLevel.s = true
  · have hlc' : lc = true := hlc (by simpa using h)
    simp [h, hlc']
  · simp [h]

theorem mem_of_mem_storeLevels {ls : List JobLevel} {l : JobLevel} (h : l ∈ storeLevels ls) : l ∈ ls := by
  unfold storeLevels at h
  obtain ⟨i, -, hi⟩ := List.mem_filterMap.mp (List.mem_of_mem_filter h)
  exact List.mem_of_getElem? hi

/-! ### A card that has arrived -/

/-- The levels of a card. -/
def cardLevels (card : List Byte) : List JobLevel := (List.range 5).map (jobLevel card)

/-- The output capability of a card. -/
def cardOut (card : List Byte) (tagged : Prop) [Decidable tagged] : Cap :=
  capOf (rowNat card 0x20 16 + (if tagged then 2 ^ 128 else 0))

/-- The handles that a job uses. -/
def jobHandles (ls : List JobLevel) (d : Nat) : List Nat :=
  sortKeys ((indexSpace (ls.map JobLevel.n)).flatMap fun ix => (List.range 5).filterMap fun l =>
    if l = 4 ∨ ((ls[l]?).map fun x => x.z || x.s).getD false then some ((d : Int) + strideSum ls ix l JobLevel.h).toNat else none)

/-- What is wrong with the stores of a card: a misaligned offset, pitch or stride, or a shadow that is not of this chip. -/
abbrev jobStoreFault (s : State) (ls : List JobLevel) (out : Cap) (off rowPitch z : Nat) (shadow : Bool) : Prop :=
  ls.any JobLevel.s = true ∧ (off % z ≠ 0 ∨ rowPitch % z ≠ 0
    ∨ ((storeLevels ls).any fun l => decide (l.c % (z : Int) ≠ 0)) = true
    ∨ (shadow = true ∧ (out.isStash = true ∨ out.home ≠ s.fab.self)))

theorem not_jobStoreFault {s : State} {ls : List JobLevel} {out : Cap} {off rowPitch z : Nat} {shadow : Bool}
    (hstore : (∃ l ∈ ls, l.s = true) → off % z = 0 ∧ rowPitch % z = 0 ∧ (∀ l ∈ ls, l.c % (z : Int) = 0)
      ∧ (shadow = true → out.isStash = false ∧ out.home = s.fab.self)) : ¬ jobStoreFault s ls out off rowPitch z shadow := by
  rintro ⟨hs, hbad⟩
  obtain ⟨hoff, hpitch, hc, hout⟩ := hstore (by simpa using hs)
  rcases hbad with h | h | h | ⟨hsh, h | h⟩
  · exact h hoff
  · exact h hpitch
  · obtain ⟨l, hl, hne⟩ := List.any_eq_true.mp h
    exact (of_decide_eq_true hne) (hc l (mem_of_mem_storeLevels hl))
  · rw [(hout hsh).1] at h
    cases h
  · exact h (hout hsh).2

section
variable {h : Nat} {o : MemOp} {s : State} {g : Group} {w : W32} {d rm m n k ab bb pitch rot : Nat} {lc : Bool}
  (hargs : o.args = [w.toNat, d, rm, if lc then 1 else 0]) (hf : Claims.CardFields s g (cardBytes o) m n k ab bb pitch rot)
include hargs hf

/-- A card whose fields are in order, past its capability tests. -/
theorem State.jobRead_of_fields {empty : Bool}
    (hempty : (m == 0 || n == 0 || k == 0 || (cardLevels (cardBytes o)).any fun l => l.n == 0) = empty)
    (hcap : jobCapCause (cardLevels (cardBytes o)) empty lc m n (s.allocOf g) (cardOut (cardBytes o) (cardTag o = true ∧ lc = true))
      (rowNat (cardBytes o) 0x30 8) (rowNat (cardBytes o) 0x38 4 % 2 ^ 20) (accBytes w) = none) :
    State.jobRead h o s g =
      if empty = true then s.mxIssue h g o.slices o.pc o.y [] false fun _ c => c
      else if jobStoreFault s (cardLevels (cardBytes o)) (cardOut (cardBytes o) (cardTag o = true ∧ lc = true))
          (rowNat (cardBytes o) 0x30 8) (rowNat (cardBytes o) 0x38 4 % 2 ^ 20) (accBytes w)
          (decide (rowNat (cardBytes o) 0x3C 4 % 2 = 1)) then s.trapAt h g o .operand
      else if (!jobFits (cardLevels (cardBytes o)) w m n k d g.aCount ab bb pitch rot (s.allocOf g)) = true then
        s.trapAt h g o .operand
      else s.mxIssue h g o.slices o.pc o.y (jobHandles (cardLevels (cardBytes o)) d)
        (decide (rowNat (cardBytes o) 0x3C 4 / 2 % 2 = 1)) fun tile c => { c with
          count := if rowNat (cardBytes o) 0x3C 4 / 2 ^ 14 % 2 = 1 then some (rowNat (cardBytes o) 0x3C 4 / 2 ^ 8 % 64) else none
          steps := (indexSpace ((cardLevels (cardBytes o)).map JobLevel.n)).flatMap
            (jobSteps (cardLevels (cardBytes o)) tile w rm m n k d ab bb pitch rot
              (cardOut (cardBytes o) (cardTag o = true ∧ lc = true)) (rowNat (cardBytes o) 0x30 8)
              (rowNat (cardBytes o) 0x38 4 % 2 ^ 20) (decide (rowNat (cardBytes o) 0x3C 4 % 2 = 1))) } := by
  obtain ⟨hdims, hab, hbb, hpitch, hrow, hfl, hfl', hres, hcount⟩ := hf
  have hw : BitVec.ofNat 32 (o.args.getD 0 0) = w := by
    rw [hargs]
    exact (BitVec.ofNat_toNat _ _).trans (BitVec.setWidth_eq _)
  have hd : o.args.getD 1 0 = d := by rw [hargs]; rfl
  have hrm : o.args.getD 2 0 = rm := by rw [hargs]; rfl
  have hlcarg : (o.args.getD 3 0 = 1) = (lc = true) := by
    rw [hargs]
    cases lc <;> simp
  obtain ⟨rfl, rfl, rfl⟩ := dimsOf_eq_some hdims
  have hreserved : (cardLevels (cardBytes o)).any JobLevel.reserved = false :=
    List.any_eq_false.mpr fun l hl => by simp [hres l hl]
  have hoff : (BitVec.ofNat 64 (rowNat (cardBytes o) 48 8)).toNat = rowNat (cardBytes o) 48 8 := toNat_ofNat_rowNat _ _ le_rfl
  have hpitchField : bits (BitVec.ofNat 64 (rowNat (cardBytes o) 56 4)) 19 0 = rowNat (cardBytes o) 56 4 % 2 ^ 20 := by
    rw [bits_ofNat_rowNat _ _ (by decide), Nat.pow_zero, Nat.div_one]
  have hshadow : (BitVec.ofNat 64 (rowNat (cardBytes o) 60 4)).getLsbD 0 = decide (rowNat (cardBytes o) 60 4 % 2 = 1) := by
    rw [getLsbD_ofNat_rowNat _ _ (by decide), Nat.pow_zero, Nat.div_one]
  have hfree : (BitVec.ofNat 64 (rowNat (cardBytes o) 60 4)).getLsbD 1 = decide (rowNat (cardBytes o) 60 4 / 2 % 2 = 1) := by
    rw [getLsbD_ofNat_rowNat _ _ (by decide), Nat.pow_one]
  have hcounts : (BitVec.ofNat 64 (rowNat (cardBytes o) 60 4)).getLsbD 14 = decide (rowNat (cardBytes o) 60 4 / 2 ^ 14 % 2 = 1) :=
    getLsbD_ofNat_rowNat _ _ (by decide) _
  have hbarrier : bits (BitVec.ofNat 64 (rowNat (cardBytes o) 60 4)) 13 8 = rowNat (cardBytes o) 60 4 / 2 ^ 8 % 64 :=
    bits_ofNat_rowNat _ _ (by decide) _ _
  have hcountField : s.countField g (decide (rowNat (cardBytes o) 60 4 / 2 ^ 14 % 2 = 1)) (rowNat (cardBytes o) 60 4 / 2 ^ 8 % 64)
      = some (if rowNat (cardBytes o) 60 4 / 2 ^ 14 % 2 = 1 then some (rowNat (cardBytes o) 60 4 / 2 ^ 8 % 64) else none) := by
    simp only [hcounts, hbarrier] at hcount
    rw [hcount.countField]
    simp only [decide_eq_true_eq]
  subst hempty
  simp only [cardLevels, cardOut] at hcap hreserved
  unfold State.jobRead
  simp only [hw, hd, hrm, hlcarg, hoff, hpitchField, Bool.decide_eq_true]
  rw [hcap]
  simp only [hdims, hab, hbb, hpitch, hrow, hfl, hfl', hreserved, hshadow, hfree, hcounts, hbarrier, hcountField,
    Bool.false_eq_true, ne_eq, not_true, or_self, if_false]
  rfl

/-- A card with no steps to make issues a command without steps. -/
theorem State.jobRead_of_empty (hlc : (∃ l ∈ cardLevels (cardBytes o), l.s = true) → lc = true)
    (hempty : m = 0 ∨ n = 0 ∨ k = 0 ∨ ∃ l ∈ cardLevels (cardBytes o), l.n = 0) :
    State.jobRead h o s g = s.mxIssue h g o.slices o.pc o.y [] false fun _ c => c := by
  have he : (m == 0 || n == 0 || k == 0 || (cardLevels (cardBytes o)).any fun l => l.n == 0) = true := by
    simpa [or_assoc] using hempty
  rw [State.jobRead_of_fields hargs hf he (jobCapCause_empty _ _ _ _ _ _ _ hlc), if_pos rfl]

/-- A card whose tests pass issues the steps of its index space. -/
theorem State.jobRead_of_steps (hm : m ≠ 0) (hn : n ≠ 0) (hk : k ≠ 0) (hlevels : ∀ l ∈ cardLevels (cardBytes o), l.n ≠ 0)
    (hcap : jobCapCause (cardLevels (cardBytes o)) false lc m n (s.allocOf g) (cardOut (cardBytes o) (cardTag o = true ∧ lc = true))
      (rowNat (cardBytes o) 0x30 8) (rowNat (cardBytes o) 0x38 4 % 2 ^ 20) (accBytes w) = none)
    (hstore : (∃ l ∈ cardLevels (cardBytes o), l.s = true) → rowNat (cardBytes o) 0x30 8 % accBytes w = 0
      ∧ rowNat (cardBytes o) 0x38 4 % 2 ^ 20 % accBytes w = 0 ∧ (∀ l ∈ cardLevels (cardBytes o), l.c % (accBytes w : Int) = 0)
      ∧ (rowNat (cardBytes o) 0x3C 4 % 2 = 1 → (cardOut (cardBytes o) (cardTag o = true ∧ lc = true)).isStash = false
        ∧ (cardOut (cardBytes o) (cardTag o = true ∧ lc = true)).home = s.fab.self))
    (hfits : jobFits (cardLevels (cardBytes o)) w m n k d g.aCount ab bb pitch rot (s.allocOf g) = true) :
    State.jobRead h o s g = s.mxIssue h g o.slices o.pc o.y (jobHandles (cardLevels (cardBytes o)) d)
      (decide (rowNat (cardBytes o) 0x3C 4 / 2 % 2 = 1)) fun tile c => { c with
        count := if rowNat (cardBytes o) 0x3C 4 / 2 ^ 14 % 2 = 1 then some (rowNat (cardBytes o) 0x3C 4 / 2 ^ 8 % 64) else none
        steps := (indexSpace ((cardLevels (cardBytes o)).map JobLevel.n)).flatMap
          (jobSteps (cardLevels (cardBytes o)) tile w rm m n k d ab bb pitch rot
            (cardOut (cardBytes o) (cardTag o = true ∧ lc = true)) (rowNat (cardBytes o) 0x30 8)
            (rowNat (cardBytes o) 0x38 4 % 2 ^ 20) (decide (rowNat (cardBytes o) 0x3C 4 % 2 = 1))) } := by
  have he : (m == 0 || n == 0 || k == 0 || (cardLevels (cardBytes o)).any fun l => l.n == 0) = false := by
    simpa [hm, hn, hk] using hlevels
  have hfault := not_jobStoreFault (s := s) (ls := cardLevels (cardBytes o)) (z := accBytes w)
    (shadow := decide (rowNat (cardBytes o) 0x3C 4 % 2 = 1)) fun hs =>
      let ⟨hoff, hpitch, hc, hout⟩ := hstore hs
      ⟨hoff, hpitch, hc, fun h => hout (of_decide_eq_true h)⟩
  rw [State.jobRead_of_fields hargs hf he hcap, if_neg (by decide), if_neg hfault, if_neg (by simp [hfits])]

end

end Sys2Proof.Machine

namespace Sys2Proof.Claims

open Sys2Proof Sys2Proof.Machine

/-- The card that an MXJOB reads. -/
def jobForm (s : State) (g : Machine.Group) (y : Bool) (d b : Fld) (w : W32) : MemForm :=
  { op := { slices := s.cursor.slices, pc := s.cursor.pc, y := y, kind := .jobCard, size := 144, dst := 0,
            args := [w.toNat, d.toNat, g.roundCode w, if (g.rc b.toNat).has rLC then 1 else 0], pieces := [] }
    lanes := fun g => [{ lane := g.lowest s.cursor.slices, cap := g.rc b.toNat, off := 0, size := 144 }]
    align := 16
    rights := rR ||| rE
    log := 4 }

section
variable {s : State} {g g2 : Machine.Group} (y : Bool) {d a b : Fld} {w : W32}

theorem accessed_jobForm : accessed s g (jobForm s g y d b w) = s.access s.cursor.group g .jobCard 4 0 false
    (((jobForm s g y d b w).lanes g).flatMap splitLane) := by
  have hprot : (g.prot && (jobForm s g y d b w).op.kind.writes && !(jobForm s g y d b w).scalar) = false := by
    show (g.prot && false && _) = false
    rw [Bool.and_false, Bool.false_and]
  unfold accessed issued performed
  rw [hprot]
  rfl

/-- An accepted card reaches `State.jobRead` with the settled group. -/
theorem execMxjob_of_accepted (hg : s.group s.cursor.group = some g) (hd : d.toNat < g.aCount) (hf : Format s g a w)
    (hacc : Accepted s g g2 (jobForm s g y d b w)) :
    execMxjob y d a b s = State.jobRead s.cursor.group (answered s g (jobForm s g y d b w))
      (settled (accessed s g (jobForm s g y d b w)).1 g2 s.cursor.pc)
      (g2.settledBy (answered s g (jobForm s g y d b w))) := by
  obtain ⟨-, hcheck, -, hpieces, hg2⟩ := hacc
  have hcheck' : s.checkFail g .jobCard 16 (rR ||| rE)
    [{ lane := g.lowest (s.memOp y .jobCard 144 0).slices, cap := g.rc b.toNat, off := 0, size := 144 }] = none := hcheck
  rw [execMxjob, State.issue_of_group _ hg, decide_eq_true hd, State.need, if_pos rfl, State.withFormat_of_format _ hf]
  simp only [hcheck']
  exact State.runLanes_of_accepted (o := { (jobForm s g y d b w).op with serial := issueSerial s }) _ _ (accessed_jobForm y).symm
    hpieces hg2

end

/-- Settles O30: each form's tests pass, its handles bind, and `State.mxIssue` issues its command. -/
theorem matrixWorkIssues : Obligations.MatrixWorkIssues := by
  unfold Obligations.MatrixWorkIssues
  refine ⟨?_, ?_⟩
  · rintro s t g g1 y d a b w bound ⟨hg, -, -⟩ hroom hd hb tile v goesOn
    rw [exec_mxza, exec_mxS, exec_mxR, exec_mxlda, exec_mxst]
    refine ⟨execMxza_next y hg hroom hd hb, ?_, ?_, ?_, ?_⟩
    · intro hf m n k ab bb pitch rot zf h0 h1 h2 h3 hm hn hk hfa hfb
      exact execMxS_next y hg hroom hd hb hf h0 h1 h2 h3 hm hn hk hfa hfb
    · intro hf m n k bb pitch rot zf h0 h1 h2 h3 hm hn hk hvis run na hrun hwin hfb
      exact execMxR_next y hg hroom hd hb hf h0 h1 h2 h3 hm hn hk hvis hrun hwin hfb
    · intro hf hzero h7 m n pitch cap off hm hm' hn hn' hoff hpitch hnames
      exact execMxlda_next y hg hroom hd hb hf hzero h7 hm hm' hn hn' hoff hpitch hnames
    · intro hf hhi hmid h7 hp hbar h6 hcount m n pitch cap off shadow hm hm' hn hn' hoff hpitch hnames hshadow g2
      have hbatch : g2.batch = g1.batch := by
        change (g1.unbound bound _).batch = g1.batch
        rw [Group.unbound_eq]
      rw [hbatch]
      exact execMxst_next y hg hroom hd hb hf hhi hmid h7 hp hbar h6 hcount hm hm' hn hn' hoff hpitch hnames hshadow
  · rintro s g2s g g2 y d a b w ⟨hg, hl, -⟩ hd hf m hacc rfl
    have hexec := (exec_mxjob y d a b s).trans (execMxjob_of_accepted (d := d) (b := b) y hg hd hf hacc)
    have hcursor : (settled (accessed s g m).1 g2 s.cursor.pc).cursor.group = s.cursor.group := by
      rw [settled_accessed_cursor]
    refine ⟨g2.settledBy (answered s g m), settled_settledBy g2 (answered s g m) hl rfl (by rintro ⟨⟩), hexec,
      fun dm dn dk ab bb pitch rot hcard hroom => ⟨fun hlc hempty => ?_, fun hm hn hk hlevels hcap hstore hfits => ?_⟩⟩
    · refine hexec.trans ((State.jobRead_of_empty (o := answered s g m) rfl hcard hlc hempty).trans ?_)
      exact State.mxIssue_of_bound _ _ y false (hcursor ▸ hroom) rfl hcursor fun _ _ => rfl
    · intro space used t g4 bound hb unbind g5 tile
      refine hexec.trans ((State.jobRead_of_steps (o := answered s g m) rfl hcard hm hn hk hlevels hcap hstore hfits).trans ?_)
      exact State.mxIssue_of_bound _ _ y _ (hcursor ▸ hroom) hb hcursor fun _ _ => rfl

end Sys2Proof.Claims

/-! PROOFS. What the recall of lines leaves unchanged. -/

namespace Sys2Proof.Machine

/-- The second state has the groups, the cursor and the trust of the first, its host but for the error ring, and, if no sector
of the first has failed its check, its firmware too. -/
structure State.Quiet (s t : State) : Prop where
  groups : t.groups = s.groups
  cursor : t.cursor = s.cursor
  trust : t.trust = s.trust
  host : t.host = { s.host with errRing := t.host.errRing, errHead := t.host.errHead, errLost := t.host.errLost }
  firmware : s.mem.stale = [] → t.mem.stale = [] ∧ t.fw = s.fw

theorem State.Quiet.refl (s : State) : s.Quiet s := ⟨rfl, rfl, rfl, rfl, fun h => ⟨h, rfl⟩⟩

theorem State.Quiet.trans {s t u : State} (h : s.Quiet t) (h' : t.Quiet u) : s.Quiet u := by
  refine ⟨h'.groups.trans h.groups, h'.cursor.trans h.cursor, h'.trust.trans h.trust, ?_, fun hs => ?_⟩
  · rw [h'.host, h.host]
  · obtain ⟨ht, hfw⟩ := h.firmware hs
    obtain ⟨hu, hfw'⟩ := h'.firmware ht
    exact ⟨hu, hfw'.trans hfw⟩

theorem foldl_quiet {α : Type} {f : State → α → State} (hf : ∀ (s : State) a, s.Quiet (f s a)) (l : List α) (s : State) :
    s.Quiet (l.foldl f s) := by
  induction l generalizing s with
  | nil => exact .refl s
  | cons a l ih => exact (hf s a).trans (ih _)

/-- A state that differs in memory, blocks and the outbox alone. -/
theorem State.Quiet.of_mem {s t : State} (hg : t.groups = s.groups) (hc : t.cursor = s.cursor) (ht : t.trust = s.trust)
    (hh : t.host = s.host) (hf : t.fw = s.fw) (hs : s.mem.stale = [] → t.mem.stale = []) : s.Quiet t :=
  ⟨hg, hc, ht, by rw [hh], fun h => ⟨hs h, hf⟩⟩

theorem Sparse.setAll_default_nil {α β : Type} [DecidableEq α] (d : α) (l : List β) (f : β → Nat) :
    Sparse.setAll d [] (l.map fun k => (f k, d)) = [] := by
  induction l with
  | nil => rfl
  | cons a l ih =>
    have hset : Sparse.set d [] (f a) d = [] := by simp [Sparse.set, Sparse.erase]
    rw [List.map_cons, Sparse.setAll, hset, ih]

theorem State.quiet_errorRecord (s : State) (die unit : Nat) (code : BitVec 16) (severity : Nat) (detail : List Byte) :
    s.Quiet (s.errorRecord die unit code severity detail) := by
  refine ⟨by simp, by simp, by simp, ?_, fun h => ⟨by simpa using h, by simp⟩⟩
  unfold State.errorRecord
  simp only
  split <;> rfl

/-- A record of a contained error changes the host's error ring and firmware's counts alone. -/
theorem State.contain_eq (s : State) (die : Nat) (code : BitVec 16) (severity unitKind check unitNum : Nat)
    (frame : Option (BitVec 31)) (sector grid ctx gid : Nat) (pc tstat peer : W64) :
    let t := s.contain die code severity unitKind check unitNum frame sector grid ctx gid pc tstat peer
    t = { s with fw := t.fw, host := t.host } ∧ t.host = { s.host with
      errRing := t.host.errRing, errHead := t.host.errHead, errLost := t.host.errLost } := by
  unfold State.contain State.errorRecord
  simp only
  split <;> exact ⟨rfl, rfl⟩

/-- The records of failed sectors. -/
def State.containAll (s : State) (f : Nat) (bad : List Nat) : State :=
  bad.foldl (fun (s : State) k =>
    s.contain (f % 128 / 32) 0x0401 2 1 2 (f % 128) (some (BitVec.ofNat 31 f)) (k % 2048) 0xFFFF 0 0 0 0 0) s

theorem State.containAll_eq (s : State) (f : Nat) (bad : List Nat) :
    let t := s.containAll f bad
    t = { s with fw := t.fw, host := t.host } ∧ t.host = { s.host with
      errRing := t.host.errRing, errHead := t.host.errHead, errLost := t.host.errLost } := by
  unfold State.containAll
  induction bad generalizing s with
  | nil => exact ⟨rfl, rfl⟩
  | cons k bad ih =>
    obtain ⟨hs, hh⟩ := State.contain_eq s (f % 128 / 32) 0x0401 2 1 2 (f % 128) (some (BitVec.ofNat 31 f)) (k % 2048) 0xFFFF 0 0
      0 0 0
    obtain ⟨ht, hh'⟩ := ih (s.contain (f % 128 / 32) 0x0401 2 1 2 (f % 128) (some (BitVec.ofNat 31 f)) (k % 2048) 0xFFFF 0 0 0 0 0)
    simp only [List.foldl_cons]
    refine ⟨?_, ?_⟩
    · rw [ht, hs]
    · rw [hh', hh]

theorem State.checkStale_of_nil {s : State} (f : Nat) (hit : Nat → Bool) (h : s.mem.stale = []) : s.checkStale f hit = s := by
  unfold State.checkStale
  simp only [h, List.filter_nil, List.map_nil, List.foldl_nil, Sparse.setAll]
  rw [← h]

theorem State.quiet_checkStale (s : State) (f : Nat) (hit : Nat → Bool) : s.Quiet (s.checkStale f hit) := by
  have hkeep : s.mem.stale = [] → (s.checkStale f hit).mem.stale = [] ∧ (s.checkStale f hit).fw = s.fw := fun h => by
    rw [State.checkStale_of_nil f hit h]
    exact ⟨h, rfl⟩
  obtain ⟨heq, hhost⟩ := s.containAll_eq f
    ((s.mem.stale.filter fun e => e.2 && e.1 / 2048 == f && hit (e.1 % 2048)).map Prod.fst)
  exact ⟨(congrArg State.groups heq :), (congrArg State.cursor heq :), (congrArg State.trust heq :), hhost, hkeep⟩

theorem State.quiet_storeForms (s : State) (f : Nat) (offs : List Nat) : s.Quiet (s.storeForms f offs) :=
  .of_mem rfl rfl rfl rfl rfl id

theorem State.quiet_tellHost (s : State) (f : Nat) (offs : List Nat) : s.Quiet (s.tellHost f offs) := by
  unfold State.tellHost
  split
  · exact .refl s
  · exact .of_mem rfl rfl rfl rfl rfl id

theorem MemState.stale_treeStep (m : MemState) (f k : Nat) : (m.treeStep f k).stale = m.stale := by
  unfold MemState.treeStep
  simp only

theorem MemState.stale_countWrite (m : MemState) (f k : Nat) : (m.countWrite f k).stale = m.stale := by
  unfold MemState.countWrite
  simp only
  split
  · rfl
  · rw [MemState.stale_treeStep]

theorem MemState.stale_countWrites (m : MemState) (f : Nat) (l : List Nat) :
    (l.foldl (fun (m : MemState) k => m.countWrite f k) m).stale = m.stale := by
  induction l generalizing m with
  | nil => rfl
  | cons k l ih => exact (ih _).trans (m.stale_countWrite f k)

theorem State.quiet_writeFrame (s : State) (f : Nat) (w : List (Nat × Byte)) : s.Quiet (s.writeFrame f w) := by
  refine (s.quiet_checkStale f fun k => (w.map Prod.fst).any (fun o => o / 32 == k) && !(wholeSectors (w.map Prod.fst)).contains k).trans ?_
  unfold State.writeFrame
  simp only
  refine .trans (.of_mem ?_ ?_ ?_ ?_ ?_ ?_) ((State.quiet_storeForms _ f (w.map Prod.fst)).trans (State.quiet_tellHost _ f _))
  · rfl
  · rfl
  · rfl
  · rfl
  · rfl
  · intro h
    have hnil : Sparse.setAll false (s.checkStale f fun k =>
        (w.map Prod.fst).any (fun o => o / 32 == k) && !(wholeSectors (w.map Prod.fst)).contains k).mem.stale
          ((wholeSectors (w.map Prod.fst)).map fun k => (f * 2048 + k, false)) = [] := by
      rw [h]
      exact Sparse.setAll_default_nil false _ _
    split
    · rw [MemState.stale_countWrites]
      exact hnil
    · exact hnil

theorem State.quiet_writeLineBack (s : State) (b : Block) (line f off : Nat) : s.Quiet (s.writeLineBack b line f off) :=
  (s.quiet_writeFrame f _).trans (.of_mem rfl rfl rfl rfl rfl id)

theorem State.quiet_putBlock (s : State) (k : Nat) (b : Block) : s.Quiet (s.putBlock k b) := .of_mem rfl rfl rfl rfl rfl id

theorem State.quiet_recallLine (s : State) (f : Nat) (drop : Bool) (c : Nat × Nat × Nat) : s.Quiet (s.recallLine f drop c) := by
  unfold State.recallLine
  split
  · exact .refl s
  · split
    · exact .refl s
    · refine .trans ?_ (State.quiet_putBlock _ _ _)
      split
      · exact State.quiet_writeLineBack _ _ _ _ _
      · exact .refl s

theorem State.quiet_recall (s : State) (o : BitVec 28) (off n f : Nat) (drop : Bool) (own : Option (Nat × Nat)) :
    s.Quiet (s.recall o off n f drop own) := foldl_quiet (fun s c => State.quiet_recallLine s f drop c) _ s

theorem State.quiet_cacheHost (s : State) (ctx : BitVec 20) (f off n : Nat) : s.Quiet (s.cacheHost ctx f off n) := by
  unfold State.cacheHost
  split
  · exact .refl s
  · exact .of_mem rfl rfl rfl rfl rfl id

theorem State.quiet_reach (s : State) (o : BitVec 28) (off n : Nat) (leaf : W64) (t : ObjEntry) (drop : Bool)
    (own : Option (Nat × Nat)) : s.Quiet (s.reach o off n leaf t drop own) := by
  unfold State.reach
  simp only
  have hq := (s.quiet_cacheHost t.ctx (leafFrame leaf) off n).trans (State.quiet_recall _ o off n (leafFrame leaf) drop own)
  split
  · exact hq
  · exact hq.trans (State.quiet_checkStale _ _ _)

/-- A copy of a page leaves the groups. -/
theorem State.copyPage_groups (s : State) (src dst : Nat) : (s.copyPage src dst).groups = s.groups := by
  have hstale := (s.quiet_checkStale src fun _ => true).groups
  unfold State.copyPage
  simp only
  split
  · rw [(State.quiet_tellHost _ _ _).groups]
    split
    · exact hstale
    · exact (State.quiet_storeForms _ _ _).groups.trans hstale
  · split
    · exact hstale
    · exact (State.quiet_storeForms _ _ _).groups.trans hstale

end Sys2Proof.Machine

/-! PROOFS. The firmware minors: the obligation O31. -/

namespace Sys2Proof.Machine

section
variable {s : State} {g : Group} (y : Bool) (d a b : Fld)

theorem State.firmware_of_not_privileged (f : Group → State × W64) (hg : s.group s.cursor.group = some g)
    (hp : g.privileged = false) : s.firmware y d f = s.trapHere g .priv := by
  rw [State.firmware, State.issue_of_group _ hg, hp]
  rfl

theorem State.firmware_of_privileged (f : Group → State × W64) (hg : s.group s.cursor.group = some g)
    (hp : g.privileged = true) :
    s.firmware y d f = (f g).1.retire y (g.writeS s.cursor.slices d.toNat (f g).2) := by
  rw [State.firmware, State.issue_of_group _ hg, hp]
  rfl

/-- Every firmware minor needs privilege. -/
theorem firmwareMinor_priv (hg : s.group s.cursor.group = some g) (hp : g.privileged = false) :
    ∀ i ∈ Claims.firmwareMinors y d a b, exec i s = s.trapHere g .priv := by
  have hset : execPmcset y d a b s = s.trapHere g .priv := by
    rw [execPmcset, State.issue_of_group _ hg]
    simp only [hp, Bool.not_false, if_true]
  simp only [Claims.firmwareMinors, List.forall_mem_cons, exec_pwleaf, exec_pobj, exec_pkey, exec_pwdog, exec_pmcset, exec_pevent,
    exec_psave, exec_prest, exec_pfq, hset, true_and]
  refine ⟨?_, ?_, ?_, ?_, ?_, ?_, ?_, ?_, fun _ h => absurd h List.not_mem_nil⟩ <;>
    exact State.firmware_of_not_privileged y d _ hg hp

end

/-! ### Fields -/

theorem bits_eq_zero_iff {n : Nat} (w : BitVec n) {hi lo len : Nat} (h : hi + 1 - lo = len) :
    bits w hi lo = 0 ↔ w.extractLsb' lo len = 0 := by
  subst h
  rw [← BitVec.toNat_inj, BitVec.extractLsb'_toNat]
  rfl

theorem entryClean_upper {level : Nat} (h : level < 2) (e : W64) : entryClean level e = (bits e 62 36 == 0) := by
  have hlevel : (level == 2) = false := beq_eq_false_iff_ne.mpr (by omega)
  rw [entryClean, hlevel, Bool.false_or, Bool.eq_iff_iff, beq_iff_eq, beq_iff_eq, bits_eq_zero_iff e rfl]

/-- The home of an object word that names an object is this die. -/
theorem State.wordObject_home {s : State} {g : Group} {word : W64} {o : BitVec 28} (ho : s.wordObject g word = some o) :
    word.extractLsb' 52 12 = s.fab.self ∧ homeDie (word.extractLsb' 24 28) = dieOf g.core := by
  unfold State.wordObject at ho
  simp only [Option.ite_none_right_eq_some, Bool.and_eq_true, beq_iff_eq] at ho
  obtain ⟨⟨⟨hself, -⟩, hdie⟩, -⟩ := ho
  exact ⟨hself, hdie⟩

/-! ### PWLEAF -/

section
variable {s : State} {g : Group} {entry word off : W64}

theorem State.writeLeaf_refused (h : word.extractLsb' 52 12 ≠ s.fab.self ∨ homeDie (word.extractLsb' 24 28) ≠ dieOf g.core
      ∨ 6 ≤ bits word 23 0 ∨ (bits word 23 0 < 4 ∧ bits entry 62 36 ≠ 0)) : s.writeLeaf g entry word off = (s, 1) := by
  unfold State.writeLeaf
  cases ho : s.wordObject g word with
  | none => rfl
  | some o =>
    have hhome := State.wordObject_home ho
    have hbad : (decide (8 ≤ bits word 23 0) || bits word 23 0 / 2 % 4 == 3 || decide (2 ^ 40 ≤ off.toNat)
        || !entryClean (bits word 23 0 / 2 % 4) entry) = true := by
      rcases h with h | h | h | ⟨hlow, h⟩
      · exact absurd hhome.1 h
      · exact absurd hhome.2 h
      · by_cases h8 : 8 ≤ bits word 23 0
        · simp [h8]
        · have h3 : bits word 23 0 / 2 % 4 = 3 := by omega
          simp [h3]
      · rw [entryClean_upper (by omega), beq_eq_false_iff_ne.mpr h]
        simp
    simp only [hbad, if_true]

/-- A write of an entry that is in order. -/
theorem State.writeLeaf_of_key {o : BitVec 28} {k : Nat} (ho : s.wordObject g word = some o) (hsel : bits word 23 0 < 6)
    (hclean : entryClean (bits word 23 0 / 2) entry = true) (hoff : off.toNat < 2 ^ 40) (hvalid : (s.objEntry o).valid = true)
    (hctx : s.fwRefuses g (s.objEntry o).ctx = false)
    (hkey : s.entryKey (if bits word 23 0 % 2 = 1 then (s.objEntry o).shadow else (s.objEntry o).root) (bits word 23 0 / 2) off.toNat
      = some k) :
    s.writeLeaf g entry word off =
      let r := if bits word 23 0 = 4 then s.moveLeaf o (off.toNat / 65536) (Sparse.get 0 s.mem.tables k) entry else (s, entry)
      (r.1.setEntry k r.2, 0) := by
  have hlevel : bits word 23 0 / 2 % 4 = bits word 23 0 / 2 := by omega
  have hmod : off.toNat % 2 ^ 40 = off.toNat := Nat.mod_eq_of_lt hoff
  have h8 : ¬ 8 ≤ bits word 23 0 := by omega
  have h3 : ¬ bits word 23 0 / 2 = 3 := by omega
  have hgood : (decide (8 ≤ bits word 23 0) || bits word 23 0 / 2 == 3 || decide (2 ^ 40 ≤ off.toNat)
      || !entryClean (bits word 23 0 / 2) entry) = false := by
    rw [decide_eq_false h8, beq_eq_false_iff_ne.mpr h3, decide_eq_false (Nat.not_le.mpr hoff), hclean]
    rfl
  have hleaf : (bits word 23 0 / 2 = 2 ∧ bits word 23 0 % 2 = 0) = (bits word 23 0 = 4) := propext (by omega)
  unfold State.writeLeaf
  simp only [ho, hlevel, hgood, hmod, hvalid, hctx, hkey, hleaf, Bool.not_true, Bool.false_eq_true, if_false]

/-- The state with a page-map entry written and the migration table given. -/
def State.leafWritten (s : State) (k : Nat) (new : W64) (moving : List (BitVec 28 × Nat)) : State :=
  { s with mem := { s.mem with tables := Sparse.set 0 s.mem.tables k new, migrating := moving } }

theorem State.moveLeaf_of_not_moving {o : BitVec 28} {page k : Nat} {old new : W64} (h : s.mem.migrating.contains (o, page) = false) :
    ∃ moving, ((s.moveLeaf o page old new).1.setEntry k (s.moveLeaf o page old new).2) = s.leafWritten k new moving
      ∧ (moving = s.mem.migrating ∨ (moving = s.mem.migrating ++ [(o, page)] ∧ leafProtected old = false ∧ leafProtected new = true
        ∧ leafFrame old = leafFrame new)) := by
  rw [State.moveLeaf, h]
  simp only [Bool.false_eq_true, if_false]
  by_cases hb : s.beginsMove o page old new = true
  · rw [if_pos hb]
    refine ⟨_, rfl, .inr ⟨rfl, ?_⟩⟩
    simp only [State.beginsMove, Bool.and_eq_true, Bool.not_eq_true', beq_iff_eq] at hb
    obtain ⟨⟨⟨⟨⟨⟨-, -⟩, hold⟩, hnew⟩, hframe⟩, -⟩, -⟩ := hb
    exact ⟨hold, hnew, hframe⟩
  · rw [if_neg hb]
    exact ⟨_, rfl, .inl rfl⟩

theorem State.moveLeaf_of_staying {o : BitVec 28} {page k : Nat} {old new : W64} (h : s.mem.migrating.contains (o, page) = true)
    (hstay : leafProtected new = true ∨ leafFrame old = leafFrame new) :
    ((s.moveLeaf o page old new).1.setEntry k (s.moveLeaf o page old new).2) = s.leafWritten k new
      (if leafProtected new then s.mem.migrating else s.mem.migrating.filter fun e => e != (o, page)) := by
  have hno : (!leafProtected new && leafFrame old != leafFrame new) = false := by
    rcases hstay with h | h <;> simp [h]
  rw [State.moveLeaf, h, hno]
  simp only [if_true, Bool.false_eq_true, if_false, State.leaveMigration]
  split <;> rfl

theorem State.moveLeaf_of_moved {o : BitVec 28} {page k : Nat} {old new : W64} (h : s.mem.migrating.contains (o, page) = true)
    (hprot : leafProtected new = false) (hframe : leafFrame old ≠ leafFrame new) :
    let t := (s.moveLeaf o page old new).1.setEntry k (s.moveLeaf o page old new).2
    Sparse.get 0 t.mem.tables k = (new ||| (1#64 <<< 61)) ∧ t.mem.migrating.contains (o, page) = false ∧ t.groups = s.groups := by
  have hyes : (!leafProtected new && leafFrame old != leafFrame new) = true := by simp [hprot, hframe]
  rw [State.moveLeaf, h, hyes]
  simp only [if_true, State.leaveMigration, hprot, Bool.false_eq_true, if_false]
  refine ⟨Sparse.get_set_self _ _ _ _, ?_, ?_⟩
  · simp [State.setEntry]
  · simp only [State.setEntry]
    rw [State.copyPage_groups, (State.quiet_recall _ _ _ _ _ _ _).groups]

end

/-! ### POBJ and PKEY -/

section
variable {s : State} {g : Group} {v word off : W64}

theorem objectClean_eq_false {sel : Nat} (h : (sel < 2 ∧ bits v 62 36 ≠ 0) ∨ (sel = 2 ∧ bits v 11 0 ≠ 0)
      ∨ (sel = 3 ∧ (bits v 31 20 ≠ 0 ∨ bits v 47 35 ≠ 0))) : objectClean sel v = false := by
  rcases h with ⟨hlow, h⟩ | ⟨rfl, h⟩ | ⟨rfl, h⟩
  · have hclean : entryClean 0 v = false := by rw [entryClean_upper (by decide), beq_eq_false_iff_ne.mpr h]
    obtain rfl | rfl : sel = 0 ∨ sel = 1 := by omega
    · exact hclean
    · exact hclean
  · rw [ne_eq, bits_eq_zero_iff v rfl] at h
    exact beq_eq_false_iff_ne.mpr h
  · rw [ne_eq, bits_eq_zero_iff v rfl, ne_eq, bits_eq_zero_iff v rfl] at h
    rw [objectClean, Bool.and_eq_false_iff, beq_eq_false_iff_ne, beq_eq_false_iff_ne]
    exact h
    all_goals decide

theorem State.writeObject_refused (h : word.extractLsb' 52 12 ≠ s.fab.self ∨ homeDie (word.extractLsb' 24 28) ≠ dieOf g.core
      ∨ 4 ≤ bits word 23 0 ∨ objectClean (bits word 23 0) v = false) : s.writeObject g v word = (s, 1) := by
  unfold State.writeObject
  cases ho : s.wordObject g word with
  | none => rfl
  | some o =>
    have hhome := State.wordObject_home ho
    refine if_pos ?_
    rcases h with h | h | h | h
    · exact absurd hhome.1 h
    · exact absurd hhome.2 h
    · exact .inl h
    · simp [h]

/-- A write of a word of an object table entry that is in order. -/
theorem State.writeObject_of_object {o : BitVec 28} (ho : s.wordObject g word = some o) (hsel : bits word 23 0 < 4)
    (hclean : objectClean (bits word 23 0) v = true) (hold : ((s.objEntry o).valid && s.fwRefuses g (s.objEntry o).ctx) = false)
    (hnew : (decide (bits word 23 0 = 3) && ((s.objEntry o).put (bits word 23 0) v).valid
      && s.fwRefuses g ((s.objEntry o).put (bits word 23 0) v).ctx) = false) :
    s.writeObject g v word = ({ s with mem := { s.mem with
      objects := Sparse.set {} s.mem.objects o.toNat ((s.objEntry o).put (bits word 23 0) v) } }, 0) := by
  have hbad : ¬(4 ≤ bits word 23 0 ∨ (!objectClean (bits word 23 0) v) = true) := by
    rw [hclean]
    simp only [Bool.not_true, Bool.false_eq_true, or_false]
    omega
  unfold State.writeObject
  simp only [ho, if_neg hbad]
  refine if_neg ?_
  rw [hold, Bool.false_or]
  exact Bool.not_eq_true _ ▸ hnew

section
variable (hword : word.toNat < 65536) (hslot : bits word 11 0 ≠ 0)
include hword hslot

/-- The tests that PKEY makes of its word, for an operation it has. -/
theorem keyWord_ok (hop : bits word 15 12 ≤ 2) :
    (decide (word.toNat ≥ 65536) || bits word 11 0 == 0 || decide (2 < bits word 15 12)) = false := by
  rw [decide_eq_false (by omega), beq_eq_false_iff_ne.mpr hslot, decide_eq_false (by omega)]
  rfl

theorem State.actKey_destroy (hop : bits word 15 12 = 1) (hctx : (s.keySlot (bits word 11 0)).ctx ≠ 0)
    (hfw : s.fwRefuses g (s.keySlot (bits word 11 0)).ctx = false) :
    s.actKey g word off = (s.putSlot (bits word 11 0) { s.keySlot (bits word 11 0) with destroyed := true }, 0) := by
  unfold State.actKey
  simp only [keyWord_ok hword hslot (hop.trans_le (by decide)), Bool.false_eq_true, if_false]
  simp only [hop, hctx, hfw, Bool.false_eq_true, if_false, if_true]
  rfl

theorem State.actKey_zero (hop : bits word 15 12 = 2) (hctx : (s.keySlot (bits word 11 0)).ctx ≠ 0)
    (hfw : s.fwRefuses g (s.keySlot (bits word 11 0)).ctx = false) :
    s.actKey g word off = (s.putSlot (bits word 11 0) (s.keySlot (bits word 11 0)).zeroed, 0) := by
  unfold State.actKey
  simp only [keyWord_ok hword hslot (hop.trans_le (by decide)), Bool.false_eq_true, if_false]
  simp only [hop, hctx, hfw, Bool.false_eq_true, if_false]
  rfl

/-- A number of the key block that PKEY reads. -/
def State.keyNum (s : State) (g : Group) (off : W64) (o n : Nat) : Nat :=
  leNat (((s.fwBytes (dieOf g.core) off.toNat 96).drop o).take n)

/-- The slot that PKEY installs. -/
def State.keyInstalled (s : State) (g : Group) (word off : W64) : KeySlot :=
  (s.keySlot (bits word 11 0)).install (BitVec.ofNat 20 (s.keyNum g off 0x40 4)) (BitVec.ofNat 8 (s.keyNum g off 0x44 1))
    (BitVec.ofNat 256 (s.keyNum g off 0 32)) (BitVec.ofNat 256 (s.keyNum g off 0x20 32)) (BitVec.ofNat 8 (s.keyNum g off 0x45 1))

theorem State.actKey_load (hop : bits word 15 12 = 0) (hoff : fwOffsetOk off 96 = true) (hzero : s.keyNum g off 0x46 26 = 0)
    (hnum : s.keyNum g off 0x40 4 < 2 ^ 20) (hfw : s.fwRefuses g (BitVec.ofNat 20 (s.keyNum g off 0x40 4)) = false)
    (hctx : (s.keySlot (bits word 11 0)).ctx = 0 ∨ (s.keySlot (bits word 11 0)).ctx = BitVec.ofNat 20 (s.keyNum g off 0x40 4)) :
    s.actKey g word off = (s.loadSlot (bits word 11 0) (s.keyInstalled g word off), 0) := by
  unfold State.keyNum at hzero hnum hfw hctx
  have hbad : ¬(leNat (((s.fwBytes (dieOf g.core) off.toNat 96).drop 0x46).take 26) ≠ 0
      ∨ 2 ^ 20 ≤ leNat (((s.fwBytes (dieOf g.core) off.toNat 96).drop 0x40).take 4)) := by omega
  have hother : ¬((s.keySlot (bits word 11 0)).ctx ≠ 0 ∧ (s.keySlot (bits word 11 0)).ctx
      ≠ BitVec.ofNat 20 (leNat (((s.fwBytes (dieOf g.core) off.toNat 96).drop 0x40).take 4))) := by
    rintro ⟨h0, h1⟩
    exact hctx.elim h0 h1
  unfold State.actKey
  simp only [keyWord_ok hword hslot (hop.trans_le (by decide)), Bool.false_eq_true, if_false]
  simp only [hop, hoff, hfw, if_neg hbad, if_neg hother, Bool.not_true, Bool.false_eq_true, if_false, if_true]
  rfl

end

/-- Steps that change memory alone, one after the other. -/
theorem foldl_mem_eq {α : Type} {f : State → α → State} (hf : ∀ (s : State) a, f s a = { s with mem := (f s a).mem })
    (l : List α) (s : State) : l.foldl f s = { s with mem := (l.foldl f s).mem } := by
  induction l generalizing s with
  | nil => rfl
  | cons a l ih => exact (ih (f s a)).trans (congrArg (fun u : State => { u with mem := (l.foldl f (f s a)).mem }) (hf s a))

/-- What the new keys of a slot make of frames changes memory alone. -/
theorem State.remakeFrames_eq (s : State) (slot : Nat) (old new : KeySlot) :
    s.remakeFrames slot old new = { s with mem := (s.remakeFrames slot old new).mem } := by
  unfold State.remakeFrames
  refine foldl_mem_eq (fun s e => ?_) _ s
  split <;> rfl

theorem State.loadSlot_eq (s : State) (n : Nat) (new : KeySlot) :
    s.loadSlot n new = { s.putSlot n new with mem := (s.loadSlot n new).mem } := by
  unfold State.loadSlot
  simp only
  split
  · split
    · rw [State.remakeFrames_eq]
      rfl
    · rfl
  · split
    · rw [State.remakeFrames_eq]
      rfl
    · rfl

/-- A slot whose generation is new or whose keys are those that made it takes them alone. -/
theorem State.loadSlot_of_same {s : State} {n : Nat} {new : KeySlot} (hwarm : (s.keySlot n).warmLost = false)
    (hsame : (s.keySlot n).gen = 0 ∨ (s.keySlot n).gen ≠ new.gen ∨ (s.keySlot n).made = new.key) : s.loadSlot n new = s.putSlot n new := by
  have hmake : ¬((s.keySlot n).gen ≠ 0 ∧ (s.keySlot n).gen = new.gen ∧ (s.keySlot n).made ≠ new.key) := by
    rintro ⟨h0, hgen, hkey⟩
    rcases hsame with h | h | h
    · exact h0 h
    · exact h hgen
    · exact hkey h
  unfold State.loadSlot
  simp only [if_neg hmake, hwarm, Bool.false_eq_true, if_false]

end

end Sys2Proof.Machine

namespace Sys2Proof.Claims

open Sys2Proof Sys2Proof.Machine

/-- What a firmware minor of a privileged group answers. -/
theorem fwAnswers_firmware {s t : State} {g : Machine.Group} {y : Bool} {i : Instr} {d : Fld} {w : W64}
    {f : Machine.Group → State × W64} (hg : s.group s.cursor.group = some g) (hp : g.privileged = true)
    (hi : exec i s = s.firmware y d f) (hf : f g = (t, w)) : FwAnswers s g y i d t w := by
  refine ⟨g.wroteS s.cursor.slices d.toNat w, ?_, scalarWrite_wroteS g _ _ _⟩
  rw [hi, State.firmware_of_privileged y d f hg hp, hf]
  rfl

/-- Settles O31: without privilege by the first test; else each minor's own tests and the state that it leaves. -/
theorem firmwareMinors_hold : Obligations.FirmwareMinors := by
  unfold Obligations.FirmwareMinors
  refine ⟨fun s g y d a b h hp => firmwareMinor_priv y d a b h.1 hp, ?_⟩
  rintro s g y d a b ⟨hg, -, -⟩ hp word sel
  have hleaf {t : State} {w : W64} (h : s.writeLeaf g (g.rs d.toNat) word (g.rs b.toNat) = (t, w)) :
      FwAnswers s g y (.pwleaf y d a b) d t w := fwAnswers_firmware hg hp (exec_pwleaf y d a b s) h
  have hobj {t : State} {w : W64} (h : s.writeObject g (g.rs d.toNat) word = (t, w)) :
      FwAnswers s g y (.pobj y d a b) d t w := fwAnswers_firmware hg hp (exec_pobj y d a b s) h
  have hkey {t : State} {w : W64} (h : s.actKey g word (g.rs b.toNat) = (t, w)) :
      FwAnswers s g y (.pkey y d a b) d t w := fwAnswers_firmware hg hp (exec_pkey y d a b s) h
  refine ⟨?_, ?_, fun h => hleaf (State.writeLeaf_refused h), fun h => hobj (State.writeObject_refused ?_), ?_⟩
  · intro o k ho hsel hclean hoff hvalid hctx hk old new page wrote
    have hwrite := State.writeLeaf_of_key ho hsel hclean hoff hvalid hctx hk
    refine ⟨fun h4 => hleaf (hwrite.trans ?_), fun h4 hnot => ?_, fun h4 hin hstay => hleaf (hwrite.trans ?_),
      fun h4 hin hprot hframe => ?_⟩
    · rw [if_neg h4]
      rfl
    · obtain ⟨moving, ht, hm⟩ := State.moveLeaf_of_not_moving (k := k) (old := old) (new := new) hnot
      refine ⟨moving, hleaf (hwrite.trans ?_), hm⟩
      rw [if_pos h4]
      exact congrArg (·, (0 : W64)) ht
    · rw [if_pos h4]
      exact congrArg (·, (0 : W64)) (State.moveLeaf_of_staying hin hstay)
    · refine ⟨_, hleaf (hwrite.trans ?_), State.moveLeaf_of_moved hin hprot hframe⟩
      rw [if_pos h4]
  · rintro o u ho hsel hclean rfl hold hnew
    exact hobj (State.writeObject_of_object ho hsel hclean hold hnew)
  · rcases h with h | h | h | h
    · exact .inl h
    · exact .inr (.inl h)
    · exact .inr (.inr (.inl h))
    · exact .inr (.inr (.inr (objectClean_eq_false h)))
  · intro hword hslot k
    refine ⟨fun hop hctx hfw => hkey (State.actKey_destroy hword hslot hop hctx hfw),
      fun hop hctx hfw => hkey (State.actKey_zero hword hslot hop hctx hfw), ?_⟩
    intro hop hoff blk num hzero hnum hfw hctx u
    have hload := State.actKey_load hword hslot hop hoff hzero hnum hfw hctx
    refine ⟨⟨_, hkey hload, ?_, fun m hm => ?_, ?_⟩, fun hwarm hsame =>
      hkey (hload.trans (congrArg (·, (0 : W64)) (State.loadSlot_of_same hwarm hsame)))⟩
    · rw [State.loadSlot_eq]
      exact Sparse.get_set_self _ _ _ _
    · rw [State.loadSlot_eq]
      exact Sparse.get_set_of_ne _ _ _ hm
    · rw [State.loadSlot_eq]
      rfl

end Sys2Proof.Claims

/-! PROOFS. Firmware's queues and saves: the obligation O32. -/

namespace Sys2Proof.Machine

/-! ### Little-endian bytes -/

theorem leNat_lt (l : List Byte) : leNat l < 256 ^ l.length := by
  induction l with
  | nil => exact Nat.one_pos
  | cons b l ih =>
    have hb : b.toNat < 256 := b.isLt
    rw [leNat, List.length_cons, Nat.pow_succ]
    omega

theorem leBytes_leNat (l : List Byte) : leBytes l.length (leNat l) = l := by
  induction l with
  | nil => rfl
  | cons b l ih =>
    have hb : b.toNat < 256 := b.isLt
    have hdiv : (b.toNat + 256 * leNat l) / 256 = leNat l := by omega
    have hbyte : BitVec.ofNat 8 (b.toNat + 256 * leNat l) = b := by
      apply BitVec.eq_of_toNat_eq
      rw [BitVec.toNat_ofNat]
      omega
    rw [leNat, List.length_cons, leBytes, hdiv, ih, hbyte]

theorem length_leBytes (n v : Nat) : (leBytes n v).length = n := by
  induction n generalizing v with
  | zero => rfl
  | succ n ih => rw [leBytes, List.length_cons, ih]

theorem FwEntry.length_bytes (e : FwEntry) : e.bytes.length = 32 := by
  simp only [FwEntry.bytes, List.length_append, length_leBytes]

/-- The firmware region with bytes written. -/
def State.regionWith (s : State) (die off : Nat) (b : List Byte) : Memory :=
  Sparse.setAll 0 s.fw.region ((List.range b.length).map fun i => (die * fwRegionBytes + off + i, b.getD i 0))

/-- The state in which the oldest entry of the firmware queue has gone to the firmware region. -/
def State.poppedFw (s : State) (die off : Nat) (e : FwEntry) (q : List FwEntry) : State :=
  { s with fw := { s.fw with region := s.regionWith die off e.bytes, queue := Sparse.set [] s.fw.queue die q } }

theorem State.poppedFw_eq (s : State) (die off : Nat) (e : FwEntry) (q : List FwEntry) : s.poppedFw die off e q =
    { s with fw := { s.fw with region := (s.poppedFw die off e q).fw.region, queue := Sparse.set [] s.fw.queue die q } } := by
  simp only [State.poppedFw]

/-- The bytes of the entry that was taken are read in the firmware region. -/
theorem State.fwByte_poppedFw (s : State) (die off : Nat) (e : FwEntry) (q : List FwEntry) {i : Nat} (hi : i < 32) :
    (s.poppedFw die off e q).fwByte die (off + i) = e.bytes.getD i 0 := by
  have hlt : i < e.bytes.length := by rwa [FwEntry.length_bytes]
  simp only [State.fwByte, State.poppedFw, State.regionWith]
  generalize e.bytes = b at hlt
  refine Sparse.get_setAll_of_agree _ _ _ _ _ (fun e he heq => ?_) ⟨(die * fwRegionBytes + off + i, b.getD i 0), ?_, ?_⟩
  · obtain ⟨j, -, rfl⟩ := List.mem_map.mp he
    simp only at heq
    obtain rfl : j = i := by omega
    rfl
  · exact List.mem_map.mpr ⟨i, List.mem_range.mpr hlt, rfl⟩
  · exact Nat.add_assoc _ _ _

/-! ### PMCSET -/

/-- The packet that PMCSET sends on a plane carries its operands and its map. -/
theorem State.mcsetPacket_fields (s : State) (grp : BitVec 12) (control : W64) {members : List Byte} (hlen : members.length = 64)
    (p : Nat) :
    let pk := s.mcsetPacket grp control (BitVec.ofNat 512 (leNat members)) p
    pk.opcode = 0x1A ∧ pk.cls = 3 ∧ pk.plane = BitVec.ofNat 2 p ∧ pk.src = s.fab.self ∧ pk.group = grp ∧ pk.inline0 = control
      ∧ pk.payload = members := by
  refine ⟨rfl, rfl, rfl, rfl, rfl, rfl, ?_⟩
  have hmap : (BitVec.ofNat 512 (leNat members)).toNat = leNat members := by
    rw [BitVec.toNat_ofNat, Nat.mod_eq_of_lt]
    calc leNat members < 256 ^ members.length := leNat_lt members
      _ = 2 ^ 512 := by rw [hlen, show 512 = 8 * 64 from rfl, Nat.pow_mul, show 2 ^ 8 = 256 from rfl]
  have hbytes : leBytes 64 (BitVec.ofNat 512 (leNat members)).toNat = members := by
    rw [hmap, ← hlen, leBytes_leNat]
  show leBytes 64 _ ++ List.replicate ((32 - (leBytes 64 _).length % 32) % 32) 0 = members
  rw [length_leBytes, hbytes]
  exact List.append_nil _

section
variable {s : State} {g : Group} (y : Bool) {d a b : Fld} (hg : s.group s.cursor.group = some g) (hp : g.privileged = true)
include hg hp

/-- PMCSET of a gang whose packets have left. -/
theorem execPmcset_of_waiting {e : McsetDue}
    (he : (s.fw.mcsets.find? fun e => e.die == dieOf g.core && e.slice == s.cursor.slices.headD 0) = some e) :
    execPmcset y d a b s = if e.packets.any s.unheard then .next s
      else ({ s with fw := { s.fw with mcsets := s.fw.mcsets.filter fun x => x != e } } : State).retire y
        (g.writeS s.cursor.slices d.toNat 0) := by
  rw [execPmcset, State.issue_of_group _ hg]
  simp only [hp, he, Bool.not_true, Bool.false_eq_true, if_false]

/-- PMCSET of a gang that has sent nothing, with operands in order. -/
theorem execPmcset_of_sending
    (he : (s.fw.mcsets.find? fun e => e.die == dieOf g.core && e.slice == s.cursor.slices.headD 0) = none)
    (hoff : fwOffsetOk (g.rs d.toNat) 64 = true) (hzero : bits (g.rs a.toNat) 20 0 = 0) (hport : bits (g.rs a.toNat) 46 41 ≤ 56)
    (hgrp : (g.rs b.toNat).toNat < 4096) :
    execPmcset y d a b s = .next (s.sendMcset (dieOf g.core) (s.cursor.slices.headD 0) (s.mcsetPackets ((g.rs b.toNat).setWidth 12)
      (g.rs a.toNat) (BitVec.ofNat 512 (leNat (s.fwBytes (dieOf g.core) (g.rs d.toNat).toNat 64))))) := by
  have hok : (!fwOffsetOk (g.rs d.toNat) 64 || bits (g.rs a.toNat) 20 0 != 0 || decide (56 < bits (g.rs a.toNat) 46 41)
      || decide (4096 ≤ (g.rs b.toNat).toNat)) = false := by
    rw [hoff, hzero, decide_eq_false (Nat.not_lt.mpr hport), decide_eq_false (Nat.not_le.mpr hgrp)]
    rfl
  rw [execPmcset, State.issue_of_group _ hg]
  simp only [hp, he, hok, Bool.not_true, Bool.false_eq_true, if_false]

end

/-! ### PEVENT and PFQ -/

/-- What PEVENT does. -/
def State.postEvent (s : State) (die : Nat) (off : W64) : State × W64 :=
  let r := recordOf (s.fwBytes die off.toNat 64)
  if (r.typ == 0x01 || r.typ == 0x07) && !(s.ctxOf (r.ctx.setWidth 20)).accepts then
    (s.errorRecord die 8 0x0103 2 (leBytes 4 r.ctx.toNat), 1)
  else (s.post r, 0)

theorem seq_recordOf {b : List Byte} (h : leNat (b.take 8) = 0) : (recordOf b).seq = 0 := by
  show BitVec.ofNat 64 (leNat ((b.drop 0).take 8)) = 0
  rw [List.drop_zero, h]
  rfl

/-- An error record changes the host's side alone. -/
theorem State.errorRecord_eq (s : State) (die unit : Nat) (code : BitVec 16) (severity : Nat) (detail : List Byte) :
    s.errorRecord die unit code severity detail = { s with host := (s.errorRecord die unit code severity detail).host } := by
  unfold State.errorRecord
  simp only
  split <;> rfl

/-! ### PSAVE and PREST -/

section
variable {s : State} {g m : Group} {opts word place : W64} (hword : word.toNat < 2 ^ 28)
  (hdie : s.dieRuns (word.toNat / 2 ^ 26) = true) (hm : s.group word.toNat = some m)
  (hroom : (s.fwQueue (dieOf g.core)).length < 1024) (hidle : s.saving word.toNat = false)
include hword hdie hm hroom hidle

/-- PSAVE of a group in a state that allows it. -/
theorem State.save_of_allowed (hopts : opts.toNat < 4) (hpriv : m.privileged = false) (hstate : m.state ∉ [.saved, .done, .halted])
    (hplace : s.hostSaves m = true ∨ s.savesLazily m (opts.getLsbD 0) = true
      ∨ placeOk place (s.imageSize word.toNat m (opts.getLsbD 0) (s.savedStash word.toNat m (opts.getLsbD 1))) = true)
    (hseals : (s.ctxOf m.ctx).prot = false ∨ s.trust.seals.length + s.savesToSeal < 65536) :
    s.save g opts word place = s.startSave { op := 0, die := dieOf g.core, group := word.toNat, compressed := opts.getLsbD 0
                                             stash := opts.getLsbD 1, restore := false, stay := s.savesLazily m (opts.getLsbD 0)
                                             place := place, asked := none
                                             retryAt := if s.hostSaves m && !s.savesLazily m (opts.getLsbD 0) then
                                               some (s.tickOf (dieOf g.core)) else none } := by
  have hopts' : ¬(4 ≤ opts.toNat ∨ 2 ^ 28 ≤ word.toNat) := by omega
  have hstate' : (m.privileged || m.state == .saved || m.state == .done || m.state == .halted) = false := by
    simp only [List.mem_cons, List.not_mem_nil, or_false, not_or] at hstate
    obtain ⟨h1, h2, h3⟩ := hstate
    rw [hpriv, beq_eq_false_iff_ne.mpr h1, beq_eq_false_iff_ne.mpr h2, beq_eq_false_iff_ne.mpr h3]
    rfl
  have hplace' : (!s.hostSaves m && !s.savesLazily m (opts.getLsbD 0)
      && !placeOk place (s.imageSize word.toNat m (opts.getLsbD 0) (s.savedStash word.toNat m (opts.getLsbD 1)))) = false := by
    rcases hplace with h | h | h <;> rw [h] <;> simp only [Bool.not_true, Bool.false_and, Bool.and_false]
  have hroom' : ¬(1024 ≤ (s.fwQueue (dieOf g.core)).length ∨ s.saving word.toNat = true) := by
    rw [hidle]
    simp only [Bool.false_eq_true, or_false]
    omega
  have hseals' : ¬((s.ctxOf m.ctx).prot = true ∧ 65536 ≤ s.trust.seals.length + s.savesToSeal) := by
    rintro ⟨hprot, hmany⟩
    rcases hseals with h | h
    · rw [h] at hprot
      cases hprot
    · omega
  unfold State.save
  simp only [if_neg hopts', hdie, hm, hstate', hplace', if_neg hroom', if_neg hseals', Bool.not_true, Bool.false_eq_true, if_false]

/-- PREST of a saved group. -/
theorem State.restore_of_saved (hopts : opts = 0) (hstate : m.state = .saved)
    (hplace : s.hostSaves m = true ∨ m.lazy = true ∨ placeOk place 64 = true) :
    s.restore g opts word place = s.startSave { op := 0, die := dieOf g.core, group := word.toNat, compressed := false
                                                stash := false, restore := true, stay := m.lazy, place := place, asked := none
                                                retryAt := if s.hostSaves m && !m.lazy then some (s.tickOf (dieOf g.core))
                                                  else none } := by
  have hopts' : ¬(opts ≠ 0 ∨ 2 ^ 28 ≤ word.toNat) := by
    rintro (h | h)
    · exact h hopts
    · omega
  have hplace' : (!(s.hostSaves m && !m.lazy) && !m.lazy && !placeOk place 64) = false := by
    rcases hplace with h | h | h <;> cases hl : m.lazy <;> simp_all
  have hroom' : ¬(1024 ≤ (s.fwQueue (dieOf g.core)).length ∨ s.saving word.toNat = true) := by
    rw [hidle]
    simp only [Bool.false_eq_true, or_false]
    omega
  have hstate' : ¬ m.state ≠ .saved := fun h => h hstate
  unfold State.restore
  simp only [if_neg hopts', hdie, hm, if_neg hstate', hplace', if_neg hroom', Bool.not_true, Bool.false_eq_true, if_false]

end

end Sys2Proof.Machine

namespace Sys2Proof.Claims

open Sys2Proof Sys2Proof.Machine

/-- Settles O32: PMCSET by whether its packets have left, the others through `State.firmware`. -/
theorem firmwareQueuesAndSaves : Obligations.FirmwareQueuesAndSaves := by
  unfold Obligations.FirmwareQueuesAndSaves
  refine ⟨?_, ?_⟩
  · rintro s g y d a b ⟨hg, -, -⟩ hp die off
    refine ⟨fwAnswers_firmware hg hp (exec_pwdog y d a b s) rfl, fun e he => ⟨fun hany => ?_, fun hnone => ?_⟩,
      fun he hoff hzero hport hgrp => ?_, fun hoff hseq => ?_, fun hempty => ?_, fun e q hq hoff => ?_⟩
    · rw [exec_pmcset, execPmcset_of_waiting y hg hp he, if_pos hany]
    · refine ⟨g.wroteS s.cursor.slices d.toNat 0, ?_, scalarWrite_wroteS g _ _ _⟩
      rw [exec_pmcset, execPmcset_of_waiting y hg hp he, hnone]
      rfl
    · refine ⟨s.mcsetPacket ((g.rs b.toNat).setWidth 12) off (BitVec.ofNat 512 (leNat (s.fwBytes die (g.rs d.toNat).toNat 64))),
        ?_, fun p => s.mcsetPacket_fields _ _ ((List.length_map _).trans List.length_range) p⟩
      rw [exec_pmcset, execPmcset_of_sending y hg hp he hoff hzero hport hgrp]
      rfl
    · intro r barred
      have hfirm : exec (.pevent y d a b) s = s.firmware y d fun g => if !fwOffsetOk (g.rs a.toNat) 64 then (s, 1)
        else if (recordOf (s.fwBytes (dieOf g.core) (g.rs a.toNat).toNat 64)).seq ≠ 0 then (s, 1)
        else s.postEvent (dieOf g.core) (g.rs a.toNat) := exec_pevent y d a b s
      have hevent : (if !fwOffsetOk off 64 then (s, (1 : W64))
          else if (recordOf (s.fwBytes die off.toNat 64)).seq ≠ 0 then (s, 1) else s.postEvent die off) = s.postEvent die off := by
        rw [hoff, seq_recordOf hseq]
        rfl
      refine ⟨fun hb => fwAnswers_firmware hg hp hfirm (hevent.trans (if_neg ?_)),
        fun hb => ⟨s.errorRecord die 8 0x0103 2 (leBytes 4 r.ctx.toNat), fwAnswers_firmware hg hp hfirm (hevent.trans (if_pos hb)),
          State.errorRecord_eq _ _ _ _ _ _⟩⟩
      rw [Bool.not_eq_true]
      exact hb
    · refine fwAnswers_firmware hg hp (exec_pfq y d a b s) ?_
      simp only
      rw [hempty]
    · refine ⟨s.poppedFw die off.toNat e q, fwAnswers_firmware hg hp (exec_pfq y d a b s) ?_, s.poppedFw_eq _ _ _ _, fun i hi =>
        s.fwByte_poppedFw die off.toNat e q hi⟩
      simp only
      rw [hq]
      simp only [off, hoff, Bool.not_true, Bool.false_eq_true, if_false, State.poppedFw, State.putFwBytes, State.regionWith, die]
  · rintro s g m y d a b ⟨hg, -, -⟩ hp h opts place die hlt hdie hm hroom hidle
    refine ⟨?_, ?_⟩
    · intro hopts hpriv hstate stay hplace hseals r
      exact fwAnswers_firmware hg hp (exec_psave y d a b s)
        (State.save_of_allowed hlt hdie hm hroom hidle hopts hpriv hstate hplace hseals)
    · intro hopts hstate hplace r
      exact fwAnswers_firmware hg hp (exec_prest y d a b s) (State.restore_of_saved hlt hdie hm hroom hidle hopts hstate hplace)

end Sys2Proof.Claims

/-! PROOFS. Resets and the boot: the obligation O33. -/

namespace Sys2Proof.Machine

/-! ### Resets -/

theorem destroy_zeroed (k : KeySlot) : ({ k.destroy with warmLost := true } : KeySlot).key = 0
    ∧ ({ k.destroy with warmLost := true } : KeySlot).fabric = 0
    ∧ (∀ p, ({ k.destroy with warmLost := true } : KeySlot).prev = some p → p.2 = 0)
    ∧ ({ k.destroy with warmLost := true } : KeySlot).destroyed = true := by
  refine ⟨rfl, rfl, fun p hp => ?_, rfl⟩
  obtain ⟨q, -, rfl⟩ := Option.map_eq_some_iff.mp hp
  rfl

/-- A byte of DRAM or host memory stays through a warm reset, one of a pinned frame is lost. -/
theorem State.get_warmMem_bytes {s : State} (h : s.mem.hostNew = []) (a : Nat) :
    Sparse.get 0 s.warmMem.bytes a = if frameTier (a / 65536) = 0 then 0 else Sparse.get 0 s.mem.bytes a := by
  have hbytes : s.warmMem.bytes = s.mem.bytes.filter fun e => frameTier (e.1 / 65536) != 0 := by
    unfold State.warmMem
    simp only [h, List.filterMap_nil, Sparse.setAll]
  rw [hbytes]
  split
  · next ht => exact Sparse.get_filter_none _ _ _ _ fun v => by simp [ht]
  · next ht => exact Sparse.get_filter _ _ _ _ fun v => by simp [ht]

theorem State.get_warmMem_tags (s : State) (a : Nat) :
    Sparse.get false s.warmMem.tags a = if frameTier (a / 4096) = 0 then false else Sparse.get false s.mem.tags a := by
  have htags : s.warmMem.tags = s.mem.tags.filter fun e => frameTier (e.1 / 4096) != 0 := rfl
  rw [htags]
  split
  · next ht => exact Sparse.get_filter_none _ _ _ _ fun v => by simp [ht]
  · next ht => exact Sparse.get_filter _ _ _ _ fun v => by simp [ht]

/-! ### Boot -/

theorem State.startFwc_pkg (s : State) (die : Nat) : (s.startFwc die).pkg = s.pkg := by
  simp [State.startFwc]

/-- The start of a firmware core changes firmware's watchdogs alone. -/
theorem State.startFwc_fw (s : State) (die : Nat) :
    (s.startFwc die).fw = { s.fw with watchdog := (s.startFwc die).fw.watchdog } := by
  simp [State.startFwc, State.restartWatchdog]

theorem State.startFwcs_pkg (l : List Nat) (s : State) : (l.foldl (fun (s : State) d => s.startFwc d) s).pkg = s.pkg := by
  induction l generalizing s with
  | nil => rfl
  | cons d l ih => exact (ih _).trans (s.startFwc_pkg d)

theorem State.startFwcs_fw (l : List Nat) (s : State) : (l.foldl (fun (s : State) d => s.startFwc d) s).fw
    = { s.fw with watchdog := (l.foldl (fun (s : State) d => s.startFwc d) s).fw.watchdog } := by
  induction l generalizing s with
  | nil => rfl
  | cons d l ih =>
    rw [List.foldl_cons, ih, State.startFwc_fw]

theorem State.runImage_pkg (s : State) (m : Memory) (base : Nat) (image : BitVec 8) : (s.runImage m base image).pkg = s.pkg := by
  unfold State.runImage
  simp only
  rw [State.startFwcs_pkg]

/-- The firmware state that an image runs in. -/
theorem State.runImage_fw (s : State) (m : Memory) (base : Nat) (image : BitVec 8) :
    (s.runImage m base image).fw.state = 1 ∧ (s.runImage m base image).fw.image = image
      ∧ (s.runImage m base image).fw.slotA = s.fw.slotA ∧ (s.runImage m base image).fw.slotB = s.fw.slotB := by
  unfold State.runImage
  simp only
  rw [State.startFwcs_fw]
  exact ⟨rfl, rfl, rfl, rfl⟩

theorem length_failedOn (failed : List (Nat × Nat)) (d : Nat) :
    (failedOn failed d).length = (failed.filter fun e => e.1 == d).length := by
  unfold failedOn
  rw [List.length_map]

/-- Which bits of four a fold that sets the bits of a test leaves set. -/
theorem getLsbD_foldl_setBits (test : Nat → Bool) {d : Nat} (hd : d < 4) :
    ((List.range 4).foldl (fun (w : BitVec 4) d => if test d then w ||| (1#4 <<< d) else w) 0).getLsbD d = test d := by
  have hrange : List.range 4 = [0, 1, 2, 3] := rfl
  rw [hrange]
  simp only [List.foldl]
  obtain rfl | rfl | rfl | rfl : d = 0 ∨ d = 1 ∨ d = 2 ∨ d = 3 := by omega
  all_goals
    cases test 0 <;> cases test 1 <;> cases test 2 <;> cases test 3 <;> rfl

/-- The dies that run after a boot are those of the record that pass self-test. -/
theorem State.running_takeConfig (s : State) (failed : List (Nat × Nat)) (r : Option ConfigRecord) {d : Nat} (hd : d < 4) :
    (s.takeConfig failed r).pkg.running.getLsbD d
      = ((r.getD {}).dieMap.getLsbD d && decide ((failed.filter fun e => e.1 == d).length ≤ 1)) := by
  rw [← length_failedOn]
  exact getLsbD_foldl_setBits (fun d => (r.getD {}).dieMap.getLsbD d && decide ((failedOn failed d).length ≤ 1)) hd

/-- The host modules that are trained once the units start. -/
theorem State.trained_startUnits (s : State) (trains : BitVec 2) (hdrop : s.pkg.dropped = 0) {m : Nat} (hm : m < 2) :
    (s.startUnits trains).pkg.trained.getLsbD m
      = (trains.getLsbD m && s.pkg.config.modules.getLsbD m && s.pkg.running.getLsbD (2 * m)) := by
  have hruns : ∀ d, s.dieRuns d = s.pkg.running.getLsbD d := fun d => by simp [State.dieRuns, hdrop]
  unfold State.startUnits
  simp only [hruns]
  obtain rfl | rfl : m = 0 ∨ m = 1 := by omega
  · cases h0 : s.pkg.running.getLsbD 0 <;> cases h2 : s.pkg.running.getLsbD 2 <;>
      simp only [moduleDie, one_ne_zero, if_true, if_false, h0, h2, Bool.false_eq_true] <;> simp
  · cases h0 : s.pkg.running.getLsbD 0 <;> cases h2 : s.pkg.running.getLsbD 2 <;>
      simp only [moduleDie, one_ne_zero, if_true, if_false, h0, h2, Bool.false_eq_true] <;> simp

/-- The result of verifying the image of a slot; a boot store that no host module reaches has none. -/
def State.slotResult (s : State) (reached : Bool) (k : Nat) : Nat :=
  if reached then verifyImage s.fw.store (slotBase k) s.pkg.minVersion else 1

/-- The state with the results of both slots recorded. -/
def State.withSlots (s : State) (reached : Bool) : State :=
  { s with fw := { s.fw with
    slotA := BitVec.ofNat 8 (s.slotResult reached 0), slotB := BitVec.ofNat 8 (s.slotResult reached 1) } }

/-- The slot that R61 chooses when at least one passes. -/
def State.chosen (s : State) (reached : Bool) : Nat :=
  if s.slotResult reached 0 ≠ 0 then 1 else if s.slotResult reached 1 ≠ 0 then 0
  else if memNat s.fw.store (slotBase 0 + 4) 4 < memNat s.fw.store (slotBase 1 + 4) 4 then 1 else 0

theorem State.chooseSlot_eq (s : State) (reached : Bool) : s.chooseSlot reached
    = if s.pkg.running = 0 ∨ (s.slotResult reached 0 ≠ 0 ∧ s.slotResult reached 1 ≠ 0) then
        { s.withSlots reached with fw := { (s.withSlots reached).fw with state := 2 } }
      else (s.withSlots reached).runImage s.fw.store (slotBase (s.chosen reached)) (BitVec.ofNat 8 (s.chosen reached + 1)) := rfl

theorem State.chooseSlot_pkg (s : State) (reached : Bool) : (s.chooseSlot reached).pkg = s.pkg := by
  rw [State.chooseSlot_eq]
  split
  · rfl
  · exact State.runImage_pkg ..

theorem State.chooseSlot_slots (s : State) (reached : Bool) :
    (s.chooseSlot reached).fw.slotA = BitVec.ofNat 8 (s.slotResult reached 0)
      ∧ (s.chooseSlot reached).fw.slotB = BitVec.ofNat 8 (s.slotResult reached 1) := by
  rw [State.chooseSlot_eq]
  split
  · exact ⟨rfl, rfl⟩
  · obtain ⟨-, -, ha, hb⟩ := State.runImage_fw (s.withSlots reached) s.fw.store (slotBase (s.chosen reached))
      (BitVec.ofNat 8 (s.chosen reached + 1))
    exact ⟨ha, hb⟩

/-- Without a running die or a passing image the device enters recovery. -/
theorem State.chooseSlot_recovery (s : State) (reached : Bool)
    (h : s.pkg.running = 0 ∨ (s.slotResult reached 0 ≠ 0 ∧ s.slotResult reached 1 ≠ 0)) :
    (s.chooseSlot reached).fw.state = 2 := by
  rw [State.chooseSlot_eq, if_pos h]

/-- With both, it runs the passing image of the higher version, slot A when they are equal. -/
theorem State.chooseSlot_runs (s : State) (reached : Bool) (hrun : s.pkg.running ≠ 0)
    (h : s.slotResult reached 0 = 0 ∨ s.slotResult reached 1 = 0) :
    (s.chooseSlot reached).fw.state = 1
      ∧ (s.chooseSlot reached).fw.image = if s.slotResult reached 0 ≠ 0 ∨ (s.slotResult reached 1 = 0
          ∧ memNat s.fw.store (slotBase 0 + 4) 4 < memNat s.fw.store (slotBase 1 + 4) 4) then 2 else 1 := by
  have hgo : ¬ (s.pkg.running = 0 ∨ (s.slotResult reached 0 ≠ 0 ∧ s.slotResult reached 1 ≠ 0)) := by
    rintro (h0 | ⟨ha, hb⟩)
    · exact hrun h0
    · exact h.elim ha hb
  rw [State.chooseSlot_eq, if_neg hgo]
  obtain ⟨hstate, himage, -, -⟩ := State.runImage_fw (s.withSlots reached) s.fw.store (slotBase (s.chosen reached))
    (BitVec.ofNat 8 (s.chosen reached + 1))
  refine ⟨hstate, himage.trans ?_⟩
  unfold State.chosen
  by_cases ha : s.slotResult reached 0 = 0
  · by_cases hb : s.slotResult reached 1 = 0
    · simp only [ha, hb, ne_eq, not_true_eq_false, if_false, false_or, true_and]
      split <;> rfl
    · simp [ha, hb]
  · simp [ha]

/-- The state in which the boot ROM chooses a slot: self-test done, the record taken up, the units started. -/
def State.booted (s : State) (failed : List (Nat × Nat)) (trains : BitVec 2) (r : Option ConfigRecord) : State :=
  State.startUnits
    { (s.selfTest failed).takeConfig failed r with pkg := { ((s.selfTest failed).takeConfig failed r).pkg with warm := false } }
    trains

theorem State.booted_fw (s : State) (failed : List (Nat × Nat)) (trains : BitVec 2) (r : Option ConfigRecord) :
    (s.booted failed trains r).fw = s.fw := rfl

theorem State.booted_minVersion (s : State) (failed : List (Nat × Nat)) (trains : BitVec 2) (r : Option ConfigRecord) :
    (s.booted failed trains r).pkg.minVersion = s.pkg.minVersion := rfl

theorem State.booted_pkg (s : State) (failed : List (Nat × Nat)) (trains : BitVec 2) (r : Option ConfigRecord) :
    (s.booted failed trains r).pkg.dropped = 0 ∧ (s.booted failed trains r).pkg.warm = false
      ∧ (s.booted failed trains r).pkg.config = r.getD {} ∧ (s.booted failed trains r).pkg.cfgDefault = r.isNone :=
  ⟨rfl, rfl, rfl, rfl⟩

theorem State.running_booted (s : State) (failed : List (Nat × Nat)) (trains : BitVec 2) (r : Option ConfigRecord)
    {d : Nat} (hd : d < 4) : (s.booted failed trains r).pkg.running.getLsbD d
      = ((s.booted failed trains r).pkg.config.dieMap.getLsbD d && decide ((failed.filter fun e => e.1 == d).length ≤ 1)) :=
  State.running_takeConfig (s.selfTest failed) failed r hd

theorem State.trained_booted (s : State) (failed : List (Nat × Nat)) (trains : BitVec 2) (r : Option ConfigRecord)
    {m : Nat} (hm : m < 2) : (s.booted failed trains r).pkg.trained.getLsbD m
      = (trains.getLsbD m && (s.booted failed trains r).pkg.config.modules.getLsbD m
        && (s.booted failed trains r).pkg.running.getLsbD (2 * m)) := by
  unfold State.booted
  exact State.trained_startUnits _ trains rfl hm

end Sys2Proof.Machine

namespace Sys2Proof.Claims

open Sys2Proof Machine

/-- Settles O33: the resets keep what the model lists, and the boot chooses by the results of both slots. -/
theorem resetsAndBoot : Obligations.ResetsAndBoot := by
  unfold Obligations.ResetsAndBoot
  refine ⟨fun s r n h => ?_, fun s failed trains => ?_⟩
  · intro cleared
    refine ⟨?_, fun hn => ?_, fun hn => ?_, fun hopen hw hv => ?_, fun hno => ?_⟩
    · cases r <;> rfl
    · rw [exec_coldReset]
      unfold execColdReset
      simp only
      rw [if_neg (by omega)]
      rfl
    · rw [exec_coldReset]
      unfold execColdReset
      simp only
      rw [if_pos hn]
    · refine ⟨s.warmed, ?_, rfl, rfl, rfl, rfl, fun hnew => State.get_warmMem_bytes hnew, s.get_warmMem_tags, rfl, ?_,
        rfl, rfl, rfl, rfl, rfl, rfl, rfl, rfl, rfl, rfl, rfl⟩
      · rw [exec_warmReset]
        unfold execWarmReset
        rw [hopen, hw, hv]
        rfl
      · intro e he
        obtain ⟨k, -, rfl⟩ := List.mem_map.mp he
        exact destroy_zeroed k.2
    · rw [exec_warmReset]
      unfold execWarmReset
      rw [hno]
      rfl
  · refine ⟨fun h => ?_, fun hr ht hs => ?_⟩
    · rw [exec_bootRomStart]
      unfold execBootRomStart
      rw [if_pos]
      obtain h | h | h := h
      · simp [h]
      · simp [h]
      · simpa using Or.inr h
    · intro a b version kept read record
      have hfree : (s.pkg.inReset || s.pkg.tripped || s.fw.state != 0) = false := by simp [hr, ht, hs]
      have hrec : (if s.pkg.warm then kept else if (trains != 0) = true then (s.selfTest failed).loadConfig else none)
          = record := by
        by_cases h0 : trains = 0 <;> simp [record, read, h0]
      have hA : (s.booted failed trains record).slotResult (trains != 0) 0 = a := by
        by_cases h0 : trains = 0 <;> simp [State.slotResult, State.booted_fw, State.booted_minVersion, a, h0, slotBase]
      have hB : (s.booted failed trains record).slotResult (trains != 0) 1 = b := by
        by_cases h0 : trains = 0 <;> simp [State.slotResult, State.booted_fw, State.booted_minVersion, b, h0, slotBase]
      obtain ⟨hslotA, hslotB⟩ := (s.booted failed trains record).chooseSlot_slots (trains != 0)
      obtain ⟨hdropped, hwarm, hconfig, hdefault⟩ := s.booted_pkg failed trains record
      have hpkg := (s.booted failed trains record).chooseSlot_pkg (trains != 0)
      refine ⟨(s.booted failed trains record).chooseSlot (trains != 0), ?_, ?_, ?_, ?_, ?_, ?_, ?_, ?_, ?_, ?_, ?_⟩
      · rw [exec_bootRomStart, ← hrec]
        unfold execBootRomStart
        rw [hfree]
        rfl
      · rw [hslotA, hA]
      · rw [hslotB, hB]
      · rw [hpkg, hdropped]
      · rw [hpkg, hwarm]
      · rw [hpkg, hconfig]
      · rw [hpkg, hdefault]
      · rw [hpkg]
        exact fun d hd => State.running_booted s failed trains record hd
      · rw [hpkg]
        exact fun m hm => State.trained_booted s failed trains record hm
      · rw [hpkg]
        intro h
        exact State.chooseSlot_recovery _ _ (by rw [hA, hB]; exact h)
      · rw [hpkg]
        intro hrun h
        obtain ⟨hstate, himage⟩ := State.chooseSlot_runs _ (trains != 0) hrun (by rw [hA, hB]; exact h)
        refine ⟨hstate, himage.trans ?_⟩
        rw [hA, hB]
        rfl

end Sys2Proof.Claims

/-! PROOFS. Host accesses: the refutation of O34. -/

namespace Sys2Proof.Claims

open Sys2Proof Machine

/-- A request of die 1, open since tick 0. -/
def openRequest : Service := { id := 0, function := 5, die := 1, part := 0, body := [], tick := 0 }

/-- A device of which only die 0 runs, at tick 10^9: the clock of die 1 is that of die 0 (log 66), while its own TICK is 0. -/
def lateRequest : State :=
  { State.reset with
    pkg := { State.reset.pkg with running := 1, tick := [(0, 1000000000)] }
    host := { State.reset.host with svcOpen := [openRequest] } }

/-- By the clock of its die the request has waited 10^9 ticks, and so it leaves the open ones. -/
theorem svclate_lateRequest : exec (.svclate 0) lateRequest
    = .next ((lateRequest.closeService 0).errorRecord 1 0 0x0106 2 (leBytes 8 0)) := rfl

theorem svcOpen_lateRequest : ((lateRequest.closeService 0).errorRecord 1 0 0x0106 2 (leBytes 8 0)).host.svcOpen = [] := by
  decide

/-- By the TICK of its own die it has not waited at all. -/
theorem tickOf_lateRequest : (lateRequest.tickOf openRequest.die.toNat - openRequest.tick).toNat < 10 ^ 9 := by
  decide

/-- What the statement says of the request: nothing happens to it before 10^9 ticks of its own die. -/
theorem svclate_of_hostWindow (h : Obligations.HostWindow) (s : State) (id : W64) (r : Service)
    (hr : (s.host.svcOpen.find? fun q => q.id == id) = some r) (hearly : (s.tickOf r.die.toNat - r.tick).toNat < 10 ^ 9) :
    exec (.svclate id) s = .next s := by
  obtain ⟨-, -, hservice⟩ := h
  obtain ⟨-, -, hlate, -⟩ := hservice s { hostModule := 0, offset := 0, data := [] } id
  exact (hlate r hr).2 hearly

/-- Refutes O34: SVCLATE counts by the clock of the request's die, which is that of the lowest running die once its own does
not run (log 66), and the statement counts by its own TICK, which stands. -/
theorem not_hostWindow : ¬ Obligations.HostWindow := by
  intro h
  have hstays := svclate_of_hostWindow h lateRequest 0 openRequest rfl tickOf_lateRequest
  rw [svclate_lateRequest] at hstays
  injection hstays with hstate
  have hopen : ((lateRequest.closeService 0).errorRecord 1 0 0x0106 2 (leBytes 8 0)).host.svcOpen = lateRequest.host.svcOpen := by
    rw [hstate]
  rw [svcOpen_lateRequest] at hopen
  exact absurd hopen (by decide)

end Sys2Proof.Claims

/-! PROOFS. The mailbox: commands turned away, and those for identity and images (O35). -/

namespace Sys2Proof.Machine

open Claims

/-! ### Runs of a command -/

theorem State.mail_of_starts {s : State} {h : HostAccess} {code arg : Nat} (hm : MailStarts s h code arg)
    (k : Nat → State × Nat) : s.mail h code k = .next ((k arg).1.mailEnds (k arg).2) := by
  obtain ⟨hreach, hw, hcode, harg, hzero, hbusy⟩ := hm
  unfold State.mail State.mailCommand
  simp [hreach, hw, hcode, harg, hzero, hbusy]

theorem State.fwMail_of_starts {s : State} {h : HostAccess} {code : Nat} (hm : MailStarts s h code 0) (hf : s.fw.state = 1)
    (k : State × Nat) : s.fwMail h code k = .next (k.1.mailEnds k.2) := by
  unfold State.fwMail
  rw [State.mail_of_starts hm]
  simp [hf]

theorem mail_of_fwMail {i : Instr} {s : State} {h : HostAccess} {code : Nat} {r : State × Nat}
    (hi : exec i s = s.fwMail h code r) :
    (∃ k, exec i s = s.mail h code k) ∧ (true = true → ∃ r, exec i s = s.fwMail h code r) :=
  ⟨⟨_, hi⟩, fun _ => ⟨r, hi⟩⟩

/-- Every command runs by `State.mail`, and those that only firmware serves by `State.fwMail`. -/
theorem exec_mailForm {h : HostAccess} {e : Instr × Nat × Bool} (he : e ∈ mailForms h) (s : State) :
    (∃ k, exec e.1 s = s.mail h e.2.1 k) ∧ (e.2.2 = true → ∃ r, exec e.1 s = s.fwMail h e.2.1 r) := by
  simp only [mailForms, List.mem_cons, List.not_mem_nil, or_false] at he
  obtain rfl | rfl | rfl | rfl | rfl | rfl | rfl | rfl | rfl | rfl | rfl | rfl := he
  · exact ⟨⟨_, exec_attest h s⟩, nofun⟩
  · exact ⟨⟨_, exec_loadrun h s⟩, nofun⟩
  · exact ⟨⟨_, exec_update h s⟩, nofun⟩
  · exact ⟨⟨_, exec_raisemin h s⟩, nofun⟩
  · exact mail_of_fwMail (exec_kemkey h s)
  · exact mail_of_fwMail (exec_ctxopen h s)
  · exact mail_of_fwMail (exec_keyload h s)
  · exact mail_of_fwMail (exec_ctxclose h s)
  · exact mail_of_fwMail (exec_erase h s)
  · exact mail_of_fwMail (exec_sweep h s)
  · exact mail_of_fwMail (exec_receipt h s)
  · exact mail_of_fwMail (exec_rekey h s)

section
variable {s : State} {h : HostAccess} {code : Nat} (hreach : s.hostReaches h = true) (hw : h.writes8 0x40000 = true)

theorem State.mail_of_other (k : Nat → State × Nat) (hcode : bits h.value 63 56 ≠ code) : s.mail h code k = .next s := by
  unfold State.mail State.mailCommand
  simp [hcode]

include hreach hw

theorem State.mail_of_busy (k : Nat → State × Nat) (hcode : bits h.value 63 56 = code) (hbusy : s.fw.busy = true) :
    s.mail h code k = .next (s.mailEnds 4) := by
  unfold State.mail State.mailCommand
  simp [hreach, hw, hcode, hbusy]

theorem State.mail_of_reserved (k : Nat → State × Nat) (hcode : bits h.value 63 56 = code) (hbusy : s.fw.busy = false)
    (hres : bits h.value 47 0 ≠ 0) : s.mail h code k = .next (s.mailEnds 1) := by
  unfold State.mail State.mailCommand
  simp [hreach, hw, hcode, hbusy, hres]

theorem State.mail_of_free (k : Nat → State × Nat) (hcode : bits h.value 63 56 = code) (hbusy : s.fw.busy = false)
    (hres : bits h.value 47 0 = 0) :
    s.mail h code k = .next ((k (bits h.value 55 48)).1.mailEnds (k (bits h.value 55 48)).2) :=
  State.mail_of_starts ⟨hreach, hw, hcode, rfl, hres, hbusy⟩ k

theorem State.fwMail_of_stopped (r : State × Nat) (hcode : bits h.value 63 56 = code) (hbusy : s.fw.busy = false)
    (hres : bits h.value 47 0 = 0) (hf : s.fw.state ≠ 1) : s.fwMail h code r = .next (s.mailEnds 3) := by
  unfold State.fwMail
  rw [State.mail_of_free hreach hw _ hcode hbusy hres, if_pos hf]

theorem State.fwMail_of_argument (r : State × Nat) (hcode : bits h.value 63 56 = code) (hbusy : s.fw.busy = false)
    (harg : bits h.value 55 0 ≠ 0) (hf : s.fw.state = 1) : s.fwMail h code r = .next (s.mailEnds 1) := by
  unfold State.fwMail
  by_cases hres : bits h.value 47 0 = 0
  · have hhigh : bits h.value 55 48 ≠ 0 := by
      unfold bits at harg hres ⊢
      rw [Nat.shiftRight_eq_div_pow] at harg hres ⊢
      norm_num at harg hres ⊢
      omega
    rw [State.mail_of_free hreach hw _ hcode hbusy hres, if_neg (not_not_intro hf), if_pos hhigh]
  · exact State.mail_of_reserved hreach hw _ hcode hbusy hres

theorem exec_badCommand_of_other (hcode : ∀ f ∈ mailForms h, bits h.value 63 56 ≠ f.2.1) :
    exec (.badCommand h) s = .next (ended s (if s.fw.busy then 4 else 5)) := by
  have hnot : mailCodes.contains (bits h.value 63 56) = false := by
    rw [← Bool.not_eq_true, List.contains_iff_mem]
    intro hmem
    simp only [mailCodes, List.mem_cons, List.not_mem_nil, or_false] at hmem
    simp only [mailForms, List.forall_mem_cons] at hcode
    omega
  rw [exec_badCommand]
  unfold execBadCommand State.mailCommand
  simp only [hnot, hreach, hw, beq_self_eq_true, Bool.and_self, Bool.not_true, Bool.or_self, Bool.false_eq_true, if_false]
  cases s.fw.busy <;> rfl
end

/-! ### Bytes in the staging window -/

theorem Sparse.get_setAll_bytes (m : Sparse Byte) (off : Nat) (bs : List Byte) (k : Nat) :
    Sparse.get 0 (Sparse.setAll 0 m ((List.range bs.length).map fun i => (off + i, bs.getD i 0))) k
      = if off ≤ k ∧ k < off + bs.length then bs.getD (k - off) 0 else Sparse.get 0 m k := by
  split
  · next hk =>
    refine Sparse.get_setAll_of_agree _ _ _ _ _ (fun e he heq => ?_) ⟨(off + (k - off), bs.getD (k - off) 0), ?_, ?_⟩
    · obtain ⟨i, -, rfl⟩ := List.mem_map.mp he
      have hi : k - off = i := by
        have : off + i = k := heq
        omega
      rw [hi]
    · exact List.mem_map.mpr ⟨k - off, List.mem_range.mpr (by omega), rfl⟩
    · exact Nat.add_sub_of_le hk.1
  · next hk =>
    refine Sparse.get_setAll_of_not_mem _ _ _ _ fun e he heq => ?_
    obtain ⟨i, hi, rfl⟩ := List.mem_map.mp he
    have : off + i = k := heq
    have := List.mem_range.mp hi
    omega

theorem State.staged_stage (s : State) (off : Nat) (bs : List Byte) : Staged s (s.stage off bs) off bs :=
  ⟨rfl, fun k => Sparse.get_setAll_bytes _ _ _ k⟩

theorem length_withSignatures (seed : BitVec 256) (b : List Byte) :
    (withSignatures seed b).length = b.length + 384 + slhBytes := by
  unfold withSignatures rsaSignature slhSignature
  rw [List.length_append, List.length_append, length_leBytes, length_leBytes]

theorem State.length_reportHead (s : State) : s.reportHead.length = 256 := by
  unfold State.reportHead
  simp only [List.length_append, length_leBytes, List.length_replicate]
  simp [State.staged, memBytes]

/-! ### Images -/

theorem State.rebooted_mem (s : State) : s.rebooted.mem = s.warmMem := rfl

theorem State.startFwc_mem (s : State) (die : Nat) : (s.startFwc die).mem = s.mem := by
  simp [State.startFwc, State.restartWatchdog]

theorem State.startFwc_trust (s : State) (die : Nat) : (s.startFwc die).trust = s.trust := by
  simp [State.startFwc, State.restartWatchdog]

theorem State.startFwcs_mem (l : List Nat) (s : State) : (l.foldl (fun (s : State) d => s.startFwc d) s).mem = s.mem := by
  induction l generalizing s with
  | nil => rfl
  | cons d l ih => exact (ih _).trans (s.startFwc_mem d)

theorem State.startFwcs_trust (l : List Nat) (s : State) : (l.foldl (fun (s : State) d => s.startFwc d) s).trust = s.trust := by
  induction l generalizing s with
  | nil => rfl
  | cons d l ih => exact (ih _).trans (s.startFwc_trust d)

theorem State.runImage_mem (s : State) (m : Memory) (base : Nat) (image : BitVec 8) : (s.runImage m base image).mem = s.mem := by
  unfold State.runImage
  simp only
  rw [State.startFwcs_mem]

theorem State.runImage_trust (s : State) (m : Memory) (base : Nat) (image : BitVec 8) :
    (s.runImage m base image).trust = s.trust := by
  unfold State.runImage
  simp only
  rw [State.startFwcs_trust]

theorem State.runImage_version (s : State) (m : Memory) (base : Nat) (image : BitVec 8) :
    (s.runImage m base image).fw.version = BitVec.ofNat 32 (memNat m (base + 4) 4) := by
  unfold State.runImage
  simp only
  rw [State.startFwcs_fw]

/-- An image that verifies fits in its slot. -/
theorem memNat_le_of_verifyImage {m : Memory} {base : Nat} {v : BitVec 32} (h : verifyImage m base v = 0) :
    memNat m (base + 8) 8 ≤ 67078432 := by
  unfold verifyImage at h
  simp only at h
  split at h
  · omega
  · next hn =>
    simp only [Bool.or_eq_true, decide_eq_true_eq, not_or] at hn
    omega

theorem Sparse.get_of_not_mem {α : Type} (d : α) (m : Sparse α) (x : Nat) (h : ∀ e ∈ m, e.1 ≠ x) : Sparse.get d m x = d := by
  induction m with
  | nil => rfl
  | cons e m ih =>
    obtain ⟨k, v⟩ := e
    rw [Sparse.get_cons, if_neg (Ne.symm (h (k, v) List.mem_cons_self))]
    exact ih fun e he => h e (List.mem_cons_of_mem _ he)

theorem Sparse.le_of_mem_wf {α : Type} [DecidableEq α] (d : α) (m : Sparse α) {lo : Nat} (h : Sparse.wfFrom d lo m = true)
    {e : Nat × α} (he : e ∈ m) : lo ≤ e.1 := by
  induction m generalizing lo with
  | nil => simp at he
  | cons x m ih =>
    simp only [Sparse.wfFrom, Bool.and_eq_true, decide_eq_true_eq] at h
    obtain ⟨⟨hlo, -⟩, hm⟩ := h
    obtain rfl | he := List.mem_cons.mp he
    · exact hlo
    · have := ih hm he
      omega

/-- In a canonical map, what an entry holds is what its address reads. -/
theorem Sparse.get_of_mem_wf {α : Type} [DecidableEq α] (d : α) (m : Sparse α) {lo : Nat} (h : Sparse.wfFrom d lo m = true)
    {e : Nat × α} (he : e ∈ m) : Sparse.get d m e.1 = e.2 := by
  induction m generalizing lo with
  | nil => simp at he
  | cons x m ih =>
    obtain ⟨k, v⟩ := x
    simp only [Sparse.wfFrom, Bool.and_eq_true] at h
    obtain ⟨-, hm⟩ := h
    rw [Sparse.get_cons]
    obtain rfl | he := List.mem_cons.mp he
    · rw [if_pos rfl]
    · have hne : e.1 ≠ k := by
        have := Sparse.le_of_mem_wf d m hm he
        omega
      rw [if_neg hne]
      exact ih hm he

/-- The slot of the boot store after an update: the image, then zeros. -/
theorem State.get_writeSlot {s : State} {slot : Nat} (hwf : Sparse.wf 0 s.host.staging = true)
    (hfits : 0x280 + s.stagedNat 8 8 + slhBytes ≤ 0x4000000) (k : Nat) :
    Sparse.get 0 (s.writeSlot slot).fw.store k
      = if slotBase slot ≤ k ∧ k < slotBase slot + 0x04000000 then
          (if k - slotBase slot < 0x280 + s.stagedNat 8 8 + slhBytes then Sparse.get 0 s.host.staging (k - slotBase slot) else 0)
        else Sparse.get 0 s.fw.store k := by
  unfold State.writeSlot
  simp only
  generalize 0x280 + s.stagedNat 8 8 + slhBytes = total at hfits ⊢
  generalize slotBase slot = base
  by_cases hpart : ∃ e ∈ s.host.staging, e.1 < total ∧ base + e.1 = k
  · obtain ⟨e, he, hlt, rfl⟩ := hpart
    rw [if_pos ⟨by omega, by omega⟩, if_pos (by omega), Nat.add_sub_cancel_left, Sparse.get_of_mem_wf 0 _ hwf he]
    refine Sparse.get_setAll_of_agree _ _ _ _ _ (fun x hx hxe => ?_) ⟨(base + e.1, e.2), ?_, rfl⟩
    · obtain ⟨y, hy, rfl⟩ := List.mem_map.mp hx
      obtain ⟨hy, -⟩ := List.mem_filter.mp hy
      have hsame : y.1 = e.1 := Nat.add_left_cancel hxe
      rw [← Sparse.get_of_mem_wf 0 _ hwf hy, ← Sparse.get_of_mem_wf 0 _ hwf he, hsame]
    · exact List.mem_map.mpr ⟨e, List.mem_filter.mpr ⟨he, by simpa using hlt⟩, rfl⟩
  · rw [Sparse.get_setAll_of_not_mem, Sparse.get_clearRange]
    · split
      · next hk =>
        split
        · next hlt =>
          refine (Sparse.get_of_not_mem _ _ _ fun e he heq => hpart ⟨e, he, by omega, by omega⟩).symm
        · rfl
      · rfl
    · intro x hx hxk
      obtain ⟨y, hy, rfl⟩ := List.mem_map.mp hx
      obtain ⟨hy, hlt⟩ := List.mem_filter.mp hy
      exact hpart ⟨y, hy, by simpa using hlt, hxk⟩

end Sys2Proof.Machine

namespace Sys2Proof.Claims

open Sys2Proof Machine

theorem attest_starts {s : State} {h : HostAccess} {arg : Nat} (hm : MailStarts s h 0x01 arg) (hf : s.fw.state ≠ 0) :
    exec (.attest h) s = .next (ended (s.stage 0x1000 (withSignatures s.pkg.seed s.reportHead)) 0) := by
  rw [exec_attest]
  unfold execAttest
  rw [State.mail_of_starts hm, if_neg hf]
  rfl

theorem kemkey_starts {s : State} {h : HostAccess} (hm : MailStarts s h 0x10 0) (hf : s.fw.state = 1) :
    exec (.kemkey h) s = .next (ended (s.stage 0x1000 (withSignatures s.pkg.seed (encapsKey s.pkg.seed))) 0) := by
  rw [exec_kemkey]
  unfold execKemkey
  rw [State.fwMail_of_starts hm hf]
  rfl

/-- A key slot of the state after a reboot holds no key. -/
theorem slots_rebooted (s : State) : ∀ e ∈ s.rebooted.trust.slots, e.2.key = 0 ∧ e.2.fabric = 0
    ∧ ∀ p, e.2.prev = some p → p.2 = 0 := by
  intro e he
  obtain ⟨k, -, rfl⟩ := List.mem_map.mp he
  obtain ⟨hkey, hfabric, hprev, -⟩ := destroy_zeroed k.2
  exact ⟨hkey, hfabric, hprev⟩

/-- Settles O35: every command runs by the same frame, and each of these by its own effect. -/
theorem mailboxImages : Obligations.MailboxImages := by
  unfold Obligations.MailboxImages
  refine ⟨fun s h hreach hw e he => ?_, fun s h arg => ⟨fun hm hf => ?_, fun hm hf => ?_, fun hm => ⟨fun hf => ?_, fun hf hbad => ?_,
    fun hf hok hrun => ?_⟩, fun hm harg hf hhost => ⟨fun hbad => ?_, fun hok hwf => ?_⟩, fun hm hf => ?_⟩⟩
  · obtain ⟨⟨k, hk⟩, hserved⟩ := exec_mailForm he s
    refine ⟨fun hcode => ⟨fun hbusy => ?_, fun hbusy hres => ?_, fun hfw hbusy hres hf => ?_, fun hfw hbusy harg hf => ?_⟩,
      fun hcode => ⟨exec_badCommand_of_other hreach hw hcode, ?_⟩⟩
    · rw [hk]
      exact State.mail_of_busy hreach hw k hcode hbusy
    · rw [hk]
      exact State.mail_of_reserved hreach hw k hcode hbusy hres
    · obtain ⟨r, hr⟩ := hserved hfw
      rw [hr]
      exact State.fwMail_of_stopped hreach hw r hcode hbusy hres hf
    · obtain ⟨r, hr⟩ := hserved hfw
      rw [hr]
      exact State.fwMail_of_argument hreach hw r hcode hbusy harg hf
    · rw [hk]
      exact State.mail_of_other k (hcode e he)
  · refine ⟨?_, _, State.staged_stage _ _ _, attest_starts hm hf⟩
    rw [length_withSignatures, State.length_reportHead]
    rfl
  · exact ⟨_, State.staged_stage _ _ _, kemkey_starts hm hf⟩
  · rw [exec_loadrun]
    unfold execLoadrun
    rw [State.mail_of_starts hm, if_pos hf]
    rfl
  · rw [exec_loadrun]
    unfold execLoadrun
    rw [State.mail_of_starts hm, if_neg (not_not_intro hf), if_pos hbad]
    rfl
  · obtain ⟨hstate, himage, hslotA, hslotB⟩ := State.runImage_fw s.rebooted s.host.staging 0 3
    refine ⟨(s.rebooted.runImage s.host.staging 0 3).mailEnds 0, ?_, hstate, himage, rfl, ?_, hslotA, hslotB, ?_, ?_, ?_⟩
    · rw [exec_loadrun]
      unfold execLoadrun
      rw [State.mail_of_starts hm, if_neg (not_not_intro hf), if_neg (not_or.mpr ⟨not_not_intro hok, hrun⟩)]
    · exact State.runImage_version ..
    · exact State.runImage_mem ..
    · exact State.runImage_pkg ..
    · have htrust := State.runImage_trust s.rebooted s.host.staging 0 3
      intro e he
      exact slots_rebooted s e (htrust ▸ he)
  · rw [exec_update]
    unfold execUpdate
    rw [State.mail_of_starts hm, if_neg (by omega), if_neg hf, if_neg (fun h => by simp [(hhost h.1).1] at h),
      if_neg (fun h => (hhost h.1).2 h.2), if_pos hbad]
    rfl
  · refine ⟨s.writeSlot arg, rfl, ?_, fun k => ?_⟩
    · rw [exec_update]
      unfold execUpdate
      rw [State.mail_of_starts hm, if_neg (by omega), if_neg hf, if_neg (fun h => by simp [(hhost h.1).1] at h),
        if_neg (fun h => (hhost h.1).2 h.2), if_neg (not_not_intro hok)]
      rfl
    · have hfits := memNat_le_of_verifyImage hok
      refine State.get_writeSlot hwf ?_ k
      change 0x280 + memNat s.host.staging (0 + 8) 8 + slhBytes ≤ 0x4000000
      unfold slhBytes
      omega
  · rw [exec_raisemin]
    unfold execRaisemin
    rw [State.mail_of_starts hm, if_neg (not_not_intro hf)]
    simp only [BitVec.ult, decide_eq_true_eq]
    rfl

end Sys2Proof.Claims

/-! PROOFS. What the work on memory leaves unchanged. -/

namespace Sys2Proof.Machine

/-- The second state is the first but for memory, blocks, bound frames, the outbox, the error ring and the error counts. -/
def State.MemWork (s t : State) : Prop :=
  t = { s with
    mem := t.mem
    outbox := t.outbox
    disp := { s.disp with blocks := t.disp.blocks }
    trust := { s.trust with frames := t.trust.frames }
    fw := { s.fw with unitErrors := t.fw.unitErrors }
    host := { s.host with errRing := t.host.errRing, errHead := t.host.errHead, errLost := t.host.errLost } }

theorem State.MemWork.refl (s : State) : s.MemWork s := rfl

theorem State.MemWork.trans {s t u : State} (h : s.MemWork t) (h' : t.MemWork u) : s.MemWork u := by
  unfold State.MemWork at *
  rw [h', h]

theorem foldl_memWork {α : Type} {f : State → α → State} (hf : ∀ (s : State) a, s.MemWork (f s a)) (l : List α) (s : State) :
    s.MemWork (l.foldl f s) := by
  induction l generalizing s with
  | nil => exact .refl s
  | cons a l ih => exact (hf s a).trans (ih _)

/-- A further change of memory alone. -/
theorem State.MemWork.with_mem {s t : State} (h : s.MemWork t) (m : MemState) : s.MemWork { t with mem := m } :=
  h.trans rfl

section
variable {s t : State} (h : s.MemWork t)
include h

theorem State.MemWork.groups : t.groups = s.groups := by rw [show t = _ from h]
theorem State.MemWork.cores : t.cores = s.cores := by rw [show t = _ from h]
theorem State.MemWork.pkg : t.pkg = s.pkg := by rw [show t = _ from h]
theorem State.MemWork.busy : t.fw.busy = s.fw.busy := by rw [show t = _ from h]
theorem State.MemWork.command : t.fw.cmd = s.fw.cmd := by rw [show t = _ from h]
theorem State.MemWork.slots : t.trust.slots = s.trust.slots := by rw [show t = _ from h]
end

theorem State.memWork_errorRecord (s : State) (die unit : Nat) (code : BitVec 16) (severity : Nat) (detail : List Byte) :
    s.MemWork (s.errorRecord die unit code severity detail) := by
  unfold State.errorRecord
  simp only
  split <;> rfl

theorem State.memWork_contain (s : State) (die : Nat) (code : BitVec 16) (severity unitKind check unitNum : Nat)
    (frame : Option (BitVec 31)) (sector grid ctx gid : Nat) (pc tstat peer : W64) :
    s.MemWork (s.contain die code severity unitKind check unitNum frame sector grid ctx gid pc tstat peer) := by
  unfold State.contain
  refine .trans ?_ (State.memWork_errorRecord _ _ _ _ _ _)
  rfl

theorem State.memWork_containAll (s : State) (f : Nat) (bad : List Nat) : s.MemWork (s.containAll f bad) :=
  foldl_memWork (fun s k => State.memWork_contain s (f % 128 / 32) 0x0401 2 1 2 (f % 128) (some (BitVec.ofNat 31 f)) (k % 2048)
    0xFFFF 0 0 0 0 0) bad s

theorem State.memWork_checkStale (s : State) (f : Nat) (hit : Nat → Bool) : s.MemWork (s.checkStale f hit) :=
  (s.memWork_containAll f
    ((s.mem.stale.filter fun e : Nat × Bool => e.2 && e.1 / 2048 == f && hit (e.1 % 2048)).map Prod.fst)).with_mem _

theorem State.memWork_storeForms (s : State) (f : Nat) (offs : List Nat) : s.MemWork (s.storeForms f offs) := rfl

theorem State.memWork_tellHost (s : State) (f : Nat) (offs : List Nat) : s.MemWork (s.tellHost f offs) := by
  unfold State.tellHost
  split <;> rfl

theorem State.memWork_putBlock (s : State) (k : Nat) (b : Block) : s.MemWork (s.putBlock k b) := rfl

theorem State.memWork_writeFrame (s : State) (f : Nat) (w : List (Nat × Byte)) : s.MemWork (s.writeFrame f w) := by
  refine .trans ?_ ((State.memWork_storeForms _ f (w.map Prod.fst)).trans (State.memWork_tellHost _ f _))
  exact (s.memWork_checkStale f fun k =>
    (w.map Prod.fst).any (fun o => o / 32 == k) && !(wholeSectors (w.map Prod.fst)).contains k).with_mem _

theorem State.memWork_writeLineBack (s : State) (b : Block) (line f off : Nat) : s.MemWork (s.writeLineBack b line f off) :=
  (s.memWork_writeFrame f _).trans rfl

theorem State.memWork_recallLine (s : State) (f : Nat) (drop : Bool) (c : Nat × Nat × Nat) : s.MemWork (s.recallLine f drop c) := by
  unfold State.recallLine
  split
  · exact .refl s
  · split
    · exact .refl s
    · refine .trans ?_ (State.memWork_putBlock _ _ _)
      split
      · exact State.memWork_writeLineBack _ _ _ _ _
      · exact .refl s

theorem State.memWork_recall (s : State) (o : BitVec 28) (off n f : Nat) (drop : Bool) (own : Option (Nat × Nat)) :
    s.MemWork (s.recall o off n f drop own) := foldl_memWork (fun s c => State.memWork_recallLine s f drop c) _ s

/-- A further change of memory and of the bound frames. -/
theorem State.MemWork.with_frames {s t : State} (h : s.MemWork t) (m : MemState) (l : Sparse FrameMeta) :
    s.MemWork { t with mem := m, trust := { t.trust with frames := l } } := h.trans rfl

theorem State.memWork_copyPage (s : State) (src dst : Nat) : s.MemWork (s.copyPage src dst) := by
  have hstale := s.memWork_checkStale src fun _ => true
  unfold State.copyPage
  simp only
  split
  · refine .trans ?_ (State.memWork_tellHost _ _ _)
    split
    · exact hstale.with_frames _ _
    · exact (hstale.with_frames _ _).trans (State.memWork_storeForms _ _ _)
  · split
    · exact hstale.with_frames _ _
    · exact (hstale.with_frames _ _).trans (State.memWork_storeForms _ _ _)

theorem State.memWork_takeFrame (s : State) (slice : Nat) : s.MemWork (s.takeFrame slice).1 := by
  unfold State.takeFrame
  simp only
  split
  · rfl
  · split
    · rfl
    · split <;> rfl

theorem State.memWork_returnFrame (s : State) (f : Nat) : s.MemWork (s.returnFrame f) := rfl

theorem State.memWork_beginMoves (s : State) (refs : List PageRef) : s.MemWork (s.beginMoves refs) := by
  refine foldl_memWork (fun s e => ?_) refs s
  simp only
  split <;> rfl

theorem State.memWork_movePage (s : State) (e : PageRef) : s.MemWork (s.movePage e).1 := by
  have htake := s.memWork_takeFrame (leafFrame e.leaf % 128)
  unfold State.movePage
  simp only
  split
  · next s' heq =>
    rw [heq] at htake
    exact htake
  · next s' f heq =>
    rw [heq] at htake
    exact ((htake.trans (State.memWork_recall s' e.object (e.page * 65536) 65536 (leafFrame e.leaf) false none)).trans
      (State.memWork_copyPage _ (leafFrame e.leaf) f)).with_mem _

theorem State.memWork_endMove (s : State) (e : PageRef) : s.MemWork (s.endMove e).1 := by
  have hmove := s.memWork_movePage e
  unfold State.endMove
  split
  · exact .refl s
  · split
    · next t heq =>
      rw [heq] at hmove
      exact hmove
    · next t heq =>
      rw [heq] at hmove
      refine hmove.trans ?_
      simp only
      split
      · exact State.memWork_returnFrame _ _
      · exact .refl _

theorem State.memWork_endMoves (s : State) (refs : List PageRef) : s.MemWork (s.endMoves refs).1 := by
  suffices h : ∀ (a : State × Bool), a.1.MemWork (refs.foldl (fun (a : State × Bool) e =>
      ((a.1.endMove e).1, a.2 && (a.1.endMove e).2)) a).1 from h (s, true)
  induction refs with
  | nil => exact fun a => .refl a.1
  | cons e refs ih => exact fun a => (a.1.memWork_endMove e).trans (ih _)

end Sys2Proof.Machine

/-! PROOFS. The mailbox: contexts, keys, erasure and rebinding (O36). -/

namespace Sys2Proof.Machine

open Claims

/-- A command that firmware serves, by its effect and status. -/
theorem State.fwMail_eq {s t : State} {h : HostAccess} {code : Nat} {k : State × Nat} (status : Nat)
    (hm : MailStarts s h code 0) (hf : s.fw.state = 1) (hk : k = (t, status)) :
    s.fwMail h code k = .next (ended t (BitVec.ofNat 8 status)) := by
  rw [State.fwMail_of_starts hm hf, hk]
  rfl

/-! ### Key slots -/

@[simp] theorem State.keySlot_putSlot_self (s : State) (n : Nat) (k : KeySlot) : (s.putSlot n k).keySlot n = k :=
  Sparse.get_set_self _ _ _ _

theorem State.ctxOf_of_ctxs {t : State} {n : BitVec 20} {l : Sparse Descriptor} {d : Descriptor}
    (h : t.trust.ctxs = Sparse.set {} l n.toNat d) : t.ctxOf n = d := by
  unfold State.ctxOf
  rw [h]
  exact Sparse.get_set_self _ _ _ _

theorem State.keySlot_of_slots {t : State} {n : Nat} {l : Sparse KeySlot} {k : KeySlot}
    (h : t.trust.slots = Sparse.set {} l n k) : t.keySlot n = k := by
  unfold State.keySlot
  rw [h]
  exact Sparse.get_set_self _ _ _ _

/-- A slot whose generation is not the new one is loaded without remaking a frame. -/
theorem State.loadSlot_of_new {s : State} {n : Nat} {new : KeySlot} (hgen : (s.keySlot n).gen ≠ new.gen)
    (hwarm : (s.keySlot n).warmLost = false) : s.loadSlot n new = s.putSlot n new := by
  unfold State.loadSlot
  simp [hgen, hwarm]

/-- What a slot without a previous generation, or a destroyed one, becomes when another generation is installed. -/
theorem KeySlot.install_of_new {k : KeySlot} {ctx : BitVec 20} {gen : BitVec 8} {key fabric : BitVec 256} {fabricGen : BitVec 8}
    (hprev : k.prev = none ∨ k.destroyed = true) (hgen : k.gen ≠ gen) :
    k.install ctx gen key fabric fabricGen = {
      ctx := ctx, gen := gen, key := key, fabric := fabric, fabricGen := fabricGen, destroyed := false, warmLost := false
      made := key, prev := if k.destroyed then none else if k.gen ≠ 0 then some (k.gen, k.key) else none } := by
  unfold KeySlot.install
  cases hd : k.destroyed with
  | true => rfl
  | false =>
    have hnone : k.prev = none := by simpa [hd] using hprev
    simp [hgen, hnone]

/-! ### Contexts -/

theorem keyload_starts {s : State} {h : HostAccess} {n : BitVec 20} {key fabric : BitVec 256} (hm : MailStarts s h 0x12 0)
    (hf : s.fw.state = 1) (hn : s.mailCtx 4 = some n) (hopen : (s.ctxOf n).state = .open) (hslot : (s.ctxOf n).slot ≠ 0)
    (hprev : (s.keySlot (s.ctxOf n).slot.toNat).prev = none ∨ (s.keySlot (s.ctxOf n).slot.toNat).destroyed = true)
    (hlow : (s.ctxOf n).gen.toNat < (BitVec.ofNat 8 (s.stagedNat 8 1)).toNat)
    (hgen : (s.keySlot (s.ctxOf n).slot.toNat).gen ≠ BitVec.ofNat 8 (s.stagedNat 8 1))
    (hwarm : (s.keySlot (s.ctxOf n).slot.toNat).warmLost = false) (hmagic : s.stagedNat 0 4 = 0x4B46594E)
    (hflags : s.stagedNat 0xA 2 = 0) (hres : s.stagedNat 0xC 4 = 0) (hfab : s.stagedNat 0x658 40 = 0)
    (hrec : unwrapRecord s.pkg.seed (s.staged 0 1712) = some (key, fabric)) :
    exec (.keyload h) s = .next (ended (withCtx (s.putSlot (s.ctxOf n).slot.toNat
      ((s.keySlot (s.ctxOf n).slot.toNat).install n (BitVec.ofNat 8 (s.stagedNat 8 1)) key fabric (BitVec.ofNat 8 (s.stagedNat 9 1))))
      n { s.ctxOf n with
        gen := BitVec.ofNat 8 (s.stagedNat 8 1), fabricGen := BitVec.ofNat 8 (s.stagedNat 9 1)
        measurement := BitVec.ofNat 384 (s.stagedNat 0x680 48) }) 0) := by
  have hmay : (s.keySlot (s.ctxOf n).slot.toNat).mayLoad (s.ctxOf n) (BitVec.ofNat 8 (s.stagedNat 8 1)) = true := by
    unfold KeySlot.mayLoad
    rw [decide_eq_true hlow, Bool.true_or]
  have hkeep : ¬ ((s.ctxOf n).slot ≠ 0 ∧ (s.keySlot (s.ctxOf n).slot.toNat).prev.isSome
      ∧ (!(s.keySlot (s.ctxOf n).slot.toNat).destroyed) = true) := by
    rintro ⟨-, hsome, hlive⟩
    rcases hprev with hnone | hdestroyed
    · rw [hnone] at hsome
      exact absurd hsome (by decide)
    · rw [hdestroyed] at hlive
      exact absurd hlive (by decide)
  rw [exec_keyload]
  unfold execKeyload
  refine State.fwMail_eq 0 hm hf ?_
  rw [hn]
  show (if _ then _ else _) = _
  rw [if_neg (fun hne => hne.1 hopen), if_neg hkeep, if_neg]
  · rw [hrec, if_neg hslot]
    show (if _ then _ else _, _) = _
    rw [if_neg (by rw [hflags]; decide), State.loadSlot_of_new hgen hwarm, BitVec.ofNat_toNat 12 (s.ctxOf n).slot, BitVec.setWidth_eq]
    rfl
  · rintro (h | h | h | h | h)
    · exact h hmagic
    · omega
    · exact h hres
    · rw [hmay] at h
      exact absurd h (by decide)
    · exact h.2 hfab

theorem ctxclose_starts {s : State} {h : HostAccess} {n : BitVec 20} (hm : MailStarts s h 0x13 0) (hf : s.fw.state = 1)
    (hn : s.mailCtx 0 = some n) : exec (.ctxclose h) s = .next (if (s.ctxOf n).state ≠ .open then ended s 3
      else ended ((s.disarm n).putCtx n { s.ctxOf n with state := .closed, hostSubmit := false }) 0) := by
  rw [exec_ctxclose]
  unfold execCtxclose
  rw [State.fwMail_of_starts hm hf]
  simp only [hn]
  split <;> rfl

/-! ### Erasure -/

theorem foldl_blocks {α : Type} {f : State → α → State}
    (hf : ∀ s a, ∃ l, f s a = { s with disp := { s.disp with blocks := l } }) (es : List α) (s : State) :
    ∃ l, es.foldl f s = { s with disp := { s.disp with blocks := l } } := by
  induction es generalizing s with
  | nil => exact ⟨s.disp.blocks, rfl⟩
  | cons e es ih =>
    obtain ⟨l, hl⟩ := hf s e
    obtain ⟨l', hl'⟩ := ih (f s e)
    exact ⟨l', by rw [List.foldl_cons, hl', hl]⟩

/-- Dropping the lines of a slot changes blocks alone. -/
theorem State.dropSlotLines_eq (s : State) (slot : BitVec 12) :
    ∃ l, s.dropSlotLines slot = { s with disp := { s.disp with blocks := l } } := by
  refine foldl_blocks (fun s e => ?_) _ s
  split
  · exact ⟨s.disp.blocks, rfl⟩
  · simp only
    split
    · exact ⟨s.disp.blocks, rfl⟩
    · exact ⟨_, rfl⟩

/-- The state in which ERASE leaves a context, but for a busy command. -/
def State.erasedCtx (s : State) (n : BitVec 20) : State :=
  let d := s.ctxOf n
  let s := if d.slot = 0 then s else s.putSlot d.slot.toNat (s.keySlot d.slot.toNat).destroy
  let s := if d.slot = 0 then s else s.dropSlotLines d.slot
  let s := s.putCtx n { d with state := .erased, eraseTick := s.tickOf s.firstDie }
  s.putSweep n { hosted := s.hostAssisted d.part 4 }

/-- ERASE changes the descriptor, the slot, the sweep log and blocks alone. -/
theorem State.erasedCtx_eq (s : State) (n : BitVec 20) : ∃ slots blocks sweeps,
    s.erasedCtx n = { s with
      trust := { s.trust with
        slots := slots, sweeps := sweeps
        ctxs := Sparse.set {} s.trust.ctxs n.toNat { s.ctxOf n with state := .erased, eraseTick := s.tickOf s.firstDie } }
      disp := { s.disp with blocks := blocks } }
    ∧ ((s.ctxOf n).slot ≠ 0 → Sparse.get {} slots (s.ctxOf n).slot.toNat = (s.keySlot (s.ctxOf n).slot.toNat).destroy) := by
  unfold State.erasedCtx
  by_cases hslot : (s.ctxOf n).slot = 0
  · simp only [hslot, if_true]
    exact ⟨_, _, _, rfl, fun h => absurd rfl h⟩
  · simp only [hslot, if_false]
    obtain ⟨l, hl⟩ := (s.putSlot (s.ctxOf n).slot.toNat (s.keySlot (s.ctxOf n).slot.toNat).destroy).dropSlotLines_eq (s.ctxOf n).slot
    rw [hl]
    exact ⟨_, _, _, rfl, fun _ => Sparse.get_set_self _ _ _ _⟩

/-- The state of a command that stays busy. -/
def State.busyWith (s : State) (c : MailCmd) : State := { s with fw := { s.fw with busy := true, cmd := some c } }

theorem erase_starts {s : State} {h : HostAccess} {n : BitVec 20} (hm : MailStarts s h 0x14 0) (hf : s.fw.state = 1)
    (hn : s.mailCtx 0 = some n) (hclosed : (s.ctxOf n).state = .closed) (huse : s.ctxInUse n = false) :
    exec (.erase h) s = .next (ended (if (s.erasedCtx n).hostAssisted (s.ctxOf n).part 4 then s.erasedCtx n
      else (s.erasedCtx n).busyWith { code := 0x14, ctx := n, status := 0, hosted := false, nonce := s.staged 0x20 32 }) 0) := by
  rw [exec_erase]
  unfold execErase
  refine State.fwMail_eq 0 hm hf ?_
  rw [hn]
  show (if _ then _ else if (s.erasedCtx n).hostAssisted (s.ctxOf n).part 4 then (s.erasedCtx n, 0)
    else ((s.erasedCtx n).busyWith { code := 0x14, ctx := n, status := 0, hosted := false, nonce := s.staged 0x20 32 }, 0)) = _
  rw [if_neg]
  · split <;> rfl
  · rintro (hne | hin)
    · exact hne hclosed
    · rw [huse] at hin
      exact absurd hin (by decide)

theorem sweep_starts {s : State} {h : HostAccess} {n : BitVec 20} (hm : MailStarts s h 0x15 0) (hf : s.fw.state = 1)
    (hn : s.mailCtx 0 = some n) (hhost : s.scrubHosted n = true) (herased : (s.ctxOf n).state = .erased)
    (hrange : s.stagedNat 8 8 + s.stagedNat 0x10 8 ≤ 2 ^ 31) :
    exec (.sweep h) s = .next (ended (s.sweepAll n ((s.boundFrames (s.ctxOf n).slot).filter fun f =>
      decide (s.stagedNat 8 8 ≤ frameNumber f) && decide (frameNumber f < s.stagedNat 8 8 + s.stagedNat 0x10 8))) 0) := by
  rw [exec_sweep]
  unfold execSweep
  refine State.fwMail_eq 0 hm hf ?_
  rw [hn]
  show (if _ then _ else if _ then _ else if _ then _ else _) = _
  rw [if_neg (by rw [hhost]; decide), if_neg (not_not_intro herased), if_neg (not_lt.mpr hrange)]

theorem receipt_starts {s : State} {h : HostAccess} {n : BitVec 20} (hm : MailStarts s h 0x16 0) (hf : s.fw.state = 1)
    (hn : s.mailCtx 0 = some n) (hhost : s.scrubHosted n = true) (herased : (s.ctxOf n).state = .erased) :
    exec (.receipt h) s = .next (ended (s.giveReceipt n (s.staged 0x20 32)) 0) := by
  rw [exec_receipt]
  unfold execReceipt
  refine State.fwMail_eq 0 hm hf ?_
  rw [hn]
  show (if _ then _ else if _ then _ else _) = _
  rw [if_neg (by rw [hhost]; decide), if_neg (not_not_intro herased)]

/-- The state in which a context, its slot and its swept frames are free. -/
def State.freedCtx (s : State) (n : BitVec 20) (slot : BitVec 12) : State :=
  let free := s.trust.frames.map fun e => if e.2.swept && e.2.slot == slot then (e.1, ({} : FrameMeta)) else e
  { s with trust := { s.trust with
      ctxs := Sparse.set {} s.trust.ctxs n.toNat {}, slots := Sparse.set {} s.trust.slots slot.toNat {}
      sweeps := Sparse.set {} s.trust.sweeps n.toNat {}, frames := free.filter fun e => e.2 != {} } }

/-- A receipt is staged, and without a frame left the context and its slot become free. -/
theorem State.giveReceipt_eq (s : State) (n : BitVec 20) (nonce : List Byte) : ∃ bs, s.giveReceipt n nonce
    = if s.boundFrames (s.ctxOf n).slot = [] then (s.stage 0x1000 bs).freedCtx n (s.ctxOf n).slot else s.stage 0x1000 bs := by
  refine ⟨s.receiptBytes n nonce ((s.sweepOf n).entries
    ++ (s.boundFrames (s.ctxOf n).slot).map fun f => (4, 0xFFFF, f, s.tickOf s.firstDie)), ?_⟩
  by_cases h : s.boundFrames (s.ctxOf n).slot = []
  · rw [if_pos h]
    exact if_neg (by simp [h])
  · rw [if_neg h]
    exact if_pos (by simp [h])

theorem State.giveReceipt_mem (s : State) (n : BitVec 20) (nonce : List Byte) : (s.giveReceipt n nonce).mem = s.mem := by
  obtain ⟨bs, h⟩ := s.giveReceipt_eq n nonce
  rw [h]
  split <;> rfl

theorem State.giveReceipt_groups (s : State) (n : BitVec 20) (nonce : List Byte) : (s.giveReceipt n nonce).groups = s.groups := by
  obtain ⟨bs, h⟩ := s.giveReceipt_eq n nonce
  rw [h]
  split <;> rfl

/-- Without a frame left the context and its slot become free. -/
theorem State.giveReceipt_of_swept {s : State} {n : BitVec 20} (nonce : List Byte) (h : s.boundFrames (s.ctxOf n).slot = []) :
    (s.giveReceipt n nonce).ctxOf n = {} ∧ (s.giveReceipt n nonce).keySlot (s.ctxOf n).slot.toNat = {} := by
  obtain ⟨bs, hbs⟩ := s.giveReceipt_eq n nonce
  rw [hbs, if_pos h]
  exact ⟨State.ctxOf_of_ctxs rfl, State.keySlot_of_slots rfl⟩

theorem State.giveReceipt_of_missed {s : State} {n : BitVec 20} (nonce : List Byte) (h : s.boundFrames (s.ctxOf n).slot ≠ []) :
    (s.giveReceipt n nonce).trust = s.trust := by
  obtain ⟨bs, hbs⟩ := s.giveReceipt_eq n nonce
  rw [hbs, if_neg h]
  rfl

/-! ### Rebinding -/

/-- Migrations begin in the page maps and the tables of the Weirs. -/
theorem State.beginMoves_eq (s : State) (refs : List PageRef) : ∃ tables migrating,
    s.beginMoves refs = { s with mem := { s.mem with tables := tables, migrating := migrating } } := by
  unfold State.beginMoves
  induction refs generalizing s with
  | nil => exact ⟨s.mem.tables, s.mem.migrating, rfl⟩
  | cons e refs ih =>
    rw [List.foldl_cons]
    simp only at ih ⊢
    split
    · exact ih s
    · obtain ⟨tables, migrating, h⟩ := ih { s with mem := { s.mem with
        tables := Sparse.set 0 s.mem.tables e.key (e.leaf ||| (1#64 <<< 62))
        migrating := s.mem.migrating ++ [(e.object, e.page)] } }
      exact ⟨tables, migrating, h⟩

theorem rekey_starts {s : State} {h : HostAccess} {n : BitVec 20} (hm : MailStarts s h 0x17 0) (hf : s.fw.state = 1)
    (hn : s.mailCtx 0 = some n) (hstate : (s.ctxOf n).state = .open ∨ (s.ctxOf n).state = .closed) (hslot : (s.ctxOf n).slot ≠ 0)
    (hprev : (s.keySlot (s.ctxOf n).slot.toNat).prev.isSome = true)
    (hlive : (s.keySlot (s.ctxOf n).slot.toNat).destroyed = false) :
    exec (.rekey h) s = .next (ended ((s.beginMoves (s.oldPages (s.ctxOf n).slot.toNat)).busyWith
      { code := 0x17, ctx := n, status := 0, hosted := false, nonce := [] }) 0) := by
  rw [exec_rekey]
  unfold execRekey
  refine State.fwMail_eq 0 hm hf ?_
  rw [hn]
  show (if _ then _ else (State.busyWith _ _, 0)) = _
  rw [if_neg]
  rintro (⟨ho, hc⟩ | h0 | hnone | hd)
  · exact hstate.elim ho hc
  · exact hslot h0
  · rw [Option.isNone_iff_eq_none] at hnone
    rw [hnone] at hprev
    exact absurd hprev (by decide)
  · rw [hlive] at hd
    exact absurd hd (by decide)

theorem State.memWork_rekeyRound (s : State) (slot : Nat) : s.MemWork (s.rekeyRound slot) :=
  (s.memWork_endMoves (s.oldPages slot)).trans (State.memWork_beginMoves _ _)

/-- A slot without a previous generation holds no page by it. -/
theorem State.oldPages_of_no_prev {s : State} {slot : Nat} (h : (s.keySlot slot).prev = none) : s.oldPages slot = [] := by
  have htest : (fun w => s.heldByPrev slot (s.frameMeta (leafFrame w))) = fun _ => false := by
    funext w
    simp [State.heldByPrev, h]
  unfold State.oldPages State.pageRefs
  rw [htest]
  simp

/-- The state in which a rebinding ends. -/
def State.rebound (s : State) (slot : Nat) (status : BitVec 8) : State :=
  ((s.rebindLoose slot).putSlot slot { (s.rebindLoose slot).keySlot slot with prev := none }).mailDone status

/-- A rebinding that ends leaves no page of the previous generation. -/
theorem State.oldPages_rebound (s : State) (slot : Nat) (status : BitVec 8) : (s.rebound slot status).oldPages slot = [] := by
  have hslot := (s.rebindLoose slot).keySlot_putSlot_self slot { (s.rebindLoose slot).keySlot slot with prev := none }
  exact State.oldPages_of_no_prev (congrArg KeySlot.prev hslot)

/-! ### A busy command -/

/-- The step of an erasure that is busy. -/
def State.eraseStep (s : State) (c : MailCmd) : State :=
  let t := if (s.ctxOf c.ctx).slot = 0 then s else s.dropSlotLines (s.ctxOf c.ctx).slot
  ((t.sweepAll c.ctx (t.boundFrames (s.ctxOf c.ctx).slot)).giveReceipt c.ctx c.nonce).mailDone c.status

theorem mailboxComplete_of_erase {s : State} {c : MailCmd} (hc : s.fw.cmd = some c) (hcode : c.code = 0x14) :
    exec .mailboxComplete s = .next (s.eraseStep c) := by
  rw [exec_mailboxComplete]
  unfold execMailboxComplete
  rw [hc]
  exact if_pos hcode

theorem mailboxComplete_of_rekey {s : State} {c : MailCmd} (hc : s.fw.cmd = some c) (hcode : c.code ≠ 0x14) :
    exec .mailboxComplete s = .next
      (if (s.rekeyRound (s.ctxOf c.ctx).slot.toNat).oldPages (s.ctxOf c.ctx).slot.toNat = [] then
        (s.rekeyRound (s.ctxOf c.ctx).slot.toNat).rebound (s.ctxOf c.ctx).slot.toNat c.status
      else s.rekeyRound (s.ctxOf c.ctx).slot.toNat) := by
  rw [exec_mailboxComplete]
  unfold execMailboxComplete
  rw [hc]
  exact if_neg hcode

end Sys2Proof.Machine

namespace Sys2Proof.Claims

open Sys2Proof Machine

/-- CTXOPEN refuses a control word or a range of queues that is not in order. -/
theorem ctxopen_starts {s : State} {h : HostAccess} (hm : MailStarts s h 0x11 0) (hf : s.fw.state = 1) (status : Nat) (t : State)
    (hk : (if (BitVec.ofNat 64 (s.stagedNat 0 8)).setWidth 20 = (0 : BitVec 20)
        ∨ bits (BitVec.ofNat 64 (s.stagedNat 0 8)) 59 20 ≠ 0 ∨ bits (BitVec.ofNat 64 (s.stagedNat 0 8)) 63 62 ≠ 0
        ∨ s.stagedNat 0x7A 6 ≠ 0 ∨ s.stagedNat 0x46 2 = 0 ∨ 1024 < s.stagedNat 0x44 2 + s.stagedNat 0x46 2
        ∨ s.partitions.all (fun p => p.id != BitVec.ofNat 16 (s.stagedNat 0x78 2)) then (s, 1)
      else if (s.ctxOf ((BitVec.ofNat 64 (s.stagedNat 0 8)).setWidth 20)).state ≠ .free then (s, 3)
      else (s.putCtx ((BitVec.ofNat 64 (s.stagedNat 0 8)).setWidth 20)
        { state := .open, prot := (BitVec.ofNat 64 (s.stagedNat 0 8)).getLsbD 61
          hostSubmit := (BitVec.ofNat 64 (s.stagedNat 0 8)).getLsbD 60, root := s.stagedRoot 0x10
          grant := s.stagedCap 0x20, log := s.stagedCap 0x30, principal := BitVec.ofNat 32 (s.stagedNat 0x40 4)
          firstQueue := BitVec.ofNat 16 (s.stagedNat 0x44 2), queueCount := BitVec.ofNat 16 (s.stagedNat 0x46 2)
          measurement := BitVec.ofNat 384 (s.stagedNat 0x48 48), part := BitVec.ofNat 16 (s.stagedNat 0x78 2) }, 0))
      = (t, status)) : exec (.ctxopen h) s = .next (ended t (BitVec.ofNat 8 status)) := by
  rw [exec_ctxopen]
  unfold execCtxopen
  exact State.fwMail_eq status hm hf hk

/-- Settles O36: each command by its own effect, and a rebinding by the round that it runs. -/
theorem mailboxKeys : Obligations.MailboxKeys := by
  unfold Obligations.MailboxKeys
  refine ⟨fun s h hf => ⟨fun hm => ?_, fun n hm hn => ⟨fun ho => ?_, fun ho => ?_⟩, fun n key fabric hm hn hopen => ?_⟩,
    fun s h n hf hn => ?_⟩
  · intro control k first count ok
    have hok : ok ↔ ¬ (k = 0 ∨ bits control 59 20 ≠ 0 ∨ bits control 63 62 ≠ 0 ∨ s.stagedNat 0x7A 6 ≠ 0 ∨ count = 0
        ∨ 1024 < first + count ∨ s.partitions.all (fun p => p.id != BitVec.ofNat 16 (s.stagedNat 0x78 2)) = true) := by
      simp only [not_or, ne_eq, not_not, not_lt, List.all_eq_true, bne_iff_ne, not_forall, exists_prop]
      exact Iff.rfl
    refine ⟨fun h => ctxopen_starts hm hf 1 s ?_, fun h hs => ctxopen_starts hm hf 3 s ?_, fun h hs => ctxopen_starts hm hf 0 _ ?_⟩
    · rw [hok, not_not] at h
      exact if_pos h
    · rw [hok] at h
      exact (if_neg h).trans (if_pos hs)
    · rw [hok] at h
      exact (if_neg h).trans (if_neg (not_not_intro hs))
  · rw [ctxclose_starts hm hf hn, if_neg (not_not_intro ho)]
    rfl
  · rw [ctxclose_starts hm hf hn, if_pos ho]
  · intro d k gen hslot hprev hlow hgen hwarm hmagic hflags hres hfab hrec
    rw [keyload_starts hm hf hn hopen hslot hprev hlow hgen hwarm hmagic hflags hres hfab hrec, KeySlot.install_of_new hprev hgen]
  · intro d
    refine ⟨fun hm => ⟨fun hbad => ?_, fun hclosed huse => ?_⟩, fun hm hhost herased hrange => sweep_starts hm hf hn hhost herased hrange,
      fun hm hhost herased => ?_, fun hm hstate hslot hprev hlive => ?_, fun hnone => ?_,
      fun c hc hctx => ⟨fun hcode => ?_, fun hcode => ?_⟩⟩
    · rw [exec_erase]
      unfold execErase
      refine State.fwMail_eq 3 hm hf ?_
      rw [hn]
      exact if_pos hbad
    · obtain ⟨-, -, -, -, -, hbusy⟩ := id hm
      obtain ⟨slots, blocks, sweeps, heq, hslots⟩ := s.erasedCtx_eq n
      refine ⟨_, erase_starts hm hf hn hclosed huse, rfl, ?_⟩
      have hhost : (s.erasedCtx n).hostAssisted d.part 4 = s.hostAssisted d.part 4 := by
        rw [heq]
        rfl
      rw [hhost, heq]
      cases s.hostAssisted d.part 4 with
      | true =>
        exact ⟨hslots, State.ctxOf_of_ctxs rfl, hbusy, rfl, rfl, rfl, rfl, rfl⟩
      | false =>
        exact ⟨hslots, State.ctxOf_of_ctxs rfl, rfl, rfl, rfl, rfl, rfl, rfl⟩
    · exact ⟨_, receipt_starts hm hf hn hhost herased, State.giveReceipt_of_swept _, State.giveReceipt_of_missed _,
        State.giveReceipt_mem _ _ _, State.giveReceipt_groups _ _ _⟩
    · obtain ⟨tables, migrating, hmoves⟩ := s.beginMoves_eq (s.oldPages d.slot.toNat)
      refine ⟨_, rekey_starts hm hf hn hstate hslot hprev hlive, rfl, rfl, ?_, ?_, rfl⟩
      · rw [hmoves]
        rfl
      · rw [hmoves]
        rfl
    · rw [exec_mailboxComplete]
      unfold execMailboxComplete
      rw [hnone]
    · exact ⟨_, mailboxComplete_of_erase hc hcode, rfl, rfl, rfl⟩
    · subst hctx
      have hround := s.memWork_rekeyRound d.slot.toNat
      refine ⟨_, mailboxComplete_of_rekey hc hcode, ?_⟩
      split
      · have hpages := (s.rekeyRound d.slot.toNat).oldPages_rebound d.slot.toNat c.status
        exact ⟨⟨fun _ => .inl hpages, fun _ => rfl⟩, fun h => absurd h Bool.false_ne_true⟩
      · next hleft =>
        rw [hround.busy, hround.command]
        exact ⟨⟨.inr, fun h => h.resolve_left hleft⟩, fun _ => hc⟩

end Sys2Proof.Claims

/-! PROOFS. Power, heat, firmware's watchdog, die drops and checks (O37). -/

namespace Sys2Proof.Machine

/-! ### Power and heat -/

theorem moduleDie_eq {m : Nat} (h : m < 2) : moduleDie m = 2 * m := by
  obtain rfl | rfl : m = 0 ∨ m = 1 := by omega
  · rfl
  · rfl

/-! ### What the loss of groups and blocks leaves -/

/-- The second state has the package and the proposals of the first, and no group that the first does not have. -/
structure State.Losing (s t : State) : Prop where
  pkg : t.pkg = s.pkg
  proposals : t.fw.proposals = s.fw.proposals
  group : ∀ h, s.group h = none → t.group h = none

theorem State.Losing.refl (s : State) : s.Losing s := ⟨rfl, rfl, fun _ h => h⟩

theorem State.Losing.trans {s t u : State} (h : s.Losing t) (h' : t.Losing u) : s.Losing u :=
  ⟨h'.pkg.trans h.pkg, h'.proposals.trans h.proposals, fun k hk => h'.group k (h.group k hk)⟩

/-- A state with the same package, proposals and groups. -/
theorem State.Losing.of_eq {s t : State} (hp : t.pkg = s.pkg) (hf : t.fw.proposals = s.fw.proposals) (hg : t.groups = s.groups) :
    s.Losing t :=
  ⟨hp, hf, fun h hn => by rw [State.group, hg]; exact hn⟩

theorem foldl_losing {α : Type} {f : State → α → State} (hf : ∀ (s : State) a, s.Losing (f s a)) (l : List α) (s : State) :
    s.Losing (l.foldl f s) := by
  induction l generalizing s with
  | nil => exact .refl s
  | cons a l ih => exact (hf s a).trans (ih _)

theorem foldl_fst_losing {α β : Type} {f : State × β → α → State × β} (hf : ∀ (s : State × β) a, s.1.Losing (f s a).1) (l : List α)
    (s : State × β) : s.1.Losing (l.foldl f s).1 := by
  induction l generalizing s with
  | nil => exact .refl s.1
  | cons a l ih => exact (hf s a).trans (ih _)

theorem State.MemWork.losing {s t : State} (h : s.MemWork t) : s.Losing t := by
  refine .of_eq h.pkg ?_ h.groups
  rw [show t = _ from h]

theorem State.losing_freeContext (s : State) (h : Nat) : s.Losing (s.freeContext h) := by
  unfold State.freeContext
  simp only
  have hreturned (l : List Nat) : s.Losing (l.foldl (fun (s : State) f => s.returnFrame f) s) :=
    (foldl_memWork (fun s f => s.memWork_returnFrame f) l s).losing
  have hlost {t : State} (ht : s.Losing t) : s.Losing { t with
      mem := { t.mem with objects := Sparse.set {} t.mem.objects h {} }, groups := Sparse.set none t.groups h none } := by
    refine ht.trans ⟨rfl, rfl, fun k hk => ?_⟩
    show Sparse.get none (Sparse.set none t.groups h none) k = none
    rw [Sparse.get_set]
    split
    · rfl
    · exact hk
  split
  · exact hlost (hreturned _)
  · exact hlost (.refl s)

theorem State.losing_dropGroup (s : State) (h : Nat) : s.Losing (s.dropGroup h) := by
  unfold State.dropGroup
  split
  · exact .refl s
  · simp only
    refine .trans ?_ (State.losing_freeContext _ h)
    exact .of_eq rfl rfl rfl

theorem State.losing_dropCommands (s : State) (blk : Nat) : s.Losing (s.dropCommands blk) := by
  refine foldl_losing (fun s k => ?_) _ s
  split
  · exact .refl s
  · exact .of_eq rfl rfl rfl

theorem State.losing_removeBlock (s : State) (blk : Nat) (b : Block) : s.Losing (s.removeBlock blk b) := by
  have hgroups := foldl_losing (fun s h => State.losing_dropGroup s h) b.groups s
  unfold State.removeBlock
  simp only
  split
  · exact hgroups.trans (.of_eq rfl rfl rfl)
  · exact hgroups.trans (.of_eq rfl rfl rfl)

theorem State.losing_abortBlock (s : State) (blk : Nat) : s.Losing (s.abortBlock blk) := by
  unfold State.abortBlock
  split
  · exact .refl s
  · exact (s.losing_dropCommands blk).trans (State.losing_removeBlock _ _ _)

theorem State.losing_loseBlocks (s : State) (d : Nat) : s.Losing (s.loseBlocks d).1 := by
  refine foldl_fst_losing (fun a e => ?_) _ (s, [])
  have habort := a.1.losing_abortBlock e.1
  simp only
  split
  · exact habort.trans (.of_eq rfl rfl rfl)
  · split
    · exact habort
    · exact habort

theorem State.losing_setTasks (s : State) (core : Nat) (q : List TaskRec) : s.Losing (s.setTasks core q) := .of_eq rfl rfl rfl

theorem State.losing_loseTasks (s : State) (d : Nat) : s.Losing (s.loseTasks d) := by
  unfold State.loseTasks
  simp only
  refine .trans ?_ (foldl_losing (fun s e => State.losing_setTasks s _ _) _ _)
  refine .trans ?_ (foldl_losing (fun s r => ?_) _ _)
  · refine .trans (foldl_losing (fun s e => ?_) s.groups s) (.of_eq rfl rfl rfl)
    split
    · exact .refl s
    · split
      · exact s.losing_dropGroup _
      · exact .refl s
  · split
    · exact .refl s
    · exact s.losing_setTasks _ _

theorem State.losing_post (s : State) (r : CurRec) : s.Losing (s.post r) := .of_eq (by simp) (by simp) (by simp)

theorem State.losing_postFault (s : State) (grid : BitVec 16) (nominal : BitVec 12) (code : BitVec 16) :
    s.Losing (s.postFault grid nominal code) := (s.losing_post _).trans (.of_eq rfl rfl rfl)

/-! ### A die drop -/

theorem State.stopFwc_group (s : State) (d : Nat) : (s.stopFwc d).group (2 ^ 28 + d) = none :=
  Sparse.get_set_self none s.groups (fwGroup d) none

theorem State.losing_dropDie_rest (s : State) (d : Nat) (lost : List (BitVec 16 × BitVec 12)) : s.Losing
    (lost.foldl (fun (s : State) e => s.postFault e.1 e.2 0x0004)
      ((((s.loseCommands d).loseTasks d).post ((s.loseCommands d).loseTasks d).capacityRec).contain d 0x0D06 3 8 5 d none 0xFFFF
        0xFFFF 0 0 0 0 0)) := by
  refine .trans ?_ (foldl_losing (f := fun (s : State) (e : BitVec 16 × BitVec 12) => s.postFault e.1 e.2 0x0004)
    (fun s e => s.losing_postFault e.1 e.2 0x0004) lost _)
  refine .trans ?_ (State.memWork_contain _ d 0x0D06 3 8 5 d none 0xFFFF 0xFFFF 0 0 0 0 0).losing
  refine .trans ?_ (State.losing_post _ _)
  refine .trans ?_ (State.losing_loseTasks _ d)
  exact .of_eq rfl rfl rfl

/-- What is left of the package, the proposals and the firmware core after a die was dropped. -/
theorem State.dropDie_of_canDrop {s : State} {d : Nat} (hrun : s.dieRuns d = true) (hcan : s.canDrop d = true) :
    (s.dropDie d).pkg = (s.loseUnits d).pkg ∧ (s.dropDie d).fw.proposals = (s.fw.withoutDie d).proposals
      ∧ (s.dropDie d).group (2 ^ 28 + d) = none := by
  have hlose : (s.loseUnits d).Losing (s.dropDie d) := by
    unfold State.dropDie
    simp only [hrun, hcan, Bool.not_true, Bool.false_eq_true, if_false]
    exact ((s.loseUnits d).losing_loseBlocks d).trans (State.losing_dropDie_rest _ d _)
  exact ⟨hlose.pkg, hlose.proposals, hlose.group _ (State.stopFwc_group _ d)⟩

/-! ### Proposals -/

/-- A service request changes the host interface alone. -/
theorem State.serviceRequest_eq (s : State) (fn die : Nat) (part : BitVec 16) (body : List Byte) :
    s.serviceRequest fn die part body = { s with host := (s.serviceRequest fn die part body).host } := by
  unfold State.serviceRequest
  simp only
  split <;> rfl

/-- A record of a contained error is counted, and written to the ring. -/
theorem State.contain_counted (s : State) (die : Nat) (code : BitVec 16) (severity unitKind check unitNum : Nat)
    (frame : Option (BitVec 31)) (sector grid ctx gid : Nat) (pc tstat peer : W64) :
    ∃ n h, s.contain die code severity unitKind check unitNum frame sector grid ctx gid pc tstat peer
      = { s with fw := { s.fw with unitErrors := n }, host := h } := by
  unfold State.contain
  simp only
  rw [State.errorRecord_eq]
  exact ⟨_, _, rfl⟩

/-- A proposal of a die takes the place of the one before. -/
theorem State.propose_eq (s : State) (die reason : Nat) : ∃ p : Proposal, p.die = BitVec.ofNat 2 die
    ∧ p.reason = BitVec.ofNat 8 reason ∧ s.propose die reason = { s with
      host := (s.propose die reason).host
      fw := { s.fw with
        unitErrors := (s.propose die reason).fw.unitErrors
        proposals := (s.fw.proposals.filter fun p => p.die != BitVec.ofNat 2 die) ++ [p] } } := by
  obtain ⟨n, h, hcontain⟩ := s.contain_counted die 0x0D05 2 8 (if reason = 4 then 6 else 5) die none 0xFFFF 0xFFFF 0 0 0 0 0
  unfold State.propose
  simp only
  rw [hcontain]
  split
  · rw [State.serviceRequest_eq]
    exact ⟨⟨BitVec.ofNat 2 die, BitVec.ofNat 8 reason, _⟩, rfl, rfl, rfl⟩
  · exact ⟨⟨BitVec.ofNat 2 die, BitVec.ofNat 8 reason, _⟩, rfl, rfl, rfl⟩

section
variable (s : State) (die reason : Nat)

theorem State.propose_cores : (s.propose die reason).cores = s.cores := by
  obtain ⟨_, _, _, h⟩ := s.propose_eq die reason
  exact (congrArg State.cores h :)

theorem State.propose_groups : (s.propose die reason).groups = s.groups := by
  obtain ⟨_, _, _, h⟩ := s.propose_eq die reason
  exact (congrArg State.groups h :)

theorem State.propose_watchdog : (s.propose die reason).fw.watchdog = s.fw.watchdog := by
  obtain ⟨_, _, _, h⟩ := s.propose_eq die reason
  exact (congrArg (fun t : State => t.fw.watchdog) h :)

theorem State.propose_diesParked : (s.propose die reason).fw.diesParked = s.fw.diesParked := by
  obtain ⟨_, _, _, h⟩ := s.propose_eq die reason
  exact (congrArg (fun t : State => t.fw.diesParked) h :)

theorem State.mem_propose : ∃ p ∈ (s.propose die reason).fw.proposals, p.die = BitVec.ofNat 2 die ∧ p.reason = BitVec.ofNat 8 reason := by
  obtain ⟨p, hdie, hreason, h⟩ := s.propose_eq die reason
  have hlist := congrArg (fun t : State => t.fw.proposals) h
  exact ⟨p, hlist ▸ List.mem_append_right _ List.mem_cons_self, hdie, hreason⟩

end

/-! ### The watchdog -/

theorem State.parked_parkDie (s : State) (d : Nat) (on : Bool) (c : Nat) :
    (Sparse.get {} (s.parkDie d on).cores c : Core).parked
      = if 40 * d ≤ c ∧ c < 40 * d + 40 then on else (Sparse.get {} s.cores c : Core).parked := by
  unfold State.parkDie
  simp only
  split
  · next hc =>
    rw [Sparse.get_setAll_of_mem ({} : Core) (fun c => { Sparse.get ({} : Core) s.cores c with parked := on })]
    · intro e he
      obtain ⟨i, -, rfl⟩ := List.mem_map.mp he
      rfl
    · exact ⟨_, List.mem_map.mpr ⟨c - 40 * d, List.mem_range.mpr (by omega), rfl⟩, Nat.add_sub_of_le hc.1⟩
  · next hc =>
    rw [Sparse.get_setAll_of_not_mem]
    intro e he heq
    obtain ⟨i, hi, rfl⟩ := List.mem_map.mp he
    have hsum : 40 * d + i = c := heq
    have := List.mem_range.mp hi
    omega

theorem getLsbD_or_bit (w : BitVec 4) {d : Nat} (hd : d < 4) : (w ||| 1#4 <<< d).getLsbD d = true := by
  simp [hd]

theorem getLsbD_and_not_bit (w : BitVec 4) {d : Nat} (hd : d < 4) : (w &&& ~~~(1#4 <<< d)).getLsbD d = false := by
  simp [hd]

/-! ### A firmware core that starts -/

@[simp] theorem State.sliceCount_newFwGroup (s : State) (d : Nat) : (s.newFwGroup d).sliceCount = 4 := by
  simp [State.newFwGroup, Group.sliceCount, Group.lanes]

theorem State.slice_newFwGroup (s : State) (d : Nat) {i : Nat} (hi : i < 4) : (s.newFwGroup d).slice i = { pc := 0x100 } := by
  unfold State.newFwGroup
  simp only
  rw [Group.slice_mapSlices_of_mem _ _ _ _ List.nodup_range]
  · rfl
  · rw [List.mem_range]
    simpa [Group.sliceCount, Group.lanes] using hi

theorem State.live_newFwGroup (s : State) (d : Nat) : (s.newFwGroup d).live = [0, 1, 2, 3] := by
  unfold Group.live
  rw [s.sliceCount_newFwGroup, show List.range 4 = [0, 1, 2, 3] from rfl]
  simp [s.slice_newFwGroup]

theorem State.settle_newFwGroup (s : State) (d : Nat) : (s.newFwGroup d).settle = s.newFwGroup d := by
  have hstate : (s.newFwGroup d).state = .resident := by simp [State.newFwGroup]
  have hfault : (s.newFwGroup d).ctxFault = false := by
    unfold State.newFwGroup
    simp only
    rw [Group.mapSlices_eq]
  have hheld : (s.newFwGroup d).held = s.newFwGroup d := by
    unfold Group.held Group.groupParked
    rw [s.live_newFwGroup, hfault]
    simp [s.slice_newFwGroup]
  have hparked : (s.newFwGroup d).allParked = false := by
    unfold Group.allParked
    rw [s.live_newFwGroup]
    simp [s.slice_newFwGroup]
  unfold Group.settle
  rw [hheld]
  simp only [hstate, s.live_newFwGroup, hparked]
  rfl

/-- A firmware core that starts: its core, its block and its group. -/
theorem State.startFwc_eq (s : State) (d : Nat) : s.startFwc d = { s with
    cores := Sparse.set {} s.cores (160 + d) { slots := [(0, some (fwGroup d))], freePages := 0 }
    fw := { s.fw with watchdog := Sparse.set 10000000 s.fw.watchdog d 10000000 }
    disp := { s.disp with blocks := Sparse.set none s.disp.blocks (fwBlock d) (some (s.newFwBlock d)) }
    groups := Sparse.set none s.groups (fwGroup d) (some (s.newFwGroup d)) } := by
  have hstate (u : State) : (u.newFwGroup d).state = .resident := by simp [State.newFwGroup]
  unfold State.startFwc State.putGroup State.queueReleased
  simp only [State.settle_newFwGroup, hstate, reduceCtorEq, false_and, if_false]
  rfl
/-- The device after the watchdog of a die expired, but for a proposal. -/
def State.restarted (s : State) (d : Nat) : State :=
  let t := (((s.parkDie d true).stopFwc d).startFwc d).errorRecord d 8 0x0108 2 (leBytes 1 d)
  { t with fw := { t.fw with lastExpiry := Sparse.set none t.fw.lastExpiry d (some (s.tickOf d)) } }

/-- Whether the watchdog of a die has expired within 10^8 ticks before. -/
def State.expiredAgain (s : State) (d : Nat) : Bool :=
  match Sparse.get none s.fw.lastExpiry d with
  | none => false
  | some t => decide ((s.tickOf d - t).toNat ≤ 100000000)

theorem fwdog_expired {s : State} {die : BitVec 2} (hdog : s.watchdog die.toNat = 0) (hrun : s.dieRuns die.toNat = true)
    (hf : s.fw.state = 1) : exec (.fwdog die) s
      = .next (if s.expiredAgain die.toNat then (s.restarted die.toNat).propose die.toNat 4 else s.restarted die.toNat) := by
  rw [exec_fwdog]
  unfold execFwdog
  exact if_neg (by simp [hdog, hrun, hf])

theorem State.restarted_fw (s : State) (d : Nat) : (s.restarted d).fw = { s.fw with
    mcsets := s.fw.mcsets.filter fun e => e.die != d
    watchdog := Sparse.set 10000000 s.fw.watchdog d 10000000
    diesParked := s.fw.diesParked ||| (1#4 <<< d)
    lastExpiry := Sparse.set none s.fw.lastExpiry d (some (s.tickOf d)) } := by
  unfold State.restarted
  simp only [State.errorRecord_fw, State.startFwc_eq]
  rfl

theorem State.restarted_watchdog (s : State) (d : Nat) : (s.restarted d).watchdog d = 10000000 := by
  unfold State.watchdog
  rw [State.restarted_fw]
  exact Sparse.get_set_self 10000000 s.fw.watchdog d 10000000

theorem State.restarted_parked (s : State) {d : Nat} (hd : d < 4) : (s.restarted d).fw.diesParked.getLsbD d = true := by
  rw [State.restarted_fw]
  exact getLsbD_or_bit s.fw.diesParked hd

theorem State.restarted_cores (s : State) {d c : Nat} (hd : d < 4) (hlow : 40 * d ≤ c) (hc : c < 40 * d + 40) :
    (Sparse.get {} (s.restarted d).cores c : Core).parked = true := by
  have hpark := s.parked_parkDie d true c
  rw [if_pos ⟨hlow, hc⟩] at hpark
  have hne : c ≠ 160 + d := by omega
  have hcores : (s.restarted d).cores = Sparse.set {} (Sparse.set {} (s.parkDie d true).cores (160 + d) {}) (160 + d)
      { slots := [(0, some (fwGroup d))], freePages := 0 } := by
    unfold State.restarted
    simp only [State.errorRecord_cores, State.startFwc_eq]
    rfl
  rw [hcores, Sparse.get_set_of_ne _ _ _ hne, Sparse.get_set_of_ne _ _ _ hne]
  exact hpark

/-- The group of the firmware core starts again at the first byte of its body. -/
theorem State.restarted_group (s : State) (d : Nat) :
    ∃ g, (s.restarted d).group (2 ^ 28 + d) = some g ∧ g.privileged = true ∧ g.state = .resident ∧ (g.slice 0).pc = 0x100 := by
  refine ⟨((s.parkDie d true).stopFwc d).newFwGroup d, ?_, ?_, ?_, ?_⟩
  · unfold State.restarted State.group
    simp only [State.errorRecord_groups, State.startFwc_eq]
    exact Sparse.get_set_self none _ (fwGroup d) _
  · unfold State.newFwGroup
    simp only
    rw [Group.mapSlices_eq]
  · simp [State.newFwGroup]
  · rw [State.slice_newFwGroup _ _ (by decide)]

/-- The state without the proposals of a die. -/
def State.withdrawn (s : State) (die : BitVec 2) : State :=
  { s with fw := { s.fw with proposals := s.fw.proposals.filter fun p => p.die != die } }

/-! ### Checks -/

/-- A lasting error of a link or of a whole unit proposes the die. -/
theorem State.lastingError_of_port (s : State) {e : CheckFail} (hcheck : e.check ≠ 2) (hunit : e.unitKind = 7 ∨ e.unitKind = 8) :
    ∃ (u : State) (reason : Nat), s.lastingError e = u.propose e.die.toNat reason := by
  unfold State.lastingError
  simp only
  rw [if_neg hcheck]
  obtain h | h := hunit
  · rw [h]
    exact ⟨_, _, rfl⟩
  · rw [h]
    exact ⟨_, _, rfl⟩

/-- What a check of a unit that is neither a stash nor an instruction cache records. -/
theorem State.checkRecord_eq {s : State} {e : CheckFail} (code : BitVec 16) (severity : Nat) (h2 : e.unitKind ≠ 2)
    (h4 : e.unitKind ≠ 4) (hcode : code ≠ 0x0D0B) :
    let of : Nat × Nat × Nat × W64 :=
      if e.unitKind = 3 then ((s.group e.target).map fun g =>
        g.inRecord (if (g.lineSlice e.sector.toNat).isSome then g.lineSlice e.sector.toNat else g.live.head?)).getD (0xFFFF, 0, 0, 0)
      else (0xFFFF, 0, 0, 0)
    s.checkRecord e code severity = s.contain e.die.toNat code severity e.unitKind.toNat e.check.toNat e.unitNum.toNat e.frame
      (if e.frame = none then 0xFFFF else if e.unitKind = 3 then 64 * e.sector.toNat % 65536 / 32
        else if e.sector.toNat < 2048 then e.sector.toNat else 0xFFFF) of.1 of.2.1 of.2.2.1 of.2.2.2 0 0 := by
  have hn2 : e.unitKind.toNat ≠ 2 := fun h => h2 (BitVec.eq_of_toNat_eq h)
  have hn4 : e.unitKind.toNat ≠ 4 := fun h => h4 (BitVec.eq_of_toNat_eq h)
  have hk3 : e.unitKind = 3 ↔ e.unitKind.toNat = 3 := ⟨fun h => congrArg BitVec.toNat h, fun h => BitVec.eq_of_toNat_eq h⟩
  have hsector : s.checkedSector e = if e.frame = none then 0xFFFF else if e.unitKind = 3 then 64 * e.sector.toNat % 65536 / 32
      else if e.sector.toNat < 2048 then e.sector.toNat else 0xFFFF := by
    unfold State.checkedSector
    simp only [Option.isNone_iff_eq_none, hk3]
    refine if_congr Iff.rfl rfl ?_
    split
    · next h => exact absurd h hn2
    · next h => rw [if_pos h]
    · next h => rw [if_neg h]
  intro of
  have hgroup : s.checkedGroup e = of := by
    simp only [of, hk3]
    unfold State.checkedGroup
    split
    · next h => exact absurd h hn2
    · next h =>
      rw [if_pos h]
      cases s.group e.target with
      | none => rfl
      | some g =>
        simp only [Option.map_some, Option.getD_some]
        cases g.lineSlice e.sector.toNat <;> rfl
    · next h => exact absurd h hn4
    · next h _ => rw [if_neg h]
  unfold State.checkRecord
  simp only
  rw [hsector, hgroup, if_neg hcode]

end Sys2Proof.Machine

namespace Sys2Proof.Claims

open Sys2Proof Machine

/-- What the expiry of a watchdog leaves. -/
theorem fwdog_restarts {s : State} {die : BitVec 2} (hdog : s.watchdog die.toNat = 0) (hrun : s.dieRuns die.toNat = true)
    (hf : s.fw.state = 1) : ∃ t : State, exec (.fwdog die) s = .next t
      ∧ t.watchdog die.toNat = 10000000 ∧ t.fw.diesParked.getLsbD die.toNat = true
      ∧ (∀ c, 40 * die.toNat ≤ c → c < 40 * die.toNat + 40 → (Sparse.get {} t.cores c : Core).parked = true)
      ∧ (∃ g, t.group (2 ^ 28 + die.toNat) = some g ∧ g.privileged = true ∧ g.state = .resident ∧ (g.slice 0).pc = 0x100)
      ∧ (∀ u, Sparse.get none s.fw.lastExpiry die.toNat = some u → (s.tickOf die.toNat - u).toNat ≤ 10 ^ 8 →
          ∃ p ∈ t.fw.proposals, p.die = die ∧ p.reason = 4)
      ∧ (Sparse.get none s.fw.lastExpiry die.toNat = none → t.fw.proposals = s.fw.proposals) := by
  have hd : die.toNat < 4 := die.isLt
  have hgroup := s.restarted_group die.toNat
  have hcores := fun c => s.restarted_cores (c := c) hd
  cases hagain : s.expiredAgain die.toNat with
  | true =>
    refine ⟨(s.restarted die.toNat).propose die.toNat 4, ?_, ?_, ?_, ?_, ?_, fun u hu hrecent => ?_, fun hnone => ?_⟩
    · rw [fwdog_expired hdog hrun hf, hagain]
      rfl
    · rw [State.watchdog, State.propose_watchdog]
      exact s.restarted_watchdog die.toNat
    · rw [State.propose_diesParked]
      exact s.restarted_parked hd
    · rw [State.propose_cores]
      exact hcores
    · rw [State.group, State.propose_groups]
      exact hgroup
    · obtain ⟨p, hp, hdie, hreason⟩ := (s.restarted die.toNat).mem_propose die.toNat 4
      exact ⟨p, hp, by rw [hdie, BitVec.ofNat_toNat, BitVec.setWidth_eq], hreason⟩
    · unfold State.expiredAgain at hagain
      rw [hnone] at hagain
      exact absurd hagain Bool.false_ne_true
  | false =>
    refine ⟨s.restarted die.toNat, ?_, ?_, ?_, hcores, hgroup, fun u hu hrecent => ?_, fun hnone => ?_⟩
    · rw [fwdog_expired hdog hrun hf, hagain]
      rfl
    · exact s.restarted_watchdog die.toNat
    · exact s.restarted_parked hd
    · unfold State.expiredAgain at hagain
      rw [hu] at hagain
      exact absurd hrecent (of_decide_eq_false hagain)
    · exact (congrArg Firmware.proposals (s.restarted_fw die.toNat) :)

/-- Settles O37: each happening by its own test; a die drop by what the loss of groups and blocks leaves. -/
theorem powerHeatAndDies : Obligations.PowerHeatAndDies := by
  unfold Obligations.PowerHeatAndDies
  refine ⟨fun s n sensor m => ?_, fun s die e => ?_⟩
  · intro p now down up barred held clock
    refine ⟨?_, fun h => ?_, fun h => ?_, fun h hh => ?_, fun h => ?_, fun h hn => ?_, fun h => ?_, fun h => ?_, fun h => ?_,
      fun hmod hrun => ?_, fun h => ?_⟩
    · have hfree : (p.hot95 = false ∧ ¬ (p.cooling = true ∧ 92 ≤ p.hottest)) ↔ barred = false := by
        simp [barred]
      rw [exec_powerWindow]
      unfold execPowerWindow
      simp only [p, hfree]
      rfl
    · have hhot : (decide (95 ≤ n) || (s.pkg.hot95 && decide (92 ≤ n))) = true := by simpa [p] using h
      rw [exec_thermalStep]
      unfold execThermalStep
      simp only [hhot, Bool.true_and]
      cases hh : s.pkg.hold105 with
      | true => simp [now, p]
      | false => simp [now, p, down, stepDown]
    · have hcold : (decide (95 ≤ n) || (s.pkg.hot95 && decide (92 ≤ n))) = false := by
        obtain h | ⟨h, hn⟩ := h
        · rw [decide_eq_false (by omega), decide_eq_false (by omega), Bool.and_false, Bool.or_false]
        · rw [decide_eq_false (by omega), h, Bool.false_and, Bool.or_false]
      rw [exec_thermalStep]
      unfold execThermalStep
      simp only [hcold, Bool.false_and]
      rfl
    · rw [exec_thermalHold]
      exact if_neg (not_or.mpr ⟨by omega, Bool.eq_false_iff.mp hh⟩)
    · rw [exec_thermalHold]
      exact if_pos h
    · rw [exec_thermalHoldEnd]
      unfold execThermalHoldEnd
      rw [h, decide_eq_true hn]
      rfl
    · rw [exec_thermalHoldEnd]
      unfold execThermalHoldEnd
      rw [if_neg]
      intro hboth
      obtain ⟨hhold, hn⟩ := Bool.and_eq_true_iff.mp hboth
      obtain h | h := h
      · exact Bool.eq_false_iff.mp h hhold
      · exact absurd (of_decide_eq_true hn) (by omega)
    · rw [exec_thermtrip]
      unfold execThermtrip
      rw [if_pos h]
    · rw [exec_thermtrip]
      unfold execThermtrip
      rw [if_neg (by omega)]
    · rw [exec_hostModuleTraining]
      unfold execHostModuleTraining
      simp only
      rw [moduleDie_eq m.isLt, hmod, hrun]
      rfl
    · rw [exec_hostModuleTraining]
      unfold execHostModuleTraining
      simp only
      rw [moduleDie_eq m.isLt, if_neg]
      exact fun hboth => (Bool.and_eq_true_iff.mp hboth).elim fun hmod hrun => h.elim (Bool.eq_false_iff.mp · hmod)
        (Bool.eq_false_iff.mp · hrun)
  · intro d place of noted
    have hd : d < 4 := die.isLt
    refine ⟨fun hpark hf => ?_, fun h => ?_, fun hdog hrun hf => ?_, fun hmine hlow hrun hcan => ?_, ?_, ?_, ?_⟩
    · refine ⟨s.parkDie d false, ?_, getLsbD_and_not_bit _ hd, s.parked_parkDie d false⟩
      rw [exec_firmwareReadiness]
      unfold execFirmwareReadiness
      rw [hpark, hf]
      rfl
    · rw [exec_fwdog]
      exact if_pos (by simpa using h)
    · exact fwdog_restarts hdog hrun hf
    · obtain ⟨hpkg, hprop, hgroup⟩ := State.dropDie_of_canDrop (s := s.withdrawn die) (d := d) hrun hcan
      refine ⟨(s.withdrawn die).dropDie d, ?_, ?_, ?_, hgroup⟩
      · rw [exec_dieDrop]
        unfold execDieDrop
        simp only
        rw [hmine, hlow]
        exact congrArg Host.Outcome.next (if_pos rfl)
      · rw [hpkg]
        rfl
      · intro p hp heq
        rw [hprop] at hp
        obtain ⟨-, hne⟩ := List.mem_filter.mp hp
        rw [heq] at hne
        exact bne_iff_ne.mp hne rfl
    · intro h2 h4 hcor hframe
      rw [exec_errorRetry]
      unfold execErrorRetry State.corrected checkedFrame
      rw [if_pos hcor, hframe]
      simp only [noted, place, of]
      exact congrArg Host.Outcome.next (State.checkRecord_eq 0x0D01 0 h2 h4 (by decide))
    · intro h2 h4 hcor hretry
      rw [exec_errorRetry]
      unfold execErrorRetry
      rw [if_neg (by rw [hcor]; decide), if_pos hretry]
      simp only [noted, place, of]
      exact congrArg Host.Outcome.next (State.checkRecord_eq 0x0D02 1 h2 h4 (by decide))
    · intro hcor hretry hcheck hunit
      refine ⟨s.lastingError e, ?_, ?_⟩
      · rw [exec_errorRetry]
        unfold execErrorRetry
        rw [if_neg (by rw [hcor]; decide), if_neg hretry]
      · obtain ⟨u, reason, hu⟩ := s.lastingError_of_port hcheck hunit
        obtain ⟨p, hp, hdie, -⟩ := u.mem_propose e.die.toNat reason
        rw [hu]
        exact ⟨p, hp, by rw [hdie, BitVec.ofNat_toNat, BitVec.setWidth_eq]⟩

end Sys2Proof.Claims

/-! PROOFS. Frames, retries and training of ports (O38). -/

namespace Sys2Proof.Machine

open Claims

/-! ### Writes to one index -/

theorem Sparse.erase_of_not_mem {α : Type} {m : Sparse α} {x : Nat} (h : ∀ e ∈ m, e.1 ≠ x) : m.erase x = m :=
  List.filter_eq_self.mpr fun e he => bne_iff_ne.mpr (h e he)

theorem Sparse.fst_ne_of_mem_erase {α : Type} {m : Sparse α} {x : Nat} {e : Nat × α} (he : e ∈ m.erase x) : e.1 ≠ x := by
  obtain ⟨-, hne⟩ := List.mem_filter.mp he
  exact bne_iff_ne.mp hne

theorem Sparse.erase_place {α : Type} (x : Nat) (v : α) {m : Sparse α} (h : ∀ e ∈ m, e.1 ≠ x) : (Sparse.place x v m).erase x = m := by
  induction m with
  | nil => simp [Sparse.place, Sparse.erase]
  | cons e m ih =>
    obtain ⟨k, w⟩ := e
    have hk : k ≠ x := h (k, w) List.mem_cons_self
    have hm : ∀ e ∈ m, e.1 ≠ x := fun e he => h e (List.mem_cons_of_mem _ he)
    unfold Sparse.place
    split
    · have hcons := Sparse.erase_of_not_mem h
      unfold Sparse.erase at hcons ⊢
      rw [List.filter_cons_of_neg (by simp), hcons]
    · have htail := ih hm
      unfold Sparse.erase at htail ⊢
      rw [List.filter_cons_of_pos (by simpa using hk), htail]

/-- The later of two writes to one index stands. -/
theorem Sparse.set_set {α : Type} [DecidableEq α] (d : α) (m : Sparse α) (x : Nat) (v w : α) :
    Sparse.set d (Sparse.set d m x v) x w = Sparse.set d m x w := by
  have herase : (Sparse.set d m x v).erase x = m.erase x := by
    have hno : ∀ e ∈ m.erase x, e.1 ≠ x := fun e he => Sparse.fst_ne_of_mem_erase he
    unfold Sparse.set
    split
    · exact Sparse.erase_of_not_mem hno
    · exact Sparse.erase_place x v hno
  conv_lhs => rw [Sparse.set, herase]
  rfl

/-! ### Ports -/

@[simp] theorem State.port_putPort (s : State) (i : Nat) (p : Port) : (s.putPort i p).port i = p := Sparse.get_set_self _ _ _ _

@[simp] theorem State.putPort_putPort (s : State) (i : Nat) (p q : Port) : (s.putPort i p).putPort i q = s.putPort i q := by
  unfold State.putPort
  simp only [Sparse.set_set]

/-- A retry request: one frame that names the last good sequence. -/
theorem State.requestRetry_eq (s : State) (i : Nat) : s.requestRetry i
    = ({ s with outbox := s.outbox ++ [.frame i (makeFrame 2 (s.port i).txSeq ((s.port i).rxSeq - 1) (s.port i).stopIn [])] }
      : State).putPort i { s.port i with ackSent := (s.port i).rxSeq - 1, stopSent := (s.port i).stopIn, retrying := true } := by
  unfold State.requestRetry State.emitFrames
  simp only [State.port_putPort, List.map_cons, List.map_nil, List.cons_ne_nil, if_false]
  exact State.putPort_putPort
    { s with outbox := s.outbox ++ [.frame i (makeFrame 2 (s.port i).txSeq ((s.port i).rxSeq - 1) (s.port i).stopIn [])] } i _ _

/-- A record of a contained error does not touch the ports. -/
theorem State.contain_putPort (s : State) (i : Nat) (p : Port) (die : Nat) (code : BitVec 16) (severity unitKind check unitNum : Nat)
    (frame : Option (BitVec 31)) (sector grid ctx gid : Nat) (pc tstat peer : W64) :
    (s.putPort i p).contain die code severity unitKind check unitNum frame sector grid ctx gid pc tstat peer
      = (s.contain die code severity unitKind check unitNum frame sector grid ctx gid pc tstat peer).putPort i p := by
  unfold State.contain State.errorRecord State.putPort
  simp only
  split <;> rfl

theorem State.port_contain (s : State) (i : Nat) (die : Nat) (code : BitVec 16) (severity unitKind check unitNum : Nat)
    (frame : Option (BitVec 31)) (sector grid ctx gid : Nat) (pc tstat peer : W64) :
    (s.contain die code severity unitKind check unitNum frame sector grid ctx gid pc tstat peer).port i = s.port i := by
  obtain ⟨n, h, heq⟩ := s.contain_counted die code severity unitKind check unitNum frame sector grid ctx gid pc tstat peer
  rw [heq]
  rfl

/-- The state in which the frame that a retry request asked for has come good. -/
def State.retried (s : State) (i : Nat) : State :=
  if (s.port i).retrying then State.contain { s with fw := { s.fw with transient := s.fw.transient + 1 } } (i / 16) 0x0D02 1 6 4 i
    none 0xFFFF 0xFFFF 0 0 0 0 0
  else s

/-- A good frame is heard, and the retry that it ends is over. -/
theorem State.heard_retryPassed (s : State) (i : Nat) (f : Frame) :
    (s.retryPassed i).putPort i (((s.retryPassed i).port i).hear f)
      = (s.retried i).putPort i { heardFrame (s.port i) f with retrying := false } := by
  cases h : (s.port i).retrying with
  | true =>
    unfold State.retryPassed State.retried
    simp only [h, if_true]
    rw [State.contain_putPort, State.port_putPort, State.putPort_putPort]
    rfl
  | false =>
    have hport : ({ heardFrame (s.port i) f with retrying := false } : Port) = (s.port i).hear f := by
      rw [← h]
      rfl
    unfold State.retryPassed State.retried
    simp only [h, Bool.false_eq_true, if_false]
    rw [hport]

/-- What a flit does at a port: it is kept, or it completes a packet, which the gateway takes if it can. -/
theorem State.takeFlit_eq {s : State} {i : Nat} {q : Port} (hq : s.port i = q) (flit : List Byte) :
    let fs := q.flits ++ [flit]
    let whole := s.putPort i { q with flits := [], rxSeq := q.rxSeq + 1 }
    let k := packetOfFlits (fs.headD []) (fs.drop 1)
    s.takeFlit i flit = if fs.length < leNat ((fs.headD []).take 8) / 2 ^ 11 % 8 + 1 then
        s.putPort i { q with flits := fs, rxSeq := q.rxSeq + 1 }
      else if (q.buffer.any fun x => x.cls == k.cls) = true ∨ whole.roomFor k = false then
        whole.putPort i { q with flits := [], rxSeq := q.rxSeq + 1, buffer := q.buffer ++ [k] }
      else whole.packetArrived k := by
  intro fs whole k
  unfold State.takeFlit
  simp only [hq]
  by_cases hlen : fs.length < leNat ((fs.headD []).take 8) / 2 ^ 11 % 8 + 1
  · rw [if_pos hlen, if_neg (not_le.mpr hlen)]
  · rw [if_neg hlen, if_pos (not_lt.mp hlen)]
    have hport : whole.port i = { q with flits := [], rxSeq := q.rxSeq + 1 } := State.port_putPort _ _ _
    unfold State.takeBuffered
    simp only [State.takeBuffered]
    change (if (((whole.port i).buffer.any fun x => x.cls == k.cls) || !whole.roomFor k) = true then
      whole.putPort i { whole.port i with buffer := (whole.port i).buffer ++ [k] } else whole.packetArrived k) = _
    rw [hport]
    refine if_congr ?_ rfl rfl
    rw [Bool.or_eq_true, Bool.not_eq_true']

end Sys2Proof.Machine

namespace Sys2Proof.Claims

open Sys2Proof Machine

/-- Settles O38: each frame and each happening of a port by its own tests. -/
theorem linksAndPorts : Obligations.LinksAndPorts := by
  unfold Obligations.LinksAndPorts
  refine ⟨fun s port f => ?_, fun s port => ?_⟩
  · intro i p retry q s0 q0
    have hretry : s.requestRetry i = retry := s.requestRetry_eq i
    refine ⟨fun h j hj => ?_, fun h => ⟨fun hbad => ?_, fun hbad => ?_, fun hbad => ?_, fun hg hk => ?_, fun hg hk hs => ?_, fun hg hk => ?_⟩⟩
    · simp only [List.mem_cons, List.not_mem_nil, or_false] at hj
      obtain rfl | rfl | rfl := hj
      · rw [exec_dataFrame]
        exact if_pos h
      · rw [exec_idleFrame]
        exact if_pos h
      · rw [exec_retryRequest]
        exact if_pos h
    · rw [exec_dataFrame, ← hretry]
      unfold execDataFrame
      refine (if_neg (not_not_intro h)).trans (if_pos ?_)
      simpa [or_assoc] using hbad
    · rw [exec_idleFrame, ← hretry]
      unfold execIdleFrame
      refine (if_neg (not_not_intro h)).trans (if_pos ?_)
      simpa using hbad
    · rw [exec_retryRequest, ← hretry]
      unfold execRetryRequest
      refine (if_neg (not_not_intro h)).trans (if_pos ?_)
      simpa using hbad
    · rw [exec_idleFrame]
      unfold execIdleFrame
      refine (if_neg (not_not_intro h)).trans (if_neg ?_)
      simp [hg, hk]
    · intro fs flits part whole k kept u
      have hu : ((s.retried i).putPort i q0).takeFlit i f.flit = u := State.takeFlit_eq (State.port_putPort _ _ _) f.flit
      rw [exec_dataFrame]
      unfold execDataFrame
      refine (if_neg (not_not_intro h)).trans ((if_neg ?_).trans ?_)
      · simp [hg, hk, hs, p, i]
      · show Host.Outcome.next (State.takeFlit _ i f.flit).moveAll.setStops = _
        rw [State.heard_retryPassed, hu]
    · rw [exec_retryRequest]
      unfold execRetryRequest
      refine (if_neg (not_not_intro h)).trans ((if_neg ?_).trans ?_)
      · simp [hg, hk]
      · rfl
  · intro i p
    refine ⟨fun h hn => ?_, fun h => ?_, fun h hn => ?_, fun h => ?_, fun hrun hcfg h => ?_, fun h => ?_⟩
    · rw [exec_portRetrain]
      exact congrArg Host.Outcome.next (if_pos ⟨h, hn⟩)
    · rw [exec_portRetrain]
      exact congrArg Host.Outcome.next (if_neg fun hb => h.elim (· hb.1) fun hlt => absurd hb.2 (not_le.mpr hlt))
    · rw [exec_portDown]
      exact if_pos ⟨h, hn⟩
    · rw [exec_portDown]
      exact if_neg fun hb => h.elim (· hb.1) fun hlt => absurd hb.2 (not_le.mpr hlt)
    · intro up
      rw [exec_portTrained]
      refine if_pos ?_
      rw [Bool.and_eq_true, Bool.and_eq_true, Bool.and_eq_true, bne_iff_ne, bne_iff_ne]
      refine ⟨⟨⟨hrun, hcfg⟩, fun ht => ?_⟩, fun ht => ?_⟩
      · rw [show p.state = .trained from ht] at h
        simp at h
      · rw [show p.state = .idle from ht] at h
        simp at h
    · rw [exec_portTrained]
      refine if_neg fun hall => ?_
      rw [Bool.and_eq_true, Bool.and_eq_true, Bool.and_eq_true, bne_iff_ne, bne_iff_ne] at hall
      obtain ⟨⟨⟨hrun, hcfg⟩, ht⟩, hi⟩ := hall
      obtain h | h | h | h := h
      · exact Bool.eq_false_iff.mp h hrun
      · exact Bool.eq_false_iff.mp h hcfg
      · exact ht h
      · exact hi h

end Sys2Proof.Claims

/-! PROOFS. Sequence windows, what packets do when handed over, and broken pairs (O39). -/

namespace Sys2Proof.Machine

open Claims

/-! ### The windows of a pair -/

/-- The entry of a key in a list of pairs with one entry put in front. -/
theorem find?_put {β : Type} (l : List (PairKey × β)) (k k' : PairKey) (w : β) :
    ((k, w) :: l.filter fun e => e.1 != k).find? (fun e => e.1 == k')
      = if k' = k then some (k, w) else l.find? fun e => e.1 == k' := by
  by_cases h : k' = k
  · subst h
    simp
  · rw [if_neg h, List.find?_cons_of_neg (by simpa using Ne.symm h), List.find?_filter]
    congr 1
    funext e
    by_cases he : e.1 = k'
    · simp [he, h]
    · simp [he]

@[simp] theorem State.rxOf_putRx_self (s : State) (k : PairKey) (w : RxWindow) : (s.putRx k w).rxOf k = w := by
  unfold State.rxOf State.putRx
  simp []

theorem State.txOf_putTx (s : State) (k k' : PairKey) (w : TxWindow) :
    (s.putTx k w).txOf k' = if k' = k then w else s.txOf k' := by
  unfold State.txOf State.putTx
  simp only [find?_put]
  split <;> rfl

/-- A pair restarts in both classes with the next epoch; what waits in its windows stays. -/
theorem State.txOf_restartPair (s : State) (k : PairKey) {c : BitVec 2} (hc : c < 2) :
    (s.restartPair k.chip k.plane).txOf { k with cls := c } = {
      next := 0, oldest := 0, epoch := (s.txOf { k with cls := 0 }).epoch + 1, queue := (s.txOf { k with cls := c }).queue } := by
  have hclass : c = 0 ∨ c = 1 := by
    have hlt : c.toNat < 2 := hc
    obtain h | h : c.toNat = 0 ∨ c.toNat = 1 := by omega
    · exact .inl (BitVec.eq_of_toNat_eq h)
    · exact .inr (BitVec.eq_of_toNat_eq h)
  unfold State.restartPair
  obtain rfl | rfl := hclass
  · simp [State.txOf_putTx]
  · simp [State.txOf_putTx]

/-! ### A packet of a window -/

theorem exec_windowPacket {p : Packet} {e : Instr × BitVec 6} (he : e ∈ windowPackets p) (s : State) :
    exec e.1 s = .next (s.receive e.2 p) := by
  simp only [windowPackets, List.mem_cons, List.not_mem_nil, or_false] at he
  obtain rfl | rfl | rfl | rfl | rfl | rfl | rfl | rfl := he
  · exact exec_read p s
  · exact exec_write p s
  · exact exec_atomic p s
  · exact exec_cpyput p s
  · exact exec_task p s
  · exact exec_readresp p s
  · exact exec_writeack p s
  · exact exec_atomresp p s

/-- The window that a packet belongs to. -/
def pairOf (p : Packet) : PairKey := { chip := p.src, plane := p.plane, cls := p.cls }

/-- A packet that fits is taken, counted, or restarts its pair first. -/
theorem State.receive_of_fits {s : State} {op : BitVec 6} {p : Packet} (hop : p.opcode = op) (hp : wellPacked p = true)
    (hdst : p.dst = s.fab.self) (hrun : s.dieRuns p.plane.toNat = true)
    (hstays : ¬ (p.epoch = (s.rxOf (pairOf p)).epoch + 1 ∧ p.seq.toNat < 512)) :
    s.receive op p = if p.epoch ≠ (s.rxOf (pairOf p)).epoch ∨ 512 ≤ (p.seq - (s.rxOf (pairOf p)).expected).toNat
        ∨ (s.rxOf (pairOf p)).pool.any (fun x => x.seq == p.seq)
        ∨ (16384 ≤ s.poolSize p.plane.toNat ∧ p.seq ≠ (s.rxOf (pairOf p)).expected) then
      s.putRx (pairOf p) { s.rxOf (pairOf p) with discards := (s.rxOf (pairOf p)).discards + 1 }
    else ((s.putRx (pairOf p) { s.rxOf (pairOf p) with pool := (s.rxOf (pairOf p)).pool ++ [p] }).releasePair (pairOf p)
      ((s.rxOf (pairOf p)).pool.length + 1)).setStops := by
  have hfits : (p.opcode != op || !wellPacked p || p.dst != s.fab.self || !s.dieRuns p.plane.toNat) = false := by
    simp [hop, hp, hdst, hrun]
  have hsame : ¬ (p.epoch = (s.rxOf { chip := p.src, plane := p.plane, cls := p.cls }).epoch + 1 ∧ p.seq.toNat < 512) := hstays
  unfold State.receive
  simp only [hfits, hsame, Bool.false_eq_true, if_false]
  rfl

/-- The next packet in sequence of an empty pool, once it may be handed over. -/
theorem State.releasePair_of_next {u : State} {k : PairKey} {w : RxWindow} {p : Packet}
    (hw : u.rxOf k = { w with pool := [p] }) (hnil : w.pool = []) (hseq : p.seq = w.expected) :
    ((u.mayHand k p = false ∨ u.handOver p = none) → u.releasePair k 1 = u)
    ∧ (u.mayHand k p = true → ∀ t, u.handOver p = some t →
        let w1 : RxWindow := { w with expected := w.expected + 1, unacked := w.unacked + 1
                                      since := if w.unacked = 0 then u.planeTick k.plane.toNat else w.since }
        u.releasePair k 1 = if w1.unacked = 64 then (t.putRx k w1).sendSeqack k else t.putRx k w1) := by
  refine ⟨fun h => ?_, fun hmay t ht => ?_⟩
  · unfold State.releasePair
    simp only [hw, List.find?_cons, hseq, beq_self_eq_true, Bool.true_and, List.find?_nil]
    cases hmay : u.mayHand k p with
    | false => rfl
    | true =>
      simp only
      rw [h.resolve_left (by rw [hmay]; decide)]
  · intro w1
    unfold State.releasePair
    simp only [hw, List.find?_cons, hseq, beq_self_eq_true, Bool.true_and, hmay, ht, bne_self_eq_false, List.filter_cons,
      Bool.false_eq_true, if_false, List.filter_nil, State.releasePair, w1, hnil]

theorem ne_next (e : BitVec 3) : e ≠ e + 1 := by
  revert e
  decide

theorem State.handOver_of_request (s : State) {p : Packet} (hop : p.opcode ∈ [(0x01 : BitVec 6), 0x02, 0x03, 0x04]) :
    s.handOver p = if s.missFull (homeSlice p.object (p.offset.toNat / 65536)) then none
      else some { s with mem := { s.mem with requests := s.mem.requests ++ [{ packet := p }] } } := by
  simp only [List.mem_cons, List.not_mem_nil, or_false] at hop
  unfold State.handOver
  obtain h | h | h | h := hop <;> (rw [h]; rfl)

theorem State.handOver_of_answer (s : State) {p : Packet} (hop : p.opcode ∈ [(0x08 : BitVec 6), 0x09, 0x0A]) :
    s.handOver p = some (s.takeAnswer p) := by
  simp only [List.mem_cons, List.not_mem_nil, or_false] at hop
  unfold State.handOver
  obtain h | h | h := hop <;> (rw [h]; rfl)

/-- SEQACK of a packet that fits, by the window that it names. -/
theorem seqack_of_fits {s : State} {p : Packet} (hop : p.opcode = 0x0B) (hp : wellPacked p = true) (hdst : p.dst = s.fab.self) :
    let k : PairKey := { chip := p.src, plane := p.plane, cls := p.inline0.setWidth 2 }
    let w := s.txOf k
    exec (.seqack p) s = if p.epoch ≠ w.epoch ∨ (w.next - w.oldest).toNat < (p.seq - w.oldest).toNat ∨ p.seq = w.oldest then .next s
      else .next (s.putTx k { w with
        oldest := p.seq, unacked := w.unacked.drop (p.seq - w.oldest).toNat, moved := s.planeTick k.plane.toNat }).moveAll.wakePosts := by
  intro k w
  have hfits : (p.opcode != 0x0B || !wellPacked p || p.dst != s.fab.self) = false := by
    simp [hop, hp, hdst]
  rw [exec_seqack]
  unfold execSeqack
  rw [hfits]
  rfl

end Sys2Proof.Machine

namespace Sys2Proof.Claims

open Sys2Proof Machine

/-- Settles O39: a packet of a window by the tests of R37, what a handed-over packet does, and the timers of a pair. -/
theorem windowsAndPackets : Obligations.WindowsAndPackets := by
  unfold Obligations.WindowsAndPackets
  refine ⟨fun s p e he => ?_, fun s p => ⟨fun hop => ?_, fun hop => ⟨fun core hcore => ?_, fun hcore => ?_⟩,
    fun hop => ⟨fun hno => ?_, fun a at_ hfind => ?_⟩⟩, fun s p k => ?_⟩
  · intro k w
    rw [exec_windowPacket he]
    refine ⟨fun h => ?_, fun hop hp hdst hrun => ⟨fun hne h => ?_, fun heq h => ?_, fun heq hseq hnil => ?_⟩⟩
    · unfold State.receive
      rw [if_pos]
      · rfl
      · simpa [or_assoc] using h
    · rw [State.receive_of_fits hop hp hdst hrun, if_pos (.inl hne)]
      · rfl
      · rintro ⟨hnext, hlow⟩
        exact h.elim (· hnext) fun hge => absurd hlow (not_lt.mpr hge)
    · rw [State.receive_of_fits hop hp hdst hrun (fun hnext => ne_next _ (heq.symm.trans hnext.1)), if_pos (.inr h)]
      rfl
    · intro u
      have hin : s.receive e.2 p = (u.releasePair k 1).setStops := by
        rw [State.receive_of_fits hop hp hdst hrun (fun hnext => ne_next _ (heq.symm.trans hnext.1)), if_neg]
        · show State.setStops (State.releasePair k (w.pool.length + 1) (s.putRx k { w with pool := w.pool ++ [p] })) = _
          rw [hnil]
          rfl
        · show ¬ (p.epoch ≠ w.epoch ∨ 512 ≤ (p.seq - w.expected).toNat ∨ (w.pool.any fun x => x.seq == p.seq) = true
            ∨ (16384 ≤ s.poolSize p.plane.toNat ∧ p.seq ≠ w.expected))
          simp [heq, hseq, hnil]
      obtain ⟨hkeep, hhand⟩ := State.releasePair_of_next (u := u) (k := k) (w := w) (p := p) (State.rxOf_putRx_self _ _ _) hnil hseq
      refine ⟨fun h => ?_, fun hmay t ht => ?_⟩
      · rw [hin, hkeep h]
      · intro w1
        rw [hin, hhand hmay t ht]
        rfl
  · intro full
    exact State.handOver_of_request s hop
  · have hto : s.taskCore (taskOf p).ctx (taskOf p).cap (taskOf p).offset = some core := hcore
    unfold State.handOver
    rw [hop]
    simp [hto]
  · have hto : s.taskCore (taskOf p).ctx (taskOf p).cap (taskOf p).offset = none := hcore
    unfold State.handOver
    rw [hop]
    simp [hto]
  · have hnone : (s.fab.asked.find? fun e => e.1 == p.tag) = none :=
      List.find?_eq_none.mpr fun e he => by simpa using hno e he
    rw [State.handOver_of_answer s hop]
    unfold State.takeAnswer
    rw [hnone]
    rfl
  · rw [State.handOver_of_answer s hop]
    unfold State.takeAnswer
    rw [hfind]
  · intro w r now
    refine ⟨fun hop hp hdst hk => ⟨fun he hne hle => ?_, fun h => ?_⟩, fun h => ?_, fun h hn => ?_, fun h => ?_, fun h hn => ?_,
      fun c hc => State.txOf_restartPair s k hc⟩
    · subst hk
      rw [seqack_of_fits hop hp hdst]
      refine if_neg ?_
      rintro (h | h | h)
      · exact h he
      · exact absurd hle (not_le.mpr h)
      · exact hne h
    · subst hk
      rw [seqack_of_fits hop hp hdst]
      refine if_pos ?_
      obtain h | h | h := h
      · exact .inl h
      · exact .inr (.inr h)
      · exact .inr (.inl h)
    · rw [exec_seqackTimer]
      exact congrArg Host.Outcome.next (if_pos h)
    · rw [exec_seqackTimer]
      refine congrArg Host.Outcome.next ((if_neg (not_or.mpr ⟨h, not_lt.mpr hn⟩)).trans rfl)
    · rw [exec_pairBreak]
      exact if_pos h
    · intro mine u k0 v x
      rw [exec_pairBreak]
      exact if_neg (not_or.mpr ⟨h, not_lt.mpr hn⟩)

end Sys2Proof.Claims

/-! PROOFS. Multicast, reductions, switch reports, and requests at the Weirs (O40). -/

namespace Sys2Proof.Machine

open Claims

/-! ### Multicast stores -/

theorem State.freshGrants_eq (s : State) (home : BitVec 12) (object : BitVec 28) :
    s.freshGrants home object = { s with mem := { s.mem with grants := (s.freshGrants home object).mem.grants } } := by
  unfold State.freshGrants
  split <;> rfl

theorem State.packetObject_freshGrants (s : State) (home : BitVec 12) (object : BitVec 28) (p : Packet) :
    (s.freshGrants home object).packetObject p = s.packetObject p := by
  rw [State.freshGrants_eq]
  rfl

theorem State.packetReq_freshGrants (s : State) (home : BitVec 12) (object : BitVec 28) (p : Packet) (kind : Nat) :
    (s.freshGrants home object).packetReq p kind = s.packetReq p kind := by
  rw [State.freshGrants_eq]
  rfl

theorem State.objEntry_freshGrants (s : State) (home : BitVec 12) (object o : BitVec 28) :
    (s.freshGrants home object).objEntry o = s.objEntry o := by
  rw [State.freshGrants_eq]
  rfl

/-- A translation of an object that is being published changes nothing while it holds the request. -/
theorem State.eq_of_translate_hold {s t : State} {q : Requester} {o : BitVec 28} {off : Nat} {writes shadow : Bool}
    (hpub : (s.objEntry o).publishing = true) (h : s.translate q o off writes shadow = (t, .hold)) : t = s := by
  unfold State.translate at h
  simp only [hpub, if_true] at h
  split at h
  · cases h
  · split at h
    · unfold State.faultOf at h
      split at h
      · cases h
      · cases h
        rfl
    · cases h
      rfl

section
variable {s t : State} {p : Packet} {o : BitVec 28} {done : List (Nat × W64)} {page : Nat} {rest : List Nat} {u : State}

theorem State.storePages_nil : State.storePages s p o done [] t
    = (done.foldl (fun (t : State) e => t.storePage p e.1 (leafFrame e.2)) t).mcastAnswer p true := rfl

theorem State.storePages_ok {leaf : W64} {entry : ObjEntry}
    (h : t.translate (s.packetReq p 2) o (packetSpan p page).1 true false = (u, .ok leaf entry)) :
    State.storePages s p o done (page :: rest) t = State.storePages s p o (done ++ [(page, leaf)]) rest
      (u.reach o (packetSpan p page).1 (packetSpan p page).2 leaf entry true none) := by
  rw [State.storePages]
  simp only [h]

theorem State.storePages_denied {ptag : BitVec 20}
    (h : t.translate (s.packetReq p 2) o (packetSpan p page).1 true false = (u, .denied ptag)) :
    State.storePages s p o done (page :: rest) t
      = (u.logDenial (s.packetReq p 2) o (packetSpan p page).1 ptag 2).mcastAnswer p false := by
  rw [State.storePages]
  simp only [h]

theorem State.storePages_fault {noWake : Bool}
    (h : t.translate (s.packetReq p 2) o (packetSpan p page).1 true false = (u, .fault noWake)) :
    State.storePages s p o done (page :: rest) t = s.mcastAnswer p false := by
  rw [State.storePages]
  simp only [h]

theorem State.storePages_publishing (hpub : (s.objEntry o).publishing = true)
    (h : t.translate (s.packetReq p 2) o (packetSpan p page).1 true false = (u, .hold)) :
    State.storePages s p o done (page :: rest) t = u.keepWaiting p := by
  rw [State.storePages]
  simp only [h, hpub, Bool.true_or, if_true]

end

/-- A multicast store at a LIVE member. -/
theorem mcwrite_of_live {s : State} {p : Packet} (hop : p.opcode = 0x18) (hp : wellPacked p = true)
    (hlive : (s.conf.chip s.fab.self.toNat).state = .live) (ho : s.packetObject p ≠ 0) : exec (.mcwrite p) s
      = .next (State.storePages (s.freshGrants p.grantHome p.grantObject) p (s.packetObject p) [] (packetPages p)
        (s.freshGrants p.grantHome p.grantObject)) := by
  rw [exec_mcwrite]
  unfold execMcwrite State.serveMcast
  rw [if_neg (by simp [hop, hp]), if_neg (by simp [hlive]), State.packetObject_freshGrants]
  exact congrArg Host.Outcome.next (if_neg ho)

theorem mcwrite_of_no_object {s : State} {p : Packet} (hop : p.opcode = 0x18) (hp : wellPacked p = true)
    (hlive : (s.conf.chip s.fab.self.toNat).state = .live) (ho : s.packetObject p = 0) : exec (.mcwrite p) s
      = .next ((s.freshGrants p.grantHome p.grantObject).mcastAnswer p false) := by
  rw [exec_mcwrite]
  unfold execMcwrite State.serveMcast
  rw [if_neg (by simp [hop, hp]), if_neg (by simp [hlive]), State.packetObject_freshGrants]
  exact congrArg Host.Outcome.next (if_pos ho)

theorem mcwrite_of_refused {s : State} {p : Packet} (h : p.opcode ≠ 0x18 ∨ wellPacked p = false) :
    exec (.mcwrite p) s = .next (s.discard p) := by
  rw [exec_mcwrite]
  unfold execMcwrite
  rw [if_pos (by simpa using h)]

theorem mcreply_of_refused {s : State} {p : Packet} (h : p.opcode ≠ 0x19 ∨ wellPacked p = false) :
    exec (.mcreply p) s = .next (s.discard p) := by
  rw [exec_mcreply]
  unfold execMcreply
  rw [if_pos (by simpa using h)]

theorem redresult_of_refused {s : State} {p : Packet} (h : p.opcode ≠ 0x1D ∨ wellPacked p = false) :
    exec (.redresult p) s = .next (s.discard p) := by
  rw [exec_redresult]
  unfold execRedresult
  rw [if_pos (by simpa using h)]

/-! ### Results of reductions and switch reports -/

/-- `t` is `s` but for its commands and what its fabric awaits. -/
def State.Reducing (s t : State) : Prop := t.mem = s.mem ∧ t.groups = s.groups ∧ t.disp = s.disp

theorem State.reducing_foldl {α : Type} {f : State → α → State} (hf : ∀ (s : State) a, s.Reducing (f s a)) (l : List α) (s : State) :
    s.Reducing (l.foldl f s) := by
  induction l generalizing s with
  | nil => exact ⟨rfl, rfl, rfl⟩
  | cons a l ih =>
    obtain ⟨hm, hg, hd⟩ := hf s a
    obtain ⟨hm', hg', hd'⟩ := ih (f s a)
    exact ⟨hm'.trans hm, hg'.trans hg, hd'.trans hd⟩

theorem redresult_of_result {s : State} {p : Packet} (hop : p.opcode = 0x1D) (hp : wellPacked p = true) :
    ∃ t : State, exec (.redresult p) s = .next t ∧ s.Reducing t ∧ (s.reducing p.redId = [] → t = s) := by
  rw [exec_redresult]
  unfold execRedresult
  rw [if_neg (by simp [hop, hp])]
  refine ⟨_, rfl, State.reducing_foldl (fun s e => ?_) _ s, fun h => by rw [h]; rfl⟩
  unfold State.Reducing
  dsimp only
  split
  · split <;> simp
  · simp

/-- `t` is `s` but for its fabric, its outbox, its free values, and the switches that hold keys, which are `l` more. -/
def State.KeysSent (s t : State) (l : List (W32 × Nat × BitVec 20 × BitVec 8)) : Prop :=
  t.mem = s.mem ∧ t.groups = s.groups ∧ t.trust = { s.trust with switches := s.trust.switches ++ l }

theorem State.foldl_emitLoose_eq (l : List Packet) (s : State) : l.foldl State.emitLoose s
    = { s with fab := (l.foldl State.emitLoose s).fab, outbox := (l.foldl State.emitLoose s).outbox } := by
  induction l generalizing s with
  | nil => rfl
  | cons p l ih =>
    rw [List.foldl_cons, ih, State.emitLoose_eq]

theorem State.keysSent_sendSwitchKey (s : State) (r : SwitchReport) (ctx : BitVec 20) (d : Descriptor) :
    s.KeysSent (s.sendSwitchKey r ctx d) [(r.switchId, r.plane.toNat % 4, ctx, d.fabricGen)] := by
  unfold State.sendSwitchKey
  dsimp only
  rw [State.foldl_emitLoose_eq]
  exact ⟨rfl, rfl, rfl⟩

theorem State.keysSent_foldl (r : SwitchReport) (who : List (Nat × Descriptor)) (s : State) :
    s.KeysSent (who.foldl (fun (s : State) e => s.sendSwitchKey r (BitVec.ofNat 20 e.1) e.2) s)
      (who.map fun e => (r.switchId, r.plane.toNat % 4, BitVec.ofNat 20 e.1, e.2.fabricGen)) := by
  induction who generalizing s with
  | nil => exact ⟨rfl, rfl, by simp⟩
  | cons e who ih =>
    obtain ⟨hm, hg, ht⟩ := s.keysSent_sendSwitchKey r (BitVec.ofNat 20 e.1) e.2
    obtain ⟨hm', hg', ht'⟩ := ih (s.sendSwitchKey r (BitVec.ofNat 20 e.1) e.2)
    refine ⟨hm'.trans hm, hg'.trans hg, ?_⟩
    rw [List.foldl_cons, ht', ht, List.map_cons]
    simp

theorem swattest_of_unverified {s : State} {r : SwitchReport} (h : s.fw.state ≠ 1 ∨ s.trust.nonces.contains r.nonce = false
    ∨ Config.mldsaOk r.dsaKey (reportBytes r) r.signature = false) : exec (.swattest r) s = .next s := by
  rw [exec_swattest]
  unfold execSwattest
  exact if_pos (by simpa [or_assoc] using h)

theorem swattest_of_verified {s : State} {r : SwitchReport} (hf : s.fw.state = 1) (hn : s.trust.nonces.contains r.nonce = true)
    (hs : Config.mldsaOk r.dsaKey (reportBytes r) r.signature = true) : exec (.swattest r) s
      = .next ((s.trust.ctxs.filter fun e => s.acceptsSwitch r e.2).foldl
        (fun (s : State) e => s.sendSwitchKey r (BitVec.ofNat 20 e.1) e.2) s) := by
  rw [exec_swattest]
  unfold execSwattest
  exact if_neg (by simp only [hf, hn, hs]; decide)

/-! ### Requests at a Weir -/

theorem weirRequest_of_append {s : State} {a : LogAppend} {rest : List LogAppend} (h : s.mem.appends = a :: rest) :
    exec .weirRequest s = .next
      (if (a.home == s.fab.self && namesLog { home := a.home, object := a.object, base := a.base, length := a.length, rights := rR ||| rW })
        = true then State.appendHere { s with mem := { s.mem with appends := rest } }
          { home := a.home, object := a.object, base := a.base, length := a.length, rights := rR ||| rW } a.entry
        else { s with mem := { s.mem with appends := rest } }) := by
  rw [exec_weirRequest]
  unfold execWeirRequest
  rw [h]

theorem weirRequest_of_none {s : State} (h : s.mem.appends = []) (hn : s.nextRequest = none) :
    exec .weirRequest s = .next s.releaseAll := by
  rw [exec_weirRequest]
  unfold execWeirRequest
  rw [h, hn]

theorem weirRequest_of_some {s : State} {r : WeirReq} (h : s.mem.appends = []) (hn : s.nextRequest = some r) :
    exec .weirRequest s = .next (State.releaseAll (State.serveRemote (State.freshGrants
      { s with mem := { s.mem with requests := s.mem.requests.erase r } } r.packet.grantHome r.packet.grantObject) r.packet)) := by
  rw [exec_weirRequest]
  unfold execWeirRequest
  rw [h, hn]

theorem State.serveRemote_of_held {s t : State} {p : Packet} (hop : p.opcode ≠ 0x18) (h : s.servePacket p = (t, none)) :
    s.serveRemote p = t.keepWaiting p := by
  unfold State.serveRemote
  rw [if_neg hop, h]

theorem State.serveRemote_of_served {s t : State} {p q : Packet} (hop : p.opcode ≠ 0x18) (h : s.servePacket p = (t, some q)) :
    s.serveRemote p = (t.send (homeDie p.object) q).1 := by
  unfold State.serveRemote
  rw [if_neg hop, h]

/-- The oldest request is the next one when none of its source waits. -/
theorem State.nextRequest_of_head {s : State} {r : WeirReq} {rest : List WeirReq} (h : s.mem.requests = r :: rest)
    (hw : ∀ w ∈ s.mem.waiting, w.packet.src ≠ r.packet.src ∨ w.packet.cls ≠ 0) : s.nextRequest = some r := by
  unfold State.nextRequest
  rw [h, List.find?_cons_of_pos]
  have hnone : (s.mem.waiting.any fun w => w.packet.src == r.packet.src && w.packet.cls == 0) = false := by
    rw [List.any_eq_false]
    intro w hm
    rcases hw w hm with h | h
    · simp [h]
    · simp only [beq_iff_eq, Bool.and_eq_true, not_and]
      exact fun _ => h
  rw [hnone]
  rfl

/-! ### Completed walks and requests that waited too long -/

theorem walkComplete_of_publishing {s : State} {o : BitVec 28} {page : Nat} (h : (s.objEntry o).publishing = true) :
    exec (.walkComplete o page) s = .next s := by
  rw [exec_walkComplete]
  unfold execWalkComplete
  exact if_pos h

/-- The packets in the miss queue that wait for a page. -/
def State.dueAt (s : State) (o : BitVec 28) (page : Nat) : List WeirReq :=
  s.mem.waiting.filter fun r => s.packetObject r.packet == o && r.packet.offset.toNat / 65536 == page

/-- The requests of groups that wait for a page. -/
def State.heldAt (s : State) (o : BitVec 28) (page : Nat) : List (BitVec 16 × Nat × W64) :=
  s.mem.held.filter fun e => s.heldPage e.1 e.2.1 == some (o, page)

theorem State.heldAt_nil {s : State} {o : BitVec 28} {page : Nat} (h : ∀ e ∈ s.mem.held, s.heldPage e.1 e.2.1 ≠ some (o, page)) :
    s.heldAt o page = [] := by
  unfold State.heldAt
  rw [List.filter_eq_nil_iff]
  intro e he
  simpa using h e he

theorem walkComplete_of_walked {s : State} {o : BitVec 28} {page : Nat} (h : (s.objEntry o).publishing = false)
    (hh : ((s.dueAt o page).foldl State.retryWaiting s).heldAt o page = []) : exec (.walkComplete o page) s
      = .next (if s.dueAt o page = [] then (s.dueAt o page).foldl State.retryWaiting s
        else ((s.dueAt o page).foldl State.retryWaiting s).releaseAll) := by
  rw [exec_walkComplete]
  unfold execWalkComplete
  rw [if_neg (by simp [h])]
  have hfold := congrArg (List.foldl (fun (s : State) e => s.resumeHeld e.1 e.2.1) ((s.dueAt o page).foldl State.retryWaiting s)) hh
  exact congrArg (fun t => Host.Outcome.next (if s.dueAt o page = [] then t else State.releaseAll t)) hfold

theorem walkComplete_of_none {s : State} {o : BitVec 28} {page : Nat} (h : (s.objEntry o).publishing = false)
    (hh : ∀ e ∈ s.mem.held, s.heldPage e.1 e.2.1 ≠ some (o, page)) (hdue : s.dueAt o page = []) :
    exec (.walkComplete o page) s = .next s := by
  rw [walkComplete_of_walked h (by rw [hdue]; exact State.heldAt_nil hh), if_pos hdue, hdue]
  rfl

theorem walkComplete_of_one {s : State} {o : BitVec 28} {page : Nat} {r : WeirReq} (h : (s.objEntry o).publishing = false)
    (hdue : s.dueAt o page = [r]) (hh : (s.retryWaiting r).heldAt o page = []) :
    exec (.walkComplete o page) s = .next (s.retryWaiting r).releaseAll := by
  rw [walkComplete_of_walked h (by rw [hdue]; exact hh), if_neg (by rw [hdue]; simp), hdue]
  rfl

/-- What waits in the miss queue is nothing to the requests that groups hold. -/
theorem State.heldAt_with_waiting (t : State) (l : List WeirReq) (o : BitVec 28) (page : Nat) :
    State.heldAt { t with mem := { t.mem with waiting := l } } o page = t.heldAt o page := rfl

theorem State.heldAt_retryWaiting {s : State} {r : WeirReq} {o : BitVec 28} {page : Nat}
    (h : (({ s with mem := { s.mem with waiting := s.mem.waiting.erase r } } : State).serveRemote r.packet).heldAt o page = []) :
    (s.retryWaiting r).heldAt o page = [] := by
  unfold State.retryWaiting
  dsimp only
  split
  · exact h
  · exact h

theorem localtimeout_of_none {s : State} {tag : BitVec 16} (h : ∀ e ∈ s.mem.held, e.1 ≠ tag) :
    exec (.localtimeout tag) s = .next s := by
  rw [exec_localtimeout]
  unfold execLocaltimeout
  rw [List.find?_eq_none.mpr fun e he => by simpa using h e he]

theorem localtimeout_of_held {s : State} {tag : BitVec 16} {h : Nat} {tick : W64} {g : Group}
    (hf : (s.mem.held.find? fun e => e.1 == tag) = some (tag, h, tick)) (hg : s.group h = some g) :
    exec (.localtimeout tag) s = if (s.tickOf (dieOf g.core) - tick).toNat < 10000 then .next s else
      .next (State.answerPieces
        (State.contain { s with mem := { s.mem with held := s.mem.held.filter fun e => e.1 != tag } } (dieOf g.core) 0x0D09 2 8 7
          g.core none 0xFFFF (if g.task then 0xFFFF else g.grid.toNat) g.ctx.toNat g.gid.toNat
          (((g.memOps.find? fun o => o.pieces.any fun p => p.tag == tag && p.status == 0xFF).map MemOp.pc).getD 0) 0 0)
        h tag false fun q => { q with status := 3 }) := by
  rw [exec_localtimeout]
  unfold execLocaltimeout
  rw [hf]
  dsimp only
  rw [hg]

end Sys2Proof.Machine

namespace Sys2Proof.Claims

open Sys2Proof.Machine

/-- A multicast store of a member that is LIVE, in the words of the statement. -/
theorem mcwrite_hold {s : State} {p : Packet} (hop : p.opcode = 0x18) (hp : wellPacked p = true)
    (hlive : (s.conf.chip s.fab.self.toNat).state = .live) :
    let o := s.packetObject p
    let check (u : State) (page : Nat) : State × Verdict := u.translate (s.packetReq p 2) o (packetSpan p page).1 true false
    let reached (u : State) (page : Nat) (leaf : W64) (entry : ObjEntry) : State :=
      u.reach o (packetSpan p page).1 (packetSpan p page).2 leaf entry true none
    let w := s.freshGrants p.grantHome p.grantObject
    (o = 0 → exec (.mcwrite p) s = .next (w.mcastAnswer p false))
    ∧ (o ≠ 0 →
        (∀ page t leaf entry, packetPages p = [page] → check w page = (t, .ok leaf entry) → exec (.mcwrite p) s = .next
          (((reached t page leaf entry).storePage p page (leafFrame leaf)).mcastAnswer p true))
        ∧ (∀ a b t u la lb ea eb, packetPages p = [a, b] → check w a = (t, .ok la ea) →
            check (reached t a la ea) b = (u, .ok lb eb) → exec (.mcwrite p) s = .next
              ((((reached u b lb eb).storePage p a (leafFrame la)).storePage p b (leafFrame lb)).mcastAnswer p true))
        ∧ (∀ page rest, packetPages p = page :: rest →
            (∀ t ptag, check w page = (t, .denied ptag) →
              exec (.mcwrite p) s = .next ((t.logDenial (s.packetReq p 2) o (packetSpan p page).1 ptag 2).mcastAnswer p false))
            ∧ (∀ t nw, check w page = (t, .fault nw) → exec (.mcwrite p) s = .next (w.mcastAnswer p false))
            ∧ (∀ t, check w page = (t, .hold) → (s.objEntry o).publishing = true → exec (.mcwrite p) s = .next (w.keepWaiting p)))) := by
  intro o check reached w
  refine ⟨fun ho => mcwrite_of_no_object hop hp hlive ho, fun ho => ?_⟩
  have hexec := mcwrite_of_live hop hp hlive ho
  have hq : w.packetReq p 2 = s.packetReq p 2 := State.packetReq_freshGrants s p.grantHome p.grantObject p 2
  refine ⟨fun page t leaf entry hpages hc => ?_, fun a b t u la lb ea eb hpages ha hb => ?_, fun page rest hpages =>
    ⟨fun t ptag hc => ?_, fun t nw hc => ?_, fun t hc hpub => ?_⟩⟩
  · rw [hexec, hpages, State.storePages_ok (by rw [hq]; exact hc), State.storePages_nil]
    rfl
  · rw [hexec, hpages, State.storePages_ok (by rw [hq]; exact ha), State.storePages_ok (by rw [hq]; exact hb), State.storePages_nil]
    rfl
  · rw [hexec, hpages, State.storePages_denied (by rw [hq]; exact hc), hq]
  · rw [hexec, hpages, State.storePages_fault (by rw [hq]; exact hc)]
  · have hpub' : (w.objEntry o).publishing = true := by rw [State.objEntry_freshGrants]; exact hpub
    obtain rfl := State.eq_of_translate_hold hpub' hc
    rw [hexec, hpages, State.storePages_publishing hpub' (by rw [hq]; exact hc)]

/-- Requests at a Weir, completed walks, and requests that waited too long, in the words of the statement. -/
theorem weirs_hold (s : State) (o : BitVec 28) (page : Nat) (tag : BitVec 16) :
    (∀ (a : LogAppend) rest, s.mem.appends = a :: rest →
      let u : State := { s with mem := { s.mem with appends := rest } }
      let log : Cap := { home := a.home, object := a.object, base := a.base, length := a.length, rights := rR ||| rW }
      exec .weirRequest s = .next (if a.home = s.fab.self ∧ namesLog log = true then u.appendHere log a.entry else u))
    ∧ (s.mem.appends = [] → ∀ r, s.nextRequest = some r →
        let u : State := ({ s with mem := { s.mem with requests := s.mem.requests.erase r } } : State).freshGrants
          r.packet.grantHome r.packet.grantObject
        (r.packet.opcode ≠ 0x18 → ∀ t, u.servePacket r.packet = (t, none) →
          exec .weirRequest s = .next (State.releaseAll
            { t with mem := { t.mem with waiting := t.mem.waiting ++ [{ packet := r.packet }] } }))
        ∧ (r.packet.opcode ≠ 0x18 → ∀ t q, u.servePacket r.packet = (t, some q) →
          exec .weirRequest s = .next (t.send (homeDie r.packet.object) q).1.releaseAll))
    ∧ (∀ r rest, s.mem.requests = r :: rest → (∀ w ∈ s.mem.waiting, w.packet.src ≠ r.packet.src ∨ w.packet.cls ≠ 0) →
        s.nextRequest = some r)
    ∧ (s.mem.appends = [] → s.nextRequest = none → exec .weirRequest s = .next s.releaseAll)
    ∧ ((s.objEntry o).publishing = true → exec (.walkComplete o page) s = .next s)
    ∧ ((s.objEntry o).publishing = false → (∀ e ∈ s.mem.held, s.heldPage e.1 e.2.1 ≠ some (o, page)) →
        let due := s.mem.waiting.filter fun r => s.packetObject r.packet == o && r.packet.offset.toNat / 65536 == page
        (due = [] → exec (.walkComplete o page) s = .next s)
        ∧ (∀ r, due = [r] →
            let t := ({ s with mem := { s.mem with waiting := s.mem.waiting.erase r } } : State).serveRemote r.packet
            (∀ e ∈ t.mem.held, t.heldPage e.1 e.2.1 ≠ some (o, page)) →
            exec (.walkComplete o page) s = .next
              (if t.mem.waiting.contains r then { t with mem := { t.mem with waiting := s.mem.waiting } } else t).releaseAll))
    ∧ ((∀ e ∈ s.mem.held, e.1 ≠ tag) → exec (.localtimeout tag) s = .next s)
    ∧ (∀ h tick g, (s.mem.held.find? fun e => e.1 == tag) = some (tag, h, tick) → s.group h = some g →
        ((s.tickOf (dieOf g.core) - tick).toNat < 10000 → exec (.localtimeout tag) s = .next s)
        ∧ (10000 ≤ (s.tickOf (dieOf g.core) - tick).toNat →
            let u : State := { s with mem := { s.mem with held := s.mem.held.filter fun e => e.1 != tag } }
            exec (.localtimeout tag) s = .next (State.answerPieces
              (u.contain (dieOf g.core) 0x0D09 2 8 7 g.core none 0xFFFF (if g.task then 0xFFFF else g.grid.toNat) g.ctx.toNat g.gid.toNat
                (((g.memOps.find? fun o => o.pieces.any fun p => p.tag == tag && p.status == 0xFF).map MemOp.pc).getD 0) 0 0) h tag false fun q => { q with status := 3 }))) := by
  refine ⟨fun a rest h => ?_, fun h r hr => ?_, fun r rest => State.nextRequest_of_head, weirRequest_of_none,
    walkComplete_of_publishing, fun hp hh => ?_, localtimeout_of_none, fun h tick g hf hg => ⟨fun hl => ?_, fun hl => ?_⟩⟩
  · intro u log
    rw [weirRequest_of_append h]
    simp only [Bool.and_eq_true, beq_iff_eq]
    rfl
  · intro u
    refine ⟨fun hop t ht => ?_, fun hop t q ht => ?_⟩
    · rw [weirRequest_of_some h hr, State.serveRemote_of_held hop ht]
      rfl
    · rw [weirRequest_of_some h hr, State.serveRemote_of_served hop ht]
  · intro due
    refine ⟨walkComplete_of_none hp hh, fun r hr => ?_⟩
    intro t ht
    exact walkComplete_of_one hp hr (State.heldAt_retryWaiting (State.heldAt_nil ht))
  · rw [localtimeout_of_held hf hg, if_pos hl]
  · rw [localtimeout_of_held hf hg, if_neg (Nat.not_lt.mpr hl)]

/-- Settles O40: a multicast store is checked page by page before any byte is stored, a completed walk retries what waits for
its page, and each row has an equation of its own. -/
theorem switchesAndWeirs : Obligations.SwitchesAndWeirs := by
  unfold Obligations.SwitchesAndWeirs
  refine ⟨fun s p r => ?_, weirs_hold⟩
  intro o check reached answer
  refine ⟨mcwrite_of_refused, fun hop hp hl => ?_, fun hop hp hl => mcwrite_hold hop hp hl, mcreply_of_refused, fun hop hp => ?_,
    redresult_of_refused, fun hop hp => ?_, swattest_of_unverified, fun hf hn hs => ?_⟩
  · rw [exec_mcwrite]
    unfold execMcwrite
    rw [if_neg (by simp [hop, hp]), if_pos (by simpa using hl)]
  · rw [exec_mcreply]
    unfold execMcreply
    rw [if_neg (by simp [hop, hp])]
  · obtain ⟨t, ht, ⟨hm, hg, hd⟩, hnone⟩ := redresult_of_result hop hp
    exact ⟨t, ht, hm, hg, hd, hnone⟩
  · intro who
    obtain ⟨hm, hg, ht⟩ := s.keysSent_foldl r who
    exact ⟨_, swattest_of_verified hf hn hs, hm, hg, fun h => congrArg (List.foldl _ s) h, ht⟩

end Sys2Proof.Claims

/-! PROOFS. Delivery of Current records, tails and snapshots (O41). -/

namespace Sys2Proof.Machine

open Claims

/-! ### What the stop bits change -/

/-- `t` is `s` but for its ports and what has left on them. -/
def State.PortWork (s t : State) : Prop := t = { s with outbox := t.outbox, fab := { s.fab with ports := t.fab.ports } }

theorem State.PortWork.refl (s : State) : s.PortWork s := rfl

theorem State.PortWork.trans {s t u : State} (h : s.PortWork t) (h' : t.PortWork u) : s.PortWork u := by
  unfold State.PortWork at *
  rw [h', h]

theorem State.portWork_putPort (s : State) (i : Nat) (p : Port) : s.PortWork (s.putPort i p) := rfl

theorem State.portWork_emitFrames (s : State) (i kind : Nat) (es : List (BitVec 12 × List Byte)) : s.PortWork (s.emitFrames i kind es) := by
  unfold State.emitFrames
  dsimp only
  split <;> rfl

theorem State.portWork_idlePort (s : State) (i : Nat) : s.PortWork (s.idlePort i) := by
  unfold State.idlePort
  dsimp only
  split
  · exact s.portWork_emitFrames i 1 _
  · exact .refl s

theorem foldl_portWork {α : Type} {f : State → α → State} (hf : ∀ (s : State) a, s.PortWork (f s a)) (l : List α) (s : State) :
    s.PortWork (l.foldl f s) := by
  induction l generalizing s with
  | nil => exact .refl s
  | cons a l ih => exact (hf s a).trans (ih (f s a))

theorem State.portWork_idleAll (s : State) : s.PortWork s.idleAll := foldl_portWork State.portWork_idlePort _ s

theorem State.portWork_setStops (s : State) : s.PortWork s.setStops := by
  unfold State.setStops
  refine .trans ?_ (State.portWork_idleAll _)
  rfl

/-- Ports without buffered packets hand nothing over. -/
theorem State.takePorts_of_empty {s : State} (h : ∀ i, (s.port i).buffer = []) : s.takePorts = s := by
  unfold State.takePorts
  generalize s.fab.ports.map Prod.fst = l
  induction l with
  | nil => rfl
  | cons i l ih =>
    rw [List.foldl_cons, if_pos (h i)]
    exact ih

/-- Records of assigned types at the head wait for their own row. -/
theorem State.passUnassigned_of_assigned {s : State} (n : Nat) (h : ∀ q ∈ s.cur.queue, typeAssigned q.typ = true) :
    s.passUnassigned n = s := by
  cases n with
  | zero => rfl
  | succ n =>
    rw [State.passUnassigned]
    split
    · rfl
    · next r rest hq =>
      rw [if_neg (by simp [h r (by rw [hq]; exact List.mem_cons_self)])]

/-- Outside a replay, with assigned records alone and nothing buffered, only the stop bits follow. -/
theorem State.portWork_queued {s : State} (hstage : s.cur.stage ≠ .replay) (hq : ∀ q ∈ s.cur.queue, typeAssigned q.typ = true)
    (hb : ∀ i, (s.port i).buffer = []) : s.PortWork s.queued := by
  unfold State.queued
  rw [if_neg hstage]
  dsimp only
  rw [State.passUnassigned_of_assigned _ hq, State.takePorts_of_empty hb]
  exact s.portWork_setStops

/-! ### Accepting one record with nothing held -/

section
variable {c : Current} {r : CurRec} {now : W64}

theorem Current.accept_of_before (h : r.seq.toNat < c.next.toNat) : c.accept r now = c := by
  unfold Current.accept
  rw [if_pos h]

theorem Current.accept_of_next (hh : c.hold = []) (h : r.seq = c.next) (hq : c.queue.length < 65536) : c.accept r now
    = { c with queue := c.queue ++ [r], next := c.next + 1, heldAt := [], gapSince := none } := by
  unfold Current.accept Current.enqueue Current.drainHold
  simp [h, hq, hh]

theorem Current.accept_of_beyond (hh : c.hold = []) (h : c.next.toNat < r.seq.toNat) : c.accept r now
    = { c with hold := [r], heldAt := c.heldAt ++ [(r.seq, now)], gapSince := some (c.gapSince.getD now) } := by
  unfold Current.accept
  rw [if_neg (by omega), if_neg (fun e => by rw [e] at h; omega), if_neg (by simp [hh]), hh]
  rfl

theorem Current.accept_keeps_stage : (c.accept r now).stage = c.stage := by
  have henq (d : Current) (x : CurRec) : (d.enqueue x).stage = d.stage := by
    unfold Current.enqueue
    split <;> rfl
  have hfold (l : List CurRec) (d : Current) : (l.foldl Current.enqueue d).stage = d.stage := by
    induction l generalizing d with
    | nil => rfl
    | cons x l ih => exact (ih (d.enqueue x)).trans (henq d x)
  unfold Current.accept
  split
  · rfl
  · split
    · exact (hfold _ _).trans (henq c r)
    · split <;> rfl

/-- With nothing held, only the record itself can be queued. -/
theorem Current.mem_queue_accept (hh : c.hold = []) {q : CurRec} (hq : q ∈ (c.accept r now).queue) : q ∈ c.queue ∨ q = r := by
  unfold Current.accept at hq
  split at hq
  · exact .inl hq
  · split at hq
    · unfold Current.enqueue Current.drainHold at hq
      split at hq
      · simpa [hh] using hq
      · exact .inl (by simpa [hh] using hq)
    · split at hq <;> exact .inl hq

end

/-! ### The rows of a delivered record -/

section
variable {s : State} {r : CurRec}

theorem event_of_stopped (h : s.fw.state ≠ 1 ∨ (s.cur.stopped = true ∧ s.cur.holding = false)) : exec (.event r) s = .next s := by
  rw [exec_event]
  unfold execEvent
  rw [if_pos (by simpa using h)]

theorem event_of_holding (hf : s.fw.state = 1) (hh : s.cur.holding = true) (hl : s.cur.rejoinHold.length < 2 ^ 20) :
    exec (.event r) s = .next { s with cur := { s.cur with rejoinHold := insertRec r s.cur.rejoinHold } } := by
  rw [exec_event]
  unfold execEvent
  rw [if_neg (by simp [hf, hh]), if_pos hh, if_neg (by omega)]

theorem event_of_replay (hf : s.fw.state = 1) (hstage : s.cur.stage = .replay) (hs : s.cur.stopped = false) (hfed : s.cur.fed = false)
    (hl : s.cur.rejoinHold.length < 2 ^ 20) : exec (.event r) s
      = .next (State.queued { s with cur := { s.cur with rejoinHold := insertRec r s.cur.rejoinHold } }) := by
  rw [exec_event]
  unfold execEvent
  rw [if_neg (by simp [hf, hs]), if_neg (by simp [Current.holding, hstage]), if_pos ⟨hstage, by simp [hfed]⟩, if_neg (by omega)]

theorem event_of_delivered (hf : s.fw.state = 1) (hs : s.cur.stopped = false) (hh : s.cur.holding = false) (hstage : s.cur.stage ≠ .replay) :
    exec (.event r) s = .next (State.queued { s with cur := s.cur.accept r s.now }) := by
  rw [exec_event]
  unfold execEvent
  rw [if_neg (by simp [hf, hs]), if_neg (by simp [hh]), if_neg (fun h => hstage h.1)]

end

/-! ### Tails, snapshots and candidates -/

section
variable {s : State} {chip : BitVec 12} {id : BitVec 24}

theorem tailFetch_of_gap {h : CurRec} {hs : List CurRec} {t : W64} (hh : s.cur.hold = h :: hs) (ht : s.cur.gapSince = some t)
    (hf : s.fw.state = 1) (hstop : s.cur.stopped = false) (htr : s.cur.transfer = none) (hn : s.cur.holding = false) :
    exec .tailFetch s = .next (if s.silence ≤ (s.now - t).toNat ∨ 4096 ≤ s.cur.hold.length then
      s.askNext false s.cur.next (h.seq - 1) (candidates s.fab.self) else s) := by
  rw [exec_tailFetch]
  unfold execTailFetch
  rw [hh, ht]
  simp [State.applies, hf, hstop, htr, hn]

theorem tailFetch_of_no_hold (hh : s.cur.hold = []) : exec .tailFetch s = .next s := by
  rw [exec_tailFetch]
  unfold execTailFetch
  rw [hh]

/-- Asking the next candidate names it in the transfer under way. -/
theorem State.askNext_cons (s : State) (snapshot : Bool) (first last : W64) (c : BitVec 12) (cs : List (BitVec 12)) :
    s.askNext snapshot first last (c :: cs) = asked s snapshot first last c cs := rfl

theorem State.answersSync_eq (hf : s.fw.state = 1) : (s.answersSync = true) = (s.ownState = .live) := by
  unfold State.answersSync
  simp [hf]

theorem tailData_of_unasked {recs : List CurRec} (h : s.answered chip id false = none) : exec (.tailData chip id recs) s = .next s := by
  rw [exec_tailData]
  unfold execTailData
  rw [h]

theorem tailData_of_asked {recs : List CurRec} {t : Transfer} (h : s.answered chip id false = some t) : exec (.tailData chip id recs) s
    = .next (if !tailMatches t recs then s.nextCandidate else if s.cur.stage = .tail then s.replay recs
      else State.queued { s with cur := (recs.foldl Current.enqueue { s.cur with transfer := none }).drainHold }) := by
  rw [exec_tailData]
  unfold execTailData
  rw [h]

theorem snapshotData_of_unasked {stream : SnapStream} (h : s.answered chip id true = none) :
    exec (.snapshotData chip id stream) s = .next s := by
  rw [exec_snapshotData]
  unfold execSnapshotData
  rw [h]

theorem snapshotData_of_bad {stream : SnapStream} {t : Transfer} (h : s.answered chip id true = some t) (hg : snapGood stream = false) :
    exec (.snapshotData chip id stream) s = .next s.nextCandidate := by
  rw [exec_snapshotData]
  unfold execSnapshotData
  rw [h]
  exact congrArg Host.Outcome.next (if_pos (by rw [hg]; rfl))

theorem snapshotData_of_good {stream : SnapStream} {t : Transfer} (h : s.answered chip id true = some t) (hg : snapGood stream = true) :
    ∃ u : State, exec (.snapshotData chip id stream) s = .next u
      ∧ u = { s with conf := tablesOf stream.rows, cur := u.cur, fab := { s.fab with noPlane := u.fab.noPlane } }
      ∧ u.cur.next = stream.opening + 1 ∧ u.cur.stage = .tail
      ∧ u.cur.params = some (paramsOf stream.params) ∧ u.cur.round = some (snapRound stream s.now) ∧ u.cur.source = chip ∧ u.cur.transfer = none
      ∧ u.cur.log = (s.cur.log.filter fun r => decide (r.seq.toNat ≤ stream.opening.toNat))
      ∧ u.cur.snaps = (s.cur.snaps.filter fun p => decide (p.opening.toNat < stream.opening.toNat))
      ∧ u.cur.splitRound = snapSplit stream s.now
      ∧ u.cur.rejoinHold = s.cur.rejoinHold.filter fun r => decide (stream.opening.toNat < r.seq.toNat) := by
  rw [exec_snapshotData]
  unfold execSnapshotData
  rw [h]
  refine ⟨_, congrArg Host.Outcome.next (if_neg (by rw [hg]; decide)), ?_⟩
  unfold State.remapped
  exact ⟨rfl, rfl, rfl, rfl, rfl, rfl, rfl, rfl, rfl, rfl, rfl⟩

/-- A candidate is left: it is asked, and what came of the stream is dropped. -/
theorem State.nextCandidate_of_left {t : Transfer} {c : BitVec 12} {cs : List (BitVec 12)} (h : s.cur.transfer = some t) (hl : t.left = c :: cs) :
    s.nextCandidate = asked { s with fab := { s.fab with streams := s.fab.streams.filter fun e => !(e.1 == t.asked && e.2.1 == t.id) } }
      t.snapshot t.first t.last c cs := by
  unfold State.nextCandidate
  rw [h]
  dsimp only
  rw [if_pos (by simp [hl]), hl, State.askNext_cons]

end

end Sys2Proof.Machine

namespace Sys2Proof.Claims

open Sys2Proof.Machine

/-- A record that is delivered with nothing held, in the words of the statement. -/
theorem delivered_hold {s : State} {r : CurRec} (hf : s.fw.state = 1) (hs : s.cur.stopped = false) (hh : s.cur.holding = false)
    (hstage : s.cur.stage ≠ .replay) (hhold : s.cur.hold = []) (hr : typeAssigned r.typ = true)
    (hq : ∀ q ∈ s.cur.queue, typeAssigned q.typ = true) (hb : ∀ i, (s.port i).buffer = []) :
    ∃ t : State, exec (.event r) s = .next t
      ∧ t = { s with cur := t.cur, outbox := t.outbox, fab := { s.fab with ports := t.fab.ports } }
      ∧ (r.seq.toNat < s.cur.next.toNat → t.cur = s.cur)
      ∧ (r.seq = s.cur.next → s.cur.queue.length < 65536 →
          t.cur = { s.cur with queue := s.cur.queue ++ [r], next := s.cur.next + 1, heldAt := [], gapSince := none })
      ∧ (s.cur.next.toNat < r.seq.toNat → t.cur = { s.cur with
          hold := [r], heldAt := s.cur.heldAt ++ [(r.seq, s.now)], gapSince := some (s.cur.gapSince.getD s.now) }) := by
  have hqueue : ∀ q ∈ (s.cur.accept r s.now).queue, typeAssigned q.typ = true := by
    intro q hm
    rcases Current.mem_queue_accept hhold hm with hm | rfl
    · exact hq q hm
    · exact hr
  have hwork : State.PortWork { s with cur := s.cur.accept r s.now } _ :=
    State.portWork_queued (by rw [Current.accept_keeps_stage]; exact hstage) hqueue hb
  have hcur : (State.queued { s with cur := s.cur.accept r s.now }).cur = s.cur.accept r s.now := by rw [hwork]
  refine ⟨_, event_of_delivered hf hs hh hstage, ?_, fun h => ?_, fun h hl => ?_, fun h => ?_⟩
  · rw [hcur]
    exact hwork
  · rw [hcur, Current.accept_of_before h]
  · rw [hcur, Current.accept_of_next hhold h hl]
  · rw [hcur, Current.accept_of_beyond hhold h]

/-- Settles O41: with nothing held a record is accepted by its sequence alone, and the rows of a transfer follow the stage of the
rejoin. -/
theorem recordsTravel : Obligations.RecordsTravel := by
  unfold Obligations.RecordsTravel
  refine ⟨fun s r => ⟨event_of_stopped, event_of_holding, fun hf hst hs => event_of_replay hf hst hs,
    fun hf hs hh hst => delivered_hold hf hs hh hst⟩, fun s chip id first last recs stream => ?_⟩
  refine ⟨fun h hs t hh ht hf hstop htr hn => ⟨fun hl => ?_, fun hlt hlen => ?_⟩, tailFetch_of_no_hold, fun hf => ?_, fun hf => ?_,
    fun hf => ⟨?_, ?_⟩, tailData_of_unasked, fun t ht => ⟨fun hm => ?_, fun hm hst => ?_, fun hm hst => ?_⟩, snapshotData_of_unasked,
    fun t ht => ⟨snapshotData_of_bad ht, snapshotData_of_good ht⟩, ?_, fun t ht => ⟨?_, ?_, fun c cs hl => State.nextCandidate_of_left ht hl⟩,
    fun ht => ⟨?_, ?_⟩⟩
  · rw [tailFetch_of_gap hh ht hf hstop htr hn, if_pos hl]
    rfl
  · rw [tailFetch_of_gap hh ht hf hstop htr hn, if_neg (by omega)]
  · rw [exec_tailRequest]
    unfold execTailRequest
    rw [if_neg (not_not.mpr hf)]
    simp only [State.answersSync_eq hf] <;> rfl
  · rw [exec_snapshotRequest]
    unfold execSnapshotRequest
    rw [if_neg (not_not.mpr hf)]
    simp only [State.answersSync_eq hf]
    rfl
  · rw [exec_tailRequest]
    exact if_pos hf
  · rw [exec_snapshotRequest]
    exact if_pos hf
  · rw [tailData_of_asked ht, if_pos (by simp [hm])]
  · rw [tailData_of_asked ht, if_neg (by simp [hm]), if_neg hst]
  · rw [tailData_of_asked ht, if_neg (by simp [hm]), if_pos hst]
    rfl
  · rw [exec_notHeld]
    unfold execNotHeld
    simp only [Bool.or_eq_true]
  · rw [exec_transferTimeout]
    unfold execTransferTimeout
    simp only [ht, State.silent, Bool.and_eq_true, decide_eq_true_eq]
  · rw [exec_candidateSilence]
    unfold execCandidateSilence
    simp only [ht, State.silent, Bool.and_eq_true, decide_eq_true_eq, Bool.not_eq_true']
  · rw [exec_transferTimeout]
    unfold execTransferTimeout
    rw [ht]
  · rw [exec_candidateSilence]
    unfold execCandidateSilence
    rw [ht]

end Sys2Proof.Claims

/-! PROOFS. The timers of a sounding round and the steps of a rejoin (O42). -/

namespace Sys2Proof.Machine

open Claims

/-! ### What ports that hand over packets leave -/

/-- The tables, the name and the dies of the chip are the same. -/
def State.SameTables (s t : State) : Prop := t.conf = s.conf ∧ t.fab.self = s.fab.self ∧ t.pkg = s.pkg

theorem State.SameTables.refl (s : State) : s.SameTables s := ⟨rfl, rfl, rfl⟩

theorem State.SameTables.trans {s t u : State} (h : s.SameTables t) (h' : t.SameTables u) : s.SameTables u :=
  ⟨h'.1.trans h.1, h'.2.1.trans h.2.1, h'.2.2.trans h.2.2⟩

theorem foldl_sameTables {α : Type} {f : State → α → State} (hf : ∀ (s : State) a, s.SameTables (f s a)) (l : List α) (s : State) :
    s.SameTables (l.foldl f s) := by
  induction l generalizing s with
  | nil => exact .refl s
  | cons a l ih => exact (hf s a).trans (ih (f s a))

theorem State.PortWork.sameTables {s t : State} (h : s.PortWork t) : s.SameTables t := by
  unfold State.PortWork at h
  rw [h]
  exact ⟨rfl, rfl, rfl⟩

theorem State.sameTables_heard (s : State) (chip : BitVec 12) (id : BitVec 24) : s.SameTables (s.heard chip id) := by
  unfold State.heard
  split
  · exact .refl s
  · split <;> exact ⟨rfl, rfl, rfl⟩

theorem State.sameTables_streamPiece (s : State) (p : Packet) : s.SameTables (s.streamPiece p).1 := by
  have h := s.sameTables_heard p.src p.redId
  unfold State.streamPiece
  simp only
  generalize (if p.offset = 0 then [] else _ : List Byte) = old
  split
  · exact .refl s
  · split <;> exact h

theorem State.sameTables_discard (s : State) (p : Packet) : s.SameTables (s.discard p) := ⟨rfl, rfl, rfl⟩

theorem State.sameTables_happen (s : State) (i : Instr) : s.SameTables (s.happen i) := ⟨rfl, rfl, rfl⟩

theorem State.sameTables_packetArrived (s : State) (p : Packet) : s.SameTables (s.packetArrived p) := by
  have hd := s.sameTables_discard p
  have hh := s.sameTables_happen
  have ht := s.sameTables_streamPiece p
  have hth (i : Instr) := ht.trans ((s.streamPiece p).1.sameTables_happen i)
  rcases hp : s.streamPiece p with ⟨t, b⟩
  rw [hp] at ht hth
  unfold State.packetArrived
  rw [hp]
  cases b <;> dsimp only <;> (repeat' split) <;> simp only [hd, hh, ht, hth]

theorem State.sameTables_takeBuffered (i : Nat) (ps : List Packet) (s : State) : s.SameTables (State.takeBuffered s i ps) := by
  induction ps generalizing s with
  | nil => exact .refl s
  | cons p ps ih =>
    rw [State.takeBuffered]
    split
    · exact State.SameTables.trans ⟨rfl, rfl, rfl⟩ (ih _)
    · exact (s.sameTables_packetArrived p).trans (ih _)

theorem State.sameTables_takePorts (s : State) : s.SameTables s.takePorts := by
  refine foldl_sameTables (fun s i => ?_) _ s
  simp only
  split
  · exact .refl s
  · exact State.SameTables.trans ⟨rfl, rfl, rfl⟩ (State.sameTables_takeBuffered i _ _)

theorem State.sameTables_emptied (s : State) : s.SameTables s.emptied :=
  s.sameTables_takePorts.trans s.takePorts.portWork_setStops.sameTables

theorem State.sameTables_emitOn (s : State) (i : Nat) (p : Packet) : s.SameTables (s.emitOn i p) := by
  unfold State.emitOn
  have h (q : Port) (es : List (BitVec 12 × List Byte)) : s.SameTables ((s.putPort i q).emitFrames i 0 es) :=
    (s.portWork_putPort i q).sameTables.trans (State.portWork_emitFrames _ i 0 es).sameTables
  exact h _ _

theorem State.sameTables_emitLoose (s : State) (p : Packet) : s.SameTables (s.emitLoose p) := by
  refine ⟨by rw [State.emitLoose_eq], ?_, by rw [State.emitLoose_eq]⟩
  unfold State.emitLoose
  split
  · rfl
  · split
    · next t h =>
      obtain ⟨i, -, rfl⟩ := Option.map_eq_some_iff.mp h
      exact (s.sameTables_emitOn i p).2.1
    · rfl

theorem State.snapCandidates_of_sameTables {s t : State} (h : s.SameTables t) : t.snapCandidates = s.snapCandidates := by
  unfold State.snapCandidates
  rw [h.1, h.2.1]

/-! ### Timers of a sounding round -/

/-- Whether the chip closes its round now. -/
def State.closes (s : State) (q : Round) (p : PodParams) : Bool :=
  s.applies && s.speaks && s.ownState == .live && !q.closePosted && decide (p.wait ≤ (s.now - q.since).toNat)

theorem soundwaitExpiry_of_round {s : State} {q : Round} {p : PodParams} (hq : s.cur.round = some q) (hp : s.cur.params = some p) :
    exec .soundwaitExpiry s = .next (if s.closes q p = true then
      ({ s with cur := { s.cur with round := some { q with closePosted := true } } } : State).post
        (s.record 0x14 0 (q.opening.toNat + 2 ^ 64)) else s) := by
  rw [exec_soundwaitExpiry]
  unfold execSoundwaitExpiry
  rw [hq, hp]
  rfl

/-- Whether the chip posts the EXPEL that it was told of. -/
def State.expels (s : State) (e : BitVec 12 × W64 × W64) (p : PodParams) : Bool :=
  s.applies && s.ownState == .live && decide (p.expel ≤ (s.now - e.2.2).toNat)

theorem expelwaitExpiry_of_told {s : State} {chip : BitVec 12} {e : BitVec 12 × W64 × W64} {p : PodParams}
    (he : (s.cur.expels.find? fun e => e.1 == chip) = some e) (hp : s.cur.params = some p) :
    exec (.expelwaitExpiry chip) s = .next (if s.expels e p = true then
      ({ s with cur := { s.cur with expels := s.cur.expels.filter fun x => x != e } } : State).post
        (s.record 0x12 0 (chip.toNat + 2 ^ 64 * e.2.1.toNat)) else s) := by
  rw [exec_expelwaitExpiry]
  unfold execExpelwaitExpiry
  rw [he, hp]
  rfl

theorem expelwaitExpiry_of_untold {s : State} {chip : BitVec 12} (h : ∀ e ∈ s.cur.expels, e.1 ≠ chip) :
    exec (.expelwaitExpiry chip) s = .next s := by
  rw [exec_expelwaitExpiry]
  unfold execExpelwaitExpiry
  rw [List.find?_eq_none.mpr fun e he => by simpa using h e he]

/-! ### Steps of a rejoin -/

/-- A rejoin starts with delivery resumed and what was queued dropped. -/
def State.rejoinStart (s : State) : State :=
  State.emptied { s with cur := { s.cur with
    stage := .snapshot, rejoinTail := [], rejoinHold := [], retryAt := none, queue := [], hold := [], heldAt := [], gapSince := none,
    nextTransfer := s.cur.nextTransfer + 1 } }

/-- The chip then tells everyone that it seeks a snapshot. -/
def State.rejoinTold (s : State) : State :=
  (s.rejoinStart.streamPackets 0x11 2 s.rejoinStart.eventPlane s.rejoinStart.fab.self 6 s.cur.nextTransfer (List.replicate 256 0)).foldl
    State.emitLoose s.rejoinStart

theorem State.beginRejoin_eq (s : State) : s.beginRejoin = s.rejoinTold.askNext true 0 0 s.rejoinTold.snapCandidates := rfl

theorem State.sameTables_rejoinTold (s : State) : s.SameTables s.rejoinTold := by
  have hstart : s.SameTables s.rejoinStart := State.SameTables.trans ⟨rfl, rfl, rfl⟩ (State.sameTables_emptied _)
  exact hstart.trans (foldl_sameTables State.sameTables_emitLoose _ s.rejoinStart)

theorem rejoin_of_none {s : State} (hf : s.fw.state = 1) (hs : s.cur.stage = .none) :
    exec .rejoin s = .next (if s.mayRejoin = true then s.beginRejoin else s) := by
  rw [exec_rejoin]
  unfold execRejoin
  rw [if_neg (not_not.mpr hf), hs]

theorem rejoin_of_replayed {s : State} (hf : s.fw.state = 1) (hs : s.cur.stage = .replay) (hq : s.cur.queue = []) (hh : s.cur.hold = [])
    (hfed : s.cur.fed = true) : exec .rejoin s = .next s.endReplay := by
  rw [exec_rejoin]
  unfold execRejoin
  rw [if_neg (not_not.mpr hf), hs]
  exact congrArg Host.Outcome.next (if_pos ⟨hq, hh, hfed⟩)

/-- ADMIT is posted whatever the tables hold, unless firmware is in recovery. -/
theorem State.post_of_admit {s : State} {r : CurRec} (hf : s.fw.state = 1) (hr : r.typ = 0x11) : s.post r = s.sendEvent r := by
  unfold State.post State.mayPostType
  simp [hf, hr]

theorem State.endReplay_of_outside {s : State} {p : PodParams} (hf : s.fw.state = 1) (hp : s.cur.params = some p) (hl : s.ownState ≠ .live)
    (hj : s.ownState ≠ .joining) : s.endReplay = ({ s with cur := { s.cur with stage := .admitted } } : State).sendEvent
      (s.record 0x11 0 (s.runMap.toNat + 2 ^ 32 * s.capacity + 2 ^ 64 * s.cur.opening.toNat + 2 ^ 128 * p.word.toNat)) := by
  unfold State.endReplay
  rw [hp]
  dsimp only
  rw [if_neg (by simp [hl, hj]), State.post_of_admit (by exact hf) rfl]
  rfl

theorem nosnapshot_of_due {s : State} (hf : s.fw.state = 1) (hs : s.cur.stage = .snapshot) (ht : s.cur.transfer = none)
    (hr : s.cur.retryAt = none) : exec .nosnapshot s = .next
      { s.errorRecord (((List.range 4).find? s.dieRuns).getD 0) 5 0x0502 2 [] with
        cur := { s.cur with retryAt := some (s.now + 1000000) } } := by
  rw [exec_nosnapshot]
  unfold execNosnapshot State.fabricError State.now State.tickOf State.dieRuns
  rw [if_pos ⟨hf, hs, ht, hr⟩]
  simp

theorem nosnapshot_of_not_due {s : State} (h : s.fw.state ≠ 1 ∨ s.cur.stage ≠ .snapshot ∨ s.cur.transfer ≠ none ∨ s.cur.retryAt ≠ none) :
    exec .nosnapshot s = .next s := by
  rw [exec_nosnapshot]
  unfold execNosnapshot
  rw [if_neg (fun ⟨hf, hs, ht, hr⟩ => by simp [hf, hs, ht, hr] at h)]

end Sys2Proof.Machine

namespace Sys2Proof.Claims

open Sys2Proof.Machine

/-- Settles O42: what ports hand over when the queue is emptied leaves the tables, so the candidates of a rejoin are those of the
state before it. -/
theorem soundingTimersAndRejoin : Obligations.SoundingTimersAndRejoin := by
  unfold Obligations.SoundingTimersAndRejoin
  intro s chip
  refine ⟨fun q p hq hp => ?_, fun hr => ?_, fun e p he hp => ?_, expelwaitExpiry_of_untold, fun hf => ?_, fun hf hs hm => ?_,
    fun hf hs hm => ?_, fun hf hs hq hh hfed hl hj p hp => ?_, nosnapshot_of_due, nosnapshot_of_not_due⟩
  · intro due
    rw [soundwaitExpiry_of_round hq hp]
    exact ⟨fun h => congrArg Host.Outcome.next (if_pos h),
      fun h => congrArg Host.Outcome.next (if_neg (ne_true_of_eq_false h))⟩
  · rw [exec_soundwaitExpiry]
    unfold execSoundwaitExpiry
    rw [hr]
  · intro due
    rw [expelwaitExpiry_of_told he hp]
    exact ⟨fun h => congrArg Host.Outcome.next (if_pos h),
      fun h => congrArg Host.Outcome.next (if_neg (ne_true_of_eq_false h))⟩
  · rw [exec_rejoin]
    unfold execRejoin
    rw [if_pos hf]
  · rw [rejoin_of_none hf hs, if_neg (by simp [hm])]
  · intro id u x
    rw [rejoin_of_none hf hs, if_pos hm, State.beginRejoin_eq, State.snapCandidates_of_sameTables s.sameTables_rejoinTold]
    have hx : x = s.rejoinTold := by
      unfold State.rejoinTold State.rejoinStart
      rfl
    rw [← hx]
    clear_value x
    cases s.snapCandidates
    · rfl
    · rfl
  · rw [rejoin_of_replayed hf hs hq hh hfed, State.endReplay_of_outside hf hp hl hj]

end Sys2Proof.Claims

/-! PROOFS. The record at the head of the queue is applied by its own row (O43). -/

namespace Sys2Proof.Machine

open Claims

/-! ### The rows that apply a record -/

/-- Each of the rows applies the head when it is one of its own. -/
theorem exec_recordForm (s : State) : ∀ e ∈ recordForms, exec e.1 s = .next (s.applyHead e.2).queued := by
  unfold recordForms
  simp only [List.forall_mem_cons]
  exact ⟨exec_submit s, exec_fire s, exec_finishBlocksEnded s, exec_finishSignalWritten s, exec_block s, exec_resume s, exec_release s,
    exec_fault s, exec_share s, exec_loss s, exec_admitChip s, exec_expel s, exec_capacity s, exec_soundDigest s, exec_soundClose s,
    exec_soundVerdict s, fun _ h => absurd h List.not_mem_nil⟩

section
variable {s : State} {mine : CurRec → Bool} {r : CurRec} {rest : List CurRec}

theorem State.applyHead_of_empty (hq : s.cur.queue = []) : s.applyHead mine = s := by
  unfold State.applyHead
  rw [hq]

theorem State.applyHead_of_other (hq : s.cur.queue = r :: rest) (h : s.applies = false ∨ mine r = false) : s.applyHead mine = s := by
  unfold State.applyHead
  rw [hq]
  exact if_neg (by rcases h with h | h <;> simp [h])

theorem State.applyHead_of_own (hq : s.cur.queue = r :: rest) (ha : s.applies = true) (hm : mine r = true) :
    s.applyHead mine = ({ s with cur := { s.cur with queue := rest } } : State).applyRecord r := by
  unfold State.applyHead
  rw [hq]
  exact if_pos (by simp [ha, hm])

end

/-! ### What a record that is not in order leaves -/

/-- `t` has the tables, the memory, the groups and the log of `s`. -/
def State.SameLog (s t : State) : Prop := t.conf = s.conf ∧ t.mem = s.mem ∧ t.groups = s.groups ∧ t.cur.log = s.cur.log

theorem State.SameLog.trans {s t u : State} (h : s.SameLog t) (h' : t.SameLog u) : s.SameLog u :=
  ⟨h'.1.trans h.1, h'.2.1.trans h.2.1, h'.2.2.1.trans h.2.2.1, h'.2.2.2.trans h.2.2.2⟩

theorem State.sameLog_openRound (s : State) (o : W64) (p : PodParams) : s.SameLog (s.openRound o p) := by
  unfold State.openRound State.SameLog
  dsimp only
  split <;> simp

theorem State.sameLog_openRounds (s : State) (o : W64) (loss wasOpen : Bool) : s.SameLog (s.openRounds o loss wasOpen) := by
  unfold State.openRounds
  split
  · exact ⟨rfl, rfl, rfl, rfl⟩
  · dsimp only
    split
    · split <;> exact ⟨rfl, rfl, rfl, rfl⟩
    · split
      · exact s.sameLog_openRound o _
      · exact ⟨rfl, rfl, rfl, rfl⟩

theorem State.sameLog_launchDone (s : State) (r : CurRec) (code : Nat) : s.SameLog (s.launchDone r code) := by
  unfold State.launchDone
  split
  · exact ⟨rfl, rfl, rfl, rfl⟩
  · split
    · exact ⟨rfl, rfl, rfl, rfl⟩
    · dsimp only
      split <;> exact ⟨rfl, rfl, rfl, rfl⟩

theorem State.sameLog_fabricError (s : State) (code : BitVec 16) (detail : List Byte) : s.SameLog (s.fabricError code detail) := by
  unfold State.fabricError State.SameLog
  simp

/-- A record that is not in order is kept in the log, and leaves the tables. -/
theorem State.sameLog_applyRecord_of_bad {s : State} {r : CurRec} (h : recordGood s.conf r = false) :
    (s.logRecord r).SameLog (s.applyRecord r) := by
  have hopen := (s.logRecord r).sameLog_openRounds r.seq false s.cur.round.isSome
  unfold State.applyRecord
  simp only [h, Bool.not_false, if_true]
  split
  · refine hopen.trans (.trans ?_ (State.sameLog_fabricError _ 0x0501 _))
    split
    · exact State.sameLog_launchDone _ r 0x0F
    · exact ⟨rfl, rfl, rfl, rfl⟩
  · exact hopen

/-! ### What a record in order does -/

/-- A fabric error is recorded by the lowest running die. -/
theorem State.fabricError_of_sameTables {s t : State} (h : s.SameTables t) (code : BitVec 16) (detail : List Byte) :
    t.fabricError code detail = t.errorRecord (((List.range 4).find? s.dieRuns).getD 0) 5 code 2 detail := by
  unfold State.fabricError State.dieRuns
  rw [h.2.2]

theorem State.sameTables_stopApplying (s : State) : s.SameTables s.stopApplying := by
  unfold State.stopApplying
  exact State.SameTables.trans ⟨rfl, rfl, rfl⟩ (State.sameTables_emptied _)

theorem State.applyRecord_of_graphDiff {s : State} {r : CurRec} (h : recordGood s.conf r = true) (hd : s.graphDiff r = true) :
    s.applyRecord r = s.stopApplying.errorRecord (((List.range 4).find? s.dieRuns).getD 0) 5 0x0602 2 (leBytes 8 r.seq.toNat) := by
  rw [← State.fabricError_of_sameTables s.sameTables_stopApplying]
  unfold State.applyRecord
  simp only [h, hd, Bool.not_true, Bool.false_eq_true, if_false, if_true]

theorem State.applyRecord_of_good {s : State} {r : CurRec} (h : recordGood s.conf r = true) (hd : s.graphDiff r = false) :
    s.applyRecord r = (((({ s.effect r with conf := (s.effect r).conf.dispatch } : State).logRecord r).openRounds r.seq (r.typ == 0x10)
      s.cur.round.isSome)).react s.conf r := by
  unfold State.applyRecord
  simp only [h, hd, Bool.not_true, Bool.false_eq_true, if_false]

/-! ### The end of a signal OR -/

/-- A signal that has an answer is not tried again. -/
theorem State.trySignal_of_none {s : State} {grid : BitVec 16} (h : ∀ d ∈ s.disp.signals, d.grid = grid → d.answer.isSome = true) :
    s.trySignal grid = s := by
  unfold State.trySignal
  rw [List.find?_eq_none.mpr]
  intro d hd hp
  simp only [Bool.and_eq_true, beq_iff_eq] at hp
  have := h d hd hp.1.1
  simp_all

theorem signalOrDone_of_none {s : State} {grid : BitVec 16} (h : ∀ d ∈ s.disp.signals, d.grid ≠ grid) :
    exec (.signalOrDone grid) s = .next s := by
  rw [exec_signalOrDone]
  unfold execSignalOrDone
  rw [State.trySignal_of_none fun d hd he => absurd he (h d hd)]
  dsimp only
  rw [List.find?_eq_none.mpr fun d hd => by simp [h d hd]]

theorem signalOrDone_of_answered {s : State} {d : SignalDue} {st : BitVec 8} (hs : s.disp.signals = [d]) (ha : d.answer = some st)
    (h2 : st ≠ 2) (hp : d.posted = false) :
    let u : State := { s with disp := { s.disp with signals := [{ d with posted := true }] } }
    let v := if st = 0 then u else u.errorRecord (((List.range 4).find? s.dieRuns).getD 0) 5 0x0603 2
      (leBytes 2 d.grid.toNat ++ leBytes 2 0 ++ leBytes 4 (s.conf.grid d.grid.toNat).hostTag.toNat ++ leBytes 1 st.toNat)
    exec (.signalOrDone d.grid) s = .next (v.post (s.record 0x02 0 (d.grid.toNat + 2 ^ 16 * s.fab.self.toNat + 2 ^ 32))) := by
  intro u v
  have htry : s.trySignal d.grid = s := State.trySignal_of_none fun e he _ => by
    rw [hs, List.mem_singleton] at he
    rw [he, ha]
    rfl
  have hfind : (s.disp.signals.find? fun e => e.grid == d.grid && e.answer.isSome && e.answer != some 2 && !e.posted) = some d := by
    rw [hs, List.find?_cons_of_pos]
    simp only [ha, hp, BEq.rfl, Option.isSome_some, Bool.not_false, Bool.and_true, Bool.true_and, bne_iff_ne, ne_eq, Option.some.injEq]
    exact h2
  have hmap : (s.disp.signals.map fun (e : SignalDue) => if e.grid == d.grid then { e with posted := true } else e)
      = [{ d with posted := true }] := by
    rw [hs]
    simp
  have hself : v.fab.self = s.fab.self := by
    unfold v
    split <;> simp [u]
  rw [exec_signalOrDone]
  unfold execSignalOrDone
  rw [htry]
  dsimp only
  rw [hfind]
  dsimp only
  have hst : d.answer.getD 0 = st := by
    rw [ha]
    rfl
  rw [hmap, hst]
  have hrec : v.record 0x02 0 (rowPayload d.grid v.fab.self 1)
      = s.record 0x02 0 (d.grid.toNat + 2 ^ 16 * s.fab.self.toNat + 2 ^ 32) := by
    unfold State.record rowPayload
    rw [hself, Nat.mul_one]
  rw [← hrec]
  rfl

end Sys2Proof.Machine

namespace Sys2Proof.Claims

open Sys2Proof.Machine

/-- Settles O43: every row applies the head of the queue when it is its own, and `applyRecord` has an equation for each of its three
outcomes. -/
theorem recordsAreApplied : Obligations.RecordsAreApplied := by
  unfold Obligations.RecordsAreApplied
  intro s e he
  have hexec := exec_recordForm s e he
  refine ⟨fun hq => ?_, fun r rest hq h => ?_, fun r rest hq ha hm => ?_, fun grid => signalOrDone_of_none, fun grid d st hs hg ha h2 hp => ?_⟩
  · rw [hexec, State.applyHead_of_empty hq]
  · rw [hexec, State.applyHead_of_other hq h]
  · intro u t
    refine ⟨by rw [hexec, State.applyHead_of_own hq ha hm], fun hbad => ?_, State.applyRecord_of_graphDiff (s := u), fun hgood hd => ?_⟩
    · obtain ⟨hconf, hmem, hgroups, hlog⟩ : (u.logRecord r).SameLog t := State.sameLog_applyRecord_of_bad hbad
      exact ⟨hconf, hmem, hgroups, fun hl => hlog.trans (if_pos hl)⟩
    · exact State.applyRecord_of_good (s := u) hgood hd
  · subst hg
    exact signalOrDone_of_answered hs ha h2 hp

end Sys2Proof.Claims

/-! PROOFS. What completion records do to the tables, the shares of a queue, and where a grid fits (O44). -/

namespace Sys2Proof.Machine

open Claims

/-! ### Rows of the tables -/

theorem Tables.grid_putGrid (t : Tables) (g k : Nat) (r : GridRow) : (t.putGrid g r).grid k = if k = g then r else t.grid k := by
  unfold Tables.putGrid Tables.grid
  exact Sparse.get_set _ _ _ _ _

@[simp] theorem Tables.grid_putGrid_self (t : Tables) (g : Nat) (r : GridRow) : (t.putGrid g r).grid g = r := by
  simp [Tables.grid_putGrid]

@[simp] theorem Tables.grid_putPlace (t : Tables) (g c k : Nat) (p : PlaceRow) : (t.putPlace g c p).grid k = t.grid k := rfl

@[simp] theorem Tables.grid_addFree (t : Tables) (c k : Nat) (n : Int) : (t.addFree c n).grid k = t.grid k := rfl

@[simp] theorem Tables.place_putGrid (t : Tables) (g k c : Nat) (r : GridRow) : (t.putGrid g r).place k c = t.place k c := rfl

@[simp] theorem Tables.place_putPlace_self (t : Tables) (g c : Nat) (p : PlaceRow) : (t.putPlace g c p).place g c = p := by
  unfold Tables.putPlace Tables.place
  exact Sparse.get_set_self _ _ _ _

theorem Tables.freeGrid_state (t : Tables) (g : Nat) : ((t.freeGrid g).grid g).state = .free := by
  unfold Tables.freeGrid Tables.grid
  rw [Sparse.get_set_self]

/-- A placement row that changes with its chip's free count is a row change. -/
theorem Tables.rowChange_putPlace (t : Tables) (g c : Nat) (p : PlaceRow) (chip : Nat) (n : Int) :
    RowChange t ((t.putPlace g c p).addFree chip n) g c p chip ((t.chip chip).free + BitVec.ofInt 32 n) := by
  refine ⟨rfl, fun k => ?_, fun k => ?_⟩
  · exact Sparse.get_set _ _ _ _ _
  · exact Sparse.get_set _ _ _ _ _

/-! ### The row that a completion record names -/

section
variable {t : Tables} {r : CurRec}

theorem Tables.rowOf_of_placed (hs : (t.grid (namedGrid r)).state = .placed) (hp : (t.place (namedGrid r) (namedChip r)).placed = true)
    (he : (t.place (namedGrid r) (namedChip r)).enacting.setWidth 16 = r.src) : t.rowOf r = some (namedGrid r, namedChip r) :=
  if_pos ⟨hs, hp, he⟩

theorem Tables.rowOf_of_other (h : (t.grid (namedGrid r)).state ≠ .placed ∨ (t.place (namedGrid r) (namedChip r)).placed = false
    ∨ (t.place (namedGrid r) (namedChip r)).enacting.setWidth 16 ≠ r.src) : t.rowOf r = none := by
  refine if_neg fun ⟨hs, hp, he⟩ => ?_
  rcases h with h | h | h
  · exact h hs
  · exact Bool.false_ne_true (h.symm.trans hp)
  · exact h he

/-- A record whose row is not placed, or is another chip's, does nothing. -/
theorem Tables.completions_of_other {succ : W64 → Nat → List Nat} (h : t.rowOf r = none) :
    t.block r = t ∧ t.resume r = t ∧ t.release r = t ∧ t.finishBlocks succ r = t ∧ t.fault succ r = t := by
  unfold Tables.block Tables.resume Tables.release Tables.finishBlocks Tables.fault
  rw [h]
  exact ⟨rfl, rfl, rfl, rfl, rfl⟩

variable {g c : Nat} (h : t.rowOf r = some (g, c))
include h

theorem Tables.block_of_running (hp : (t.place g c).parked.toNat < (t.place g c).count.toNat) (hf : (t.place g c).finished = false) :
    RowChange t (t.block r) g c { t.place g c with parked := (t.place g c).parked + 1 } (t.place g c).enacting.toNat
      ((t.chip (t.place g c).enacting.toNat).free + 1) := by
  unfold Tables.block
  rw [h]
  dsimp only
  rw [if_pos (by simp [BitVec.ult, hp, hf])]
  exact t.rowChange_putPlace g c _ _ 1

theorem Tables.block_of_all_parked (hp : (t.place g c).count.toNat ≤ (t.place g c).parked.toNat ∨ (t.place g c).finished = true) :
    t.block r = t := by
  unfold Tables.block
  rw [h]
  dsimp only
  rw [if_neg (by rcases hp with hp | hp <;> simp [BitVec.ult, hp])]

theorem Tables.resume_of_parked (hp : (t.place g c).parked ≠ 0) :
    RowChange t (t.resume r) g c { t.place g c with parked := (t.place g c).parked - 1 } (t.place g c).enacting.toNat
      ((t.chip (t.place g c).enacting.toNat).free - 1) := by
  unfold Tables.resume
  rw [h]
  dsimp only
  have hsub (n : BitVec 32) : n - 1 = n + BitVec.ofInt 32 (-1) := BitVec.sub_eq_add_neg n 1
  rw [if_pos hp, hsub (t.chip _).free]
  exact t.rowChange_putPlace g c _ _ (-1)

theorem Tables.resume_of_none_parked (hp : (t.place g c).parked = 0) : t.resume r = t := by
  unfold Tables.resume
  rw [h]
  dsimp only
  rw [if_neg (not_not.mpr hp)]

theorem Tables.release_of_released (hp : (t.place g c).released = true) : t.release r = t := by
  unfold Tables.release
  rw [h]
  exact if_pos hp

theorem Tables.release_of_unreleased (hp : (t.place g c).released = false) (hn : (t.grid g).unreleased ≠ 1) :
    (t.release r).place g c = { t.place g c with released := true }
      ∧ (t.release r).grid g = { t.grid g with unreleased := (t.grid g).unreleased - 1 } ∧ (t.release r).chips = t.chips := by
  have hne : (t.grid g).unreleased - 1 ≠ 0 := fun e => hn (by bv_omega)
  unfold Tables.release Tables.releaseRow
  rw [h]
  dsimp only
  rw [if_neg (by simp [hp]), Tables.grid_putPlace, if_neg hne]
  exact ⟨by simp, by simp, rfl⟩

theorem Tables.finishBlocks_of_finished {succ : W64 → Nat → List Nat} (hp : (t.place g c).finished = true) :
    t.finishBlocks succ r = t := by
  unfold Tables.finishBlocks
  rw [h]
  exact if_pos hp

theorem Tables.finishBlocks_of_outstanding {succ : W64 → Nat → List Nat} (hf : (t.place g c).finished = false)
    (hr : (t.place g c).released = true) (hn : (t.grid g).outstanding ≠ 1) :
    ∃ u, RowChange t u g c { t.place g c with finished := true, parked := 0 } (t.place g c).enacting.toNat
        ((t.chip (t.place g c).enacting.toNat).free + ((t.place g c).count - (t.place g c).parked))
      ∧ t.finishBlocks succ r
        = { u with grids := Sparse.set {} t.grids g { t.grid g with outstanding := (t.grid g).outstanding - 1 } } := by
  have hne : (t.grid g).outstanding - 1 ≠ 0 := fun e => hn (by bv_omega)
  refine ⟨(t.putPlace g c { t.place g c with finished := true, parked := 0 }).addFree (t.place g c).enacting.toNat
    (((t.place g c).count.toNat : Int) - (t.place g c).parked.toNat), ?_, ?_⟩
  · have hsub : (t.place g c).count - (t.place g c).parked
        = BitVec.ofInt 32 (((t.place g c).count.toNat : Int) - (t.place g c).parked.toNat) := by
      apply BitVec.eq_of_toNat_eq
      rw [BitVec.toNat_sub, BitVec.toNat_ofInt]
      omega
    rw [hsub]
    exact t.rowChange_putPlace g c _ _ _
  · unfold Tables.finishBlocks
    rw [h]
    dsimp only
    rw [if_neg (by simp [hf]), if_pos hr, Tables.grid_addFree, Tables.grid_putPlace, if_neg hne]
    rfl

end

/-! ### Faults -/

/-- Opening gates clears gated flags alone. -/
theorem Tables.openGates_grid (t : Tables) (g k : Nat) :
    ((t.openGates g).grid k) = { t.grid k with gated := ((t.openGates g).grid k).gated } := by
  unfold Tables.openGates
  generalize (t.grids.filter fun e => e.2.gated && e.2.predecessor.toNat == g) = l
  induction l generalizing t with
  | nil => rfl
  | cons e l ih =>
    rw [List.foldl_cons, ih, Tables.grid_putGrid]
    split
    · next he => rw [he]
    · rfl

/-- The rows that a fault finishes leave the grids. -/
theorem Tables.faultRows_grid (g k : Nat) (l : List (Nat × PlaceRow)) (t : Tables) :
    (l.foldl (fun (t : Tables) e =>
      let t := if e.2.unplaced then t else t.addFree e.2.enacting.toNat ((e.2.count.toNat : Int) - e.2.parked.toNat)
      t.putPlace g e.1 { e.2 with finished := true, parked := 0 }) t).grid k = t.grid k := by
  induction l generalizing t with
  | nil => rfl
  | cons e l ih =>
    rw [List.foldl_cons, ih, Tables.grid_putPlace]
    split <;> rfl

/-- A grid of no graph that completes: freed without a signal, else done and owed. -/
theorem Tables.complete_of_no_node {t : Tables} {succ : W64 → Nat → List Nat} {g : Nat} {f : Bool} {c : BitVec 12}
    (hn : (t.grid g).node = 0xFFFFFFFF) :
    ((t.grid g).signal = 0 → ((t.complete succ g f c).grid g).state = .free)
    ∧ ((t.grid g).signal ≠ 0 → ((t.complete succ g f c).grid g).state = .done ∧ ((t.complete succ g f c).grid g).faulted = f
        ∧ ((t.complete succ g f c).grid g).owed = c) := by
  have hrow := (t.putGrid g { t.grid g with state := .done, faulted := f }).openGates_grid g g
  rw [Tables.grid_putGrid_self] at hrow
  unfold Tables.complete
  dsimp only
  generalize (t.putGrid g { t.grid g with state := .done, faulted := f }).openGates g = u at hrow ⊢
  have hnode : (u.grid g).node = 0xFFFFFFFF := by rw [hrow]; exact hn
  have hsignal : (u.grid g).signal = (t.grid g).signal := by rw [hrow]
  rw [hnode, if_neg (not_not.mpr rfl), hsignal]
  refine ⟨fun hs => ?_, fun hs => ?_⟩
  · rw [if_pos hs]
    exact u.freeGrid_state g
  · rw [if_neg hs, Tables.grid_putGrid_self, hrow]
    exact ⟨rfl, rfl, rfl⟩

theorem Tables.fault_of_row {t : Tables} {r : CurRec} {succ : W64 → Nat → List Nat} {g c : Nat} (h : t.rowOf r = some (g, c))
    (hn : (t.grid g).node = 0xFFFFFFFF) :
    ((t.grid g).signal = 0 → ((t.fault succ r).grid g).state = .free)
    ∧ ((t.grid g).signal ≠ 0 → ((t.fault succ r).grid g).state = .done ∧ ((t.fault succ r).grid g).faulted = true
        ∧ ((t.fault succ r).grid g).owed = r.src.setWidth 12) := by
  unfold Tables.fault Tables.faultGrid
  rw [h]
  dsimp only
  have hgrid := Tables.faultRows_grid g g ((t.rowsOf g).filter fun e => !e.2.finished) t
  rw [← hgrid] at hn ⊢
  exact Tables.complete_of_no_node hn

/-! ### Shares and the end of a signalled grid -/

theorem Tables.share_of_refused {t : Tables} {r : CurRec}
    (h : ((t.queue (bits (recWord r 0) 9 0)).tickets ≠ 0 ∧ (t.queue (bits (recWord r 0) 9 0)).ctx ≠ r.ctx.setWidth 20)
      ∨ ((recWord r 0).extractLsb' 16 16 = 0 ∧ (t.queue (bits (recWord r 0) 9 0)).length ≠ 0)) : t.share r = t := by
  unfold Tables.share
  dsimp only
  split
  · rfl
  · next hne => exact if_pos (h.resolve_left hne)

theorem Tables.share_of_tickets {t : Tables} {r : CurRec}
    (h : (t.queue (bits (recWord r 0) 9 0)).tickets = 0 ∨ (t.queue (bits (recWord r 0) 9 0)).ctx = r.ctx.setWidth 20)
    (hn : (recWord r 0).extractLsb' 16 16 ≠ 0) :
    t.share r = t.putQueue (bits (recWord r 0) 9 0) { t.queue (bits (recWord r 0) 9 0) with
      tickets := (recWord r 0).extractLsb' 16 16
      stride := BitVec.ofNat 32 (2 ^ 24 / ((recWord r 0).extractLsb' 16 16).toNat)
      ctx := r.ctx.setWidth 20 } := by
  unfold Tables.share recCtx
  dsimp only
  rw [if_neg (by rcases h with h | h <;> simp [h]), if_neg (fun e => hn e.1)]
  simp only [if_neg hn]

/-! ### Where a grid fits -/

/-- The origins of a rectangle, in row-major order. -/
def origins (w h : Nat) : List (Nat × Nat) := (List.range (65 - h)).flatMap fun y0 => (List.range (65 - w)).map fun x0 => (x0, y0)

theorem mem_origins {w h : Nat} {o : Nat × Nat} : o ∈ origins w h ↔ o.2 < 65 - h ∧ o.1 < 65 - w := by
  obtain ⟨x, y⟩ := o
  simp [origins]

/-- An origin stands before those of later rows, and before those further right in its row. -/
theorem origins_ordered (w h : Nat) : (origins w h).Pairwise fun a b => a.2 < b.2 ∨ (a.2 = b.2 ∧ a.1 ≤ b.1) := by
  unfold origins
  rw [List.pairwise_flatMap]
  refine ⟨fun y _ => ?_, ?_⟩
  · rw [List.pairwise_map]
    exact List.pairwise_lt_range.imp fun h => .inr ⟨rfl, h.le⟩
  · refine List.pairwise_lt_range.imp fun hlt a ha b hb => .inl ?_
    obtain ⟨x, -, rfl⟩ := List.mem_map.mp ha
    obtain ⟨x', -, rfl⟩ := List.mem_map.mp hb
    exact hlt

theorem Tables.fitsAt_iff (t : Tables) (g : GridRow) (x y : Nat) : t.fitsAt g x y = true ↔ ∀ k < g.width.toNat * g.height.toNat,
    (t.chip (64 * (y + k / g.width.toNat) + (x + k % g.width.toNat))).state = .live
      ∧ (g.cnt k : Int) ≤ (t.chip (64 * (y + k / g.width.toNat) + (x + k % g.width.toNat))).free.toInt := by
  unfold Tables.fitsAt GridRow.chipAt
  simp only [List.all_eq_true, List.mem_range, Bool.and_eq_true, beq_iff_eq, decide_eq_true_eq]

theorem Tables.fit_eq (t : Tables) (g : GridRow) : t.fit g = if t.storeFree < g.width.toNat * g.height.toNat then none
    else (origins g.width.toNat g.height.toNat).find? fun o => t.fitsAt g o.1 o.2 := rfl

/-- Whether an origin leaves the rectangle on the grid of chips and every chip of it has room. -/
def Tables.GoodOrigin (t : Tables) (g : GridRow) (x y : Nat) : Prop :=
  x + g.width.toNat ≤ 64 ∧ y + g.height.toNat ≤ 64 ∧ ∀ k < g.width.toNat * g.height.toNat,
    (t.chip (64 * (y + k / g.width.toNat) + (x + k % g.width.toNat))).state = .live
      ∧ (g.cnt k : Int) ≤ (t.chip (64 * (y + k / g.width.toNat) + (x + k % g.width.toNat))).free.toInt

theorem Tables.goodOrigin_iff (t : Tables) (g : GridRow) (x y : Nat) :
    t.GoodOrigin g x y ↔ (x, y) ∈ origins g.width.toNat g.height.toNat ∧ t.fitsAt g x y = true := by
  unfold Tables.GoodOrigin
  rw [mem_origins, Tables.fitsAt_iff]
  constructor
  · rintro ⟨hx, hy, h⟩
    exact ⟨⟨by omega, by omega⟩, h⟩
  · rintro ⟨⟨hy, hx⟩, h⟩
    dsimp only at hx hy
    exact ⟨by omega, by omega, h⟩

/-- Fit gives the first good origin. -/
theorem Tables.fit_first {t : Tables} {g : GridRow} {x y : Nat} (h : t.fit g = some (x, y)) :
    g.width.toNat * g.height.toNat ≤ t.storeFree ∧ t.GoodOrigin g x y
      ∧ ∀ x' y', t.GoodOrigin g x' y' → y < y' ∨ (y = y' ∧ x ≤ x') := by
  rw [Tables.fit_eq] at h
  split at h
  · cases h
  · next hn =>
    obtain ⟨hfit, before, after, hsplit, hbefore⟩ := List.find?_eq_some_iff_append.mp h
    have hord := origins_ordered g.width.toNat g.height.toNat
    refine ⟨Nat.not_lt.mp hn, (t.goodOrigin_iff g x y).mpr ⟨by rw [hsplit]; simp, hfit⟩, fun x' y' hgood => ?_⟩
    obtain ⟨hmem, hfit'⟩ := (t.goodOrigin_iff g x' y').mp hgood
    rw [hsplit] at hmem hord
    rcases List.mem_append.mp hmem with hmem | hmem
    · have := hbefore _ hmem
      simp [hfit'] at this
    · rcases List.mem_cons.mp hmem with heq | hmem
      · obtain ⟨rfl, rfl⟩ := Prod.mk.inj heq
        exact .inr ⟨rfl, le_rfl⟩
      · exact (List.pairwise_cons.mp (List.pairwise_append.mp hord).2.1).1 _ hmem

theorem Tables.fit_isSome {t : Tables} {g : GridRow} (hn : g.width.toNat * g.height.toNat ≤ t.storeFree)
    (h : ∃ x y, t.GoodOrigin g x y) : (t.fit g).isSome = true := by
  obtain ⟨x, y, hgood⟩ := h
  obtain ⟨hmem, hfit⟩ := (t.goodOrigin_iff g x y).mp hgood
  rw [Tables.fit_eq, if_neg (Nat.not_lt.mpr hn), List.find?_isSome]
  exact ⟨(x, y), hmem, hfit⟩

end Sys2Proof.Machine

namespace Sys2Proof.Claims

open Sys2Proof.Machine

/-- Settles O44: a completion record acts on the row that it names, and Fit is the first of the origins in row-major order. -/
theorem completionsAndShares : Obligations.CompletionsAndShares := by
  unfold Obligations.CompletionsAndShares
  refine ⟨fun t r succ => ?_, fun t r g => ?_⟩
  · intro gr c p row chip free
    refine ⟨fun h => Tables.completions_of_other (Tables.rowOf_of_other h), fun hs hp he => ?_⟩
    have hrow := Tables.rowOf_of_placed hs hp he
    exact ⟨Tables.block_of_running hrow, Tables.block_of_all_parked hrow, Tables.resume_of_parked hrow,
      Tables.resume_of_none_parked hrow, Tables.release_of_released hrow, Tables.release_of_unreleased hrow,
      Tables.finishBlocks_of_finished hrow, Tables.finishBlocks_of_outstanding hrow,
      fun hsig hn => (Tables.fault_of_row hrow hn).1 hsig, fun hsig hn => (Tables.fault_of_row hrow hn).2 hsig⟩
  · intro i q tickets shared
    refine ⟨Tables.share_of_refused, Tables.share_of_tickets, fun hs ho => ?_, fun h => if_neg fun e => ?_, ?_⟩
    · have hfin : t.finishSignal r = t.freeGrid (namedGrid r) := if_pos ⟨hs, ho⟩
      rw [hfin]
      exact t.freeGrid_state (namedGrid r)
    · exact h.elim (fun h => h e.1) fun h => h e.2
    · intro w h good _ _
      exact ⟨fun x y => Tables.fit_first, Tables.fit_isSome⟩

end Sys2Proof.Claims

/-! PROOFS. What an access to memory leaves unchanged: every field but those of memory, the fabric, the host interface and the error
counts, and of each block everything but its lines. -/

namespace Sys2Proof.Machine

/-- A block without its lines. -/
def Block.bare (b : Block) : Block := { b with lines := [] }

/-- `t` is `s` but for memory, what leaves the chip, records of errors and faults, and the lines of blocks. -/
structure State.LineWork (s t : State) : Prop where
  rest : t = { s with
    mem := t.mem
    outbox := t.outbox
    fab := t.fab
    host := t.host
    disp := { s.disp with blocks := t.disp.blocks }
    trust := { s.trust with frames := t.trust.frames }
    fw := { s.fw with unitErrors := t.fw.unitErrors, queue := t.fw.queue } }
  self : t.fab.self = s.fab.self
  bare : ∀ k, (t.block k).map Block.bare = (s.block k).map Block.bare

theorem State.LineWork.refl (s : State) : s.LineWork s := ⟨rfl, rfl, fun _ => rfl⟩

theorem State.LineWork.trans {s t u : State} (h : s.LineWork t) (h' : t.LineWork u) : s.LineWork u :=
  ⟨by rw [h'.rest, h.rest], h'.self.trans h.self, fun k => (h'.bare k).trans (h.bare k)⟩

theorem foldl_lineWork {α : Type} {f : State → α → State} (hf : ∀ (s : State) a, s.LineWork (f s a)) (l : List α) (s : State) :
    s.LineWork (l.foldl f s) := by
  induction l generalizing s with
  | nil => exact .refl s
  | cons a l ih => exact (hf s a).trans (ih (f s a))

/-- A further change of memory alone. -/
theorem State.LineWork.with_mem {s t : State} (h : s.LineWork t) (m : MemState) : s.LineWork { t with mem := m } :=
  h.trans ⟨rfl, rfl, fun _ => rfl⟩

/-- Work on memory that leaves the blocks. -/
theorem State.MemWork.lineWork {s t : State} (h : s.MemWork t) (hf : t.fab.self = s.fab.self) (hb : t.disp.blocks = s.disp.blocks) :
    s.LineWork t := by
  unfold State.MemWork at h
  refine ⟨by rw [h], hf, fun k => ?_⟩
  unfold State.block
  rw [hb]

section
variable {s t : State} (h : s.LineWork t)
include h

theorem State.LineWork.groups : t.groups = s.groups := by rw [h.rest]
theorem State.LineWork.cores : t.cores = s.cores := by rw [h.rest]
theorem State.LineWork.conf : t.conf = s.conf := by rw [h.rest]
theorem State.LineWork.cmds : t.cmds = s.cmds := by rw [h.rest]
theorem State.LineWork.pkg : t.pkg = s.pkg := by rw [h.rest]
theorem State.LineWork.disp : t.disp = { s.disp with blocks := t.disp.blocks } := (congrArg State.disp h.rest :)

/-- A block that stands before the work stands after it, but for its lines. -/
theorem State.LineWork.block_some {k : Nat} {b : Block} (hb : s.block k = some b) :
    ∃ b', t.block k = some b' ∧ b' = { b with lines := b'.lines } := by
  have hbare := h.bare k
  rw [hb] at hbare
  cases ht : t.block k with
  | none =>
    rw [ht] at hbare
    cases hbare
  | some b' =>
    rw [ht] at hbare
    refine ⟨b', rfl, ?_⟩
    have hbare : b'.bare = b.bare := Option.some.inj hbare
    calc b' = { b'.bare with lines := b'.lines } := rfl
      _ = { b.bare with lines := b'.lines } := by rw [hbare]
      _ = { b with lines := b'.lines } := rfl

end

/-- A block that is stored with other lines. -/
theorem State.lineWork_putBlock {s : State} {k : Nat} {b : Block} (hb : s.block k = some b) (l : Sparse (Option StashLine)) :
    s.LineWork (s.putBlock k { b with lines := l }) := by
  refine ⟨rfl, rfl, fun n => ?_⟩
  unfold State.putBlock State.block
  rw [Sparse.get_set]
  split
  · next h => rw [h, show Sparse.get none s.disp.blocks k = some b from hb]; rfl
  · rfl

/-! ### Records of errors and bytes of frames -/

theorem State.lineWork_errorRecord (s : State) (die unit : Nat) (code : BitVec 16) (severity : Nat) (detail : List Byte) :
    s.LineWork (s.errorRecord die unit code severity detail) :=
  (s.memWork_errorRecord die unit code severity detail).lineWork (by simp) (by simp)

theorem State.lineWork_contain (s : State) (die : Nat) (code : BitVec 16) (severity unitKind check unitNum : Nat)
    (frame : Option (BitVec 31)) (sector grid ctx gid : Nat) (pc tstat peer : W64) :
    s.LineWork (s.contain die code severity unitKind check unitNum frame sector grid ctx gid pc tstat peer) := by
  unfold State.contain
  refine .trans ?_ (State.lineWork_errorRecord _ _ _ _ _ _)
  exact ⟨rfl, rfl, fun _ => rfl⟩

theorem State.lineWork_checkStale (s : State) (f : Nat) (hit : Nat → Bool) : s.LineWork (s.checkStale f hit) := by
  have hall : s.LineWork (s.containAll f
      ((s.mem.stale.filter fun e : Nat × Bool => e.2 && e.1 / 2048 == f && hit (e.1 % 2048)).map Prod.fst)) :=
    foldl_lineWork (fun s k => State.lineWork_contain s (f % 128 / 32) 0x0401 2 1 2 (f % 128) (some (BitVec.ofNat 31 f)) (k % 2048)
      0xFFFF 0 0 0 0 0) _ s
  exact hall.with_mem _

theorem State.lineWork_storeForms (s : State) (f : Nat) (offs : List Nat) : s.LineWork (s.storeForms f offs) :=
  ⟨rfl, rfl, fun _ => rfl⟩

theorem State.lineWork_tellHost (s : State) (f : Nat) (offs : List Nat) : s.LineWork (s.tellHost f offs) := by
  unfold State.tellHost
  split
  · exact .refl s
  · exact ⟨rfl, rfl, fun _ => rfl⟩

theorem State.lineWork_writeFrame (s : State) (f : Nat) (w : List (Nat × Byte)) : s.LineWork (s.writeFrame f w) := by
  refine .trans ?_ ((State.lineWork_storeForms _ f (w.map Prod.fst)).trans (State.lineWork_tellHost _ f _))
  exact (s.lineWork_checkStale f fun k =>
    (w.map Prod.fst).any (fun o => o / 32 == k) && !(wholeSectors (w.map Prod.fst)).contains k).with_mem _

theorem State.lineWork_writeLineBack (s : State) (b : Block) (line f off : Nat) : s.LineWork (s.writeLineBack b line f off) :=
  (s.lineWork_writeFrame f _).trans ⟨rfl, rfl, fun _ => rfl⟩

/-! ### Stash copies -/

/-- A block that was found before some work on memory is stored after it, with other lines. -/
theorem State.LineWork.putBlock {s t : State} (h : s.LineWork t) {k : Nat} {b : Block} (hb : s.block k = some b)
    (l : Sparse (Option StashLine)) : s.LineWork (t.putBlock k { b with lines := l }) := by
  obtain ⟨b', ht, hb'⟩ := h.block_some hb
  have heq : { b with lines := l } = { b' with lines := l } := by rw [hb']
  rw [heq]
  exact h.trans (State.lineWork_putBlock ht l)

theorem State.lineWork_recallLine (s : State) (f : Nat) (drop : Bool) (c : Nat × Nat × Nat) : s.LineWork (s.recallLine f drop c) := by
  unfold State.recallLine
  split
  · exact .refl s
  · next b hb =>
    split
    · exact .refl s
    · next l hl =>
      refine State.LineWork.putBlock ?_ hb _
      split
      · exact State.lineWork_writeLineBack _ _ _ _ _
      · exact .refl s

theorem State.lineWork_recall (s : State) (o : BitVec 28) (off n f : Nat) (drop : Bool) (own : Option (Nat × Nat)) :
    s.LineWork (s.recall o off n f drop own) := foldl_lineWork (fun s c => State.lineWork_recallLine s f drop c) _ s

theorem State.lineWork_cacheHost (s : State) (ctx : BitVec 20) (f off n : Nat) : s.LineWork (s.cacheHost ctx f off n) := by
  unfold State.cacheHost
  split
  · exact .refl s
  · exact ⟨rfl, rfl, fun _ => rfl⟩

theorem State.lineWork_reach (s : State) (o : BitVec 28) (off n : Nat) (leaf : W64) (t : ObjEntry) (drop : Bool)
    (own : Option (Nat × Nat)) : s.LineWork (s.reach o off n leaf t drop own) := by
  have h := (s.lineWork_cacheHost t.ctx (leafFrame leaf) off n).trans (State.lineWork_recall _ o off n (leafFrame leaf) drop own)
  unfold State.reach
  dsimp only
  split
  · exact h
  · exact h.trans (State.lineWork_checkStale _ _ _)

/-! ### Denial logs -/

theorem State.lineWork_bindFrame (s : State) (w : W64) (t : ObjEntry) : s.LineWork (s.bindFrame w t) := by
  unfold State.bindFrame
  dsimp only
  split <;> exact ⟨rfl, rfl, fun _ => rfl⟩

theorem State.lineWork_pageWritten (s : State) (t : ObjEntry) (off : Nat) : s.LineWork (s.pageWritten t off) := by
  unfold State.pageWritten
  split
  · exact ⟨rfl, rfl, fun _ => rfl⟩
  · exact .refl s

/-- A write to a page that is then accessed and dirty. -/
theorem State.lineWork_writePage (s : State) (t : ObjEntry) (off : Nat) (w : W64) (l : List (Nat × Byte)) :
    s.LineWork (((s.pageWritten t off).bindFrame w t).writeFrame (leafFrame w) l) :=
  ((s.lineWork_pageWritten t off).trans (State.lineWork_bindFrame _ w t)).trans (State.lineWork_writeFrame _ _ l)

theorem State.lineWork_appendHere (s : State) (log : Cap) (entry : List Byte) : s.LineWork (s.appendHere log entry) := by
  unfold State.appendHere
  dsimp only
  split
  · exact .refl s
  · next w t _ =>
    have hrecall := s.lineWork_recall log.object log.base.toNat 24 (leafFrame w) true none
    generalize s.recall log.object log.base.toNat 24 (leafFrame w) true none = s1 at hrecall ⊢
    split
    · exact hrecall
    · split
      · split
        · exact hrecall
        · next w2 t2 _ =>
          generalize log.base.toNat + 32 + 32 * _ = slot
          have hslot := hrecall.trans (s1.lineWork_recall log.object slot 32 (leafFrame w2) true none)
          generalize s1.recall log.object slot 32 (leafFrame w2) true none = s2 at hslot ⊢
          split
          · exact hslot
          · exact (hslot.trans (State.lineWork_writePage _ _ _ _ _)).trans (State.lineWork_writePage _ _ _ _ _)
      · exact hrecall.trans (State.lineWork_writePage _ _ _ _ _)

theorem State.lineWork_logDenial (s : State) (q : Requester) (o : BitVec 28) (off : Nat) (ptag : BitVec 20) (kind : Nat) :
    s.LineWork (s.logDenial q o off ptag kind) := by
  unfold State.logDenial
  dsimp only
  split
  · exact .refl s
  · split
    · exact s.lineWork_appendHere _ _
    · exact ⟨rfl, rfl, fun _ => rfl⟩

/-! ### Packets -/

/-- Work of the fabric alone. -/
theorem State.LineWork.of_fab {s t : State} (h : t = { s with fab := t.fab, outbox := t.outbox }) (hs : t.fab.self = s.fab.self) :
    s.LineWork t := ⟨by rw [h], hs, fun k => by rw [h]; rfl⟩

theorem State.lineWork_putTx (s : State) (k : PairKey) (w : TxWindow) : s.LineWork (s.putTx k w) := ⟨rfl, rfl, fun _ => rfl⟩

theorem State.lineWork_moveClass (s : State) (die : Nat) (chip : BitVec 12) (old new cls : BitVec 2) :
    s.LineWork (s.moveClass die chip old new cls) := by
  unfold State.moveClass
  dsimp only
  split <;> exact ⟨rfl, rfl, fun _ => rfl⟩

theorem State.lineWork_takePlane (s : State) (die : Nat) (chip : BitVec 12) (new : BitVec 2) : s.LineWork (s.takePlane die chip new) := by
  unfold State.takePlane
  split
  · split
    · exact .refl s
    · exact ((s.lineWork_moveClass die chip _ new 0).trans (State.lineWork_moveClass _ die chip _ new 1)).trans ⟨rfl, rfl, fun _ => rfl⟩
  · exact ⟨rfl, rfl, fun _ => rfl⟩

theorem State.lineWork_emitOn (s : State) (i : Nat) (p : Packet) : s.LineWork (s.emitOn i p) :=
  .of_fab (s.emitOn_eq i p) (s.sameTables_emitOn i p).2.1

theorem State.lineWork_sendNow {s : State} {k : PairKey} {w : TxWindow} {p : Packet} {u : State × TxWindow}
    (h : s.sendNow k w p = some u) : s.LineWork u.1 := by
  unfold State.sendNow at h
  split at h
  · obtain ⟨t, ht, rfl⟩ := Option.map_eq_some_iff.mp h
    obtain ⟨i, -, rfl⟩ := Option.map_eq_some_iff.mp ht
    exact s.lineWork_emitOn i _
  · contradiction

theorem State.lineWork_pump (s : State) (die : Nat) (k : PairKey) (w : TxWindow) (p : Packet) : s.LineWork (s.pump die k w p) := by
  unfold State.pump
  split
  · next t w' h =>
    split at h
    · exact (State.lineWork_sendNow h).trans (State.lineWork_putTx _ _ _)
    · contradiction
  · exact s.lineWork_putTx _ _

theorem State.lineWork_noPlaneRecord (s : State) (die : Nat) (chip : BitVec 12) : s.LineWork (s.noPlaneRecord die chip) := by
  unfold State.noPlaneRecord
  split
  · exact .refl s
  · refine .trans ?_ (State.lineWork_contain _ _ _ _ _ _ _ _ _ _ _ _ _ _ _)
    exact ⟨rfl, rfl, fun _ => rfl⟩

theorem State.lineWork_newTag (s : State) (a : Asker) (k : PairKey) : s.LineWork (s.newTag a k).1 := ⟨rfl, rfl, fun _ => rfl⟩

theorem State.lineWork_ask (s : State) (die : Nat) (a : Asker) (p : Packet) : s.LineWork (s.ask die a p).1 := by
  unfold State.ask
  split
  · exact s.lineWork_noPlaneRecord _ _
  · exact ((s.lineWork_takePlane die p.dst _).trans (State.lineWork_newTag _ _ _)).trans (State.lineWork_pump _ _ _ _ _)

theorem State.lineWork_of_ask {s t : State} {die : Nat} {a : Asker} {p : Packet} {tag : Option (BitVec 16)}
    (h : s.ask die a p = (t, tag)) : s.LineWork t := by
  have hask := s.lineWork_ask die a p
  rw [h] at hask
  exact hask

theorem State.lineWork_askGrant (s : State) (q : Requester) (ptag : BitVec 20) : s.LineWork (s.askGrant q ptag) := by
  unfold State.askGrant
  split
  · exact .refl s
  · dsimp only
    split
    all_goals
      next heq => exact (State.lineWork_of_ask heq).with_mem _

/-! ### Translation -/

theorem State.lineWork_serviceRequest (s : State) (fn die : Nat) (part : BitVec 16) (body : List Byte) :
    s.LineWork (s.serviceRequest fn die part body) := by
  rw [State.serviceRequest_eq]
  exact ⟨rfl, rfl, fun _ => rfl⟩

theorem State.lineWork_reportFault (s : State) (e : FaultEntry) : s.LineWork (s.reportFault e).1 := by
  unfold State.reportFault
  split
  · exact .refl s
  · dsimp only
    split
    · exact s.lineWork_serviceRequest _ _ _ _
    · split
      · exact ⟨rfl, rfl, fun _ => rfl⟩
      · exact .refl s

theorem State.lineWork_reportFaults (s : State) : s.LineWork s.reportFaults := by
  have hfold (l : List FaultEntry) (a : State × List FaultEntry) : a.1.LineWork (l.foldl (fun (a : State × List FaultEntry) e =>
      ((a.1.reportFault e).1, a.2 ++ [(a.1.reportFault e).2])) a).1 := by
    induction l generalizing a with
    | nil => exact .refl a.1
    | cons e l ih => exact (a.1.lineWork_reportFault e).trans (ih ((a.1.reportFault e).1, a.2 ++ [(a.1.reportFault e).2]))
  exact (hfold s.mem.faults (s, [])).with_mem _

theorem State.lineWork_recordFault {s : State} {q : Requester} {o : BitVec 28} {page kind : Nat} {u : State × Bool}
    (h : s.recordFault q o page kind = some u) : s.LineWork u.1 := by
  unfold State.recordFault at h
  dsimp only at h
  split at h
  · split at h
    · cases h
      exact .refl s
    · split at h <;> cases h <;> exact ⟨rfl, rfl, fun _ => rfl⟩
  · split at h
    · cases h
      refine .trans ?_ (State.lineWork_reportFaults _)
      exact ⟨rfl, rfl, fun _ => rfl⟩
    · cases h

theorem State.lineWork_faultOf (s : State) (q : Requester) (o : BitVec 28) (off kind : Nat) : s.LineWork (s.faultOf q o off kind).1 := by
  unfold State.faultOf
  split
  · next heq => exact State.lineWork_recordFault heq
  · exact .refl s

/-- A further change of memory and of the bound frames. -/
theorem State.LineWork.with_frames {s t : State} (h : s.LineWork t) (m : MemState) (l : Sparse FrameMeta) :
    s.LineWork { t with mem := m, trust := { t.trust with frames := l } } := h.trans ⟨rfl, rfl, fun _ => rfl⟩

theorem State.lineWork_copyPage (s : State) (src dst : Nat) : s.LineWork (s.copyPage src dst) := by
  have hstale := s.lineWork_checkStale src fun _ => true
  unfold State.copyPage
  simp only
  split
  · refine .trans ?_ (State.lineWork_tellHost _ _ _)
    split
    · exact hstale.with_frames _ _
    · exact (hstale.with_frames _ _).trans (State.lineWork_storeForms _ _ _)
  · split
    · exact hstale.with_frames _ _
    · exact (hstale.with_frames _ _).trans (State.lineWork_storeForms _ _ _)

theorem State.lineWork_copyOnWrite (s : State) (t : ObjEntry) (o : BitVec 28) (off : Nat) : s.LineWork (s.copyOnWrite t o off).1 := by
  unfold State.copyOnWrite
  split
  · exact .refl s
  · exact .refl s
  · dsimp only
    split
    · refine State.LineWork.with_mem (.trans (.trans ?_ (State.lineWork_recall _ _ _ _ _ _ _)) (State.lineWork_copyPage _ _ _)) _
      exact ⟨rfl, rfl, fun _ => rfl⟩
    · exact .refl s

theorem State.lineWork_findLeaf (s : State) (t : ObjEntry) (o : BitVec 28) (off : Nat) (shadow : Bool) :
    s.LineWork (s.findLeaf t o off shadow).1 := by
  have hcopy := s.lineWork_copyOnWrite t o off
  unfold State.findLeaf
  split
  · split
    · exact .refl s
    · split
      · exact .refl s
      · exact .refl s
      · split <;> next heq => rw [heq] at hcopy; exact hcopy
  · split <;> exact .refl s

theorem State.lineWork_useGrant (s : State) (q : Requester) (ptag : BitVec 20) : s.LineWork (s.useGrant q ptag) := by
  unfold State.useGrant
  split
  · exact .refl s
  · exact ⟨rfl, rfl, fun _ => rfl⟩

theorem State.lineWork_cryptoRecord (s : State) (q : Requester) (o : BitVec 28) (off frame : Nat) (c : CryptoFault) :
    s.LineWork (s.cryptoRecord q o off frame c) := s.lineWork_errorRecord _ _ _ _ _

theorem State.lineWork_ite {α : Type} {s : State} {c : Prop} [Decidable c] {a b : State × α} (ha : s.LineWork a.1)
    (hb : s.LineWork b.1) : s.LineWork (if c then a else b).1 := by
  split
  · exact ha
  · exact hb

theorem State.lineWork_translate (s : State) (q : Requester) (o : BitVec 28) (off : Nat) (writes shadow : Bool) :
    s.LineWork (s.translate q o off writes shadow).1 := by
  have hleaf := s.lineWork_findLeaf (s.objEntry o) o off shadow
  unfold State.translate
  refine State.lineWork_ite (.refl s) (State.lineWork_ite (s.lineWork_faultOf q o off 1) (State.lineWork_ite (.refl s) ?_))
  rcases hfind : s.findLeaf (s.objEntry o) o off shadow with ⟨u, walk, kind⟩
  rw [hfind] at hleaf
  cases walk with
  | missing => exact hleaf.trans (State.lineWork_faultOf _ _ _ _ _)
  | poison => exact hleaf.trans (State.lineWork_errorRecord _ _ _ _ _ _)
  | leaf key w =>
    refine State.lineWork_ite (hleaf.trans (State.lineWork_faultOf _ _ _ _ _)) ?_
    cases hc : u.cryptoFault w (s.objEntry o) with
    | some c => exact hleaf.trans (State.lineWork_cryptoRecord _ _ _ _ _ _)
    | none =>
      have huse := hleaf.trans (u.lineWork_useGrant q (leafPtag w))
      refine State.lineWork_ite (hleaf.trans (State.lineWork_askGrant _ _ _)) (State.lineWork_ite huse (State.lineWork_ite huse
        (State.lineWork_ite (huse.trans (State.lineWork_faultOf _ _ _ _ _)) (State.lineWork_ite huse ?_))))
      cases writes with
      | true => exact (huse.with_mem _).trans (State.lineWork_bindFrame _ _ _)
      | false => exact huse.with_mem _

theorem State.lineWork_of_translate {s t : State} {q : Requester} {o : BitVec 28} {off : Nat} {writes shadow : Bool} {v : Verdict}
    (h : s.translate q o off writes shadow = (t, v)) : s.LineWork t := by
  have ht := s.lineWork_translate q o off writes shadow
  rw [h] at ht
  exact ht

/-! ### Lines of regions, and pages of context objects -/

theorem State.lineWork_flushLine (s : State) (blk line : Nat) (r : Region) (q : Requester) : s.LineWork (s.flushLine blk line r q).1 := by
  unfold State.flushLine
  split
  · exact .refl s
  · next b l hfind =>
    obtain ⟨b', hb, hl⟩ := Option.bind_eq_some_iff.mp hfind
    obtain ⟨l', -, heq⟩ := Option.map_eq_some_iff.mp hl
    obtain ⟨rfl, rfl⟩ := Prod.mk.inj heq
    dsimp only
    split
    · exact .refl s
    · split
      · exact .refl s
      · split
        · next heq => exact (((State.lineWork_of_translate heq).trans (State.lineWork_cacheHost _ _ _ _ _)).trans
            (State.lineWork_writeLineBack _ _ _ _ _)).putBlock hb _
        · next heq => exact ((State.lineWork_of_translate heq).trans (State.lineWork_logDenial _ _ _ _ _ _)).putBlock hb _
        · next heq => exact State.lineWork_of_translate heq
        · next heq => exact (State.lineWork_of_translate heq).putBlock hb _
        · next heq => exact State.lineWork_of_translate heq

theorem State.lineWork_flushRegions (s : State) (blk : Nat) : s.LineWork (s.flushRegions blk).1 := by
  unfold State.flushRegions
  split
  · exact .refl s
  · next b _ =>
    dsimp only
    generalize (b.regions.flatMap fun r => (b.linesOf r).map fun l => (l, r)) = work
    have hfold (l : List (Nat × Region)) (a : State × Bool) : a.1.LineWork (l.foldl (fun (a : State × Bool) e =>
        match a.1.group (((Sparse.get none b.lines e.1).map StashLine.filler).getD 0) with
        | none => a
        | some g => ((a.1.flushLine blk e.1 e.2 (a.1.groupReq (((Sparse.get none b.lines e.1).map StashLine.filler).getD 0) g 2)).1,
          a.2 && (a.1.flushLine blk e.1 e.2 (a.1.groupReq (((Sparse.get none b.lines e.1).map StashLine.filler).getD 0) g 2)).2 == .done))
        a).1 := by
      induction l generalizing a with
      | nil => exact .refl a.1
      | cons e l ih =>
        rw [List.foldl_cons]
        refine .trans ?_ (ih _)
        split
        · exact .refl a.1
        · exact a.1.lineWork_flushLine _ _ _ _
    exact hfold work (s, true)

theorem State.lineWork_takeFrame (s : State) (slice : Nat) : s.LineWork (s.takeFrame slice).1 := by
  unfold State.takeFrame
  dsimp only
  split
  · exact ⟨rfl, rfl, fun _ => rfl⟩
  · split
    · exact .refl s
    · split
      · exact .refl s
      · exact ⟨rfl, rfl, fun _ => rfl⟩

theorem State.lineWork_of_takeFrame {s t : State} {slice : Nat} {f : Option Nat} (h : s.takeFrame slice = (t, f)) : s.LineWork t := by
  have ht := s.lineWork_takeFrame slice
  rw [h] at ht
  exact ht

theorem State.lineWork_mapPage (s : State) (o : BitVec 28) (page : Nat) : s.LineWork (s.mapPage o page).1 := by
  unfold State.mapPage
  dsimp only
  split
  · exact .refl s
  · split
    · next heq => exact State.lineWork_of_takeFrame heq
    · next heq => exact (State.lineWork_of_takeFrame heq).with_mem _

theorem State.lineWork_mapPages (o : BitVec 28) (l : List Nat) (s : State) : s.LineWork (s.mapPages o l).1 := by
  induction l generalizing s with
  | nil => exact .refl s
  | cons p l ih => exact (s.lineWork_mapPage o p).trans (ih (s.mapPage o p).1)

theorem State.lineWork_storeLines (h : Nat) (g : Group) (l : List Nat) (s : State) : s.LineWork (s.storeLines h g l) := by
  induction l generalizing s with
  | nil => exact .refl s
  | cons n l ih =>
    rw [State.storeLines]
    refine .trans ?_ (ih _)
    dsimp only
    split
    · next heq => exact ((State.lineWork_of_translate heq).trans (State.lineWork_reach _ _ _ _ _ _ _ _)).trans (State.lineWork_writeFrame _ _ _)
    · next heq => exact (State.lineWork_of_translate heq).trans (State.lineWork_logDenial _ _ _ _ _ _)
    · next heq => exact State.lineWork_of_translate heq

end Sys2Proof.Machine

/-! PROOFS. Blocks start, sleep and end (O45). -/

namespace Sys2Proof.Machine

open Claims

/-! ### The core of a block -/

/-- One step of the search for the core with the most free slots. -/
def bestStep (free : Nat → Nat) (b : Option Nat) (c : Nat) : Option Nat :=
  match b with
  | none => some c
  | some d => if free d < free c then some c else some d

theorem bestStep_some (free : Nat → Nat) (b : Option Nat) (c : Nat) : ∃ m, bestStep free b c = some m
    ∧ (m = c ∨ b = some m) ∧ free c ≤ free m ∧ ∀ d, b = some d → free d ≤ free m := by
  cases b with
  | none => exact ⟨c, rfl, .inl rfl, le_rfl, by simp⟩
  | some d =>
    unfold bestStep
    dsimp only
    split
    · next h => exact ⟨c, rfl, .inl rfl, le_rfl, fun e he => by cases he; exact h.le⟩
    · next h => exact ⟨d, rfl, .inr rfl, Nat.not_lt.mp h, fun e he => by cases he; exact le_rfl⟩

/-- The search gives an element of the list, and none has more free slots. -/
theorem foldl_bestStep {free : Nat → Nat} {l : List Nat} {b : Option Nat} {m : Nat} (h : l.foldl (bestStep free) b = some m) :
    (m ∈ l ∨ b = some m) ∧ (∀ c ∈ l, free c ≤ free m) ∧ ∀ d, b = some d → free d ≤ free m := by
  induction l generalizing b with
  | nil =>
    subst h
    exact ⟨.inr rfl, by simp, fun d hd => by cases hd; exact le_rfl⟩
  | cons c l ih =>
    obtain ⟨n, hn, hmem, hc, hb⟩ := bestStep_some free b c
    rw [List.foldl_cons] at h
    obtain ⟨hm, hl, hd⟩ := ih h
    have hnm : free n ≤ free m := hd n hn
    refine ⟨?_, ?_, fun d hd => (hb d hd).trans hnm⟩
    · rcases hm with hm | hm
      · exact .inl (List.mem_cons_of_mem _ hm)
      · obtain rfl := Option.some.inj (hn.symm.trans hm)
        rcases hmem with rfl | hmem
        · exact .inl List.mem_cons_self
        · exact .inr hmem
    · intro e he
      rcases List.mem_cons.mp he with rfl | he
      · exact hc.trans hnm
      · exact hl e he

/-- The cores of a partition that a block could take, from the rotation pointer on. -/
def State.fitCores (s : State) (part : BitVec 16) (pages : Nat) : List Nat :=
  ((s.partCores part).filter (fun c => decide (Sparse.get 0 s.disp.rotation part.toNat ≤ c))
    ++ (s.partCores part).filter (fun c => decide (c < Sparse.get 0 s.disp.rotation part.toNat))).filter fun c =>
      decide (0 < 16 - (s.coreBlocks c).length) && decide (pages ≤ (Sparse.get {} s.cores c : Core).freePages)

theorem State.chooseCore_eq (s : State) (part : BitVec 16) (pages : Nat) :
    s.chooseCore part pages = (s.fitCores part pages).foldl (bestStep fun c => 16 - (s.coreBlocks c).length) none := rfl

theorem State.mem_fitCores {s : State} {part : BitVec 16} {pages c : Nat} : c ∈ s.fitCores part pages
    ↔ c ∈ s.partCores part ∧ (s.coreBlocks c).length < 16 ∧ pages ≤ (Sparse.get {} s.cores c : Core).freePages := by
  unfold State.fitCores
  simp only [List.mem_filter, List.mem_append, decide_eq_true_eq, Bool.and_eq_true]
  constructor
  · rintro ⟨h | h, hfree, hpages⟩
    · exact ⟨h.1, by omega, hpages⟩
    · exact ⟨h.1, by omega, hpages⟩
  · rintro ⟨hc, hfree, hpages⟩
    refine ⟨?_, by omega, hpages⟩
    rcases Nat.lt_or_ge c (Sparse.get 0 s.disp.rotation part.toNat) with h | h
    · exact .inr ⟨hc, h⟩
    · exact .inl ⟨hc, h⟩

theorem State.chooseCore_fits {s : State} {part : BitVec 16} {pages core : Nat} (h : s.chooseCore part pages = some core) :
    core ∈ s.fitCores part pages ∧ ∀ c ∈ s.fitCores part pages, (s.coreBlocks core).length ≤ (s.coreBlocks c).length := by
  rw [State.chooseCore_eq] at h
  obtain ⟨hmem, hbest, -⟩ := foldl_bestStep h
  have hcore : core ∈ s.fitCores part pages := hmem.resolve_right (by simp)
  refine ⟨hcore, fun c hc => ?_⟩
  obtain ⟨-, hc16, -⟩ := State.mem_fitCores.mp hc
  obtain ⟨-, hcore16, -⟩ := State.mem_fitCores.mp hcore
  have := hbest c hc
  omega

/-! ### Blocks, pages and queues under small changes -/

@[simp] theorem State.block_putBlock_self (s : State) (k : Nat) (b : Block) : (s.putBlock k b).block k = some b := by
  unfold State.putBlock State.block
  exact Sparse.get_set_self none s.disp.blocks k (some b)

theorem State.block_of_disp {s t : State} (h : t.disp = s.disp) (k : Nat) : t.block k = s.block k := by
  unfold State.block
  rw [h]

/-- An item that was removed is in no queue. -/
theorem State.not_mem_dropItem (s : State) (i : QueueItem) : i ∉ (s.dropItem i).disp.items := by
  unfold State.dropItem
  simp

theorem foldl_disp {α : Type} {f : State → α → State} (hf : ∀ (s : State) a, (f s a).disp = s.disp) (l : List α) (s : State) :
    (l.foldl f s).disp = s.disp := by
  induction l generalizing s with
  | nil => rfl
  | cons a l ih => exact (ih (f s a)).trans (hf s a)

/-! ### A dormant block starts again -/

/-- The state in which the groups of a woken block are queued: its core chosen, its pages taken, and the block stored. -/
def State.woken (s : State) (blk : Nat) (b : Block) (part : BitVec 16) (core : Nat) : State :=
  ((s.rotate part core).pages core fun n => n - b.pages).putBlock blk
    { b with core := core, dormant := false, wakeDue := false, slept := [] }

theorem State.wakeBlock_disp (s : State) (blk : Nat) (b : Block) (part : BitVec 16) (core : Nat) :
    (s.wakeBlock blk b part core).disp = (s.woken blk b part core).disp := by
  refine foldl_disp (fun s h => ?_) b.groups (s.woken blk b part core)
  split
  · rfl
  · split <;> simp

section
variable {s : State} {part : BitVec 16} {item : QueueItem} (hitem : s.headItem part = some item)
include hitem

theorem blockStart_of_dormant {blk : Nat} {b : Block} (hd : item.dormant = some blk) (hb : s.block blk = some b) :
    (s.chooseCore part b.pages = none → exec (.blockStart part) s = .next s)
    ∧ (∀ core, s.chooseCore part b.pages = some core → ∃ t : State, exec (.blockStart part) s = .next t ∧ item ∉ t.disp.items
        ∧ t.block blk = some { b with core := core, dormant := false, wakeDue := false, slept := [] }) := by
  rw [exec_blockStart]
  unfold execBlockStart
  rw [hitem]
  dsimp only
  rw [hd]
  dsimp only
  rw [hb]
  refine ⟨fun hc => ?_, fun core hc => ?_⟩
  · dsimp only
    rw [hc]
  · dsimp only
    rw [hc]
    refine ⟨_, rfl, ?_, ?_⟩
    · rw [State.wakeBlock_disp]
      exact s.not_mem_dropItem item
    · rw [State.block_of_disp (State.wakeBlock_disp _ _ _ _ _)]
      exact State.block_putBlock_self _ _ _

/-- A new block: what its image says decides. -/
theorem blockStart_of_image {s1 : State} {out : ImageSays} (hd : item.dormant = none)
    (hi : s.image (s.conf.grid item.grid.toNat).kernel (s.conf.grid item.grid.toNat).ctx = (s1, out)) :
    (out = .waiting → exec (.blockStart part) s = .next s1)
    ∧ (out = .bad → exec (.blockStart part) s = .next ((s1.dropGridItems item.grid).postFault item.grid item.nominal 8))
    ∧ (∀ k, out = .kernel k →
        (2621440 < k.alloc → exec (.blockStart part) s = .next ((s1.dropGridItems item.grid).postFault item.grid item.nominal 5))
        ∧ (k.alloc ≤ 2621440 → s1.chooseCore part (k.alloc / 4096) = none → exec (.blockStart part) s = .next s1)
        ∧ (k.alloc ≤ 2621440 → ∀ core, s1.chooseCore part (k.alloc / 4096) = some core → exec (.blockStart part) s = .next
            (((s1.dropItem item).discardHost (s.conf.grid item.grid.toNat).ctx).startBlock k (s.conf.grid item.grid.toNat) item part
              core))) := by
  rw [exec_blockStart]
  unfold execBlockStart
  rw [hitem]
  dsimp only
  rw [hd]
  dsimp only
  rw [hi]
  refine ⟨fun ho => ?_, fun ho => ?_, fun k ho => ⟨fun ha => ?_, fun ha hc => ?_, fun ha core hc => ?_⟩⟩
  all_goals subst ho; dsimp only
  · rw [if_pos ha]
  · rw [if_neg (Nat.not_lt.mpr ha), hc]
  · rw [if_neg (Nat.not_lt.mpr ha), hc]

end

/-! ### The groups of a new block -/

/-- A group that is created is in no queue of its core. -/
theorem State.cores_putGroup_of_created {s : State} {h : Nat} {g : Group} (hg : g.state = .created) : (s.putGroup h g).cores = s.cores := by
  have hstate : g.settle.state = .created := by
    have hheld : g.held.state = .created := by rw [Group.held_eq]; exact hg
    unfold Group.settle
    dsimp only
    rw [hheld]
    exact hheld
  unfold State.putGroup State.queueReleased
  dsimp only
  rw [hstate, if_neg (by simp)]

/-- `t` has the cores and the next block number of `s`. -/
def State.Creating (s t : State) : Prop := t.cores = s.cores ∧ t.disp.nextBlock = s.disp.nextBlock

theorem State.Creating.trans {s t u : State} (h : s.Creating t) (h' : t.Creating u) : s.Creating u :=
  ⟨h'.1.trans h.1, h'.2.trans h.2⟩

theorem State.LineWork.creating {s t : State} (h : s.LineWork t) : s.Creating t :=
  ⟨h.cores, by rw [h.disp]⟩

theorem State.creating_putGroup {s : State} {h : Nat} {g : Group} (hg : g.state = .created) : s.Creating (s.putGroup h g) :=
  ⟨State.cores_putGroup_of_created hg, by rw [State.putGroup_disp]⟩

theorem State.creating_createContext (s : State) (die : Nat) {g : Group} (hg : g.state = .created) :
    s.Creating (s.createContext die g).1 := by
  unfold State.createContext
  dsimp only
  split
  · next heq =>
    refine .trans ?_ (State.creating_putGroup hg)
    exact State.Creating.trans ⟨rfl, rfl⟩ (State.lineWork_of_takeFrame heq).creating
  · next heq =>
    refine .trans ?_ (State.creating_putGroup hg)
    refine .trans ?_ ((State.lineWork_mapPages _ _ _).trans (State.lineWork_storeLines _ _ _ _)).creating
    exact State.Creating.trans ⟨rfl, rfl⟩ (State.lineWork_of_takeFrame heq |>.with_mem _).creating

theorem State.freshGroup_state (s : State) (k : Kernel) (ref arg : W64) (ctx : BitVec 20) (block : Nat) (grid : BitVec 16)
    (bid gid : BitVec 32) (nominal : BitVec 12) (core quota : Nat) :
    (s.freshGroup k ref arg ctx block grid bid gid nominal core quota).state = .created := by
  unfold State.freshGroup
  dsimp only
  rw [Group.mapSlices_eq]

theorem State.creating_makeGroups (k : Kernel) (row : GridRow) (item : QueueItem) (blk core : Nat) (l : List Nat) (s : State) :
    s.Creating (s.makeGroups k row item blk core l).1 ∧ (s.makeGroups k row item blk core l).2.length = l.length := by
  induction l generalizing s with
  | nil => exact ⟨⟨rfl, rfl⟩, rfl⟩
  | cons gid l ih =>
    rw [State.makeGroups]
    dsimp only
    generalize hg : s.freshGroup k row.kernel row.argument row.ctx blk item.grid _ _ item.nominal core row.quota.toNat = g
    have hstate : g.state = .created := by
      rw [← hg]
      exact s.freshGroup_state _ _ _ _ _ _ _ _ _ _ _
    obtain ⟨hcreate, hlen⟩ := ih (s.createContext (dieOf core) g).1
    exact ⟨(s.creating_createContext _ hstate).trans hcreate, by rw [List.length_cons, List.length_cons, hlen]⟩

/-- The block that a kernel starts as. -/
def startedBlock (k : Kernel) (item : QueueItem) (part : BitVec 16) (core : Nat) (gs : List Nat) : Block :=
  { grid := item.grid, nominal := item.nominal, number := item.number, core := core, part := part, pages := k.alloc / 4096,
    alloc := k.alloc, barriers := k.barriers, groups := gs, started := true }

theorem State.startBlock_holds (s : State) (k : Kernel) (row : GridRow) (item : QueueItem) (part : BitVec 16) (core : Nat) :
    ∃ gs : List Nat, gs.length = row.groups.toNat ∧ (s.startBlock k row item part core).disp.nextBlock = s.disp.nextBlock + 1
      ∧ (s.startBlock k row item part core).block s.disp.nextBlock = some (startedBlock k item part core gs)
      ∧ (Sparse.get {} (s.startBlock k row item part core).cores core : Core).created = (Sparse.get {} s.cores core : Core).created ++ gs
      ∧ (Sparse.get {} (s.startBlock k row item part core).cores core : Core).freePages
        = (Sparse.get {} s.cores core : Core).freePages - k.alloc / 4096 := by
  unfold State.startBlock
  dsimp only
  generalize hu : ({ (s.rotate part core).pages core (fun n => n - k.alloc / 4096) with disp := _ } : State) = u
  have hcore : (Sparse.get {} u.cores core : Core)
      = { (Sparse.get {} s.cores core : Core) with freePages := (Sparse.get {} s.cores core : Core).freePages - k.alloc / 4096 } := by
    rw [← hu]
    exact Sparse.get_set_self _ _ _ _
  have hnext : u.disp.nextBlock = s.disp.nextBlock + 1 := by rw [← hu]
  obtain ⟨⟨hcores, hblock⟩, hlen⟩ := u.creating_makeGroups k row item s.disp.nextBlock core (List.range row.groups.toNat)
  generalize u.makeGroups k row item s.disp.nextBlock core (List.range row.groups.toNat) = r at hcores hblock hlen ⊢
  refine ⟨r.2, by rw [hlen, List.length_range], hblock.trans hnext,
    r.1.block_putBlock_self s.disp.nextBlock (startedBlock k item part core r.2), ?_, ?_⟩
  · show (Sparse.get {} (Sparse.set {} r.1.cores core _) core : Core).created = _
    rw [Sparse.get_set_self]
    show (Sparse.get {} r.1.cores core : Core).created ++ r.2 = _
    rw [hcores, hcore]
  · show (Sparse.get {} (Sparse.set {} r.1.cores core _) core : Core).freePages = _
    rw [Sparse.get_set_self]
    show (Sparse.get {} r.1.cores core : Core).freePages = _
    rw [hcores, hcore]

/-! ### The end of a block -/

theorem State.returnFrames_disp (l : List Nat) (s : State) : (l.foldl (fun (s : State) f => s.returnFrame f) s).disp = s.disp :=
  foldl_disp (f := fun (s : State) f => s.returnFrame f) (fun _ _ => rfl) l s

theorem State.dropGroup_disp (s : State) (h : Nat) : (s.dropGroup h).disp = s.disp := by
  unfold State.dropGroup
  split
  · rfl
  · unfold State.freeContext
    dsimp only
    split
    · exact State.returnFrames_disp _ _
    · rfl

theorem State.group_dropGroup_self (s : State) (h : Nat) : (s.dropGroup h).group h = none := by
  unfold State.dropGroup
  split
  · next hg => exact hg
  · unfold State.freeContext
    exact Sparse.get_set_self none _ h none

/-- The groups that are dropped are gone. -/
theorem State.group_dropGroups (l : List Nat) (s : State) {h : Nat} (hh : h ∈ l) :
    (l.foldl (fun (s : State) h => s.dropGroup h) s).group h = none := by
  induction l generalizing s with
  | nil => exact absurd hh List.not_mem_nil
  | cons k l ih =>
    rcases List.mem_cons.mp hh with rfl | hl
    · exact (foldl_losing State.losing_dropGroup l (s.dropGroup h)).group h (s.group_dropGroup_self h)
    · exact ih (s.dropGroup k) hl

theorem State.removeBlock_block (s : State) (blk : Nat) (b : Block) : (s.removeBlock blk b).block blk = none := by
  unfold State.removeBlock
  exact Sparse.get_set_self none _ blk none

theorem State.removeBlock_group (s : State) (blk : Nat) (b : Block) {h : Nat} (hh : h ∈ b.groups) : (s.removeBlock blk b).group h = none := by
  have hdrop := State.group_dropGroups b.groups s hh
  unfold State.removeBlock
  dsimp only
  split
  · exact hdrop
  · exact hdrop

theorem State.removeBlock_ended (s : State) (blk : Nat) (b : Block) : (s.removeBlock blk b).disp.ended = s.disp.ended := by
  have hdrop : (b.groups.foldl (fun (s : State) h => s.dropGroup h) s).disp = s.disp := foldl_disp State.dropGroup_disp b.groups s
  unfold State.removeBlock
  dsimp only
  split
  · exact (congrArg Dispatcher.ended hdrop :)
  · exact (congrArg Dispatcher.ended hdrop :)

theorem State.releaseBlock_ended (s : State) (blk : Nat) : (s.releaseBlock blk).disp.ended = s.disp.ended := by
  unfold State.releaseBlock
  split
  · rfl
  · dsimp only
    split <;> rfl

/-- Events of a row leave the groups, the blocks and the counts. -/
theorem State.rowEvents_rest (s : State) (grid : BitVec 16) (nominal : BitVec 12) : (s.rowEvents grid nominal).groups = s.groups
    ∧ (s.rowEvents grid nominal).disp.blocks = s.disp.blocks ∧ (s.rowEvents grid nominal).disp.ended = s.disp.ended := by
  unfold State.rowEvents
  dsimp only
  split
  · split <;> simp
  · split <;> simp

section
variable {s : State} {blk : Nat} {b : Block} (hb : s.block blk = some b)
include hb

/-- Whether every group of a block has executed EXIT. -/
def State.exited (s : State) (b : Block) : Bool := b.groups.all fun h => ((s.group h).map fun g => decide (g.state = .done)).getD false

theorem blockEnd_of_running (h : s.exited b = false ∨ b.started = false ∨ s.blockCommands blk ≠ []) :
    exec (.blockEnd blk) s = .next s := by
  rw [exec_blockEnd]
  unfold execBlockEnd
  rw [hb]
  refine if_pos ?_
  change (!s.exited b || !b.started || s.blockCommands blk != []) = true
  rcases h with h | h | h <;> simp [h]

theorem blockEnd_of_exited (he : s.exited b = true) (hs : b.started = true) (hc : s.blockCommands blk = []) {s1 : State} {ok : Bool}
    (hf : s.flushRegions blk = (s1, ok)) :
    (ok = false → exec (.blockEnd blk) s = .next s1)
    ∧ (ok = true → ∃ t : State, exec (.blockEnd blk) s = .next t ∧ t.block blk = none ∧ (∀ h ∈ b.groups, t.group h = none)
        ∧ Sparse.get 0 t.disp.ended (rowKey b.grid b.nominal) = Sparse.get 0 s1.disp.ended (rowKey b.grid b.nominal) + 1) := by
  have hrun : ¬ (!s.exited b || !b.started || s.blockCommands blk != []) = true := by simp [he, hs, hc]
  rw [exec_blockEnd]
  unfold execBlockEnd
  rw [hb]
  dsimp only
  unfold State.exited at hrun
  rw [if_neg hrun, hf]
  refine ⟨fun ho => by rw [ho], fun ho => ?_⟩
  rw [ho]
  refine ⟨_, rfl, ?_, fun h hh => ?_, ?_⟩
  · obtain ⟨-, hblocks, -⟩ := State.rowEvents_rest { (s1.releaseBlock blk).removeBlock blk b with disp := _ } b.grid b.nominal
    unfold State.block
    rw [hblocks]
    exact State.removeBlock_block (s1.releaseBlock blk) blk b
  · obtain ⟨hgroups, -, -⟩ := State.rowEvents_rest { (s1.releaseBlock blk).removeBlock blk b with disp := _ } b.grid b.nominal
    unfold State.group
    rw [hgroups]
    exact State.removeBlock_group (s1.releaseBlock blk) blk b hh
  · obtain ⟨-, -, hended⟩ := State.rowEvents_rest { (s1.releaseBlock blk).removeBlock blk b with disp := _ } b.grid b.nominal
    rw [hended]
    rw [← State.releaseBlock_ended s1 blk, ← State.removeBlock_ended (s1.releaseBlock blk) blk b]
    dsimp only
    exact Sparse.get_set_self _ _ _ _

/-! ### Dormancy -/

/-- Whether a block has been parked for 10,000 ticks. -/
def State.sleepDue (s : State) (b : Block) : Bool :=
  (b.parkedSince.map fun t => decide (10000 ≤ (s.tickOf (dieOf b.core) - t).toNat)).getD false

/-- Whether a block that is to sleep may be saved now. -/
def State.mayNotSleep (s : State) (b : Block) : Bool :=
  !s.sleepDue b || !s.blockParked b || (s.toSave b).any fun e => !s.commandsLet e.1 e.2

omit hb in
theorem State.mayNotSleep_iff (s : State) (b : Block) : s.mayNotSleep b = true
    ↔ s.sleepDue b = false ∨ s.blockParked b = false ∨ ∃ e ∈ s.toSave b, s.commandsLet e.1 e.2 = false := by
  unfold State.mayNotSleep
  simp only [Bool.or_eq_true, Bool.not_eq_true', List.any_eq_true, or_assoc]

theorem dormancy_of_block : exec (.dormancy blk) s = if s.mayNotSleep b = true then .next s else
    match (s.toSave b).findSome? fun e => s.mayStore e.1 e.2 (s.leaveLines e.1 e.2) with
    | some t => .next t
    | none =>
      match s.flushRegions blk with
      | (s1, false) => .next s1
      | (s1, true) =>
        let b1 := (s1.block blk).getD b
        let t := ((((s.toSave b).foldl (fun (s : State) e => (s.saveGroup e.1 false).1) s1).pages b1.core fun n => n + b1.pages).putBlock blk
          { b1 with dormant := true, wakeDue := false, unapplied := b1.unapplied + 1, slept := (s.toSave b).map Prod.fst,
                    parkedSince := none, lines := [] })
        .next (t.post (t.record 0x03 0 b1.event)) := by
  rw [exec_dormancy]
  unfold execDormancy
  rw [hb]
  unfold State.mayNotSleep State.sleepDue
  dsimp only
  cases hp : b.parkedSince <;> rfl

theorem dormancy_of_not_due (h : s.sleepDue b = false ∨ s.blockParked b = false ∨ ∃ e ∈ s.toSave b, s.commandsLet e.1 e.2 = false) :
    exec (.dormancy blk) s = .next s := by
  rw [dormancy_of_block hb, if_pos ((s.mayNotSleep_iff b).mpr h)]

theorem dormancy_of_due (hd : s.sleepDue b = true) (hp : s.blockParked b = true) (hc : ∀ e ∈ s.toSave b, s.commandsLet e.1 e.2 = true) :
    let fault := (s.toSave b).findSome? fun e => s.mayStore e.1 e.2 (s.leaveLines e.1 e.2)
    (∀ u, fault = some u → exec (.dormancy blk) s = .next u)
    ∧ (fault = none → ∀ s1 ok, s.flushRegions blk = (s1, ok) →
        (ok = false → exec (.dormancy blk) s = .next s1)
        ∧ (ok = true → ∃ t : State,
            exec (.dormancy blk) s = .next (t.post (t.record 0x03 0 (b.grid.toNat + 2 ^ 16 * b.nominal.toNat + 2 ^ 32 * b.number)))
            ∧ ∃ b1, t.block blk = some b1 ∧ b1.dormant = true ∧ b1.wakeDue = false ∧ b1.unapplied = b.unapplied + 1 ∧ b1.lines = []
              ∧ b1.parkedSince = none ∧ b1.groups = b.groups ∧ b1.slept = (s.toSave b).map Prod.fst)) := by
  intro fault
  have hlet : ¬ s.mayNotSleep b = true := by
    rw [State.mayNotSleep_iff]
    rintro (h | h | ⟨e, he, h⟩)
    · simp [hd] at h
    · simp [hp] at h
    · simp [hc e he] at h
  have hexec := dormancy_of_block hb
  rw [if_neg hlet] at hexec
  refine ⟨fun u hu => ?_, fun hn s1 ok hf => ?_⟩
  · rw [hexec, show List.findSome? _ _ = some u from hu]
  · rw [hexec, show List.findSome? _ _ = none from hn, hf]
    refine ⟨fun ho => by rw [ho], fun ho => ?_⟩
    subst ho
    have hwork := s.lineWork_flushRegions blk
    rw [hf] at hwork
    obtain ⟨b1, hb1, heq⟩ := hwork.block_some hb
    dsimp only
    rw [hb1, Option.getD_some]
    have hevent : b1.event = b.grid.toNat + 2 ^ 16 * b.nominal.toNat + 2 ^ 32 * b.number := by rw [heq]; rfl
    rw [hevent]
    refine ⟨_, rfl, _, State.block_putBlock_self _ _ _, rfl, rfl, ?_, rfl, rfl, ?_, rfl⟩
    · rw [heq]
    · rw [heq]

end

end Sys2Proof.Machine

namespace Sys2Proof.Claims

open Sys2Proof.Machine

/-- Settles O45: a block is created with its groups on the core chosen, and what its regions write back changes its lines alone. -/
theorem blocksStartAndEnd : Obligations.BlocksStartAndEnd := by
  unfold Obligations.BlocksStartAndEnd
  refine ⟨fun s part => ⟨fun h => ?_, fun item blk b hitem hd hb => blockStart_of_dormant hitem hd hb, fun item s1 out hitem hd hi => ?_,
    fun pages core h => ?_⟩, fun s blk b hb => ?_⟩
  · rw [exec_blockStart]
    unfold execBlockStart
    rw [h]
  · intro faulted started
    obtain ⟨hwait, hbad, hkernel⟩ := blockStart_of_image hitem hd hi
    refine ⟨hwait, hbad, fun k hk => ?_⟩
    obtain ⟨hlarge, hnone, hstart⟩ := hkernel k hk
    refine ⟨hlarge, hnone, fun ha core hc => ?_⟩
    obtain ⟨gs, hlen, hnext, hblock, hcreated, hpages⟩ :=
      ((s1.dropItem item).discardHost (s.conf.grid item.grid.toNat).ctx).startBlock_holds k (s.conf.grid item.grid.toNat) item part core
    exact ⟨_, gs, hstart ha core hc, hlen, hnext, hblock, hcreated, hpages⟩
  · intro fits
    obtain ⟨hcore, hbest⟩ := State.chooseCore_fits h
    exact ⟨State.mem_fitCores.mp hcore, fun c hc => hbest c (State.mem_fitCores.mpr hc)⟩
  · intro exited due
    exact ⟨blockEnd_of_running hb, fun he hs hc s1 ok hf => blockEnd_of_exited hb he hs hc hf, dormancy_of_not_due hb,
      dormancy_of_due hb⟩

end Sys2Proof.Claims

/-! PROOFS. Task groups (O46): a refused record leaves room in the queue of its core. -/

namespace Sys2Proof.Machine

/-- A record of a kernel reference that is no multiple of 64 bytes. -/
def crookedTask : TaskRec := { kernel := 1, ctx := 0, cap := {}, offset := 0, args := [], tick := 0 }

/-- A core whose task queue holds that record alone, and a port in training that has buffered a READ. -/
def bufferedChip : State :=
  { State.reset with
    cores := [(0, { taskQueue := [crookedTask] })]
    fab := { State.reset.fab with ports := [(0, { state := .training, buffer := [{ Packet.zero with opcode := 1 }] })] } }

/-- How many happenings follow from a step. -/
def following : Res → Nat
  | .next s => s.agenda.length
  | _ => 0

theorem image_crookedTask : bufferedChip.image crookedTask.kernel crookedTask.ctx = (bufferedChip, .bad) := by
  unfold State.image
  exact if_pos (by decide)

theorem formTask_crookedTask : bufferedChip.formTask 0 [crookedTask] = bufferedChip.refuseTask 0 crookedTask := by
  rw [State.formTask, image_crookedTask]

/-- The queue of the core is shorter after the refusal, so ports hand over what there is room for. -/
theorem taskGroupTimeout_bufferedChip :
    exec (.taskGroupTimeout 0) bufferedChip = .next (bufferedChip.refuseTask 0 crookedTask).releaseAll := by
  have hqueue : firstJoining (Sparse.get {} bufferedChip.cores 0 : Core).taskQueue = [crookedTask] := by decide
  rw [exec_taskGroupTimeout]
  unfold execTaskGroupTimeout
  dsimp only
  rw [hqueue, formTask_crookedTask, if_pos (by decide)]

theorem following_releaseAll : following (.next (bufferedChip.refuseTask 0 crookedTask).releaseAll) = 1 := by
  decide

theorem following_refuseTask : following (.next (bufferedChip.refuseTask 0 crookedTask)) = 0 := by
  decide

end Sys2Proof.Machine

namespace Sys2Proof.Claims

open Sys2Proof.Machine

/-- Refutes O46: a refused record leaves its core's task queue shorter, so `execTaskGroupTimeout` also releases what waited for room
(`releaseAll`), while the statement gives the state after the refusal alone. In `bufferedChip` a port has buffered a READ, which the
step hands over. -/
theorem not_groupsFormAndFill : ¬ Obligations.GroupsFormAndFill := by
  unfold Obligations.GroupsFormAndFill
  rintro ⟨htasks, -⟩
  obtain ⟨-, hforms⟩ := htasks bufferedChip 0
  obtain ⟨-, hbad, -⟩ := hforms crookedTask [] bufferedChip .bad rfl (by simp) image_crookedTask rfl
  have hcount := congrArg following (hbad rfl)
  rw [taskGroupTimeout_bufferedChip, following_releaseAll, following_refuseTask] at hcount
  exact absurd hcount (by decide)

end Sys2Proof.Claims

/-! PROOFS. Parks and page faults that end (O47). -/

namespace Sys2Proof.Machine

open Claims

/-! ### Slices that become ready -/

theorem Group.live_nodup (g : Group) : g.live.Nodup := List.nodup_range.filter _

/-- Slices of a group that become ready, when its other fields may have changed. -/
theorem Group.readied_mapSlices (g u : Group) (hu : u.slices = g.slices) {l : List Nat} (hl : l.Nodup) :
    Readied g (u.mapSlices (fun _ sl => sl.ready) l) l := by
  intro i
  have hslice : u.slice i = g.slice i := by
    unfold Group.slice
    rw [hu]
  rw [Group.slice_mapSlices _ _ _ _ hl, hslice]
  rfl

/-! ### Results and pending traps -/

section
variable {s : State} {grp : Nat} {g : Group} (hg : s.group grp = some g)
include hg

theorem resultWrite_of_no_switch (hn : (g.live.find? fun i => (g.slice i).park == .switchPoint) = none) :
    (g.pending = [] → exec (.resultWrite grp) s = .next s)
    ∧ (∀ p ps, g.pending = p :: ps → p.smx = [] →
        exec (.resultWrite grp) s = .next (s.putGroup grp (({ g with pending := ps } : Group).applyPending p)))
    ∧ (∀ p ps, g.pending = p :: ps → p.smx ≠ [] → exec (.resultWrite grp) s = .next s) := by
  rw [exec_resultWrite]
  unfold execResultWrite
  rw [hg]
  dsimp only
  rw [hn]
  dsimp only
  refine ⟨fun hp => ?_, fun p ps hp hs => ?_, fun p ps hp hs => ?_⟩
  · rw [hp]
  · rw [hp]
    exact congrArg Host.Outcome.next (if_pos hs)
  · rw [hp]
    exact congrArg Host.Outcome.next (if_neg hs)

/-- The park at a switch point of a gang ends. -/
def Group.endSwitch (g : Group) (gang : List Nat) : Group :=
  g.mapSlices (fun _ sl => if sl.park = .switchPoint then sl.ready else sl) gang

theorem resultWrite_of_switch {i : Nat} (hi : (g.live.find? fun i => (g.slice i).park == .switchPoint) = some i) :
    exec (.resultWrite grp) s = .next (if g.hasPending (g.gang (g.slice i).gang) then s.drainGang grp i
      else s.putGroup grp (g.endSwitch (g.gang (g.slice i).gang))) := by
  rw [exec_resultWrite]
  unfold execResultWrite
  rw [hg]
  dsimp only
  rw [hi]
  rfl

/-- A gang without an SMX among its results writes them all. -/
theorem State.drainGang_of_pending {i : Nat} (hp : g.hasPending (g.gang i) = true) (hs : g.smxOf (g.gang i) = []) :
    s.drainGang grp i = s.putGroup grp ((g.flush (g.gang i)).endSwitch (g.gang i)) := by
  unfold State.drainGang
  rw [hg]
  dsimp only
  rw [if_neg (by simp [hp]), if_pos hs]
  rfl

theorem trapDelivery_of_none (h : g.handling = true ∨ g.nextTrap = none) : exec (.trapDelivery grp) s = .next s := by
  rw [exec_trapDelivery]
  unfold execTrapDelivery State.deliverPending
  rw [hg]
  dsimp only
  split
  · rfl
  · next hn =>
    rw [h.resolve_left (by simpa using hn)]

theorem trapDelivery_of_trap (h : g.handling = false) {sl : List Nat} (ht : g.nextTrap = some sl) :
    exec (.trapDelivery grp) s = .next (s.deliver grp g sl (g.parkedTrap sl)) := by
  rw [exec_trapDelivery]
  unfold execTrapDelivery State.deliverPending
  rw [hg]
  dsimp only
  rw [if_neg (by simp [h]), ht]

/-! ### Quiescence -/

theorem quiescenceRelease_of_not_due {j : Nat} (h : j < 116 ∨ 123 < j ∨ s.releaseDue g j = false) :
    exec (.quiescenceRelease grp j) s = .next s := by
  rw [exec_quiescenceRelease]
  unfold execQuiescenceRelease
  rw [hg]
  refine congrArg Host.Outcome.next (if_neg ?_)
  rcases h with h | h | h
  · simp [Nat.not_le.mpr h]
  · simp [Nat.not_le.mpr h]
  · simp [h]

theorem quiescenceRelease_of_due {j : Nat} (h1 : 116 ≤ j) (h2 : j ≤ 123) (hst : g.state = .resident ∨ g.state = .idle)
    (hd : s.releaseDue g j = true) : exec (.quiescenceRelease grp j) s = .next (s.putGroup grp (g.releaseJoin j)) := by
  rw [exec_quiescenceRelease]
  unfold execQuiescenceRelease
  rw [hg]
  refine congrArg Host.Outcome.next (if_pos ?_)
  rcases hst with hst | hst <;> simp [h1, h2, hst, hd]

omit hg in
theorem Group.rs_releaseJoin (g : Group) {j : Nat} (hj : j ≠ 0) (r : Nat) : (g.releaseJoin j).rs r
    = if r = j then (g.rs j &&& 0x7FFF000000000000) ||| 0x8000000000000000 ||| (rejoinA (g.rs j)).setWidth 64 else g.rs r :=
  (Group.rs_of_s_eq (Group.mapSlices_s _ _ _) r).trans (Group.rs_set g hj _ _ r)

omit hg in
theorem Group.slice_releaseJoin (g : Group) (j i : Nat) : (g.releaseJoin j).slice i
    = if i ∈ g.arrivals j then { (g.slice i).ready with pc := (g.slice i).pc + 4 } else g.slice i :=
  Group.slice_mapSlices _ _ _ _ (g.live_nodup.filter _)

/-! ### WAIT and SLEEP -/

theorem wait_of_none {i : Nat} (h : g.waitOf i = none) :
    exec (.waitReread grp i) s = .next s ∧ exec (.waitDeadline grp i) s = .next s := by
  rw [exec_waitReread, exec_waitDeadline]
  unfold execWaitReread execWaitDeadline State.reread
  rw [hg]
  dsimp only
  rw [h]
  exact ⟨rfl, rfl⟩

theorem waitDeadline_of_wait {i : Nat} {r : WaitRec} (h : g.waitOf i = some r) :
    exec (.waitDeadline grp i) s = if s.waitOver g r = true then exec (.waitReread grp i) s else .next s := by
  rw [exec_waitReread, exec_waitDeadline]
  unfold execWaitReread execWaitDeadline
  rw [hg]
  dsimp only
  rw [h]
  dsimp only
  split <;> rfl

/-- The lane request by which the word of a wait is read again. -/
def Group.waitLane (g : Group) (r : WaitRec) : LaneReq :=
  { lane := g.lowest r.slices, cap := r.cap, off := r.offset, size := r.size }

/-- The pieces of that read, and what it makes of the state. -/
def State.rereadWord (s : State) (grp : Nat) (g : Group) (r : WaitRec) : State × List Piece × Bool :=
  s.access grp { g with grant := r.grant } .waitRead (if r.logged then 7 else 0) r.scope false (splitLane (g.waitLane r))

theorem waitReread_of_answered {i : Nat} {r : WaitRec} (h : g.waitOf i = some r) (hp : (g.slice i).park = .wait)
    (hm : ∀ o ∈ g.memOps, o.slices ≠ r.slices) (ha : ∀ p ∈ (s.rereadWord grp g r).2.1, p.status ≠ 0xFF) :
    exec (.waitReread grp i) s = .next ((s.rereadWord grp g r).1.rereadDone grp
      { slices := r.slices, pc := (g.slice i).pc, y := false, kind := .waitRead, size := r.size, dst := r.dest, args := []
        pieces := (s.rereadWord grp g r).2.1 } (s.rereadWord grp g r).2.2) := by
  have hpark : ¬ ((g.slice i).park ≠ .wait ∨ (g.memOps.any fun o => o.slices == r.slices) = true) := by
    rw [not_or, not_not, List.any_eq_true]
    exact ⟨hp, fun ⟨o, ho, he⟩ => hm o ho (beq_iff_eq.mp he)⟩
  have hdone : ¬ ((s.rereadWord grp g r).2.1.any fun p => p.status == 0xFF) = true := by
    rw [List.any_eq_true]
    exact fun ⟨p, hmem, he⟩ => ha p hmem (beq_iff_eq.mp he)
  rw [exec_waitReread]
  unfold execWaitReread State.reread
  rw [hg]
  dsimp only
  rw [h]
  dsimp only
  rw [if_neg hpark]
  exact congrArg Host.Outcome.next (if_neg hdone)

theorem sleepDeadline_of_group {i : Nat} : exec (.sleepDeadline grp i) s
    = .next (if (g.slice i).park = .sleep ∧ (g.slice i).deadline.toNat ≤ (s.tickOf (dieOf g.core)).toNat then
      s.putGroup grp (g.mapSlices (fun _ r => r.ready) ((g.gang (g.slice i).gang).filter fun k => (g.slice k).park == .sleep)) else s) := by
  rw [exec_sleepDeadline]
  unfold execSleepDeadline
  rw [hg]

end

/-! ### Page faults -/

section
variable {s : State} {o : BitVec 28} {page kind core : Nat}

theorem State.serveShadow_of_kind {e : FaultEntry} (h : e.kind ≠ 4) : s.serveShadow e = s := by
  unfold State.serveShadow
  exact if_pos (.inl h)

/-- An entry that is found has the kind asked for. -/
theorem State.kind_of_faultEntry {e : FaultEntry} (h : s.faultEntry o page kind = some e) : e.kind = kind := by
  have := List.find?_some h
  simp only [Bool.and_eq_true, beq_iff_eq] at this
  exact this.2

theorem pageFaultWake_here : exec (.pageFaultWake ⟨s.fab.self, o⟩ page ⟨kind, core⟩) s = .next (match s.faultEntry o page kind with
    | some e => if (s.serveShadow e).faultServed e then (s.serveShadow e).endFault e false else s
    | none => s) := by
  rw [exec_pageFaultWake]
  unfold execPageFaultWake
  exact congrArg Host.Outcome.next (if_neg (not_not.mpr rfl))

theorem pageFaultRefusal_here : exec (.pageFaultRefusal ⟨s.fab.self, o⟩ page ⟨kind, core⟩) s
    = .next (match s.faultEntry o page kind with
      | some e => if e.reported then s.endFault e true else s
      | none => s) := by
  rw [exec_pageFaultRefusal]
  unfold execPageFaultRefusal
  exact congrArg Host.Outcome.next (if_neg (not_not.mpr rfl))

theorem pageFault_of_other_home {home : BitVec 12} (h : home ≠ s.fab.self) :
    exec (.pageFaultWake ⟨home, o⟩ page ⟨kind, core⟩) s = .next (s.wakePage (s.pagePlace home o page) kind core false)
    ∧ exec (.pageFaultRefusal ⟨home, o⟩ page ⟨kind, core⟩) s = .next (s.wakePage (s.pagePlace home o page) kind core true) := by
  rw [exec_pageFaultWake, exec_pageFaultRefusal]
  unfold execPageFaultWake execPageFaultRefusal
  exact ⟨congrArg Host.Outcome.next (if_pos h), congrArg Host.Outcome.next (if_pos h)⟩

end

section
variable {s : State} {grp : Nat} {g : Group} (hg : s.group grp = some g)
include hg

variable {place : BitVec 28 × Nat} {kind core : Nat} {refused : Bool}

theorem State.wakeFaulted_of_other (h : g.core ≠ core ∨ g.waitsOn place kind = false) : s.wakeFaulted place kind core refused grp = s := by
  unfold State.wakeFaulted
  rw [hg]
  exact if_pos (by rcases h with h | h <;> simp [h])

theorem State.wakeFaulted_of_context (hc : g.core = core) (hw : g.waitsOn place kind = true) (hf : g.ctxFault = true) :
    s.wakeFaulted place kind core refused grp = if refused then s else s.putGroup grp g.endContextFault := by
  unfold State.wakeFaulted
  rw [hg]
  dsimp only
  rw [if_neg (by simp [hc, hw]), if_pos hf]

/-- What a group keeps once the page that it waited for is there, or refused. -/
def Group.faultEnded (g : Group) (place : BitVec 28 × Nat) (refused : Bool) : Group :=
  { g with faultedOn := [], faultKinds := [], noWake := false, noWakeAt := 0
           refusedOn := if refused then place :: g.refusedOn else g.refusedOn
           refusedFor := if refused then g.faultSlices else g.refusedFor }

theorem State.wakeFaulted_of_page (hc : g.core = core) (hw : g.waitsOn place kind = true) (hf : g.ctxFault = false) :
    s.wakeFaulted place kind core refused grp = s.putGroup grp ((g.faultEnded place refused).mapSlices (fun _ sl => sl.ready)
      (g.live.filter fun i => (g.slice i).park == .pageFault)) := by
  unfold State.wakeFaulted
  rw [hg]
  dsimp only
  rw [if_neg (by simp [hc, hw]), if_neg (by simp [hf])]
  rfl

/-- Without commands, the replay of requesters marked no wake is that of the group. -/
theorem noWakeReplay_of_no_commands (hc : s.cmds = []) : exec (.noWakeReplay grp) s
    = if !g.noWake || decide ((s.tickOf (dieOf g.core)).toNat < g.noWakeAt.toNat) then .next s
      else if g.ctxFault then .next (s.putGroup grp g.endContextFault)
      else .next (s.putGroup grp (({ g with faultedOn := [], noWake := false, noWakeAt := 0 } : Group).mapSlices
        (fun _ sl => sl.ready) (g.live.filter fun i => (g.slice i).park == .pageFault))) := by
  have hs (f : Nat × Option Command → Nat × Option Command) : ({ s with cmds := s.cmds.map f } : State) = s := by
    rw [hc, List.map_nil, ← hc]
  rw [exec_noWakeReplay]
  unfold execNoWakeReplay
  dsimp only
  rw [hs, hg]

theorem noWakeReplay_hold (hc : s.cmds = []) :
    let due := decide (g.noWakeAt.toNat ≤ (s.tickOf (dieOf g.core)).toNat)
    (g.noWake = false ∨ due = false → exec (.noWakeReplay grp) s = .next s)
    ∧ (g.noWake = true → due = true → g.ctxFault = true → exec (.noWakeReplay grp) s = .next (s.putGroup grp g.endContextFault))
    ∧ (g.noWake = true → due = true → g.ctxFault = false → ∃ g' : Group, exec (.noWakeReplay grp) s = .next (s.putGroup grp g')
        ∧ g' = { g with faultedOn := [], noWake := false, noWakeAt := 0, slices := g'.slices }
        ∧ Readied g g' (g.live.filter fun i => (g.slice i).park == .pageFault)) := by
  intro due
  rw [noWakeReplay_of_no_commands hg hc]
  refine ⟨fun h => if_pos ?_, fun hn hd hf => ?_, fun hn hd hf => ?_⟩
  · rcases h with h | h
    · simp [h]
    · have hlt : (s.tickOf (dieOf g.core)).toNat < g.noWakeAt.toNat := by simpa [due] using h
      simp [hlt]
  · rw [if_neg (by simpa [hn, due] using hd), if_pos hf]
  · rw [if_neg (by simpa [hn, due] using hd), if_neg (by simp [hf])]
    refine ⟨_, rfl, ?_, Group.readied_mapSlices g _ (by rfl) (g.live_nodup.filter _)⟩
    rw [Group.mapSlices_eq]

end

end Sys2Proof.Machine

namespace Sys2Proof.Claims

open Sys2Proof.Machine

/-- The parks of one group, in the words of the statement. -/
theorem parksEnd_hold {s : State} {grp : Nat} {g : Group} (hg : s.group grp = some g) (i : Nat)
    (hi : (g.live.find? fun i => (g.slice i).park == .switchPoint) = some i) :
    let gang := g.gang (g.slice i).gang
    let go (u : Group) : Group := u.mapSlices (fun _ sl => if sl.park = .switchPoint then sl.ready else sl) gang
    (g.hasPending gang = false → exec (.resultWrite grp) s = .next (s.putGroup grp (go g)))
    ∧ (g.gang i = gang → g.hasPending gang = true → g.smxOf gang = [] →
        exec (.resultWrite grp) s = .next (s.putGroup grp (go (g.flush gang)))) := by
  intro gang go
  rw [resultWrite_of_switch hg hi]
  refine ⟨fun hp => ?_, fun he hp hs => ?_⟩
  · rw [if_neg (by simpa [gang] using hp)]
    rfl
  · rw [if_pos hp, State.drainGang_of_pending hg (by rw [he]; exact hp) (by rw [he]; exact hs), he]
    rfl

/-- The wake of a page fault at one group, in the words of the statement. -/
theorem wakeFaulted_hold {s : State} {grp : Nat} {g : Group} (hg : s.group grp = some g) {place : BitVec 28 × Nat} {kind core : Nat}
    (refused : Bool) (hc : g.core = core) (hw : g.waitsOn place kind = true) (hf : g.ctxFault = false) :
    ∃ g' : Group, s.wakeFaulted place kind core refused grp = s.putGroup grp g' ∧ g'.faultedOn = [] ∧ g'.noWake = false
      ∧ (refused = true → place ∈ g'.refusedOn ∧ g'.refusedFor = g.faultSlices) ∧ (refused = false → g'.refusedOn = g.refusedOn)
      ∧ Readied g g' (g.live.filter fun i => (g.slice i).park == .pageFault) := by
  refine ⟨_, State.wakeFaulted_of_page hg hc hw hf, ?_, ?_, fun hr => ?_, fun hr => ?_, Group.readied_mapSlices g _ (by rfl) (g.live_nodup.filter _)⟩
  all_goals rw [Group.mapSlices_eq]
  · rfl
  · rfl
  · subst hr
    exact ⟨List.mem_cons_self, rfl⟩
  · subst hr
    rfl

/-- Settles O47: each park that ends makes its slices ready, and a page fault reaches those that wait at the core that it names. -/
theorem parksAndFaultsEnd : Obligations.ParksAndFaultsEnd := by
  unfold Obligations.ParksAndFaultsEnd
  refine ⟨fun s grp g hg => ⟨resultWrite_of_no_switch hg, parksEnd_hold hg, trapDelivery_of_none hg, fun h sl ht => trapDelivery_of_trap hg h ht,
    fun j => quiescenceRelease_of_not_due hg, fun j h1 h2 hst hd => ⟨_, quiescenceRelease_of_due hg h1 h2 hst hd,
      Group.rs_releaseJoin g (by omega), Group.slice_releaseJoin g j⟩, fun i => wait_of_none hg, fun i r h hw => ?_, fun i r h hw => ?_,
    fun i r h hp hm => ?_, fun i => ?_⟩, fun s o page kind grp core home => ?_⟩
  · rw [waitDeadline_of_wait hg h, if_neg (by simp [hw])]
  · rw [waitDeadline_of_wait hg h, if_pos hw]
  · intro a q op ha
    exact waitReread_of_answered hg h hp hm ha
  · intro sl
    rw [sleepDeadline_of_group hg]
    refine ⟨fun h => congrArg Host.Outcome.next (if_neg fun hh => ?_), fun hp hd => ?_⟩
    · rcases h with h | h
      · exact h hh.1
      · exact Nat.not_lt.mpr hh.2 h
    · rw [if_pos ⟨hp, hd⟩]
      exact ⟨_, rfl, Group.mapSlices_eq _ _ _, Group.readied_mapSlices g _ (by rfl) ((g.gang_nodup _).filter _)⟩
  · intro here place
    refine ⟨fun e he => ?_, fun hn => ?_, pageFault_of_other_home, fun refused g hg hc hw => ⟨wakeFaulted_hold hg refused hc hw,
      State.wakeFaulted_of_context hg hc hw⟩, fun refused g hg h => State.wakeFaulted_of_other hg h, fun hc g hg => noWakeReplay_hold hg hc⟩
    · rw [pageFaultWake_here, pageFaultRefusal_here, he]
      exact ⟨fun hk => State.serveShadow_of_kind (by rw [State.kind_of_faultEntry he]; exact hk), rfl, rfl⟩
    · rw [pageFaultWake_here, pageFaultRefusal_here, hn]
      exact ⟨rfl, rfl⟩

end Sys2Proof.Claims

/-! PROOFS. Restores (O48): the lines of a header are checked before its seal. -/

namespace Sys2Proof.Machine

/-- The header of a sealed, uncompressed image that names no context line, while every group has some. -/
def linelessHead : ImageHead :=
  { ctx := 0, sealed := true, compressed := false, withStash := false, counter := 0, object := 1, chip := 0, length := 80,
    lines := 0, stashBytes := 0 }

/-- A restore of group 1 from byte 0 of the host's memory. -/
def hostRestore : SaveOp :=
  { op := 1, die := 0, group := 1, compressed := false, stash := false, restore := true, stay := false, place := 1#64 <<< 63,
    asked := none, retryAt := none }

/-- A saved group of context 0. -/
def savedGroup : Group := { state := .saved }

/-- A chip on which that restore waits: context 0 is protected, no seal is recorded, and the host's memory starts with the
header. -/
def restoringChip : State :=
  { State.reset with
    groups := [(1, savedGroup)]
    trust := { State.reset.trust with ctxs := [(0, { prot := true })], seals := [] }
    fw := { State.reset.fw with saves := [hostRestore], queue := [] }
    fab := { State.reset.fab with self := 0 }
    host := { State.reset.host with memory := (List.range 64).map fun i => (i, linelessHead.bytes.getD i 0) } }

theorem parseHead_restoringChip :
    parseHead (restoringChip.placeBytes hostRestore.die hostRestore.place 64) = some linelessHead := by
  decide

theorem linelessHead_not_fits (alloc : Nat) : linelessHead.fits savedGroup alloc = false := by
  have hlines : (linelessHead.lines == savedGroup.ctxLines) = false := by decide
  simp [ImageHead.fits, hlines, show linelessHead.compressed = false from rfl]

/-- The first row of R166's checks refuses the image. -/
theorem restoreDone_restoringChip :
    exec (.restoreDone 1) restoringChip = .next (restoringChip.refuseImage hostRestore savedGroup 0x0901) := by
  have hop : restoringChip.saveOp 1 = some hostRestore := by decide
  have hgroup : restoringChip.group hostRestore.group = some savedGroup := by decide
  rw [exec_restoreDone]
  unfold execRestoreDone
  rw [hop]
  dsimp only
  rw [if_neg (by decide), hgroup]
  dsimp only
  rw [if_neg (by decide), if_neg (by decide), parseHead_restoringChip]
  dsimp only
  rw [if_pos (by simp [linelessHead_not_fits])]

/-- A refusal completes with the low byte of its code. -/
theorem State.fwQueue_refuseImage (s : State) (o : SaveOp) (g : Group) (code : BitVec 16) :
    ∃ e : FwEntry, (s.refuseImage o g code).fwQueue o.die = s.fwQueue o.die ++ [e]
      ∧ e.status = BitVec.ofNat 8 (code.toNat % 256) := by
  unfold State.refuseImage State.endSave State.pushFw State.fwQueue
  dsimp only
  rw [State.errorRecord_fw, Sparse.get_set_self]
  exact ⟨_, rfl, rfl⟩

end Sys2Proof.Machine

namespace Sys2Proof.Claims

open Sys2Proof.Machine

/-- Refutes O48: `execRestoreDone` compares the lines and the length of a header with the group in its first check, which refuses
with 0x0901 (status 1); the statement leaves `ImageHead.fits` out of that check and expects 0x0404 (status 4) of a sealed image without a
seal entry. The image on `restoringChip` is both. -/
theorem not_commandsAndSavesEnd : ¬ Obligations.CommandsAndSavesEnd := by
  unfold Obligations.CommandsAndSavesEnd
  rintro ⟨-, hsaves⟩
  obtain ⟨-, -, -, hrestore, -⟩ := hsaves restoringChip 1 hostRestore savedGroup (by decide) (by decide)
  obtain ⟨-, -, -, hchecks⟩ := hrestore rfl (by decide)
  obtain ⟨-, hunsealed, -⟩ := hchecks linelessHead rfl rfl parseHead_restoringChip
  obtain ⟨t, hexec, ⟨-, e, hqueue, -, -, hstatus, -⟩, -⟩ := hunsealed (by decide) rfl rfl
  obtain rfl : t = restoringChip.refuseImage hostRestore savedGroup 0x0901 := by
    rw [restoreDone_restoringChip] at hexec
    exact (Host.Outcome.next.inj hexec).symm
  obtain ⟨e', hqueue', hstatus'⟩ := restoringChip.fwQueue_refuseImage hostRestore savedGroup 0x0901
  rw [hqueue'] at hqueue
  obtain rfl : e' = e := by simpa using hqueue
  rw [hstatus'] at hstatus
  exact absurd hstatus (by decide)

end Sys2Proof.Claims

/-! PROOFS. A translation that finds its leaf: what a granted one changes. -/

namespace Sys2Proof.Machine

/-! ### The check of a line of another chip's grant map -/

theorem State.useGrant_eq (s : State) (q : Requester) (ptag : BitVec 20) :
    s.useGrant q ptag = { s with mem := { s.mem with grants := (s.useGrant q ptag).mem.grants } } := by
  unfold State.useGrant
  split <;> rfl

/-- Marking a line as used leaves what it answers. -/
theorem State.grantRead_useGrant (s : State) (q : Requester) (ptag : BitVec 20) :
    ((s.useGrant q ptag).grantRead q ptag).bind GrantRead.answer = (s.grantRead q ptag).bind GrantRead.answer := by
  unfold State.useGrant State.grantRead
  split
  · rfl
  · dsimp only
    induction s.mem.grants with
    | nil => rfl
    | cons r rs ih =>
      by_cases hr : r.covers q ptag = true
      · have hused : ({ r with used := true } : GrantRead).covers q ptag = true := hr
        simp [hr, hused]
      · simpa [hr] using ih

theorem State.levee_useGrant (s : State) (q : Requester) (ptag : BitVec 20) :
    (s.useGrant q ptag).levee q ptag = s.levee q ptag := by
  have hread := s.grantRead_useGrant q ptag
  unfold State.levee
  rw [hread, s.useGrant_eq q ptag]
  rfl

/-- A PTAG that the Levee grants does not wait for another chip's grant map. -/
theorem State.grantUnknown_of_levee {s : State} {q : Requester} {ptag : BitVec 20} (h : s.levee q ptag = true) :
    s.grantUnknown q ptag = false := by
  rw [Bool.eq_false_iff]
  intro hu
  unfold State.grantUnknown at hu
  obtain ⟨haway, hnone⟩ := Bool.and_eq_true_iff.mp hu
  unfold State.grantAway at haway
  simp only [Bool.and_eq_true, bne_iff_ne, ne_eq, Bool.not_eq_true'] at haway
  obtain ⟨⟨⟨⟨hchecked, hptag⟩, husable⟩, hhome⟩, hline⟩ := haway
  rw [Option.isNone_iff_eq_none] at hnone
  exact hptag (by simpa [State.levee, hchecked, husable, hhome, hline, hnone] using h)

/-! ### The outcome past the leaf -/

/-- The leaf of a granted access: accessed, and dirty when the access writes. -/
def takenLeaf (w : W64) (writes : Bool) : W64 := w ||| (1#64 <<< 60) ||| (if writes then 1#64 <<< 61 else 0)

/-- The table entry that names it takes these bits. -/
def State.markLeaf (s : State) (key : Nat) (w : W64) (writes : Bool) : State :=
  { s with mem := { s.mem with tables := Sparse.set 0 s.mem.tables key (takenLeaf w writes) } }

/-- What a granted access does to memory: its check is used, the leaf is marked, and a write binds the frame. -/
def State.granted (s : State) (q : Requester) (key : Nat) (w : W64) (writes : Bool) (t : ObjEntry) : State :=
  if writes then ((s.useGrant q (leafPtag w)).markLeaf key w writes).bindFrame w t
  else (s.useGrant q (leafPtag w)).markLeaf key w writes

/-- Past the table and the leaf, an access that the Levee grants, and that nothing else refuses, goes through. -/
theorem State.translate_of_granted {s : State} {q : Requester} {o : BitVec 28} {off key : Nat} {w : W64} {writes : Bool}
    (hdie : s.dieRuns (homeDie o) = true) (hvalid : (s.objEntry o).valid = true) (hlast : off ≤ (s.objEntry o).last)
    (hwalk : s.walk (s.objEntry o).root off = .leaf key w) (hform : leafMalformed w (homeSlice o (off / 65536)) = false)
    (hcrypto : s.cryptoFault w (s.objEntry o) = none) (hpub : (s.objEntry o).publishing = false)
    (hl : s.levee q (leafPtag w) = true) (hbusy : ((s.objEntry o).isContext && s.contextBusy o q writes) = false)
    (hwp : (writes && leafProtected w) = false) (htier : s.tierReached (leafFrame w) = true) :
    s.translate q o off writes false = (s.granted q key w writes (s.objEntry o), .ok (takenLeaf w writes) (s.objEntry o)) := by
  have hu := State.grantUnknown_of_levee hl
  have hbusy' : ((s.objEntry o).isContext && (s.useGrant q (leafPtag w)).contextBusy o q writes) = false := by
    rw [s.useGrant_eq]
    exact hbusy
  have htier' : (s.useGrant q (leafPtag w)).tierReached (leafFrame w) = true := by
    rw [s.useGrant_eq]
    exact htier
  unfold State.translate State.findLeaf
  simp only [hdie, hvalid, hwalk, hform, hcrypto, hpub, hu, hl, State.levee_useGrant, hbusy', hwp, htier', Bool.not_true,
    Bool.false_eq_true, if_false, Bool.false_or, decide_eq_true_eq, Nat.not_lt.mpr hlast]
  rfl

end Sys2Proof.Machine

/-! PROOFS. Fences, prefetches and YIELDC (O23). -/

namespace Sys2Proof.Machine

/-! ### A page that a prefetch may read -/

/-- The leaf of a page that is readable without the Levee, with what its translation checks. -/
theorem State.leaf_of_plainPage {s : State} {o : BitVec 28} {off : Nat} {w : W64} {t : ObjEntry}
    (h : s.plainPage o off = some (w, t)) :
    t = s.objEntry o ∧ s.dieRuns (homeDie o) = true ∧ t.valid = true ∧ off ≤ t.last
      ∧ leafMalformed w (homeSlice o (off / 65536)) = false ∧ s.cryptoFault w t = none ∧ s.tierReached (leafFrame w) = true
      ∧ ∃ key, s.walk t.root off = .leaf key w := by
  unfold State.plainPage at h
  dsimp only at h
  split at h
  · cases h
  · next hentry =>
    split at h
    · next key w' hwalk =>
      split at h
      · cases h
      · next hleaf =>
        cases h
        simp only [Bool.or_eq_true, Bool.not_eq_true', decide_eq_true_eq, not_or, Bool.not_eq_false, Nat.not_lt] at hentry
        simp only [Bool.or_eq_true, Bool.not_eq_true', not_or, Bool.not_eq_true, Bool.not_eq_false] at hleaf
        obtain ⟨⟨hvalid, hlast⟩, hdie⟩ := hentry
        obtain ⟨⟨hform, hcrypto⟩, htier⟩ := hleaf
        exact ⟨rfl, hdie, hvalid, hlast, hform, by simpa using hcrypto, htier, key, hwalk⟩
    · cases h

/-- A page that may be prefetched is translated, and the leaf is all that its translation writes. -/
theorem State.translate_of_prefetchable {s : State} {q : Requester} {o : BitVec 28} {off : Nat}
    (h : s.prefetchable q o off = true) :
    ∃ key w, s.translate q o off false false
      = (s.granted q key w false (s.objEntry o), .ok (takenLeaf w false) (s.objEntry o)) := by
  unfold State.prefetchable at h
  split at h
  · cases h
  · next w t hpage =>
    simp only [Bool.and_eq_true, Bool.not_eq_true'] at h
    obtain ⟨⟨hlevee, hpub⟩, hbusy⟩ := h
    obtain ⟨rfl, hdie, hvalid, hlast, hform, hcrypto, htier, key, hwalk⟩ := State.leaf_of_plainPage hpage
    exact ⟨key, w, State.translate_of_granted hdie hvalid hlast hwalk hform hcrypto hpub hlevee hbusy rfl htier⟩

theorem State.quiet_granted (s : State) (q : Requester) (key : Nat) (w : W64) (t : ObjEntry) :
    s.Quiet (s.granted q key w false t) := by
  rw [State.granted, if_neg Bool.false_ne_true, s.useGrant_eq]
  exact .of_mem rfl rfl rfl rfl rfl id

theorem State.quiet_refusePrefetch (s : State) (q : Requester) (o : BitVec 28) (off : Nat) :
    s.Quiet (s.refusePrefetch q o off) := by
  unfold State.refusePrefetch
  dsimp only
  split
  · exact .refl s
  · split
    · split
      · exact .refl s
      · split
        · exact s.quiet_errorRecord _ _ _ _ _
        · exact .refl s
    · exact .refl s

/-- A readable page is not refused. -/
theorem State.refusePrefetch_of_plainPage {s : State} {o : BitVec 28} {off : Nat} {w : W64} {t : ObjEntry} (q : Requester)
    (h : s.plainPage o off = some (w, t)) : s.refusePrefetch q o off = s := by
  obtain ⟨rfl, -, -, -, hform, hcrypto, -, key, hwalk⟩ := State.leaf_of_plainPage h
  simp [State.refusePrefetch, hwalk, hform, hcrypto]

theorem State.block_refusePrefetch (s : State) (q : Requester) (o : BitVec 28) (off k : Nat) :
    (s.refusePrefetch q o off).block k = s.block k := by
  have herr (die unit : Nat) (code : BitVec 16) (severity : Nat) (detail : List Byte) :
      (s.errorRecord die unit code severity detail).block k = s.block k := by simp [State.block]
  unfold State.refusePrefetch
  dsimp only
  split
  · rfl
  · split
    · split
      · rfl
      · split
        · exact herr _ _ _ _ _
        · rfl
    · rfl

/-! ### A line that comes into the stash -/

/-- Host lines of a region's line are cached, and its other stash copies are recalled. -/
def State.bringLine (s : State) (blk line : Nat) (r : Region) (leaf : W64) (t : ObjEntry) : State :=
  s.reach r.cap.object (r.objectOff (128 * line)) 128 leaf t false (some (blk, line))

/-- A line that was brought in for a read. -/
def loadedLine (q : Requester) (leaf : W64) : StashLine := { dirty := false, ptag := leafPtag leaf, filler := q.group }

/-- The block that takes it. -/
def State.loadedBlock (s : State) (b : Block) (blk line : Nat) (r : Region) (q : Requester) (leaf : W64) : Block :=
  s.loadLine ((s.block blk).getD b) line (leafFrame leaf) (r.objectOff (128 * line) % 65536) (loadedLine q leaf)

theorem State.lines_loadedBlock (s : State) (b : Block) (blk line : Nat) (r : Region) (q : Requester) (leaf : W64) :
    Sparse.get none (s.loadedBlock b blk line r q leaf).lines line = some (loadedLine q leaf) := by
  unfold State.loadedBlock State.loadLine
  dsimp only
  rw [Sparse.get_set_self]

section
variable {s : State} {blk line : Nat} {r : Region} {q : Requester} {b : Block} (hb : s.block blk = some b)
  (habsent : Sparse.get none b.lines line = none)
  (hpage : s.prefetchable q r.cap.object (r.objectOff (128 * line)) = true)
include hb habsent hpage

/-- An absent line of a page that may be prefetched: it stays away while the miss queue is full, else it is loaded. -/
theorem State.fillLine_of_absent (low : Nat) : ∃ (t : State) (k : Block) (l : StashLine), s.Quiet t
    ∧ Sparse.get none k.lines line = some l
    ∧ s.fillLine blk line r q false low = if !q.again && s.missFull (homeSlice r.cap.object (r.objectOff (128 * line) / 65536)) then
        (s, 0xFF, false) else (t.putBlock blk k, 0, false) := by
  obtain ⟨key, w, htranslate⟩ := State.translate_of_prefetchable hpage
  have hquiet : s.Quiet ((s.granted q key w false (s.objEntry r.cap.object)).bringLine blk line r (takenLeaf w false)
      (s.objEntry r.cap.object)) := (s.quiet_granted q key w _).trans (State.quiet_reach _ _ _ _ _ _ _ _)
  have hline := ((s.granted q key w false (s.objEntry r.cap.object)).bringLine blk line r (takenLeaf w false)
    (s.objEntry r.cap.object)).lines_loadedBlock b blk line r q (takenLeaf w false)
  refine ⟨_, _, _, hquiet, hline, ?_⟩
  unfold State.fillLine
  simp only [hb, State.hitUnknown, State.hitDenied, State.useHit, Option.bind_some, habsent, Option.bind_none, Option.isSome_none,
    Bool.false_and, Bool.false_eq_true, if_false, htranslate]
  rfl

theorem State.quiet_fillLine (low : Nat) : s.Quiet (s.fillLine blk line r q false low).1 := by
  obtain ⟨t, k, l, hquiet, -, hfill⟩ := State.fillLine_of_absent hb habsent hpage low
  rw [hfill]
  split
  · exact .refl s
  · exact hquiet.trans (State.quiet_putBlock _ _ _)

end

/-! ### Prefetches -/

theorem State.quiet_prefetch (s : State) (g : Group) (c : Cap) (off : Nat) : s.Quiet (s.prefetch g c off) := by
  unfold State.prefetch
  dsimp only
  split
  · exact .refl s
  · split
    · split
      · exact .refl s
      · refine (s.quiet_refusePrefetch (s.groupReq s.cursor.group g 7) c.object ((c.base.toNat + off) / 128 * 128)).trans ?_
        split
        · next hpage =>
          obtain ⟨key, w, htranslate⟩ := State.translate_of_prefetchable (Bool.and_eq_true_iff.mp hpage).1
          rw [htranslate]
          exact (State.quiet_granted _ _ _ _ _).trans (State.quiet_reach _ _ _ _ _ _ _ _)
        · exact .refl _
    · split
      · exact .refl s
      · split
        · exact .refl s
        · next r hr =>
          split
          · exact .refl s
          · next hfill =>
            have hquiet := s.quiet_refusePrefetch (s.groupReq s.cursor.group g 7) r.cap.object
              (r.objectOff (128 * ((c.base.toNat + off) / 128)))
            refine hquiet.trans ?_
            split
            · next hpage =>
              obtain ⟨b, hb, -⟩ := Option.bind_eq_some_iff.mp hr
              have habsent : Sparse.get none b.lines ((c.base.toNat + off) / 128) = none := by
                simp only [hb, Bool.or_eq_true, not_or] at hfill
                simpa using hfill.2
              exact State.quiet_fillLine ((State.block_refusePrefetch _ _ _ _ _).trans hb) habsent hpage _
            · exact .refl _

/-- A lane that names an absent line of a region, whose page may be prefetched, brings the line in. -/
theorem State.prefetch_brings_line {s : State} {g : Group} {c : Cap} {off : Nat} {b : Block} {r : Region} {w : W64} {e : ObjEntry}
    (htag : c.tag = true) (hright : c.has rR = true) (hstash : c.isStash = true) (hlen : off < c.length.toNat)
    (halloc : c.base.toNat + off < b.alloc) (hb : s.block g.block = some b) (hr : b.regionAt (c.base.toNat + off) = some r)
    (hhome : r.cap.home = s.fab.self) (habsent : Sparse.get none b.lines ((c.base.toNat + off) / 128) = none)
    (hplain : s.plainPage r.cap.object (r.objectOff (128 * ((c.base.toNat + off) / 128))) = some (w, e))
    (hlevee : s.levee (s.groupReq s.cursor.group g 7) (leafPtag w) = true) (hpub : e.publishing = false)
    (hctx : e.isContext = false)
    (hroom : s.missFull (homeSlice r.cap.object (r.objectOff (128 * ((c.base.toNat + off) / 128)) / 65536)) = false) :
    ∃ (k : Block) (l : StashLine), (s.prefetch g c off).block g.block = some k
      ∧ Sparse.get none k.lines ((c.base.toNat + off) / 128) = some l := by
  have hpage : s.prefetchable (s.groupReq s.cursor.group g 7) r.cap.object
      (r.objectOff (128 * ((c.base.toNat + off) / 128))) = true := by
    simp [State.prefetchable, hplain, hlevee, hpub, hctx]
  obtain ⟨t, k, l, -, hline, hfill⟩ := State.fillLine_of_absent hb habsent hpage (128 * ((c.base.toNat + off) / 128))
  rw [hroom, Bool.and_false, if_neg Bool.false_ne_true] at hfill
  refine ⟨k, l, ?_, hline⟩
  have hprefetch : s.prefetch g c off = t.putBlock g.block k := by
    unfold State.prefetch
    have hlen' : ¬ c.length.toNat < off + 1 := by omega
    have halloc' : ¬ b.alloc ≤ c.base.toNat + off := by omega
    simp only [htag, hright, hstash, State.allocOf, hb, Option.map_some, Option.getD_some, Option.bind_some, hr, hhome, habsent,
      hlen', halloc', State.refusePrefetch_of_plainPage _ hplain, hpage, hfill, Bool.not_true, Bool.false_or, decide_false,
      Bool.false_eq_true, if_false, bne_self_eq_false, Option.isSome_none, if_true]
  rw [hprefetch]
  exact State.block_putBlock_self _ _ _

/-! ### The discard of an acquire at system scope -/

theorem MemState.hostCached_discardHost (m : MemState) (ctx : BitVec 20) (k : Nat) :
    Sparse.get none (m.discardHost ctx).hostCached k ≠ some ctx := by
  show Sparse.get none (m.hostCached.filter fun e => e.2 != some ctx) k ≠ some ctx
  induction m.hostCached with
  | nil => simp
  | cons e l ih =>
    rw [List.filter_cons]
    split
    · next he =>
      rw [Sparse.get_cons]
      split
      · simpa using he
      · exact ih
    · exact ih

theorem MemState.hostNew_discardHost {m : MemState} {ctx : BitVec 20} {e : Nat × Option Byte}
    (h : e ∈ (m.discardHost ctx).hostNew) :
    Sparse.get none m.hostCached (e.1 / 128) ≠ some ctx := by
  have hfilter : (!(Sparse.get none m.hostCached (e.1 / 128) == some ctx)) = true := (List.mem_filter.mp h).2
  simpa using hfilter

theorem MemState.bytes_discardHost_of_ne {m : MemState} {ctx : BitVec 20} {k : Nat}
    (h : Sparse.get none m.hostCached (k / 128) ≠ some ctx) :
    Sparse.get 0 (m.discardHost ctx).bytes k = Sparse.get 0 m.bytes k := by
  refine Sparse.get_setAll_of_not_mem _ _ _ _ fun e he hk => ?_
  obtain ⟨x, -, hx⟩ := List.mem_filterMap.mp he
  split at hx
  · next hmine =>
    obtain ⟨b, -, rfl⟩ := Option.map_eq_some_iff.mp hx
    dsimp only at hk
    subst hk
    exact h (by simpa using hmine)
  · cases hx

theorem MemState.bytes_discardHost_of_eq {m : MemState} {ctx : BitVec 20} {k : Nat} {b : Byte}
    (h : Sparse.get none m.hostCached (k / 128) = some ctx) (hmem : (k, some b) ∈ m.hostNew)
    (hone : ∀ b', (k, some b') ∈ m.hostNew → b' = b) : Sparse.get 0 (m.discardHost ctx).bytes k = b := by
  refine Sparse.get_setAll_of_agree _ _ _ _ _ (fun e he hk => ?_) ⟨(k, b), ?_, rfl⟩
  · obtain ⟨⟨n, x⟩, hx, hmine⟩ := List.mem_filterMap.mp he
    split at hmine
    · obtain ⟨b', rfl, rfl⟩ := Option.map_eq_some_iff.mp hmine
      dsimp only at hk
      subst hk
      exact hone b' hx
    · cases hmine
  · refine List.mem_filterMap.mpr ⟨(k, some b), hmem, ?_⟩
    simp [h]

end Sys2Proof.Machine

namespace Sys2Proof.Claims

open Sys2Proof.Machine

/-- A fence goes on. -/
theorem fences_hold {s : State} {g : Group} (y : Bool) (hi : Issues s g) {i : Instr} (h : i ∈ fences y) :
    exec i s = .next (after s y g) := by
  have hfence : s.fence y = .next (after s y g) := State.issue_of_group _ hi.1
  simp only [fences, List.mem_cons, List.not_mem_nil, or_false] at h
  rcases h with rfl | rfl | rfl | rfl | rfl | rfl | rfl | rfl | rfl | rfl | rfl | rfl | rfl <;> exact hfence

/-- Settles O23: a fence goes on, at system scope after the discard of `MemState.discardHost`; a prefetch only translates a page
that the Levee grants, so what it does is a `Quiet` change, and one that fills an absent line loads it. -/
theorem fencesHintsAndYield : Obligations.FencesHintsAndYield := by
  unfold Obligations.FencesHintsAndYield
  refine ⟨fun s g y hi => ⟨fun i h => fences_hold y hi h, fun i h => ?_⟩, fun s g y a b hi hwin => ?_, fun s g y hi hnone => ?_⟩
  · have hfence : s.fenceSys y = .next (after (s.discardHost g.ctx) y g) := State.issue_of_group _ hi.1
    refine ⟨s.discardHost g.ctx, ?_, rfl, MemState.hostCached_discardHost s.mem g.ctx, fun e he => MemState.hostNew_discardHost he,
      fun k hk => MemState.bytes_discardHost_of_ne hk, fun k b hk hmem hone => MemState.bytes_discardHost_of_eq hk hmem hone⟩
    simp only [List.mem_cons, List.not_mem_nil, or_false] at h
    rcases h with rfl | rfl <;> exact hfence
  · have hquiet := foldl_quiet (fun s l => State.quiet_prefetch s g (g.rc a.toNat) (g.rv b.toNat l).toNat)
      (g.active s.cursor.slices) s
    refine ⟨_, ?_, hquiet.groups, hquiet.cursor, hquiet.trust, hquiet.host, fun h => (hquiet.firmware h).2,
      fun l k r w e hone => ?_⟩
    · rw [exec_pref, execPref, State.issue_of_group _ hi.1, State.need, if_pos hwin, State.retire]
      simp only [hquiet.cursor]
    · rw [hone]
      exact State.prefetch_brings_line
  · rw [exec_yieldc, execYieldc, State.issue_of_group _ hi.1, hnone]
    rfl

end Sys2Proof.Claims

/-! PROOFS. Accesses and their bytes (O24): a load that passes on repeat writes an error record. -/

namespace Sys2Proof.Machine

open Claims

/-- The group of `sSerial`, whose load at its PC is repeated after a mismatch. -/
def repeatingGroup : Group := { gSerial with repeating := [(0x40, true)] }

/-- The machine of `sSerial` with that group. -/
def repeatingChip : State := { sSerial with groups := [(1, some repeatingGroup)] }

/-- The head of the error ring after a step. -/
def errHeadAfter (r : Res) : Option W64 :=
  match r with
  | .next t => some t.host.errHead
  | _ => none

theorem errHeadAfter_putGroup (t : State) (h : Nat) (g : Group) :
    errHeadAfter (.next (t.putGroup h g)) = some t.host.errHead := by
  rw [errHeadAfter, State.putGroup_host]

/-- The load passes, which the ring records. -/
theorem errHeadAfter_scalarLoad : errHeadAfter (exec (.sldN false 2 6 0 20) repeatingChip) = some 1 := by decide

/-- The translation of the load's address. -/
def loadTranslation : State × Verdict :=
  (repeatingChip.freshGrants repeatingGroup.grant.home repeatingGroup.grant.object).translate
    (repeatingChip.groupReq 1 repeatingGroup 0) 5 8 false false

theorem loadTranslation_verdict : loadTranslation.2 = .ok 0x9000000000000005 (repeatingChip.objEntry 5) := by decide

theorem loadTranslation_groups : loadTranslation.1.groups = repeatingChip.groups := by
  rw [loadTranslation, (State.lineWork_translate _ _ _ _ _ _).groups, State.freshGrants_eq]

end Sys2Proof.Machine

namespace Sys2Proof.Claims

open Sys2Proof.Machine

/-- Refutes O24: an accepted access at a PC that the group repeats writes its TRANSIENT record (13 R236), so the host's error ring
is not that of the translated state, as the statement has it. On `repeatingChip` an SLD.N passes on repeat. -/
theorem not_accessesReachTheirBytes : ¬ Obligations.AccessesReachTheirBytes := by
  unfold Obligations.AccessesReachTheirBytes
  rintro ⟨-, -, -, hload⟩
  obtain ⟨u, g', hexec, -, -, hhost, -⟩ := hload repeatingChip loadTranslation.1 repeatingGroup false 2 6 0 20 0x9000000000000005
    (repeatingChip.objEntry 5) ⟨rfl, by decide, by decide⟩ (by unfold PlainHere; decide) (Prod.ext rfl loadTranslation_verdict)
    (by decide) (by decide) loadTranslation_groups (by decide) (by decide)
  have hhead := errHeadAfter_scalarLoad
  rw [hexec, errHeadAfter_putGroup, hhost] at hhead
  exact absurd hhead (by decide)

end Sys2Proof.Claims
